-- ==== Sys2Proof/Word.lean ====
section
/-! DEFINITION. The word types of the block and the sparse table that holds indexed state. -/
namespace Sys2Proof

/-- A register word: registers are 32 bits wide (spec/00_scope.md, Register access). -/
abbrev Word := BitVec 32
/-- One byte of a frame, descriptor or record. -/
abbrev Byte := BitVec 8
/-- Indexed state as data: (index, value) pairs, indexes strictly rising, no entry equal to what
an unlisted index reads as (the default is given to every operation on the table). -/
abbrev Tab (α : Type) := List (Nat × α)

end Sys2Proof
end

