-- ==== Sys2Proof/Types/Base.lean ====
section
/-! DEFINITION. Shared plain data types: grades, modes, register descriptors, crossing facts. -/
namespace Sys2Proof

/-- The two grades fused on one silicon (R1, Table 0.1). -/
inductive Grade where
  | l | s
deriving DecidableEq, Repr

/-- The eight major modes (R403, Table 14.1). -/
inductive Mode where
  | dormant | boot | survey | serve | holdover | standby | snapshot | maintain
deriving DecidableEq, Repr

/-- Access codes of register fields (R7, Table 0.3). -/
inductive Acc where
  | rw | ro | wo | w1c | w1s | snap
deriving DecidableEq, Repr

/-- One field of a register: bits [hi:lo], its access code, and the encodings that are not reserved. -/
structure Fld where
  hi : Nat
  lo : Nat
  acc : Acc
  min : Nat
  max : Nat
deriving DecidableEq, Repr

/-- One register of the map, or an array of them: the address of element (i, j) is
`base + i * stride + j * step`; `countS` elements of the first index exist on the LTX-960S. -/
structure RegDesc where
  base : Nat
  stride : Nat
  count : Nat
  countS : Nat
  step : Nat
  inner : Nat
  reset : Word
  /-- the configuration set of Table 14.8, if the register belongs to one -/
  set : Option Nat
  flds : List Fld
deriving DecidableEq, Repr

/-- What a power domain shows in CRP_PWR_STATUS (R412). -/
inductive PdState where
  | off | ramping | on | isolated
deriving DecidableEq, Repr

end Sys2Proof
end

