-- ==== Sys2Proof/Types/Host.lean ====
section
/-! DEFINITION. Data of the host interface (chapter 12), the performance counters (chapter 16) and the
record of what the device sends out of itself. -/
namespace Sys2Proof

/-- What the device emits, newest first, in the bytes and values the spec gives. The list is the
model's own record of the device's outputs (assumption 9): the device never reads it. -/
inductive Output where
  /-- a 64-byte entry written into a ring in host memory (R353) -/
  | ringEntry (ring addr : Nat) (bytes : List Byte)
  /-- a record written to the receive buffer of an entry (R366) -/
  | ringBuffer (ring addr : Nat) (bytes : List Byte)
  /-- the device index word of a ring, written at its address (R355) -/
  | ringIndex (ring addr value : Nat)
  /-- an MSI-X message (R370) -/
  | msix (vector : Nat)
  /-- a frame whose first byte goes on the wire of a port -/
  | frame (port : Nat) (bytes : List Byte)
  /-- an 802.3x pause frame of a port, with its quanta (R144) -/
  | pause (port quanta : Nat)
  /-- a received frame given to the time core with its t_rx in ns, and the completion of a PTP frame of the time core: its
  status and its timestamp in 2⁻³² ns (R139, R142) -/
  | timeCore (port : Nat) (tRx : Int) (frame : List Byte)
  | ptpDone (port status : Nat) (tTx : Option Nat)
  /-- the pause abilities that a port advertises: symmetric (PAUSE) and asymmetric (ASM_DIR) (R138) -/
  | advertise (port : Nat) (pause asmDir : Bool)
  /-- a pulse of SYSREF_OUT_n (R42) -/
  | sysref (n : Nat)
  /-- a pulse of PPS_OUT_n: its level (CFG.POL) and its width in µs (R316) -/
  | pps (n : Nat) (high : Bool) (widthUs : Nat)
  /-- an edge of TP_k, to a high or a low level (R317) -/
  | tp (k : Nat) (high : Bool)
  /-- a Pulsar heartbeat on path A and the 64-bit burst of path B (R323, R325) -/
  | heartbeat (bytes : List Byte)
  | burst (bits : Nat)
  /-- a mirror record by its number (its contents stand in State), and an acknowledgement of one (R331, R332) -/
  | mirror (number : Nat)
  | mirrorAck (number : Nat)
  /-- other records sent over the PAIR link (R342, R423) -/
  | pair (kind : Nat) (body : List Byte)
  /-- a level driven on CLAIM_N (0), ACTIVE_OUT (1) or PMU_EN (2) -/
  | pin (name : Nat) (level : Bool)
  /-- a dump of a context delivered to its loop core, 64 bytes (R67) -/
  | dump (core : Nat) (bytes : List Byte)
  /-- the counter-overflow interrupt of a Noquel core (R478) -/
  | coreIrq (core : Nat)
  /-- the device reads host memory: the address and the length of an image, a ring's entry, an indirect body or a frame (R209, R353,
  R358, R364) -/
  | fetch (addr len : Nat)
  /-- a result written at an address in DRAM or host memory (R93) -/
  | dma (addr : Nat) (bytes : List Byte)
deriving DecidableEq, Repr

/-- One event group's registers: PENDING, ENABLE, ROUTE, COUNT; for each source the device time
(2⁻³² ns) of the raise that set its pending bit, and PENDING just after it (R368, R369, Table 12.13). -/
structure EvGroup where
  pending : Word
  enable : Word
  route : Word
  count : Word
  at_ : Tab (Nat × Word)
deriving DecidableEq, Repr

/-- State of a ring (HIF_RING_r_STATE). -/
inductive RingState where
  | disabled | run | error
deriving DecidableEq, Repr

/-- A ring's registers and run state (R352 to R356). `owed` counts completions owed to a completion
ring (R360); `held` are completions and index writes held while DMA is not allowed (R349);
`seq` counts the records or event entries formed for the ring (R366, Table 12.13). -/
structure Ring where
  cfg : Word
  baseLo : Word
  baseHi : Word
  idxLo : Word
  idxHi : Word
  dataLo : Word
  dataHi : Word
  dataCfg : Word
  state : RingState
  err : Nat
  dev : Nat
  host : Nat
  drop : Nat
  seq : Nat
  owed : Nat
  held : List (List Byte)
  /-- a command entry taken whose completion room stands reserved; it waits for intake (R253) -/
  waiting : Bool
deriving DecidableEq, Repr

/-- An MSI-X vector: its table words, the moderation interval, whether a message was sent within it,
whether a trigger is held, its pending-array bit, and the device time of its last message (R370). -/
structure Vec where
  addrLo : Word
  addrHi : Word
  data : Word
  masked : Bool
  minUs : Nat
  holding : Bool
  again : Bool
  pba : Bool
  sentAt : Nat
deriving DecidableEq, Repr

/-- One performance counter: its event, IRQ_EN, 48-bit count, captured count and staged low word
(R476 to R481). -/
structure PCtr where
  event : Nat
  irqEn : Bool
  count : BitVec 48
  capt : BitVec 48
  low : Word
deriving DecidableEq, Repr

/-- The command that a completion answers: opcode, ring, its completion ring, CMD_TAG, CMD_INDEX, QUIET
and flow (Tables 12.4 and 12.9). `dead`: a reset of region HOST has discarded the completion (R348). -/
structure Cmd where
  opcode : Nat
  ring : Nat
  cpl : Nat
  tag : Nat
  index : Nat
  quiet : Bool
  flow : Nat
  dead : Bool
deriving DecidableEq, Repr

/-- How a host write reaches the device: its byte enables (R351), the bits of the register that hardware sets in the same cycle (R9),
and whether a carry into or out of the counter that it writes falls in that cycle (R481; assumption 237). -/
structure WriteCycle where
  be : Nat
  set : Word
  carry : Bool
deriving DecidableEq, Repr

/-- A write of PRF_k_HI: the word, and whether a carry into or out of the counter falls in the same cycle (R481). -/
structure CtrWrite where
  word : Word
  carry : Bool
deriving DecidableEq, Repr

/-- What the host writes to mask or unmask: a vector's mask is cleared, or the function mask is written (R370). -/
inductive MsixWrite where
  | vector (v : Nat)
  | function (mask : Bool)
deriving DecidableEq, Repr

/-- Everything an indication of the device can touch: the event groups, sticky registers by address,
rings, vectors, counters and the output record. -/
structure Io where
  evt : Tab EvGroup
  stk : Tab Word
  ring : Tab Ring
  vec : Tab Vec
  /-- LINK_UP, SPEED, WIDTH of the PCIe link (HIF_STATUS) -/
  linkUp : Bool
  speed : Nat
  width : Nat
  /-- R349 applies: no DMA and no message -/
  dmaHeld : Bool
  /-- the MSI-X function mask (R370) -/
  fnMask : Bool
  /-- the PCIe PLL has lost its lock and region HOST has not been reset since: device writes to host memory fail (R374, R381; assumption
  235) -/
  lost : Bool
  /-- results not written yet for that reason, by address, oldest first (R349, assumption 193) -/
  dmaWait : List (Nat × List Byte)
  /-- performance counters, PRF_CTL's APP_EN and FREEZE -/
  ctr : Tab PCtr
  appEn : BitVec 4
  frozen : Bool
  out : List Output
deriving DecidableEq, Repr

/-- The plain registers: active values by address, shadow values of the configuration sets (R418),
low words that wait for their high word (R12), captured high words (R11). -/
structure Bank where
  regs : Tab Word
  shadow : Tab Word
  low : Tab Word
  capt : Tab Word
deriving DecidableEq, Repr

end Sys2Proof
end

