-- ==== Sys2Proof/Types/Cor.lean ====
section
/-! DEFINITION. Data of antenna ingress, signal tracking, acquisition and snapshots (chapters 2 and 3). -/
namespace Sys2Proof

/-- State of an ingress link (ING_n_STATUS.STATE). -/
inductive LinkState where
  | down | codeGroup | lane | data
deriving DecidableEq, Repr

/-- One antenna's ingress: the link, whether it waits for SYSREF (R43), the latency in force and the
one written and waiting with the millisecond it was written in (R45). -/
structure Ant where
  link : LinkState
  cdrLock : Bool
  aligned : Bool
  waitSysref : Bool
  /-- the link came up in subclass 0 (R47) -/
  nondet : Bool
  /-- the LMFC edge and the release of the elastic buffer (R43), in frames 0 to 31 of the SAMPLE clock's count: 5 TIME cycles
  each, 32 to a multiframe, frame 0 at TIME cycle 0 -/
  lmfc : Nat
  release : Nat
  /-- code errors in the multiframe `errMf` of TIME cycles (R50) -/
  errs : Nat
  errMf : Nat
  latency : Word
  pendLatency : Option (Word × Nat)
deriving DecidableEq, Repr

/-- Ingress: the antennas, the SYSREF schedule (second or period index of the last pulse), the
millisecond of the last CLIP load per antenna, whether the region is held in reset (R379) and whether
the bridge has been declared silent (R25). -/
structure Ing where
  ant : Tab Ant
  sysrefPend : Bool
  sysrefAt : Nat
  clipMs : Tab Nat
  held : Bool
  silent : Bool
  /-- the bridge runs on 8 lanes (R23) -/
  degraded : Bool
deriving DecidableEq, Repr

/-- State of a channel context (Table 2.7). -/
inductive CtxState where
  | idle | armed | run | quarantined
deriving DecidableEq, Repr

/-- What a boundary leaves for the observables (R117, R118): its instant in ns of device time, the dump's flags (Table 2.5; none
at the start of a run, where no dump ends), code A and B chip indices, the oscillators' phases and cycle count, and the rates in
force from there. -/
structure DumpMark where
  endNs : Nat
  flags : Option Nat
  idxA : Nat
  idxB : Nat
  codeNco : Nat
  carrCyc : Nat
  carrNco : Nat
  codeRate : Nat
  carrRate : Nat
deriving DecidableEq, Repr

/-- A channel context: the configuration latched at START, oscillators, integration and flags
(R53 to R73). -/
structure Ctx where
  state : CtxState
  cfg : Word
  aBase : Nat
  aLen : Nat
  bBase : Nat
  bLen : Nat
  chipsPerMs : Nat
  /-- the AT instant latched by START, in ns of device time, and the capture it replays -/
  at_ : Int
  cap : Option Nat
  codeRate : Nat
  carrRate : Nat
  /-- the pending buffer: rates, and how many rates in it were replaced since the last boundary (R69) -/
  pendCode : Option Nat
  pendCarr : Option Nat
  pendCount : Nat
  codeNco : Nat
  carrNco : Nat
  carrCyc : Nat
  idxA : Nat
  idxB : Nat
  /-- the next sample is the first: it does not advance the oscillators -/
  fresh : Bool
  /-- samples taken since START, for the capture time of a replay -/
  nsamp : Nat
  count : Nat
  acc : List Int
  bad : Bool
  gap : Bool
  /-- a dump was discarded at the loop core's queue: the next delivered carries GAP (R68) -/
  qgap : Bool
  sat : Bool
  ingressGap : Bool
  rateApplied : Bool
  rateMerged : Bool
  bbInvalid : Bool
  lateStart : Bool
  first : Bool
  latencyStep : Bool
  seq : Nat
  ended : Bool
  stopAt : Option Int
  /-- DUMP_SEQ of the last formed dump (COR_c_STATUS) -/
  lastSeq : Nat
  /-- boundaries, latest first: every one after the latest formation point and the one before it (R117) -/
  marks : List DumpMark
  /-- the instants in ns from which lock time counted (R119): every one after the latest formation point and the one before it -/
  locks : List Nat
  /-- none but the START of this run has set it -/
  lockStart : Bool
  /-- the numbers of the dumps missing of late, and when dump 0 of the run was found missing -/
  missed : List Nat
  missed0 : Option Nat
  /-- the instant of the first sample, in ns -/
  startNs : Nat
deriving DecidableEq, Repr

/-- A correlator unit: the time of its previous mismatch event (R77) and its pending dumps, each with
its channel, loop core and bytes (R18). -/
structure CorUnit where
  lastMismatch : Option Nat
  dumps : List (Nat × Nat × List Byte)
deriving DecidableEq, Repr

/-- A run of a channel that ended at an instant (ns), its context as it was then. -/
structure EndedRun where
  chan : Nat
  at_ : Nat
  ctx : Ctx
deriving DecidableEq, Repr

/-- The correlator regions: contexts by channel, units by global index, code memories in words of 32
chips at cluster × 2¹⁹ + word, and the loop-core dump queues. -/
structure Cor where
  ctx : Tab Ctx
  unit : Tab CorUnit
  code : Tab Word
  queue : Tab (List (Nat × List Byte))
  /-- live runs that ended of late, latest first, for the epochs not yet formed (R117) -/
  ended : List EndedRun
deriving DecidableEq, Repr

/-- A capture's directory entry (R83, R84): requested and stored antenna-bands, length in ms, start in
ms of device time, state as ACQ_CAP_LAST.STATE, LATE_START, a deferred release, and its age order. -/
structure Capture where
  mask : Nat
  lenMs : Nat
  startMs : Nat
  stored : Nat
  state : Nat
  late : Bool
  deferred : Bool
  order : Nat
  /-- the stored samples of antenna-band antenna × 4 + band, one byte each in the layout of R41 -/
  data : Tab (List Byte)
deriving DecidableEq, Repr

/-- A search descriptor (Table 3.1) and the host command that it answers, if any. -/
structure Search where
  tag : Nat
  source : Nat
  sel : Nat
  capture : Nat
  offsetUs : Nat
  codeBase : Nat
  codeLen : Nat
  chipRate : Nat
  centre : Nat
  binHz : Nat
  nbins : Nat
  nc : Nat
  resultAddr : Nat
  notAfter : Nat
  cmd : Option Cmd
deriving DecidableEq, Repr

/-- A base ephemeris (R101, R102): GNSS, satellite and signal ID, the fit interval [from, to) in seconds of device time, the
broadcast data, and the search for its signal: band index, COH, code, chip rate, the signal's offset from the band centre in 0.1 Hz,
bins, blocks, where the result goes. -/
structure SnapEph where
  gnss : Byte
  sat : Byte
  signal : Byte
  fromS : Nat
  toS : Nat
  data : List Byte
  band : BitVec 1
  coh : BitVec 3
  codeBase : BitVec 24
  codeLen : BitVec 21
  chipRate : Word
  offset : Word
  binHz : BitVec 16
  nbins : BitVec 10
  nc : Byte
  resultAddr : BitVec 64
deriving DecidableEq, Repr

/-- A rover snapshot in the store (R98 to R101): identity, fragments, declared capture start, and where
its answers go. -/
structure Snap where
  handle : Nat
  machine : Nat
  snapId : Nat
  frags : Nat
  got : List Nat
  /-- sample bytes received, each run with its offset (R162) -/
  parts : List (Nat × List Byte)
  firstAt : Nat
  startS : Nat
  startNs : Nat
  lenUs : Nat
  bands : Nat
  complete : Bool
  solving : Bool
  /-- generation of its frames, under which it is answered (R153) -/
  gen : Nat
  /-- IR_EXP and the class half width of the sets active at the start of its solve (R420) -/
  ir : Nat
  half : Nat
  /-- the position that its solve starts from (R101), in 0.1 mm -/
  prior : Int × Int × Int
  /-- the ephemerides that its solve searches for, and the results so far (R101) -/
  asked : List SnapEph
  results : List (List Byte)
  port : Nat
  srcPort : Nat
  srcAddr : List Byte
  seq : Nat
deriving DecidableEq, Repr

/-- What each antenna's lane carried in a capture's window, from two frames before it on. -/
structure WindowFrames where
  id : Nat
  frames : List (List (BitVec 37))
deriving DecidableEq, Repr

/-- Acquisition: captures, the age counter, the two descriptor FIFOs, the searches running on the four
pipelines, the staged ACQ_JOB words, ACQ code memory, the snapshot store by handle. -/
structure Acq where
  caps : Tab Capture
  orders : Nat
  fifo0 : List Search
  fifo1 : List Search
  pipe : Tab Search
  code : Tab Word
  snaps : Tab Snap
  handles : Nat
  /-- SNAPSHOT mode: the whole second of the next scheduled capture (R87) -/
  nextSnapS : Nat
  /-- the capture that ACQ_CAP_LAST shows -/
  lastCap : Option Nat
  /-- the last snapshot of each machine whose first fragment found no room (R98) -/
  refused : Tab Nat
deriving DecidableEq, Repr

end Sys2Proof
end

