-- ==== Sys2Proof/Types/Crp.lean ====
section
/-! DEFINITION. Data of clocks, resets, modes, power, start-up, OTP and image update (chapters 13 and 14). -/
namespace Sys2Proof

/-- What a Table 13.6 FIFO holds for the DROP rules of R394: packets waiting (sizes in the FIFO's
fill unit; `ended` false for a packet whose end mark is still to come), whether the reader is in the
middle of the first packet, and whether a DROP waits for the next packet. -/
structure Fifo where
  packets : List (Nat × Bool)
  midPacket : Bool
  dropNext : Bool
  dropping : Bool
deriving DecidableEq, Repr

/-- Clocks, resets, modes and power. -/
structure Crp where
  mode : Mode
  /-- the mode recorded for the return from HOLDOVER (CRP_MODE.PREV) -/
  prev : Mode
  bootSel : Nat
  recovery : Bool
  wake : Nat
  rstCause : Word
  flLock : Bool
  bbLock : Bool
  refOk : Bool
  netLock : BitVec 4
  netRef : BitVec 2
  pairLock : Bool
  pcieLock : Bool
  memLock : Bool
  nvLock : Bool
  /-- CRP_NET_RST's held sides and CRP_NET_HOLD (R400) -/
  macRst : BitVec 4
  fabRst : BitVec 4
  netHold : BitVec 4
  bothSeen : BitVec 4
  /-- region resets running, bit positions of CRP_RST_CMD (R397) -/
  inReset : BitVec 9
  /-- PD_0 to PD_14 at 0 to 14; sub-domains NET_0 to NET_3 at 16 to 19, PAIR at 20 -/
  pd : Tab PdState
  /-- a requested power-down of ACQ that waits for its running searches (R413) -/
  acqDownWaits : Bool
  /-- sets that wait to swap, and swaps completed (R419, R420) -/
  swapWait : BitVec 8
  swaps : BitVec 16
  fifo : Tab Fifo
  /-- the roles strapped and set for this start -/
  primary : Bool
  pairOp : Bool
  /-- BOOT has not completed; a tamper halted it at its step (R416) -/
  booting : Bool
  halted : Bool
  /-- when SNAPSHOT was entered (2⁻³² ns), and whether its domains are down yet -/
  snapAt : Option Nat
  snapDown : Bool
  pmuEn : Bool
  /-- stop cause 3 of Table 7.10 is in force -/
  tripStop : Bool
  /-- a brown-out holds the device in reset (R493) -/
  brown : Bool
deriving DecidableEq, Repr

/-- The facts of one image set (Table 14.9): header fields, the components as (TARGET, OFFSET, LENGTH),
SHA-384 of PUBKEY, whether SIG verifies under PUBKEY over the ranges of R422, whether all TOTAL_LEN bytes are there, and the bytes
themselves (none of the image that a device is shipped with, assumption 7). -/
structure Image where
  magic : Word
  format : Nat
  grades : Nat
  version : Word
  svn : Nat
  totalLen : Nat
  comps : List (Nat × Nat × Nat)
  keyDigest : BitVec 384
  sigOk : Bool
  whole : Bool
  bytes : List Byte
deriving DecidableEq, Repr

/-- State of STAGING (UPD_STATUS.STAGING). -/
inductive Staging where
  | empty | receiving | verified | invalid
deriving DecidableEq, Repr

/-- A staging session: its number, who holds it (1 host, 2 peer), TOTAL_LEN, the blocks received with their bytes, and
when the last block or the open came (R423). -/
structure Session where
  number : Nat
  source : Nat
  totalLen : Nat
  blocks : List (Nat × List Byte)
  last : Nat
deriving DecidableEq, Repr

/-- What PD_1's power-good finds: REF_IN present, and VBAT held since the main rails fell (R494). -/
structure Supply where
  refPresent : Bool
  vbatHeld : Bool
deriving DecidableEq, Repr

/-- The NV configuration store: present, its CRC good, and every set's registers by address; LATCH_ID and the ephemeris cache, which the
device writes (R421). -/
structure NvStore where
  valid : Bool
  regs : Tab Word
  latchId : Nat
  ephs : List SnapEph
deriving DecidableEq, Repr

/-- OTP, image slots, staging and the NV configuration store. -/
structure Upd where
  identity : BitVec 128
  lcField : BitVec 128
  floorBits : BitVec 1024
  /-- the floor in the VBAT counter shadow (R428) -/
  floorVbat : Nat
  bbLatOtp : Word
  /-- port latency defaults, 10G and 1G -/
  lat10G : Word
  lat1G : Word
  /-- the configuration generations programmed so far, lowest first, 1,024 bits each (R417, Table 14.7) -/
  gens : List (BitVec 1024)
  /-- the generation live at this start: 0 none -/
  liveGen : Nat
  imageKey : BitVec 384
  staging : Staging
  session : Option Session
  sessions : Nat
  armed : Bool
  confirmed : Bool
  failed : Nat
  fallbackValid : Bool
  push : Nat
  active : Option Image
  stagingImg : Option Image
  fallback : Option Image
  /-- activation journal: of the copy in progress, whether it falls back (R426) or activates (R425), and the block it has reached -/
  journal : Option (Bool × Nat)
  nv : NvStore
deriving DecidableEq, Repr

/-- What the PCIe endpoint presents (Table 12.1): vendor ID, device ID, class code, subsystem vendor and subsystem ID from OTP,
the size of BAR0, MSI-X vectors with the places of table and pending-bit array, and the serial number. -/
structure PcieIds where
  vendor : Nat
  device : Nat
  classCode : Nat
  subVendor : Nat
  subId : Nat
  bar0 : Nat
  vectors : Nat
  msixTable : Nat
  msixPba : Nat
  serial : BitVec 64
deriving DecidableEq, Repr

end Sys2Proof
end

