-- ==== Sys2Proof/Types/Net.lean ====
section
/-! DEFINITION. Data of the field link and of Nightfall (chapters 5 and 9). -/
namespace Sys2Proof

/-- Traffic of the transmit queues (Table 5.3). -/
inductive TxKind where
  | nightfall | ptp | grant | fix | release | task | ack | stream | host
deriving DecidableEq, Repr

/-- Transports of PTP messages (Table 10.4). -/
inductive PtpTransport where
  | ethernet | udp4 | udp6
deriving DecidableEq, Repr

/-- A message that the time core hands to a port (R311): transport, destination address, whether it is an event message,
whether its descriptor requests one-step, the message. -/
structure PtpSend where
  transport : PtpTransport
  dst : List Byte
  event : Bool
  oneStep : Bool
  message : List Byte
deriving DecidableEq, Repr

/-- A turn of a port's transmitter, with the messages that the time core hands over since the last. -/
structure PortTurn where
  port : Nat
  handed : List PtpSend
deriving DecidableEq, Repr

/-- What a port knows of a queued PTP frame: its descriptor, and where the message stands in the frame. -/
structure PtpMark where
  transport : PtpTransport
  event : Bool
  oneStep : Bool
  off : Nat
  len : Nat
deriving DecidableEq, Repr

/-- A queued frame: its kind, the frame's bytes from destination address to end of payload, its launch
time (2⁻³² ns), the machine and the number it answers for (GRANT_NO, REPEAT), and the NET_TX command
that it completes. -/
structure TxFrame where
  kind : TxKind
  bytes : List Byte
  launch : Option Int
  machine : Nat
  number : Nat
  cmd : Option Cmd
  /-- when the frame became the head of its queue (R319) -/
  headAt : Nat
  /-- the descriptor of a PTP frame -/
  ptp : Option PtpMark
deriving DecidableEq, Repr

/-- A PLP frame in the receive FIFO: source address (16 bytes) and port, the UDP payload, t_rx
(2⁻³² ns), when its last byte left the MAC, and the bytes that it occupies in the FIFO. -/
structure RxFrame where
  srcAddr : List Byte
  srcPort : Nat
  plp : List Byte
  tRx : Int
  endAt : Nat
  size : Nat
deriving DecidableEq, Repr

/-- A NET port: link, pause in force (since when, until when), XOFF, the receive FIFO, the six
transmit queues, the transmission in progress, the NIGHTFALL SEQ counter. -/
structure NetPort where
  link : Bool
  anDone : Bool
  pauseSince : Option Nat
  pauseEnd : Nat
  bypass : Bool
  xoff : Bool
  xoffAt : Nat
  fifo : List RxFrame
  q0 : List TxFrame
  q1 : List TxFrame
  q2 : List TxFrame
  q3 : List TxFrame
  q4 : List TxFrame
  q5 : List TxFrame
  tx : Option TxFrame
  txLate : Bool
  txStart : Nat
  nfSeq : Nat
deriving DecidableEq, Repr

/-- A machine table entry (Table 5.4). -/
structure MachEntry where
  gen : Nat
  learn : Bool
  strict : Bool
  dualAnt : Bool
  port : Nat
  cls : Nat
  slot : Nat
  slotValid : Bool
  key0 : Nat
  key1 : Nat
  txSel : Nat
  udpPort : Nat
  addr : List Byte
deriving DecidableEq, Repr

/-- The OBS epoch of a machine under reassembly (R161): epoch in ns, part count, the parts held as
(index, bytes), signals so far, when the first part came. -/
structure ObsAsm where
  epoch : Nat
  parts : Nat
  held : List (Nat × List Byte)
  nsig : Nat
  firstAt : Nat
deriving DecidableEq, Repr

/-- The last STATUS report of a machine (Table 5.15). -/
structure StatusRep where
  state : Nat
  cls : Nat
  surface : Nat
  flags : Nat
  aBrake : Nat
  tReact : Nat
  taskId : Nat
  grantNo : Nat
  time : Nat
deriving DecidableEq, Repr

/-- A machine: its table entry and what the field link keeps about it. -/
structure Mach where
  entry : MachEntry
  txSeq : Nat
  seqLast : Nat
  resetSeq : Bool
  obs : Option ObsAsm
  lastDiscarded : Option Nat
  /-- STATUS reports, latest first, back to 2 s before the latest (R228, R229) -/
  status : List StatusRep
  /-- last position in 0.1 mm (R101) -/
  lastPos : Option (Int × Int × Int)
deriving DecidableEq, Repr

/-- Latch states (R284). -/
inductive Latch where
  | idle | latched | armed | selective
deriving DecidableEq, Repr

/-- RELEASE frames still to be sent again: the LATCH_ID released, how many were sent, when the next is due
(R289, R290). -/
structure RelRun where
  id : Nat
  sent : Nat
  next : Nat
deriving DecidableEq, Repr

/-- What a row of Table 9.4 that stands after the triggers did: took effect as NFL_ARM, NFL_CONFIRM from ARMED, NFL_CONFIRM from
SELECTIVE, NFL_MREL; was refused with the latch state unchanged (the command's code of Table 9.9); was a confirm refused in ARMED; or was
the end of the arm window. The last two say whether ARM_EXPIRED was new. -/
inductive NflRow where
  | arm
  | confirm
  | confirmSelective
  | mrel
  | refused (code : Nat)
  | confirmFailed (expired : Bool)
  | windowEnd (expired : Bool)
deriving DecidableEq, Repr

/-- Such a row with its SAFE cycle, and the machine of an NFL_MREL (R284). -/
structure NflCmd where
  cycle : Nat
  row : NflRow
  machine : Nat
deriving DecidableEq, Repr

/-- Nightfall: the latch and its registers, the SAFE island's inputs and monitors, release schedules. -/
structure Nfl where
  latch : Latch
  latchId : Nat
  first : Nat
  /-- bit n: cause n triggered in this latch -/
  seen : Word
  trig : Nat
  /-- next frame number of the schedule (R282) -/
  nextK : Nat
  held : BitVec 1024
  armAt : Nat
  /-- a confirm that waits for the peer's acknowledgement: FLEET and the instant of the write (R287) -/
  confirm : Option (Bool × Nat)
  /-- release instants of the machines released one by one in this latch, and of all others (R288) -/
  relAt : Tab Nat
  relFleetAt : Nat
  fleetRel : Option RelRun
  machRel : Tab RelRun
  /-- machines whose STATUS still shows NIGHTFALL_SEEN: last unicast RELEASE (R290) -/
  seenRel : Tab Nat
  /-- NF_OUT levels commanded deasserted; both driven -/
  outA : Bool
  outB : Bool
  supplyOk : Bool
  /-- STOP_IN channels healthy at the pin, as debounced, and the TIME cycle of the last change; the
  watchdog and KEY_LOSS instants below are TIME cycles as well -/
  inA : Bool
  inB : Bool
  changedAt : Nat
  disc : Bool
  /-- during a discrepancy: both channels have been unhealthy together (R271) -/
  bothOpen : Bool
  /-- feedback lines read deasserted -/
  fbA : Bool
  fbB : Bool
  fbFault : Bool
  latchFault : Bool
  clockFault : Bool
  wdgStarted : Bool
  /-- the next correct kick is 0xA5A5_5A5A -/
  wdgOdd : Bool
  wdgLast : Nat
  wdgExpired : Bool
  wdgRun : Nat
  keyLossAt : Option Nat
  keyLossFired : Bool
  /-- the SAFE cycle of the last trigger, and that in which the latch was set from IDLE (R276) -/
  trigCycle : Option Nat
  idleCycle : Option Nat
  /-- commands and the end of the arm window in the latest SAFE cycle that had any, latest first (R284) -/
  cmds : List NflCmd
  /-- the debounce of a channel has completed since it was healthy, and since reset (R270) -/
  tripA : Bool
  tripB : Bool
deriving DecidableEq, Repr

end Sys2Proof
end

