-- ==== Sys2Proof/Types/Cht.lean ====
section
/-! DEFINITION. Data of the Chart ledger, the dispatcher and the task board (chapters 7 and 8). -/
namespace Sys2Proof

/-- A segment of the lane graph (Table 7.2): points in mm from the graph origin. -/
structure Seg where
  sx : Int
  sy : Int
  sz : Int
  ex : Int
  ey : Int
  ez : Int
  len : Nat
  limit : Nat
  surface : Nat
deriving DecidableEq, Repr

/-- A lane graph: header fields (Table 7.1), segments, conflict lists and grid lists by index. -/
structure Graph where
  id : Nat
  wConf : Nat
  ox : Int
  oy : Int
  oz : Int
  cellM : Nat
  gridE : Nat
  gridN : Nat
  segs : List Seg
  conf : List (List Nat)
  grid : List (List Nat)
deriving DecidableEq, Repr

/-- A stored reservation: [start, fin) ticks; `fin` 0xFFFF_FFFF is open. Classes: 0 PATH, 1 HALO, 2 BLOCK,
3 PARK. -/
structure Ival where
  seg : Nat
  cls : Nat
  owner : Nat
  start : Nat
  fin : Nat
deriving DecidableEq, Repr

/-- A request item (Table 7.4); `own` marks the CHECK of the machine's own PATH (R229). -/
structure Item where
  seg : Nat
  cls : Nat
  op : Nat
  start : Nat
  fin : Nat
  owner : Nat
  gen : Nat
  /-- bits of SEG_OP and OWNER that Table 7.4 reserves are not 0 -/
  bad : Bool
  own : Bool
deriving DecidableEq, Repr

/-- A grant being made (R230): limit point, cap, issue and expiry instants (2⁻³² ns), t_stop in the same
units rounded up, and the halo span. -/
structure GrantPlan where
  seg : Nat
  offset : Nat
  cap : Nat
  epoch : Nat
  expiry : Nat
  tStop : Nat
  span : List Nat
  /-- generation of the frame that the update came from (R153) -/
  gen : Nat
deriving DecidableEq, Repr

/-- Who asked for a ledger request. -/
inductive ReqFor where
  | host
  | halo (m : Nat) (g : GrantPlan)
  | lapse (m : Nat)
  | snap (m : Nat)
deriving DecidableEq, Repr

/-- A ledger request in flight: its sequence number, its items, when it left. -/
structure Request where
  seq : Nat
  items : List Item
  purpose : ReqFor
  sent : Nat
  job : Nat
deriving DecidableEq, Repr

/-- What Chart keeps of a machine: its route, the cap, the place matched last; its status words; the last
grant issued with its span; a lapse PARK held or still to be placed. -/
structure ChtMach where
  route : List Nat
  cap : Nat
  matched : Option Nat
  reason : Nat
  lapsed : Bool
  grantNo : Nat
  epoch : Option Nat
  expiry : Nat
  tStop : Nat
  span : List Nat
  /-- the last grant was issued and its lapse is still to be handled -/
  live : Bool
  /-- a graph activation has cancelled its lapse PARK (R233, R248) -/
  cancelled : Bool
  /-- segments of the machine's snapshot PARK (R235) -/
  parkSpan : List Nat
deriving DecidableEq, Repr

/-- The Chart ledger. -/
structure Cht where
  active : Option Graph
  staging : Option Graph
  stage : Nat
  failCode : Nat
  activateWaits : Bool
  /-- on a standby: the activation that waits is the active unit's, mirrored (R335) -/
  activatePeer : Bool
  ivals : List Ival
  originGen : Nat
  rebase : Option Nat
  rebaseEnd : Option Nat
  reqs : List Request
  nextSeq : Nat
  mach : Tab ChtMach
  ue : Bool
  tickStop : Bool
  nearTold : Bool
  /-- shards at or above the fill mark when last tested (R240) -/
  above : BitVec 32
  /-- the grant period of the last boundary handled -/
  period : Nat
  /-- address and length of the image that the last GRAPH_LOAD copies (R209) -/
  loadAddr : Nat
  loadLen : Nat
  /-- the key that the running load's check was started with, where its slot held one that fits (R209, R448) -/
  loadKey : Option (List Byte)
  /-- that load waits for DMA to be allowed (R349) -/
  loadHeld : Bool
deriving DecidableEq, Repr

/-- Inputs of a halo update (Table 7.6): position ECEF in 0.1 mm, epoch (2⁻³² ns), fix state, PL_h in mm,
velocity in mm/s when valid, v1 correction age in ms, when the frame was received, its generation (R153). -/
structure HaloIn where
  x : Int
  y : Int
  z : Int
  epoch : Int
  state : Nat
  plh : Nat
  ve : Int
  vn : Int
  velValid : Bool
  v1 : Bool
  age : Nat
  tRx : Int
  gen : Nat
deriving DecidableEq, Repr

/-- Job kinds (Table 8.1), in the order of their codes. -/
inductive JobKind where
  | parse | fix | fixRetry | halo | lapse | ledger | encode | snapSolve | allot | taskCmd | hostCmd
deriving DecidableEq, Repr

/-- What a job works on. -/
inductive JobWork where
  /-- an OBS epoch, and once it is matched its base epoch, if there is one, in ns (R169) -/
  | obs (epoch : Nat) (parts : List (Nat × List Byte)) (base : Option (Option Nat))
  | frame (port : Nat) (plp : List Byte)
  | halo (h : HaloIn)
  | lapse (grantNo : Nat)
  | stream (n : Nat) (epoch : Nat)
  | snap (handle : Nat)
  | allot (taskId : Nat) (epoch : Nat) (gen : Nat)
  | body (b : List Byte)
deriving DecidableEq, Repr

/-- A job held by the dispatcher (R243 to R250). `gate` is the instant (2⁻³² ns) until which its input
gate is shut, none when open. -/
structure Job where
  id : Nat
  kind : JobKind
  flow : Nat
  level : Nat
  stamp : Int
  inService : Bool
  engine : Option Nat
  excluded : Option Nat
  gate : Option Int
  tRx : Int
  work : JobWork
  cmd : Option Cmd
deriving DecidableEq, Repr

/-- A command that failed its envelope and completes once the commands of its ring before it have (R361): the number of the
first job that came after it, the command, its status and its detail. -/
structure LateCmd where
  next : Nat
  cmd : Cmd
  code : Nat
  detail : List Byte
deriving DecidableEq, Repr

/-- The dispatcher: the jobs held, in the order in which each flow serves them. -/
structure Dsp where
  jobs : List Job
  nextId : Nat
  intakeOff : Bool
  offAt : Nat
  /-- the intake source served last in the round: ports 0 to 3, then 4 + ring (R253) -/
  cursor : Nat
  late : List LateCmd
deriving DecidableEq, Repr

/-- Task states (Table 8.4). -/
inductive TaskState where
  | queued | assigned | active | refused
deriving DecidableEq, Repr

/-- A live task (Table 8.3). -/
structure Task where
  id : Nat
  chain : Nat
  prio : Nat
  mask : Nat
  payload : List Byte
  state : TaskState
  holder : Option Nat
  /-- the assignment time (2⁻³² ns), the EPOCH of its TASK frames (R261) -/
  assigned : Nat
deriving DecidableEq, Repr

/-- The task board: live tasks in the order enqueued (a task returned to its chain's head keeps its place). -/
structure Tsk where
  tasks : List Task
  /-- ACKs for a task no longer ASSIGNED to their sender (Table 8.7); no register shows the count -/
  ignored : Nat
deriving DecidableEq, Repr

end Sys2Proof
end

