-- ==== Sys2Proof/Types/Key.lean ====
section
/-! DEFINITION. Data of the key slots, the life-cycle, tamper and the real-time clock (chapter 15). -/
namespace Sys2Proof

/-- State of a key slot (R437). -/
inductive SlotState where
  | empty | valid | gone
deriving DecidableEq, Repr

/-- A key slot (KEY_SLOT_k_ATTR and the key RAM behind it): type and engine mask as Table 15.5 and Table 15.4
code them, the derivation, and the 128 bytes of key RAM. -/
structure KeySlot where
  state : SlotState
  type : Nat
  engines : Nat
  derived : Bool
  parent : Nat
  depth : Nat
  material : List Byte
deriving DecidableEq, Repr

/-- The key unit. -/
structure Key where
  slot : Tab KeySlot
  /-- the NV key store: its slots with their keys wrapped, whether its CRC holds, the life-cycle code in its header, its counter -/
  nvSlot : Tab KeySlot
  nvOk : Bool
  nvLc : Nat
  nvCtr : Nat
  vbatCtr : Nat
  /-- the NV key store was valid at the last start (KEY_STATUS.STORE_OK) -/
  storeOk : Bool
  /-- owner key digests programmed at positions 0 to 3, by position -/
  owner : Tab (BitVec 384)
  ownerIdx : Nat
  /-- device identity key, OTP bits 7,808 to 8,063 (R440) -/
  idKey : BitVec 256
  /-- the VBAT tamper latch (KEY_TAMP_CAUSE, KEY_TAMP_TIME) and the record owed for it (R454) -/
  cause : Word
  causeTime : Word
  /-- tamper events whose entry is still to be written -/
  recordsOwed : Nat
  /-- VBAT was low in DORMANT: the sticky is set at the next start (R452) -/
  lowOwed : Bool
  /-- tamper sources that have fired, which may be active still (KEY_STATUS.TAMP_LIVE), one bit per source of Table 15.9 -/
  live : BitVec 8
  /-- a life-cycle change latched by a tamper event while PD_1 was off (R453) -/
  lcOwed : Bool
  /-- the RTC: seconds and LPO cycles, and the captured seconds (R451) -/
  rtcSec : BitVec 48
  rtcSub : BitVec 15
  /-- time towards the next LPO cycle, in 1/32,768 of a TIME cycle of 409,200,000 per second -/
  rtcAcc : Nat
  rtcCapt : BitVec 48
  alarm : Word
deriving DecidableEq, Repr

end Sys2Proof
end

