-- ==== Sys2Proof/Types/Ref.lean ====
section
/-! DEFINITION. Data of the reference station and the correction streams (chapter 4). -/
namespace Sys2Proof

/-- Reference antenna states (Table 4.1). -/
inductive AntState where
  | down | inService | held | excluded
deriving DecidableEq, Repr

/-- One base observable of an epoch (R117): antenna, channel, GNSS (Table 5.8 codes), satellite, kind of signal (a row of
Table 4.5), COMP and the MSM signal ID that follows it, half-cycle flag, GLONASS frequency number + 7, pseudorange and phase
as the bits of FP64, Doppler as those of FP32, C/N0 in 0.25 dB-Hz, lock time in ms. -/
structure BaseSig where
  ant : Nat
  chan : Nat
  gnss : Nat
  sat : Nat
  kind : Nat
  comp : Nat
  signal : Nat
  half : Bool
  gloK : Nat
  pr : Nat
  phase : Nat
  doppler : Nat
  cn0 : Nat
  lock : Nat
deriving DecidableEq, Repr

/-- What loop and reference firmware know of a channel at an epoch (R117 to R120): the satellite and kind of signal that it
tracks, GLONASS frequency number + 7; whether its carrier loop is in lock, the instant (ns) at which it last lost lock since the
epoch before, if it did; whether the navigation data polarity is resolved, the channel whose tracking a move continued; C/N0 in 0.25 dB-Hz; the discriminator estimate of the
last good dump in 2⁻²⁰ chip and 2⁻¹⁶ cycle; the transmit time of chip 0 in 2⁻³² ns, from the navigation data, and the whole
carrier phase at the start of tracking in 2⁻¹⁶ cycle. -/
structure ChanObs where
  chan : Nat
  sat : Nat
  kind : Nat
  gloK : Nat
  locked : Bool
  lostAt : Option Nat
  polarity : Bool
  movedFrom : Option Nat
  cn0 : Nat
  codeDisc : Int
  carrDisc : Int
  codeZero : Int
  carrZero : Int
deriving DecidableEq, Repr

/-- A satellite's position, motion and clock at an epoch, from the base ephemerides (R112, R113, R171): ECEF in 0.1 mm, velocity in
0.1 mm/s, acceleration in 0.1 mm/s², and what its clock and the atmosphere add to a pseudorange, in 0.1 mm. -/
structure SatPos where
  gnss : Nat
  sat : Nat
  x : Int
  y : Int
  z : Int
  vx : Int
  vy : Int
  vz : Int
  ax : Int
  ay : Int
  az : Int
  extra : Int
deriving DecidableEq, Repr

/-- A pair test of an epoch (R112): the two antennas, resolved common signals, and the sum of r² in nm². -/
structure PairTest where
  a : Nat
  b : Nat
  signals : Nat
  sumSq : Nat
deriving DecidableEq, Repr

/-- An absolute check of an epoch (R113): antenna, signals present, and their number squared times the mean square of the
residuals, in nm². -/
structure AbsTest where
  ant : Nat
  signals : Nat
  dev : Nat
deriving DecidableEq, Repr

/-- A pair ambiguity (R112): antennas a < b, the signal by GNSS, satellite, kind and COMP, the satellite that its double
difference is taken with (itself where it is the pivot), the integer, for how many consecutive epochs the float estimate has lain
near it (20: resolved, and held), and the epoch of its last use in ns. -/
structure PairAmb where
  a : Nat
  b : Nat
  gnss : Nat
  sat : Nat
  kind : Nat
  comp : Nat
  pivot : Nat
  n : Int
  run : Nat
  e : Nat
deriving DecidableEq, Repr

/-- A reference antenna (R106): state, consecutive failed epochs, whether the last epoch passed, since
which epoch (ns) it has passed, commands held, and the coordinates and height last seen (R109). -/
structure RefAnt where
  state : AntState
  fails : Nat
  passed : Bool
  passSince : Option Nat
  readmit : Bool
  exclude : Bool
deriving DecidableEq, Repr

/-- Base observables of an epoch (ns): formed, then published with the antennas in service (R122). -/
structure BaseEp where
  e : Nat
  sigs : List BaseSig
  published : Bool
  refChange : Bool
  inService : List Nat
  /-- the REF configuration set active at the epoch (R109) -/
  regs : Tab Word
  /-- antennas with a READMIT or EXCLUDE to evaluate in this epoch (R106) -/
  readmit : BitVec 4
  exclude : BitVec 4
  /-- antennas whose coordinates or HEIGHT, or coordinates, a swap altered since the epoch before (R109, R174) -/
  altered : BitVec 4
  moved : BitVec 4
  /-- the satellites' positions, once published -/
  sats : List SatPos
deriving DecidableEq, Repr

/-- What the estimator of a relative survey holds of a baseline, or what stands for a survey without one epoch: x, y and z in 0.1 mm
(of the baseline, or of the antenna), 3D 1σ in mm, whether the ambiguities are fixed. -/
structure SurveyEst where
  x : Int
  y : Int
  z : Int
  sigma : Nat
  fixed : Bool
deriving DecidableEq, Repr, Inhabited

/-- One antenna of a running survey: of an absolute survey the single-epoch solutions, in 0.1 mm; of a relative one its baseline. -/
structure SurveyAnt where
  ant : Nat
  sols : List (Int × Int × Int)
  est : Option SurveyEst
deriving DecidableEq, Repr

/-- A running survey (R110): when it ends (2⁻³² ns), its mask, whether the lowest antenna is absolute, the antenna that the others
are surveyed relative to, the fix engine that a relative survey runs on, once it has one, and what it has of each antenna. -/
structure Survey where
  fin : Nat
  mask : Nat
  absolute : Bool
  ref : Nat
  engine : Option Nat
  ants : List SurveyAnt
deriving DecidableEq, Repr

/-- A correction stream: datagram SEQ, station messages forced by a reference change, the last stream
epoch handled (ns). -/
structure Stream where
  seq : Nat
  force : Bool
  last : Nat
  keyWait : Bool
  gloHeld : Bool
deriving DecidableEq, Repr

/-- One RTCM message: its number, the header fields of Table 4.6 by DF number, text fields, its cells. -/
structure RtcmMsg where
  number : Nat
  fields : List (Nat × Int)
  texts : List (Nat × List Byte)
  sigs : List BaseSig
deriving DecidableEq, Repr

/-- A swap of the REF set (R109): its instant in ns, the set active before it, and the antennas not DOWN whose coordinates or HEIGHT,
or coordinates, it altered. -/
structure RefSwap where
  at_ : Nat
  before : Tab Word
  altered : BitVec 4
  moved : BitVec 4
deriving DecidableEq, Repr

/-- The reference station. -/
structure Ref where
  ant : Tab RefAnt
  primary : Option Nat
  noXchk : Bool
  iods : Nat
  epochs : List BaseEp
  survey : Option Survey
  surveyState : Nat
  stream : Tab Stream
  /-- the formation point last handled, in ns -/
  gridAt : Nat
  /-- the pair ambiguities held (R112) -/
  ambs : List PairAmb
  /-- the base ephemerides, and what they predict at each machine (R101) -/
  ephs : List SnapEph
  /-- the swaps since the last formed epoch, latest first (R109) -/
  swaps : List RefSwap
deriving DecidableEq, Repr

end Sys2Proof
end

