-- ==== Sys2Proof/Types/Pst.lean ====
section
/-! DEFINITION. Data of the Polestar central fix (chapter 6). -/
namespace Sys2Proof

/-! ### Observations -/

/-- A signal of an OBS part (Table 5.8): PR and PHASE as the bits of FP64, DOPPLER as those of FP32. -/
structure RoverSig where
  gnss : Nat
  sat : Nat
  signal : Nat
  flags : Nat
  pr : Nat
  phase : Nat
  doppler : Nat
  cn0 : Nat
  gloK : Nat
  lock : Nat
deriving DecidableEq, Repr

/-- A double difference (R175): a signal against its pivot satellite, of code or of phase, in nm. `float`: a phase with a half
cycle on either side. `addVar` is what base age adds to its variance (R171), in pm². -/
structure DDObs where
  gnss : Nat
  sat : Nat
  signal : Nat
  pivot : Nat
  phase : Bool
  value : Int
  float : Bool
  addVar : Nat
deriving DecidableEq, Repr

/-- An ambiguity of the filter in an epoch: its signal and pivot; whether it goes on from the epoch before or is new since a reset;
the integer that a change of reference antenna adds (R173); whether it is a candidate (R179). -/
structure AmbState where
  gnss : Nat
  sat : Nat
  signal : Nat
  pivot : Nat
  goesOn : Bool
  carry : Int
  candidate : Bool
deriving DecidableEq, Repr

/-! ### The estimator (R177, R180, R183): what goes in and what comes out -/

/-- A code-only solution's input (R167): between-receiver differences of code in nm, by GNSS, satellite and signal ID; base age in ns;
the satellites and the reference antenna, in 0.1 mm. -/
structure CodeIn where
  codes : List (Nat × Nat × Nat × Int)
  age : Nat
  sats : List SatPos
  rx : Int
  ry : Int
  rz : Int
deriving DecidableEq, Repr

/-- Its result: position in 0.1 mm, clock in ns. -/
structure CodeOut where
  x : Int
  y : Int
  z : Int
  clock : Int
deriving DecidableEq, Repr, Inhabited

/-- How an epoch's prediction comes about: from the epoch before; fresh, with nothing of before (R167); or position and velocity fresh
and the ambiguity and ionosphere states kept (R174). -/
inductive PriorKind where
  | predicted | fresh | kept
deriving DecidableEq, Repr

/-- The prediction of position in 0.1 mm and velocity in mm/s east, north, up; the 1σ of a fresh velocity in mm/s (R167), 0 where the
filter's covariance holds; the clock in ns of a code-only solution. -/
structure Prior where
  kind : PriorKind
  x : Int
  y : Int
  z : Int
  ve : Int
  vn : Int
  vu : Int
  velSigma : Nat
  clock : Int
deriving DecidableEq, Repr

/-- A state of the float filter (R177): position and velocity along an ECEF axis 0 to 2, in µm and µm/s; the residual ionosphere of a
satellite, in µm; the ambiguity of a phase double difference, in 10⁻⁶ cycle. -/
inductive FState where
  | pos (axis : Nat)
  | vel (axis : Nat)
  | iono (gnss sat : Nat)
  | amb (gnss sat signal : Nat)
deriving DecidableEq, Repr

/-- A covariance of two states, as a fraction. -/
structure Cov where
  a : FState
  b : FState
  num : Int
  den : Nat
deriving DecidableEq, Repr

/-- What the float filter carries from one epoch to the next: the estimates of its ionosphere and ambiguity states, and the covariances
of all its states. Position and velocity stand in the slot. -/
structure Filter where
  est : List (FState × Int)
  cov : List Cov
deriving DecidableEq, Repr, Inhabited

/-- What the update of the float filter works on in one epoch: the content predicted for it, the prediction of position and velocity;
satellites with an ionosphere state, ambiguities, observations; base age in ns, the satellites at the base epoch, the reference
antenna's position in 0.1 mm. -/
structure FilterIn where
  content : Filter
  prior : Prior
  iono : List (Nat × Nat)
  ambs : List AmbState
  obs : List DDObs
  age : Nat
  sats : List SatPos
  rx : Int
  ry : Int
  rz : Int
deriving DecidableEq, Repr

/-- A solution: the filter's content, position in 0.1 mm, velocity in mm/s east, north, up; the semi-major axis of the horizontal
1σ ellipse and the vertical 1σ, in µm. -/
structure FilterOut where
  content : Filter
  x : Int
  y : Int
  z : Int
  ve : Int
  vn : Int
  vu : Int
  sigH : Nat
  sigV : Nat
deriving DecidableEq, Repr, Inhabited

/-- A search for integer vectors (R180): whether it needs more candidates than its limit, and the residual norms of the best and
second-best vectors. -/
structure SearchOut where
  exhausted : Bool
  best : Nat
  second : Nat
deriving DecidableEq, Repr, Inhabited

/-- The standard deviations of a separation (R183, R184), in µm: east, north, up, along the semi-major axis of the subset's
ellipse. -/
structure SepOut where
  e : Nat
  n : Nat
  u : Nat
  h : Nat
deriving DecidableEq, Repr, Inhabited

/-- The baseline between a machine's antennas (R187), in µm, and what its float solution leaves for the next epoch. -/
structure BaseOut where
  content : Filter
  e : Int
  n : Int
  u : Int
deriving DecidableEq, Repr, Inhabited

/-! ### Slots -/

/-- What a slot keeps of a signal between epochs (R176): LOCK, phase and Doppler of the last epoch, that epoch and its base epoch
in ns, and whether the innovation test rejected its phase. -/
structure SigMon where
  second : Bool
  gnss : Nat
  sat : Nat
  signal : Nat
  lock : Nat
  phase : Nat
  doppler : Nat
  e : Nat
  eb : Nat
  rejected : Bool
deriving DecidableEq, Repr

/-- What it keeps of two signals on different carriers of a satellite, at one of the machine's antennas: the geometry-free combinations of the last epochs, at most
6, latest first, each with its epoch in ns, in nm; sum and number of the Melbourne-Wübbena values, in 10⁻⁶ wide-lane cycle. -/
structure SatMon where
  second : Bool
  gnss : Nat
  sat : Nat
  s1 : Nat
  s2 : Nat
  gf : List (Nat × Int)
  mwSum : Int
  mwN : Nat
deriving DecidableEq, Repr

/-- A central-fix slot (R164 to R167): owner, RUN, the mark for initialisation, the last solved epoch in ns, the reference
antenna, the last position in 0.1 mm and velocity in mm/s, the status words' fields. -/
structure Slot where
  owner : Nat
  run : Bool
  initNext : Bool
  epoch : Nat
  refAnt : Nat
  lastState : Nat
  nstates : Nat
  wb : Nat
  plh : Nat
  x : Int
  y : Int
  z : Int
  ve : Int
  vn : Int
  vu : Int
  /-- PST_SLOT_CMD.RESET, or an owner that leaves, waits for the slot's job -/
  resetWaits : Bool
  /-- the filter's content, its ambiguities, the slip monitors, satellites excluded with the epochs left (R185), the baseline's content -/
  content : Filter
  ambs : List AmbState
  sigMons : List SigMon
  satMons : List SatMon
  out : List (Nat × Nat × Nat)
  baseline : Filter
  /-- the baseline's ambiguities (R187); the epoch in ns to which content, position and velocity belong (R170); the clock in ns of the last
  code-only solution (R167) -/
  headAmbs : List AmbState
  filtEpoch : Nat
  clock : Int
  /-- coordinates of the reference antenna at that epoch, in 0.1 mm; the state came from the peer by mirroring (R339) -/
  coord : Int × Int × Int
  mirrored : Bool
deriving DecidableEq, Repr

/-- What a fix job fetched at its start (R165, R169, R201): its slot's number and state, machine and epoch in ns, the
machine's entry, the PST set, the base epoch, the primary reference and the pair ambiguities of that moment, and the signals. -/
structure FixStart where
  slot : Nat
  state : Slot
  machine : Nat
  epoch : Nat
  entry : MachEntry
  regs : Tab Word
  base : Option BaseEp
  primary : Option Nat
  ambs : List PairAmb
  sigs : List RoverSig
deriving DecidableEq, Repr

/-- A fix engine: the job it runs (by id) with what it fetched, and the time of its previous mismatch event (R198). -/
structure FixEngine where
  job : Option (Nat × FixStart)
  lastMismatch : Option Nat
deriving DecidableEq, Repr

/-- What the solver of a snapshot yields (R101): satellites used, the offset of the capture time in µs, receiver clock in ns,
position in 0.1 mm, residuals in mm. -/
structure SnapEst where
  used : Nat
  offsetUs : Int
  clock : Int
  x : Int
  y : Int
  z : Int
  residuals : List Int
deriving DecidableEq, Repr, Inhabited

/-- Polestar: slots and engines. -/
structure Pst where
  slot : Tab Slot
  engine : Tab FixEngine
deriving DecidableEq, Repr

end Sys2Proof
end

