-- ==== Sys2Proof/Types/Tim.lean ====
section
/-! DEFINITION. Data of the time unit (chapter 10). -/
namespace Sys2Proof

/-- Time states (Table 10.1). -/
inductive TimeState where
  | free | locked | holdover | stepPending
deriving DecidableEq, Repr

/-- The delay-step monitor of a port (R313 to R315), in ps: the exchanges in the reference means (latest
last, at most 8), how many entered them, the open candidate run (which component, its exchanges), the
published mean delay, outbound delay and return delay, and the observed step in ns. -/
structure TimPort where
  hist : List (Int × Int)
  entered : Nat
  runF : Bool
  run : List (Int × Int)
  delay : Int
  outbound : Int
  back : Int
  step : Nat
deriving DecidableEq, Repr

/-- A timed output: the instant of its next edge in 2⁻³² ns, the pulses emitted, the TIME cycle on which
the pulse in progress ends (R317, R318). -/
structure TpOut where
  next : Int
  ending : Option Nat
deriving DecidableEq, Repr

/-- An announced step (R309): d in ns and the whole second S. -/
structure StepPlan where
  d : Int
  s : Nat
deriving DecidableEq, Repr

/-- The time-status word (TIM_STATUS and TIM_UNC) as the active unit mirrors it: state, U, SLEWING, LOSS_TIMING (R343). -/
structure TimeWord where
  state : TimeState
  u : Nat
  slewing : Bool
  lossTiming : Bool
deriving DecidableEq, Repr

/-- The time unit. -/
structure Tim where
  /-- device time in units of 2⁻³² ns (R299), and TIME cycles since start -/
  now : Nat
  cycles : Nat
  state : TimeState
  /-- increment in force, 2⁻³² ns per cycle; a new one with the millisecond it was written in (R300) -/
  incr : Nat
  pendIncr : Option (Nat × Nat)
  /-- unapplied offset in 2⁻³² ns and the cycles of its interval that remain (R301) -/
  adjRemain : Int
  adjCycles : Nat
  slewing : Bool
  /-- t_loss (2⁻³² ns) and U_0 (R305, R306) -/
  tLoss : Option Int
  u0 : Nat
  /-- the SIG_OK reports, latest first: when, and its UNC_NS (R305, R306, R308) -/
  reports : List (Nat × Nat)
  /-- UNC_NS of the latest report -/
  lastUnc : Nat
  /-- when a takeover gave this unit its time state (R343): counts as the last report for SIG_TIMEOUT -/
  adopted : Option Nat
  /-- the step announced and not yet made; TIM_STEP_NS and TIM_STEP_AT_S; the second at which the
  step term ends (R306) -/
  step : Option StepPlan
  stepNs : Int
  stepAt : Nat
  termEnd : Option Nat
  /-- U was above the bound when last tested (R307) -/
  above : Bool
  /-- BB time: valid; sync lost; the millisecond in which a load fell (R24, R303) -/
  bbValid : Bool
  syncLost : Bool
  bbLoadMs : Option Nat
  /-- consecutive sync symbols missing -/
  missing : Nat
  /-- the BB slave counter (R303) in 2⁻³² ns, the difference that it still removes and the cycles of its millisecond left -/
  bb : Nat
  bbRemain : Int
  bbCycles : Nat
  /-- the millisecond of the last sync symbol -/
  syncMs : Nat
  port : Tab TimPort
  /-- the last whole second for which PPS_OUT_n left, and the cycle at which its pulse ends -/
  ppsLast : Tab Nat
  ppsEnd : Tab Nat
  tp : Tab TpOut
  /-- in STANDBY: the mirrored time-status word (R343) -/
  mirror : Option TimeWord
  /-- the second of the last RTC load (R451) -/
  rtcSec : Nat
deriving DecidableEq, Repr

end Sys2Proof
end

