-- ==== Sys2Proof/Types/Pai.lean ====
section
/-! DEFINITION. Data of the pair (chapter 11). -/
namespace Sys2Proof

/-- One mirror record: the new value of a piece of the state of Table 11.3. -/
inductive MirrorRec where
  /-- reservations removed and added -/
  | ledger (del add : List Ival)
  /-- ORIGIN_GEN, the origin and the rebase window in force -/
  | origin (gen : Nat) (origin : Nat) (fin : Option Nat)
  /-- route, grant record and lapse state of a machine -/
  | chart (m : Nat) (v : ChtMach)
  /-- machine table entry, transmit SEQ and SEQ_last of a machine, and whether it waits for any SEQ (RESET_SEQ) -/
  | machine (m : Nat) (entry : MachEntry) (txSeq seqLast : Nat) (resetSeq : Bool)
  | slot (k : Nat) (v : Slot)
  | tasks (l : List Task)
  /-- latch, LATCH_ID, T, first cause, NFL_SEEN, NFL_ACTIVE, held set, NIGHTFALL SEQ of the ports -/
  | nightfall (latch : Latch) (id trig first : Nat) (seen active : Word) (held : BitVec 1024) (seqs : List Nat)
  /-- key slot states: slot, type, engine mask, usable, check value -/
  | keys (l : List (Nat × Nat × Nat × Bool × Word))
  /-- registers of mirrored configuration sets -/
  | cfg (l : List (Nat × Word))
  /-- GRAPH_ACTIVATE of a graph (R335) -/
  | graph (id : Nat)
  /-- the GRAPH_ID in force on the active unit -/
  | graphId (id : Nat)
  /-- a Nightfall trigger on the standby unit (R30, R293) -/
  | trigger (cause : Nat)
  /-- the causes active on the standby unit (Table 9.1, cause 13) -/
  | active (causes : Word)
  /-- a confirmed release that waits for this record's acknowledgement (R287) -/
  | release (id : Nat)
  /-- time-status word, and the step announced (R343) -/
  | time (w : TimeWord) (step : Option StepPlan)
  /-- a mirror sync begins: records of the whole mirrored state follow (R331) -/
  | sync
  /-- the handover record (R341) -/
  | handover
  /-- outcome of an image push as the receiving unit reports it (R423, R424): 0 another session holds STAGING,
  1 committed OK, 2 refused or failed -/
  | push (outcome : Nat)
deriving DecidableEq, Repr

/-- A GRANT held until its mirror record is acknowledged (R332): the record's number, the machine, its
port and frame, when the record was sent. -/
structure HeldGrant where
  number : Nat
  machine : Nat
  port : Nat
  frame : TxFrame
  plan : GrantPlan
  sent : Nat
deriving DecidableEq, Repr

/-- The peer as its latest valid heartbeat shows it: FLAGS, SEQ, TX stamp in ns of the 32-bit seconds,
MIRROR_ACKED, IMAGE_VER, when it arrived (2⁻³² ns). -/
structure PeerView where
  flags : Nat
  seq : Nat
  txS : Nat
  txNs : Nat
  acked : Nat
  version : Word
  at_ : Nat
deriving DecidableEq, Repr

/-- A Pulsar path: healthy, consecutive good and missing events, when the last valid one came, the last
count or SEQ. -/
structure Path where
  ok : Bool
  good : Nat
  missing : Nat
  last : Nat
  seq : Option Nat
deriving DecidableEq, Repr

/-- A handover in progress on the active unit (R341): the boundary B. -/
inductive Handover where
  | none
  /-- decided, to run at grant-period boundary number n -/
  | due (n : Nat)
  /-- handover record sent at B (2⁻³² ns); waits for the acknowledgement -/
  | sent (at_ : Nat)
deriving DecidableEq, Repr

/-- The pair unit. -/
structure Pai where
  /-- PAIR operation; the unit is active -/
  pair : Bool
  active : Bool
  pathA : Path
  pathB : Path
  peerFailed : Bool
  /-- both paths healthy without a break since (2⁻³² ns) -/
  bothSince : Option Nat
  peer : Option PeerView
  /-- 0 none, 1 running, 2 complete -/
  sync : Nat
  /-- when path A's failure ended this unit's readiness (R329, R336) -/
  lostReady : Option Nat
  claimDrive : Bool
  claimIn : Bool
  /-- when this unit released CLAIM_N last -/
  releasedAt : Option Nat
  /-- since when the peer has been ready (R336) -/
  peerReadySince : Option Nat
  /-- conditions 1 and 2, and condition 3, of R338 -/
  splitLine : Bool
  splitActive : Bool
  /-- the claim procedure waits for the sample of CLAIM_N (R336): the peer became failed at -/
  claimAt : Option Nat
  /-- a start waits for the peer (R337) -/
  starting : Bool
  startAt : Nat
  /-- the secondary has stopped grants and PLP transmission pending the sample -/
  hushed : Bool
  tAct : Nat
  hbSeq : Nat
  /-- the latest heartbeats sent: SEQ and egress (2⁻³² ns), latest first, at most 8 (R343) -/
  hbSent : List (Nat × Nat)
  burst : Nat
  /-- mirror records sent and not acknowledged, oldest first: number, record, when sent -/
  sentRecs : List (Nat × MirrorRec × Nat)
  nextRec : Nat
  /-- number of the last record applied -/
  applied : Nat
  grants : List HeldGrant
  lagMax : Nat
  handover : Handover
  /-- since when the conditions of R341 hold (2⁻³² ns) -/
  returnOk : Option Nat
  /-- the peer's key slot states mirrored (R330) -/
  peerKeys : List (Nat × Nat × Nat × Bool × Word)
  peerGraph : Option Nat
  /-- the peer's NFL_ACTIVE as mirrored (Table 9.1, cause 13) -/
  peerNf : Word
  /-- the own causes last told to the peer -/
  sentNf : Word
  offsetPs : Int
  /-- the active unit's Nightfall state received during a sync; it takes effect when the sync completes (R294) -/
  syncNfl : Option MirrorRec
  /-- a tamper event has stopped Pulsar until the next start (Table 15.10) -/
  tampStop : Bool
deriving DecidableEq, Repr

end Sys2Proof
end

