-- ==== Sys2Proof/Types/Rec.lean ====
section
/-! DEFINITION. Data of the event recorder (chapter 16). -/
namespace Sys2Proof

/-- An event for the recorder: its type and KEY (Table 16.3), its payload, and when it occurred. -/
structure RecEvent where
  type : Nat
  key : Nat
  payload : List Byte
  time : Nat
  timeFree : Bool
  /-- for a LOST entry in staging: the events counted so far (R464) -/
  lost : Bool
  count : Nat
deriving DecidableEq, Repr

/-- A record (Table 16.2). Times are device time in units of 2⁻³² ns; `lastUs` is LAST_US. -/
structure Record where
  seq : Nat
  type : Nat
  key : Nat
  payload : List Byte
  repeats : Nat
  first : Nat
  lastUs : Nat
  timeFree : Bool
  lifeboat : Bool
  moved : Bool
deriving DecidableEq, Repr

/-- A logical slot of the recorder: the physical segment it maps to, FILL_NO, FIRST_SEQ and its
committed records, oldest first (R459). `inRing` is false once the slot is removed (R472). `zeroed` names the 512-bit words of the
segment that a retirement copy wrote as zero (R471). -/
structure RecSlot where
  phys : Nat
  fillNo : Nat
  firstSeq : Nat
  records : List Record
  inRing : Bool
  zeroed : List Nat
deriving DecidableEq, Repr

/-- The retirement of a segment, as SEGMENT_RETIRED brings it (R471): the segment fails verify; its copy ends, with the largest number of
bits corrected in a word and the 512-bit words that were uncorrectable. -/
inductive SegCopy where
  | begins
  | ends (worst : Nat) (bad : List Nat)
deriving DecidableEq, Repr

/-- Where the recorder writes (REC_STATUS.STORE). -/
inductive RecStore where
  | mram | lifeboat | notUp
deriving DecidableEq, Repr

/-- The recorder (R459 to R474). -/
structure Rec where
  store : RecStore
  /-- MRAM slots 0 to 63 by number -/
  slots : Tab RecSlot
  /-- the two lifeboat slots -/
  boat : Tab RecSlot
  /-- the slot being filled, the count of slot openings since manufacture -/
  cur : Nat
  opened : Nat
  spares : Nat
  /-- next SEQ to form, and REC_READ_SEQ -/
  nextSeq : Nat
  readSeq : Nat
  inProgress : Option Record
  /-- events held to fold into the record in progress: their times -/
  heldFolds : List Nat
  staging : List RecEvent
  /-- drops not yet staged as a LOST entry, and when the first of them was, with TIME_FREE then -/
  dropped : Nat
  dropAt : Nat
  dropFree : Bool
  /-- folds of the newest record not yet written back (R465) -/
  foldDirty : Bool
  lastWriteBack : Nat
  /-- REC_FILL was at or above the mark (R467) -/
  above : Bool
  sparesOutTold : Bool
  /-- the record that the lifeboat forms after its first, with the folds held for it (R473, R474) -/
  resume : Option (RecEvent × List Nat)
  /-- the physical segment whose records are being copied to a spare (R471) -/
  copying : Option Nat
  /-- the nonce in force: its number as a fresh value, and its time of issue (R469) -/
  nonce : Option (Nat × Nat)
  /-- the NV interface has failed before the scan of step 3 (R474) -/
  nvFail : Bool
deriving DecidableEq, Repr

end Sys2Proof
end

