-- ==== Sys2Proof/Syntax.lean ====
section
/-! DEFINITION. The commands of the block: one constructor for each row of the opcode table, in its order.
An operand is what the row's event brings from outside the device (a value written, a frame, a pin or
sensor reading) or which unit it happens on. -/
namespace Sys2Proof

/-- A command or event that the device takes. -/
inductive Instr where
  /-- REGISTER_WRITE (R7) -/
  | registerWrite (addr : Nat) (w : Word) (x : WriteCycle)
  /-- LOW_WORD_CAPTURE (R11) -/
  | lowWordCapture (addr : Nat)
  /-- BRIDGE_LANE_FAIL (R23) -/
  | bridgeLaneFail
  /-- BB_SYNC_LOST (R24) -/
  | bbSyncLost
  /-- BRIDGE_SILENT (R25) -/
  | bridgeSilent
  /-- THERMAL_SAMPLE (R27) -/
  | thermalSample (bb : Int) (fl : Int) (nv : Int)
  /-- THERMAL_TRIP_CLEAR (R373) -/
  | thermalTripClear (w : Word)
  /-- ANT_EN (R80) -/
  | antEn (w : Word)
  /-- CODE_GROUP_SYNC (R43) -/
  | codeGroupSync (ant : Nat)
  /-- SYSREF_PULSE (R42) -/
  | sysrefPulse (phases : List (BitVec 5))
  /-- ILAS_RECEIVED (R48) -/
  | ilasReceived (ant : Nat) (octets : List Byte)
  /-- CODE_ERR (R49) -/
  | codeErr (ant : Nat)
  /-- LINK_LOSS (R50) -/
  | linkLoss (ant : Nat) (cdrLost : Bool)
  /-- ING_CLIP_LOAD (R51) -/
  | ingClipLoad (ant : Nat) (clipped : List Nat)
  /-- ING_LATENCY_WRITE (R45) -/
  | ingLatencyWrite (ant : Nat) (w : Word)
  /-- LATENCY_STEP (R45) -/
  | latencyStep (ant : Nat)
  /-- START (R72) -/
  | start (ch : Nat)
  /-- STOP_AT (R72) -/
  | stopAt (ch : Nat)
  /-- ABORT (R72) -/
  | abort (ch : Nat)
  /-- CONTEXT_RUN (R72) -/
  | contextRun (ch : Nat)
  /-- INTEGRATION_BOUNDARY (R67) -/
  | integrationBoundary (ch : Nat) (frames : List (BitVec 37))
  /-- REPLAY_CAPTURE_END (R66) -/
  | replayCaptureEnd (ch id : Nat)
  /-- DUMP_DELIVERY (R68) -/
  | dumpDelivery (unit : Nat)
  /-- RATE_MESSAGE (R69) -/
  | rateMessage (ch : Nat) (code : BitVec 64) (carr : BitVec 64)
  /-- CODE_RATE_HI (R69) -/
  | codeRateHi (ch : Nat) (w : Word)
  /-- CARR_RATE_HI (R69) -/
  | carrRateHi (ch : Nat) (w : Word)
  /-- CORR_MISMATCH_EVENT (R76) -/
  | corrMismatchEvent (unit : Nat) (context : Nat)
  /-- COR_CODE_DATA (R81) -/
  | corCodeData (w : Word)
  /-- COR_INJECT (R508) -/
  | corInject (w : Word)
  /-- CAPTURE (R85) -/
  | capture
  /-- CAPTURE_RELEASE (R84) -/
  | captureRelease (id : Nat)
  /-- CAPTURE_WINDOW_START (R83) -/
  | captureWindowStart (id : Nat)
  /-- CAPTURE_WINDOW_END (R83) -/
  | captureWindowEnd (w : WindowFrames)
  /-- SNAPSHOT_SCHEDULED_CAPTURE (R87) -/
  | snapshotScheduledCapture
  /-- ACQ_JOB (R93) -/
  | acqJob (w : Word)
  /-- SEARCH_START (R95) -/
  | searchStart (pipe : Nat)
  /-- SEARCH_COMPLETE (R96) -/
  | searchComplete (pipe : Nat)
  /-- SNAP_FRAME (R162) -/
  | snapFrame (port : Nat)
  /-- SNAP_REASSEMBLY_TIMEOUT (R98) -/
  | snapReassemblyTimeout (m : Nat)
  /-- SNAP_SOLVE (R101) -/
  | snapSolve
  /-- BASE_EPOCH (R116) -/
  | baseEpoch (obs : List ChanObs)
  /-- BASE_PUBLISH (R122) -/
  | basePublish (sats : List SatPos) (eph : List SnapEph)
  /-- BASE_DISCARD (R122) -/
  | baseDiscard
  /-- READMIT (R106) -/
  | readmit (ant : Nat) (w : Word)
  /-- EXCLUDE (R106) -/
  | exclude (ant : Nat) (w : Word)
  /-- SURVEY_START (R110) -/
  | surveyStart (w : Word)
  /-- SURVEY_ABORT (R111) -/
  | surveyAbort (w : Word)
  /-- SURVEY_END (R111) -/
  | surveyEnd
  /-- LEAP_APPLY (R131) -/
  | leapApply
  /-- STREAM_EPOCH_DUE (R255) -/
  | streamEpochDue (n : Nat)
  /-- ENCODE (R128) -/
  | encode
  /-- FRAME_RECEIVE (R141) -/
  | frameReceive (port : Nat) (frame : List Byte) (fcsOk : Bool)
  /-- XOFF_REFRESH (R144) -/
  | xoffRefresh (port : Nat)
  /-- PAUSE_EXPIRY (R145) -/
  | pauseExpiry (port : Nat)
  /-- PAUSE_BYPASS (R145) -/
  | pauseBypass (port : Nat)
  /-- LINK_UP (R138) -/
  | linkUp (port : Nat)
  /-- LINK_DOWN (R283) -/
  | linkDown (port : Nat)
  /-- TRANSMIT_START (R146) -/
  | transmitStart (turn : PortTurn)
  /-- TRANSMIT_END (R147) -/
  | transmitEnd (port : Nat)
  /-- OBS_FRAME (R161) -/
  | obsFrame (port : Nat)
  /-- OBS_EPOCH_TIMEOUT (R161) -/
  | obsEpochTimeout (m : Nat)
  /-- POS_FRAME (R155) -/
  | posFrame (port : Nat)
  /-- STATUS_FRAME (R155) -/
  | statusFrame (port : Nat)
  /-- ACK_FRAME (R155) -/
  | ackFrame (port : Nat)
  /-- WRONG_GEN_FRAME (R155) -/
  | wrongGenFrame (port : Nat)
  /-- OPSTOP_FRAME (R278) -/
  | opstopFrame (port : Nat)
  /-- OBS_PARSE (R168) -/
  | obsParse
  /-- POS_PARSE (R227) -/
  | posParse
  /-- STATUS_PARSE (R260) -/
  | statusParse
  /-- ACK_PARSE (R263) -/
  | ackParse
  /-- FIX_JOB (R165) -/
  | fixJob (e : Nat)
  /-- FIX_GATE_OPEN (R248) -/
  | fixGateOpen
  /-- FIX_JOB_COMPLETE (R191) -/
  | fixJobComplete (e : Nat)
  /-- FIX_MISMATCH_EVENT (R196) -/
  | fixMismatchEvent (e : Nat)
  /-- PST_SLOT_RESET (R204) -/
  | pstSlotReset (w : Word)
  /-- PST_CLEAR_LAT (R204) -/
  | pstClearLat
  /-- PST_INJECT (R509) -/
  | pstInject (w : Word)
  /-- GRAPH_LOAD (R209) -/
  | graphLoad
  /-- GRAPH_VERIFIED (R209) -/
  | graphVerified (image : List Byte)
  /-- GRAPH_ACTIVATE (R210) -/
  | graphActivate
  /-- REBASE (R217) -/
  | rebase
  /-- REBASE_WINDOW_END (R217) -/
  | rebaseWindowEnd
  /-- CHT_CLEAR_LAT (R510) -/
  | chtClearLat
  /-- ORIGIN_WRITE (R216) -/
  | originWrite (w : Word)
  /-- TICK_NEAR_WRAP (R219) -/
  | tickNearWrap
  /-- TICK_WRAP (R219) -/
  | tickWrap
  /-- INTERVAL_RECLAIM (R214) -/
  | intervalReclaim
  /-- GRANT_PERIOD_BOUNDARY (R231) -/
  | grantPeriodBoundary
  /-- LEDGER (R220) -/
  | ledger
  /-- LEDGER_DECISION (R222) -/
  | ledgerDecision
  /-- ROUTE_SET (R225) -/
  | routeSet
  /-- HALO (R229) -/
  | halo
  /-- LAPSE (R233) -/
  | lapse
  /-- SRAM_ECC_CORRECTED (R238) -/
  | sramEccCorrected (shard : Nat)
  /-- LEDGER_UE (R238) -/
  | ledgerUe (shard : Nat) (sram : Nat)
  /-- COMMAND_FETCH (R360) -/
  | commandFetch (ring : Nat) (entry : List Byte) (body : List Byte) (entryErr : Bool) (bodyErr : Bool)
  /-- INTAKE_RESUME (R253) -/
  | intakeResume
  /-- TASK_ENQUEUE (R257) -/
  | taskEnqueue
  /-- TASK_CANCEL (R258) -/
  | taskCancel
  /-- TASK_REQUEUE (R258) -/
  | taskRequeue
  /-- ALLOT (R260) -/
  | allot
  /-- DSP_CLEAR_MAX (R268) -/
  | dspClearMax
  /-- STOP_IN_DEBOUNCE (R270) -/
  | stopInDebounce (ch : Nat)
  /-- DISCREPANCY (R271) -/
  | discrepancy
  /-- FB_FAULT (R273) -/
  | fbFault (ch : Nat)
  /-- NFL_TRIGGER (R275) -/
  | nflTrigger (w : Word)
  /-- LATCH_MISMATCH (R269) -/
  | latchMismatch
  /-- CLOCK_CROSS_CHECK (R295) -/
  | clockCrossCheck
  /-- SAFE_SUPPLY_MONITOR (R295) -/
  | safeSupplyMonitor
  /-- NFL_WDG_KICK (R279) -/
  | nflWdgKick (w : Word)
  /-- WATCHDOG_EXPIRY (R279) -/
  | watchdogExpiry
  /-- KEY_GRACE_EXPIRY (R277) -/
  | keyGraceExpiry
  /-- NIGHTFALL_FRAME_DUE (R282) -/
  | nightfallFrameDue
  /-- NFL_ARM (R285) -/
  | nflArm (w : Word)
  /-- NFL_CONFIRM (R286) -/
  | nflConfirm (w : Word)
  /-- RELEASE_ACKNOWLEDGED (R287) -/
  | releaseAcknowledged
  /-- CONFIRM_ACK_TIMEOUT (R287) -/
  | confirmAckTimeout
  /-- ARM_WINDOW_END (R284) -/
  | armWindowEnd
  /-- NFL_MREL (R290) -/
  | nflMrel (w : Word)
  /-- RELEASE_RESEND (R290) -/
  | releaseResend
  /-- TIM_INCR_INT (R300) -/
  | timIncrInt (w : Word)
  /-- INCR_APPLY (R300) -/
  | incrApply
  /-- TIM_ADJ_CTRL (R301) -/
  | timAdjCtrl (w : Word)
  /-- ADJUSTMENT_END (R301) -/
  | adjustmentEnd
  /-- TIM_SET_NS (R302) -/
  | timSetNs (w : Word)
  /-- TIM_LOCK_REPORT (R305) -/
  | timLockReport (w : Word)
  /-- TIM_LOSS_NS (R305) -/
  | timLossNs (w : Word)
  /-- TIM_RETURN (R308) -/
  | timReturn (w : Word)
  /-- HOLDOVER_ENTRY (R304) -/
  | holdoverEntry
  /-- SIG_TIMEOUT (R304) -/
  | sigTimeout
  /-- STEP_INSTANT (R309) -/
  | stepInstant
  /-- STEP_HOLD_END (R306) -/
  | stepHoldEnd
  /-- BOUND_EXCEEDED (R307) -/
  | boundExceeded
  /-- TIME_SYNC_SYMBOL (R303) -/
  | timeSyncSymbol (driftPs : Int)
  /-- PPS_EDGE (R316) -/
  | ppsEdge (n : Nat)
  /-- TP_EN (R317) -/
  | tpEn (k : Nat) (w : Word)
  /-- TP_PULSE (R317) -/
  | tpPulse (k : Nat)
  /-- PULSE_WIDTH_END (R318) -/
  | pulseWidthEnd (out : Nat)
  /-- PEER_DELAY_EXCHANGE (R314) -/
  | peerDelayExchange (port : Nat) (t1 : Int) (t2 : Int) (t3 : Int) (t4 : Int)
  /-- PATH_ASYM_CLEAR (R315) -/
  | pathAsymClear (port : Nat)
  /-- TIM_NOW_CAPTURE (R7) -/
  | timNowCapture
  /-- RTC_LOAD (R451) -/
  | rtcLoad
  /-- HEARTBEAT_SEND (R326) -/
  | heartbeatSend
  /-- HEARTBEAT_RECEIVE (R326) -/
  | heartbeatReceive (frame : List Byte) (crcOk : Bool)
  /-- PULSE_BURST_SEND (R327) -/
  | pulseBurstSend
  /-- PULSE_BURST_RECEIVE (R327) -/
  | pulseBurstReceive (cells : BitVec 6)
  /-- PATH_A_FAIL (R328) -/
  | pathAFail
  /-- PATH_B_FAIL (R328) -/
  | pathBFail
  /-- CLAIM_SAMPLE (R336) -/
  | claimSample (high : Bool)
  /-- CLAIM_N_RELEASE (R336) -/
  | claimNRelease
  /-- SPLIT_CLAIM_LOW (R338) -/
  | splitClaimLow
  /-- SPLIT_CLAIM_STUCK (R338) -/
  | splitClaimStuck
  /-- MIRROR_RECORD (R330) -/
  | mirrorRecord (number : Nat) (r : MirrorRec)
  /-- MIRROR_ACK (R332) -/
  | mirrorAck (number : Nat)
  /-- MIRROR_ACK_TIMEOUT (R332) -/
  | mirrorAckTimeout
  /-- MIRROR_SYNC_COMPLETE (R331) -/
  | mirrorSyncComplete
  /-- HANDOVER_ACK_TIMEOUT (R341) -/
  | handoverAckTimeout
  /-- YIELD (R342) -/
  | yield
  /-- RESYNC (R345) -/
  | resync
  /-- PEER_WAIT_EXPIRY (R337) -/
  | peerWaitExpiry
  /-- PCIE_RESET (R348) -/
  | pcieReset
  /-- DMA_HOLD (R349) -/
  | dmaHold
  /-- DMA_RESUME (R349) -/
  | dmaResume
  /-- DOORBELL (R354) -/
  | doorbell (ring : Nat) (h : Word)
  /-- RING_ENABLE (R356) -/
  | ringEnable (ring : Nat) (w : Word)
  /-- RING_DISABLE (R356) -/
  | ringDisable (ring : Nat)
  /-- NOP (R362) -/
  | nop
  /-- MACHINE_SET (R363) -/
  | machineSet
  /-- MACHINE_GET (R363) -/
  | machineGet
  /-- ACQ_SEARCH (R362) -/
  | acqSearch
  /-- NET_TX (R364) -/
  | netTx (ring : Nat) (entry : List Byte) (body : List Byte) (frame : List Byte) (entryErr : Bool) (bodyErr : Bool) (frameErr : Bool)
  /-- EVENT_ENABLE (R369) -/
  | eventEnable (g : Nat) (w : Word)
  /-- VECTOR_MODERATION_END (R370) -/
  | vectorModerationEnd (v : Nat)
  /-- ZENITH_LOCK (R377) -/
  | zenithLock (die : Nat)
  /-- REF_LOST (R378) -/
  | refLost
  /-- FL_UNLOCK (R378) -/
  | flUnlock
  /-- BB_UNLOCK (R379) -/
  | bbUnlock
  /-- BB_RELOCK (R379) -/
  | bbRelock
  /-- AUX_UNLOCK (R381) -/
  | auxUnlock (which : Nat)
  /-- POWER_ON (R396) -/
  | powerOn (primary : Bool) (bootSel : Nat) (x : Supply)
  /-- BOOT_COMPLETE (R404) -/
  | bootComplete
  /-- RESET_N (R396) -/
  | resetN (lowNs : Nat)
  /-- BROWN_OUT (R493) -/
  | brownOut (lowNs : Nat)
  /-- DEVICE_RESET (R396) -/
  | deviceReset (w : Word)
  /-- CORR_RESET (R397) -/
  | corrReset (w : Word)
  /-- ACQ_RESET (R397) -/
  | acqReset (w : Word)
  /-- FIX_RESET (R199) -/
  | fixReset (w : Word)
  /-- CHART_RESET (R238) -/
  | chartReset (w : Word)
  /-- NET_RESET (R397) -/
  | netReset (w : Word)
  /-- REGION_RESET_DONE (R397) -/
  | regionResetDone (region : Nat)
  /-- CRP_NET_RST (R400) -/
  | crpNetRst (w : Word)
  /-- FIFO_DROP (R394) -/
  | fifoDrop (k : Nat) (w : Word)
  /-- FIFO_UE (R395) -/
  | fifoUe (k : Nat)
  /-- TARGET_DORMANT (R408) -/
  | targetDormant (w : Word)
  /-- TARGET_SURVEY (R404) -/
  | targetSurvey (w : Word)
  /-- TARGET_SERVE (R404) -/
  | targetServe (w : Word)
  /-- TARGET_SNAPSHOT (R404) -/
  | targetSnapshot (w : Word)
  /-- TARGET_MAINTAIN (R404) -/
  | targetMaintain (w : Word)
  /-- SNAPSHOT_POWER_DOWN (R404) -/
  | snapshotPowerDown
  /-- SNAPSHOT_WAKE (R411) -/
  | snapshotWake
  /-- WAKE_N (R408) -/
  | wakeN
  /-- RTC_ALARM (R451) -/
  | rtcAlarm
  /-- MAIN_RAILS_LOST (R404) -/
  | mainRailsLost
  /-- POWER_REQUEST (R412) -/
  | powerRequest (w : Word)
  /-- CFG_SWAP (R419) -/
  | cfgSwap (w : Word)
  /-- CONFIRM (R426) -/
  | confirm (w : Word)
  /-- RAISE_FLOOR (R428) -/
  | raiseFloor (w : Word)
  /-- PUSH_PEER (R423) -/
  | pushPeer (w : Word)
  /-- CFG_SAVE (R421) -/
  | cfgSave (w : Word)
  /-- STAGE_OPEN (R423) -/
  | stageOpen
  /-- PEER_OPEN_RECORD (R423) -/
  | peerOpenRecord (totalLen : Nat)
  /-- STAGE_BLOCK (R424) -/
  | stageBlock (data : List Byte)
  /-- STAGE_COMMIT (R424) -/
  | stageCommit (session : Nat)
  /-- STAGE_ABORT (R423) -/
  | stageAbort
  /-- SESSION_TIMEOUT (R423) -/
  | sessionTimeout
  /-- OTP_PROGRAM (R417) -/
  | otpProgram (w : Word) (verified : Bool)
  /-- PROVISION (R434) -/
  | provision (w : Word)
  /-- RETIRE (R434) -/
  | retire (w : Word)
  /-- KEY_WRITE (R445) -/
  | keyWrite
  /-- KEY_DERIVE (R446) -/
  | keyDerive
  /-- KEY_ZEROISE (R448) -/
  | keyZeroise
  /-- SET_LC (R434) -/
  | setLc
  /-- REPLACE_OWNER (R442) -/
  | replaceOwner
  /-- ATTEST (R450) -/
  | attest
  /-- TAMPER_EVENT (R453) -/
  | tamperEvent (src : Nat) (under : Bool)
  /-- KEY_RAM_UE (R440) -/
  | keyRamUe (slot : Nat)
  /-- KEY_RESTORE (R440) -/
  | keyRestore (slot : Nat)
  /-- VBAT_LOW (R452) -/
  | vbatLow
  /-- DEBUG_ACCESS (R455) -/
  | debugAccess (instr : Nat)
  /-- RTC_CAPTURE (R451) -/
  | rtcCapture
  /-- RECORD_COMMIT (R462) -/
  | recordCommit
  /-- FOLD_WRITE_BACK (R465) -/
  | foldWriteBack
  /-- SEGMENT_RETIRED (R471) -/
  | segmentRetired (phys : Nat) (x : SegCopy)
  /-- LIFEBOAT (R473) -/
  | lifeboat (cause : Nat)
  /-- REC_READ_SEQ (R467) -/
  | recReadSeq (w : Word)
  /-- REC_NONCE (R469) -/
  | recNonce
  /-- REC_CLEAR (R470) -/
  | recClear
  /-- COUNTER_OVERFLOW (R478) -/
  | counterOverflow (k : Nat)
  /-- PRF_HI_WRITE (R481) -/
  | prfHiWrite (k : Nat) (w : CtrWrite)
  /-- FREEZE (R481) -/
  | freeze (w : Word)
  /-- PRF_PAIR_CAPTURE (R480) -/
  | prfPairCapture (k : Nat)
  /-- STOP_IN_HEALTHY (R271) -/
  | stopInHealthy (ch : Nat)
  /-- REF_IN_RESTORED (R378) -/
  | refInRestored
  /-- SAFE_SUPPLY_RESTORED (R272) -/
  | safeSupplyRestored
  /-- MSIX_UNMASK (R370) -/
  | msixUnmask (x : MsixWrite)
  /-- POWER_RAMP_DONE (R412) -/
  | powerRampDone (pd : Nat)
  /-- PEER_STAGE_RECORD (R424) -/
  | peerStageRecord (block : Option Nat) (crc : Nat) (data : List Byte)
  /-- BROWN_OUT_END (R493) -/
  | brownOutEnd
deriving DecidableEq, Repr

end Sys2Proof
end

