-- ==== Sys2Proof/Decode.lean ====
section
/-! DEFINITION. The command that a word spells. No row of the opcode table gives bits, so no word spells one. -/
namespace Sys2Proof

/-- No row of spec/opcode_table.json has a bit pattern: a command is an event, not an encoded word. -/
def decodeTableWord (_nbits _w : Nat) : Option Instr := none

end Sys2Proof
end

