-- ==== Sys2Proof/Machine/Bits.lean ====
section
/-! DEFINITION. Bit fields, byte order, times and the sparse tables of indexed state. -/
namespace Sys2Proof.Machine

/-- Bits [hi:lo] of a word, as a number. -/
def bits (w : Word) (hi lo : Nat) : Nat := (w.toNat >>> lo) % 2 ^ (hi + 1 - lo)

/-- Bit `i` of a word. -/
def bitAt (w : Word) (i : Nat) : Bool := w.getLsbD i

/-- `w` with bits [hi:lo] replaced by the low bits of `v`. -/
def setBits (w : Word) (hi lo v : Nat) : Word :=
  let m : Word := BitVec.ofNat 32 ((2 ^ (hi + 1 - lo) - 1) <<< lo)
  (w &&& ~~~m) ||| (BitVec.ofNat 32 (v <<< lo) &&& m)

/-- The word with only bit `i` set. -/
def oneHot (i : Nat) : Word := BitVec.ofNat 32 (2 ^ i)

/-- A Bool as a bit. -/
def b2n (b : Bool) : Nat := if b then 1 else 0

/-- A 32-bit saturating increment by `n` (every saturating counter register). -/
def satAdd (w : Word) (n : Nat) : Word := BitVec.ofNat 32 (min (w.toNat + n) 0xFFFFFFFF)

/-- A number as a two's complement integer of `n` bits. -/
def signed (n v : Nat) : Int := if v % 2 ^ n < 2 ^ (n - 1) then (v % 2 ^ n : Nat) else (v % 2 ^ n : Nat) - (2 ^ n : Nat)

/-- An integer as an unsigned number of `n` bits, wrapping. -/
def wrapInt (n : Nat) (i : Int) : Nat := (i % (2 ^ n : Nat)).toNat

/-- `n` bytes of a number, little-endian (R6). -/
def leBytes : Nat → Nat → List Byte
  | 0, _ => []
  | n + 1, v => BitVec.ofNat 8 v :: leBytes n (v >>> 8)

/-- The number that bytes spell, little-endian (R6). -/
def leNum : List Byte → Nat
  | [] => 0
  | b :: bs => b.toNat + 256 * leNum bs

/-- The little-endian number of `n` bytes at offset `o`; bytes beyond the end read 0. -/
def leAt (bs : List Byte) (o n : Nat) : Nat := leNum ((bs.drop o).take n)

/-- `n` zero bytes: reserved fields. -/
def zeros (n : Nat) : List Byte := List.replicate n 0

/-- Reserved bytes that are 0. -/
def allZero (bs : List Byte) : Bool := bs.all (fun b => decide (b = 0))

/-- `bs` cut or filled with zeros to `n` bytes. -/
def padTo (n : Nat) (bs : List Byte) : List Byte := (bs ++ zeros n).take n

/-- `n` bytes of a number, the most significant first: network order. -/
def beBytes (n v : Nat) : List Byte := (leBytes n v).reverse

/-- Division rounded up. -/
def ceilDiv (a b : Nat) : Nat := (a + b - 1) / b

/-- Device time is kept in units of 2⁻³² ns (R299): one nanosecond. -/
def tNs : Nat := 2 ^ 32
def tUs : Nat := 1000 * tNs
def tMs : Nat := 1000000 * tNs
def tSec : Nat := 1000000000 * tNs

/-- Whole nanoseconds, seconds, and nanoseconds within the second of a time. -/
def nsOf (t : Nat) : Nat := t / tNs
def secOf (t : Nat) : Nat := nsOf t / 1000000000
def subNs (t : Nat) : Nat := nsOf t % 1000000000

/-- Low 32 bits of the seconds, then the nanoseconds: the time fields of entries and frames. -/
def timeBytes (t : Nat) : List Byte := leBytes 4 (secOf t) ++ leBytes 4 (subNs t)

/-- The instant whose low 32 second bits are `s32` and nanoseconds `ns`, nearest to `now`
within half the 32-bit range (R318). -/
def near32 (now s32 ns : Nat) : Int :=
  let d := signed 32 (wrapInt 32 ((s32 : Int) - (secOf now : Int)))
  (((secOf now : Int) + d) * 1000000000 + (ns : Int)) * (tNs : Int)

/-! ### Sparse tables -/

/-- The value at an index: the entry if it is listed, else the default. -/
def Tab.get {α : Type} (d : Nat → α) : Tab α → Nat → α
  | [], k => d k
  | e :: t, k => if e.1 = k then e.2 else Tab.get d t k

/-- Removes an index. -/
def Tab.del {α : Type} : Tab α → Nat → Tab α
  | [], _ => []
  | e :: t, k => if e.1 = k then Tab.del t k else e :: Tab.del t k

/-- Lists a value at an index, in rising order. -/
def Tab.ins {α : Type} : Tab α → Nat → α → Tab α
  | [], k, v => [(k, v)]
  | e :: t, k, v => if k < e.1 then (k, v) :: e :: t else if e.1 = k then (k, v) :: t else e :: Tab.ins t k v

/-- Writes a value, keeping the canonical form: the default value is not listed. -/
def Tab.put {α : Type} [DecidableEq α] (d : Nat → α) (t : Tab α) (k : Nat) (v : α) : Tab α :=
  if v = d k then Tab.del t k else Tab.ins t k v

/-- All indexes of a table lie above `k` in rising order and no entry holds the default. -/
def Tab.above {α : Type} [DecidableEq α] (d : Nat → α) : Option Nat → Tab α → Bool
  | _, [] => true
  | lo, e :: t => (match lo with | none => true | some k => decide (k < e.1)) && decide (e.2 ≠ d e.1) && Tab.above d (some e.1) t

/-- The canonical form. -/
def Tab.wf {α : Type} [DecidableEq α] (d : Nat → α) (t : Tab α) : Bool := Tab.above d none t

/-- Replaces element `i` of a list by `f` of it. -/
def listModify {α : Type} (f : α → α) : Nat → List α → List α
  | _, [] => []
  | 0, a :: l => f a :: l
  | n + 1, a :: l => a :: listModify f n l

end Sys2Proof.Machine
end

