-- ==== Sys2Proof/Machine/Crc.lean ====
section
/-! DEFINITION. CRC-32C (R205, R324, R417, R423): the reflected generator 0x82F63B78, all ones before and inverted after
(assumption 47); and the frame check sequence of Ethernet (IEEE 802.3), the same over the reflected generator 0xEDB88320. -/
namespace Sys2Proof.Machine

/-- One bit. -/
def crcBit (poly c : Nat) : Nat := if c % 2 = 0 then c / 2 else (c / 2) ^^^ poly

/-- One byte. -/
def crcByte (poly c : Nat) (b : Byte) : Nat := (List.range 8).foldl (fun c _ => crcBit poly c) (c ^^^ b.toNat)

/-- CRC-32C of bytes. -/
def crc32c (bs : List Byte) : Nat := bs.foldl (crcByte 0x82F63B78) 0xFFFFFFFF ^^^ 0xFFFFFFFF

/-- The frame check sequence of a frame, as its four bytes go on the wire (R364, IEEE 802.3). -/
def frameCheck (bs : List Byte) : List Byte := leBytes 4 (bs.foldl (crcByte 0xEDB88320) 0xFFFFFFFF ^^^ 0xFFFFFFFF)

end Sys2Proof.Machine
end

