-- ==== Sys2Proof/Machine/Frac.lean ====
section
/-! DEFINITION. Exact fractions, for the halo arithmetic of R226 and R229, the observables and the fix job. -/
namespace Sys2Proof.Machine

/-- A fraction: numerator over a denominator that no operation makes 0. -/
structure Frac where
  num : Int
  den : Nat
deriving DecidableEq, Repr

namespace Frac

def ofInt (i : Int) : Frac := ⟨i, 1⟩
def ofNat (n : Nat) : Frac := ⟨n, 1⟩

/-- n over d; d 0 counts as 1. -/
def ratio (n : Int) (d : Nat) : Frac := ⟨n, if d = 0 then 1 else d⟩

def add (a b : Frac) : Frac := ⟨a.num * b.den + b.num * a.den, a.den * b.den⟩
def sub (a b : Frac) : Frac := ⟨a.num * b.den - b.num * a.den, a.den * b.den⟩
def mul (a b : Frac) : Frac := ⟨a.num * b.num, a.den * b.den⟩
def le (a b : Frac) : Bool := decide (a.num * b.den ≤ b.num * a.den)
def lt (a b : Frac) : Bool := decide (a.num * b.den < b.num * a.den)
def min (a b : Frac) : Frac := if le a b then a else b
def max (a b : Frac) : Frac := if le a b then b else a

/-- The greatest integer at or below, and the least at or above. -/
def floor (a : Frac) : Int := a.num.fdiv a.den
def ceil (a : Frac) : Int := -((-a.num).fdiv a.den)

end Frac

/-- The greatest k below 2^n with k² ≤ v: one bit a step, from `k`. -/
def isqrtStep : Nat → Nat → Nat → Nat
  | 0, k, _ => k
  | n + 1, k, v => isqrtStep n (if (k + 2 ^ n) ^ 2 ≤ v then k + 2 ^ n else k) v

/-- The square root of a number below 2⁸⁸, rounded up. -/
def sqrtUp (v : Nat) : Nat :=
  let k := isqrtStep 44 0 v
  if k ^ 2 = v then k else k + 1

end Sys2Proof.Machine
end

