-- ==== Sys2Proof/Machine/Numerics.lean ====
section
/-! DEFINITION. The functions of R182, R188 and R175 that fractions do not give: the inverse normal distribution, the arc tangent
and sines, in fixed point. Their arithmetic is assumption 161. -/
namespace Sys2Proof.Machine

/-- The scale of the fixed-point values of this file. -/
def fix : Nat := 10 ^ 24

/-! ### The normal distribution (R180, R182) -/

/-- The terms of Σ yᵏ / k! from the k-th on, `n` of them: `t` is the k-th. -/
def expTerms (y : Nat) : Nat → Nat → Nat → Nat
  | 0, _, _ => 0
  | n + 1, k, t => t + expTerms y n (k + 1) (t * y / (fix * (k + 1)))

/-- e^y. -/
def expUp (y : Nat) : Nat := expTerms y 250 0 fix

/-- The continued fraction x + k / (x + (k + 1) / (x + …)), `n` levels deep. -/
def tailFrac (x : Nat) : Nat → Nat → Nat
  | 0, _ => x
  | n + 1, k => x + k * fix ^ 2 / tailFrac x n (k + 1)

/-- √(2π). -/
def rootTau : Nat := 2506628274631000502415765

/-- The tail probability 1 − Φ(x) of a positive x. -/
def normalTail (x : Nat) : Nat :=
  let density := fix ^ 3 / (expUp (x ^ 2 / (2 * fix)) * rootTau)
  density * fix / tailFrac x 100 1

/-- The greatest x of `n` more bits, in 10⁻⁹, whose tail is at least `p`. -/
def tailStep (p : Nat) : Nat → Nat → Nat
  | 0, x => x
  | n + 1, x => tailStep p n (if p ≤ normalTail ((x + 2 ^ n) * 10 ^ 15) then x + 2 ^ n else x)

/-- Φ⁻¹(1 − p) of a small probability p, in 10⁻⁹. -/
def phiInv (p : Frac) : Nat := tailStep (Frac.floor (Frac.mul p (Frac.ofNat fix))).toNat 34 0

/-! ### Angles (R175, R188) -/

/-- π. -/
def piFix : Int := 3141592653589793238462643

/-- The terms of Σ ± t²ᵏ⁺¹ / (2k + 1) from the k-th on, `n` of them: `p` is the power. -/
def atanTerms (t : Int) : Nat → Nat → Int → Int
  | 0, _, _ => 0
  | n + 1, k, p => p / ((2 * k + 1 : Nat) : Int) - atanTerms t n (k + 1) (p * t / fix * t / fix)

/-- atan of 0 ≤ t ≤ 1. -/
def atanUnit (t : Int) : Int :=
  if t * 5 ≤ 2 * fix then atanTerms t 60 0 t
  else let u := ((fix : Int) - t) * fix / (fix + t); piFix / 4 - atanTerms u 60 0 u

/-- atan(y / x) for y and x at least 0, not both 0. -/
def atanQuadrant (y x : Int) : Int := if y ≤ x then atanUnit (y * fix / x) else piFix / 2 - atanUnit (x * fix / y)

/-- An angle in 0.01°, to the nearest. -/
def centiDeg (a : Int) : Int := (a * 36000 + piFix) / (2 * piFix)

/-- atan2(y, x) in 0.01°, from −18,000 to 18,000. -/
def atan2 (y x : Int) : Int :=
  let q := centiDeg (atanQuadrant y.natAbs x.natAbs)
  if y = 0 ∧ x = 0 then 0
  else if 0 ≤ x then (if 0 ≤ y then q else -q)
  else if 0 ≤ y then 18000 - q else q - 18000

/-- sin n° and cos n°. -/
def sinCos : Nat → Int × Int
  | 0 => (0, fix)
  | n + 1 =>
    let p := sinCos n
    let s : Int := 17452406437283512819419
    let c : Int := 999847695156391239157012
    ((p.1 * c + p.2 * s) / fix, (p.2 * c - p.1 * s) / fix)

end Sys2Proof.Machine
end

