-- ==== Sys2Proof/Machine/Float.lean ====
section
/-! DEFINITION. IEEE 754 numbers of the observables and results (R97's FP32, R117's FP64): their exact values as fractions,
and the nearest number to a fraction, ties to even. -/
namespace Sys2Proof.Machine

/-- A binary interchange format: bits of the exponent and of the fraction. -/
structure FloatKind where
  exp : Nat
  frac : Nat

def fp32 : FloatKind := ⟨8, 23⟩
def fp64 : FloatKind := ⟨11, 52⟩

/-- The bias of the exponent. -/
def FloatKind.bias (k : FloatKind) : Nat := 2 ^ (k.exp - 1) - 1

/-- The exponent field of an encoding. -/
def FloatKind.expOf (k : FloatKind) (v : Nat) : Nat := v / 2 ^ k.frac % 2 ^ k.exp

/-- The encoding is a finite number. -/
def FloatKind.finite (k : FloatKind) (v : Nat) : Bool := decide (k.expOf v < 2 ^ k.exp - 1)

/-- The value of a finite encoding. -/
def FloatKind.toFrac (k : FloatKind) (v : Nat) : Frac :=
  let e := k.expOf v
  let m := v % 2 ^ k.frac + (if e = 0 then 0 else 2 ^ k.frac)
  let up := max 1 e
  let n := m * 2 ^ up
  let d := 2 ^ (k.bias + k.frac)
  ⟨if v / 2 ^ (k.exp + k.frac) % 2 = 1 then -(n : Int) else (n : Int), d⟩

/-- n / d to the nearest integer, ties to even. -/
def roundEven (n d : Nat) : Nat :=
  let q := n / d
  let r := 2 * (n % d)
  if d < r ∨ (r = d ∧ q % 2 = 1) then q + 1 else q

/-- The integer part of the binary logarithm of n / d, of positive n and d. -/
def floorLog2 (n d : Nat) : Int :=
  let e : Int := (Nat.log2 n : Int) - (Nat.log2 d : Int)
  if (if 0 ≤ e then n < d * 2 ^ e.toNat else n * 2 ^ (-e).toNat < d) then e - 1 else e

/-- The encoding nearest to a fraction; a magnitude beyond the format becomes an infinity. -/
def FloatKind.ofFrac (k : FloatKind) (x : Frac) : Nat :=
  let n := x.num.natAbs
  let sign := if x.num < 0 then 2 ^ (k.exp + k.frac) else 0
  if n = 0 then sign
  else
    -- the unit in the last place is 2^(e − frac), with e held at the least normal exponent
    let e := max (floorLog2 n x.den) (1 - (k.bias : Int))
    let u := e - (k.frac : Int)
    let m := if 0 ≤ u then roundEven n (x.den * 2 ^ u.toNat) else roundEven (n * 2 ^ (-u).toNat) x.den
    let v := m + ((e + (k.bias : Int) - 1).toNat) * 2 ^ k.frac
    sign + min v ((2 ^ k.exp - 1) * 2 ^ k.frac)

/-- The sum of two finite numbers, rounded once. -/
def FloatKind.add (k : FloatKind) (a b : Nat) : Nat := k.ofFrac (Frac.add (k.toFrac a) (k.toFrac b))

end Sys2Proof.Machine
end

