-- ==== Sys2Proof/Machine/Signals.lean ====
section
/-! DEFINITION. The signals of Table 4.5 with their carriers (Table 2.2) and MSM signal IDs. -/
namespace Sys2Proof.Machine

/-- A signal: its GNSS (Table 5.8), carrier and offset from its band's centre in Hz, both for frequency number 0 where GLONASS has
several, `step` Hz apart; its IDs for COMP 0, 1 and 2, and whether MSM messages carry it (R125). -/
structure SignalKind where
  gnss : Nat
  hz : Nat
  offset : Int
  step : Nat
  ids : List Nat
  msm : Bool

/-- The signals in the order of Table 4.5, then BeiDou B2b and NavIC L5, whose IDs Table 5.8 gives. -/
def signalKinds : List SignalKind := [
  ⟨0, 1575420000, 0, 0, [2, 2, 2], true⟩,
  ⟨0, 1575420000, 0, 0, [30, 31, 32], true⟩,
  ⟨0, 1227600000, -9400000, 0, [15, 16, 17], true⟩,
  ⟨0, 1176450000, -15345000, 0, [22, 23, 24], true⟩,
  ⟨1, 1602000000, 26580000, 562500, [2, 2, 2], true⟩,
  ⟨1, 1246000000, 9000000, 437500, [8, 8, 8], true⟩,
  ⟨2, 1575420000, 0, 0, [4, 2, 5], true⟩,
  ⟨2, 1176450000, -15345000, 0, [22, 23, 24], true⟩,
  ⟨2, 1207140000, 15345000, 0, [14, 15, 16], true⟩,
  ⟨2, 1278750000, 10230000, 0, [10, 8, 11], true⟩,
  ⟨3, 1575420000, 0, 0, [2, 2, 2], true⟩,
  ⟨3, 1575420000, 0, 0, [30, 31, 32], true⟩] ++ [
  ⟨4, 1561098000, -14322000, 0, [2, 3, 4], true⟩,
  ⟨4, 1268520000, 0, 0, [8, 9, 10], true⟩,
  ⟨4, 1575420000, 0, 0, [30, 31, 32], true⟩,
  ⟨4, 1176450000, -15345000, 0, [22, 23, 24], true⟩,
  ⟨4, 1207140000, 15345000, 0, [14, 14, 14], false⟩,
  ⟨5, 1176450000, -15345000, 0, [22, 22, 22], false⟩]

/-- Kind `k` of the list; a number beyond it names none. -/
def signalKind (k : Nat) : Option SignalKind := (signalKinds.drop k).head?

/-- The MSM signal ID of a kind by COMP; COMP 3 is reserved and reads as 2. -/
def signalId (x : SignalKind) (comp : Nat) : Nat := (x.ids.drop (min comp 2)).headD 0

/-- The kind that a GNSS and an ID name: where several do, the first. -/
def kindOfId (gnss id : Nat) : Option SignalKind := signalKinds.find? (fun x => decide (x.gnss = gnss) && x.ids.contains id)

/-- Carrier of a kind in Hz, and its offset from the band's centre (Table 2.2); GLONASS on frequency number `gloK` − 7. -/
def carrierHz (x : SignalKind) (gloK : Nat) : Nat := ((x.hz : Int) + (x.step : Int) * ((gloK : Int) - 7)).toNat
def carrierOffset (x : SignalKind) (gloK : Nat) : Int := x.offset + (x.step : Int) * ((gloK : Int) - 7)

/-- The speed of light in m/s, and the wavelength in metres. -/
def lightSpeed : Nat := 299792458
def waveLength (x : SignalKind) (gloK : Nat) : Frac := Frac.ratio (lightSpeed : Int) (carrierHz x gloK)

end Sys2Proof.Machine
end

