-- ==== Sys2Proof/Machine/Rtcm.lean ====
section
/-! DEFINITION. RTCM 10403.3 frames (R128 to R132): the layouts of the messages of Table 4.4, their data fields and the CRC-24Q.
The spec names the standard; its layouts are assumption 156. -/
namespace Sys2Proof.Machine

/-! ### Bits and frames -/

/-- A message as fields: width in bits, and value, of which the low bits count. -/
abbrev BitFields := List (Nat × Nat)

/-- A signed value as a field. -/
def sField (w : Nat) (v : Int) : Nat × Nat := (w, wrapInt w v)

/-- The fields in order, the most significant bit first, filled with zeros to whole bytes. -/
def packFields (l : BitFields) : List Byte :=
  let p := l.foldl (fun (a : Nat × Nat) f => (a.1 + f.1, a.2 * 2 ^ f.1 + f.2 % 2 ^ f.1)) (0, 0)
  let n := ceilDiv p.1 8
  beBytes n (p.2 * 2 ^ (8 * n - p.1))

/-- One bit of the CRC-24Q, generator 0x1864CFB. -/
def crc24Bit (c : Nat) : Nat := if c < 2 ^ 23 then 2 * c else (2 * c) ^^^ 0x1864CFB

/-- CRC-24Q. -/
def crc24q (bs : List Byte) : Nat :=
  bs.foldl (fun c b => (List.range 8).foldl (fun c _ => crc24Bit c) (c ^^^ (b.toNat * 2 ^ 16))) 0

/-- A frame: preamble, length, message, CRC. -/
def rtcmWrap (body : List Byte) : List Byte :=
  let f := 0xD3 :: beBytes 2 (body.length % 1024) ++ body
  f ++ beBytes 3 (crc24q f)

/-! ### Values -/

/-- To the nearest integer, a half upwards. -/
def nearest (x : Frac) : Int := Frac.floor (Frac.add x ⟨1, 2⟩)

/-- A value in its units, or the invalid value where it does not fit in ± `lim`. -/
def orInvalid (lim invalid v : Int) : Int := if v.natAbs ≤ lim.natAbs then v else invalid

/-- Metres of one millisecond of light, × 1,000. -/
def lightMs : Frac := ⟨299792458, 1000⟩

/-- Pseudorange, phase range and phase range rate of an observable, in metres and m/s. The rate is minus the Doppler in
wavelengths. -/
def prOf (o : BaseSig) : Frac := fp64.toFrac o.pr
def waveOf (o : BaseSig) : Frac := match signalKind o.kind with | some x => waveLength x o.gloK | none => ⟨0, 1⟩
def phaseOf (o : BaseSig) : Frac := Frac.mul (fp64.toFrac o.phase) (waveOf o)
def rateOf (o : BaseSig) : Frac := Frac.sub ⟨0, 1⟩ (Frac.mul (fp32.toFrac o.doppler) (waveOf o))

/-- x in units of n / d. -/
def inUnits (x : Frac) (n d : Nat) : Int := nearest (Frac.mul x (Frac.ratio ((d : Nat) : Int) n))

/-! ### Lock time indicators -/

/-- DF013, DF019, DF043, DF049 of a lock time in ms. -/
def lockLegacy (ms : Nat) : Nat :=
  let t := ms / 1000
  if t < 24 then t
  else if t < 72 then (t + 24) / 2
  else if t < 168 then (t + 120) / 4
  else if t < 360 then (t + 408) / 8
  else if t < 744 then (t + 1176) / 16
  else if t < 937 then (t + 3096) / 32
  else 127

/-- DF402. -/
def lockMsm4 (ms : Nat) : Nat := if ms < 32 then 0 else min 15 (Nat.log2 ms - 4)

/-- DF407. -/
def lockMsm7 (ms : Nat) : Nat :=
  if ms < 64 then ms
  else let k := Nat.log2 ms - 5; min 704 (ms / 2 ^ k + 32 * k)

/-! ### Legacy observations -/

/-- What tells 1004 from 1012: the width and range of the pseudorange, the width of its ambiguity, whether the frequency channel
follows. -/
structure LegacyKind where
  prBits : Nat
  lanes : Nat
  ambBits : Nat
  glonass : Bool

def legacyGps : LegacyKind := ⟨24, 1, 8, false⟩
def legacyGlo : LegacyKind := ⟨25, 2, 7, true⟩

/-- A phase range less the transmitted pseudorange, in 0.5 mm; invalid with an unresolved half cycle (R130). -/
def legacyPhase (o : BaseSig) (sent : Frac) : Int :=
  if o.half then -524288 else orInvalid 524287 (-524288) (inUnits (Frac.sub (phaseOf o) sent) 1 2000)

/-- One satellite of a legacy message: its L1 signal and, where present, its L2 signal. -/
def legacySat (k : LegacyKind) (a : BaseSig) (b : Option BaseSig) : BitFields :=
  let lane := Frac.mul lightMs (Frac.ofNat k.lanes)
  let amb := Frac.floor (Frac.mul (prOf a) (Frac.ratio 1000 (299792458 * k.lanes)))
  let pr := inUnits (Frac.sub (prOf a) (Frac.mul lane (Frac.ofInt amb))) 1 50
  let sent := Frac.add (Frac.mul lane (Frac.ofInt amb)) ⟨pr, 50⟩
  [(6, a.sat), (1, 0)] ++ (if k.glonass then [(5, a.gloK)] else []) ++
  [sField k.prBits pr, sField 20 (legacyPhase a sent), (7, lockLegacy a.lock), sField k.ambBits amb, (8, a.cn0), (2, 0)] ++
  (match b with
    | some b => [sField 14 (orInvalid 8191 (-8192) (inUnits (Frac.sub (prOf b) sent) 1 50)), sField 20 (legacyPhase b sent),
        (7, lockLegacy b.lock), (8, b.cn0)]
    | none => [sField 14 (-8192), sField 20 (-524288), (7, 0), (8, 0)])

/-- The satellites of a list in ascending order, each once. -/
def satsOf (l : List BaseSig) : List Nat := (List.range 256).filter (fun k => l.any (fun o => decide (o.sat = k)))

/-- A signal on L1 (true) or L2 of a legacy message (R126). -/
def legacyL1 (o : BaseSig) : Bool := decide (o.kind = 0) || decide (o.kind = 4)
def legacyL2 (o : BaseSig) : Bool := decide (o.kind = 2) || decide (o.kind = 5)

/-- The satellites of a legacy message. -/
def legacyBody (k : LegacyKind) (l : List BaseSig) : BitFields :=
  (satsOf l).flatMap (fun n =>
    match l.find? (fun o => decide (o.sat = n) && legacyL1 o) with
    | some a => legacySat k a (l.find? (fun o => decide (o.sat = n) && legacyL2 o))
    | none => [])

/-! ### MSM -/

/-- The signal IDs of a list in ascending order. -/
def sigsOf (l : List BaseSig) : List Nat := (List.range 33).filter (fun k => l.any (fun o => decide (o.signal = k)))

/-- A mask of `w` bits, number 1 the most significant. -/
def msmMask (w : Nat) (l : List Nat) : Nat × Nat := (w, l.foldl (fun v k => v + 2 ^ (w - k)) 0)

/-- The observable of a cell. -/
def cellSig (l : List BaseSig) (sat sig : Nat) : Option BaseSig := l.find? (fun o => decide (o.sat = sat) && decide (o.signal = sig))

/-- The rough range of a satellite in 2⁻¹⁰ ms, and its rough rate in m/s: those of its signal of lowest ID. -/
def roughRange (o : BaseSig) : Int := nearest (Frac.mul (prOf o) ⟨1024 * 1000, 299792458⟩)
def roughRate (o : BaseSig) : Int := orInvalid 8191 (-8192) (nearest (rateOf o))

/-- A range less its satellite's rough range, in 2⁻ᵇ ms, invalid beyond `w` bits. -/
def fineRange (w b : Nat) (x : Frac) (rough : Int) : Nat × Nat :=
  let v := nearest (Frac.mul (Frac.sub (Frac.mul x ⟨1000, 299792458⟩) ⟨rough, 1024⟩) (Frac.ofNat (2 ^ b)))
  sField w (orInvalid (2 ^ (w - 1) - 1 : Nat) (-(2 ^ (w - 1) : Nat)) v)

/-- DF397 and DF398. -/
def roughInt (r : Int) : Nat × Nat := (8, if 0 ≤ r ∧ r < 255 * 1024 then r.toNat / 1024 else 255)
def roughMod (r : Int) : Nat × Nat := sField 10 (r % 1024)

/-- The body of an MSM4 (`full` false) or MSM7 message: masks, satellite data, signal data (R130). -/
def msmBody (full : Bool) (l : List BaseSig) : BitFields :=
  let sats := satsOf l
  let sigs := sigsOf l
  let firstOf (n : Nat) : Option BaseSig := (sigs.filterMap (cellSig l n)).head?
  let perSat (f : BaseSig → Nat × Nat) : BitFields := sats.filterMap (fun n => (firstOf n).map f)
  let perCell (f : BaseSig → BaseSig → Nat × Nat) : BitFields :=
    sats.flatMap (fun n => match firstOf n with | some a => sigs.filterMap (fun k => (cellSig l n k).map (f a)) | none => [])
  let cellMask : BitFields := sats.flatMap (fun n => sigs.map (fun k => (1, b2n (cellSig l n k).isSome)))
  let bitsOf (n4 n7 : Nat) : Nat := if full then n7 else n4
  [msmMask 64 sats, msmMask 32 sigs] ++ cellMask ++
  perSat (fun a => roughInt (roughRange a)) ++
  (if full then perSat (fun a => (4, if a.gnss = 1 then a.gloK else 0)) else []) ++
  perSat (fun a => roughMod (roughRange a)) ++
  (if full then perSat (fun a => sField 14 (roughRate a)) else []) ++
  perCell (fun a o => fineRange (bitsOf 15 20) (bitsOf 24 29) (prOf o) (roughRange a)) ++
  perCell (fun a o => fineRange (bitsOf 22 24) (bitsOf 29 31) (phaseOf o) (roughRange a)) ++
  perCell (fun _ o => if full then (10, lockMsm7 o.lock) else (4, lockMsm4 o.lock)) ++
  perCell (fun _ o => (1, b2n o.half)) ++
  perCell (fun _ o => if full then (10, o.cn0 * 4) else (6, (o.cn0 + 2) / 4)) ++
  (if full then perCell (fun a o =>
    sField 15 (orInvalid 16383 (-16384) (if roughRate a = -8192 then -16384
      else nearest (Frac.mul (Frac.sub (rateOf o) (Frac.ofInt (roughRate a))) (Frac.ofNat 10000)))))
   else [])

/-! ### Messages -/

/-- A header field of a message by its DF number; 0 where it has none. -/
def dfOf (m : RtcmMsg) (df : Nat) : Int := match m.fields.find? (fun f => f.1 = df) with | some f => f.2 | none => 0
def dfField (m : RtcmMsg) (w df : Nat) : Nat × Nat := sField w (dfOf m df)

/-- A text field: its length, its characters. -/
def textField (m : RtcmMsg) (df : Nat) : BitFields :=
  let t := match m.texts.find? (fun f => f.1 = df) with | some f => f.2 | none => []
  (8, t.length) :: t.map (fun b => (8, b.toNat))

/-- The MSM header up to the satellite mask; `time` is the epoch time of the GNSS. -/
def msmHead (m : RtcmMsg) (time : BitFields) : BitFields :=
  time ++ [dfField m 1 393, dfField m 3 409, (7, 0), dfField m 2 411, dfField m 2 412, dfField m 1 417, dfField m 3 418]

/-- The fields of a message after its number and station ID. -/
def msgFields (m : RtcmMsg) : BitFields :=
  let f := dfField m
  match m.number with
  | 1004 => [f 30 4, f 1 5, (5, (satsOf m.sigs).length), f 1 7, f 3 8] ++ legacyBody legacyGps m.sigs
  | 1012 => [f 27 34, f 1 5, (5, (satsOf m.sigs).length), f 1 36, f 3 37] ++ legacyBody legacyGlo m.sigs
  | 1005 => [f 6 21, f 1 22, f 1 23, f 1 24, f 1 141, f 38 25, f 1 142, (1, 0), f 38 26, f 2 364, f 38 27]
  | 1006 => [f 6 21, f 1 22, f 1 23, f 1 24, f 1 141, f 38 25, f 1 142, (1, 0), f 38 26, f 2 364, f 38 27, f 16 28]
  | 1007 => textField m 30 ++ [f 8 31]
  | 1008 => textField m 30 ++ [f 8 31] ++ textField m 33
  | 1033 => textField m 30 ++ [f 8 31] ++ textField m 33 ++ textField m 228 ++ textField m 230 ++ textField m 232
  | 1230 => [f 1 421, (3, 0), f 4 422] ++ (if m.fields.any (fun x => x.1 = 423) then [f 16 423] else []) ++
      (if m.fields.any (fun x => x.1 = 425) then [f 16 425] else [])
  | 1074 | 1077 => msmHead m [f 30 4] ++ msmBody (decide (m.number = 1077)) m.sigs
  | 1084 | 1087 => msmHead m [f 3 416, f 27 34] ++ msmBody (decide (m.number = 1087)) m.sigs
  | 1094 | 1097 => msmHead m [f 30 248] ++ msmBody (decide (m.number = 1097)) m.sigs
  | 1114 | 1117 => msmHead m [f 30 428] ++ msmBody (decide (m.number = 1117)) m.sigs
  | _ => msmHead m [f 30 427] ++ msmBody (decide (m.number = 1127)) m.sigs

/-- The frame of a message. -/
def rtcmFrame (m : RtcmMsg) : List Byte := rtcmWrap (packFields ([(12, m.number), dfField m 12 3] ++ msgFields m))

end Sys2Proof.Machine
end

