-- ==== Sys2Proof/Machine/Lane.lean ====
section
/-! DEFINITION. The octets of a JESD204B lane (R40, R41, R49): alignment character replacement, the descrambler, samples. -/
namespace Sys2Proof.Machine

/-- One frame of a lane as the 8b/10b decoder gives it: octet k in bits [9k + 7 : 9k], bit 9k + 8 set where it is a control
character, bit 36 set where the frame holds a disparity or not-in-table error. -/
abbrev LaneFrame := BitVec 37

/-- Octet `k` of a frame, and whether it is a control character. -/
def laneOctet (f : LaneFrame) (k : Nat) : Nat := f.toNat >>> (9 * k) % 256
def laneControl (f : LaneFrame) (k : Nat) : Bool := f.getLsbD (9 * k + 8)
def laneError (f : LaneFrame) : Bool := f.getLsbD 36

/-- Lane alignment character replacement undone at a frame's last octet: unscrambled, /F/ (K28.7) and /A/ (K28.3) stand for the
last octet of the frame before; scrambled, for the octet of their own value (JESD204B; assumption 145). -/
def laneLast (scrambled : Bool) (prev : Nat) (f : LaneFrame) : Nat :=
  if laneControl f 3 && !scrambled then prev else laneOctet f 3

/-- The four octets of a frame as one number, octet 0, the first sent, the most significant. -/
def laneWord (scrambled : Bool) (prev : Nat) (f : LaneFrame) : Nat :=
  laneOctet f 0 * 2 ^ 24 + laneOctet f 1 * 2 ^ 16 + laneOctet f 2 * 2 ^ 8 + laneLast scrambled prev f

/-- The descrambler 1 + x¹⁴ + x¹⁵: each bit with the bits received 14 and 15 before it, from the word before on (R40). -/
def descramble (prev cur : Nat) : Nat :=
  let w := prev % 2 ^ 32 * 2 ^ 32 + cur
  (w ^^^ (w >>> 14) ^^^ (w >>> 15)) % 2 ^ 32

/-- The decoded words of a run of frames, from the word received before it; none where the frame holds an error (R49). -/
def laneWords (scrambled : Bool) : Nat → List LaneFrame → List (Option Nat)
  | _, [] => []
  | prev, f :: fs =>
    let w := laneWord scrambled (prev % 256) f
    (if laneError f then none else some (if scrambled then descramble prev w else w)) :: laneWords scrambled w fs

/-- The words of a run of frames whose first two frames are only what the lane carried before: they deliver no samples. Two are
enough: an /F/ never follows an alignment character, so what an /A/ after an /F/ stands for is the octet two frames back. -/
def laneRun (scrambled : Bool) : List LaneFrame → List (Option Nat)
  | f :: g :: fs => laneWords scrambled (laneWord scrambled (laneOctet f 3) g) fs
  | _ => []

/-- The octet of band `b` in a decoded word: frame octet b carries band B_b (R41). -/
def bandOctet (b w : Nat) : Nat := w >>> (8 * (3 - b)) % 256

/-- The sample of an octet: I in bits [7:4], Q in bits [3:0], two's complement (R41). -/
def sampleOf (o : Nat) : Int × Int := (signed 4 (o / 16), signed 4 o)

end Sys2Proof.Machine
end

