-- ==== Sys2Proof/Config.lean ====
section
/-! DEFINITION. What the spec leaves to an implementation, to firmware, or open: uninterpreted constants. Nothing can evaluate
them, so a proof holds whatever they are (assumptions 2 to 4, 77 and 80). -/
namespace Sys2Proof.Config
open Sys2Proof

/-- A fresh 32-byte random nonce (R469), by its number. -/
opaque nonce (n : Nat) : BitVec 256

/-! ### Free values: one for each value of the counter State.free -/

/-- A number that the spec does not give. -/
opaque free (n : Nat) : Nat
/-- A tamper source among those that have fired is active at an instant of the RTC: LPO cycles, and the fraction in TIME cycles
(Table 15.2). -/
opaque tampActive (fired lpo frac : Nat) : Bool
/-- How often an event of Table 16.5 that a part below this model counts occurs in a TIME cycle: on a core, or in the system (R482). -/
opaque coreEvents (core event cycle : Nat) : Nat
opaque systemEvents (event cycle : Nat) : Nat
/-- |correlation|² of one coherent block as FP32 (R90, R91): whether the samples are a rover's, the samples, COH in µs, the bin's
centre in 0.1 Hz, and the 65,536 samples of the replica that the block is multiplied by, shifted round to the code phase. It stands
for the resampling, the carrier's removal and the rounding of the products and sums. Finite and not negative: the search keeps it
below infinity. -/
opaque blockPower (rover : Bool) (samples : List Byte) (cohUs : Nat) (centre : Int) (replica : List Int) : Nat
/-- An entry of the mixer's table (R63): sine, then cosine, of phase k of 64. The mixer keeps each within ±7. -/
opaque carrierTable (k : Nat) : Int × Int
/-! ### Polestar's estimator (R177 to R188): observation variances, linearisation and arithmetic are not given -/

/-- The code-only solution of an epoch (R167, R174). -/
opaque codeSol (c : CodeIn) : CodeOut
/-- Innovation in nm and its standard deviation in nm of each observation of an epoch (R178). -/
opaque innovations (f : FilterIn) : List (Int × Nat)
/-- The float solution. -/
opaque floatSol (f : FilterIn) : FilterOut
/-- The conditional standard deviations of the decorrelated candidates, in 10⁻⁹ cycle (R180). -/
opaque decorrelated (f : FilterIn) : List Nat
/-- The search of the first `k` of them, ordered, at most `limit` vectors (R180). -/
opaque search (f : FilterIn) (k limit : Nat) : SearchOut
/-- The solution with the first `k` at the best vector. -/
opaque fixedSol (f : FilterIn) (k : Nat) : FilterOut
/-- The deviations of the separation of a subset solution from the full one, each fixed by `k` ambiguities or float (R183). -/
opaque separation (full sub : FilterIn) (k l : Option Nat) : SepOut
/-- The baseline of the observations of R187 from what the epoch before left: float, or fixed by the first `k`. -/
opaque baselineSol (f : FilterIn) (k : Option Nat) : BaseOut
/-- The Doppler in 0.1 Hz with which a signal is predicted at a position in 0.1 mm and a capture time in ns, where it is visible
there (R101, item 1). -/
opaque snapPredict (eph : SnapEph) (x y z : Int) (t : Nat) : Option (BitVec 32)
/-- What the solver of a snapshot makes of its searches (R101, item 3): the ephemerides searched for, in the order of the searches'
JOB_TAGs, the searches' results, the prior position in 0.1 mm and the capture time in ns. -/
opaque snapEst (ephs : List SnapEph) (results : List (List Byte)) (x y z : Int) (t : Nat) : SnapEst
/-- PL_h and PL_v in mm of a snapshot's solution, from its residuals at IR_EXP (R101, item 4). -/
opaque snapLevels (est : SnapEst) (ephs : List SnapEph) (ir : Nat) : Nat × Nat
/-- The position in 0.1 mm of one epoch's ionosphere-free code solution (R110): the combinations by GNSS, satellite and the kinds
of their two signals, in nm, and the satellites; none where they do not determine it. -/
opaque pointSol (codes : List (Nat × Nat × Nat × Nat × Int)) (sats : List SatPos) : Option (Int × Int × Int)
/-- The 3D 1σ in mm of the mean of single-epoch solutions (R111). -/
opaque surveySigma (sols : List (Int × Int × Int)) : Nat
/-- The estimator of a relative survey after one more epoch (R110): what it held, the two antennas' observables, the satellites, and
where the antenna that the baseline starts from lies, in 0.1 mm. -/
opaque surveyStep (old : Option SurveyEst) (ant ref : List BaseSig) (sats : List SatPos) (x y z : Int) : SurveyEst
/-- What a survey without one epoch of an antenna yields for it, by free number (assumption 192). -/
opaque surveyEst (n : Nat) : SurveyEst
/-- The ECEF offset in µm of an offset east, north and up in µm at an ECEF origin in 0.1 mm (R177). -/
opaque ecefOf (ox oy oz e n u : Int) : Int × Int × Int
/-- East, north and up, in µm, of an ECEF offset at an ECEF origin, both in 0.1 mm: the plane of R208. -/
opaque enuOf (ox oy oz x y z : Int) : Int × Int × Int

end Sys2Proof.Config
end

