-- ==== Sys2Proof/Machine/Crypto.lean ====
section
/-! DEFINITION. The cryptographic functions that the spec names by their standards (assumption 3): AES (FIPS 197) with CMAC
(NIST SP 800-38B) and key wrap (NIST SP 800-38F), SHA-256 and SHA-384 (FIPS 180-4), HMAC (FIPS 198-1), the counter-mode KDF of R446 and ECDSA P-384
verification (FIPS 186-4). Octet strings are lists of bytes. -/
namespace Sys2Proof.Machine

/-- Octets as one number, the first octet the most significant: how these standards read their inputs. -/
def beNum (bs : List Byte) : Nat := bs.foldl (fun a b => a * 256 + b.toNat) 0

/-! ### AES -/

/-- The S-box (FIPS 197, Figure 7): a row for each high digit, the octet of low digit 0 first. -/
def aesSbox : List Nat :=
  [0x637c777bf26b6fc53001672bfed7ab76, 0xca82c97dfa5947f0add4a2af9ca472c0,
   0xb7fd9326363ff7cc34a5e5f171d83115, 0x04c723c31896059a071280e2eb27b275,
   0x09832c1a1b6e5aa0523bd6b329e32f84, 0x53d100ed20fcb15b6acbbe394a4c58cf,
   0xd0efaafb434d338545f9027f503c9fa8, 0x51a3408f929d38f5bcb6da2110fff3d2,
   0xcd0c13ec5f974417c4a77e3d645d1973, 0x60814fdc222a908846eeb814de5e0bdb,
   0xe0323a0a4906245cc2d3ac629195e479, 0xe7c8376d8dd54ea96c56f4ea657aae08,
   0xba78252e1ca6b4c6e8dd741f4bbd8b8a, 0x703eb5664803f60e613557b986c11d9e,
   0xe1f8981169d98e949b1e87e9ce5528df, 0x8ca1890dbfe6426841992d0fb054bb16]

/-- The element of a list of numbers, 0 beyond its end. -/
def natAt (l : List Nat) (i : Nat) : Nat := (l.drop i).headD 0

/-- SubBytes of one octet. -/
def aesSub (a : Nat) : Nat := natAt aesSbox (a / 16) >>> (8 * (15 - a % 16)) % 256

/-- Multiplication by x in GF(2⁸). -/
def aesX (a : Nat) : Nat := if a < 128 then 2 * a else (2 * a - 256) ^^^ 0x1b

/-- ShiftRows on the 16 octets in their input order: octet i moves to column i / 4 from column i / 4 + i mod 4. -/
def aesShift (s : List Nat) : List Nat := (List.range 16).map (fun i => natAt s ((i + 4 * (i % 4)) % 16))

/-- MixColumns of one column. -/
def aesMixCol (a b c d : Nat) : List Nat :=
  let t := a ^^^ b ^^^ c ^^^ d
  [a ^^^ t ^^^ aesX (a ^^^ b), b ^^^ t ^^^ aesX (b ^^^ c), c ^^^ t ^^^ aesX (c ^^^ d), d ^^^ t ^^^ aesX (d ^^^ a)]

/-- MixColumns. -/
def aesMix : List Nat → List Nat
  | a :: b :: c :: d :: s => aesMixCol a b c d ++ aesMix s
  | s => s

/-- The exclusive or of two octet lists. -/
def natXor (a b : List Nat) : List Nat := List.zipWith (fun x y => x ^^^ y) a b

/-- Key expansion: from the words so far, newest first, word number `i` on (FIPS 197, Figure 11); `nk` words of key. -/
def aesExpand (nk : Nat) : Nat → Nat → Nat → List (List Nat) → List (List Nat)
  | 0, _, _, ws => ws
  | n + 1, i, rcon, ws =>
    let t := ws.headD []
    let old := (ws.drop (nk - 1)).headD []
    let u :=
      if i % nk = 0 then natXor (((t.drop 1) ++ t.take 1).map aesSub) [rcon, 0, 0, 0]
      else if nk > 6 ∧ i % nk = 4 then t.map aesSub
      else t
    aesExpand nk n (i + 1) (if i % nk = 0 then aesX rcon else rcon) (natXor old u :: ws)

/-- A list cut into words of four octets. -/
def aesWords : List Nat → List (List Nat)
  | a :: b :: c :: d :: s => [a, b, c, d] :: aesWords s
  | _ => []

/-- The round keys of a 16- or 32-octet key, 16 octets each. -/
def aesKeys (key : List Byte) : List (List Nat) :=
  let nk := key.length / 4
  let words := (aesExpand nk (4 * (nk + 7) - nk) nk 1 (aesWords (key.map (·.toNat))).reverse).reverse
  (List.range (nk + 7)).map (fun r => ((words.drop (4 * r)).take 4).flatten)

/-- The rounds after the first key addition: the last has no MixColumns. -/
def aesRounds : List (List Nat) → List Nat → List Nat
  | [], s => s
  | [k], s => natXor (aesShift (s.map aesSub)) k
  | k :: ks, s => aesRounds ks (natXor (aesMix (aesShift (s.map aesSub))) k)

/-- AES encryption of one 16-octet block under round keys. -/
def aesEnc (ks : List (List Nat)) (block : List Byte) : List Byte :=
  (aesRounds (ks.drop 1) (natXor (block.map (·.toNat)) (ks.headD []))).map (BitVec.ofNat 8)

/-- AES encryption of one 16-octet block. -/
def aesBlock (key block : List Byte) : List Byte := aesEnc (aesKeys key) block

/-- The inverse S-box (FIPS 197, Figure 14), as `aesSbox`. -/
def aesSboxInv : List Nat :=
  [0x52096ad53036a538bf40a39e81f3d7fb, 0x7ce339829b2fff87348e4344c4dee9cb,
   0x547b9432a6c2233dee4c950b42fac34e, 0x082ea16628d924b2765ba2496d8bd125,
   0x72f8f66486689816d4a45ccc5d65b692, 0x6c704850fdedb9da5e154657a78d9d84,
   0x90d8ab008cbcd30af7e45805b8b34506, 0xd02c1e8fca3f0f02c1afbd0301138a6b,
   0x3a9111414f67dcea97f2cfcef0b4e673, 0x96ac7422e7ad3585e2f937e81c75df6e,
   0x47f11a711d29c5896fb7620eaa18be1b, 0xfc563e4bc6d279209adbc0fe78cd5af4,
   0x1fdda8338807c731b11210592780ec5f, 0x60517fa919b54a0d2de57a9f93c99cef,
   0xa0e03b4dae2af5b0c8ebbb3c83539961, 0x172b047eba77d626e169146355210c7d]

/-- InvSubBytes of one octet. -/
def aesSubInv (a : Nat) : Nat := natAt aesSboxInv (a / 16) >>> (8 * (15 - a % 16)) % 256

/-- InvShiftRows. -/
def aesShiftInv (s : List Nat) : List Nat := (List.range 16).map (fun i => natAt s ((i + 12 * (i % 4)) % 16))

/-- InvMixColumns: MixColumns, once a column's first and third octets, and its second and fourth, have taken four times their sum. -/
def aesMixInv : List Nat → List Nat
  | a :: b :: c :: d :: s =>
    let u := aesX (aesX (a ^^^ c))
    let v := aesX (aesX (b ^^^ d))
    aesMixCol (a ^^^ u) (b ^^^ v) (c ^^^ u) (d ^^^ v) ++ aesMixInv s
  | s => s

/-- The inverse rounds, from the last round key on; the last adds the first key and has no InvMixColumns. -/
def aesRoundsInv : List (List Nat) → List Nat → List Nat
  | [], s => s
  | [k], s => natXor ((aesShiftInv s).map aesSubInv) k
  | k :: ks, s => aesRoundsInv ks (aesMixInv (natXor ((aesShiftInv s).map aesSubInv) k))

/-- AES decryption of one 16-octet block under round keys. -/
def aesDec (ks : List (List Nat)) (block : List Byte) : List Byte :=
  let r := ks.reverse
  (aesRoundsInv (r.drop 1) (natXor (block.map (·.toNat)) (r.headD []))).map (BitVec.ofNat 8)

/-- The exclusive or of two octet strings. -/
def byteXor (a b : List Byte) : List Byte := List.zipWith (fun x y => x ^^^ y) a b

/-- A CMAC subkey from the value before it: doubling in GF(2¹²⁸). -/
def cmacDouble (l : List Byte) : List Byte :=
  let v := beNum l
  beBytes 16 (if v < 2 ^ 127 then 2 * v else (2 * v - 2 ^ 128) ^^^ 0x87)

/-- The CBC chain of CMAC: every block but the last, then the last with its subkey `k1` (whole) or `k2` (padded). The first
argument bounds the number of blocks. -/
def cmacChain (key k1 k2 : List Byte) : Nat → List Byte → List Byte → List Byte
  | 0, x, _ => x
  | n + 1, x, m =>
    if m.length < 16 then aesBlock key (byteXor x (byteXor k2 (padTo 16 (m ++ [0x80]))))
    else if m.length = 16 then aesBlock key (byteXor x (byteXor k1 m))
    else cmacChain key k1 k2 n (aesBlock key (byteXor x (m.take 16))) (m.drop 16)

/-- AES-CMAC of a message: 16 octets. -/
def aesCmac (key msg : List Byte) : List Byte :=
  let k1 := cmacDouble (aesBlock key (zeros 16))
  cmacChain key k1 (cmacDouble k1) (msg.length / 16 + 1) (zeros 16) msg

/-! ### AES key wrap (NIST SP 800-38F, KW) -/

/-- The initial value. -/
def kwInit : List Byte := List.replicate 8 0xA6

/-- A string cut into semiblocks of 8 octets; the first argument bounds their number. -/
def kwBlocks : Nat → List Byte → List (List Byte)
  | 0, _ => []
  | n + 1, b => if b.isEmpty then [] else b.take 8 :: kwBlocks n (b.drop 8)

/-- One pass over the semiblocks, from step number `t` on: the integrity register, and the semiblocks. -/
def kwPass (ks : List (List Nat)) : Nat → List Byte → List (List Byte) → List Byte × List (List Byte)
  | _, a, [] => (a, [])
  | t, a, r :: rs =>
    let b := aesEnc ks (a ++ r)
    let p := kwPass ks (t + 1) (byteXor (b.take 8) (beBytes 8 t)) rs
    (p.1, b.drop 8 :: p.2)

/-- One pass backwards over the semiblocks, last first, from step number `t` down. -/
def kwUnpass (ks : List (List Nat)) : Nat → List Byte → List (List Byte) → List Byte × List (List Byte)
  | _, a, [] => (a, [])
  | t, a, r :: rs =>
    let b := aesDec ks (byteXor a (beBytes 8 t) ++ r)
    let p := kwUnpass ks (t - 1) (b.take 8) rs
    (p.1, b.drop 8 :: p.2)

/-- A key wrapped under `key`; nothing where there is none. -/
def kwWrap (key plain : List Byte) : List Byte :=
  if plain.isEmpty then []
  else
    let ks := aesKeys key
    let rs := kwBlocks plain.length plain
    let p := (List.range 6).foldl (fun p j => kwPass ks (rs.length * j + 1) p.1 p.2) (kwInit, rs)
    p.1 ++ p.2.flatten

/-- The key that a wrapped one holds, where it passes its check. -/
def kwUnwrap (key wrapped : List Byte) : Option (List Byte) :=
  if wrapped.isEmpty then some []
  else
    let ks := aesKeys key
    let rs := kwBlocks wrapped.length (wrapped.drop 8)
    let p := (List.range 6).foldl (fun p j => kwUnpass ks (rs.length * (6 - j)) p.1 p.2) (wrapped.take 8, rs.reverse)
    if p.1 = kwInit then some p.2.reverse.flatten else none

/-! ### SHA-2 -/

/-- The 64 round constants of SHA-256 (FIPS 180-4, 4.2.2). -/
def shaK256 : List Nat :=
  [0x428a2f98, 0x71374491, 0xb5c0fbcf, 0xe9b5dba5, 0x3956c25b, 0x59f111f1, 0x923f82a4, 0xab1c5ed5] ++
  [0xd807aa98, 0x12835b01, 0x243185be, 0x550c7dc3, 0x72be5d74, 0x80deb1fe, 0x9bdc06a7, 0xc19bf174] ++
  [0xe49b69c1, 0xefbe4786, 0x0fc19dc6, 0x240ca1cc, 0x2de92c6f, 0x4a7484aa, 0x5cb0a9dc, 0x76f988da] ++
  [0x983e5152, 0xa831c66d, 0xb00327c8, 0xbf597fc7, 0xc6e00bf3, 0xd5a79147, 0x06ca6351, 0x14292967] ++
  [0x27b70a85, 0x2e1b2138, 0x4d2c6dfc, 0x53380d13, 0x650a7354, 0x766a0abb, 0x81c2c92e, 0x92722c85] ++
  [0xa2bfe8a1, 0xa81a664b, 0xc24b8b70, 0xc76c51a3, 0xd192e819, 0xd6990624, 0xf40e3585, 0x106aa070] ++
  [0x19a4c116, 0x1e376c08, 0x2748774c, 0x34b0bcb5, 0x391c0cb3, 0x4ed8aa4a, 0x5b9cca4f, 0x682e6ff3] ++
  [0x748f82ee, 0x78a5636f, 0x84c87814, 0x8cc70208, 0x90befffa, 0xa4506ceb, 0xbef9a3f7, 0xc67178f2]

/-- The 80 round constants of SHA-384 (FIPS 180-4, 4.2.3). -/
def shaK512 : List Nat :=
  [0x428a2f98d728ae22, 0x7137449123ef65cd, 0xb5c0fbcfec4d3b2f, 0xe9b5dba58189dbbc] ++
  [0x3956c25bf348b538, 0x59f111f1b605d019, 0x923f82a4af194f9b, 0xab1c5ed5da6d8118] ++
  [0xd807aa98a3030242, 0x12835b0145706fbe, 0x243185be4ee4b28c, 0x550c7dc3d5ffb4e2] ++
  [0x72be5d74f27b896f, 0x80deb1fe3b1696b1, 0x9bdc06a725c71235, 0xc19bf174cf692694] ++
  [0xe49b69c19ef14ad2, 0xefbe4786384f25e3, 0x0fc19dc68b8cd5b5, 0x240ca1cc77ac9c65] ++
  [0x2de92c6f592b0275, 0x4a7484aa6ea6e483, 0x5cb0a9dcbd41fbd4, 0x76f988da831153b5] ++
  [0x983e5152ee66dfab, 0xa831c66d2db43210, 0xb00327c898fb213f, 0xbf597fc7beef0ee4] ++
  [0xc6e00bf33da88fc2, 0xd5a79147930aa725, 0x06ca6351e003826f, 0x142929670a0e6e70] ++
  [0x27b70a8546d22ffc, 0x2e1b21385c26c926, 0x4d2c6dfc5ac42aed, 0x53380d139d95b3df] ++
  [0x650a73548baf63de, 0x766a0abb3c77b2a8, 0x81c2c92e47edaee6, 0x92722c851482353b] ++
  [0xa2bfe8a14cf10364, 0xa81a664bbc423001, 0xc24b8b70d0f89791, 0xc76c51a30654be30] ++
  [0xd192e819d6ef5218, 0xd69906245565a910, 0xf40e35855771202a, 0x106aa07032bbd1b8] ++
  [0x19a4c116b8d2d0c8, 0x1e376c085141ab53, 0x2748774cdf8eeb99, 0x34b0bcb5e19b48a8] ++
  [0x391c0cb3c5c95a63, 0x4ed8aa4ae3418acb, 0x5b9cca4f7763e373, 0x682e6ff3d6b2b8a3] ++
  [0x748f82ee5defb2fc, 0x78a5636f43172f60, 0x84c87814a1f0ab72, 0x8cc702081a6439ec] ++
  [0x90befffa23631e28, 0xa4506cebde82bde9, 0xbef9a3f7b2c67915, 0xc67178f2e372532b] ++
  [0xca273eceea26619c, 0xd186b8c721c0c207, 0xeada7dd6cde0eb1e, 0xf57d4f7fee6ed178] ++
  [0x06f067aa72176fba, 0x0a637dc5a2c898a6, 0x113f9804bef90dae, 0x1b710b35131c471b] ++
  [0x28db77f523047d84, 0x32caab7b40c72493, 0x3c9ebe0a15c9bebc, 0x431d67c49c100d4c] ++
  [0x4cc5d4becb3e42b6, 0x597f299cfc657e2a, 0x5fcb6fab3ad6faec, 0x6c44198c4a475817]

/-- The initial hash value of SHA-256. -/
def shaH256 : List Nat :=
  [0x6a09e667, 0xbb67ae85, 0x3c6ef372, 0xa54ff53a, 0x510e527f, 0x9b05688c, 0x1f83d9ab, 0x5be0cd19]

/-- The initial hash value of SHA-384. -/
def shaH384 : List Nat :=
  [0xcbbb9d5dc1059ed8, 0x629a292a367cd507, 0x9159015a3070dd17, 0x152fecd8f70e5939] ++
  [0x67332667ffc00b31, 0x8eb44a8768581511, 0xdb0c2e0d64f98fa7, 0x47b5481dbefa4fa4]

/-- What tells the two hashes apart: the width of a word in bits and the amounts of their rotations and shifts. -/
structure ShaKind where
  w : Nat
  s0 : Nat × Nat × Nat
  s1 : Nat × Nat × Nat
  e0 : Nat × Nat × Nat
  e1 : Nat × Nat × Nat
  k : List Nat

def sha256Kind : ShaKind := ⟨32, (7, 18, 3), (17, 19, 10), (2, 13, 22), (6, 11, 25), shaK256⟩
def sha512Kind : ShaKind := ⟨64, (1, 8, 7), (19, 61, 6), (28, 34, 39), (14, 18, 41), shaK512⟩

/-- Rotation right by `n` of a `w`-bit word. -/
def rotR (w n x : Nat) : Nat := (x >>> n) ||| ((x <<< (w - n)) % 2 ^ w)

/-- Two rotations and a shift, and three rotations. -/
def shaSig (w : Nat) (r : Nat × Nat × Nat) (x : Nat) : Nat := rotR w r.1 x ^^^ rotR w r.2.1 x ^^^ (x >>> r.2.2)
def shaSum (w : Nat) (r : Nat × Nat × Nat) (x : Nat) : Nat := rotR w r.1 x ^^^ rotR w r.2.1 x ^^^ rotR w r.2.2 x

/-- The message schedule: `n` more words, newest first. -/
def shaSched (k : ShaKind) : Nat → List Nat → List Nat
  | 0, ws => ws
  | n + 1, ws =>
    shaSched k n (((shaSig k.w k.s1 (natAt ws 1) + natAt ws 6 + shaSig k.w k.s0 (natAt ws 14) + natAt ws 15) % 2 ^ k.w) :: ws)

/-- One round on the working variables a to h. -/
def shaRound (k : ShaKind) (v : List Nat) (kw : Nat × Nat) : List Nat :=
  let a := natAt v 0; let b := natAt v 1; let c := natAt v 2; let e := natAt v 4; let f := natAt v 5; let g := natAt v 6
  let ch := (e &&& f) ^^^ ((2 ^ k.w - 1 - e) &&& g)
  let t1 := natAt v 7 + shaSum k.w k.e1 e + ch + kw.1 + kw.2
  let t2 := shaSum k.w k.e0 a + ((a &&& b) ^^^ (a &&& c) ^^^ (b &&& c))
  [(t1 + t2) % 2 ^ k.w, a, b, c, (natAt v 3 + t1) % 2 ^ k.w, e, f, g]

/-- `n` big-endian words of a block. -/
def shaWords (bytes : Nat) : Nat → List Byte → List Nat
  | 0, _ => []
  | n + 1, bs => beNum (bs.take bytes) :: shaWords bytes n (bs.drop bytes)

/-- The hash value after one block. -/
def shaBlock (k : ShaKind) (h : List Nat) (block : List Byte) : List Nat :=
  let ws := (shaSched k (k.k.length - 16) (shaWords (k.w / 8) 16 block).reverse).reverse
  List.zipWith (fun x y => (x + y) % 2 ^ k.w) h ((k.k.zip ws).foldl (shaRound k) h)

/-- The hash value after `n` blocks. -/
def shaBlocks (k : ShaKind) : Nat → List Nat → List Byte → List Nat
  | 0, h, _ => h
  | n + 1, h, m => shaBlocks k n (shaBlock k h (m.take (2 * k.w))) (m.drop (2 * k.w))

/-- The padded message: a one bit, zeros, the length in bits as two words. -/
def shaPad (k : ShaKind) (m : List Byte) : List Byte :=
  let b := 2 * k.w
  let fill := (2 * b - 1 - k.w / 4 - m.length % b) % b
  m ++ [0x80] ++ zeros fill ++ beBytes (k.w / 4) (8 * m.length)

/-- The hash of a message, as many words of it as the hash keeps. -/
def sha (k : ShaKind) (h : List Nat) (keep : Nat) (m : List Byte) : List Byte :=
  let p := shaPad k m
  ((shaBlocks k (p.length / (2 * k.w)) h p).take keep).flatMap (beBytes (k.w / 8))

/-- SHA-256: 32 octets. -/
def sha256 (m : List Byte) : List Byte := sha sha256Kind shaH256 8 m

/-- SHA-384: 48 octets. -/
def sha384 (m : List Byte) : List Byte := sha sha512Kind shaH384 6 m

/-- The digest as it stands in OTP (R440): octet k in bits 8k + 7 to 8k. -/
def digest384 (m : List Byte) : BitVec 384 := BitVec.ofNat 384 (leNum (sha384 m))

/-- HMAC-SHA-256: 32 octets. -/
def hmacSha256 (key msg : List Byte) : List Byte :=
  let k := padTo 64 (if 64 < key.length then sha256 key else key)
  sha256 (k.map (· ^^^ 0x5c) ++ sha256 (k.map (· ^^^ 0x36) ++ msg))

/-! ### ECDSA P-384 -/

/-- The curve (FIPS 186-4, D.1.2.4): the prime, the order, b, and the base point. -/
def ecP : Nat := 2 ^ 384 - 2 ^ 128 - 2 ^ 96 + 2 ^ 32 - 1
def ecN : Nat := 0xffffffffffffffffffffffffffffffffffffffffffffffffc7634d81f4372ddf581a0db248b0a77aecec196accc52973
def ecB : Nat := 0xb3312fa7e23ee7e4988e056be3f82d19181d9c6efe8141120314088f5013875ac656398d8a2ed19d2a85c8edd3ec2aef
def ecG : Nat × Nat :=
  (0xaa87ca22be8b05378eb1c71ef320ad746e1d3b628ba79b9859f741e082542a385502f25dbf55296c3a545e3872760ab7,
   0x3617de4a96262c6f5d9e98bf9292dc29f8f41dbd289a147ce9da3113b5f0b8c00a60b1ce1d7e819d7a431d7c90ea0e5f)

/-- Bit `n` of `e` and every one below it, by square and multiply: x to that power, modulo m. -/
def powMod (m x e : Nat) : Nat → Nat
  | 0 => 1 % m
  | n + 1 =>
    let r := powMod m x (e >>> 1) n
    if e % 2 = 1 then r * r % m * x % m else r * r % m

/-- The inverse modulo a prime of 384 bits, by Fermat. -/
def invMod (m x : Nat) : Nat := powMod m x (m - 2) 384

/-- Points are kept in Jacobian coordinates: (X, Y, Z) stands for (X / Z², Y / Z³), and Z = 0 for the point at infinity. -/
abbrev EcPoint := Nat × Nat × Nat

/-- The difference modulo p. -/
def ecSub (a b : Nat) : Nat := (a + ecP - b % ecP) % ecP

/-- Twice a point, on a curve with a = −3. -/
def ecDouble : EcPoint → EcPoint
  | (x, y, z) =>
    let d := z * z % ecP
    let g := y * y % ecP
    let b := x * g % ecP
    let a := 3 * (ecSub x d * (x + d) % ecP) % ecP
    let x3 := ecSub (a * a % ecP) (8 * b)
    let z3 := ecSub (ecSub ((y + z) * (y + z) % ecP) g) d
    (x3, ecSub (a * ecSub (4 * b) x3 % ecP) (8 * (g * g % ecP)), z3)

/-- The sum of two points. -/
def ecAdd : EcPoint → EcPoint → EcPoint
  | (x1, y1, z1), (x2, y2, z2) =>
    if z1 = 0 then (x2, y2, z2)
    else if z2 = 0 then (x1, y1, z1)
    else
      let q1 := z1 * z1 % ecP
      let q2 := z2 * z2 % ecP
      let u1 := x1 * q2 % ecP
      let u2 := x2 * q1 % ecP
      let s1 := y1 * z2 % ecP * q2 % ecP
      let s2 := y2 * z1 % ecP * q1 % ecP
      let h := ecSub u2 u1
      let r := ecSub s2 s1
      if h = 0 then if r = 0 then ecDouble (x1, y1, z1) else (1, 1, 0)
      else
        let hh := h * h % ecP
        let hhh := h * hh % ecP
        let v := u1 * hh % ecP
        let x3 := ecSub (ecSub (r * r % ecP) hhh) (2 * v)
        (x3, ecSub (r * ecSub v x3 % ecP) (s1 * hhh % ecP), z1 * z2 % ecP * h % ecP)

/-- The product of a point by the low `n` bits of a number. -/
def ecMul (q : EcPoint) (e : Nat) : Nat → EcPoint
  | 0 => (1, 1, 0)
  | n + 1 =>
    let r := ecDouble (ecMul q (e >>> 1) n)
    if e % 2 = 1 then ecAdd r q else r

/-- The public key is a point of the curve. -/
def ecOnCurve (x y : Nat) : Bool :=
  decide (x < ecP) && decide (y < ecP) && decide (y * y % ecP = (x * x % ecP * x + ecB + (ecP - 3) * x) % ecP)

/-- ECDSA P-384 over SHA-384: does the signature (r then s) verify over the message under the public key (x then y)? The four
numbers are 48-byte fields, little-endian as R6 has every field of an image or a record (assumption 3). -/
def ecdsaP384 (pub msg sig : List Byte) : Bool :=
  let x := leAt pub 0 48
  let y := leAt pub 48 48
  let r := leAt sig 0 48
  let s := leAt sig 48 48
  if ecOnCurve x y && decide (0 < r) && decide (r < ecN) && decide (0 < s) && decide (s < ecN) then
    let w := invMod ecN s
    let e := beNum (sha384 msg)
    let p := ecAdd (ecMul (ecG.1, ecG.2, 1) (e * w % ecN) 384) (ecMul (x, y, 1) (r * w % ecN) 384)
    let zi := invMod ecP p.2.2
    decide (p.2.2 ≠ 0) && decide (p.1 * (zi * zi % ecP) % ecP % ecN = r)
  else false

end Sys2Proof.Machine
end

