-- ==== Sys2Proof/Machine/RegMap.lean ====
section
/-! DEFINITION. The register map: the address of every register the spec names, and for each its
reset word, configuration set and fields, from the register tables of chapters 2 to 16 (R350). -/
namespace Sys2Proof.Machine

def Reg.ING_ILAS (n i : Nat) : Nat := 0x00300110 + 0x40 * n + 0x4 * i
def Reg.COR_QUAR (n : Nat) : Nat := 0x00400010 + 0x4 * n
def Reg.COR_CODE_A_BASE (n : Nat) : Nat := 0x00440004 + 0x40 * n
def Reg.COR_CODE_B_BASE (n : Nat) : Nat := 0x0044000C + 0x40 * n
def Reg.COR_CODE_A_LEN (n : Nat) : Nat := 0x00440008 + 0x40 * n
def Reg.COR_CODE_B_LEN (n : Nat) : Nat := 0x00440010 + 0x40 * n
def Reg.COR_AT_S (n : Nat) : Nat := 0x00440018 + 0x40 * n
def Reg.COR_AT_NS (n : Nat) : Nat := 0x0044001C + 0x40 * n
def Reg.COR_CODE_RATE_LO (n : Nat) : Nat := 0x00440020 + 0x40 * n
def Reg.COR_CODE_RATE_HI (n : Nat) : Nat := 0x00440024 + 0x40 * n
def Reg.COR_CARR_RATE_LO (n : Nat) : Nat := 0x00440028 + 0x40 * n
def Reg.COR_CARR_RATE_HI (n : Nat) : Nat := 0x0044002C + 0x40 * n
def Reg.ACQ_CAP_AT_S : Nat := 0x00800014
def Reg.ACQ_CAP_AT_NS : Nat := 0x00800018
def Reg.ACQ_CODE_ADDR : Nat := 0x00800050
def Reg.ACQ_CODE_DATA : Nat := 0x00800054
def Reg.REF_ANT_COORD (n i : Nat) : Nat := 0x00900104 + 0x40 * n + 0x4 * i
def Reg.REF_STREAM_DST_ADDR (n i : Nat) : Nat := 0x00900410 + 0x40 * n + 0x4 * i
def Reg.NET_MAC_LO (n : Nat) : Nat := 0x0100000C + 0x40000 * n
def Reg.NET_MAC_HI (n : Nat) : Nat := 0x01000010 + 0x40000 * n
def Reg.NET_PEER_MAC_LO (n : Nat) : Nat := 0x01000014 + 0x40000 * n
def Reg.NET_PEER_MAC_HI (n : Nat) : Nat := 0x01000018 + 0x40000 * n
def Reg.NET_IP (n i : Nat) : Nat := 0x01000020 + 0x40000 * n + 0x4 * i
def Reg.NET_NF_DST (n i : Nat) : Nat := 0x01000048 + 0x40000 * n + 0x4 * i
def Reg.NET_CNT (n i : Nat) : Nat := 0x01000080 + 0x40000 * n + 0x4 * i
def Reg.PST_CNT (n : Nat) : Nat := 0x00A00080 + 0x4 * n
def Reg.CHT_CNT (n : Nat) : Nat := 0x00C00080 + 0x4 * n
def Reg.DSP_CNT (n : Nat) : Nat := 0x00E00080 + 0x4 * n
def Reg.TSK_CNT (n : Nat) : Nat := 0x00E80080 + 0x4 * n
def Reg.NFL_CNT (n : Nat) : Nat := 0x00F00080 + 0x4 * n
def Reg.PAI_CNT (n : Nat) : Nat := 0x01100080 + 0x4 * n
def Reg.REC_CNT (n : Nat) : Nat := 0x01400080 + 0x4 * n
def Reg.CHT_ORIGIN_LO : Nat := 0x00C00010
def Reg.CHT_ORIGIN_HI : Nat := 0x00C00014
def Reg.CHT_GRAPH_ADDR_LO : Nat := 0x00C00030
def Reg.CHT_GRAPH_ADDR_HI : Nat := 0x00C00034
def Reg.CHT_GRAPH_ID : Nat := 0x00C00044
def Reg.CHT_GRAPH_NSEG : Nat := 0x00C00048
def Reg.CHT_CLASS_BRAKE_01 (n : Nat) : Nat := 0x00C01004 + 0x20 * n
def Reg.CHT_CLASS_BRAKE_23 (n : Nat) : Nat := 0x00C01008 + 0x20 * n
def Reg.NFL_SEEN : Nat := 0x00F00010
def Reg.NFL_ACTIVE : Nat := 0x00F00014
def Reg.NFL_TRIG_S : Nat := 0x00F00018
def Reg.NFL_TRIG_NS : Nat := 0x00F0001C
def Reg.TIM_NOW_FRAC : Nat := 0x00200010
def Reg.TIM_NOW_NS : Nat := 0x00200014
def Reg.TIM_NOW_S_LO : Nat := 0x00200018
def Reg.TIM_NOW_S_HI : Nat := 0x0020001C
def Reg.TIM_INCR_FRAC : Nat := 0x00200020
def Reg.TIM_INCR_INT : Nat := 0x00200024
def Reg.TIM_ADJ_OFFSET : Nat := 0x00200028
def Reg.TIM_ADJ_CTRL : Nat := 0x0020002C
def Reg.TIM_ADJ_REMAIN : Nat := 0x00200030
def Reg.TIM_SET_S_LO : Nat := 0x00200034
def Reg.TIM_SET_S_HI : Nat := 0x00200038
def Reg.TIM_SET_NS : Nat := 0x0020003C
def Reg.TIM_LOSS_S : Nat := 0x00200044
def Reg.TIM_LOSS_NS : Nat := 0x00200048
def Reg.TIM_RETURN : Nat := 0x0020004C
def Reg.TIM_STEP_NS : Nat := 0x00200050
def Reg.TIM_STEP_AT_S : Nat := 0x00200054
def Reg.TIM_OSC_F : Nat := 0x00200058
def Reg.TIM_OSC_A : Nat := 0x0020005C
def Reg.TIM_BB_LAT : Nat := 0x00200064
def Reg.TIM_BB_ERR : Nat := 0x00200068
def Reg.TIM_SYNC_MISS : Nat := 0x0020006C
def Reg.TIM_PPS_CFG (n : Nat) : Nat := 0x00200100 + 0x10 * n
def Reg.TIM_PPS_DELAY (n : Nat) : Nat := 0x00200104 + 0x10 * n
def Reg.TIM_TP_CFG (n : Nat) : Nat := 0x00200200 + 0x20 * n
def Reg.TIM_TP_AT_S (n : Nat) : Nat := 0x00200204 + 0x20 * n
def Reg.TIM_TP_AT_NS (n : Nat) : Nat := 0x00200208 + 0x20 * n
def Reg.TIM_TP_PERIOD (n : Nat) : Nat := 0x0020020C + 0x20 * n
def Reg.TIM_TP_WIDTH (n : Nat) : Nat := 0x00200210 + 0x20 * n
def Reg.TIM_PORT_LAT_10G (n : Nat) : Nat := 0x00200400 + 0x40 * n
def Reg.TIM_PORT_LAT_1G (n : Nat) : Nat := 0x00200404 + 0x40 * n
def Reg.TIM_PORT_ASYM (n : Nat) : Nat := 0x00200408 + 0x40 * n
def Reg.TIM_PORT_STEP_CFG (n : Nat) : Nat := 0x0020040C + 0x40 * n
def Reg.TIM_PORT_DELAY (n : Nat) : Nat := 0x00200410 + 0x40 * n
def Reg.TIM_PORT_STEP (n : Nat) : Nat := 0x00200414 + 0x40 * n
def Reg.TIM_PORT_MTIME (n : Nat) : Nat := 0x00200418 + 0x40 * n
def Reg.PAI_OFFSET : Nat := 0x01100010
def Reg.PAI_ASYM : Nat := 0x01100014
def Reg.PAI_KEY_DIFF_LO : Nat := 0x0110001C
def Reg.PAI_KEY_DIFF_HI : Nat := 0x01100020
def Reg.PAI_SWITCH_S : Nat := 0x01100028
def Reg.PAI_SWITCH_NS : Nat := 0x0110002C
def Reg.GLB_IDENT (n : Nat) : Nat := 0x00000004 + 0x4 * n
def Reg.HIF_EVT_PENDING (n : Nat) : Nat := 0x01200100 + 0x10 * n
def Reg.HIF_EVT_ENABLE (n : Nat) : Nat := 0x01200104 + 0x10 * n
def Reg.HIF_EVT_ROUTE (n : Nat) : Nat := 0x01200108 + 0x10 * n
def Reg.HIF_EVT_COUNT (n : Nat) : Nat := 0x0120010C + 0x10 * n
def Reg.HIF_RING_BASE_LO (n : Nat) : Nat := 0x01201004 + 0x40 * n
def Reg.HIF_RING_BASE_HI (n : Nat) : Nat := 0x01201008 + 0x40 * n
def Reg.HIF_RING_IDX_LO (n : Nat) : Nat := 0x0120100C + 0x40 * n
def Reg.HIF_RING_IDX_HI (n : Nat) : Nat := 0x01201010 + 0x40 * n
def Reg.HIF_RING_DATA_LO (n : Nat) : Nat := 0x01201014 + 0x40 * n
def Reg.HIF_RING_DATA_HI (n : Nat) : Nat := 0x01201018 + 0x40 * n
def Reg.HIF_RING_DATA_CFG (n : Nat) : Nat := 0x0120101C + 0x40 * n
def Reg.HIF_RING_STATE (n : Nat) : Nat := 0x01201020 + 0x40 * n
def Reg.HIF_RING_DEV_IDX (n : Nat) : Nat := 0x01201024 + 0x40 * n
def Reg.HIF_RING_HOST_IDX (n : Nat) : Nat := 0x01201028 + 0x40 * n
def Reg.HIF_RING_DROP (n : Nat) : Nat := 0x0120102C + 0x40 * n
def Reg.CRP_FIFO_RD (n : Nat) : Nat := 0x00100100 + 0x10 * n
def Reg.CRP_FIFO_WR (n : Nat) : Nat := 0x00100104 + 0x10 * n
def Reg.CRP_FIFO_CMD (n : Nat) : Nat := 0x00100108 + 0x10 * n
def Reg.OTP_CFG (n : Nat) : Nat := 0x01600100 + 0x4 * n
def Reg.OTP_PROG (n : Nat) : Nat := 0x01600200 + 0x4 * n
def Reg.UPD_ACTIVE_VER : Nat := 0x01601008
def Reg.UPD_STAGING_VER : Nat := 0x0160100C
def Reg.UPD_FALLBACK_VER : Nat := 0x01601010
def Reg.KEY_CTR_LO : Nat := 0x01300008
def Reg.KEY_CTR_HI : Nat := 0x0130000C
def Reg.KEY_RTC_SUB : Nat := 0x01300020
def Reg.KEY_RTC_S_LO : Nat := 0x01300024
def Reg.KEY_RTC_S_HI : Nat := 0x01300028
def Reg.KEY_PROV (n : Nat) : Nat := 0x01300100 + 0x4 * n
def Reg.REC_NEWEST_SEQ : Nat := 0x01400008
def Reg.REC_OLDEST_SEQ : Nat := 0x0140000C
def Reg.REC_READ_SEQ : Nat := 0x01400010
def Reg.REC_FILL : Nat := 0x01400014
def Reg.REC_FILL_CFG : Nat := 0x01400018
def Reg.PRF_OVF (n : Nat) : Nat := 0x01500010 + 0x4 * n
def Reg.PRF_EVT (n : Nat) : Nat := 0x01501000 + 0x10 * n
def Reg.PRF_LO (n : Nat) : Nat := 0x01501004 + 0x10 * n
def Reg.PRF_HI (n : Nat) : Nat := 0x01501008 + 0x10 * n
def Reg.ACQ_JOB (n : Nat) : Nat := 0x00801000 + 0x4 * n
def Reg.PST_SLOT_STATUS (n i : Nat) : Nat := 0x00A00400 + 0x10 * n + 0x4 * i
def Reg.CHT_MACH_STATUS (n i : Nat) : Nat := 0x00C10000 + 0x10 * n + 0x4 * i
def Reg.ING_CTRL : Nat := 0x00300000
def Reg.ING_SYSREF_CTL : Nat := 0x00300004
def Reg.ING_STICKY : Nat := 0x00300008
def Reg.ING_CFG (n : Nat) : Nat := 0x00300100 + 0x40 * n
def Reg.ING_STATUS (n : Nat) : Nat := 0x00300104 + 0x40 * n
def Reg.ING_LATENCY (n : Nat) : Nat := 0x00300108 + 0x40 * n
def Reg.ING_ERRCNT (n : Nat) : Nat := 0x0030010C + 0x40 * n
def Reg.ING_CLIP (n : Nat) : Nat := 0x00300120 + 0x40 * n
def Reg.COR_STICKY : Nat := 0x00400000
def Reg.COR_MISMATCH_CNT : Nat := 0x00400004
def Reg.COR_INJECT : Nat := 0x00400008
def Reg.COR_CODE_SEL : Nat := 0x00400020
def Reg.COR_CODE_ADDR : Nat := 0x00400024
def Reg.COR_CODE_DATA : Nat := 0x00400028
def Reg.COR_CFG (n : Nat) : Nat := 0x00440000 + 0x40 * n
def Reg.COR_INT (n : Nat) : Nat := 0x00440014 + 0x40 * n
def Reg.COR_CODE_INIT (n : Nat) : Nat := 0x00440030 + 0x40 * n
def Reg.COR_CARR_INIT (n : Nat) : Nat := 0x00440034 + 0x40 * n
def Reg.COR_STATUS (n : Nat) : Nat := 0x00440038 + 0x40 * n
def Reg.COR_CMD (n : Nat) : Nat := 0x0044003C + 0x40 * n
def Reg.ACQ_CTRL : Nat := 0x00800000
def Reg.ACQ_STICKY : Nat := 0x00800004
def Reg.ACQ_STATUS : Nat := 0x00800008
def Reg.ACQ_CAP_CFG : Nat := 0x00800010
def Reg.ACQ_CAP_CMD : Nat := 0x0080001C
def Reg.ACQ_CAP_LAST : Nat := 0x00800020
def Reg.ACQ_SNAP_CFG : Nat := 0x00800030
def Reg.ACQ_SNAP_MASK : Nat := 0x00800034
def Reg.ACQ_SNAP_COUNT : Nat := 0x00800038
def Reg.ACQ_RSNAP_CFG : Nat := 0x00800040
def Reg.ACQ_RSNAP_COUNT : Nat := 0x00800044
def Reg.REF_CTRL : Nat := 0x00900000
def Reg.REF_STICKY : Nat := 0x00900004
def Reg.REF_STATUS : Nat := 0x00900008
def Reg.REF_XCHK_CFG : Nat := 0x0090000C
def Reg.REF_SURVEY_CFG : Nat := 0x00900010
def Reg.REF_SURVEY_CMD : Nat := 0x00900014
def Reg.REF_TIME_CFG : Nat := 0x00900018
def Reg.REF_LEAP_AT : Nat := 0x0090001C
def Reg.REF_GLO_BIAS : Nat := 0x00900020
def Reg.REF_ANT_CFG (n : Nat) : Nat := 0x00900100 + 0x40 * n
def Reg.REF_ANT_HEIGHT (n : Nat) : Nat := 0x0090011C + 0x40 * n
def Reg.REF_ANT_CMD (n : Nat) : Nat := 0x00900120 + 0x40 * n
def Reg.REF_ANT_XCHK (n : Nat) : Nat := 0x00900124 + 0x40 * n
def Reg.REF_ANT_SURVEY_SIGMA (n : Nat) : Nat := 0x00900128 + 0x40 * n
def Reg.REF_STREAM_CFG (n : Nat) : Nat := 0x00900400 + 0x40 * n
def Reg.REF_STREAM_STATION (n : Nat) : Nat := 0x00900404 + 0x40 * n
def Reg.REF_STREAM_MSG_MASK (n : Nat) : Nat := 0x00900408 + 0x40 * n
def Reg.REF_STREAM_ROUTE (n : Nat) : Nat := 0x0090040C + 0x40 * n
def Reg.REF_STREAM_UDP (n : Nat) : Nat := 0x00900420 + 0x40 * n
def Reg.REF_STREAM_DGRAM (n : Nat) : Nat := 0x00900424 + 0x40 * n
def Reg.REF_STREAM_COUNT (n : Nat) : Nat := 0x00900428 + 0x40 * n
def Reg.REF_STREAM_STATUS (n : Nat) : Nat := 0x0090042C + 0x40 * n
def Reg.NET_CTRL (n : Nat) : Nat := 0x01000000 + 0x40000 * n
def Reg.NET_STATUS (n : Nat) : Nat := 0x01000004 + 0x40000 * n
def Reg.NET_STICKY (n : Nat) : Nat := 0x01000008 + 0x40000 * n
def Reg.NET_VLAN (n : Nat) : Nat := 0x0100001C + 0x40000 * n
def Reg.NET_UDP (n : Nat) : Nat := 0x01000030 + 0x40000 * n
def Reg.NET_PAUSE_CFG (n : Nat) : Nat := 0x01000034 + 0x40000 * n
def Reg.NET_RX_COUNT (n : Nat) : Nat := 0x01000038 + 0x40000 * n
def Reg.NET_TIME_MARGIN (n : Nat) : Nat := 0x01000040 + 0x40000 * n
def Reg.NET_NF_CFG (n : Nat) : Nat := 0x01000044 + 0x40000 * n
def Reg.NET_HOST_RING (n : Nat) : Nat := 0x01000060 + 0x40000 * n
def Reg.PST_CTRL : Nat := 0x00A00000
def Reg.PST_STICKY : Nat := 0x00A00004
def Reg.PST_STATUS : Nat := 0x00A00008
def Reg.PST_QUAR : Nat := 0x00A0000C
def Reg.PST_MISMATCH_CNT : Nat := 0x00A00010
def Reg.PST_INJECT : Nat := 0x00A00014
def Reg.PST_AGE_CFG : Nat := 0x00A00020
def Reg.PST_BUDGET : Nat := 0x00A00024
def Reg.PST_MASK_CFG : Nat := 0x00A00028
def Reg.PST_SLIP_CFG : Nat := 0x00A0002C
def Reg.PST_AR_CFG : Nat := 0x00A00030
def Reg.PST_INT_CFG : Nat := 0x00A00034
def Reg.PST_REFSEL : Nat := 0x00A00038
def Reg.PST_FILT_CFG : Nat := 0x00A0003C
def Reg.PST_LAT_MAX : Nat := 0x00A00040
def Reg.PST_CMD : Nat := 0x00A00044
def Reg.PST_SLOT_CMD : Nat := 0x00A00048
def Reg.PST_CLASS_ANT (n : Nat) : Nat := 0x00A00100 + 0x4 * n
def Reg.CHT_CTRL : Nat := 0x00C00000
def Reg.CHT_STICKY : Nat := 0x00C00004
def Reg.CHT_STATUS : Nat := 0x00C00008
def Reg.CHT_STOP_CAUSE : Nat := 0x00C0000C
def Reg.CHT_NOW_TICK : Nat := 0x00C00018
def Reg.CHT_REBASE_DELTA : Nat := 0x00C0001C
def Reg.CHT_CMD : Nat := 0x00C00020
def Reg.CHT_FILL_CFG : Nat := 0x00C00024
def Reg.CHT_FILL : Nat := 0x00C00028
def Reg.CHT_FILL_MAX : Nat := 0x00C0002C
def Reg.CHT_GRAPH_LEN : Nat := 0x00C00038
def Reg.CHT_GRAPH_CFG : Nat := 0x00C0003C
def Reg.CHT_GRAPH_STATE : Nat := 0x00C00040
def Reg.CHT_ECC_CNT : Nat := 0x00C00050
def Reg.CHT_LAT_MAX : Nat := 0x00C00054
def Reg.CHT_POS_CFG : Nat := 0x00C00058
def Reg.CHT_CLASS_TIME (n : Nat) : Nat := 0x00C01000 + 0x20 * n
def Reg.CHT_CLASS_SIZE (n : Nat) : Nat := 0x00C0100C + 0x20 * n
def Reg.CHT_CLASS_LIMITS (n : Nat) : Nat := 0x00C01010 + 0x20 * n
def Reg.CHT_CLASS_GATE (n : Nat) : Nat := 0x00C01014 + 0x20 * n
def Reg.DSP_CTRL : Nat := 0x00E00000
def Reg.DSP_STICKY : Nat := 0x00E00004
def Reg.DSP_STATUS : Nat := 0x00E00008
def Reg.DSP_HELD_MAX : Nat := 0x00E0000C
def Reg.DSP_LEVEL : Nat := 0x00E00010
def Reg.DSP_CMD : Nat := 0x00E00020
def Reg.DSP_LEVEL_COUNT (n : Nat) : Nat := 0x00E00040 + 0x4 * n
def Reg.DSP_RING_CFG (n : Nat) : Nat := 0x00E01000 + 0x4 * n
def Reg.DSP_FLOW_STATUS (n : Nat) : Nat := 0x00E04000 + 0x4 * n
def Reg.TSK_CTRL : Nat := 0x00E80000
def Reg.TSK_STICKY : Nat := 0x00E80004
def Reg.TSK_COUNT_A : Nat := 0x00E80008
def Reg.TSK_COUNT_B : Nat := 0x00E8000C
def Reg.TSK_MACH (n : Nat) : Nat := 0x00E90000 + 0x4 * n
def Reg.TSK_CHAIN (n : Nat) : Nat := 0x00EA0000 + 0x4 * n
def Reg.NFL_STATUS : Nat := 0x00F00000
def Reg.NFL_STICKY : Nat := 0x00F00004
def Reg.NFL_LATCH_ID : Nat := 0x00F00008
def Reg.NFL_CAUSE : Nat := 0x00F0000C
def Reg.NFL_CFG : Nat := 0x00F00020
def Reg.NFL_TIMING : Nat := 0x00F00024
def Reg.NFL_OP_CFG : Nat := 0x00F00028
def Reg.NFL_TRIGGER : Nat := 0x00F00030
def Reg.NFL_ARM : Nat := 0x00F00034
def Reg.NFL_CONFIRM : Nat := 0x00F00038
def Reg.NFL_MREL : Nat := 0x00F0003C
def Reg.NFL_REFUSE : Nat := 0x00F00040
def Reg.NFL_WDG_KICK : Nat := 0x00F00044
def Reg.NFL_HELD (n : Nat) : Nat := 0x00F00100 + 0x4 * n
def Reg.TIM_STATUS : Nat := 0x00200000
def Reg.TIM_STICKY : Nat := 0x00200004
def Reg.TIM_UNC : Nat := 0x00200008
def Reg.TIM_BOUND : Nat := 0x0020000C
def Reg.TIM_LOCK_REPORT : Nat := 0x00200040
def Reg.TIM_HOLD_CFG : Nat := 0x00200060
def Reg.TIM_PTP_CFG : Nat := 0x00200070
def Reg.TIM_TP_STICKY : Nat := 0x00200074
def Reg.TIM_PORT_STICKY (n : Nat) : Nat := 0x0020041C + 0x40 * n
def Reg.PAI_STATUS : Nat := 0x01100000
def Reg.PAI_STICKY : Nat := 0x01100004
def Reg.PAI_CTRL : Nat := 0x01100008
def Reg.PAI_CMD : Nat := 0x0110000C
def Reg.PAI_LAG : Nat := 0x01100018
def Reg.PAI_PEER_VER : Nat := 0x01100024
def Reg.GLB_ID : Nat := 0x00000000
def Reg.GLB_STICKY : Nat := 0x00000014
def Reg.GLB_ERR : Nat := 0x00000018
def Reg.GLB_TEMP : Nat := 0x0000001C
def Reg.GLB_SCRATCH : Nat := 0x00000020
def Reg.HIF_STATUS : Nat := 0x01200000
def Reg.HIF_STICKY : Nat := 0x01200004
def Reg.HIF_RING_CFG (n : Nat) : Nat := 0x01201000 + 0x40 * n
def Reg.HIF_VEC_MOD (n : Nat) : Nat := 0x01208000 + 0x4 * n
def Reg.CRP_ZEN_STATUS : Nat := 0x00100000
def Reg.CRP_ZEN_CFG : Nat := 0x00100004
def Reg.CRP_STICKY : Nat := 0x00100008
def Reg.CRP_PLL_STATUS : Nat := 0x0010000C
def Reg.CRP_NETREF : Nat := 0x00100010
def Reg.CRP_RST_CAUSE : Nat := 0x00100014
def Reg.CRP_RST_CMD : Nat := 0x00100018
def Reg.CRP_RST_STATUS : Nat := 0x0010001C
def Reg.CRP_NET_RST : Nat := 0x00100020
def Reg.CRP_NET_HOLD : Nat := 0x00100024
def Reg.CRP_MODE : Nat := 0x00100400
def Reg.CRP_MODE_CMD : Nat := 0x00100404
def Reg.CRP_PWR_REQ : Nat := 0x00100408
def Reg.CRP_PWR_STATUS : Nat := 0x0010040C
def Reg.CRP_PWR_STICKY : Nat := 0x00100410
def Reg.CRP_SNAP_WAKE : Nat := 0x00100414
def Reg.CRP_CFG_SWAP : Nat := 0x00100500
def Reg.CRP_CFG_STATUS : Nat := 0x00100504
def Reg.CRP_CFG_VIEW : Nat := 0x00100508
def Reg.OTP_STATUS : Nat := 0x01600000
def Reg.OTP_STICKY : Nat := 0x01600004
def Reg.OTP_CMD : Nat := 0x01600008
def Reg.UPD_STATUS : Nat := 0x01601000
def Reg.UPD_STICKY : Nat := 0x01601004
def Reg.UPD_SVN : Nat := 0x01601014
def Reg.UPD_CFG : Nat := 0x01601018
def Reg.UPD_CMD : Nat := 0x0160101C
def Reg.KEY_STATUS : Nat := 0x01300000
def Reg.KEY_STICKY : Nat := 0x01300004
def Reg.KEY_TAMP_CFG : Nat := 0x01300010
def Reg.KEY_TAMP_TIMING : Nat := 0x01300014
def Reg.KEY_TAMP_CAUSE : Nat := 0x01300018
def Reg.KEY_TAMP_TIME : Nat := 0x0130001C
def Reg.KEY_RTC_ALARM : Nat := 0x0130002C
def Reg.KEY_LC_CMD : Nat := 0x01300030
def Reg.KEY_SLOT_ATTR (n : Nat) : Nat := 0x01301000 + 0x8 * n
def Reg.KEY_SLOT_CHECK (n : Nat) : Nat := 0x01301004 + 0x8 * n
def Reg.REC_STATUS : Nat := 0x01400000
def Reg.REC_STICKY : Nat := 0x01400004
def Reg.REC_WIN_SEL : Nat := 0x0140001C
def Reg.PRF_CTL : Nat := 0x01500000
def Reg.PRF_STICKY : Nat := 0x01500004
def Reg.REF_ANT_TEXT (n i : Nat) : Nat := 0x00901000 + 0x40 * n + 0x4 * i
def Reg.MSIX_ADDR_LO (n : Nat) : Nat := 0x01210000 + 0x10 * n
def Reg.MSIX_ADDR_HI (n : Nat) : Nat := 0x01210004 + 0x10 * n
def Reg.MSIX_DATA (n : Nat) : Nat := 0x01210008 + 0x10 * n
def Reg.MSIX_CTRL (n : Nat) : Nat := 0x0121000C + 0x10 * n
def Reg.MSIX_PBA (n : Nat) : Nat := 0x01211000 + 0x4 * n

/-- Registers of the block GLB. -/
def RegMap.glb : List RegDesc := [
  ⟨0x00000004, 0x4, 4, 4, 4, 1, 0x00000000#32, none, [⟨31,0,.ro,0,4294967295⟩]⟩,
  ⟨0x00000000, 0x4, 1, 1, 4, 1, 0x09600010#32, none, [⟨0,0,.ro,0,1⟩, ⟨7,4,.ro,0,15⟩, ⟨31,16,.ro,0,65535⟩]⟩,
  ⟨0x00000014, 0x4, 1, 1, 4, 1, 0x00000000#32, none, [⟨15,0,.ro,0,65535⟩]⟩,
  ⟨0x00000018, 0x4, 1, 1, 4, 1, 0x00000000#32, none, [⟨0,0,.w1c,0,1⟩, ⟨1,1,.w1c,0,1⟩, ⟨2,2,.w1c,0,1⟩, ⟨3,3,.w1c,0,1⟩]⟩,
  ⟨0x0000001C, 0x4, 1, 1, 4, 1, 0x00000000#32, none, [⟨7,0,.ro,0,255⟩, ⟨15,8,.ro,0,255⟩, ⟨23,16,.ro,0,255⟩, ⟨24,24,.ro,0,1⟩, ⟨25,25,.ro,0,1⟩]⟩,
  ⟨0x00000020, 0x4, 1, 1, 4, 1, 0x00000000#32, none, [⟨31,0,.rw,0,4294967295⟩]⟩]

/-- Registers of the block CRP. -/
def RegMap.crp : List RegDesc := [
  ⟨0x00100100, 0x10, 20, 20, 4, 1, 0x00000000#32, none, [⟨18,0,.ro,0,524287⟩]⟩,
  ⟨0x00100104, 0x10, 20, 20, 4, 1, 0x00000000#32, none, [⟨18,0,.ro,0,524287⟩]⟩,
  ⟨0x00100108, 0x10, 20, 20, 4, 1, 0x00000000#32, none, [⟨0,0,.wo,0,1⟩]⟩,
  ⟨0x00100000, 0x4, 1, 1, 4, 1, 0x00000000#32, none, [⟨0,0,.ro,0,1⟩, ⟨1,1,.ro,0,1⟩, ⟨2,2,.ro,0,1⟩]⟩,
  ⟨0x00100004, 0x4, 1, 1, 4, 1, 0x1912028E#32, none, [⟨9,0,.ro,0,1023⟩, ⟨23,16,.ro,0,255⟩, ⟨31,24,.ro,0,255⟩]⟩,
  ⟨0x00100008, 0x4, 1, 1, 4, 1, 0x00000000#32, none, [⟨0,0,.w1c,0,1⟩, ⟨1,1,.w1c,0,1⟩, ⟨2,2,.w1c,0,1⟩, ⟨3,3,.w1c,0,1⟩, ⟨4,4,.w1c,0,1⟩, ⟨5,5,.w1c,0,1⟩, ⟨6,6,.w1c,0,1⟩]⟩,
  ⟨0x0010000C, 0x4, 1, 1, 4, 1, 0x00000000#32, none, [⟨3,0,.ro,0,15⟩, ⟨4,4,.ro,0,1⟩, ⟨5,5,.ro,0,1⟩, ⟨6,6,.ro,0,1⟩, ⟨7,7,.ro,0,1⟩, ⟨8,8,.ro,0,1⟩, ⟨9,9,.ro,0,1⟩]⟩,
  ⟨0x00100010, 0x4, 1, 1, 4, 1, 0x00000000#32, none, [⟨0,0,.rw,0,1⟩, ⟨1,1,.rw,0,1⟩]⟩,
  ⟨0x00100014, 0x4, 1, 1, 4, 1, 0x00000000#32, none, [⟨0,0,.ro,0,1⟩, ⟨1,1,.ro,0,1⟩, ⟨2,2,.ro,0,1⟩, ⟨3,3,.ro,0,1⟩, ⟨4,4,.ro,0,1⟩]⟩,
  ⟨0x00100018, 0x4, 1, 1, 4, 1, 0x00000000#32, none, [⟨0,0,.wo,0,1⟩, ⟨4,1,.wo,0,15⟩, ⟨5,5,.wo,0,1⟩, ⟨6,6,.wo,0,1⟩, ⟨7,7,.wo,0,1⟩, ⟨8,8,.wo,0,1⟩, ⟨31,24,.wo,0,255⟩]⟩,
  ⟨0x0010001C, 0x4, 1, 1, 4, 1, 0x00000000#32, none, [⟨8,1,.ro,0,255⟩]⟩,
  ⟨0x00100020, 0x4, 1, 1, 4, 1, 0x00000000#32, none, [⟨3,0,.rw,0,15⟩, ⟨11,8,.rw,0,15⟩]⟩,
  ⟨0x00100024, 0x4, 1, 1, 4, 1, 0x00000000#32, none, [⟨3,0,.ro,0,15⟩]⟩,
  ⟨0x00100400, 0x4, 1, 1, 4, 1, 0x00000001#32, none, [⟨2,0,.ro,0,7⟩, ⟨6,4,.ro,0,7⟩, ⟨10,8,.ro,0,7⟩, ⟨11,11,.ro,0,1⟩, ⟨13,12,.ro,0,3⟩]⟩,
  ⟨0x00100404, 0x4, 1, 1, 4, 1, 0x00000000#32, none, [⟨2,0,.wo,0,7⟩, ⟨31,24,.wo,0,255⟩]⟩,
  ⟨0x00100408, 0x4, 1, 1, 4, 1, 0x000003FF#32, none, [⟨3,0,.rw,0,15⟩, ⟨4,4,.rw,0,1⟩, ⟨8,5,.rw,0,15⟩, ⟨9,9,.rw,0,1⟩]⟩,
  ⟨0x0010040C, 0x4, 1, 1, 4, 1, 0x0000000A#32, none, [⟨29,0,.ro,0,1073741823⟩]⟩,
  ⟨0x00100410, 0x4, 1, 1, 4, 1, 0x00000000#32, none, [⟨0,0,.w1c,0,1⟩, ⟨1,1,.w1c,0,1⟩, ⟨2,2,.w1c,0,1⟩]⟩,
  ⟨0x00100414, 0x4, 1, 1, 4, 1, 0x00000000#32, none, [⟨19,0,.rw,0,1048575⟩]⟩,
  ⟨0x00100500, 0x4, 1, 1, 4, 1, 0x00000000#32, none, [⟨7,0,.wo,0,255⟩, ⟨8,8,.wo,0,1⟩, ⟨31,31,.wo,0,1⟩]⟩,
  ⟨0x00100504, 0x4, 1, 1, 4, 1, 0x00000000#32, none, [⟨7,0,.ro,0,255⟩, ⟨15,8,.ro,0,255⟩, ⟨31,16,.ro,0,65535⟩]⟩,
  ⟨0x00100508, 0x4, 1, 1, 4, 1, 0x00000000#32, none, [⟨7,0,.rw,0,255⟩]⟩]

/-- Registers of the block TIM. -/
def RegMap.tim : List RegDesc := [
  ⟨0x00200010, 0x4, 1, 1, 4, 1, 0x00000000#32, none, [⟨31,0,.snap,0,4294967295⟩]⟩,
  ⟨0x00200014, 0x4, 1, 1, 4, 1, 0x00000000#32, none, [⟨31,0,.ro,0,4294967295⟩]⟩,
  ⟨0x00200018, 0x4, 1, 1, 4, 1, 0x00000000#32, none, [⟨31,0,.ro,0,4294967295⟩]⟩,
  ⟨0x0020001C, 0x4, 1, 1, 4, 1, 0x00000000#32, none, [⟨15,0,.ro,0,65535⟩]⟩,
  ⟨0x00200020, 0x4, 1, 1, 4, 1, 0x719C671A#32, none, [⟨31,0,.rw,0,4294967295⟩]⟩,
  ⟨0x00200024, 0x4, 1, 1, 4, 1, 0x00000002#32, none, [⟨7,0,.rw,0,255⟩]⟩,
  ⟨0x00200028, 0x4, 1, 1, 4, 1, 0x00000000#32, none, [⟨31,0,.rw,0,4294967295⟩]⟩,
  ⟨0x0020002C, 0x4, 1, 1, 4, 1, 0x00000000#32, none, [⟨15,0,.wo,1,65535⟩]⟩,
  ⟨0x00200030, 0x4, 1, 1, 4, 1, 0x00000000#32, none, [⟨31,0,.ro,0,4294967295⟩]⟩,
  ⟨0x00200034, 0x4, 1, 1, 4, 1, 0x00000000#32, none, [⟨31,0,.rw,0,4294967295⟩]⟩,
  ⟨0x00200038, 0x4, 1, 1, 4, 1, 0x00000000#32, none, [⟨15,0,.rw,0,65535⟩]⟩,
  ⟨0x0020003C, 0x4, 1, 1, 4, 1, 0x00000000#32, none, [⟨29,0,.wo,0,999999999⟩]⟩,
  ⟨0x00200044, 0x4, 1, 1, 4, 1, 0x00000000#32, none, [⟨31,0,.rw,0,4294967295⟩]⟩,
  ⟨0x00200048, 0x4, 1, 1, 4, 1, 0x00000000#32, none, [⟨29,0,.rw,0,1073741823⟩]⟩,
  ⟨0x0020004C, 0x4, 1, 1, 4, 1, 0x00000000#32, none, [⟨31,0,.wo,0,4294967295⟩]⟩,
  ⟨0x00200050, 0x4, 1, 1, 4, 1, 0x00000000#32, none, [⟨31,0,.ro,0,4294967295⟩]⟩,
  ⟨0x00200054, 0x4, 1, 1, 4, 1, 0x00000000#32, none, [⟨31,0,.ro,0,4294967295⟩]⟩,
  ⟨0x00200058, 0x4, 1, 1, 4, 1, 0x00000064#32, some 4, [⟨31,0,.rw,0,4294967295⟩]⟩,
  ⟨0x0020005C, 0x4, 1, 1, 4, 1, 0x0000169B#32, some 4, [⟨31,0,.rw,0,4294967295⟩]⟩,
  ⟨0x00200064, 0x4, 1, 1, 4, 1, 0x00000000#32, none, [⟨31,0,.rw,0,4294967295⟩]⟩,
  ⟨0x00200068, 0x4, 1, 1, 4, 1, 0x00000000#32, none, [⟨31,0,.ro,0,4294967295⟩]⟩,
  ⟨0x0020006C, 0x4, 1, 1, 4, 1, 0x00000000#32, none, [⟨15,0,.ro,0,65535⟩, ⟨31,16,.ro,0,65535⟩]⟩,
  ⟨0x00200100, 0x10, 2, 2, 4, 1, 0x00186A00#32, none, [⟨0,0,.rw,0,1⟩, ⟨1,1,.rw,0,1⟩, ⟨22,4,.rw,1,500000⟩]⟩,
  ⟨0x00200104, 0x10, 2, 2, 4, 1, 0x00000000#32, none, [⟨31,0,.rw,0,4294967295⟩]⟩,
  ⟨0x00200200, 0x20, 16, 0, 4, 1, 0x00000000#32, none, [⟨0,0,.rw,0,1⟩, ⟨1,1,.rw,0,1⟩, ⟨2,2,.rw,0,1⟩]⟩,
  ⟨0x00200204, 0x20, 16, 0, 4, 1, 0x00000000#32, none, [⟨31,0,.rw,0,4294967295⟩]⟩,
  ⟨0x00200208, 0x20, 16, 0, 4, 1, 0x00000000#32, none, [⟨29,0,.rw,0,1073741823⟩]⟩,
  ⟨0x0020020C, 0x20, 16, 0, 4, 1, 0x00000000#32, none, [⟨31,0,.rw,100,4294967295⟩]⟩,
  ⟨0x00200210, 0x20, 16, 0, 4, 1, 0x00000000#32, none, [⟨31,0,.rw,10,4294967295⟩]⟩,
  ⟨0x00200400, 0x40, 4, 2, 4, 1, 0x0BB80FA0#32, none, [⟨15,0,.rw,0,65535⟩, ⟨31,16,.rw,0,65535⟩]⟩,
  ⟨0x00200404, 0x40, 4, 2, 4, 1, 0x79E0B220#32, none, [⟨15,0,.rw,0,65535⟩, ⟨31,16,.rw,0,65535⟩]⟩,
  ⟨0x00200408, 0x40, 4, 2, 4, 1, 0x00000000#32, none, [⟨31,0,.rw,0,4294967295⟩]⟩,
  ⟨0x0020040C, 0x40, 4, 2, 4, 1, 0x000000C8#32, none, [⟨15,0,.rw,10,65535⟩]⟩,
  ⟨0x00200410, 0x40, 4, 2, 4, 1, 0x00000000#32, none, [⟨31,0,.ro,0,4294967295⟩]⟩,
  ⟨0x00200414, 0x40, 4, 2, 4, 1, 0x00000000#32, none, [⟨31,0,.ro,0,4294967295⟩]⟩,
  ⟨0x00200418, 0x40, 4, 2, 4, 1, 0x00000000#32, none, [⟨31,0,.ro,0,4294967295⟩]⟩,
  ⟨0x00200000, 0x4, 1, 1, 4, 1, 0x00000010#32, none, [⟨1,0,.ro,0,3⟩, ⟨2,2,.ro,0,1⟩, ⟨3,3,.ro,0,1⟩, ⟨4,4,.ro,0,1⟩, ⟨5,5,.ro,0,1⟩, ⟨6,6,.ro,0,1⟩]⟩,
  ⟨0x00200004, 0x4, 1, 1, 4, 1, 0x00000000#32, none, [⟨0,0,.w1c,0,1⟩, ⟨1,1,.w1c,0,1⟩, ⟨2,2,.w1c,0,1⟩, ⟨3,3,.w1c,0,1⟩, ⟨4,4,.w1c,0,1⟩, ⟨5,5,.w1c,0,1⟩, ⟨6,6,.w1c,0,1⟩, ⟨7,7,.w1c,0,1⟩]⟩,
  ⟨0x00200008, 0x4, 1, 1, 4, 1, 0xFFFFFFFF#32, none, [⟨31,0,.ro,0,4294967295⟩]⟩,
  ⟨0x0020000C, 0x4, 1, 1, 4, 1, 0x00002710#32, some 4, [⟨31,0,.rw,100,1000000⟩]⟩,
  ⟨0x00200040, 0x4, 1, 1, 4, 1, 0x00000000#32, none, [⟨23,0,.wo,0,16777215⟩, ⟨31,31,.wo,0,1⟩]⟩,
  ⟨0x00200060, 0x4, 1, 1, 4, 1, 0x00003C32#32, some 4, [⟨7,0,.rw,1,50⟩, ⟨15,8,.rw,1,255⟩]⟩,
  ⟨0x00200070, 0x4, 1, 1, 4, 1, 0x00000000#32, none, [⟨23,0,.rw,0,16777215⟩]⟩,
  ⟨0x00200074, 0x4, 1, 1, 4, 1, 0x00000000#32, none, [⟨15,0,.w1c,0,65535⟩]⟩,
  ⟨0x0020041C, 0x40, 4, 2, 4, 1, 0x00000000#32, none, [⟨0,0,.w1c,0,1⟩]⟩]

/-- Registers of the block ING. -/
def RegMap.ing : List RegDesc := [
  ⟨0x00300110, 0x40, 4, 2, 4, 4, 0x00000000#32, none, [⟨31,0,.ro,0,4294967295⟩]⟩,
  ⟨0x00300000, 0x4, 1, 1, 4, 1, 0x00000000#32, none, [⟨3,0,.rw,0,15⟩]⟩,
  ⟨0x00300004, 0x4, 1, 1, 4, 1, 0x00000000#32, none, [⟨1,0,.rw,0,2⟩, ⟨24,16,.rw,0,500⟩, ⟨31,31,.ro,0,1⟩]⟩,
  ⟨0x00300008, 0x4, 1, 1, 4, 1, 0x00000000#32, none, [⟨3,0,.w1c,0,15⟩, ⟨7,4,.w1c,0,15⟩, ⟨11,8,.w1c,0,15⟩, ⟨12,12,.w1c,0,1⟩]⟩,
  ⟨0x00300100, 0x40, 4, 2, 4, 1, 0x00001001#32, none, [⟨0,0,.rw,0,1⟩, ⟨1,1,.rw,0,1⟩, ⟨2,2,.rw,0,1⟩, ⟨12,8,.rw,0,31⟩]⟩,
  ⟨0x00300104, 0x40, 4, 2, 4, 1, 0x00000000#32, none, [⟨1,0,.ro,0,3⟩, ⟨2,2,.ro,0,1⟩, ⟨3,3,.ro,0,1⟩]⟩,
  ⟨0x00300108, 0x40, 4, 2, 4, 1, 0x00000000#32, none, [⟨31,0,.rw,0,4294967295⟩]⟩,
  ⟨0x0030010C, 0x40, 4, 2, 4, 1, 0x00000000#32, none, [⟨15,0,.ro,0,65535⟩, ⟨31,16,.ro,0,65535⟩]⟩,
  ⟨0x00300120, 0x40, 4, 2, 4, 1, 0x00000000#32, none, [⟨7,0,.ro,0,255⟩, ⟨15,8,.ro,0,255⟩, ⟨23,16,.ro,0,255⟩, ⟨31,24,.ro,0,255⟩]⟩]

/-- Registers of the block COR. -/
def RegMap.cor : List RegDesc := [
  ⟨0x00400010, 0x4, 4, 2, 4, 1, 0x00000000#32, none, [⟨31,0,.ro,0,4294967295⟩]⟩,
  ⟨0x00440004, 0x40, 2048, 1024, 4, 1, 0x00000000#32, none, [⟨23,0,.rw,0,16777215⟩]⟩,
  ⟨0x0044000C, 0x40, 2048, 1024, 4, 1, 0x00000000#32, none, [⟨23,0,.rw,0,16777215⟩]⟩,
  ⟨0x00440008, 0x40, 2048, 1024, 4, 1, 0x00000000#32, none, [⟨19,0,.rw,0,1048575⟩]⟩,
  ⟨0x00440010, 0x40, 2048, 1024, 4, 1, 0x00000000#32, none, [⟨19,0,.rw,0,1048575⟩]⟩,
  ⟨0x00440018, 0x40, 2048, 1024, 4, 1, 0x00000000#32, none, [⟨31,0,.rw,0,4294967295⟩]⟩,
  ⟨0x0044001C, 0x40, 2048, 1024, 4, 1, 0x00000000#32, none, [⟨31,0,.rw,0,4294967295⟩]⟩,
  ⟨0x00440020, 0x40, 2048, 1024, 4, 1, 0x00000000#32, none, [⟨31,0,.rw,0,4294967295⟩]⟩,
  ⟨0x00440024, 0x40, 2048, 1024, 4, 1, 0x00000000#32, none, [⟨15,0,.rw,0,65535⟩]⟩,
  ⟨0x00440028, 0x40, 2048, 1024, 4, 1, 0x00000000#32, none, [⟨31,0,.rw,0,4294967295⟩]⟩,
  ⟨0x0044002C, 0x40, 2048, 1024, 4, 1, 0x00000000#32, none, [⟨15,0,.rw,0,65535⟩]⟩,
  ⟨0x00400000, 0x4, 1, 1, 4, 1, 0x00000000#32, none, [⟨7,0,.w1c,0,255⟩, ⟨8,8,.w1c,0,1⟩, ⟨9,9,.w1c,0,1⟩, ⟨10,10,.w1c,0,1⟩, ⟨11,11,.w1c,0,1⟩, ⟨12,12,.w1c,0,1⟩]⟩,
  ⟨0x00400004, 0x4, 1, 1, 4, 1, 0x00000000#32, none, [⟨31,0,.ro,0,4294967295⟩]⟩,
  ⟨0x00400008, 0x4, 1, 1, 4, 1, 0x00000000#32, none, [⟨6,0,.wo,0,127⟩, ⟨8,7,.wo,0,3⟩, ⟨31,31,.wo,0,1⟩]⟩,
  ⟨0x00400020, 0x4, 1, 1, 4, 1, 0x00000000#32, none, [⟨7,0,.rw,0,255⟩]⟩,
  ⟨0x00400024, 0x4, 1, 1, 4, 1, 0x00000000#32, none, [⟨23,5,.rw,0,524287⟩]⟩,
  ⟨0x00400028, 0x4, 1, 1, 4, 1, 0x00000000#32, none, [⟨31,0,.wo,0,4294967295⟩]⟩,
  ⟨0x00440000, 0x40, 2048, 1024, 4, 1, 0x00000E00#32, none, [⟨1,0,.rw,0,3⟩, ⟨3,2,.rw,0,3⟩, ⟨5,4,.rw,0,2⟩, ⟨8,6,.rw,0,4⟩, ⟨12,9,.rw,0,15⟩, ⟨13,13,.rw,0,1⟩, ⟨14,14,.rw,0,1⟩, ⟨16,15,.rw,0,3⟩]⟩,
  ⟨0x00440014, 0x40, 2048, 1024, 4, 1, 0x000003FF#32, none, [⟨13,0,.rw,0,16383⟩]⟩,
  ⟨0x00440030, 0x40, 2048, 1024, 4, 1, 0x00000000#32, none, [⟨19,0,.rw,0,1048575⟩, ⟨31,20,.rw,0,4095⟩]⟩,
  ⟨0x00440034, 0x40, 2048, 1024, 4, 1, 0x00000000#32, none, [⟨15,0,.rw,0,65535⟩]⟩,
  ⟨0x00440038, 0x40, 2048, 1024, 4, 1, 0x00000000#32, none, [⟨1,0,.ro,0,3⟩, ⟨2,2,.ro,0,1⟩, ⟨3,3,.ro,0,1⟩, ⟨31,16,.ro,0,65535⟩]⟩,
  ⟨0x0044003C, 0x40, 2048, 1024, 4, 1, 0x00000000#32, none, [⟨0,0,.wo,0,1⟩, ⟨1,1,.wo,0,1⟩, ⟨2,2,.wo,0,1⟩]⟩]

/-- Registers of the block ACQ. -/
def RegMap.acq : List RegDesc := [
  ⟨0x00800014, 0x4, 1, 1, 4, 1, 0x00000000#32, none, [⟨31,0,.rw,0,4294967295⟩]⟩,
  ⟨0x00800018, 0x4, 1, 1, 4, 1, 0x00000000#32, none, [⟨31,0,.rw,0,4294967295⟩]⟩,
  ⟨0x00800050, 0x4, 1, 1, 4, 1, 0x00000000#32, none, [⟨23,5,.rw,0,524287⟩]⟩,
  ⟨0x00800054, 0x4, 1, 1, 4, 1, 0x00000000#32, none, [⟨31,0,.wo,0,4294967295⟩]⟩,
  ⟨0x00801000, 0x4, 16, 16, 4, 1, 0x00000000#32, none, [⟨31,0,.wo,0,4294967295⟩]⟩,
  ⟨0x00800000, 0x4, 1, 1, 4, 1, 0x0000000F#32, none, [⟨3,0,.rw,0,15⟩]⟩,
  ⟨0x00800004, 0x4, 1, 1, 4, 1, 0x00000000#32, none, [⟨0,0,.w1c,0,1⟩, ⟨1,1,.w1c,0,1⟩, ⟨2,2,.w1c,0,1⟩, ⟨3,3,.w1c,0,1⟩]⟩,
  ⟨0x00800008, 0x4, 1, 1, 4, 1, 0x01800000#32, none, [⟨3,0,.ro,0,15⟩, ⟨12,4,.ro,0,511⟩, ⟨24,16,.ro,0,511⟩]⟩,
  ⟨0x00800010, 0x4, 1, 1, 4, 1, 0x00000000#32, none, [⟨15,0,.rw,0,65535⟩, ⟨20,16,.rw,1,24⟩]⟩,
  ⟨0x0080001C, 0x4, 1, 1, 4, 1, 0x00000000#32, none, [⟨0,0,.wo,0,1⟩, ⟨1,1,.wo,0,1⟩, ⟨15,8,.wo,0,255⟩]⟩,
  ⟨0x00800020, 0x4, 1, 1, 4, 1, 0x00000000#32, none, [⟨7,0,.ro,0,255⟩, ⟨9,8,.ro,0,3⟩, ⟨10,10,.ro,0,1⟩, ⟨31,16,.ro,0,65535⟩]⟩,
  ⟨0x00800030, 0x4, 1, 1, 4, 1, 0x0004003C#32, none, [⟨9,0,.rw,1,600⟩, ⟨19,15,.rw,2,20⟩]⟩,
  ⟨0x00800034, 0x4, 1, 1, 4, 1, 0x00000001#32, none, [⟨15,0,.rw,0,65535⟩]⟩,
  ⟨0x00800038, 0x4, 1, 1, 4, 1, 0x00000000#32, none, [⟨15,0,.ro,0,65535⟩, ⟨31,16,.ro,0,65535⟩]⟩,
  ⟨0x00800040, 0x4, 1, 1, 4, 1, 0x0000001E#32, none, [⟨9,0,.rw,1,600⟩]⟩,
  ⟨0x00800044, 0x4, 1, 1, 4, 1, 0x00000000#32, none, [⟨15,0,.ro,0,65535⟩, ⟨31,16,.ro,0,65535⟩]⟩]

/-- Registers of the block REF. -/
def RegMap.ref : List RegDesc := [
  ⟨0x00900104, 0x40, 4, 2, 4, 6, 0x00000000#32, some 0, [⟨31,0,.rw,0,4294967295⟩]⟩,
  ⟨0x00900410, 0x40, 16, 16, 4, 4, 0x00000000#32, some 0, [⟨31,0,.rw,0,4294967295⟩]⟩,
  ⟨0x00900000, 0x4, 1, 1, 4, 1, 0x00001E04#32, some 0, [⟨2,0,.rw,0,4⟩, ⟨13,8,.rw,0,63⟩, ⟨14,14,.rw,0,1⟩]⟩,
  ⟨0x00900004, 0x4, 1, 1, 4, 1, 0x00000000#32, none, [⟨3,0,.w1c,0,15⟩, ⟨4,4,.w1c,0,1⟩, ⟨5,5,.w1c,0,1⟩, ⟨6,6,.w1c,0,1⟩, ⟨7,7,.w1c,0,1⟩, ⟨8,8,.w1c,0,1⟩, ⟨9,9,.w1c,0,1⟩, ⟨10,10,.w1c,0,1⟩]⟩,
  ⟨0x00900008, 0x4, 1, 1, 4, 1, 0x00000400#32, none, [⟨7,0,.ro,0,255⟩, ⟨9,8,.ro,0,3⟩, ⟨10,10,.ro,0,1⟩, ⟨11,11,.ro,0,1⟩, ⟨14,12,.ro,0,7⟩, ⟨17,16,.ro,0,3⟩]⟩,
  ⟨0x0090000C, 0x4, 1, 1, 4, 1, 0x512C0314#32, some 0, [⟨7,0,.rw,1,255⟩, ⟨11,8,.rw,1,15⟩, ⟨27,16,.rw,1,4095⟩, ⟨31,28,.rw,1,15⟩]⟩,
  ⟨0x00900010, 0x4, 1, 1, 4, 1, 0x0001003C#32, some 0, [⟨10,0,.rw,1,1440⟩, ⟨19,16,.rw,0,15⟩]⟩,
  ⟨0x00900014, 0x4, 1, 1, 4, 1, 0x00000000#32, none, [⟨0,0,.wo,0,1⟩, ⟨1,1,.wo,0,1⟩]⟩,
  ⟨0x00900018, 0x4, 1, 1, 4, 1, 0x00000012#32, some 0, [⟨7,0,.rw,0,255⟩, ⟨15,8,.rw,0,255⟩, ⟨16,16,.rw,0,1⟩]⟩,
  ⟨0x0090001C, 0x4, 1, 1, 4, 1, 0x00000000#32, some 0, [⟨31,0,.rw,0,4294967295⟩]⟩,
  ⟨0x00900020, 0x4, 1, 1, 4, 1, 0x80008000#32, some 0, [⟨15,0,.rw,0,65535⟩, ⟨31,16,.rw,0,65535⟩]⟩,
  ⟨0x00900100, 0x40, 4, 2, 4, 1, 0x00000000#32, some 0, [⟨0,0,.rw,0,1⟩, ⟨1,1,.rw,0,1⟩, ⟨3,2,.rw,0,3⟩, ⟨11,4,.rw,0,255⟩]⟩,
  ⟨0x0090011C, 0x40, 4, 2, 4, 1, 0x00000000#32, some 0, [⟨15,0,.rw,0,65535⟩]⟩,
  ⟨0x00900120, 0x40, 4, 2, 4, 1, 0x00000000#32, none, [⟨0,0,.wo,0,1⟩, ⟨1,1,.wo,0,1⟩]⟩,
  ⟨0x00900124, 0x40, 4, 2, 4, 1, 0x00000000#32, none, [⟨15,0,.ro,0,65535⟩, ⟨19,16,.ro,0,15⟩, ⟨23,20,.ro,0,15⟩, ⟨24,24,.ro,0,1⟩]⟩,
  ⟨0x00900128, 0x40, 4, 2, 4, 1, 0x00000000#32, none, [⟨15,0,.ro,0,65535⟩]⟩,
  ⟨0x00900400, 0x40, 16, 16, 4, 1, 0x00000000#32, some 0, [⟨0,0,.rw,0,1⟩, ⟨3,1,.rw,0,5⟩, ⟨6,4,.rw,0,4⟩, ⟨7,7,.rw,0,1⟩, ⟨8,8,.rw,0,1⟩, ⟨9,9,.rw,0,1⟩, ⟨15,10,.rw,0,63⟩]⟩,
  ⟨0x00900404, 0x40, 16, 16, 4, 1, 0x0140A000#32, some 0, [⟨11,0,.rw,0,4095⟩, ⟨20,12,.rw,1,300⟩, ⟨29,21,.rw,1,300⟩]⟩,
  ⟨0x00900408, 0x40, 16, 16, 4, 1, 0x00000000#32, some 0, [⟨17,0,.rw,0,262143⟩]⟩,
  ⟨0x0090040C, 0x40, 16, 16, 4, 1, 0x00000000#32, some 0, [⟨1,0,.rw,0,3⟩, ⟨9,2,.rw,0,255⟩]⟩,
  ⟨0x00900420, 0x40, 16, 16, 4, 1, 0xB86BB86B#32, some 0, [⟨15,0,.rw,0,65535⟩, ⟨31,16,.rw,0,65535⟩]⟩,
  ⟨0x00900424, 0x40, 16, 16, 4, 1, 0x000005C0#32, some 0, [⟨13,0,.rw,1048,8972⟩]⟩,
  ⟨0x00900428, 0x40, 16, 16, 4, 1, 0x00000000#32, none, [⟨15,0,.ro,0,65535⟩, ⟨31,16,.ro,0,65535⟩]⟩,
  ⟨0x0090042C, 0x40, 16, 16, 4, 1, 0x00000000#32, none, [⟨0,0,.ro,0,1⟩, ⟨1,1,.ro,0,1⟩, ⟨2,2,.ro,0,1⟩, ⟨3,3,.ro,0,1⟩]⟩,
  ⟨0x00901000, 0x40, 4, 2, 4, 16, 0x00000000#32, some 0, [⟨31,0,.rw,0,4294967295⟩]⟩]

/-- Registers of the block PST. -/
def RegMap.pst : List RegDesc := [
  ⟨0x00A00080, 0x4, 8, 8, 4, 1, 0x00000000#32, none, [⟨31,0,.ro,0,4294967295⟩]⟩,
  ⟨0x00A00400, 0x10, 256, 96, 4, 4, 0x00000000#32, none, [⟨31,0,.ro,0,4294967295⟩]⟩,
  ⟨0x00A00000, 0x4, 1, 1, 4, 1, 0x0000FFFF#32, none, [⟨15,0,.rw,0,65535⟩]⟩,
  ⟨0x00A00004, 0x4, 1, 1, 4, 1, 0x00000000#32, none, [⟨0,0,.w1c,0,1⟩, ⟨1,1,.w1c,0,1⟩, ⟨2,2,.w1c,0,1⟩, ⟨3,3,.w1c,0,1⟩, ⟨4,4,.w1c,0,1⟩, ⟨5,5,.w1c,0,1⟩, ⟨6,6,.w1c,0,1⟩, ⟨7,7,.w1c,0,1⟩, ⟨8,8,.w1c,0,1⟩, ⟨9,9,.w1c,0,1⟩]⟩,
  ⟨0x00A00008, 0x4, 1, 1, 4, 1, 0x00000010#32, none, [⟨4,0,.ro,0,31⟩, ⟨9,5,.ro,0,31⟩, ⟨24,10,.ro,0,32767⟩]⟩,
  ⟨0x00A0000C, 0x4, 1, 1, 4, 1, 0x00000000#32, none, [⟨15,0,.ro,0,65535⟩]⟩,
  ⟨0x00A00010, 0x4, 1, 1, 4, 1, 0x00000000#32, none, [⟨31,0,.ro,0,4294967295⟩]⟩,
  ⟨0x00A00014, 0x4, 1, 1, 4, 1, 0x00000000#32, none, [⟨3,0,.wo,0,15⟩, ⟨5,4,.wo,0,3⟩, ⟨31,31,.wo,0,1⟩]⟩,
  ⟨0x00A00020, 0x4, 1, 1, 4, 1, 0x002EE3E8#32, some 1, [⟨10,0,.rw,1,1900⟩, ⟨21,11,.rw,100,1900⟩]⟩,
  ⟨0x00A00024, 0x4, 1, 1, 4, 1, 0x0000283C#32, some 1, [⟨15,0,.rw,1000,60000⟩]⟩,
  ⟨0x00A00028, 0x4, 1, 1, 4, 1, 0x00021C0A#32, some 1, [⟨6,0,.rw,0,60⟩, ⟨13,8,.rw,0,63⟩, ⟨23,16,.rw,0,255⟩]⟩,
  ⟨0x00A0002C, 0x4, 1, 1, 4, 1, 0x00000A32#32, some 1, [⟨7,0,.rw,1,255⟩, ⟨15,8,.rw,1,255⟩]⟩,
  ⟨0x00A00030, 0x4, 1, 1, 4, 1, 0x0400681E#32, some 1, [⟨7,0,.rw,10,255⟩, ⟨11,8,.rw,4,9⟩, ⟨17,12,.rw,4,63⟩, ⟨27,20,.rw,1,255⟩]⟩,
  ⟨0x00A00034, 0x4, 1, 1, 4, 1, 0x00000C57#32, some 1, [⟨3,0,.rw,4,9⟩, ⟨7,4,.rw,3,8⟩, ⟨11,8,.rw,2,12⟩]⟩,
  ⟨0x00A00038, 0x4, 1, 1, 4, 1, 0x000000C8#32, some 1, [⟨11,0,.rw,0,4095⟩]⟩,
  ⟨0x00A0003C, 0x4, 1, 1, 4, 1, 0x00000A64#32, some 1, [⟨7,0,.rw,1,255⟩, ⟨15,8,.rw,1,255⟩]⟩,
  ⟨0x00A00040, 0x4, 1, 1, 4, 1, 0x00000000#32, none, [⟨15,0,.ro,0,65535⟩]⟩,
  ⟨0x00A00044, 0x4, 1, 1, 4, 1, 0x00000000#32, none, [⟨0,0,.wo,0,1⟩]⟩,
  ⟨0x00A00048, 0x4, 1, 1, 4, 1, 0x00000000#32, none, [⟨7,0,.wo,0,255⟩, ⟨8,8,.wo,0,1⟩]⟩,
  ⟨0x00A00100, 0x4, 32, 32, 4, 1, 0x000A0000#32, some 1, [⟨15,0,.rw,0,65535⟩, ⟨23,16,.rw,0,255⟩]⟩]

/-- Registers of the block CHT. -/
def RegMap.cht : List RegDesc := [
  ⟨0x00C00080, 0x4, 12, 12, 4, 1, 0x00000000#32, none, [⟨31,0,.ro,0,4294967295⟩]⟩,
  ⟨0x00C00010, 0x4, 1, 1, 4, 1, 0x00000000#32, none, [⟨31,0,.rw,0,4294967295⟩]⟩,
  ⟨0x00C00014, 0x4, 1, 1, 4, 1, 0x00000000#32, none, [⟨31,0,.rw,0,4294967295⟩]⟩,
  ⟨0x00C00030, 0x4, 1, 1, 4, 1, 0x00000000#32, none, [⟨31,0,.rw,0,4294967295⟩]⟩,
  ⟨0x00C00034, 0x4, 1, 1, 4, 1, 0x00000000#32, none, [⟨31,0,.rw,0,4294967295⟩]⟩,
  ⟨0x00C00044, 0x4, 1, 1, 4, 1, 0x00000000#32, none, [⟨31,0,.ro,0,4294967295⟩]⟩,
  ⟨0x00C00048, 0x4, 1, 1, 4, 1, 0x00000000#32, none, [⟨20,0,.ro,0,2097151⟩]⟩,
  ⟨0x00C01004, 0x20, 32, 32, 4, 1, 0x00000000#32, some 2, [⟨15,0,.rw,0,65535⟩, ⟨31,16,.rw,0,65535⟩]⟩,
  ⟨0x00C01008, 0x20, 32, 32, 4, 1, 0x00000000#32, some 2, [⟨15,0,.rw,0,65535⟩, ⟨31,16,.rw,0,65535⟩]⟩,
  ⟨0x00C10000, 0x10, 1024, 256, 4, 4, 0x00000000#32, none, [⟨31,0,.ro,0,4294967295⟩]⟩,
  ⟨0x00C00000, 0x4, 1, 1, 4, 1, 0x0004B064#32, some 2, [⟨9,0,.rw,20,500⟩, ⟨19,10,.rw,20,1000⟩, ⟨31,31,.rw,0,1⟩]⟩,
  ⟨0x00C00004, 0x4, 1, 1, 4, 1, 0x00000000#32, none, [⟨0,0,.w1c,0,1⟩, ⟨1,1,.w1c,0,1⟩, ⟨2,2,.w1c,0,1⟩, ⟨3,3,.w1c,0,1⟩, ⟨4,4,.w1c,0,1⟩, ⟨5,5,.w1c,0,1⟩, ⟨6,6,.w1c,0,1⟩, ⟨7,7,.w1c,0,1⟩, ⟨8,8,.w1c,0,1⟩, ⟨9,9,.w1c,0,1⟩, ⟨10,10,.w1c,0,1⟩, ⟨11,11,.w1c,0,1⟩]⟩,
  ⟨0x00C00008, 0x4, 1, 1, 4, 1, 0x00000000#32, none, [⟨0,0,.ro,0,1⟩, ⟨1,1,.ro,0,1⟩, ⟨2,2,.ro,0,1⟩, ⟨3,3,.ro,0,1⟩, ⟨15,8,.ro,0,255⟩]⟩,
  ⟨0x00C0000C, 0x4, 1, 1, 4, 1, 0x00000043#32, none, [⟨6,0,.ro,0,127⟩]⟩,
  ⟨0x00C00018, 0x4, 1, 1, 4, 1, 0x00000000#32, none, [⟨31,0,.ro,0,4294967295⟩]⟩,
  ⟨0x00C0001C, 0x4, 1, 1, 4, 1, 0x00000000#32, none, [⟨31,0,.rw,0,4294967295⟩]⟩,
  ⟨0x00C00020, 0x4, 1, 1, 4, 1, 0x00000000#32, none, [⟨0,0,.wo,0,1⟩, ⟨1,1,.wo,0,1⟩, ⟨2,2,.wo,0,1⟩, ⟨3,3,.wo,0,1⟩]⟩,
  ⟨0x00C00024, 0x4, 1, 1, 4, 1, 0x0000005A#32, none, [⟨6,0,.rw,1,100⟩]⟩,
  ⟨0x00C00028, 0x4, 1, 1, 4, 1, 0x00000000#32, none, [⟨22,0,.ro,0,8388607⟩]⟩,
  ⟨0x00C0002C, 0x4, 1, 1, 4, 1, 0x00000000#32, none, [⟨17,0,.ro,0,262143⟩, ⟨22,18,.ro,0,31⟩]⟩,
  ⟨0x00C00038, 0x4, 1, 1, 4, 1, 0x00000000#32, none, [⟨31,0,.rw,256,201326592⟩]⟩,
  ⟨0x00C0003C, 0x4, 1, 1, 4, 1, 0x00000000#32, none, [⟨5,0,.rw,0,63⟩]⟩,
  ⟨0x00C00040, 0x4, 1, 1, 4, 1, 0x00000000#32, none, [⟨1,0,.ro,0,3⟩, ⟨11,8,.ro,0,15⟩]⟩,
  ⟨0x00C00050, 0x4, 1, 1, 4, 1, 0x00000000#32, none, [⟨15,0,.ro,0,65535⟩, ⟨31,16,.ro,0,65535⟩]⟩,
  ⟨0x00C00054, 0x4, 1, 1, 4, 1, 0x00000000#32, none, [⟨15,0,.ro,0,65535⟩]⟩,
  ⟨0x00C00058, 0x4, 1, 1, 4, 1, 0x003E80C8#32, some 2, [⟨10,0,.rw,10,1900⟩, ⟨26,11,.rw,100,60000⟩]⟩,
  ⟨0x00C01000, 0x20, 32, 32, 4, 1, 0x00000000#32, some 2, [⟨15,0,.rw,0,65535⟩, ⟨31,16,.rw,0,65535⟩]⟩,
  ⟨0x00C0100C, 0x20, 32, 32, 4, 1, 0x00000000#32, some 2, [⟨15,0,.rw,0,65535⟩, ⟨31,16,.rw,0,65535⟩]⟩,
  ⟨0x00C01010, 0x20, 32, 32, 4, 1, 0x00000000#32, some 2, [⟨15,0,.rw,0,65535⟩, ⟨31,16,.rw,0,65535⟩]⟩,
  ⟨0x00C01014, 0x20, 32, 32, 4, 1, 0x00000001#32, some 2, [⟨1,0,.rw,1,3⟩]⟩]

/-- Registers of the block DSP. -/
def RegMap.dsp : List RegDesc := [
  ⟨0x00E00080, 0x4, 8, 8, 4, 1, 0x00000000#32, none, [⟨31,0,.ro,0,4294967295⟩]⟩,
  ⟨0x00E80080, 0x4, 8, 8, 4, 1, 0x00000000#32, none, [⟨31,0,.ro,0,4294967295⟩]⟩,
  ⟨0x00E00000, 0x4, 1, 1, 4, 1, 0x00103B80#32, some 5, [⟨13,0,.rw,1024,15232⟩, ⟨21,16,.rw,1,63⟩]⟩,
  ⟨0x00E00004, 0x4, 1, 1, 4, 1, 0x00000000#32, none, [⟨0,0,.w1c,0,1⟩, ⟨1,1,.w1c,0,1⟩, ⟨2,2,.w1c,0,1⟩, ⟨3,3,.w1c,0,1⟩]⟩,
  ⟨0x00E00008, 0x4, 1, 1, 4, 1, 0x00000000#32, none, [⟨14,0,.ro,0,32767⟩, ⟨15,15,.ro,0,1⟩, ⟨24,16,.ro,0,511⟩]⟩,
  ⟨0x00E0000C, 0x4, 1, 1, 4, 1, 0x00000000#32, none, [⟨14,0,.ro,0,32767⟩]⟩,
  ⟨0x00E00010, 0x4, 1, 1, 4, 1, 0x00014321#32, some 5, [⟨2,0,.rw,1,7⟩, ⟨6,4,.rw,1,7⟩, ⟨10,8,.rw,1,7⟩, ⟨14,12,.rw,1,7⟩, ⟨18,16,.rw,1,7⟩]⟩,
  ⟨0x00E00020, 0x4, 1, 1, 4, 1, 0x00000000#32, none, [⟨0,0,.wo,0,1⟩]⟩,
  ⟨0x00E00040, 0x4, 8, 8, 4, 1, 0x00000000#32, none, [⟨14,0,.ro,0,32767⟩]⟩,
  ⟨0x00E01000, 0x4, 256, 256, 4, 1, 0x00000500#32, some 5, [⟨5,0,.rw,0,63⟩, ⟨10,8,.rw,1,7⟩]⟩,
  ⟨0x00E04000, 0x4, 1152, 1152, 4, 1, 0x00000000#32, none, [⟨8,0,.ro,0,511⟩, ⟨15,12,.ro,0,15⟩, ⟨18,16,.ro,0,7⟩, ⟨19,19,.ro,0,1⟩, ⟨20,20,.ro,0,1⟩]⟩,
  ⟨0x00E80000, 0x4, 1, 1, 4, 1, 0x00000000#32, some 6, [⟨0,0,.rw,0,1⟩, ⟨15,8,.rw,0,255⟩]⟩,
  ⟨0x00E80004, 0x4, 1, 1, 4, 1, 0x00000000#32, none, [⟨0,0,.w1c,0,1⟩, ⟨1,1,.w1c,0,1⟩, ⟨2,2,.w1c,0,1⟩, ⟨3,3,.w1c,0,1⟩]⟩,
  ⟨0x00E80008, 0x4, 1, 1, 4, 1, 0x00000000#32, none, [⟨16,0,.ro,0,131071⟩]⟩,
  ⟨0x00E8000C, 0x4, 1, 1, 4, 1, 0x00000000#32, none, [⟨10,0,.ro,0,2047⟩, ⟨28,16,.ro,0,8191⟩]⟩,
  ⟨0x00E90000, 0x4, 1024, 256, 4, 1, 0xFFFFFFFF#32, none, [⟨31,0,.ro,0,4294967295⟩]⟩,
  ⟨0x00EA0000, 0x4, 4096, 4096, 4, 1, 0x00000000#32, none, [⟨1,0,.ro,0,3⟩, ⟨18,2,.ro,0,131071⟩]⟩]

/-- Registers of the block NFL. -/
def RegMap.nfl : List RegDesc := [
  ⟨0x00F00080, 0x4, 8, 8, 4, 1, 0x00000000#32, none, [⟨31,0,.ro,0,4294967295⟩]⟩,
  ⟨0x00F00010, 0x4, 1, 1, 4, 1, 0x00000800#32, none, [⟨13,1,.ro,0,8191⟩]⟩,
  ⟨0x00F00014, 0x4, 1, 1, 4, 1, 0x00000880#32, none, [⟨13,1,.ro,0,8191⟩]⟩,
  ⟨0x00F00018, 0x4, 1, 1, 4, 1, 0x00000000#32, none, [⟨31,0,.ro,0,4294967295⟩]⟩,
  ⟨0x00F0001C, 0x4, 1, 1, 4, 1, 0x00000000#32, none, [⟨31,0,.ro,0,4294967295⟩]⟩,
  ⟨0x00F00000, 0x4, 1, 1, 4, 1, 0x00000001#32, none, [⟨1,0,.ro,0,3⟩, ⟨2,2,.ro,0,1⟩, ⟨3,3,.ro,0,1⟩, ⟨4,4,.ro,0,1⟩, ⟨5,5,.ro,0,1⟩, ⟨6,6,.ro,0,1⟩, ⟨7,7,.ro,0,1⟩, ⟨8,8,.ro,0,1⟩, ⟨29,16,.ro,0,16383⟩]⟩,
  ⟨0x00F00004, 0x4, 1, 1, 4, 1, 0x00000000#32, none, [⟨0,0,.w1c,0,1⟩, ⟨1,1,.w1c,0,1⟩, ⟨2,2,.w1c,0,1⟩, ⟨3,3,.w1c,0,1⟩, ⟨4,4,.w1c,0,1⟩, ⟨5,5,.w1c,0,1⟩, ⟨6,6,.w1c,0,1⟩, ⟨7,7,.w1c,0,1⟩, ⟨8,8,.w1c,0,1⟩]⟩,
  ⟨0x00F00008, 0x4, 1, 1, 4, 1, 0x00000000#32, none, [⟨31,0,.ro,0,4294967295⟩]⟩,
  ⟨0x00F0000C, 0x4, 1, 1, 4, 1, 0x0000000B#32, none, [⟨7,0,.ro,0,255⟩]⟩,
  ⟨0x00F00020, 0x4, 1, 1, 4, 1, 0x00320032#32, some 3, [⟨12,0,.rw,25,5000⟩, ⟨23,16,.rw,1,255⟩, ⟨24,24,.rw,0,1⟩]⟩,
  ⟨0x00F00024, 0x4, 1, 1, 4, 1, 0x03206414#32, some 3, [⟨7,0,.rw,1,255⟩, ⟨17,8,.rw,10,1000⟩, ⟨31,18,.rw,1,3000⟩]⟩,
  ⟨0x00F00028, 0x4, 1, 1, 4, 1, 0x00000000#32, some 3, [⟨5,0,.rw,0,63⟩, ⟨13,8,.rw,0,63⟩]⟩,
  ⟨0x00F00030, 0x4, 1, 1, 4, 1, 0x00000000#32, none, [⟨0,0,.wo,0,1⟩, ⟨15,8,.wo,0,255⟩]⟩,
  ⟨0x00F00034, 0x4, 1, 1, 4, 1, 0x00000000#32, none, [⟨15,0,.wo,0,65535⟩]⟩,
  ⟨0x00F00038, 0x4, 1, 1, 4, 1, 0x00000000#32, none, [⟨15,0,.wo,0,65535⟩, ⟨16,16,.wo,0,1⟩]⟩,
  ⟨0x00F0003C, 0x4, 1, 1, 4, 1, 0x00000000#32, none, [⟨9,0,.wo,0,1023⟩, ⟨31,31,.wo,0,1⟩]⟩,
  ⟨0x00F00040, 0x4, 1, 1, 4, 1, 0x00000000#32, none, [⟨7,0,.ro,0,255⟩, ⟨9,8,.ro,0,3⟩, ⟨25,16,.ro,0,1023⟩]⟩,
  ⟨0x00F00044, 0x4, 1, 1, 4, 1, 0x00000000#32, none, [⟨31,0,.wo,0,4294967295⟩]⟩,
  ⟨0x00F00100, 0x4, 32, 32, 4, 1, 0xFFFFFFFF#32, none, [⟨31,0,.ro,0,4294967295⟩]⟩]

/-- Registers of the block NET. -/
def RegMap.net : List RegDesc := [
  ⟨0x0100000C, 0x40000, 4, 2, 4, 1, 0x00000000#32, some 7, [⟨31,0,.rw,0,4294967295⟩]⟩,
  ⟨0x01000010, 0x40000, 4, 2, 4, 1, 0x00000000#32, some 7, [⟨15,0,.rw,0,65535⟩]⟩,
  ⟨0x01000014, 0x40000, 4, 2, 4, 1, 0x00000000#32, some 7, [⟨31,0,.rw,0,4294967295⟩]⟩,
  ⟨0x01000018, 0x40000, 4, 2, 4, 1, 0x00000000#32, some 7, [⟨15,0,.rw,0,65535⟩]⟩,
  ⟨0x01000020, 0x40000, 4, 2, 4, 4, 0x00000000#32, some 7, [⟨31,0,.rw,0,4294967295⟩]⟩,
  ⟨0x01000048, 0x40000, 4, 2, 4, 4, 0x00000000#32, some 7, [⟨31,0,.rw,0,4294967295⟩]⟩,
  ⟨0x01000080, 0x40000, 4, 2, 4, 8, 0x00000000#32, none, [⟨31,0,.ro,0,4294967295⟩]⟩,
  ⟨0x01000000, 0x40000, 4, 2, 4, 1, 0x000001C0#32, some 7, [⟨0,0,.rw,0,1⟩, ⟨1,1,.rw,0,1⟩, ⟨2,2,.rw,0,1⟩, ⟨3,3,.rw,0,1⟩, ⟨4,4,.rw,0,1⟩, ⟨5,5,.rw,0,1⟩, ⟨6,6,.rw,0,1⟩, ⟨7,7,.rw,0,1⟩, ⟨8,8,.rw,0,1⟩, ⟨9,9,.rw,0,1⟩]⟩,
  ⟨0x01000004, 0x40000, 4, 2, 4, 1, 0x00000000#32, none, [⟨0,0,.ro,0,1⟩, ⟨1,1,.ro,0,1⟩, ⟨2,2,.ro,0,1⟩, ⟨3,3,.ro,0,1⟩, ⟨4,4,.ro,0,1⟩]⟩,
  ⟨0x01000008, 0x40000, 4, 2, 4, 1, 0x00000000#32, none, [⟨0,0,.w1c,0,1⟩, ⟨1,1,.w1c,0,1⟩, ⟨2,2,.w1c,0,1⟩, ⟨3,3,.w1c,0,1⟩, ⟨4,4,.w1c,0,1⟩, ⟨5,5,.w1c,0,1⟩, ⟨6,6,.w1c,0,1⟩, ⟨7,7,.w1c,0,1⟩, ⟨8,8,.w1c,0,1⟩, ⟨9,9,.w1c,0,1⟩, ⟨10,10,.w1c,0,1⟩]⟩,
  ⟨0x0100001C, 0x40000, 4, 2, 4, 1, 0x00000000#32, some 7, [⟨11,0,.rw,0,4095⟩, ⟨14,12,.rw,0,7⟩]⟩,
  ⟨0x01000030, 0x40000, 4, 2, 4, 1, 0x0000B86A#32, some 7, [⟨15,0,.rw,0,65535⟩]⟩,
  ⟨0x01000034, 0x40000, 4, 2, 4, 1, 0x07D080C0#32, some 7, [⟨7,0,.rw,1,255⟩, ⟨15,8,.rw,0,255⟩, ⟨31,16,.rw,100,65535⟩]⟩,
  ⟨0x01000038, 0x40000, 4, 2, 4, 1, 0x00000000#32, none, [⟨18,0,.ro,0,524287⟩]⟩,
  ⟨0x01000040, 0x40000, 4, 2, 4, 1, 0x000007D0#32, some 7, [⟨23,0,.rw,0,100000⟩]⟩,
  ⟨0x01000044, 0x40000, 4, 2, 4, 1, 0xB86A0040#32, some 7, [⟨5,0,.rw,0,63⟩, ⟨6,6,.rw,0,1⟩, ⟨31,16,.rw,0,65535⟩]⟩,
  ⟨0x01000060, 0x40000, 4, 2, 4, 1, 0x00000000#32, some 7, [⟨7,0,.rw,0,255⟩]⟩]

/-- Registers of the block PAI. -/
def RegMap.pai : List RegDesc := [
  ⟨0x01100080, 0x4, 8, 8, 4, 1, 0x00000000#32, none, [⟨31,0,.ro,0,4294967295⟩]⟩,
  ⟨0x01100010, 0x4, 1, 1, 4, 1, 0x00000000#32, none, [⟨31,0,.ro,0,4294967295⟩]⟩,
  ⟨0x01100014, 0x4, 1, 1, 4, 1, 0x00000000#32, none, [⟨31,0,.rw,0,4294967295⟩]⟩,
  ⟨0x0110001C, 0x4, 1, 1, 4, 1, 0x00000000#32, none, [⟨31,0,.ro,0,4294967295⟩]⟩,
  ⟨0x01100020, 0x4, 1, 1, 4, 1, 0x00000000#32, none, [⟨31,0,.ro,0,4294967295⟩]⟩,
  ⟨0x01100028, 0x4, 1, 1, 4, 1, 0x00000000#32, none, [⟨31,0,.ro,0,4294967295⟩]⟩,
  ⟨0x0110002C, 0x4, 1, 1, 4, 1, 0x00000000#32, none, [⟨31,0,.ro,0,4294967295⟩]⟩,
  ⟨0x01100000, 0x4, 1, 1, 4, 1, 0x00000000#32, none, [⟨0,0,.ro,0,1⟩, ⟨1,1,.ro,0,1⟩, ⟨2,2,.ro,0,1⟩, ⟨3,3,.ro,0,1⟩, ⟨4,4,.ro,0,1⟩, ⟨5,5,.ro,0,1⟩, ⟨6,6,.ro,0,1⟩, ⟨7,7,.ro,0,1⟩, ⟨8,8,.ro,0,1⟩, ⟨9,9,.ro,0,1⟩, ⟨10,10,.ro,0,1⟩, ⟨12,11,.ro,0,3⟩, ⟨13,13,.ro,0,1⟩, ⟨19,16,.ro,0,15⟩]⟩,
  ⟨0x01100004, 0x4, 1, 1, 4, 1, 0x00000000#32, none, [⟨0,0,.w1c,0,1⟩, ⟨1,1,.w1c,0,1⟩, ⟨2,2,.w1c,0,1⟩, ⟨3,3,.w1c,0,1⟩, ⟨4,4,.w1c,0,1⟩, ⟨5,5,.w1c,0,1⟩, ⟨6,6,.w1c,0,1⟩, ⟨7,7,.w1c,0,1⟩, ⟨8,8,.w1c,0,1⟩, ⟨9,9,.w1c,0,1⟩, ⟨10,10,.w1c,0,1⟩, ⟨11,11,.w1c,0,1⟩, ⟨12,12,.w1c,0,1⟩, ⟨13,13,.w1c,0,1⟩]⟩,
  ⟨0x01100008, 0x4, 1, 1, 4, 1, 0x00001401#32, none, [⟨0,0,.rw,0,1⟩, ⟨1,1,.rw,0,1⟩, ⟨7,2,.rw,0,63⟩, ⟨15,8,.rw,1,255⟩]⟩,
  ⟨0x0110000C, 0x4, 1, 1, 4, 1, 0x00000000#32, none, [⟨0,0,.wo,0,1⟩, ⟨1,1,.wo,0,1⟩]⟩,
  ⟨0x01100018, 0x4, 1, 1, 4, 1, 0x00000000#32, none, [⟨15,0,.ro,0,65535⟩, ⟨31,16,.ro,0,65535⟩]⟩,
  ⟨0x01100024, 0x4, 1, 1, 4, 1, 0x00000000#32, none, [⟨31,0,.ro,0,4294967295⟩]⟩]

/-- Registers of the block HIF. -/
def RegMap.hif : List RegDesc := [
  ⟨0x01200100, 0x10, 16, 16, 4, 1, 0x00000000#32, none, [⟨31,0,.w1c,0,4294967295⟩]⟩,
  ⟨0x01200104, 0x10, 16, 16, 4, 1, 0x00000000#32, none, [⟨31,0,.rw,0,4294967295⟩]⟩,
  ⟨0x01200108, 0x10, 16, 16, 4, 1, 0x00000000#32, none, [⟨7,0,.rw,0,255⟩, ⟨13,8,.rw,0,63⟩, ⟨14,14,.rw,0,1⟩, ⟨15,15,.rw,0,1⟩]⟩,
  ⟨0x0120010C, 0x10, 16, 16, 4, 1, 0x00000000#32, none, [⟨31,0,.ro,0,4294967295⟩]⟩,
  ⟨0x01201004, 0x40, 256, 256, 4, 1, 0x00000000#32, none, [⟨31,12,.rw,0,1048575⟩]⟩,
  ⟨0x01201008, 0x40, 256, 256, 4, 1, 0x00000000#32, none, [⟨31,0,.rw,0,4294967295⟩]⟩,
  ⟨0x0120100C, 0x40, 256, 256, 4, 1, 0x00000000#32, none, [⟨31,2,.rw,0,1073741823⟩]⟩,
  ⟨0x01201010, 0x40, 256, 256, 4, 1, 0x00000000#32, none, [⟨31,0,.rw,0,4294967295⟩]⟩,
  ⟨0x01201014, 0x40, 256, 256, 4, 1, 0x00000000#32, none, [⟨31,12,.rw,0,1048575⟩]⟩,
  ⟨0x01201018, 0x40, 256, 256, 4, 1, 0x00000000#32, none, [⟨31,0,.rw,0,4294967295⟩]⟩,
  ⟨0x0120101C, 0x40, 256, 256, 4, 1, 0x00000000#32, none, [⟨1,0,.rw,0,3⟩]⟩,
  ⟨0x01201020, 0x40, 256, 256, 4, 1, 0x00000000#32, none, [⟨1,0,.ro,0,3⟩, ⟨7,4,.ro,0,15⟩]⟩,
  ⟨0x01201024, 0x40, 256, 256, 4, 1, 0x00000000#32, none, [⟨31,0,.ro,0,4294967295⟩]⟩,
  ⟨0x01201028, 0x40, 256, 256, 4, 1, 0x00000000#32, none, [⟨31,0,.ro,0,4294967295⟩]⟩,
  ⟨0x0120102C, 0x40, 256, 256, 4, 1, 0x00000000#32, none, [⟨31,0,.ro,0,4294967295⟩]⟩,
  ⟨0x01200000, 0x4, 1, 1, 4, 1, 0x00000000#32, none, [⟨0,0,.ro,0,1⟩, ⟨3,1,.ro,0,7⟩, ⟨6,4,.ro,0,7⟩, ⟨7,7,.ro,0,1⟩]⟩,
  ⟨0x01200004, 0x4, 1, 1, 4, 1, 0x00000000#32, none, [⟨0,0,.w1c,0,1⟩, ⟨1,1,.w1c,0,1⟩, ⟨2,2,.w1c,0,1⟩, ⟨3,3,.w1c,0,1⟩, ⟨4,4,.w1c,0,1⟩, ⟨5,5,.w1c,0,1⟩, ⟨6,6,.w1c,0,1⟩, ⟨7,7,.w1c,0,1⟩]⟩,
  ⟨0x01201000, 0x40, 256, 256, 4, 1, 0x00000000#32, none, [⟨0,0,.rw,0,1⟩, ⟨3,1,.rw,1,5⟩, ⟨7,4,.rw,0,10⟩, ⟨15,8,.rw,0,255⟩, ⟨21,16,.rw,0,63⟩, ⟨22,22,.rw,0,1⟩, ⟨24,23,.rw,0,3⟩, ⟨25,25,.rw,0,1⟩]⟩,
  ⟨0x01208000, 0x4, 64, 64, 4, 1, 0x00000000#32, none, [⟨15,0,.rw,0,65535⟩]⟩,
  ⟨0x01210000, 0x10, 64, 64, 4, 1, 0x00000000#32, none, [⟨31,0,.rw,0,4294967295⟩]⟩,
  ⟨0x01210004, 0x10, 64, 64, 4, 1, 0x00000000#32, none, [⟨31,0,.rw,0,4294967295⟩]⟩,
  ⟨0x01210008, 0x10, 64, 64, 4, 1, 0x00000000#32, none, [⟨31,0,.rw,0,4294967295⟩]⟩,
  ⟨0x0121000C, 0x10, 64, 64, 4, 1, 0x00000001#32, none, [⟨0,0,.rw,0,1⟩]⟩,
  ⟨0x01211000, 0x4, 2, 2, 4, 1, 0x00000000#32, none, [⟨31,0,.ro,0,4294967295⟩]⟩]

/-- Registers of the block KEY. -/
def RegMap.key : List RegDesc := [
  ⟨0x01300008, 0x4, 1, 1, 4, 1, 0x00000000#32, none, [⟨31,0,.ro,0,4294967295⟩]⟩,
  ⟨0x0130000C, 0x4, 1, 1, 4, 1, 0x00000000#32, none, [⟨31,0,.ro,0,4294967295⟩]⟩,
  ⟨0x01300020, 0x4, 1, 1, 4, 1, 0x00000000#32, none, [⟨14,0,.snap,0,32767⟩]⟩,
  ⟨0x01300024, 0x4, 1, 1, 4, 1, 0x00000000#32, none, [⟨31,0,.ro,0,4294967295⟩]⟩,
  ⟨0x01300028, 0x4, 1, 1, 4, 1, 0x00000000#32, none, [⟨15,0,.ro,0,65535⟩]⟩,
  ⟨0x01300100, 0x4, 24, 24, 4, 1, 0x00000000#32, none, [⟨31,0,.rw,0,4294967295⟩]⟩,
  ⟨0x01300000, 0x4, 1, 1, 4, 1, 0x00000000#32, none, [⟨2,0,.ro,0,7⟩, ⟨9,4,.ro,0,63⟩, ⟨15,10,.ro,0,63⟩, ⟨17,16,.ro,0,3⟩, ⟨18,18,.ro,0,1⟩, ⟨19,19,.ro,0,1⟩, ⟨20,20,.ro,0,1⟩, ⟨21,21,.ro,0,1⟩]⟩,
  ⟨0x01300004, 0x4, 1, 1, 4, 1, 0x00000000#32, none, [⟨0,0,.w1c,0,1⟩, ⟨1,1,.w1c,0,1⟩, ⟨2,2,.w1c,0,1⟩, ⟨3,3,.w1c,0,1⟩, ⟨4,4,.w1c,0,1⟩, ⟨5,5,.w1c,0,1⟩, ⟨6,6,.w1c,0,1⟩, ⟨7,7,.w1c,0,1⟩, ⟨8,8,.w1c,0,1⟩]⟩,
  ⟨0x01300010, 0x4, 1, 1, 4, 1, 0x00000000#32, none, [⟨3,0,.rw,0,15⟩, ⟨7,4,.rw,0,15⟩, ⟨8,8,.rw,0,1⟩, ⟨9,9,.rw,0,1⟩, ⟨10,10,.rw,0,1⟩, ⟨11,11,.rw,0,1⟩]⟩,
  ⟨0x01300014, 0x4, 1, 1, 4, 1, 0x00000204#32, none, [⟨7,0,.rw,1,255⟩, ⟨11,8,.rw,1,15⟩]⟩,
  ⟨0x01300018, 0x4, 1, 1, 4, 1, 0x00000000#32, none, [⟨3,0,.ro,0,15⟩, ⟨4,4,.ro,0,1⟩, ⟨5,5,.ro,0,1⟩, ⟨6,6,.ro,0,1⟩, ⟨7,7,.ro,0,1⟩, ⟨8,8,.ro,0,1⟩, ⟨9,9,.ro,0,1⟩, ⟨10,10,.ro,0,1⟩, ⟨11,11,.ro,0,1⟩]⟩,
  ⟨0x0130001C, 0x4, 1, 1, 4, 1, 0x00000000#32, none, [⟨31,0,.ro,0,4294967295⟩]⟩,
  ⟨0x0130002C, 0x4, 1, 1, 4, 1, 0x00000000#32, none, [⟨31,0,.rw,0,4294967295⟩]⟩,
  ⟨0x01300030, 0x4, 1, 1, 4, 1, 0x00000000#32, none, [⟨1,0,.wo,0,3⟩, ⟨31,24,.wo,0,255⟩]⟩,
  ⟨0x01301000, 0x8, 64, 64, 4, 1, 0x00000000#32, none, [⟨1,0,.ro,0,3⟩, ⟨3,2,.ro,0,3⟩, ⟨10,4,.ro,0,127⟩, ⟨11,11,.ro,0,1⟩, ⟨17,12,.ro,0,63⟩, ⟨20,18,.ro,0,7⟩]⟩,
  ⟨0x01301004, 0x8, 64, 64, 4, 1, 0x00000000#32, none, [⟨31,0,.ro,0,4294967295⟩]⟩]

/-- Registers of the block REC. -/
def RegMap.rec : List RegDesc := [
  ⟨0x01400080, 0x4, 8, 8, 4, 1, 0x00000000#32, none, [⟨31,0,.ro,0,4294967295⟩]⟩,
  ⟨0x01400008, 0x4, 1, 1, 4, 1, 0x00000000#32, none, [⟨31,0,.ro,0,4294967295⟩]⟩,
  ⟨0x0140000C, 0x4, 1, 1, 4, 1, 0x00000000#32, none, [⟨31,0,.ro,0,4294967295⟩]⟩,
  ⟨0x01400010, 0x4, 1, 1, 4, 1, 0x00000000#32, none, [⟨31,0,.rw,0,4294967295⟩]⟩,
  ⟨0x01400014, 0x4, 1, 1, 4, 1, 0x00000000#32, none, [⟨6,0,.ro,0,127⟩]⟩,
  ⟨0x01400018, 0x4, 1, 1, 4, 1, 0x0000004B#32, none, [⟨6,0,.rw,1,100⟩]⟩,
  ⟨0x01400000, 0x4, 1, 1, 4, 1, 0x00000002#32, none, [⟨1,0,.ro,0,3⟩, ⟨8,2,.ro,0,127⟩, ⟨12,9,.ro,0,15⟩, ⟨13,13,.ro,0,1⟩, ⟨20,14,.ro,0,127⟩, ⟨21,21,.ro,0,1⟩]⟩,
  ⟨0x01400004, 0x4, 1, 1, 4, 1, 0x00000000#32, none, [⟨0,0,.w1c,0,1⟩, ⟨1,1,.w1c,0,1⟩, ⟨2,2,.w1c,0,1⟩, ⟨3,3,.w1c,0,1⟩, ⟨4,4,.w1c,0,1⟩, ⟨5,5,.w1c,0,1⟩, ⟨6,6,.w1c,0,1⟩, ⟨7,7,.w1c,0,1⟩, ⟨8,8,.w1c,0,1⟩]⟩,
  ⟨0x0140001C, 0x4, 1, 1, 4, 1, 0x00000000#32, none, [⟨5,0,.rw,0,63⟩, ⟨8,8,.rw,0,1⟩]⟩]

/-- Registers of the block PRF. -/
def RegMap.prf : List RegDesc := [
  ⟨0x01500010, 0x4, 8, 8, 4, 1, 0x00000000#32, none, [⟨31,0,.w1c,0,4294967295⟩]⟩,
  ⟨0x01501000, 0x10, 256, 256, 4, 1, 0x00000000#32, none, [⟨11,0,.rw,0,4095⟩, ⟨12,12,.rw,0,1⟩]⟩,
  ⟨0x01501004, 0x10, 256, 256, 4, 1, 0x00000000#32, none, [⟨31,0,.rw,0,4294967295⟩]⟩,
  ⟨0x01501008, 0x10, 256, 256, 4, 1, 0x00000000#32, none, [⟨15,0,.rw,0,65535⟩]⟩,
  ⟨0x01500000, 0x4, 1, 1, 4, 1, 0x00000000#32, none, [⟨3,0,.rw,0,15⟩, ⟨8,8,.rw,0,1⟩]⟩,
  ⟨0x01500004, 0x4, 1, 1, 4, 1, 0x00000000#32, none, [⟨0,0,.w1c,0,1⟩, ⟨1,1,.w1c,0,1⟩, ⟨2,2,.w1c,0,1⟩]⟩]

/-- Registers of the block UPD. -/
def RegMap.upd : List RegDesc := [
  ⟨0x01600100, 0x4, 32, 32, 4, 1, 0x00000000#32, none, [⟨31,0,.ro,0,4294967295⟩]⟩,
  ⟨0x01600200, 0x4, 32, 32, 4, 1, 0x00000000#32, none, [⟨31,0,.rw,0,4294967295⟩]⟩,
  ⟨0x01601008, 0x4, 1, 1, 4, 1, 0x00000000#32, none, [⟨31,0,.ro,0,4294967295⟩]⟩,
  ⟨0x0160100C, 0x4, 1, 1, 4, 1, 0x00000000#32, none, [⟨31,0,.ro,0,4294967295⟩]⟩,
  ⟨0x01601010, 0x4, 1, 1, 4, 1, 0x00000000#32, none, [⟨31,0,.ro,0,4294967295⟩]⟩,
  ⟨0x01600000, 0x4, 1, 1, 4, 1, 0x00000000#32, none, [⟨2,0,.ro,0,7⟩, ⟨5,3,.ro,0,7⟩, ⟨6,6,.ro,0,1⟩, ⟨26,16,.ro,0,2047⟩]⟩,
  ⟨0x01600004, 0x4, 1, 1, 4, 1, 0x00000000#32, none, [⟨0,0,.w1c,0,1⟩, ⟨1,1,.w1c,0,1⟩, ⟨2,2,.w1c,0,1⟩]⟩,
  ⟨0x01600008, 0x4, 1, 1, 4, 1, 0x00000000#32, none, [⟨0,0,.wo,0,1⟩, ⟨31,24,.wo,0,255⟩]⟩,
  ⟨0x01601000, 0x4, 1, 1, 4, 1, 0x00000000#32, none, [⟨1,0,.ro,0,3⟩, ⟨3,2,.ro,0,3⟩, ⟨4,4,.ro,0,1⟩, ⟨5,5,.ro,0,1⟩, ⟨7,6,.ro,0,3⟩, ⟨8,8,.ro,0,1⟩, ⟨9,9,.ro,0,1⟩, ⟨11,10,.ro,0,3⟩, ⟨23,16,.ro,0,255⟩]⟩,
  ⟨0x01601004, 0x4, 1, 1, 4, 1, 0x00000000#32, none, [⟨0,0,.w1c,0,1⟩, ⟨1,1,.w1c,0,1⟩, ⟨2,2,.w1c,0,1⟩, ⟨3,3,.w1c,0,1⟩, ⟨4,4,.w1c,0,1⟩, ⟨5,5,.w1c,0,1⟩, ⟨6,6,.w1c,0,1⟩]⟩,
  ⟨0x01601014, 0x4, 1, 1, 4, 1, 0x00000000#32, none, [⟨10,0,.ro,0,2047⟩, ⟨21,11,.ro,0,2047⟩, ⟨31,22,.ro,0,1023⟩]⟩,
  ⟨0x01601018, 0x4, 1, 1, 4, 1, 0x0000000A#32, none, [⟨7,0,.rw,1,255⟩]⟩,
  ⟨0x0160101C, 0x4, 1, 1, 4, 1, 0x00000000#32, none, [⟨0,0,.wo,0,1⟩, ⟨1,1,.wo,0,1⟩, ⟨2,2,.wo,0,1⟩, ⟨3,3,.wo,0,1⟩]⟩]

/-- The registers of the block that holds an address (Table 12.2). -/
def RegMap.block (a : Nat) : List RegDesc :=
  match a >>> 20 with
  | 0 => RegMap.glb
  | 1 => RegMap.crp
  | 2 => RegMap.tim
  | 3 => RegMap.ing
  | 4 => RegMap.cor
  | 5 => RegMap.cor
  | 6 => RegMap.cor
  | 7 => RegMap.cor
  | 8 => RegMap.acq
  | 9 => RegMap.ref
  | 10 => RegMap.pst
  | 11 => RegMap.pst
  | 12 => RegMap.cht
  | 13 => RegMap.cht
  | 14 => RegMap.dsp
  | 15 => RegMap.nfl
  | 16 => RegMap.net
  | 17 => RegMap.pai
  | 18 => RegMap.hif
  | 19 => RegMap.key
  | 20 => RegMap.rec
  | 21 => RegMap.prf
  | 22 => RegMap.upd
  | _ => []

/-- Whether an address is element (i, j) of a register array. -/
def RegMap.holds (d : RegDesc) (a : Nat) : Bool :=
  decide (d.base ≤ a ∧ (a - d.base) / d.stride < d.count ∧ (a - d.base) % d.stride / d.step < d.inner
    ∧ (a - d.base) % d.stride % d.step = 0)

/-- The first index of an address in its register array. -/
def RegMap.index (d : RegDesc) (a : Nat) : Nat := (a - d.base) / d.stride

/-- The register at an address; none where the map names none (R350). -/
def RegMap.find (a : Nat) : Option RegDesc := (RegMap.block a).find? (fun d => RegMap.holds d a)

/-- The reset word of the register at an address. -/
def RegMap.reset (a : Nat) : Word := match RegMap.find a with | some d => d.reset | none => 0

end Sys2Proof.Machine
end

