-- ==== Sys2Proof/Machine/Io.lean ====
section
/-! DEFINITION. Indications: sticky bits and the event sources they raise (R368, R369, R475),
device-produced rings (R353, R355), MSI-X vectors (R370) and performance counters (R476 to R482). -/
namespace Sys2Proof.Machine

/-- Reset contents of an event group, a ring, a vector and a counter. MSI-X vectors are masked at
reset, as the PCIe specification defines (R370; assumption 34). -/
def evDef (_ : Nat) : EvGroup := ⟨0, 0, 0, 0, []⟩
def ringDef (_ : Nat) : Ring := ⟨0, 0, 0, 0, 0, 0, 0, 0, .disabled, 0, 0, 0, 0, 0, 0, [], false⟩
def vecDef (_ : Nat) : Vec := ⟨0, 0, 0, true, 0, false, false, false, 0⟩
def ctrDef (_ : Nat) : PCtr := ⟨0, false, 0, 0, 0⟩
def wordDef (_ : Nat) : Word := 0
def raiseDef (_ : Nat) : Nat × Word := (0, 0)

def ioEv (io : Io) (g : Nat) : EvGroup := Tab.get evDef io.evt g
def ioRing (io : Io) (r : Nat) : Ring := Tab.get ringDef io.ring r
def ioVec (io : Io) (v : Nat) : Vec := Tab.get vecDef io.vec v
def ioCtr (io : Io) (k : Nat) : PCtr := Tab.get ctrDef io.ctr k
def ioStk (io : Io) (a : Nat) : Word := Tab.get wordDef io.stk a

def ioSetEv (io : Io) (g : Nat) (e : EvGroup) : Io := { io with evt := Tab.put evDef io.evt g e }
def ioSetRing (io : Io) (r : Nat) (x : Ring) : Io := { io with ring := Tab.put ringDef io.ring r x }
def ioSetVec (io : Io) (v : Nat) (x : Vec) : Io := { io with vec := Tab.put vecDef io.vec v x }
def ioSetCtr (io : Io) (k : Nat) (x : PCtr) : Io := { io with ctr := Tab.put ctrDef io.ctr k x }
def ioSetStk (io : Io) (a : Nat) (w : Word) : Io := { io with stk := Tab.put wordDef io.stk a w }
def ioOut (io : Io) (o : Output) : Io := { io with out := o :: io.out }

/-! ### Rings -/

/-- Fields of HIF_RING_r_CFG. -/
def ringEn (r : Ring) : Bool := bitAt r.cfg 0
def ringKind (r : Ring) : Nat := bits r.cfg 3 1
def ringSize (r : Ring) : Nat := 64 * 2 ^ bits r.cfg 7 4
def ringCpl (r : Ring) : Nat := bits r.cfg 15 8
def ringVector (r : Ring) : Nat := bits r.cfg 21 16
def ringVecEn (r : Ring) : Bool := bitAt r.cfg 22
def ringPort (r : Ring) : Nat := bits r.cfg 24 23
def ringIrqOnConsume (r : Ring) : Bool := bitAt r.cfg 25

/-- Host-produced kinds: command and host transmit (Table 12.3). -/
def ringHostProduced (r : Ring) : Bool := ringKind r = 1 || ringKind r = 5

/-- The fill of a ring: producer minus consumer, modulo 2³² (R353). -/
def ringFill (r : Ring) : Nat :=
  if ringHostProduced r then (r.host + 2 ^ 32 - r.dev) % 2 ^ 32 else (r.dev + 2 ^ 32 - r.host) % 2 ^ 32

/-- A 64-bit address of two registers. -/
def addr64 (lo hi : Word) : Nat := lo.toNat + 2 ^ 32 * hi.toNat

/-- The host address of entry `i` (R353), of the index word (R355), and of the receive buffer of entry `i` (R366). -/
def ringEntryAddr (r : Ring) (i : Nat) : Nat := addr64 r.baseLo r.baseHi + i % ringSize r * 64
def ringIndexAddr (r : Ring) : Nat := addr64 r.idxLo r.idxHi
def ringBufSize (r : Ring) : Nat := 2048 * 2 ^ bits r.dataCfg 1 0
def ringBufAddr (r : Ring) (i : Nat) : Nat := addr64 r.dataLo r.dataHi + i % ringSize r * ringBufSize r

/-- Running as a ring of the kind: enabled and not in ERROR. -/
def ringRuns (kind : Nat) (r : Ring) : Bool := ringEn r && decide (r.state = .run) && decide (ringKind r = kind)

/-! ### Performance counters -/

/-- Adds `n` to counter `k`. A carry out of bit 47 of an even counter of a chained pair goes into the
odd one (R477); any other wraps the counter, sets its PRF_OVF bit and, where the mode does not chain
and IRQ_EN is set, interrupts the core or raises SAMPLE_OVF (R478). Answers the sources to raise. -/
def ctrAddOne (chained : Bool) (k n : Nat) (io : Io) : Io × Nat × List Nat :=
  let c := ioCtr io k
  let v := c.count.toNat + n
  let io := ioSetCtr io k { c with count := BitVec.ofNat 48 v }
  let carry := v / 2 ^ 48
  if carry = 0 then (io, 0, [])
  else if chained && k % 2 = 0 then (io, carry, [])
  else
    let a := Reg.PRF_OVF (k / 32)
    let io := ioSetStk io a (ioStk io a ||| oneHot (k % 32))
    if !chained && c.irqEn then
      if k < 192 then (ioOut io (.coreIrq (k / 16)), 0, [])
      else (ioSetStk io Reg.PRF_STICKY (ioStk io Reg.PRF_STICKY ||| oneHot 1), 0, [15 * 32 + 17])
    else (io, 0, [])

/-- Counts `n` events on counter `k`, with the carry into a chained odd partner. -/
def ctrAdd (chained : Bool) (k n : Nat) (io : Io) : Io × List Nat :=
  let (io, carry, src) := ctrAddOne chained k n io
  if carry = 0 then (io, src)
  else
    let (io, _, src') := ctrAddOne chained (k + 1) carry io
    (io, src ++ src')

/-- The system counters that count an event: those that select it, without the odd members of chained
pairs (R476, R477). -/
def ctrsOf (chained : Bool) (ev : Nat) (io : Io) : List Nat :=
  (io.ctr.filter (fun e => decide (192 ≤ e.1) && decide (e.1 < 256) && decide (e.2.event = ev) && !(chained && decide (e.1 % 2 = 1)))).map (·.1)

/-- Event `ev` of Table 16.5 occurs `n` times: every counter that selects it counts, unless FREEZE is
set (R481). -/
def ctrEvent (chained : Bool) (ev n : Nat) (io : Io) : Io × List Nat :=
  if io.frozen || n = 0 then (io, [])
  else (ctrsOf chained ev io).foldl (fun p k => let q := ctrAdd chained k n p.1; (q.1, p.2 ++ q.2)) (io, [])

/-! ### MSI-X and event sources -/

/-- A trigger of vector `v` (R370): held while the minimum interval runs, kept pending while the vector or the function is masked
or while no message may be sent (R349) or can be, else one message. -/
def vecTrigger (now : Nat) (chained : Bool) (v : Nat) (io : Io) : Io × List Nat :=
  let x := ioVec io v
  if x.masked || io.fnMask || io.dmaHeld || io.lost then (ioSetVec io v { x with pba := true }, [])
  else if x.holding then (ioSetVec io v { x with again := true }, [])
  else ctrEvent chained 0x184 1 (ioOut (ioSetVec io v { x with holding := decide (x.minUs ≠ 0), pba := false, sentAt := now }) (.msix v))

/-- A device write for ring `r` fails: the ring enters ERROR with code 4, with RING_ERROR and DMA_ERROR (R374). Answers the sources. -/
def ringFail (r : Nat) (io : Io) : Io × List Nat :=
  (ioSetStk (ioSetRing io r { ioRing io r with state := .error, err := 4 }) Reg.HIF_STICKY
    (ioStk io Reg.HIF_STICKY ||| (oneHot 0 ||| oneHot 3)), [13 * 32, 13 * 32 + 3])

/-- Moves the device index of a ring on by one and writes the index word, with the ring's message
when `irq` (R355). -/
def ringAdvance (now : Nat) (chained : Bool) (r : Nat) (irq : Bool) (io : Io) : Io × List Nat :=
  let x := ioRing io r
  let d := (x.dev + 1) % 2 ^ 32
  if io.lost then ringFail r io
  else
  let io := ioOut (ioSetRing io r { x with dev := d }) (.ringIndex r (ringIndexAddr x) d)
  if irq then vecTrigger now chained (ringVector x) io else (io, [])

/-- Writes an entry to a device-produced ring of a kind when the ring runs and its fill is below its
size (R353); `none` where there is no room. -/
def ringWrite (now : Nat) (chained : Bool) (kind r : Nat) (entry : List Byte) (io : Io) : Option (Io × List Nat) :=
  let x := ioRing io r
  if ringRuns kind x && decide (ringFill x < ringSize x) then
    some (ringAdvance now chained r (ringVecEn x) (if io.lost then io else ioOut io (.ringEntry r (ringEntryAddr x x.dev) entry)))
  else none

/-- Delivers under ROUTE a source whose raise was at the time `at_.1` and left PENDING as `at_.2`: the event entry (Table 12.13), then
the group's vector (R369). -/
def deliver (now : Nat) (at_ : Nat × Word) (chained : Bool) (src : Nat) (io : Io) : Io × List Nat :=
  let e := ioEv io (src / 32)
  let r := bits e.route 7 0
  let p := if bitAt e.route 14 && !io.dmaHeld then
      let x := ioRing io r
      let entry := leBytes 4 src ++ leBytes 4 x.seq ++ timeBytes at_.1 ++ leBytes 4 at_.2.toNat ++ zeros 44
      let io := ioSetRing io r { x with seq := (x.seq + 1) % 2 ^ 32 }
      match ringWrite now chained 4 r entry io with
      | some q => q
      | none =>
        let x := ioRing io r
        let io := ioSetRing io r { x with drop := min (x.drop + 1) 0xFFFFFFFF }
        (ioSetStk io Reg.HIF_STICKY (ioStk io Reg.HIF_STICKY ||| oneHot 1), [13 * 32 + 1])
    else (io, [])
  if bitAt e.route 15 then let q := vecTrigger now chained (bits e.route 13 8) p.1; (q.1, p.2 ++ q.2) else p

/-- One raise of a source: its pending bit and its group's count, and delivery when the bit was 0 and
ENABLE is set (R369). A source delivered later carries the time of the raise that set its bit (DESIGN CHOICE, assumption 194). -/
def raiseOne (now : Nat) (chained : Bool) (src : Nat) (io : Io) : Io × List Nat :=
  let g := src / 32
  let e := ioEv io g
  let was := bitAt e.pending (src % 32)
  let p := e.pending ||| oneHot (src % 32)
  let io := ioSetEv io g { e with pending := p, count := satAdd e.count 1,
                                  at_ := if was then e.at_ else Tab.put raiseDef e.at_ (src % 32) (now, p) }
  if !was && bitAt e.enable (src % 32) then deliver now (now, p) chained src io else (io, [])

/-- Raises sources in turn. A delivery may raise EVT_OVERFLOW, RING_ERROR, DMA_ERROR or SAMPLE_OVF, which follow; each can be
delivered once only, so the fuel never runs out. -/
def raiseAll (now : Nat) (chained : Bool) : Nat → List Nat → Io → Io
  | 0, _, io => io
  | _, [], io => io
  | n + 1, s :: ss, io => let p := raiseOne now chained s io; raiseAll now chained n (ss ++ p.2) p.1

/-- Raises sources. -/
def ioRaise (now : Nat) (chained : Bool) (srcs : List Nat) (io : Io) : Io := raiseAll now chained (80 * srcs.length + 400) srcs io

/-- The sticky registers that are event sources, with the source of their bit 0 (Table 12.12). -/
def stickyTable : List (Nat × Nat) := [
  (Reg.GLB_ERR, 0), (Reg.CRP_STICKY, 16), (Reg.CRP_PWR_STICKY, 23), (Reg.ING_STICKY, 32), (Reg.COR_STICKY, 64),
  (Reg.ACQ_STICKY, 96), (Reg.REF_STICKY, 128), (Reg.NET_STICKY 0, 160), (Reg.NET_STICKY 1, 176),
  (Reg.NET_STICKY 2, 192), (Reg.NET_STICKY 3, 208), (Reg.PST_STICKY, 224), (Reg.CHT_STICKY, 256),
  (Reg.DSP_STICKY, 288), (Reg.TSK_STICKY, 304), (Reg.NFL_STICKY, 320), (Reg.TIM_STICKY, 352),
  (Reg.TIM_PORT_STICKY 0, 368), (Reg.TIM_PORT_STICKY 1, 369), (Reg.TIM_PORT_STICKY 2, 370),
  (Reg.TIM_PORT_STICKY 3, 371), (Reg.PAI_STICKY, 384), (Reg.HIF_STICKY, 416), (Reg.KEY_STICKY, 448),
  (Reg.OTP_STICKY, 464), (Reg.UPD_STICKY, 467), (Reg.REC_STICKY, 480), (Reg.PRF_STICKY, 496)]

/-- The event source that a sticky bit drives: bit k of a register is its base source plus k; any bit
of TIM_TP_STICKY drives bit 20 of group 11. -/
def stickySource (a bit : Nat) : Nat :=
  if a = Reg.TIM_TP_STICKY then 372
  else match stickyTable.find? (fun e => e.1 = a) with
    | some e => e.2 + bit
    | none => 0

/-- A hardware action sets a sticky bit, which raises its source whether or not it was set (R369). -/
def ioSticky (now : Nat) (chained : Bool) (a bit : Nat) (io : Io) : Io :=
  ioRaise now chained [stickySource a bit] (ioSetStk io a (ioStk io a ||| oneHot bit))

/-- An event of Table 16.5 occurs `n` times, with what its wraps raise. -/
def ioCount (now : Nat) (chained : Bool) (ev n : Nat) (io : Io) : Io :=
  let p := ctrEvent chained ev n io
  ioRaise now chained p.2 p.1

/-- The notice source of a group (R368). -/
def ioNotice (now : Nat) (chained : Bool) (g : Nat) (io : Io) : Io := ioRaise now chained [g * 32 + 31] io

end Sys2Proof.Machine
end

