-- ==== Sys2Proof/Machine/State.lean ====
section
/-! DEFINITION. The machine's state, the names of its stops, and the state right after a reset. -/
namespace Sys2Proof.Machine

/-- Everything the spec gives the device, the commands that wait, and `free`, the model's own counter of
free values (assumption 2). -/
structure State where
  grade : Grade
  /-- plain registers (R7, R418) -/
  bank : Bank
  /-- event groups, sticky registers, rings, vectors, performance counters, outputs -/
  io : Io
  recorder : Rec
  crp : Crp
  upd : Upd
  ing : Ing
  cor : Cor
  acq : Acq
  tim : Tim
  ref : Ref
  net : Tab NetPort
  mach : Tab Mach
  pst : Pst
  cht : Cht
  dsp : Dsp
  tsk : Tsk
  nfl : Nfl
  pai : Pai
  key : Key
  free : Nat
  /-- commands waiting, first in, first out -/
  pending : List Instr
deriving DecidableEq, Repr

/-- Reasons for which a step stops with a fault. The spec gives every access and every command an outcome
in which the device goes on (R2, R350), so no step of this model stops with a fault: there are none. -/
inductive Fault where
deriving DecidableEq, Repr

/-- Reasons for which a step is refused. -/
inductive Refusal where
  /-- raised by an arm of exec whose row has no meaning yet: safe, nothing can be concluded from it -/
  | notModelled (mnemonic : String)
deriving DecidableEq, Repr

/-! ### Default entries of the tables: what an index holds that is not listed -/

def antDef (_ : Nat) : Ant := ⟨.down, false, false, false, false, 0, 0, 0, 0, 0, none⟩
def ctxDef (_ : Nat) : Ctx :=
  ⟨.idle, 0, 0, 0, 0, 0, 0, 0, none, 0, 0, none, none, 0, 0, 0, 0, 0, 0, false, 0, 0, [], false, false, false, false,
   false, false, false, false, false, false, false, 0, false, none, 0, [], [], false, [], none, 0⟩
def unitDef (_ : Nat) : CorUnit := ⟨none, []⟩
def queueDef (_ : Nat) : List (Nat × List Byte) := []
def capDef (_ : Nat) : Capture := ⟨0, 0, 0, 0, 0, false, false, 0, []⟩
def bytesDef (_ : Nat) : List Byte := []
def natDef (_ : Nat) : Nat := 0
def portDef (_ : Nat) : NetPort :=
  ⟨false, false, none, 0, false, false, 0, [], [], [], [], [], [], [], none, false, 0, 0⟩
def entryDef : MachEntry := ⟨0, false, false, false, 0, 0, 0, false, 0, 0, 0, 0, zeros 16⟩
def machDef (_ : Nat) : Mach := ⟨entryDef, 0, 0, true, none, none, [], none⟩
def timPortDef (_ : Nat) : TimPort := ⟨[], 0, false, [], 0, 0, 0, 0⟩
def tpDef (_ : Nat) : TpOut := ⟨0, none⟩
def refAntDef (_ : Nat) : RefAnt := ⟨.down, 0, false, none, false, false⟩
def streamDef (_ : Nat) : Stream := ⟨0, false, 0, false, false⟩
def slotDef (_ : Nat) : Slot := ⟨0, false, false, 0, 0, 0, 0, 0, 0, 0, 0, 0, 0, 0, 0, false, ⟨[], []⟩, [], [], [], [], ⟨[], []⟩, [], 0, 0, (0, 0, 0), false⟩
def engineDef (_ : Nat) : FixEngine := ⟨none, none⟩
def chtMachDef (_ : Nat) : ChtMach := ⟨[], 0, none, 0, false, 0, none, 0, 0, [], false, false, []⟩
def keySlotDef (_ : Nat) : KeySlot := ⟨.empty, 0, 0, false, 0, 0, []⟩
def fifoDef (_ : Nat) : Fifo := ⟨[], false, false, false⟩
def pdDef (_ : Nat) : PdState := .off
def recSlotDef (k : Nat) : RecSlot := ⟨k, 0, 0, [], true, []⟩
def digestDef (_ : Nat) : BitVec 384 := 0
def pathDown : Path := ⟨false, 0, 0, 0, none⟩

/-! ### Reset values of the parts -/

def Io.reset : Io := ⟨[], [], [], [], false, 0, 0, false, false, false, [], [], 0, false, []⟩
def Bank.reset : Bank := ⟨[], [], [], []⟩

/-- The recorder before its scan (R474): STORE 2. Its 64 slots and 8 spares are as manufactured
(assumption 7). -/
def Rec.reset : Rec := ⟨.notUp, [], [], 0, 0, 8, 0, 0, none, [], [], 0, 0, false, false, 0, false, false, none, none, none, false⟩

/-- PD_1 has reached power-good: BOOT step 1, POR (Table 13.7). PD_0 and PD_1 are on. REF_IN is not seen
yet, no Zenith instance has locked (CRP_ZEN_STATUS resets to 0). -/
def Crp.reset : Crp :=
  ⟨.boot, .dormant, 0, false, 0, 1, false, false, false, 0, 0, false, false, false, false, 0, 0, 0, 0, 0,
   [(0, .on), (1, .on)], false, 0, 0, [], true, false, true, false, none, false, true, false, false⟩

/-- OTP, image slots and NV store as the model takes them for a shipped device (assumption 7):
life-cycle FIELD, no configuration generation programmed, ACTIVE an image 1.0.0 of SVN 0 that verifies. -/
def Upd.image : Image :=
  ⟨0x4958544C, 1, 3, 0x01000000, 0, 12582912,
   [(0, 512, 512), (1, 1024, 512), (2, 1536, 512), (3, 2048, 512), (4, 2560, 512), (5, 3072, 512), (6, 3584, 512)],
   0, true, true, []⟩
def Upd.reset : Upd :=
  ⟨0, 3, 0, 0, 0, 0, 0, [], 0, 0, .empty, none, 0, false, true, 0, false, 0, some Upd.image, none, some Upd.image, none,
   ⟨false, [], 0, []⟩⟩

def Ing.reset : Ing := ⟨[], false, 0, [], true, false, false⟩
def Cor.reset : Cor := ⟨[], [], [], [], []⟩
def Acq.reset : Acq := ⟨[], 0, [], [], [], [], [], 0, 0, none, []⟩

/-- FREE, counting from the RTC's time `t` (Table 10.1), at the increment of TIM_INCR's reset. -/
def Tim.reset (t : Nat) : Tim :=
  { now := t, cycles := 0, state := .free, incr := 0x2719C671A, pendIncr := none, adjRemain := 0,
    adjCycles := 0, slewing := false, tLoss := none, u0 := 0, reports := [], lastUnc := 0, adopted := none, step := none,
    stepNs := 0, stepAt := 0, termEnd := none, above := true, bbValid := false, syncLost := false,
    bbLoadMs := none, missing := 0, bb := 0, bbRemain := 0, bbCycles := 0, syncMs := 0, port := [], ppsLast := [], ppsEnd := [], tp := [],
    mirror := none, rtcSec := 0 }
def Ref.reset : Ref := ⟨[], none, false, 0, [], none, 0, [], 0, [], [], []⟩
def Pst.reset : Pst := ⟨[], []⟩
def Cht.reset : Cht := ⟨none, none, 0, 0, false, false, [], 0, none, none, [], 0, [], false, false, false, 0, 0, 0, 0, none, false⟩
def Dsp.reset : Dsp := ⟨[], 0, false, 0, 259, []⟩
def Tsk.reset : Tsk := ⟨[], 0⟩

/-- Latched with cause START, every machine held (R292). `sec` stamps T. -/
def Nfl.reset (id t : Nat) : Nfl :=
  { latch := .latched, latchId := id, first := 11, seen := 0x800, trig := t, nextK := 0, held := BitVec.allOnes 1024,
    armAt := 0, confirm := none, relAt := [], relFleetAt := 0, fleetRel := none, machRel := [], seenRel := [], outA := false,
    outB := false, supplyOk := true, inA := true, inB := true, changedAt := 0, disc := false, bothOpen := false,
    fbA := false, fbB := false, fbFault := false, latchFault := false, clockFault := false,
    wdgStarted := false, wdgOdd := false, wdgLast := 0, wdgExpired := false, wdgRun := 0, keyLossAt := none,
    keyLossFired := false, trigCycle := none, idleCycle := none, cmds := [], tripA := false, tripB := false }
def Pai.reset : Pai :=
  { pair := false, active := false, pathA := pathDown, pathB := pathDown, peerFailed := false, bothSince := none,
    peer := none, sync := 0, lostReady := none, claimDrive := false, claimIn := true, releasedAt := none,
    peerReadySince := none, splitLine := false, splitActive := false, claimAt := none, starting := false, startAt := 0,
    hushed := false, tAct := 0, hbSeq := 0, hbSent := [], burst := 0, sentRecs := [], nextRec := 1, applied := 0, grants := [],
    lagMax := 0, handover := .none, returnOk := none, peerKeys := [], peerGraph := none, peerNf := 0, offsetPs := 0,
    syncNfl := none, tampStop := false, sentNf := 0 }
def Key.reset : Key :=
  ⟨[], [], true, 2, 0, 0, true, [], 0, 0, 0, 0, 0, false, 0, false, 0, 0, 0, 0, 0⟩

/-- The machine right after PD_1 power-good (R396, R410). -/
def State.reset : State :=
  { grade := .l, bank := Bank.reset, io := Io.reset, recorder := Rec.reset, crp := Crp.reset, upd := Upd.reset,
    ing := Ing.reset, cor := Cor.reset, acq := Acq.reset, tim := Tim.reset 0, ref := Ref.reset, net := [], mach := [],
    pst := Pst.reset, cht := Cht.reset, dsp := Dsp.reset, tsk := Tsk.reset, nfl := Nfl.reset 0 0, pai := Pai.reset,
    key := Key.reset, free := 0, pending := [] }

end Sys2Proof.Machine
end

