-- ==== Sys2Proof/Machine/Flags.lean ====
section
/-! DEFINITION. Status and indications over the whole state: sticky bits (R475), event sources and notices
(R368, R369), performance events (R482), and the device's outputs. The device has no arithmetic
flags; these are its flags. -/
namespace Sys2Proof.Machine

/-- The mode chains counter pairs (R477). DORMANT and SNAPSHOT, which no rule names, count as the modes
that do not (assumption 10). -/
def chained (s : State) : Bool :=
  match s.crp.mode with
  | .serve | .holdover | .survey | .standby => true
  | _ => false

/-- A hardware action sets sticky bit `bit` of the register at `a` and raises its source (R369). -/
def sticky (a bit : Nat) (s : State) : State := { s with io := ioSticky s.tim.now (chained s) a bit s.io }

/-- `sticky` where a condition holds. -/
def stickyIf (c : Bool) (a bit : Nat) (s : State) : State := if c then sticky a bit s else s

/-- Raises event source `src`. -/
def raise (src : Nat) (s : State) : State := { s with io := ioRaise s.tim.now (chained s) [src] s.io }

/-- Raises the notice source of group `g` (R368). -/
def notice (g : Nat) (s : State) : State := { s with io := ioNotice s.tim.now (chained s) g s.io }

/-- Event `ev` of Table 16.5 occurs `n` times. -/
def perf (ev n : Nat) (s : State) : State := { s with io := ioCount s.tim.now (chained s) ev n s.io }

/-- The device emits `o`. -/
def emit (o : Output) (s : State) : State := { s with io := ioOut s.io o }

/-- Emits outputs in order. -/
def emitAll : List Output → State → State
  | [], s => s
  | o :: os, s => emitAll os (emit o s)

/-- A sticky register's word. -/
def stk (s : State) (a : Nat) : Word := ioStk s.io a

/-- Hardware clears a sticky bit (where a rule says that it does). -/
def unstick (a bit : Nat) (s : State) : State :=
  { s with io := ioSetStk s.io a (ioStk s.io a &&& ~~~(oneHot bit)) }

end Sys2Proof.Machine
end

