-- ==== Sys2Proof/Machine/Ops.lean ====
section
/-! DEFINITION. The shared operations: plain registers and configuration sets, free values, recorder
events (R460 to R464), completions (R360, R365), receive records (R366), DMA results. -/
namespace Sys2Proof.Machine

/-! ### Plain registers -/

/-- The active value of a plain register. -/
def rd (s : State) (a : Nat) : Word := Tab.get RegMap.reset s.bank.regs a

/-- Bits [hi:lo] of the register at `a`. -/
def fld (s : State) (a hi lo : Nat) : Nat := bits (rd s a) hi lo

/-- Bit `i` of the register at `a`. -/
def flag (s : State) (a i : Nat) : Bool := bitAt (rd s a) i

/-- Writes the active value of a plain register. -/
def wr (a : Nat) (w : Word) (s : State) : State :=
  { s with bank := { s.bank with regs := Tab.put RegMap.reset s.bank.regs a w } }

/-- The shadow value of a set register (R418). -/
def shadow (s : State) (a : Nat) : Word := Tab.get RegMap.reset s.bank.shadow a

/-- Writes the shadow value of a set register. -/
def wrShadow (a : Nat) (w : Word) (s : State) : State :=
  { s with bank := { s.bank with shadow := Tab.put RegMap.reset s.bank.shadow a w } }

/-- A hardware update of a set register writes both sets (R418). -/
def wrBoth (a : Nat) (w : Word) (s : State) : State := wrShadow a w (wr a w s)

/-- The register of the map at `a` belongs to this configuration set (Table 14.8). -/
def setOf (a : Nat) : Option Nat := match RegMap.find a with | some d => d.set | none => none

/-- Adds `n` to a saturating counter register. -/
def inc (a n : Nat) (s : State) : State := wr a (satAdd (rd s a) n) s

/-- The 64-bit quantity at a low word's address. -/
def rd64 (s : State) (a : Nat) : Nat := (rd s a).toNat + 2 ^ 32 * (rd s (a + 4)).toNat

/-- `sticky` with the saturating count of a counter register. -/
def stickyCount (a bit cnt : Nat) (s : State) : State := inc cnt 1 (sticky a bit s)

/-! ### Free values (assumption 2) -/

/-- The free value that `State.free` now names. -/
def freeVal (s : State) : Nat := Config.free s.free

/-- Moves on to the next free value. -/
def freeNext (s : State) : State := { s with free := s.free + 1 }

/-! ### Life-cycle, roles, grade -/

/-- Resources of the grade (Table 0.1). -/
def gradeAnts (s : State) : Nat := match s.grade with | .l => 4 | .s => 2
def gradePorts (s : State) : Nat := match s.grade with | .l => 4 | .s => 2
def gradeMachines (s : State) : Nat := match s.grade with | .l => 1024 | .s => 256
def gradeSlots (s : State) : Nat := match s.grade with | .l => 256 | .s => 96
def gradeEngines (s : State) : Nat := match s.grade with | .l => 16 | .s => 8
def gradeChannels (s : State) : Nat := match s.grade with | .l => 2048 | .s => 1024

/-- Number of set bits among the low `n` bits of a number. -/
def popCount : Nat → Nat → Nat
  | 0, _ => 0
  | n + 1, v => v % 2 + popCount n (v / 2)

/-- The life-cycle code that OTP bits 128 to 255 spell (R433, Table 15.1). -/
def lcCode (f : BitVec 128) : Nat :=
  if f.getLsbD 127 then 4
  else if popCount 61 (f.toNat >>> 2) > popCount 61 (f.toNat >>> 63) then 3
  else if f.getLsbD 1 then 2
  else if f.getLsbD 0 then 1
  else 0

/-- The life-cycle code now. -/
def lc (s : State) : Nat := lcCode s.upd.lcField

/-- This unit is the active unit: always in SINGLE operation (R28; assumption 11). -/
def isActive (s : State) : Bool := !s.pai.pair || s.pai.active

/-- ACTIVE image VERSION. -/
def activeVersion (s : State) : Word := match s.upd.active with | some i => i.version | none => 0

/-- PD_1's logic runs: its supply is there and no brown-out holds it in reset (R493). -/
def pd1Runs (s : State) : Bool := decide (s.crp.mode ≠ .dormant) && !s.crp.brown

/-! ### Key slots (R437) -/

def keySlot (s : State) (k : Nat) : KeySlot := Tab.get keySlotDef s.key.slot (k % 64)

/-- Slot `k` is usable for engine bit `e` (R437). -/
def keyUsable (s : State) (k e : Nat) : Bool :=
  decide ((keySlot s k).state = .valid) && decide ((keySlot s k).engines / 2 ^ e % 2 = 1)

/-- Key bytes by key type: 16 for AES-128, 32 for AES-256 and HMAC, 96 for a public key. -/
def keyLen (t : Nat) : Nat := if t = 0 then 16 else if t = 3 then 96 else 32

/-- The key that a slot holds. -/
def keyOf (s : State) (k : Nat) : List Byte := ((keySlot s k).material).take (keyLen (keySlot s k).type)

/-- A CMAC truncated to its first `n` bytes. -/
def tag (key msg : List Byte) (n : Nat) : List Byte := (aesCmac key msg).take n

/-! ### Event recorder -/

/-- Record types that fold (Table 16.3). -/
def recFolds (t : Nat) : Bool :=
  [0x10, 0x11, 0x12, 0x18, 0x19, 0x1A, 0x20, 0x29, 0x32, 0x40, 0x41, 0x42, 0x48, 0x4A].contains t

/-- The payload in whole 8-byte units, at most 224 bytes (R460). -/
def recPad (p : List Byte) : List Byte := (padTo (8 * ceilDiv p.length 8) p).take 224

/-- The slots in use: MRAM or lifeboat. -/
def recSlots (r : Rec) : Tab RecSlot := if r.store = .lifeboat then r.boat else r.slots

/-- The slot that the writer fills. -/
def recCur (r : Rec) : RecSlot := Tab.get recSlotDef (recSlots r) r.cur

/-- The newest committed record. -/
def recNewest (r : Rec) : Option Record := (recCur r).records.getLast?

/-- Puts a slot back. -/
def recPutSlot (k : Nat) (x : RecSlot) (r : Rec) : Rec :=
  if r.store = .lifeboat then { r with boat := Tab.put recSlotDef r.boat k x } else { r with slots := Tab.put recSlotDef r.slots k x }

/-- Microseconds from `a` to `b`. -/
def usBetween (a b : Nat) : Nat := (b - a) / tUs

/-- Folds one occurrence at time `t` into a record (R463). -/
def recFoldInto (t : Nat) (x : Record) : Record :=
  { x with repeats := min (x.repeats + 1) 0xFFFFFFFF, lastUs := usBetween x.first t }

/-- An event matches a record for folding: a type that folds, the same TYPE and KEY, LAST_US in range. -/
def recMatches (e : RecEvent) (x : Record) : Bool :=
  recFolds e.type && decide (e.type = x.type) && decide (e.key = x.key) && decide (usBetween x.first e.time ≤ 0xFFFFFFFE)

/-- Starts the record of an event: it takes the next SEQ. -/
def recStart (e : RecEvent) (r : Rec) : Rec :=
  { r with nextSeq := (r.nextSeq + 1) % 2 ^ 32,
           inProgress := some ⟨r.nextSeq, e.type, e.key, recPad e.payload, 1, e.time, 0, e.timeFree,
             decide (r.store = .lifeboat), false⟩ }

/-- The writer is free and takes an event: it folds into the newest record, or its record starts (R463).
The Bool says that it folded. -/
def recTake (e : RecEvent) (r : Rec) : Rec × Bool :=
  match recNewest r with
  | some x =>
    if recMatches e x then
      let c := recCur r
      ({ recPutSlot r.cur { c with records := c.records.dropLast ++ [recFoldInto e.time x] } r with foldDirty := true }, true)
    else (recStart e r, false)
  | none => (recStart e r, false)

/-- Stages an event (R464): the FIFO holds 64 entries; a drop is counted, and once an entry is free a LOST
entry carries the count. -/
def recStage (e : RecEvent) (r : Rec) : Rec × Bool :=
  if r.staging.length < 64 then ({ r with staging := r.staging ++ [e] }, false)
  else if r.staging.any (·.lost) then
    ({ r with staging := r.staging.map (fun x => if x.lost then { x with count := x.count + 1 } else x) }, true)
  else ({ r with dropped := r.dropped + 1, dropAt := if r.dropped = 0 then e.time else r.dropAt,
                 dropFree := if r.dropped = 0 then e.timeFree else r.dropFree }, true)

/-- The newest event of a type and KEY that has not been committed is taken back: it leaves staging, or the writer leaves its record, whose
SEQ the next staged event takes. -/
def recForget (type key : Nat) (r : Rec) : Rec :=
  let mine (e : RecEvent) : Bool := decide (e.type = type) && decide (e.key = key)
  let r' := { r with staging := r.staging.filter (fun e => !mine e) }
  match r.inProgress with
  | some x =>
    if x.type = type ∧ x.key = key then
      let r' := { r' with inProgress := none, heldFolds := [], nextSeq := x.seq }
      match r'.staging with
      | e :: rest => recStart e { r' with staging := rest }
      | [] => r'
    else r'
  | none => r'

/-- An event reaches the recorder (R462 to R464); while a retirement copies, events wait in staging (R471). The two Bools: it folded;
it was dropped. -/
def recArrive (e : RecEvent) (r : Rec) : Rec × Bool × Bool :=
  if r.store = .notUp || (r.copying.isSome && r.inProgress.isNone) then let p := recStage e r; (p.1, false, p.2)
  else match r.inProgress with
    | some x =>
      if recMatches e x then ({ r with heldFolds := r.heldFolds ++ [e.time] }, false, false)
      else let p := recStage e r; (p.1, false, p.2)
    | none =>
      if r.staging.isEmpty then let p := recTake e r; (p.1, p.2, false)
      else let p := recStage e r; (p.1, false, p.2)

/-- Writes a recorder entry of a type of Table 16.3, at device time now. -/
def record (type key : Nat) (payload : List Byte) (s : State) : State :=
  let p := recArrive ⟨type, key, payload, s.tim.now, decide (s.tim.state = .free), false, 0⟩ s.recorder
  let s := { s with recorder := p.1 }
  let s := if p.2.1 then perf 0x189 1 (inc (Reg.REC_CNT 1) 1 s) else s
  if p.2.2 then stickyCount Reg.REC_STICKY 0 (Reg.REC_CNT 2) s else s

/-! ### Completions -/

/-- One completion entry (Table 12.9). -/
def cplEntry (now : Nat) (c : Cmd) (code : Nat) (detail : List Byte) : List Byte :=
  leBytes 1 c.opcode ++ leBytes 1 code ++ leBytes 1 c.ring ++ zeros 1 ++ leBytes 4 c.tag ++ leBytes 4 c.index ++
  leBytes 2 c.flow ++ zeros 2 ++ timeBytes now ++ padTo 40 detail

/-- Writes a completion entry to its completion ring; a ring that is not an enabled completion ring drops
it, counted, with CPL_DROP (R356). -/
def cplWrite (q : Nat) (entry : List Byte) (s : State) : State :=
  match ringWrite s.tim.now (chained s) 2 q entry s.io with
  | some p =>
    let t : State := { s with io := ioRaise s.tim.now (chained s) p.2 p.1 }
    if s.io.lost then t else perf 0x181 1 t
  | none =>
    let x := ioRing s.io q
    sticky Reg.HIF_STICKY 5 { s with io := ioSetRing s.io q { x with drop := min (x.drop + 1) 0xFFFFFFFF } }

/-- Completes a command with a status and its detail bytes 24 onward (R360): nothing for QUIET and OK; held
while DMA is not allowed (R349), discarded after a reset of region HOST (R348). -/
def complete (c : Cmd) (code : Nat) (detail : List Byte) (s : State) : State :=
  let x := ioRing s.io c.cpl
  let owe := { s with io := ioSetRing s.io c.cpl { x with owed := x.owed - 1 } }
  if c.dead then s
  else if c.quiet && code = 0 then owe
  else
    let e := cplEntry s.tim.now c code detail
    if s.io.dmaHeld then { s with io := ioSetRing s.io c.cpl { x with owed := x.owed - 1, held := x.held ++ [e] } }
    else cplWrite c.cpl e owe

/-- Completes the command of a piece of work, if one asked for it. -/
def completeOpt (c : Option Cmd) (code : Nat) (detail : List Byte) (s : State) : State :=
  match c with
  | some c => complete c code detail s
  | none => s

/-! ### Receive records and DMA results -/

/-- A record for a receive ring (R366, Tables 12.10 and 12.11): kind, source, time in ns, data. The Bool is
false where it was dropped. -/
def rxRecord (ring kind source tns : Nat) (data : List Byte) (s : State) : State × Bool :=
  let x := ioRing s.io ring
  let seq := x.seq
  let s := { s with io := ioSetRing s.io ring { x with seq := (seq + 1) % 2 ^ 32 } }
  let drop : State → State × Bool := fun s =>
    let x := ioRing s.io ring
    (sticky Reg.HIF_STICKY 2 { s with io := ioSetRing s.io ring { x with drop := min (x.drop + 1) 0xFFFFFFFF } }, false)
  if s.io.dmaHeld then drop s
  else
    let isInline := decide (data.length ≤ 32)
    let cut := decide (ringBufSize x < data.length)
    let entry := leBytes 1 kind ++ leBytes 1 (b2n isInline + 2 * b2n (cut && !isInline)) ++ leBytes 2 source ++
      leBytes 4 data.length ++ leBytes 4 seq ++ leBytes 4 (tns / 1000000000) ++ leBytes 4 (tns % 1000000000) ++ zeros 12 ++
      (if isInline then padTo 32 data else zeros 32)
    let io := if isInline || s.io.lost then s.io else ioOut s.io (.ringBuffer ring (ringBufAddr x x.dev) (data.take (ringBufSize x)))
    match ringWrite s.tim.now (chained s) 3 ring entry io with
    | some p => ({ s with io := ioRaise s.tim.now (chained s) p.2 p.1 }, !s.io.lost)
    | none => drop s

/-- Writes a result at an address of DRAM or host memory (R93); no sooner than DMA is allowed (R349, assumption 193). A write that fails
sets DMA_ERROR (R374). -/
def dmaOut (addr : Nat) (bytes : List Byte) (s : State) : State :=
  if s.io.dmaHeld then { s with io := { s.io with dmaWait := s.io.dmaWait ++ [(addr, bytes)] } }
  else if s.io.lost then sticky Reg.HIF_STICKY 3 s
  else emit (.dma addr bytes) s

/-! ### Crossing FIFOs (R394, R395) -/

def fifo (s : State) (k : Nat) : Fifo := Tab.get fifoDef s.crp.fifo k
def setFifo (k : Nat) (f : Fifo) (s : State) : State := { s with crp := { s.crp with fifo := Tab.put fifoDef s.crp.fifo k f } }

/-- A DROP waits for the next packet of FIFO `k`, and has been carried out. -/
def dropsNext (s : State) (k : Nat) : Bool := (fifo s k).dropNext
def dropTaken (k : Nat) (s : State) : State := setFifo k { fifo s k with dropNext := false } s

end Sys2Proof.Machine
end

