-- ==== Sys2Proof/Machine/Mirror.lean ====
section
/-! DEFINITION. Mirror records (R330, Table 11.3) and the writers of mirrored state, each of which sends the
record of its change. -/
namespace Sys2Proof.Machine

/-- Mirror records leave this unit: it is active, with path A to its standby healthy. -/
def mirrors (s : State) : Bool := s.pai.pair && s.pai.active && s.pai.pathA.ok

/-- The active unit sends a mirror record to a standby that has path A healthy (R330). -/
def mirror (r : MirrorRec) (s : State) : State :=
  if mirrors s then
    let n := s.pai.nextRec
    perf 0x170 1 (emit (.mirror n)
      { s with pai := { s.pai with sentRecs := s.pai.sentRecs ++ [(n, r, s.tim.now)], nextRec := n + 1 } })
  else s

/-- The machine's entry and counters. -/
def mach (s : State) (m : Nat) : Mach := Tab.get machDef s.mach m

/-- Writes what the field link keeps of machine `m`, without a record. -/
def setMach (m : Nat) (v : Mach) (s : State) : State := { s with mach := Tab.put machDef s.mach m v }

/-- Writes a machine's table entry or sequence counters and mirrors them. -/
def putMach (m : Nat) (v : Mach) (s : State) : State :=
  mirror (.machine m v.entry v.txSeq v.seqLast v.resetSeq) (setMach m v s)

/-- What Chart keeps of machine `m`. -/
def chtMach (s : State) (m : Nat) : ChtMach := Tab.get chtMachDef s.cht.mach m
def setChtMach (m : Nat) (v : ChtMach) (s : State) : State :=
  { s with cht := { s.cht with mach := Tab.put chtMachDef s.cht.mach m v } }

/-- Writes a machine's route or grant record and mirrors it. -/
def putChtMach (m : Nat) (v : ChtMach) (s : State) : State := mirror (.chart m v) (setChtMach m v s)

/-- Replaces the stored reservations and mirrors the difference. -/
def putIvals (l : List Ival) (s : State) : State :=
  let old := s.cht.ivals
  let s := { s with cht := { s.cht with ivals := l } }
  if old = l then s else mirror (.ledger (old.filter (fun i => !l.contains i)) (l.filter (fun i => !old.contains i))) s

/-- Replaces the live tasks and mirrors them. -/
def putTasks (l : List Task) (s : State) : State := mirror (.tasks l) { s with tsk := { s.tsk with tasks := l } }

def fixSlot (s : State) (k : Nat) : Slot := Tab.get slotDef s.pst.slot k

/-- Writes a central-fix slot back and mirrors it. -/
def putSlot (k : Nat) (v : Slot) (s : State) : State :=
  mirror (.slot k v) { s with pst := { s.pst with slot := Tab.put slotDef s.pst.slot k v } }

/-- The check value of a slot (R330, R439): 0 unless VALID. -/
def keyCheck (s : State) (k : Nat) : Word :=
  let x := keySlot s k
  if x.state ≠ .valid then 0
  else
    let first : List Byte :=
      if x.type = 0 ∨ x.type = 1 then (aesBlock (keyOf s k) (zeros 16)).take 4
      else if x.type = 2 then (hmacSha256 (keyOf s k) []).take 4
      else (sha384 (keyOf s k)).take 4
    BitVec.ofNat 32 (leNum first)

/-- The key slot states that are mirrored. -/
def keyStates (s : State) : List (Nat × Nat × Nat × Bool × Word) :=
  s.key.slot.map (fun e => (e.1, e.2.type, e.2.engines, decide (e.2.state = .valid), keyCheck s e.1))

/-- Mirrors the key slot states after a change. -/
def mirrorKeys (s : State) : State := mirror (.keys (keyStates s)) s

def netPort (s : State) (n : Nat) : NetPort := Tab.get portDef s.net n
def setPort (n : Nat) (p : NetPort) (s : State) : State := { s with net := Tab.put portDef s.net n p }

end Sys2Proof.Machine
end

