-- ==== Sys2Proof/Machine/NetOps.lean ====
section
/-! DEFINITION. Building and queueing frames: Ethernet, IP and UDP (R146 to R149, R507), PLP headers and tags
(R154, R157, R158). -/
namespace Sys2Proof.Machine

/-- The number that bytes spell in network order. -/
def beAt (bs : List Byte) (o n : Nat) : Nat := leNum ((bs.drop o).take n).reverse

/-- Sum of 16-bit words in network order. -/
def sum16 : List Byte → Nat
  | [] => 0
  | [a] => a.toNat * 256
  | a :: b :: t => a.toNat * 256 + b.toNat + sum16 t

def fold16 (n : Nat) : Nat := n % 65536 + n / 65536

/-- The Internet checksum of bytes, before the complement. -/
def onesSum (bs : List Byte) : Nat := fold16 (fold16 (fold16 (sum16 bs)))

/-- The Internet checksum. -/
def csum (bs : List Byte) : Nat := 65535 - onesSum bs

/-- An address is IPv4-mapped, ::ffff:a.b.c.d. -/
def isV4 (a : List Byte) : Bool := decide (a.take 12 = zeros 10 ++ [0xFF, 0xFF])

/-- A port's own address, its MAC and its partner's. -/
def portAddr (s : State) (n : Nat) : List Byte :=
  leBytes 4 (rd s (Reg.NET_IP n 0)).toNat ++ leBytes 4 (rd s (Reg.NET_IP n 1)).toNat ++
  leBytes 4 (rd s (Reg.NET_IP n 2)).toNat ++ leBytes 4 (rd s (Reg.NET_IP n 3)).toNat
def portMac (s : State) (n : Nat) : List Byte :=
  leBytes 4 (rd s (Reg.NET_MAC_LO n)).toNat ++ leBytes 2 (rd s (Reg.NET_MAC_HI n)).toNat
def peerMac (s : State) (n : Nat) : List Byte :=
  leBytes 4 (rd s (Reg.NET_PEER_MAC_LO n)).toNat ++ leBytes 2 (rd s (Reg.NET_PEER_MAC_HI n)).toNat

/-- The 802.1Q tag of a port with VLAN_EN (Table 5.1). -/
def vlanTag (s : State) (n : Nat) : List Byte :=
  if flag s (Reg.NET_CTRL n) 3 then
    beBytes 2 0x8100 ++ beBytes 2 (fld s (Reg.NET_VLAN n) 14 12 * 2 ^ 13 + fld s (Reg.NET_VLAN n) 11 0)
  else []

/-- A frame to the partner: addresses, tag, type and payload, padded to 60 bytes (R141, R364). -/
def ethFrame (s : State) (n etherType : Nat) (payload : List Byte) : List Byte :=
  let f := peerMac s n ++ portMac s n ++ vlanTag s n ++ beBytes 2 etherType ++ payload
  f ++ zeros (60 - f.length)

/-- A UDP packet to an address and port (R148). -/
def udpFrame (s : State) (n : Nat) (dst : List Byte) (dstPort srcPort dscp : Nat) (payload : List Byte) : List Byte :=
  let src := portAddr s n
  let len := 8 + payload.length
  let v4 := isV4 dst
  let a := if v4 then src.drop 12 else src
  let b := if v4 then dst.drop 12 else dst
  let udp0 := beBytes 2 srcPort ++ beBytes 2 dstPort ++ beBytes 2 len
  let c := csum (a ++ b ++ beBytes 4 len ++ beBytes 4 17 ++ udp0 ++ payload)
  let udp := udp0 ++ beBytes 2 (if c = 0 then 65535 else c) ++ payload
  if v4 then
    let h0 := beBytes 2 (0x4500 + 4 * dscp) ++ beBytes 2 (20 + len) ++ beBytes 4 0x4000 ++ [64, 17]
    ethFrame s n 0x0800 (h0 ++ beBytes 2 (csum (h0 ++ a ++ b)) ++ a ++ b ++ udp)
  else
    ethFrame s n 0x86DD (beBytes 4 (6 * 2 ^ 28 + dscp * 2 ^ 22) ++ beBytes 2 len ++ [17, 64] ++ a ++ b ++ udp)

/-- A transmit queue of a port (Table 5.3), and its depth. -/
def getQ (p : NetPort) (q : Nat) : List TxFrame :=
  match q with | 0 => p.q0 | 1 => p.q1 | 2 => p.q2 | 3 => p.q3 | 4 => p.q4 | _ => p.q5
def setQ (q : Nat) (l : List TxFrame) (p : NetPort) : NetPort :=
  match q with
  | 0 => { p with q0 := l }
  | 1 => { p with q1 := l }
  | 2 => { p with q2 := l }
  | 3 => { p with q3 := l }
  | 4 => { p with q4 := l }
  | _ => { p with q5 := l }
def depthQ (q : Nat) : Nat := match q with | 0 => 8 | 1 => 64 | 2 => 1024 | 3 => 1024 | _ => 256

/-- The state of a power domain (0 to 14, or a sub-domain). -/
def pdState (s : State) (k : Nat) : PdState := Tab.get pdDef s.crp.pd k

/-- The ports are in service in this mode (R507). -/
def netMode (s : State) : Bool :=
  match s.crp.mode with
  | .boot | .snapshot | .dormant => false
  | _ => true

/-- A port is present and powered. -/
def portPowered (s : State) (n : Nat) : Bool := decide (n < gradePorts s) && decide (pdState s (16 + n) = .on)

/-- A port is present, powered, and in service in the current mode (R507). -/
def portInService (s : State) (n : Nat) : Bool := portPowered s n && netMode s

/-- The crossings of a port are held, or a side of it is in reset (R400). -/
def portHeld (s : State) (n : Nat) : Bool := s.crp.netHold.getLsbD n || s.crp.macRst.getLsbD n || s.crp.fabRst.getLsbD n

/-- Region NET_n runs: the port is powered, and no reset of NET runs (R397). -/
def portUp (s : State) (n : Nat) : Bool := portPowered s n && !s.crp.inReset.getLsbD 8

/-- A port takes frames: in service, not in reset, nothing of it held (R397, R400). -/
def portServes (s : State) (n : Nat) : Bool := portInService s n && !portHeld s n && !s.crp.inReset.getLsbD 8

/-- Marks the head of a queue as such from now, where a new one comes there. -/
def markHead (now : Nat) (l : List TxFrame) : List TxFrame :=
  match l with
  | f :: t => { f with headAt := now } :: t
  | [] => []

/-- A head frame whose launch time lies in an interval of device time that is jumped over is past at the jump (R319). -/
def pastHead (before t : Nat) (l : List TxFrame) : List TxFrame :=
  match l with
  | f :: r =>
    (match f.launch with
      | some x => if (before : Int) < x ∧ x < (t : Int) then { f with headAt := t } else f
      | none => f) :: r
  | [] => []

/-- The same for every queue of a port. -/
def pastHeads (before t : Nat) (p : NetPort) : NetPort :=
  (List.range 6).foldl (fun p q => setQ q (pastHead before t (getQ p q)) p) p

/-- Queues a frame on a port. The Bool is false where the queue is full (Table 5.3). -/
def enqueue (n q : Nat) (f : TxFrame) (s : State) : State × Bool :=
  let p := netPort s n
  let l := getQ p q
  let f := if l.isEmpty then { f with headAt := s.tim.now } else f
  if l.length < depthQ q then (setPort n (setQ q (l ++ [f]) p) s, true)
  else if q = 0 then (sticky Reg.NFL_STICKY 7 (setPort n (setQ q (markHead s.tim.now (l.drop 1 ++ [f])) p) s), true)
  else (s, false)

/-- The port runs: enabled, in service, not in reset, its crossings not held (R138, R397, R400). -/
def portRuns (s : State) (n : Nat) : Bool :=
  portServes s n && flag s (Reg.NET_CTRL n) 0

/-- NIGHTFALL frames whose launch has come while the port could not send: discarded, and counted as misses unless the port
is fused off or not in service in this mode (R283, R507). -/
def missNightfall (n : Nat) (s : State) : State :=
  let p := netPort s n
  let late (f : TxFrame) : Bool := match f.launch with | some l => decide (l ≤ (s.tim.now : Int)) | none => false
  let gone := p.q0.filter late
  let s := setPort n { p with q0 := markHead s.tim.now (p.q0.filter (fun f => !late f)) } s
  if n < gradePorts s ∧ netMode s = true then inc (Reg.NFL_CNT 2) gone.length s else s

/-! ### PLP -/

/-- A PLP header (Table 5.6) for a frame with a body of `len` bytes. -/
def plpHeader (type gen flags machine len seq es ens keySel : Nat) : List Byte :=
  [0x50, 0x4C] ++ leBytes 1 (type + 16 * gen) ++ leBytes 1 flags ++ leBytes 2 machine ++ leBytes 2 (32 + len) ++
  leBytes 4 seq ++ leBytes 4 es ++ leBytes 4 ens ++ leBytes 1 keySel ++ zeros 3

/-- A whole PLP frame: tagged under a key, or untagged with eight zero bytes (R154). -/
def plpFrame (key : Option (List Byte)) (type gen flags machine seq es ens keySel : Nat) (body : List Byte) : List Byte :=
  match key with
  | some k =>
    let m := plpHeader type gen (flags + 1) machine body.length seq es ens keySel ++ body
    m ++ tag k m 8
  | none => plpHeader type gen flags machine body.length seq es ens keySel ++ body ++ zeros 8

/-- The link key slot that a machine entry's KEY_SEL names, and the one it sends with. -/
def linkSlot (e : MachEntry) (sel : Nat) : Nat := if sel = 0 then e.key0 else e.key1
def txSlot (e : MachEntry) : Nat := linkSlot e e.txSel

def plpPort (s : State) (n : Nat) : Nat := fld s (Reg.NET_UDP n) 15 0

/-- NIGHTFALL, GRANT and FIX carry DSCP 46 (R148). -/
def dscpOf (k : TxKind) : Nat := match k with | .nightfall | .grant | .fix => 46 | _ => 0

/-- What became of a frame that the device would send. -/
inductive Sent where
  | ok | noRoom | keyGone
deriving DecidableEq, Repr

/-- A machine frame ready to queue, of the generation given (R153), tagged under R157, and the state in which the machine's SEQ has
advanced. -/
def buildMach (m gen type es ens : Nat) (kind : TxKind) (number : Nat) (cmd : Option Cmd) (body : List Byte) (s : State) :
    TxFrame × State :=
  let x := mach s m
  let e := x.entry
  let seq := (x.txSeq + 1) % 2 ^ 32
  let plp := plpFrame (some (keyOf s (txSlot e))) type gen 2 m seq (es % 2 ^ 32) ens e.txSel body
  (⟨kind, udpFrame s e.port e.addr e.udpPort (plpPort s e.port) (dscpOf kind) plp, none, m, number, cmd, 0, none⟩,
   perf 0x127 1 (putMach m { x with txSeq := seq } s))

/-- The unit hands over, from B until it is standby (R341): it sends no PLP frame, a NIGHTFALL frame neither. -/
def handingOver (s : State) : Bool := match s.pai.handover with | .sent _ => true | _ => false

/-- The unit has stopped grants and PLP transmission: it waits for the sample of CLAIM_N (R336) or hands over (R341). -/
def plpStopped (s : State) : Bool := s.pai.hushed || handingOver s

/-- The generation of a machine's entry. -/
def machGen (s : State) (m : Nat) : Nat := (mach s m).entry.gen

/-- Whether a frame to machine `m` can be built and queued now: R507, R149 and R157; KEY_GONE outranks NO_ROOM (R15). -/
def canSend (m q : Nat) (s : State) : Sent :=
  let e := (mach s m).entry
  if !keyUsable s (txSlot e) 0 then .keyGone
  else if !portServes s e.port || decide (s.crp.mode = .standby) || plpStopped s then .noRoom
  else if (getQ (netPort s e.port) q).length < depthQ q then .ok
  else .noRoom

/-- KEY_GONE of a port that runs. -/
def keyGone (n : Nat) (s : State) : State := stickyIf (portUp s n) (Reg.NET_STICKY n) 3 s

/-- Sends a PLP frame of a generation to a machine through queue `q` of its port. -/
def sendMachGen (m gen q type es ens : Nat) (kind : TxKind) (number : Nat) (body : List Byte) (s : State) : State × Sent :=
  match canSend m q s with
  | .ok =>
    let p := buildMach m gen type es ens kind number none body s
    ((enqueue (mach s m).entry.port q p.1 p.2).1, .ok)
  | .keyGone => (keyGone (mach s m).entry.port s, .keyGone)
  | .noRoom => (s, .noRoom)

/-- The same in the generation of the machine's entry. -/
def sendMach (m q type es ens : Nat) (kind : TxKind) (number : Nat) (body : List Byte) (s : State) : State × Sent :=
  sendMachGen m (machGen s m) q type es ens kind number body s

/-- Seconds and nanoseconds of an instant for an EPOCH. -/
def epochS (t : Nat) : Nat := secOf t % 2 ^ 32
def epochNs (t : Nat) : Nat := subNs t

/-- An ACK to a machine (Table 5.17), through Q3. -/
def sendAckGen (m gen ackType status ackSeq detail : Nat) (s : State) : State :=
  (sendMachGen m gen 3 10 (epochS s.tim.now) (epochNs s.tim.now) .ack 0
    (leBytes 1 ackType ++ leBytes 1 status ++ zeros 2 ++ leBytes 4 ackSeq ++ leBytes 4 detail) s).1
def sendAck (m ackType status ackSeq detail : Nat) (s : State) : State := sendAckGen m (machGen s m) ackType status ackSeq detail s

/-- NF_KEY_SLOT of a port holds a usable key with GRANT_MAC. -/
def nfKeyUsable (s : State) (n : Nat) : Bool := keyUsable s (fld s (Reg.NET_NF_CFG n) 5 0) 0
def nfEn (s : State) (n : Nat) : Bool := flag s (Reg.NET_NF_CFG n) 6
def nfDst (s : State) (n : Nat) : List Byte :=
  leBytes 4 (rd s (Reg.NET_NF_DST n 0)).toNat ++ leBytes 4 (rd s (Reg.NET_NF_DST n 1)).toNat ++
  leBytes 4 (rd s (Reg.NET_NF_DST n 2)).toNat ++ leBytes 4 (rd s (Reg.NET_NF_DST n 3)).toNat

/-- A frame with ALL set (R158, R289): tagged under NF_KEY_SLOT where it can be, with the port's NIGHTFALL SEQ. -/
def buildAll (n type es ens : Nat) (kind : TxKind) (number : Nat) (launch : Option Int) (body : List Byte) (s : State) :
    TxFrame × State :=
  let p := netPort s n
  let seq := (p.nfSeq + 1) % 2 ^ 32
  let key := if nfKeyUsable s n then some (keyOf s (fld s (Reg.NET_NF_CFG n) 5 0)) else none
  let plp := plpFrame key type 1 6 0 seq (es % 2 ^ 32) ens 0 body
  let s := setPort n { p with nfSeq := seq } s
  (⟨kind, udpFrame s n (nfDst s n) (fld s (Reg.NET_NF_CFG n) 31 16) (plpPort s n) (dscpOf kind) plp, launch, 0, number, none, 0, none⟩,
   if nfKeyUsable s n then perf 0x127 1 s else s)

/-- The PLP frame payload of a built UDP frame is not needed again: queues drop frames of one kind. -/
def dropKind (k : TxKind) (l : List TxFrame) : List TxFrame := l.filter (fun f => f.kind ≠ k)

/-! ### Readiness of a standby (R329, R335) -/

/-- The PAIR block runs: PAIR operation, its sub-domain powered and out of reset. -/
def paiRuns (s : State) : Bool := s.pai.pair && decide (pdState s 20 = .on) && !s.crp.inReset.getLsbD 8

/-- A sticky bit of PAIR, and its counter `k`: nothing while the block does not run (R21). -/
def paiSticky (bit : Nat) (s : State) : State := stickyIf (paiRuns s) Reg.PAI_STICKY bit s
def paiCount (k n : Nat) (s : State) : State := if paiRuns s then inc (Reg.PAI_CNT k) n s else s

/-- The pair unit runs: its block does, the device has started and is not in SNAPSHOT. -/
def pairUp (s : State) : Bool :=
  paiRuns s && !s.crp.booting &&
  decide (s.crp.mode ≠ .dormant) && !(decide (s.crp.mode = .snapshot) && s.crp.snapDown)

/-- IMAGE_MISMATCH: major or minor version differ. -/
def imageMismatch (s : State) : Bool :=
  match s.pai.peer with
  | some p => decide (p.version.toNat / 65536 ≠ (activeVersion s).toNat / 65536)
  | none => false

/-- What the peer holds in slot `k`: type, engine mask, usable, check value. -/
def peerKey (s : State) (k : Nat) : Nat × Nat × Bool × Word :=
  match s.pai.peerKeys.find? (fun e => e.1 = k) with
  | some e => e.2
  | none => (0, 0, false, 0)

/-- The same of this unit. -/
def ownKey (s : State) (k : Nat) : Nat × Nat × Bool × Word :=
  ((keySlot s k).type, (keySlot s k).engines, decide ((keySlot s k).state = .valid), keyCheck s k)

/-- Slot `k` differs between the units (PAI_KEY_DIFF). A standby knows it once a sync has run; to the active unit nothing tells the
standby's slots (DESIGN CHOICE, assumption 190). -/
def keyDiffers (s : State) (k : Nat) : Bool := decide (s.pai.sync = 2) && !s.pai.active && decide (ownKey s k ≠ peerKey s k)

/-- Slots whose difference counts: in grant use, in PLP_VERIFY use by an entry, NF_KEY_SLOT of a port. -/
def keysThatCount (s : State) : List Nat :=
  (s.mach.filter (fun e => decide (e.2.entry.gen ≠ 0))).flatMap (fun e => [e.2.entry.key0, e.2.entry.key1]) ++
  (List.range (gradePorts s)).map (fun n => fld s (Reg.NET_NF_CFG n) 5 0)

/-- KEY_MISMATCH. -/
def keyMismatch (s : State) : Bool := (keysThatCount s).any (keyDiffers s)

/-- GRAPH_MISMATCH. -/
def graphMismatch (s : State) : Bool :=
  match s.pai.peerGraph with
  | some id => decide (id ≠ (rd s Reg.CHT_GRAPH_ID).toNat)
  | none => false

/-- A standby is ready (R329). -/
def paiReady (s : State) : Bool :=
  s.pai.pair && !s.pai.active && decide (s.crp.mode = .standby) && decide (s.pai.sync = 2) && s.pai.pathA.ok &&
  !imageMismatch s && !keyMismatch s && !graphMismatch s

/-- Sets the sticky bits of mismatches that a standby has come to show since `old` (R335). -/
def mismatchCheck (old s : State) : State :=
  if s.crp.mode ≠ .standby then s
  else
    stickyIf (paiRuns s && graphMismatch s && !graphMismatch old) Reg.PAI_STICKY 10
      (stickyIf (paiRuns s && keyMismatch s && !keyMismatch old) Reg.PAI_STICKY 9
        (stickyIf (paiRuns s && imageMismatch s && !imageMismatch old) Reg.PAI_STICKY 8 s))

/-- A unit that enters STANDBY sets the sticky bits of the mismatches that it shows there (R335). -/
def mismatchesShown (s : State) : State :=
  mismatchCheck { s with pai := { s.pai with peer := none, peerGraph := none, sync := 0 } } s

end Sys2Proof.Machine
end

