-- ==== Sys2Proof/Machine/TimeOps.lean ====
section
/-! DEFINITION. Device time uncertainty (R306), the bound (R307), port margins (R35) and timestamps (R310). -/
namespace Sys2Proof.Machine

/-- The step term of U in ns (R306): |d| from the announcement until S + STEP_HOLD_S. -/
def stepTerm (s : State) : Nat :=
  if s.tim.step.isSome then s.tim.stepNs.natAbs
  else match s.tim.termEnd with
    | some e => if s.tim.now < e * tSec then s.tim.stepNs.natAbs else 0
    | none => 0

/-- F·Δt + A·Δt²/2 in ns, rounded up, for Δt in units of 2⁻³² ns (R306). -/
def oscTerm (f a d : Nat) : Nat := ceilDiv (f * d * tSec * 20000000 + a * d * d) (2000000000 * tSec * tSec)

/-- The unapplied adjustment in ns, rounded up in size. -/
def adjNs (s : State) : Nat := ceilDiv s.tim.adjRemain.natAbs tNs

/-- U of this unit's own time state, in ns; none while unknown (R306, Table 10.2). -/
def ownUnc (s : State) : Option Nat :=
  let model (t : Int) : Nat := s.tim.u0 + oscTerm (rd s Reg.TIM_OSC_F).toNat (rd s Reg.TIM_OSC_A).toNat ((s.tim.now : Int) - t).toNat + stepTerm s
  match s.tim.state, s.tim.tLoss with
  | .free, _ => none
  | .locked, none => some (s.tim.lastUnc + adjNs s + stepTerm s)
  | .stepPending, none => some (s.tim.lastUnc + stepTerm s)
  | _, some t => some (model t)
  | .holdover, none => none

/-- U that the device publishes: in STANDBY the active unit's, increased by 5 ns (R343). -/
def timUnc (s : State) : Option Nat :=
  match s.tim.mirror with
  | some w => if w.state = .free then none else some (w.u + 5)
  | none => ownUnc s

/-- The time state that the device publishes. -/
def timState (s : State) : TimeState := match s.tim.mirror with | some w => w.state | none => s.tim.state

/-- SLEWING and LOSS_TIMING that the device publishes: in STANDBY the active unit's (R343). -/
def timSlewing (s : State) : Bool := match s.tim.mirror with | some w => w.slewing | none => s.tim.slewing
def lossTiming (s : State) : Bool := match s.tim.mirror with | some w => w.lossTiming | none => s.tim.tLoss.isSome

/-- U exceeds the bound: unknown or above TIM_BOUND (R307). -/
def aboveBound (s : State) : Bool :=
  match timUnc s with
  | none => true
  | some u => decide ((rd s Reg.TIM_BOUND).toNat < u)

/-- The number that TIM_UNC shows. -/
def uncReg (s : State) : Word :=
  match timUnc s with
  | none => 0xFFFFFFFF
  | some u => BitVec.ofNat 32 (min u 0xFFFFFFFE)

/-- m_time of a port in ns (R35); none while U is unknown. -/
def portMTime (s : State) (n : Nat) : Option Nat :=
  match timUnc s with
  | none => none
  | some u =>
    some (fld s (Reg.NET_TIME_MARGIN n) 23 0 * 1000 + u +
      (if bitAt (stk s (Reg.TIM_PORT_STICKY n)) 0 then (Tab.get timPortDef s.tim.port n).step else 0))

/-- The port's latency register for its current speed (R310). -/
def latReg (s : State) (n : Nat) : Word :=
  if flag s (Reg.NET_CTRL n) 1 then rd s (Reg.TIM_PORT_LAT_1G n) else rd s (Reg.TIM_PORT_LAT_10G n)

/-- t_rx and t_tx of a frame whose mark passes the port now, in 2⁻³² ns (R310). -/
def tRx (s : State) (n : Nat) : Int := (s.tim.now : Int) - ((bits (latReg s n) 15 0 * tNs / 100 : Nat) : Int)
def tTx (s : State) (n : Nat) : Nat := s.tim.now + bits (latReg s n) 31 16 * tNs / 100

/-- Sets a part of the time unit. -/
def setTim (t : Tim) (s : State) : State := { s with tim := t }

end Sys2Proof.Machine
end

