-- ==== Sys2Proof/Machine/NightOps.lean ====
section
/-! DEFINITION. Nightfall's shared operations: which machines are held (R288), which causes are active
(Table 9.1), what a trigger does (R280, R284). -/
namespace Sys2Proof.Machine

/-- Machine `m` is held by the latch (R288). -/
def nfHeld (s : State) (m : Nat) : Bool :=
  match s.nfl.latch with
  | .latched | .armed => true
  | .selective => s.nfl.held.getLsbD m
  | .idle => false

/-- The latch is set for the device as a whole (R288). -/
def nfSet (s : State) : Bool := match s.nfl.latch with | .latched | .armed => true | _ => false

/-- Some machine is held. -/
def nfAnyHeld (s : State) : Bool :=
  match s.nfl.latch with
  | .latched | .armed => true
  | .selective => decide (s.nfl.held ≠ 0)
  | .idle => false

/-- A slot in grant use is unusable (R277): the TX_SEL slot of an entry with GEN ≠ 0. -/
def keyLoss (s : State) : Bool :=
  s.mach.any (fun e => decide (e.2.entry.gen ≠ 0) && !keyUsable s (txSlot e.2.entry) 0)

/-- A channel's feedback differs from its command. -/
def fbDiffers (s : State) : Bool := s.nfl.fbA != s.nfl.outA || s.nfl.fbB != s.nfl.outB

/-- The causes active on this unit itself (Table 9.1). Cause 13 is not among them, or two units would keep each other's active
for ever (assumption 167). -/
def nfOwn (s : State) : Word :=
  let b (i : Nat) (c : Bool) : Word := if c then oneHot i else 0
  b 1 (!s.nfl.inA || !s.nfl.inB || s.nfl.disc) ||| b 4 (s.pai.splitLine || s.pai.splitActive) ||| b 5 (keyLoss s) ||| b 6 s.cht.ue |||
  b 7 (aboveBound s) ||| b 8 s.nfl.wdgExpired ||| b 9 (s.nfl.latchFault || s.nfl.clockFault) |||
  b 10 (s.nfl.fbFault && fbDiffers s) ||| b 11 (decide (s.crp.mode = .boot)) ||| b 12 (decide (s.crp.mode = .snapshot))

/-- NFL_ACTIVE: the causes active now, by code. -/
def nfActive (s : State) : Word := nfOwn s ||| (if s.pai.peerNf ≠ 0 then oneHot 13 else 0)

def setNfl (n : Nfl) (s : State) : State := { s with nfl := n }

/-- The NIGHTFALL SEQ of the ports. -/
def nfSeqs (s : State) : List Nat := (List.range 4).map (fun n => (netPort s n).nfSeq)

/-- Mirrors Nightfall's state (Table 11.3). -/
def mirrorNfl (s : State) : State :=
  mirror (.nightfall s.nfl.latch s.nfl.latchId s.nfl.trig s.nfl.first s.nfl.seen (nfOwn s) s.nfl.held (nfSeqs s))
    (if mirrors s then { s with pai := { s.pai with sentNf := nfOwn s } } else s)

/-- The cycle of the SAFE clock, 50 MHz, in which the device stands (Table 13.1). -/
def safeCycle (s : State) : Nat := s.tim.cycles * 500 / 4092

/-- Commands the outputs (R272). A feedback line that read its command follows it; one that differs stays
(assumption 12). -/
def nfDrive (a b : Bool) (n : Nfl) : Nfl :=
  { n with outA := a, outB := b, fbA := if n.fbA = n.outA then a else n.fbA, fbB := if n.fbB = n.outB then b else n.fbB }

/-- Refuses a Nightfall command (Table 9.9): RELEASE_REFUSED and NFL_REFUSE. -/
def nfRefuse (command reason machine : Nat) (s : State) : State :=
  sticky Reg.NFL_STICKY 5 (wr Reg.NFL_REFUSE (BitVec.ofNat 32 (reason + 256 * command + 65536 * machine)) s)

/-- Chart's reason for a machine's last withheld or refused grant (CHT_MACH_m_STATUS). -/
def setReason (m code : Nat) (s : State) : State := setChtMach m { chtMach s m with reason := code } s

/-- A GRANT that does not leave: it completes with a code, and counts as discarded. -/
def grantLost (m code : Nat) (s : State) : State := perf 0x147 1 (setReason m code s)

/-- Discards the GRANTs in Q2 of a port that have not started: they complete NIGHTFALL_HELD (R280). -/
def dropGrants (n : Nat) (s : State) : State :=
  let p := netPort s n
  let gone := p.q2.filter (fun f => f.kind = .grant)
  let s := setPort n { p with q2 := dropKind .grant p.q2 } s
  perf 0x147 gone.length (gone.foldl (fun s f => setReason f.machine 0x68 s) s)

/-- GRANTs that wait for the peer's acknowledgement are discarded as well. -/
def dropHeldGrants (s : State) : State :=
  let g := s.pai.grants
  perf 0x147 g.length (g.foldl (fun s f => setReason f.machine 0x68 s) { s with pai := { s.pai with grants := [] } })

/-- The payload of NIGHTFALL_LATCH: the first cause, `extra` (REASON, OPERATOR) and T. -/
def latchPayload (cause : Nat) (extra : List Byte) (s : State) : List Byte :=
  leBytes 1 cause ++ extra ++ zeros (7 - extra.length) ++ timeBytes s.nfl.trig

/-- The trigger from IDLE or SELECTIVE (R280): both latches, outputs, T, LATCH_ID, grants, the recorder
entry with `extra` (REASON, OPERATOR), and the mirror. -/
def nfLatch (cause : Nat) (extra : List Byte) (s : State) : State :=
  let id := (s.nfl.latchId + 1) % 2 ^ 32
  let n := nfDrive false false s.nfl
  let s := setNfl { n with latch := .latched, latchId := id, first := cause, seen := oneHot cause, trig := s.tim.now,
                           nextK := 0, held := BitVec.allOnes 1024, relAt := [],
                           idleCycle := if s.nfl.latch = .idle then some (safeCycle s) else none } s
  let s := { s with upd := { s.upd with nv := { s.upd.nv with latchId := id } } }
  let s := (List.range 4).foldl (fun s k => dropGrants k s) (dropHeldGrants s)
  let s := stickyCount Reg.NFL_STICKY 0 (Reg.NFL_CNT 0) s
  let s := perf 0x169 1 s
  mirrorNfl (record 0x28 id (latchPayload cause extra s) s)

/-- Release frames of a machine, or of the fleet, leave a port's queue. -/
def dropReleases (ok : TxFrame → Bool) (n : Nat) (s : State) : State :=
  let p := netPort s n
  setPort n { p with q3 := p.q3.filter (fun f => decide (f.kind ≠ .release) || !ok f) } s

/-- L_k in 2⁻³² ns (R282). -/
def launchOf (t k : Nat) : Nat :=
  if k < 100 then t + 100 * tUs + k * 10 * tMs else t + 100 * tUs + tSec + (k - 100) * 100 * tMs

/-- The first frame of the schedule that has not left yet: one built and dropped is built again. -/
def nextFrame (s : State) : Nat :=
  if s.nfl.nextK ≠ 0 ∧ s.tim.now ≤ launchOf s.nfl.trig (s.nfl.nextK - 1) then s.nfl.nextK - 1 else s.nfl.nextK

/-- GRANTs that have not started leave every queue (R280). -/
def dropAllGrants (s : State) : State := (List.range 4).foldl (fun s k => dropGrants k s) (dropHeldGrants s)

/-- What a row handled in the same SAFE cycle as a trigger did is undone, for the trigger comes first (R284, Table 9.4). A GRANT queued
since is dropped, as the latch was set all along. -/
def undoRow (s : State) (c : NflCmd) : State :=
  let n := s.nfl
  let releasesGone (ok : TxFrame → Bool) (s : State) : State := (List.range 4).foldl (fun s k => dropReleases ok k s) s
  let fleetGone (s : State) : State :=
    releasesGone (fun f => decide (f.number = n.latchId + 1)) { s with recorder := recForget 0x2A n.latchId s.recorder }
  let rearm (expired : Bool) (s : State) : State :=
    let s := setNfl { s.nfl with latch := if s.nfl.latch = .latched then .armed else s.nfl.latch } s
    if expired then unstick Reg.NFL_STICKY 4 s else s
  match c.row with
  | .arm => setNfl { n with latch := if n.latch = .armed then .latched else n.latch } s
  | .confirm =>
    dropAllGrants (setNfl { nfDrive false false n with latch := .armed, held := BitVec.allOnes 1024, fleetRel := none, nextK := nextFrame s }
      (fleetGone s))
  | .confirmSelective => setNfl { n with latch := .selective, fleetRel := none } (fleetGone s)
  | .mrel =>
    setNfl { n with latch := .selective, machRel := Tab.del n.machRel c.machine } (releasesGone (fun f => decide (f.machine = c.machine)) s)
  | .refused _ => s
  | .confirmFailed x | .windowEnd x => rearm x s

/-- The command of a row is refused with reason 6. -/
def refuseRow (s : State) (c : NflCmd) : State :=
  match c.row with
  | .arm => nfRefuse 1 6 0 s
  | .confirm | .confirmSelective | .confirmFailed _ => nfRefuse 2 6 0 s
  | .mrel => nfRefuse 3 6 c.machine s
  | .refused code => nfRefuse code 6 c.machine s
  | .windowEnd _ => s

/-- The rows of this SAFE cycle that stand after its triggers, latest first. -/
def rowsNow (s : State) : List NflCmd := s.nfl.cmds.filter (fun c => decide (c.cycle = safeCycle s))

/-- Notes a row of this SAFE cycle. -/
def noteRow (row : NflRow) (m : Nat) (s : State) : State := setNfl { s.nfl with cmds := ⟨safeCycle s, row, m⟩ :: rowsNow s } s

/-- The commands that a trigger at this instant refuses: those of the same SAFE cycle, and a confirm that waits for its
acknowledgement (R287). -/
def refuseByTrigger (s : State) : State :=
  let rows := rowsNow s
  let s := if s.nfl.confirm.isSome then nfRefuse 2 6 0 (setNfl { s.nfl with confirm := none } s) else s
  rows.reverse.foldl refuseRow (setNfl { (rows.foldl undoRow s).nfl with cmds := [] } (rows.foldl undoRow s))

/-- The latch was set from IDLE in this SAFE cycle (R276). -/
def latchedNow (s : State) : Bool := decide (s.nfl.idleCycle = some (safeCycle s))

/-- The NIGHTFALL_LATCH entry of a latch, which the recorder holds not yet committed, takes a lower cause of the same SAFE cycle
(R276, R280). -/
def amendLatch (cause : Nat) (extra : List Byte) (s : State) : State :=
  let p := latchPayload cause extra s
  let ev (e : RecEvent) : RecEvent := if e.type = 0x28 ∧ e.key = s.nfl.latchId then { e with payload := p } else e
  let rc (e : Record) : Record := if e.type = 0x28 ∧ e.key = s.nfl.latchId then { e with payload := p } else e
  { s with recorder := { s.recorder with staging := s.recorder.staging.map ev, inProgress := s.recorder.inProgress.map rc } }

/-- A trigger while LATCHED: NFL_SEEN and NIGHTFALL_CAUSE. One of the SAFE cycle in which the latch was set from IDLE may be the first
cause instead, where it is the lower; the other has the entry (R276). -/
def nfAgain (cause : Nat) (extra : List Byte) (s : State) : State :=
  let lower := latchedNow s && decide (cause < s.nfl.first)
  let other := if lower then s.nfl.first else cause
  let s := if lower then amendLatch cause extra (setNfl { s.nfl with first := cause } s) else s
  record 0x29 s.nfl.latchId (leBytes 1 other) (setNfl { s.nfl with seen := s.nfl.seen ||| oneHot cause } s)

/-- A trigger of cause `cause` at this instant (R275, R276, Table 9.4). -/
def nfTriggerWith (cause : Nat) (extra : List Byte) (s : State) : State :=
  let s := refuseByTrigger s
  let s := setNfl { s.nfl with trigCycle := some (safeCycle s) } s
  match s.nfl.latch with
  | .idle | .selective => nfLatch cause extra s
  | .latched => mirrorNfl (nfAgain cause extra s)
  | .armed =>
    mirrorNfl (sticky Reg.NFL_STICKY 3 (setNfl { s.nfl with seen := s.nfl.seen ||| oneHot cause, latch := .latched } s))

/-- A unit in STANDBY sends its own trigger to the active unit (R30, R293). -/
def nfTellPeer (cause : Nat) (s : State) : State :=
  if s.pai.pair && !s.pai.active && s.pai.pathA.ok then emit (.pair 2 (leBytes 1 cause)) s else s

/-- The causes active on this unit have changed since the peer was told: they are mirrored (Table 9.1, cause 13). A standby
sends them as it sends a trigger. -/
def tellActive (s : State) : State :=
  if nfOwn s = s.pai.sentNf ∨ !s.pai.pair ∨ !s.pai.pathA.ok then s
  else if s.pai.active then mirrorNfl s
  else emit (.pair 8 (leBytes 4 (nfOwn s).toNat)) { s with pai := { s.pai with sentNf := nfOwn s } }

/-- A trigger with no payload of its own. -/
def nfTrigger (cause : Nat) (s : State) : State := nfTellPeer cause (nfTriggerWith cause [] s)

/-- Tests U against the bound at an event that may move it: going above it sets BOUND_EXCEEDED and triggers
cause TIME (R307). -/
def timCheckBound (s : State) : State :=
  let a := aboveBound s
  let was := s.tim.above
  let s := setTim { s.tim with above := a } s
  if a && !was then nfTrigger 7 (sticky Reg.TIM_STICKY 2 s) else s

/-- TIME cycles in `ms` milliseconds: the clock of the SAFE island's own windows (assumption 14). -/
def cycMs (ms : Nat) : Nat := ms * 409200

/-- The KEY_LOSS timer has reached KEY_GRACE and has not triggered (R277). -/
def keyGraceDue (s : State) : Bool :=
  !s.nfl.keyLossFired && (match s.nfl.keyLossAt with
    | some t => decide (t + cycMs (10 * fld s Reg.NFL_TIMING 31 18) ≤ s.tim.cycles)
    | none => false)

/-- Triggers where the timer has reached KEY_GRACE. -/
def keyGrace (s : State) : State := if keyGraceDue s then nfTrigger 5 (setNfl { s.nfl with keyLossFired := true } s) else s

/-- The KEY_LOSS timer (R277): it starts when a slot in grant use becomes unusable and stops when every one is usable again, which in or
after the cycle in which it reaches KEY_GRACE is too late (Table 15.12). To be called after any change of keys or entries. -/
def keyLossCheck (s : State) : State :=
  if keyLoss s then
    if s.nfl.keyLossAt.isNone then setNfl { s.nfl with keyLossAt := some s.tim.cycles, keyLossFired := false } s else s
  else
    let s := keyGrace s
    setNfl { s.nfl with keyLossAt := none, keyLossFired := false } s

end Sys2Proof.Machine
end

