-- ==== Sys2Proof/Machine/ModeOps.lean ====
section
/-! DEFINITION. Changes of mode that follow the time state (Table 14.2, R405). -/
namespace Sys2Proof.Machine

def setCrp (c : Crp) (s : State) : State := { s with crp := c }

/-- A survey ends, with no coordinates changed, when the device leaves SURVEY (R110; assumption 158). -/
def leaveSurvey (m : Mode) (s : State) : State :=
  if s.ref.survey.isSome ∧ m ≠ .survey then { s with ref := { s.ref with survey := none, surveyState := 0 } } else s

/-- Subclass 0 is accepted in MAINTAIN only (Table 2.1): a link that came up in it goes back to step 2 of its bring-up when
MAINTAIN is left (assumption 180). -/
def leaveSubclass0 (m : Mode) (s : State) : State :=
  let back (a : Ant) : Ant :=
    if a.nondet then { a with link := .codeGroup, aligned := false, waitSysref := false, nondet := false, errs := 0 } else a
  if s.crp.mode = .maintain ∧ m ≠ .maintain then { s with ing := { s.ing with ant := s.ing.ant.map (fun e => (e.1, back e.2)) } }
  else s

/-- The device is in `m`. -/
def setMode (m : Mode) (s : State) : State := setCrp { s.crp with mode := m } (leaveSubclass0 m (leaveSurvey m s))

/-- The time state becomes HOLDOVER: SERVE and SURVEY are recorded and left (R304, R405). -/
def toHoldover (s : State) : State :=
  match s.crp.mode with
  | .serve | .survey => setMode .holdover (setCrp { s.crp with prev := s.crp.mode } s)
  | _ => s

/-- The time state leaves HOLDOVER: the mode recorded. -/
def fromHoldover (s : State) : State :=
  match s.crp.mode with
  | .holdover => setMode s.crp.prev s
  | _ => s

end Sys2Proof.Machine
end

