-- ==== Sys2Proof/Machine/Time.lean ====
section
/-! DEFINITION. The commands of the time unit (chapter 10): steering, time state, steps, PPS and timed pulses, the
delay-step monitor. -/
namespace Sys2Proof.Machine

abbrev Out := Host.Outcome State Fault Refusal

/-- The low word last written of a 64-bit RW pair (R12). -/
def lowWord (s : State) (a : Nat) : Word := Tab.get RegMap.reset s.bank.low a

/-- Sets CFG_REJECT of the time unit. -/
def timReject (s : State) : State := sticky Reg.TIM_STICKY 6 s

/-! ### Grids of device time -/

/-- Index of the whole millisecond that an instant lies in. -/
def msIdx (t : Nat) : Nat := t / tMs

/-- Index of the SYSREF instants at a time: whole seconds in MODE 1, multiples of PERIOD × 2 ms in MODE 2 (R42). -/
def sysrefIdxAt (s : State) (t : Nat) : Nat :=
  let p := fld s Reg.ING_SYSREF_CTL 24 16
  match fld s Reg.ING_SYSREF_CTL 1 0 with
  | 1 => secOf t
  | 2 => if p = 0 then 0 else t / (p * 2 * tMs)
  | _ => 0
def sysrefIdx (s : State) : Nat := sysrefIdxAt s s.tim.now

/-- Epochs per second of an OBS_RATE code (REF_CTRL, REF_STREAM_n_CFG); 0 is off. -/
def obsHz (code : Nat) : Nat := match code with | 0 => 1 | 1 => 2 | 2 => 5 | 3 => 10 | 4 => 20 | _ => 0

/-- The formation period in ns. -/
def formNs (s : State) : Nat := 1000000000 / max 1 (obsHz (fld s Reg.REF_CTRL 2 0))

/-- The latest formation point at a time, in ns (R116). -/
def formPointAt (s : State) (t : Nat) : Nat := nsOf t / formNs s * formNs s
def formPoint (s : State) : Nat := formPointAt s s.tim.now

/-- The end of an open interval (R213). -/
def openEnd : Nat := 0xFFFFFFFF

/-- The origin of ticks in ms. -/
def originMs (s : State) : Nat := rd64 s Reg.CHT_ORIGIN_LO

/-- The current tick: at most the last that is not an open END, which never comes. -/
def nowTick (s : State) : Nat := min (s.tim.now / tMs - originMs s) (openEnd - 1)

/-- Below 0xF000_0000 the warning of R219 is armed again. -/
def rearmNear (s : State) : State := { s with cht := { s.cht with nearTold := s.cht.nearTold && decide (0xF0000000 ≤ nowTick s) } }

/-! ### Pulse outputs -/

/-- Whole seconds whose PPS edge, DELAY_PS ahead, has come (R316): the index of the latest. -/
def ppsSecond (s : State) (n : Nat) : Nat :=
  let d := signed 32 (rd s (Reg.TIM_PPS_DELAY n)).toNat
  (((s.tim.now : Int) + d * (tNs : Int) / 1000) / (tSec : Int)).toNat

/-- TIME cycles of a width in ns, rounded up: 409.2 cycles are 1 µs. -/
def cyclesOf (ns : Nat) : Nat := ceilDiv (ns * 4092) 10000

/-- R316, R318: one pulse for each whole second, none for a second already emitted. -/
def ppsFire (n : Nat) (s : State) : State :=
  let k := ppsSecond s n
  if n < 2 ∧ flag s (Reg.TIM_PPS_CFG n) 0 = true ∧ Tab.get natDef s.tim.ppsLast n < k then
    let width := fld s (Reg.TIM_PPS_CFG n) 22 4
    let t := Tab.put natDef s.tim.ppsEnd n (s.tim.cycles + cyclesOf (width * 1000))
    emit (.pps n (!flag s (Reg.TIM_PPS_CFG n) 1) width) (setTim { s.tim with ppsLast := Tab.put natDef s.tim.ppsLast n k, ppsEnd := t } s)
  else s

def tpOut (s : State) (k : Nat) : TpOut := Tab.get tpDef s.tim.tp k
def setTp (k : Nat) (t : TpOut) (s : State) : State := setTim { s.tim with tp := Tab.put tpDef s.tim.tp k t } s

/-- The balls of PPS_OUT_n and TP_k are driven: not without power, and not from power-good until step 6 of a start (R489). -/
def outputsOn (s : State) : Bool :=
  match s.crp.mode with
  | .dormant => false
  | .boot => decide (2 ≤ s.crp.wake) || decide (pdState s 12 = .on)
  | _ => true

/-- TP_k exists: on the LTX-960L only (R317). -/
def tpExists (s : State) (k : Nat) : Bool := decide (k < 16) && decide (s.grade = .l)

/-- The first instant at + m × period at or after `now`. -/
def nextPeriodic (at_ : Int) (period now : Nat) : Int :=
  if (now : Int) ≤ at_ then at_ else at_ + ((ceilDiv ((now : Int) - at_).toNat period * period : Nat) : Int)

/-- The level of TP_k in its active or its idle state: CFG.POL 1 is a low pulse (R317). -/
def tpLevel (s : State) (k : Nat) (active : Bool) : Bool := active != flag s (Reg.TIM_TP_CFG k) 2

/-- Emits the pulse of TP_k now: a one-shot is then disarmed, a periodic output moves on (R317). -/
def tpFire (k : Nat) (s : State) : State :=
  let width := (rd s (Reg.TIM_TP_WIDTH k)).toNat
  let period := (rd s (Reg.TIM_TP_PERIOD k)).toNat * tNs
  let t := tpOut s k
  let s := emit (.tp k (tpLevel s k true)) (setTp k { t with ending := some (s.tim.cycles + cyclesOf width) } s)
  if flag s (Reg.TIM_TP_CFG k) 1 then setTp k { tpOut s k with next := t.next + (period : Int) } s
  else wr (Reg.TIM_TP_CFG k) (setBits (rd s (Reg.TIM_TP_CFG k)) 0 0 0) s

def tpDue (s : State) (k : Nat) : Bool :=
  tpExists s k && flag s (Reg.TIM_TP_CFG k) 0 && decide ((tpOut s k).next ≤ (s.tim.now : Int))

/-- What a positive step does to TP_k (R318): a one-shot instant stepped over is emitted and marked LATE; a
periodic output keeps its phase. -/
def tpStepOver (k : Nat) (s : State) : State :=
  if tpExists s k && flag s (Reg.TIM_TP_CFG k) 0 && decide ((tpOut s k).next < (s.tim.now : Int)) then
    if flag s (Reg.TIM_TP_CFG k) 1 then
      setTp k { tpOut s k with next := nextPeriodic (tpOut s k).next ((rd s (Reg.TIM_TP_PERIOD k)).toNat * tNs) s.tim.now } s
    else sticky Reg.TIM_TP_STICKY k (tpFire k s)
  else s

/-- The last whole second whose PPS edge is past at this instant; an edge at the instant itself is not. -/
def ppsSkip (s : State) (n : Nat) : Nat :=
  let k := ppsSecond s n
  let d := signed 32 (rd s (Reg.TIM_PPS_DELAY n)).toNat
  if (s.tim.now : Int) + d * (tNs : Int) / 1000 = ((k * tSec : Nat) : Int) then k - 1 else k

/-- Edges of PPS_OUT_n stepped over are not emitted. -/
def ppsStepOver (n : Nat) (s : State) : State :=
  let skip := ppsSkip s n
  if Tab.get natDef s.tim.ppsLast n < skip then setTim { s.tim with ppsLast := Tab.put natDef s.tim.ppsLast n skip } s else s

/-- The first TIME cycle of every PPS and TP edge due at this instant (R309). -/
def edgesDue (s : State) : State :=
  let s := ppsFire 1 (ppsFire 0 s)
  (List.range 16).foldl (fun s k => if tpDue s k then tpFire k s else s) s

/-- The reference station after a jump to `t`: formation points come again from `t` on, as do stream epochs, and base observables whose
epoch lies ahead are gone, for time no longer lies in [e, e + 2 s) (R116, R122, R128). Runs and swaps of before lie before every epoch
to come. -/
def refMoved (t : Nat) (s : State) : State :=
  let last := ceilDiv t tNs - 1
  let s := { s with cor := { s.cor with ended := [] } }
  { s with ref := { s.ref with gridAt := formPointAt s (t - 1), epochs := s.ref.epochs.filter (fun p => decide (p.e * tNs ≤ t)),
                               swaps := s.ref.swaps.map (fun x => { x with at_ := min x.at_ (formPointAt s (t - 1)) }),
                               stream := s.ref.stream.map (fun e => (e.1, { e.2 with last := min e.2.last last })) } }

/-- Device time becomes `t` at once: a set (R302), a step (R309), a standby's jump (R343). What waits for the next instant of a
grid of device time then waits for the first such instant from `t` on: instants jumped over are no instants of device time,
and those that come again come again (assumption 143). Pulses follow R318, launch times R319. -/
def moveTime (t : Nat) (s : State) : State :=
  let before := s.tim.now
  let m := msIdx (t - 1)
  let relatch (x : Ant) : Ant := { x with pendLatency := x.pendLatency.map (fun p => (p.1, min p.2 m)) }
  let tim := { s.tim with now := t, pendIncr := s.tim.pendIncr.map (fun p => (p.1, min p.2 m)), rtcSec := secOf (t - 1) }
  let ing := { s.ing with sysrefAt := sysrefIdxAt s (t - 1), ant := s.ing.ant.map (fun e => (e.1, relatch e.2)),
                          clipMs := (s.ing.clipMs.map (fun e => (e.1, min e.2 m))).filter (fun e => decide (e.2 ≠ 0)) }
  let s := rearmNear (refMoved t { s with tim := tim, ing := ing })
  let s := { s with net := s.net.map (fun e => (e.1, pastHeads before t e.2)) }
  if before < t then (List.range 16).foldl (fun s k => tpStepOver k s) (ppsStepOver 1 (ppsStepOver 0 s)) else s

/-! ### Increment and adjustment -/

/-- A 32.32 increment lies within 200 ppm of 2,500 / 1,023 ns (R300). -/
def incrInRange (v : Nat) : Bool :=
  decide (((v * 1023 : Nat) - (2500 * tNs : Nat) : Int).natAbs * 1000000 ≤ 200 * (2500 * tNs))

/-- R300. -/
def execTimIncrInt (w : Word) (s : State) : Out :=
  let frac := (lowWord s Reg.TIM_INCR_FRAC).toNat
  let v := bits w 7 0 * 2 ^ 32 + frac
  .next (
    if !incrInRange v || decide (timState s = .holdover) then timReject s
    else wr Reg.TIM_INCR_FRAC (BitVec.ofNat 32 frac) (wr Reg.TIM_INCR_INT (BitVec.ofNat 32 (bits w 7 0))
      (setTim { s.tim with pendIncr := some (v, msIdx s.tim.now) } s)))

/-- R300: the first whole millisecond after the write. -/
def execIncrApply (s : State) : Out :=
  .next (match s.tim.pendIncr with
    | some (v, m) => if m < msIdx s.tim.now then setTim { s.tim with incr := v, pendIncr := none } s else s
    | none => s)

/-- Starts an adjustment whose unapplied total is `total` (2⁻³² ns) over `cycles` TIME cycles (R301). -/
def startAdj (total : Int) (cycles : Nat) (s : State) : State :=
  setTim { s.tim with adjRemain := if cycles = 0 then 0 else total, adjCycles := cycles } s

/-- R301. A standby is in the time state that it mirrors (R343), here and below. -/
def execTimAdjCtrl (w : Word) (s : State) : Out :=
  let ms := bits w 15 0
  let total := signed 32 (rd s Reg.TIM_ADJ_OFFSET).toNat * (tNs : Int) + s.tim.adjRemain
  let free := decide (timState s = .free) || decide (s.crp.mode = .maintain)
  .next (
    if ms = 0 then timReject s
    else if !free && decide (total.natAbs * 1000 > fld s Reg.TIM_HOLD_CFG 7 0 * ms * tNs) then timReject s
    else timCheckBound (startAdj total (ms * 409200) s))

/-- R301, R308: the interval of the adjustment is over. -/
def execAdjustmentEnd (s : State) : Out :=
  .next (if s.tim.adjCycles = 0 then setTim { s.tim with adjRemain := 0, slewing := false } s else s)

/-- R302. A set returns the time state to FREE in MAINTAIN; a step announced then falls away with its state
(assumption 13). -/
def execTimSetNs (w : Word) (s : State) : Out :=
  let ns := bits w 29 0
  let sec := (rd s Reg.TIM_SET_S_LO).toNat + 2 ^ 32 * (rd s Reg.TIM_SET_S_HI).toNat
  .next (
    if 999999999 < ns then timReject s
    else if timState s = .free ∨ s.crp.mode = .maintain then
      timCheckBound (moveTime ((sec * 1000000000 + ns) * tNs)
        (setTim { s.tim with mirror := none, state := .free, tLoss := none, step := none, termEnd := none } s))
    else timReject s)

/-! ### Time state -/

/-- When the latest SIG_OK report came; a takeover counts as one (DESIGN CHOICE, assumption 189). -/
def lastOk (s : State) : Option Nat :=
  match s.tim.reports.head?, s.tim.adopted with
  | some r, some t => some (max r.1 t)
  | some r, none => some r.1
  | none, t => t

/-- t_loss is set, with U_0 from the last report at or before it (R306). Where no report is as old, the spec
gives no U_0: a free value. -/
def setLoss (t : Int) (s : State) : State :=
  match s.tim.reports.find? (fun r => decide ((r.1 : Int) ≤ t)) with
  | some r => setTim { s.tim with tLoss := some t, u0 := r.2 } s
  | none => freeNext (setTim { s.tim with tLoss := some t, u0 := freeVal s } s)

/-- A loss acts in LOCKED and STEP_PENDING while t_loss is clear (Table 10.1, R305); in STANDBY those are the active unit's state and
LOSS_TIMING (R343). -/
def reportLoss (t : Int) (s : State) : State :=
  match timState s, if lossTiming s then some 0 else s.tim.tLoss with
  | .locked, none | .stepPending, none => timCheckBound (setLoss t s)
  | _, _ => s

/-- The recorder entry TIME_HOLDOVER: t_loss, U_0. -/
def recHoldover (s : State) : State :=
  let t := match s.tim.tLoss with | some t => t.toNat | none => 0
  record 0x30 0 (timeBytes t ++ leBytes 4 s.tim.u0) s

/-- Enters the HOLDOVER time state. -/
def enterHoldover (s : State) : State :=
  let s := recHoldover (sticky Reg.TIM_STICKY 0 (setTim { s.tim with state := .holdover } s))
  timCheckBound (toHoldover s)

/-- R305 and Table 10.1: a report with SIG_OK. The mirrored state of a STANDBY stays the active unit's (R343). -/
def execTimLockReport (w : Word) (s : State) : Out :=
  .next (
    if !bitAt w 31 then s
    else
      let unc := bits w 23 0
      let tim := { s.tim with reports := (s.tim.now, unc) :: s.tim.reports, lastUnc := unc }
      match timState s, s.tim.tLoss with
      | .free, _ => timCheckBound (setTim (if s.tim.mirror.isSome then tim else { tim with state := .locked, tLoss := none }) s)
      | .locked, some t | .stepPending, some t =>
        if t < (s.tim.now : Int) ∧ (s.tim.now : Int) < t + ((2 * tSec : Nat) : Int) then timCheckBound (setTim { tim with tLoss := none } s)
        else setTim tim s
      | _, _ => timCheckBound (setTim tim s))

/-- R305: the write of TIM_LOSS_NS reports the loss at TIM_LOSS_S and these nanoseconds. -/
def execTimLossNs (w : Word) (s : State) : Out :=
  .next (reportLoss (near32 s.tim.now (rd s Reg.TIM_LOSS_S).toNat (bits w 29 0)) s)

/-- R308, R309. -/
def execTimReturn (w : Word) (s : State) : Out :=
  let e := signed 32 w.toNat
  let ok := s.tim.reports.any (fun r => decide (r.1 < s.tim.now) && decide (s.tim.now ≤ r.1 + tSec))
  let accepts := (timState s = .locked ∨ timState s = .holdover) ∧ ok = true
  .next (
    if ¬ accepts then sticky Reg.TIM_STICKY 7 s
    else if e.natAbs ≤ 500 then
      let total := -e * (tNs : Int) + s.tim.adjRemain
      let sec := ceilDiv total.natAbs (fld s Reg.TIM_HOLD_CFG 7 0 * tNs)
      let s := setTim { s.tim with tLoss := none, state := .locked, slewing := decide (sec ≠ 0) } s
      timCheckBound (fromHoldover (startAdj total (sec * 409200000) s))
    else
      let d := -e
      let at_ := ceilDiv (s.tim.now + 2 * tSec) tSec
      let s := wr Reg.TIM_STEP_NS (BitVec.ofInt 32 d) (wr Reg.TIM_STEP_AT_S (BitVec.ofNat 32 at_) s)
      let s := setTim { s.tim with tLoss := none, state := TimeState.stepPending, step := some ⟨d, at_⟩, stepNs := d, stepAt := at_,
                                   termEnd := none } s
      timCheckBound (fromHoldover s))

/-- Table 10.1: device time has reached t_loss + 2 s. Where the time state is mirrored, the active unit's alone enters HOLDOVER (R343). -/
def lossOver (s : State) : Bool :=
  match s.tim.tLoss with
  | some t => decide (t + ((2 * tSec : Nat) : Int) ≤ (s.tim.now : Int))
  | none => false

def execHoldoverEntry (s : State) : Out :=
  .next (if s.tim.mirror = none ∧ s.tim.state = .locked ∧ lossOver s = true then enterHoldover s else s)

/-- Table 10.1: no SIG_OK report for 2 s. -/
def execSigTimeout (s : State) : Out :=
  .next (match lastOk s with
    | some r =>
      if s.tim.now < r + 2 * tSec ∨ s.tim.mirror.isSome = true then s
      else match s.tim.state with
        | .locked => enterHoldover (sticky Reg.TIM_STICKY 5 (setTim { s.tim with tLoss := some (r : Int), u0 := s.tim.lastUnc } s))
        | .stepPending =>
          if s.tim.tLoss.isNone then
            timCheckBound (sticky Reg.TIM_STICKY 5 (setTim { s.tim with tLoss := some (r : Int), u0 := s.tim.lastUnc } s))
          else s
        | _ => s
    | none => s)

/-! ### Outputs -/

def execPpsEdge (n : Nat) (s : State) : Out := .next (if outputsOn s then ppsFire n s else s)

/-- R317, R319, Table 10.5: arming an output. While it is armed, a write that changes MODE or POL is refused. -/
def execTpEn (k : Nat) (w : Word) (s : State) : Out :=
  let cfg := rd s (Reg.TIM_TP_CFG k)
  let at_ := near32 s.tim.now (rd s (Reg.TIM_TP_AT_S k)).toNat (fld s (Reg.TIM_TP_AT_NS k) 29 0)
  let period := (rd s (Reg.TIM_TP_PERIOD k)).toNat * tNs
  let new := BitVec.ofNat 32 (bits w 2 0)
  .next (
    if !tpExists s k || !bitAt w 0 || !outputsOn s then s
    else if bitAt cfg 0 then (if bits w 2 1 = bits cfg 2 1 then s else timReject s)
    else if bitAt w 1 && decide ((rd s (Reg.TIM_TP_PERIOD k)).toNat ≤ (rd s (Reg.TIM_TP_WIDTH k)).toNat) then timReject s
    else if (s.tim.now : Int) ≤ at_ then wr (Reg.TIM_TP_CFG k) new (setTp k { tpOut s k with next := at_ } s)
    else if bitAt w 1 then
      sticky Reg.TIM_TP_STICKY k (wr (Reg.TIM_TP_CFG k) new (setTp k { tpOut s k with next := nextPeriodic at_ period s.tim.now } s))
    else sticky Reg.TIM_TP_STICKY k (wr (Reg.TIM_TP_CFG k) (setBits new 0 0 0) s))

def execTpPulse (k : Nat) (s : State) : Out := .next (if tpDue s k && outputsOn s then tpFire k s else s)

/-- R318: the trailing edge. Outputs 0 and 1 are PPS_OUT_n, output 2 + k is TP_k. -/
def execPulseWidthEnd (out : Nat) (s : State) : Out :=
  .next (
    if out < 2 then
      let e := Tab.get natDef s.tim.ppsEnd out
      if e ≠ 0 ∧ e ≤ s.tim.cycles then setTim { s.tim with ppsEnd := Tab.put natDef s.tim.ppsEnd out 0 } s else s
    else match (tpOut s (out - 2)).ending with
      | some e =>
        if e ≤ s.tim.cycles then emit (.tp (out - 2) (tpLevel s (out - 2) false)) (setTp (out - 2) { tpOut s (out - 2) with ending := none } s) else s
      | none => s)

/-! ### Steps -/

/-- R309 and Table 10.1: the step is made at S, by a STANDBY that mirrors STEP_PENDING too (R343). -/
def execStepInstant (s : State) : Out :=
  .next (match s.tim.step with
    | some p =>
      if timState s = .stepPending ∧ p.s * tSec ≤ s.tim.now then
        let s := edgesDue s
        let late := lossOver s && s.tim.mirror.isNone
        let d := p.d * (tNs : Int)
        let s := setTim { s.tim with step := none, termEnd := some (p.s + fld s Reg.TIM_HOLD_CFG 15 8),
                                     bb := ((s.tim.bb : Int) + d).toNat,
                                     mirror := s.tim.mirror.map (fun w => { w with state := .locked }) } s
        let s := moveTime ((s.tim.now : Int) + d).toNat s
        let s := record 0x31 0 (leBytes 4 (wrapInt 32 p.d) ++ leBytes 4 p.s) (sticky Reg.TIM_STICKY 1 s)
        if late then enterHoldover s else timCheckBound (setTim { s.tim with state := .locked } s)
      else s
    | none => s)

/-- R306: the step term leaves U at S + STEP_HOLD_S. -/
def execStepHoldEnd (s : State) : Out :=
  .next (match s.tim.termEnd with
    | some e => if e * tSec ≤ s.tim.now then timCheckBound (setTim { s.tim with termEnd := none } s) else s
    | none => s)

/-- R307. -/
def execBoundExceeded (s : State) : Out := .next (timCheckBound s)

/-! ### BB counter -/

/-- The bridge carries traffic: a silence that was declared is over (R25; assumption 144). -/
def bridgeHeard (s : State) : State := { s with ing := { s.ing with silent := false } }

/-- BB time is valid now (R24, R303): a load makes it invalid for the millisecond, of the BB counter, in which it falls. -/
def bbValid (s : State) : Bool :=
  s.tim.bbValid && !s.tim.syncLost &&
  (match s.tim.bbLoadMs with | some m => decide (m ≠ msIdx s.tim.bb) | none => true)

/-- Contexts that run carry BB_TIME_INVALID in the dump of the integration that contains this instant. -/
def markBbInvalid (s : State) : State :=
  { s with cor := { s.cor with ctx := s.cor.ctx.map (fun e => (e.1, if e.2.state = .run then { e.2 with bbInvalid := true } else e.2)) } }

/-- A signed number of ps in 2⁻³² ns, and back. -/
def psUnits (ps : Int) : Int := ps * (tNs : Int) / 1000
def unitsPs (t : Int) : Int := t * 1000 / (tNs : Int)

/-- A symbol loads the BB counter: what it marks, and the latency that has passed since (R303). -/
def bbLoad (mark lat : Nat) (s : State) : State :=
  let miss := rd s Reg.TIM_SYNC_MISS
  markBbInvalid (wr Reg.TIM_SYNC_MISS (setBits miss 31 16 (min (bits miss 31 16 + 1) 0xFFFF))
    (setTim { s.tim with syncLost := false, bbValid := true, bb := mark + lat, bbRemain := 0, bbCycles := 0,
                         bbLoadMs := some (msIdx (mark + lat)) } s))

/-- R303: the symbol of the millisecond that device time is in arrives. `driftPs` is how far BB's own Zenith instance has
carried its counter off this cycle's count since the symbol before. The bridge carries none while BB is out of lock (R379). -/
def execTimeSyncSymbol (driftPs : Int) (s : State) : Out :=
  let held := s.ing.held
  let old := s
  let s := setTim { s.tim with bb := ((s.tim.bb : Int) + psUnits driftPs).toNat } s
  let mark := msIdx s.tim.now * tMs
  let lat := (rd s Reg.TIM_BB_LAT).toNat * tNs / 1000
  let diff := (s.tim.bb : Int) - (lat : Int) - (mark : Int)
  let err := max (-2147483648) (min 2147483647 (unitsPs diff))
  let s := bridgeHeard (wr Reg.TIM_BB_ERR (BitVec.ofInt 32 err) (setTim { s.tim with missing := 0, syncMs := msIdx s.tim.now } s))
  .next (
    if held then old
    else if s.tim.syncLost || !s.tim.bbValid then bbLoad mark lat s
    else if diff.natAbs ≤ 16 * tNs then setTim { s.tim with bbRemain := -diff, bbCycles := 409200 } s
    else sticky Reg.TIM_STICKY 4 (bbLoad mark lat s))

/-- R24: one more symbol is corrupted or missing; the hundredth in a row makes BB time invalid. -/
def execBbSyncLost (s : State) : Out :=
  let miss := rd s Reg.TIM_SYNC_MISS
  let s := perf 0x18B 1 (wr Reg.TIM_SYNC_MISS (setBits miss 15 0 (min (bits miss 15 0 + 1) 0xFFFF)) s)
  let n := s.tim.missing + 1
  .next (
    if 100 ≤ n ∧ s.tim.syncLost = false then
      markBbInvalid (sticky Reg.TIM_STICKY 3 (setTim { s.tim with missing := n, syncLost := true } s))
    else setTim { s.tim with missing := n } s)

/-! ### Delay-step monitor -/

def timPort (s : State) (n : Nat) : TimPort := Tab.get timPortDef s.tim.port n
def setTimPort (n : Nat) (p : TimPort) (s : State) : State := setTim { s.tim with port := Tab.put timPortDef s.tim.port n p } s

/-- Eight times the difference of a component from its reference mean. -/
def diff8 (l : List Int) (x : Int) : Int := 8 * x - l.sum

/-- How an exchange (f, r) in ps compares with the means (R314): 0 not moved, 1 f moved, 2 r moved. -/
def movedBy (thNs : Nat) (p : TimPort) (x : Int × Int) : Nat :=
  let df := (diff8 (p.hist.map (·.1)) x.1).natAbs
  let dr := (diff8 (p.hist.map (·.2)) x.2).natAbs
  let th := 8000 * thNs
  if p.entered < 8 then 0
  else if th < df ∧ 2 * dr ≤ th then 1
  else if th < dr ∧ 2 * df ≤ th then 2
  else 0

/-- An exchange enters the means, and is published with the port's static asymmetry `asymPs` (R313). -/
def enterMeans (asymPs : Int) (x : Int × Int) (p : TimPort) : TimPort :=
  let d := (x.1 + x.2) / 2
  { p with hist := (p.hist ++ [x]).drop (p.hist.length + 1 - 8), entered := p.entered + 1, delay := d, outbound := d + asymPs,
           back := d - asymPs }

/-- Tests an exchange while no run is open. -/
def testFresh (th : Nat) (asymPs : Int) (asym : Bool) (x : Int × Int) (p : TimPort) : TimPort :=
  match movedBy th p x with
  | 0 => if asym then p else enterMeans asymPs x p
  | c => { p with runF := decide (c = 1), run := [x] }

/-- One exchange through the monitor (R314): the new port state, and the step in ns that it declares. -/
def monitor (th : Nat) (asymPs : Int) (asym : Bool) (x : Int × Int) (p : TimPort) : TimPort × Option Nat :=
  if p.run.isEmpty then (testFresh th asymPs asym x p, none)
  else if movedBy th p x = (if p.runF then 1 else 2) then
    let run := p.run ++ [x]
    if run.length < 3 then ({ p with run := run }, none)
    else
      let d := if p.runF then (run.map (fun y => diff8 (p.hist.map (·.1)) y.1)).sum
               else (run.map (fun y => diff8 (p.hist.map (·.2)) y.2)).sum
      ({ p with run := [] }, some (ceilDiv d.natAbs 24000))
  else
    let p' := if asym then p else p.run.foldl (fun p y => enterMeans asymPs y p) p
    (testFresh th asymPs asym x { p' with run := [] }, none)

/-- R313 and R314, times in ps: t1 and t4 of the device, t2 and t3 of the partner. -/
def execPeerDelayExchange (n : Nat) (t1 t2 t3 t4 : Int) (s : State) : Out :=
  let asym := bitAt (stk s (Reg.TIM_PORT_STICKY n)) 0
  let r := monitor (fld s (Reg.TIM_PORT_STEP_CFG n) 15 0) (signed 32 (rd s (Reg.TIM_PORT_ASYM n)).toNat) asym (t2 - t1, t4 - t3) (timPort s n)
  .next (
    if !portPowered s n then s
    else match r.2 with
      | none => setTimPort n r.1 s
      | some st =>
        let st := if asym then max st r.1.step else st
        record 0x32 n (leBytes 4 st) (sticky (Reg.TIM_PORT_STICKY n) 0 (setTimPort n { r.1 with step := st } s)))

/-- R315. -/
def execPathAsymClear (n : Nat) (s : State) : Out :=
  .next (
    if gradePorts s ≤ n || !bitAt (stk s (Reg.TIM_PORT_STICKY n)) 0 then s
    else unstick (Reg.TIM_PORT_STICKY n) 0 (setTimPort n { timPort s n with hist := [], entered := 0, run := [], step := 0 } s))

/-! ### Reading the counter, the RTC -/

/-- A read of TIM_NOW_FRAC (SNAP): it captures NS, S_LO and S_HI. -/
def execTimNowCapture (s : State) : Out :=
  let c (a v : Nat) (t : Tab Word) : Tab Word := Tab.put RegMap.reset t a (BitVec.ofNat 32 v)
  .next { s with bank := { s.bank with capt := c Reg.TIM_NOW_NS (subNs s.tim.now) (c Reg.TIM_NOW_S_LO (secOf s.tim.now)
    (c Reg.TIM_NOW_S_HI (secOf s.tim.now / 2 ^ 32 % 2 ^ 16) s.bank.capt)) } }

/-- R451: while LOCKED, at every whole second. -/
def execRtcLoad (s : State) : Out :=
  let sec := secOf s.tim.now
  .next (
    if timState s = .locked ∧ s.tim.rtcSec < sec then
      { s with tim := { s.tim with rtcSec := sec }, key := { s.key with rtcSec := BitVec.ofNat 48 sec, rtcSub := BitVec.ofNat 15 (subNs s.tim.now * 32768 / 1000000000), rtcAcc := 0 } }
    else s)

end Sys2Proof.Machine
end

