-- ==== Sys2Proof/Machine/Nightfall.lean ====
section
/-! DEFINITION. The commands of Nightfall (chapter 9): inputs and monitors of the SAFE island, triggers, the frame
schedule, arming and release. -/
namespace Sys2Proof.Machine

/-! ### Inputs, outputs and monitors -/

/-- R270: channel `ch` (0 A, 1 B) has been unhealthy for DEBOUNCE. A reset of the SAFE island starts the debounce of an open channel
again. -/
def execStopInDebounce (ch : Nat) (s : State) : Out :=
  let n := s.nfl
  .next (
    if (ch = 0 ∧ n.tripA = false) ∨ (ch = 1 ∧ n.tripB = false) then
      let a := n.inA && decide (ch ≠ 0)
      let b := n.inB && decide (ch ≠ 1)
      nfTrigger 1 (setNfl { n with inA := a, inB := b, tripA := n.tripA || decide (ch = 0), tripB := n.tripB || decide (ch = 1),
                                   changedAt := if a = n.inA ∧ b = n.inB then n.changedAt else s.tim.cycles,
                                   bothOpen := n.bothOpen || (n.disc && !a && !b) } s)
    else s)

/-- R271: a channel is healthy again; a discrepancy ends once both have been unhealthy together and are
healthy together. -/
def execStopInHealthy (ch : Nat) (s : State) : Out :=
  let n := s.nfl
  .next (
    if (ch = 0 ∧ n.inA = false) ∨ (ch = 1 ∧ n.inB = false) then
      let a := n.inA || decide (ch = 0)
      let b := n.inB || decide (ch = 1)
      let ends := n.disc && n.bothOpen && a && b
      setNfl { n with inA := a, inB := b, tripA := n.tripA && decide (ch ≠ 0), tripB := n.tripB && decide (ch ≠ 1),
                      changedAt := s.tim.cycles, disc := n.disc && !ends, bothOpen := n.bothOpen && !ends } s
    else s)

/-- R271: one channel healthy, the other not, for DISC_MS. -/
def execDiscrepancy (s : State) : Out :=
  let n := s.nfl
  .next (
    if n.inA ≠ n.inB ∧ n.disc = false ∧ n.changedAt + cycMs (fld s Reg.NFL_CFG 23 16) ≤ s.tim.cycles then
      sticky Reg.NFL_STICKY 1 (setNfl { n with disc := true, bothOpen := false } s)
    else s)

/-- R273: channel `ch`'s feedback has differed from its command for FB_WINDOW_MS. -/
def execFbFault (ch : Nat) (s : State) : Out :=
  let n := s.nfl
  .next (
    if ch < 2 then
      nfTrigger 10 (sticky Reg.NFL_STICKY 2 (setNfl { n with fbFault := true, fbA := if ch = 0 then !n.outA else n.fbA,
                                                             fbB := if ch = 1 then !n.outB else n.fbB } s))
    else s)

/-- R269: the latches differ for two cycles. -/
def execLatchMismatch (s : State) : Out :=
  .next (nfTrigger 9 (setNfl { nfDrive false false s.nfl with latchFault := true } s))

/-- R295: the clock cross-check fails. -/
def execClockCrossCheck (s : State) : Out := .next (nfTrigger 9 (setNfl { s.nfl with clockFault := true } s))

/-- R272, R295: the SAFE rail leaves its range: the outputs are undriven, low. -/
def execSafeSupplyMonitor (s : State) : Out := .next (setNfl { s.nfl with supplyOk := false } s)

/-- R272: the SAFE rail is back: the island drives the outputs again. -/
def execSafeSupplyRestored (s : State) : Out := .next (setNfl { s.nfl with supplyOk := true } s)

/-- The levels at NF_OUT_A and NF_OUT_B (R272): high only when commanded deasserted and driven. -/
def nfOutA (s : State) : Bool := s.nfl.outA && s.nfl.supplyOk && decide (s.crp.mode ≠ .dormant)
def nfOutB (s : State) : Bool := s.nfl.outB && s.nfl.supplyOk && decide (s.crp.mode ≠ .dormant)

/-- R279. -/
def execNflWdgKick (w : Word) (s : State) : Out :=
  let n := s.nfl
  .next (
    if w = (if n.wdgOdd then 0xA5A55A5A else 0x5A5AA5A5) then
      let run := n.wdgRun + 1
      let ends := n.wdgExpired && decide (3 ≤ run)
      setNfl { n with wdgStarted := true, wdgOdd := !n.wdgOdd, wdgLast := s.tim.cycles,
                      wdgRun := if n.wdgExpired && !ends then run else 0, wdgExpired := n.wdgExpired && !ends } s
    else setNfl { n with wdgRun := 0 } s)

/-- R279: no correct kick for WDG_MS; suspended in SNAPSHOT. -/
def execWatchdogExpiry (s : State) : Out :=
  let n := s.nfl
  .next (
    if n.wdgStarted = true ∧ s.crp.mode ≠ .snapshot ∧ n.wdgLast + cycMs (fld s Reg.NFL_TIMING 17 8) ≤ s.tim.cycles then
      nfTrigger 8 (setNfl { n with wdgStarted := false, wdgExpired := true, wdgRun := 0 } s)
    else s)

/-- R277: the KEY_LOSS timer reaches KEY_GRACE. -/
def execKeyGraceExpiry (s : State) : Out := .next (keyGrace s)

/-- R275: a write of NFL_TRIGGER. -/
def execNflTrigger (w : Word) (s : State) : Out :=
  .next (if bitAt w 0 then nfTellPeer 2 (nfTriggerWith 2 (leBytes 1 (bits w 15 8)) s) else s)

/-! ### NIGHTFALL frames -/

/-- The frame of a latch for one port (R158, R282, R283, R507). -/
def nfQueue (k : Nat) (s : State) (n : Nat) : State :=
  if !nfEn s n || decide (gradePorts s ≤ n) || !netMode s || decide (s.crp.mode = .standby) || !isActive s then s
  else if !portServes s n then inc (Reg.NFL_CNT 2) 1 s
  else
    let s := if portRuns s n && (netPort s n).link then s else missNightfall n s
    let t := s.nfl.trig
    let body := leBytes 4 s.nfl.latchId ++ leBytes 1 s.nfl.first ++ zeros 1 ++ leBytes 2 (min k 65535)
    let p := buildAll n 5 (epochS t) (epochNs t) .nightfall k (some ((launchOf t k : Nat) : Int)) body s
    (enqueue n 0 p.1 p.2).1

/-- R282: frame k, built 100 µs before its launch (assumption 15), while LATCHED or ARMED. -/
def execNightfallFrameDue (s : State) : Out :=
  let k := s.nfl.nextK
  .next (
    if nfSet s && decide (launchOf s.nfl.trig k ≤ s.tim.now + 100 * tUs) then
      mirrorNfl (setNfl { s.nfl with nextK := k + 1 } s |> fun s => (List.range 4).foldl (nfQueue k) s)
    else s)

/-! ### Release -/

/-- The unit counts as active for arming and release (R285, R290, R409). -/
def nfUnitActive (s : State) : Bool := isActive s && decide (s.crp.mode ≠ .survey) && decide (s.crp.mode ≠ .standby)

/-- LATCH_LO matches (R285). -/
def latchLo (s : State) (w : Word) : Bool := decide (bits w 15 0 = s.nfl.latchId % 65536)

/-- A trigger has come in this SAFE cycle (R284). -/
def triggerNow (s : State) : Bool := decide (s.nfl.trigCycle = some (safeCycle s))

/-- A command is refused, with the latch state as it was; a trigger of its SAFE cycle makes the reason 6. -/
def refuseNoted (command reason machine : Nat) (s : State) : State := noteRow (.refused command) machine (nfRefuse command reason machine s)

/-- The arm window has ended in this SAFE cycle: its commands, which come before that end in Table 9.4, meet ARMED. -/
def endedNow (s : State) : Bool :=
  decide (s.nfl.latch = .latched) && (rowsNow s).any (fun c => match c.row with | .windowEnd _ => true | _ => false)

/-- R285. -/
def execNflArm (w : Word) (s : State) : Out :=
  .next (
    if triggerNow s then nfRefuse 1 6 0 s
    else if s.nfl.latch ≠ .latched ∨ endedNow s = true then refuseNoted 1 1 0 s
    else if !nfUnitActive s then refuseNoted 1 8 0 s
    else if !latchLo s w then refuseNoted 1 2 0 s
    else mirrorNfl (noteRow .arm 0 (setNfl { s.nfl with latch := .armed, armAt := s.tim.now } s)))

/-- A RELEASE body (Table 5.13). -/
def releaseBody (id : Nat) (fleet : Bool) : List Byte := leBytes 4 id ++ leBytes 1 (b2n fleet) ++ zeros 3

/-- One RELEASE frame to the fleet on a port (R289). Its number, LATCH_ID + 1, tells it from one to a machine, which has 0. -/
def fleetRelease (id : Nat) (s : State) (n : Nat) : State :=
  if !nfEn s n || !portServes s n || decide (s.crp.mode = .standby) || plpStopped s then s
  else if !nfKeyUsable s n then sticky (Reg.NET_STICKY n) 3 s
  else
    let p := buildAll n 6 (epochS s.tim.now) (epochNs s.tim.now) .release (id + 1) none (releaseBody id true) s
    (enqueue n 3 p.1 p.2).1

/-- One RELEASE frame to a machine (R290). -/
def machRelease (m id : Nat) (s : State) : State :=
  (sendMach m 3 6 (epochS s.tim.now) (epochNs s.tim.now) .release 0 (releaseBody id false) s).1

/-- The frame schedule ends: frames not yet sent leave Q0. -/
def endSchedule (s : State) : State :=
  (List.range 4).foldl (fun s n => let p := netPort s n; setPort n { p with q0 := dropKind .nightfall p.q0 } s) s

/-- Every held machine is released at this instant (R289): state IDLE, recorder entry, first RELEASE frames. -/
def releaseFleet (keep : Bool) (s : State) : State :=
  let t := s.tim.now
  let s := setNfl { s.nfl with latch := .idle, held := 0, relFleetAt := t, relAt := if keep then s.nfl.relAt else [],
                               fleetRel := some ⟨s.nfl.latchId, 1, t + 100 * tMs⟩ } s
  let s := record 0x2A s.nfl.latchId (timeBytes t ++ leBytes 1 1) s
  mirrorNfl ((List.range 4).foldl (fleetRelease s.nfl.latchId) s)

/-- A confirm takes effect (R287, Table 9.4). -/
def confirmEffect (fleet : Bool) (s : State) : State :=
  let s := endSchedule (setNfl { nfDrive true true s.nfl with confirm := none, relAt := [] } s)
  if fleet then releaseFleet false s else mirrorNfl (setNfl { s.nfl with latch := .selective } s)

/-- The reason of the first failing condition of R286; 0 when all hold. -/
def confirmReason (w : Word) (s : State) : Nat :=
  if s.nfl.armAt + 10 * tSec ≤ s.tim.now then 3
  else if !latchLo s w then 2
  else if !s.nfl.inA || !s.nfl.inB || s.nfl.disc then 4
  else if s.nfl.fbA || s.nfl.fbB then 5
  else if nfActive s ≠ 0 then 6
  else if bitAt w 16 && (List.range (gradePorts s)).any (fun n => nfEn s n && !nfKeyUsable s n) then 7
  else 0

/-- A peer is in service for a release: a ready standby (R287, R332; assumption 16). -/
def peerServes (s : State) : Bool :=
  s.pai.pair && s.pai.pathA.ok && (match s.pai.peer with | some p => decide (p.flags / 4 % 2 = 1) | none => false)

/-- A confirm that fails R286 with reason `r` returns the state to LATCHED. -/
def confirmFails (r : Nat) (s : State) : State :=
  let new := decide (r = 3) && !bitAt (stk s Reg.NFL_STICKY) 4
  let s := if r = 3 then sticky Reg.NFL_STICKY 4 s else s
  mirrorNfl (noteRow (.confirmFailed new) 0 (nfRefuse 2 r 0 (setNfl { s.nfl with latch := .latched, confirm := none } s)))

/-- R286, R287 and Table 9.4. A unit that is not active neither releases nor moves the latch that it mirrors (R30; assumption 219). -/
def execNflConfirm (w : Word) (s : State) : Out :=
  .next (if triggerNow s then nfRefuse 2 6 0 s else if endedNow s then refuseNoted 2 3 0 s else match s.nfl.latch with
    | .armed =>
      let r := confirmReason w s
      if !isActive s then refuseNoted 2 8 0 s
      else if r ≠ 0 then confirmFails r s
      else if peerServes s then mirror (.release s.nfl.latchId) (setNfl { s.nfl with confirm := some (bitAt w 16, s.tim.now) } s)
      else noteRow .confirm 0 (confirmEffect (bitAt w 16) s)
    | .selective =>
      if !bitAt w 16 then refuseNoted 2 1 0 s
      else if !isActive s then refuseNoted 2 8 0 s
      else if !latchLo s w then refuseNoted 2 2 0 s
      else noteRow .confirmSelective 0 (releaseFleet true s)
    | _ => refuseNoted 2 1 0 s)

/-- R287: the peer acknowledges the mirrored release within 2 ms of the write. -/
def execReleaseAcknowledged (s : State) : Out :=
  .next (match s.nfl.confirm with
    | some (fleet, t) => if s.tim.now ≤ t + 2 * tMs then noteRow .confirm 0 (confirmEffect fleet s) else s
    | none => s)

/-- R287: 2 ms without the acknowledgement. -/
def execConfirmAckTimeout (s : State) : Out :=
  .next (match s.nfl.confirm with
    | some (_, t) =>
      if t + 2 * tMs ≤ s.tim.now then mirrorNfl (nfRefuse 2 10 0 (setNfl { s.nfl with latch := .latched, confirm := none } s)) else s
    | none => s)

/-- R284: the arm window ends. -/
def execArmWindowEnd (s : State) : Out :=
  .next (
    if s.nfl.latch = .armed ∧ s.nfl.confirm = none ∧ s.nfl.armAt + 10 * tSec ≤ s.tim.now then
      let new := !bitAt (stk s Reg.NFL_STICKY) 4
      mirrorNfl (noteRow (.windowEnd new) 0 (sticky Reg.NFL_STICKY 4 (setNfl { s.nfl with latch := .latched } s)))
    else s)

/-- A machine with GEN ≠ 0 is still held. -/
def anyConfiguredHeld (s : State) : Bool :=
  s.mach.any (fun e => decide (e.2.entry.gen ≠ 0) && decide (e.1 < gradeMachines s) && s.nfl.held.getLsbD e.1)

/-- R290. -/
def execNflMrel (w : Word) (s : State) : Out :=
  let m := bits w 9 0
  .next (
    if !bitAt w 31 then s
    else if triggerNow s then nfRefuse 3 6 m s
    else if s.nfl.latch ≠ .selective then refuseNoted 3 1 m s
    else if !nfUnitActive s then refuseNoted 3 8 m s
    else if gradeMachines s ≤ m ∨ (mach s m).entry.gen = 0 ∨ nfHeld s m = false then refuseNoted 3 9 m s
    else if !keyUsable s (txSlot (mach s m).entry) 0 then refuseNoted 3 7 m s
    else
      let t := s.tim.now
      let n := s.nfl
      let s := setNfl { n with held := n.held &&& ~~~(BitVec.ofNat 1024 (2 ^ m)), relAt := Tab.put natDef n.relAt m t,
                               machRel := Tab.ins n.machRel m ⟨n.latchId, 1, t + 100 * tMs⟩ } s
      let s := noteRow .mrel m (machRelease m n.latchId s)
      mirrorNfl (if anyConfiguredHeld s then s else setNfl { s.nfl with latch := .idle, held := 0, relFleetAt := t } s))

/-- The unicast RELEASE run of one machine comes round: another frame, or the end without an ACK. -/
def resendMach (s : State) (e : Nat × RelRun) : State :=
  if s.tim.now < e.2.next then s
  else if 10 ≤ e.2.sent then inc (Reg.NFL_CNT 7) 1 (setNfl { s.nfl with machRel := Tab.del s.nfl.machRel e.1 } s)
  else machRelease e.1 e.2.id (setNfl { s.nfl with machRel := Tab.ins s.nfl.machRel e.1 ⟨e.2.id, e.2.sent + 1, e.2.next + 100 * tMs⟩ } s)

/-- R289, R290: every 100 ms, ten in all. -/
def execReleaseResend (s : State) : Out :=
  let s := match s.nfl.fleetRel with
    | some r =>
      if s.tim.now < r.next then s
      else
        let s := setNfl { s.nfl with fleetRel := if 9 ≤ r.sent then none else some ⟨r.id, r.sent + 1, r.next + 100 * tMs⟩ } s
        mirrorNfl ((List.range 4).foldl (fleetRelease r.id) s)
    | none => s
  .next (s.nfl.machRel.foldl resendMach s)

/-- The release instant of a machine (R237, R288). -/
def releaseInstant (s : State) (m : Nat) : Nat :=
  match s.nfl.relAt.find? (fun e => e.1 = m) with | some e => e.2 | none => s.nfl.relFleetAt

/-- The ACK of a unicast RELEASE ends its run (R290). -/
def releaseAcked (m id : Nat) (s : State) : State :=
  match s.nfl.machRel.find? (fun e => e.1 = m) with
  | some e => if e.2.id = id then setNfl { s.nfl with machRel := Tab.del s.nfl.machRel m } s else s
  | none => s

/-- A STATUS with NIGHTFALL_SEEN after the machine's release: one unicast RELEASE, at most once per second
(R290). -/
def seenRelease (m : Nat) (seen : Bool) (s : State) : State :=
  if !seen then setNfl { s.nfl with seenRel := Tab.del s.nfl.seenRel m } s
  else if nfHeld s m || !isActive s then s
  else match s.nfl.seenRel.find? (fun e => e.1 = m) with
    | some e =>
      if s.tim.now < e.2 + tSec then s
      else machRelease m s.nfl.latchId (setNfl { s.nfl with seenRel := Tab.ins s.nfl.seenRel m s.tim.now } s)
    | none => machRelease m s.nfl.latchId (setNfl { s.nfl with seenRel := Tab.ins s.nfl.seenRel m s.tim.now } s)

end Sys2Proof.Machine
end

