-- ==== Sys2Proof/Machine/JobOps.lean ====
section
/-! DEFINITION. The dispatcher's shared operations (R243 to R255): entering, choosing, replacing and completing jobs;
intake. -/
namespace Sys2Proof.Machine

def setDsp (d : Dsp) (s : State) : State := { s with dsp := d }

/-- Jobs held, in service and queued together. -/
def held (s : State) : Nat := s.dsp.jobs.length

/-- The executor of a kind (Table 8.1): parser clusters, fix engines, ledger path, encoders, system cores, task
board, command unit. -/
def executor (k : JobKind) : Nat :=
  match k with
  | .parse => 0
  | .fix | .fixRetry => 1
  | .halo | .lapse | .ledger => 2
  | .encode => 3
  | .snapSolve => 4
  | .allot | .taskCmd => 5
  | .hostCmd => 6

/-- The Concurrent column of Table 8.1; fix engines run one job each. -/
def executorRoom (s : State) (e : Nat) : Nat :=
  match e with | 0 => 16 | 1 => gradeEngines s | 2 => 64 | 3 => 16 | 4 => 8 | 5 => 1 | _ => 4

/-- Code of a kind (Table 8.1). -/
def kindCode (k : JobKind) : Nat :=
  match k with
  | .parse => 0 | .fix => 1 | .fixRetry => 2 | .halo => 3 | .lapse => 4 | .ledger => 5 | .encode => 6
  | .snapSolve => 7 | .allot => 8 | .taskCmd => 9 | .hostCmd => 10

/-- The level in force for a kind; host jobs take their ring's (R250). -/
def levelFor (s : State) (k : JobKind) (ring : Nat) : Nat :=
  match k with
  | .parse => fld s Reg.DSP_LEVEL 2 0
  | .fix => fld s Reg.DSP_LEVEL 6 4
  | .fixRetry => 1
  | .halo | .lapse => 0
  | .encode => fld s Reg.DSP_LEVEL 10 8
  | .snapSolve => fld s Reg.DSP_LEVEL 14 12
  | .allot => fld s Reg.DSP_LEVEL 18 16
  | .ledger | .taskCmd | .hostCmd => fld s (Reg.DSP_RING_CFG ring) 10 8

/-- Jobs held in a flow. -/
def flowJobs (s : State) (f : Nat) : List Job := s.dsp.jobs.filter (fun j => j.flow = f)

/-- INTAKE_MAX (R252). -/
def intakeMax (s : State) : Nat := fld s Reg.DSP_CTRL 13 0

/-- The dispatcher accepts intake jobs (R252, R253). -/
def intakeOpen (s : State) : Bool := !s.dsp.intakeOff && decide (held s < intakeMax s)

/-- The held count has changed: the maximum, and the intake stop (R253). -/
def heldChanged (s : State) : State :=
  let h := held s
  let s := if (rd s Reg.DSP_HELD_MAX).toNat < h then wr Reg.DSP_HELD_MAX (BitVec.ofNat 32 h) s else s
  if intakeMax s ≤ h && !s.dsp.intakeOff then
    stickyCount Reg.DSP_STICKY 0 (Reg.DSP_CNT 2) (setDsp { s.dsp with intakeOff := true, offAt := s.tim.cycles } s)
  else s

/-- A job enters the dispatcher at the tail of its flow. -/
def addJob (kind : JobKind) (flow level : Nat) (stamp tRx : Int) (gate : Option Int) (work : JobWork) (cmd : Option Cmd)
    (s : State) : State :=
  let j : Job := ⟨s.dsp.nextId, kind, flow, level, stamp, false, none, none, gate, tRx, work, cmd⟩
  perf 0x150 1 (inc (Reg.DSP_CNT 0) 1 (heldChanged
    (setDsp { s.dsp with jobs := s.dsp.jobs ++ [j], nextId := s.dsp.nextId + 1 } s)))

/-- Changes a held job. -/
def updJob (id : Nat) (f : Job → Job) (s : State) : State :=
  setDsp { s.dsp with jobs := s.dsp.jobs.map (fun j => if j.id = id then f j else j) } s

/-- A job hands its entry to its successor: the head of the flow, with the same stamp (R246, R247). -/
def succeed (id : Nat) (kind : JobKind) (gate : Option Int) (excluded : Option Nat) (work : JobWork) (s : State) : State :=
  perf 0x151 1 (inc (Reg.DSP_CNT 1) 1 (perf 0x150 1 (inc (Reg.DSP_CNT 0) 1
    (updJob id (fun j => { j with kind := kind, level := levelFor s kind 0, inService := false, engine := none,
                                  excluded := excluded, gate := gate, work := work }) s))))

/-- A command of ring `r` taken before job number `n` is still held. -/
def ringOlder (s : State) (r n : Nat) : Bool :=
  s.dsp.jobs.any (fun j => decide (j.id < n) && (match j.cmd with | some c => decide (c.ring = r) && !c.dead | none => false))

/-- Refused commands whose ring's earlier commands have completed complete now (R361). -/
def flushLate (s : State) : State :=
  let due := s.dsp.late.filter (fun l => !ringOlder s l.cmd.ring l.next)
  due.foldl (fun s l => complete l.cmd l.code l.detail s)
    (setDsp { s.dsp with late := s.dsp.late.filter (fun l => ringOlder s l.cmd.ring l.next) } s)

/-- A job completes and leaves. -/
def endJob (id : Nat) (s : State) : State :=
  flushLate <| perf 0x151 1 (inc (Reg.DSP_CNT 1) 1 (setDsp { s.dsp with jobs := s.dsp.jobs.filter (fun j => j.id ≠ id) } s))

/-- The effective level of a flow's head: the lowest level among its queued jobs, one in service included (R245). -/
def effLevel (s : State) (f : Nat) : Nat := (flowJobs s f).foldl (fun m j => min m j.level) 7

/-- Executor `e` has room. -/
def hasRoom (s : State) (e : Nat) : Bool :=
  decide ((s.dsp.jobs.filter (fun j => j.inService && decide (executor j.kind = e))).length < executorRoom s e)

/-- The kinds that run in this mode (R256). -/
def kindRuns (s : State) (k : JobKind) : Bool :=
  match s.crp.mode, k with
  | .standby, .parse | .standby, .fix | .standby, .fixRetry | .standby, .halo | .standby, .encode => false
  | _, _ => true

/-- A job of the same ring entered before this one: jobs of one ring are served in its order, over a write of its FLOW too (R251). -/
def ringBefore (s : State) (j : Job) : Bool :=
  match j.cmd with
  | some c => s.dsp.jobs.any (fun i => decide (i.id < j.id) && (match i.cmd with | some d => decide (d.ring = c.ring) | none => false))
  | none => false

/-- A job is eligible (R244, R248). -/
def eligible (s : State) (j : Job) : Bool :=
  !j.inService && !ringBefore s j && kindRuns s j.kind && hasRoom s (executor j.kind) &&
  (match j.gate with | some t => decide (t ≤ (s.tim.now : Int)) | none => true) &&
  (match flowJobs s j.flow with | h :: _ => decide (h.id = j.id) | [] => false)

/-- One job is chosen before another (R245). -/
def jobBefore (s : State) (a b : Job) : Bool :=
  let la := effLevel s a.flow
  let lb := effLevel s b.flow
  decide (la < lb) || (decide (la = lb) && (decide (a.stamp < b.stamp) || (decide (a.stamp = b.stamp) && decide (a.flow < b.flow))))

/-- The job that an executor takes next among those that satisfy `ok` (R245). -/
def pickJob (s : State) (e : Nat) (ok : Job → Bool) : Option Job :=
  ((s.dsp.jobs.filter (fun j => decide (executor j.kind = e) && eligible s j && ok j))).foldl
    (fun b j => match b with | none => some j | some b => some (if jobBefore s j b then j else b)) none

/-- Counts a head job served at an inherited level (DSP_CNT_5). -/
def countInherited (j : Job) (s : State) : State :=
  if effLevel s j.flow < j.level then inc (Reg.DSP_CNT 5) 1 s else s

/-- Runs `body` on the job that executor `e` takes next, where it is one that the command is about. -/
def withJob (e : Nat) (is : Job → Bool) (body : Job → State → State) (s : State) : State :=
  match pickJob s e (fun _ => true) with
  | some j => if is j then body j (countInherited j s) else s
  | none => s

/-- The instant of a frame's or report's epoch, nearest to now, in ns. -/
def epochOf (s : State) (es ens : Nat) : Int := near32 s.tim.now es ens / (tNs : Int)

/-! ### Intake order (R253) -/

/-- A command ring has an entry that it could give: it runs, DMA is allowed, its completion ring has room (R360)
and its flow holds fewer than 256 jobs (R251). -/
def ringReady (s : State) (r : Nat) : Bool :=
  let x := ioRing s.io r
  let c := ioRing s.io (ringCpl x)
  ringRuns 1 x && !s.io.dmaHeld && decide (ringFill x ≠ 0) && decide (ringFill c + c.owed < ringSize c) &&
  decide ((flowJobs s (1088 + fld s (Reg.DSP_RING_CFG r) 5 0)).length < 256)

/-- The intake sources that wait: ports 0 to 3, then 4 + ring. -/
def intakeWaiting (s : State) : List Nat :=
  ((List.range 4).filter (fun n => portServes s n && !(netPort s n).fifo.isEmpty)) ++
  ((s.io.ring.map (·.1)).filter (ringReady s)).map (· + 4)

/-- It is the turn of source `src` in the round: no other waiting source lies between the one served last and it. -/
def intakeTurn (s : State) (src : Nat) : Bool :=
  let d (x : Nat) : Nat := (x + 260 - s.dsp.cursor - 1) % 260
  (intakeWaiting s).all (fun x => decide (d src ≤ d x))

/-- The source served last. -/
def intakeServed (src : Nat) (s : State) : State := setDsp { s.dsp with cursor := src } s

end Sys2Proof.Machine
end

