-- ==== Sys2Proof/Machine/Ptp.lean ====
section
/-! DEFINITION. IEEE 1588 frames of the time core: the fields that the spec gives them (R311, Table 10.4), their place in
queue Q1 (R146), one-step insertion (R139, R312) and their completions. The field places inside a message are those of
IEEE 1588-2019 (assumption 163). -/
namespace Sys2Proof.Machine

/-- Replaces the bytes from an offset on. -/
def splice (o : Nat) (new bs : List Byte) : List Byte := bs.take o ++ new ++ bs.drop (o + new.length)

/-- The message type of a PTP message. -/
def ptpType (m : List Byte) : Nat := leAt m 0 1 % 16

/-- The smallest code whose bound is at least `u` ns: codes 0x17 (1 ps) to 0x30 (10 s), 0x31 beyond. Of the codes below 1 ns only the
first is the smallest for a whole number of ns: that of 0. -/
def accuracyCode (u : Nat) : Nat :=
  let bounds10 : List Nat :=
    [10, 25, 100, 250, 1000, 2500, 10000, 25000, 100000, 250000, 1000000, 2500000, 10000000, 25000000, 100000000, 250000000,
     1000000000, 2500000000, 10000000000, 100000000000]
  if u = 0 then 0x17 else 0x1D + (bounds10.filter (fun b => decide (b < 10 * u))).length

/-- Announce clockClass, clockAccuracy and timeSource (Table 10.4). -/
def clockClass (s : State) : Nat :=
  match timState s with
  | .locked | .stepPending => 6
  | .holdover => if aboveBound s then 52 else 7
  | .free => 248
def clockAccuracy (s : State) : Nat := match timUnc s with | some u => accuracyCode u | none => 0xFE
def timeSource (s : State) : Nat := if timState s = .holdover then 0xA0 else 0x20

/-- The step TLV while a step is announced and until S + STEP_HOLD_S (R309, Table 10.4). -/
def stepTlv (s : State) : List Byte :=
  let held := match s.tim.termEnd with | some e => decide (s.tim.now < e * tSec) | none => false
  if s.tim.step.isSome || held then
    beBytes 2 0x0003 ++ beBytes 2 16 ++ beBytes 3 (fld s Reg.TIM_PTP_CFG 23 0) ++ beBytes 3 1 ++ beBytes 6 s.tim.stepAt ++
    beBytes 4 (s.tim.stepNs % 2 ^ 32).toNat
  else []

/-- An Announce message with what Table 10.4 gives it; any other message as the time core formed it. -/
def ptpMessage (s : State) (m : List Byte) : List Byte :=
  if ptpType m ≠ 0xB then m
  else
    let tlv := stepTlv s
    let flags := (leAt m 7 1 / 16 * 16) + leAt m 7 1 % 4 + 8 + 4 * b2n (flag s Reg.REF_TIME_CFG 16)
    let m := splice 2 (beBytes 2 (64 + tlv.length)) (padTo 64 m)
    let m := splice 7 [BitVec.ofNat 8 flags] m
    let m := splice 44 (beBytes 2 (fld s Reg.REF_TIME_CFG 7 0)) m
    let m := splice 48 [BitVec.ofNat 8 (clockClass s), BitVec.ofNat 8 (clockAccuracy s)] m
    splice 63 [BitVec.ofNat 8 (timeSource s)] m ++ tlv

/-- A one-step stamp in a message (R312): t_tx into originTimestamp of a Sync, added to correctionField of a Pdelay_Resp
(in units of 2⁻¹⁶ ns). -/
def stampMessage (t : Nat) (m : List Byte) : List Byte :=
  if ptpType m = 0 then splice 34 (beBytes 6 (secOf t) ++ beBytes 4 (subNs t)) m
  else if ptpType m = 3 then splice 8 (beBytes 8 ((beAt m 8 8 + t / 65536) % 2 ^ 64)) m
  else m

/-- The two octets that bring a ones' complement sum from `new` back to `old`. -/
def padOctets (odd : Bool) (old new : Nat) : List Byte :=
  let p := beBytes 2 (fold16 (old + (65535 - new)))
  if odd then p.reverse else p

/-- The bytes of a one-step frame with its stamp (Table 5.1). -/
def oneStepBytes (t : Nat) (k : PtpMark) (bytes : List Byte) : List Byte :=
  let m := (bytes.drop k.off).take k.len
  let m' := stampMessage t m
  let out := splice k.off m' bytes
  match k.transport with
  | .ethernet => out
  | .udp4 => splice (k.off - 2) [0, 0] out
  | .udp6 =>
    let odd := decide (k.len % 2 = 1)
    splice (k.off + k.len) (padOctets odd (onesSum (m ++ (bytes.drop (k.off + k.len)).take 2)) (onesSum m')) out

/-- A queued frame as its start passes the port now (R139, R312). -/
def sentFrame (s : State) (n : Nat) (f : TxFrame) : List Byte :=
  match f.ptp with
  | some k => if k.oneStep && flag s (Reg.NET_CTRL n) 4 then oneStepBytes (tTx s n) k f.bytes else f.bytes
  | none => f.bytes

/-- What leaves the port for it: the frame and its check sequence (R364). -/
def sentBytes (s : State) (n : Nat) (f : TxFrame) : List Byte := sentFrame s n f ++ frameCheck (sentFrame s n f)

/-- The timestamp in a PTP frame's completion (Table 5.1): t_tx of an event frame with TWO_STEP or of a stamped one-step
frame; zero for a one-step request with ONE_STEP clear; otherwise none. -/
def ptpStamp (s : State) (n : Nat) (k : PtpMark) (t : Nat) : Option Nat :=
  if k.oneStep then (if flag s (Reg.NET_CTRL n) 4 then some t else some 0)
  else if k.event && flag s (Reg.NET_CTRL n) 5 then some t
  else none

/-- The frame that carries a message of the time core over its transport (Table 10.4, R148). -/
def ptpFrame (s : State) (n : Nat) (p : PtpSend) : TxFrame :=
  let m := ptpMessage s p.message
  let port := if p.event then 319 else 320
  let pads := if p.transport = .udp6 && p.oneStep then zeros 2 else []
  let bytes := match p.transport with
    | .ethernet => ethFrame s n 0x88F7 m
    | _ => udpFrame s n p.dst port port 0 (m ++ pads)
  let head := 14 + (vlanTag s n).length
  let off := match p.transport with | .ethernet => head | .udp4 => head + 28 | .udp6 => head + 48
  ⟨.ptp, bytes, none, 0, 0, none, 0, some ⟨p.transport, p.event, p.oneStep, off, m.length⟩⟩

/-- The time core queues a message (Table 5.3, Q1): NO_ROOM where the queue is full or the port out of service, and in STANDBY,
which sends no IEEE 1588 message (R323). -/
def ptpHand (n : Nat) (s : State) (p : PtpSend) : State :=
  if !portServes s n || decide (s.crp.mode = .standby) then emit (.ptpDone n 4 none) s
  else
    let r := enqueue n 1 (ptpFrame s n p) s
    if r.2 then r.1 else emit (.ptpDone n 4 none) r.1

end Sys2Proof.Machine
end

