-- ==== Sys2Proof/Machine/FieldLink.lean ====
section
/-! DEFINITION. The commands of the field link (chapter 5): receive and classify, pause, transmit, the PLP receive
checks and the frames that form PARSE jobs. -/
namespace Sys2Proof.Machine

/-! ### MAC -/

/-- The fill of a receive FIFO in bytes (R143). -/
def rxFill (p : NetPort) : Nat := (p.fifo.map (·.size)).sum

/-- Sends a pause frame (R144). -/
def sendPause (n quanta : Nat) (s : State) : State := inc (Reg.NET_CNT n 6) 1 (emit (.pause n quanta) s)

/-- XOFF and XON as the fill stands (R144). Without TX_PAUSE_EN the port sends nothing and is not in XOFF. -/
def pauseCheck (n : Nat) (s : State) : State :=
  let p := netPort s n
  let f := rxFill p
  if !flag s (Reg.NET_CTRL n) 8 then
    (if p.xoff then perf (0x120 + n) (usBetween p.xoffAt s.tim.now) (setPort n { p with xoff := false } s) else s)
  else if !p.xoff && decide (fld s (Reg.NET_PAUSE_CFG n) 7 0 * 1024 ≤ f) then
    sendPause n 0xFFFF (setPort n { p with xoff := true, xoffAt := s.tim.now } s)
  else if p.xoff && decide (f < fld s (Reg.NET_PAUSE_CFG n) 15 8 * 1024) then
    perf (0x120 + n) (usBetween p.xoffAt s.tim.now) (sendPause n 0 (setPort n { p with xoff := false } s))
  else s

/-- Takes the head of the receive FIFO. -/
def popHead (n : Nat) (s : State) : State :=
  let p := netPort s n
  pauseCheck n (setPort n { p with fifo := p.fifo.drop 1 } s)

/-- Nanoseconds of one pause quantum, 512 bit times, as a fraction: numerator over 10. -/
def quantumTenthNs (s : State) (n : Nat) : Nat := if flag s (Reg.NET_CTRL n) 1 then 5120 else 512

/-- Where the classifier sends a frame (Table 5.2). -/
inductive RxDest where
  | drop (counted : Bool)
  | oversize
  | macPause (quanta : Nat)
  | host
  | timeCore
  | plp (src : List Byte) (srcPort : Nat) (payload : List Byte)
deriving DecidableEq, Repr

/-- UDP rows 6 to 9 of Table 5.2 for a UDP packet between two addresses. -/
def classifyUdp (s : State) (n : Nat) (v6 : Bool) (src16 a b : List Byte) (udp : List Byte) : RxDest :=
  let len := beAt udp 4 2
  let body := udp.take len
  let c := beAt udp 6 2
  let good := decide (8 ≤ len) && decide (len ≤ udp.length) &&
    (if c = 0 then !v6 else decide (onesSum (a ++ b ++ beBytes 4 len ++ beBytes 4 17 ++ body) = 65535))
  let dport := beAt udp 2 2
  if !good then .drop true
  else if dport = 319 ∨ dport = 320 then .timeCore
  else if dport = plpPort s n then .plp src16 (beAt udp 0 2) (body.drop 8)
  else .host

/-- Rows 4 to 9 of Table 5.2 for a frame whose EtherType stands at the front of `p`. -/
def classifyIp (s : State) (n : Nat) (p : List Byte) : RxDest :=
  let t := beAt p 0 2
  let q := p.drop 2
  let own := portAddr s n
  if t = 0x88F7 then .timeCore
  else if t = 0x0800 then
    let total := beAt q 2 2
    if leAt q 0 1 ≠ 0x45 ∨ beAt q 6 2 % 0x4000 ≠ 0 ∨ onesSum (q.take 20) ≠ 65535 ∨ isV4 own = false ∨
       (q.drop 16).take 4 ≠ own.drop 12 then .host
    else if leAt q 9 1 = 17 then
      classifyUdp s n false (zeros 10 ++ [0xFF, 0xFF] ++ (q.drop 12).take 4) ((q.drop 12).take 4) ((q.drop 16).take 4)
        ((q.take total).drop 20)
    else .host
  else if t = 0x86DD then
    if (q.drop 24).take 16 ≠ own then .host
    else if leAt q 6 1 = 17 then
      classifyUdp s n true ((q.drop 8).take 16) ((q.drop 8).take 16) ((q.drop 24).take 16) ((q.drop 40).take (beAt q 4 2))
    else .host
  else .host

/-- Receive classification (R140, R141, Table 5.2). The frame runs from the destination address to the end of
the payload, without FCS. -/
def classify (s : State) (n : Nat) (f : List Byte) (fcsOk : Bool) : RxDest :=
  let tagged := decide (beAt f 12 2 = 0x8100)
  let limit := (if flag s (Reg.NET_CTRL n) 9 then 9014 else 1514) + (if tagged then 4 else 0)
  let vlanEn := flag s (Reg.NET_CTRL n) 3
  if limit < f.length then .oversize
  else if !fcsOk || decide (f.length < 60) then .drop false
  else if beAt f 12 2 = 0x8808 ∧ beAt f 14 2 = 1 then .macPause (beAt f 16 2)
  else if vlanEn ≠ tagged then .host
  else if vlanEn ∧ beAt f 14 2 % 4096 ≠ fld s (Reg.NET_VLAN n) 11 0 then .host
  else classifyIp s n (f.drop (if tagged then 16 else 12))

/-- R142: the time core takes a frame, with its t_rx in ns, or it is dropped and counted. Whether that core has room is not
given (assumption 164): a free value. -/
def timeCoreTake (n : Nat) (frame : List Byte) (s : State) : State :=
  if freeVal s % 2 = 0 then inc (Reg.NET_CNT n 4) 1 (freeNext s)
  else emit (.timeCore n (tRx s n / (tNs : Int)) frame) (freeNext s)

/-- R139 to R145: one frame arrives. A PLP frame enters the receive FIFO; a frame for the host ring or the time core
passes through. -/
def execFrameReceive (n : Nat) (frame : List Byte) (fcsOk : Bool) (s : State) : Out :=
  .next (
    if !portRuns s n || !(netPort s n).link then s
    else
      let s := perf (0x118 + n) 1 (inc (Reg.NET_CNT n 0) 1 s)
      let dropped := inc (Reg.NET_CNT n 4) 1
      let p := netPort s n
      match classify s n frame fcsOk with
      | .oversize => dropped (sticky (Reg.NET_STICKY n) 6 s)
      | .drop counted => if counted then dropped s else s
      | .macPause quanta =>
        let s := inc (Reg.NET_CNT n 5) 1 s
        if !flag s (Reg.NET_CTRL n) 7 then s
        else if quanta = 0 then setPort n { p with pauseSince := none, bypass := false } s
        else
          let fin := s.tim.now + quanta * quantumTenthNs s n * tNs / 10
          setPort n { p with pauseSince := some (if p.pauseEnd ≤ s.tim.now then s.tim.now else p.pauseSince.getD s.tim.now), pauseEnd := fin } s
      | d =>
        if 262144 < rxFill p + frame.length then dropped (sticky (Reg.NET_STICKY n) 7 s)
        else if dropsNext s n then dropTaken n s
        else match d with
          | .plp src srcPort payload =>
            pauseCheck n (setPort n { p with fifo := p.fifo ++ [⟨src, srcPort, payload, tRx s n, s.tim.now, frame.length⟩] } s)
          | .host =>
            let t := ((tRx s n) / (tNs : Int)).toNat
            let r := rxRecord (fld s (Reg.NET_HOST_RING n) 7 0) 1 n (t % (2 ^ 32 * 1000000000)) frame s
            if r.2 then r.1 else dropped r.1
          | _ => timeCoreTake n frame s)

/-- R144: the refresh, 1 ms after the last. -/
def execXoffRefresh (n : Nat) (s : State) : Out :=
  let p := netPort s n
  .next (
    if portRuns s n && p.xoff && flag s (Reg.NET_CTRL n) 8 && decide (p.xoffAt + tMs ≤ s.tim.now) then
      perf (0x120 + n) 1000 (sendPause n 0xFFFF (setPort n { p with xoffAt := p.xoffAt + tMs } s))
    else s)

/-- R145: the partner's pause ends. -/
def execPauseExpiry (n : Nat) (s : State) : Out :=
  let p := netPort s n
  .next (
    if p.pauseSince.isSome && decide (p.pauseEnd ≤ s.tim.now) then setPort n { p with pauseSince := none, bypass := false } s else s)

/-- R145: LIMIT_US of continuous pause. -/
def execPauseBypass (n : Nat) (s : State) : Out :=
  let p := netPort s n
  .next (match p.pauseSince with
    | some t =>
      if !p.bypass && flag s (Reg.NET_CTRL n) 7 && decide (t + fld s (Reg.NET_PAUSE_CFG n) 31 16 * tUs ≤ s.tim.now) then
        sticky (Reg.NET_STICKY n) 8 (setPort n { p with bypass := true } s)
      else s
    | none => s)

/-- The pause abilities advertised (R138; the coding of IEEE 802.3 Clause 37, assumption 165): symmetric where the port honours
pause frames, asymmetric where it does only one of sending and honouring them. -/
def advert (s : State) (n : Nat) : Output :=
  .advertise n (flag s (Reg.NET_CTRL n) 7) (flag s (Reg.NET_CTRL n) 7 != flag s (Reg.NET_CTRL n) 8)

/-- R138: the link comes up, auto-negotiated where AN_EN says so; the port's PLL is locked. -/
def execLinkUp (n : Nat) (s : State) : Out :=
  .next (
    if portRuns s n && !(netPort s n).link then
      let s := missNightfall n s
      let p := netPort s n
      let an := flag s (Reg.NET_CTRL n) 1 && flag s (Reg.NET_CTRL n) 2
      let one : BitVec 4 := BitVec.ofNat 4 (2 ^ n)
      let s := if an then emit (advert s n) s else s
      setCrp { s.crp with netLock := s.crp.netLock ||| one, netRef := s.crp.netRef ||| BitVec.ofNat 2 (2 ^ (n / 2)) }
        (setPort n { p with link := true, anDone := an, pauseSince := none, bypass := false } s)
    else s)

/-- The link of a port is lost: LINK_DOWN. A transmission in progress is cut; a host frame then completes
NO_ROOM (R372). -/
def linkLost (n : Nat) (s : State) : State :=
  let p := netPort s n
  if !p.link then s
  else
    let c := match p.tx with | some f => f.cmd | none => none
    completeOpt c 4 [] (sticky (Reg.NET_STICKY n) 0
      (setPort n { p with link := false, anDone := false, pauseSince := none, bypass := false, tx := none } s))

def execLinkDown (n : Nat) (s : State) : Out := .next (if n < gradePorts s then linkLost n s else s)

/-- Bits on the wire of a frame from the start of its preamble to its last FCS bit. -/
def wireBits (f : TxFrame) : Nat := 8 * (f.bytes.length + 12)

/-- How long a frame takes on the wire, in 2⁻³² ns: a bit lasts 1 ns at 1 Gbit/s and 0.1 ns at 10 Gbit/s. -/
def wireTime (s : State) (n : Nat) (f : TxFrame) : Nat :=
  if flag s (Reg.NET_CTRL n) 1 then wireBits f * tNs else wireBits f * tNs / 10

/-- A head frame may start: its launch time has come, or launch times are ignored (R142, R146). -/
def launchOpen (s : State) (n : Nat) (f : TxFrame) : Bool :=
  !flag s (Reg.NET_CTRL n) 6 || (match f.launch with | some l => decide (l ≤ (s.tim.now : Int)) | none => true)

/-- Queue `q` may give its head now (R145, R146, R147). -/
def mayStart (s : State) (n q : Nat) : Bool :=
  let p := netPort s n
  match getQ p q with
  | f :: _ =>
    launchOpen s n f && !(plpStopped s && (decide (q = 2) || decide (q = 3))) && !(decide (q = 0) && handingOver s) && (p.pauseSince.isNone || (p.bypass && decide (q ≤ 2))) &&
    (decide (q = 0) || !flag s (Reg.NET_CTRL n) 6 ||
      (match p.q0 with
        | g :: _ => (match g.launch with
          | some l => decide (((s.tim.now + wireTime s n f : Nat) : Int) < l)
          | none => true)
        | [] => true))
  | [] => false

/-- What becomes of a frame that a port discards (R414): a GRANT and a host frame complete NO_ROOM, a NIGHTFALL frame is
missed. -/
def discardFrame (f : TxFrame) (s : State) : State :=
  match f.kind with
  | .grant => grantLost f.machine 4 s
  | .nightfall => inc (Reg.NFL_CNT 2) 1 s
  | _ => completeOpt f.cmd 4 [] s

/-- R146, R147: the messages that the time core hands over are queued (assumption 163); then the eligible head frame of the lowest-numbered queue starts, stamped where it is one-step (R312). At a port whose link is down, a NIGHTFALL
frame that is due is missed instead (R283). -/
def execTransmitStart (turn : PortTurn) (s : State) : Out :=
  let n := turn.port
  let s := turn.handed.foldl (ptpHand n) s
  let p := netPort s n
  .next (
    if !portRuns s n || !p.link then missNightfall n s
    else if p.tx.isSome then s
    else if dropsNext s (n + 4) then
      match (List.range 6).find? (mayStart s n) with
      | none => s
      | some q =>
        match getQ p q with
        | [] => s
        | f :: rest => discardFrame f (dropTaken (n + 4) (setPort n (setQ q (markHead s.tim.now rest) p) s))
    else match (List.range 6).find? (mayStart s n) with
      | none => s
      | some q =>
        match getQ p q with
        | [] => s
        | f :: rest =>
          let late := flag s (Reg.NET_CTRL n) 6 && (match f.launch with | some l => decide (l < (f.headAt : Int)) | none => false)
          emit (.frame n (sentBytes s n f))
            (setPort n { setQ q (markHead s.tim.now rest) p with tx := some f, txLate := late, txStart := tTx s n } s))

/-- R147, R364: a transmission ends and its completion is written, LATE for a past launch time. Nothing passes a held port (R400). -/
def execTransmitEnd (n : Nat) (s : State) : Out :=
  let p := netPort s n
  .next (match if portHeld s n then none else p.tx with
    | none => s
    | some f =>
      let s := perf (0x11C + n) 1 (inc (Reg.NET_CNT n 1) 1 (setPort n { p with tx := none } s))
      let s := if p.txLate then inc (Reg.NET_CNT n 7) 1 s else s
      let s := match f.kind with
        | .nightfall => perf 0x168 1 (inc (Reg.NFL_CNT 1) 1 (if p.txLate then inc (Reg.NFL_CNT 3) 1 s else s))
        | .release => inc (Reg.NFL_CNT 6) 1 s
        | .stream => perf 0x113 1 s
        | _ => s
      let s := match f.ptp with | some k => emit (.ptpDone n 0 (ptpStamp s n k p.txStart)) s | none => s
      completeOpt f.cmd (b2n p.txLate) (timeBytes p.txStart) s)

/-! ### PLP receive checks -/

/-- What Table 5.7 says of a frame. -/
inductive Verdict where
  | drop (bit : Nat) (tagTried : Bool)
  | opstop
  | answer (code : Nat)
  | accept
deriving DecidableEq, Repr

/-- Fields of a PLP header (Table 5.6). -/
def plpType (b : List Byte) : Nat := leAt b 2 1 % 16
def plpGen (b : List Byte) : Nat := leAt b 2 1 / 16
def plpTagged (b : List Byte) : Bool := decide (leAt b 3 1 % 2 = 1)
def plpFromBase (b : List Byte) : Bool := decide (leAt b 3 1 / 2 % 2 = 1)
def plpMachine (b : List Byte) : Nat := leAt b 4 2 % 1024
def plpLength (b : List Byte) : Nat := leAt b 6 2
def plpSeq (b : List Byte) : Nat := leAt b 8 4
def plpEpochS (b : List Byte) : Nat := leAt b 12 4
def plpEpochNs (b : List Byte) : Nat := leAt b 16 4
def plpKeySel (b : List Byte) : Nat := leAt b 20 1

/-- The tag of a frame verifies under a key (R154). -/
def tagOk (key : List Byte) (b : List Byte) : Bool := decide (b.drop (b.length - 8) = tag key (b.take (b.length - 8)) 8)

/-- A machine-to-base type that a generation may send (Table 5.5, R151; assumption 17 on FROM_BASE). -/
def typeAllowed (gen type : Nat) : Bool :=
  if gen = 1 then [2, 8, 10].contains type else [1, 8, 9, 10].contains type

/-- Enumerations of a signal of an OBS body (Table 5.8): GNSS, SIGNAL, and GLO_K, which is 0 to 13 of GLONASS (Table 2.2: k from −7 to 6)
and 0 of other GNSS. -/
def obsSignalOk (g : List Byte) : Bool :=
  decide (leAt g 0 1 ≤ 5) && (kindOfId (leAt g 0 1) (leAt g 2 1)).isSome && decide (leAt g 25 1 ≤ (if leAt g 0 1 = 1 then 13 else 0))

/-- Codes that the STATUS of an ACK may hold: Tables 0.4, 3.3 and 5.18 (Table 5.17). -/
def ackStatusOk (c : Nat) : Bool := decide (c ≤ 8) || (decide (0x40 ≤ c) && decide (c ≤ 0x44)) || decide (c = 0x48) || decide (c = 0x49)

/-- Step 8: lengths and enumerations of each body (R505, Tables 5.8, 5.9, 5.15, 5.16, 5.17). -/
def bodyOk (b : List Byte) : Bool :=
  let len := b.length
  match plpType b with
  | 1 =>
    let n := leAt b 25 1
    let count := leAt b 24 1 / 16
    decide (1 ≤ n) && decide (n ≤ 128) && decide (len = 40 + 28 * n) && decide (1 ≤ count) && decide (count ≤ 4) &&
    decide (leAt b 24 1 % 16 < count) && (List.range n).all (fun i => obsSignalOk (b.drop (32 + 28 * i)))
  | 2 => decide (len = 84) && decide (leAt b 60 2 ≤ 35999) && decide (leAt b 62 1 ≤ 3)
  | 8 => decide (len = 52) && decide (leAt b 24 1 ≤ 4)
  | 9 =>
    let n := leAt b 39 1
    let d := leAt b 44 2
    decide (1 ≤ n) && decide (leAt b 38 1 < n) && decide (2 ≤ leAt b 37 1) && decide (leAt b 37 1 ≤ 10) &&
    decide (8 ≤ d) && decide (d ≤ 1416) && (decide (d % 8 = 0) || decide (leAt b 38 1 + 1 = n)) && decide (len = 56 + d)
  | 10 => decide (len = 44) && decide (1 ≤ leAt b 24 1) && decide (leAt b 24 1 ≤ 11) && ackStatusOk (leAt b 25 1)
  | _ => false

/-- The receive checks of Table 5.7, steps 1 to 9, on a frame that arrived at port `n` (R155, R156, R152). -/
def plpCheck (s : State) (n : Nat) (f : RxFrame) : Verdict :=
  let b := f.plp
  let m := plpMachine b
  let x := mach s m
  let k := linkSlot x.entry (plpKeySel b)
  let d := (plpSeq b + 2 ^ 32 - x.seqLast) % 2 ^ 32
  if b.length < 32 ∨ b.take 2 ≠ [0x50, 0x4C] ∨ plpLength b ≠ b.length ∨ plpType b < 1 ∨ 11 < plpType b ∨ 1 < plpKeySel b then
    .drop 1 false
  else if plpType b = 11 then .opstop
  else if gradeMachines s ≤ m ∨ x.entry.gen = 0 ∨
      (x.entry.strict = true ∧ (n ≠ x.entry.port ∨ f.srcAddr ≠ x.entry.addr ∨ f.srcPort ≠ x.entry.udpPort)) then .drop 2 false
  else if !keyUsable s k 2 then .drop 3 false
  else if !plpTagged b then .drop 4 false
  else if !tagOk (keyOf s k) b then .drop 4 true
  else if !x.resetSeq && !(decide (1 ≤ d) && decide (d < 2 ^ 31)) then .drop 5 true
  else if plpGen b ≠ x.entry.gen ∨ plpFromBase b = true ∨ typeAllowed x.entry.gen (plpType b) = false then .answer 0x48
  else if bodyOk b = false ∨ 999999999 < plpEpochNs b then .answer 0x49
  else .accept

/-- The head frame of a port's receive FIFO. -/
def headFrame (s : State) (n : Nat) : Option RxFrame := (netPort s n).fifo.head?

/-- SEQ_last moves to the frame's SEQ (R156). -/
def seqTaken (f : RxFrame) (s : State) : State :=
  let m := plpMachine f.plp
  putMach m { mach s m with seqLast := plpSeq f.plp, resetSeq := false } s

/-- Learning from an accepted frame (R152). -/
def learn (n : Nat) (f : RxFrame) (s : State) : State :=
  let m := plpMachine f.plp
  let x := mach s m
  if !x.entry.strict && x.entry.learn then
    putMach m { x with entry := { x.entry with port := n, addr := f.srcAddr, udpPort := f.srcPort } } s
  else s

/-- The frame leaves the FIFO accepted: counted, SEQ_last, learning (step 9). -/
def takeAccepted (n : Nat) (f : RxFrame) (s : State) : State :=
  learn n f (seqTaken f (perf 0x124 1 (perf 0x126 1 (inc (Reg.NET_CNT n 2) 1 (popHead n s)))))

/-- A frame that failed steps 1 to 6 leaves the FIFO: its sticky bit, the counts. -/
def takeDropped (n bit : Nat) (tagTried : Bool) (s : State) : State :=
  let s := perf 0x125 1 (inc (Reg.NET_CNT n 3) 1 (sticky (Reg.NET_STICKY n) bit (popHead n s)))
  if tagTried then perf 0x126 1 s else s

/-- A frame that failed step 7 or 8 leaves the FIFO and is answered (R155). -/
def takeAnswered (n : Nat) (f : RxFrame) (code : Nat) (s : State) : State :=
  let s := seqTaken f (perf 0x126 1 (popHead n s))
  sendAck (plpMachine f.plp) (plpType f.plp) code (plpSeq f.plp) (if plpType f.plp = 9 then leAt f.plp 24 4 else 0) s

/-- The flow of machine `m` holds MACH_FLOW_MAX jobs (R254). -/
def flowFull (s : State) (m : Nat) : Bool := decide (fld s Reg.DSP_CTRL 21 16 ≤ (flowJobs s m).length)

/-- The head of port `n` of the kind that a command is about. In STANDBY a PLP frame is counted and discarded (R323).
A frame that fails steps 1 to 6 is dropped whatever the command; `ok` runs on the frames that the command is about. -/
def withHead (n : Nat) (type : Nat) (accepted : RxFrame → State → State) (s : State) : State :=
  match headFrame s n with
  | none => s
  | some f =>
    if !portServes s n then s
    else if s.crp.mode = .standby then paiCount 6 1 (popHead n s)
    else match plpCheck s n f with
      | .drop bit t => takeDropped n bit t s
      | .opstop => s
      | .answer code =>
        if code = 0x49 ∧ plpType f.plp = type then takeAnswered n f code s else s
      | .accept =>
        if plpType f.plp ≠ type then s
        else if flowFull s (plpMachine f.plp) then stickyCount Reg.DSP_STICKY 1 (Reg.DSP_CNT 3) (takeAccepted n f s)
        else accepted f s

/-- An accepted frame that forms a PARSE job (R142, R253): it waits while intake is stopped or it is another
source's turn. -/
def formParse (n : Nat) (f : RxFrame) (work : JobWork) (after : State → State) (s : State) : State :=
  let m := plpMachine f.plp
  if !intakeOpen s || !intakeTurn s n then s
  else
    addJob .parse m (levelFor s .parse 0) (f.endAt : Int) f.tRx none work none (intakeServed n (after (takeAccepted n f s)))

def execPosFrame (n : Nat) (s : State) : Out :=
  .next (withHead n 2 (fun f s => formParse n f (.frame n f.plp) id s) s)
def execStatusFrame (n : Nat) (s : State) : Out :=
  .next (withHead n 8 (fun f s => formParse n f (.frame n f.plp) id s) s)
def execAckFrame (n : Nat) (s : State) : Out :=
  .next (withHead n 10 (fun f s => formParse n f (.frame n f.plp) id s) s)

/-- Step 7: an ACK with WRONG_GEN. -/
def execWrongGenFrame (n : Nat) (s : State) : Out :=
  .next (match headFrame s n with
    | none => s
    | some f =>
      if !portServes s n then s
      else if s.crp.mode = .standby then paiCount 6 1 (popHead n s)
      else match plpCheck s n f with
        | .drop bit t => takeDropped n bit t s
        | .answer code => if code = 0x48 then takeAnswered n f code s else s
        | _ => s)

/-! ### OBS reassembly (R161) -/

/-- The parts of an epoch held become nothing: OBS_INCOMPLETE, and the epoch is the last one discarded. -/
def discardObs (m n : Nat) (s : State) : State :=
  let x := mach s m
  match x.obs with
  | some a => stickyIf (portUp s n) (Reg.NET_STICKY n) 9 (setMach m { x with obs := none, lastDiscarded := some a.epoch } s)
  | none => s

/-- Part `f` joins the reassembly `a` (or starts one): stored, or the completed epoch forms its PARSE job. -/
def joinObs (n : Nat) (f : RxFrame) (a : ObsAsm) (s : State) : State :=
  let m := plpMachine f.plp
  let a := { a with held := a.held ++ [(leAt f.plp 24 1 % 16, f.plp)], nsig := a.nsig + leAt f.plp 25 1 }
  if a.held.length < a.parts then
    let s := takeAccepted n f s
    setMach m { mach s m with obs := some a } s
  else
    formParse n f (.obs a.epoch a.held none) (fun s => setMach m { mach s m with obs := none } s) s

/-- R153, R161, R164: an OBS part of machine `m` for the epoch `e` in ns. -/
def obsPart (n : Nat) (f : RxFrame) (s : State) : State :=
  let m := plpMachine f.plp
  let x := mach s m
  let e := (epochOf s (plpEpochS f.plp) (plpEpochNs f.plp)).toNat
  let count := leAt f.plp 24 1 / 16
  let answer (code : Nat) (s : State) : State := sendAck m 1 code (plpSeq f.plp) 0 (takeAccepted n f s)
  let fresh : ObsAsm := ⟨e, count, [], 0, s.tim.now⟩
  if !x.entry.slotValid || decide (gradeSlots s ≤ x.entry.slot) then answer 4 s
  else if x.lastDiscarded = some e then answer 6 s
  else match x.obs with
    | none => joinObs n f fresh s
    | some a =>
      if e < a.epoch then answer 6 s
      else if a.epoch < e then
        if fresh.parts = 1 && (!intakeOpen s || !intakeTurn s n) then s else joinObs n f fresh (discardObs m n s)
      else if a.held.any (fun h => h.1 = leAt f.plp 24 1 % 16) then takeAccepted n f s
      else if count ≠ a.parts ∨ 192 < a.nsig + leAt f.plp 25 1 then answer 0x49 (discardObs m n s)
      else joinObs n f a s

def execObsFrame (n : Nat) (s : State) : Out := .next (withHead n 1 (obsPart n) s)

/-- R161: 200 ms after the first part. -/
def execObsEpochTimeout (m : Nat) (s : State) : Out :=
  .next (match (mach s m).obs with
    | some a => if a.firstAt + 200 * tMs ≤ s.tim.now then discardObs m (mach s m).entry.port s else s
    | none => s)

/-! ### OPSTOP (R278) -/

/-- The key slot of an OPSTOP frame (R278). -/
def opstopSlot (s : State) (b : List Byte) : Nat := if plpKeySel b = 0 then fld s Reg.NFL_OP_CFG 5 0 else fld s Reg.NFL_OP_CFG 13 8

/-- Check 1 of R278. -/
def opstopForm (b : List Byte) : Bool := decide (plpLength b = 40) && decide (plpEpochNs b ≤ 999999999)

/-- Checks 1 and 2 of R278 pass, and the frame has a tag to verify. -/
def opstopTagTried (s : State) (b : List Byte) : Bool := opstopForm b && keyUsable s (opstopSlot s b) 2 && plpTagged b

/-- The checks of R278 on an OPSTOP frame. -/
def opstopOk (s : State) (f : RxFrame) : Bool :=
  let b := f.plp
  let skip := flag s Reg.NFL_CFG 24 && !plpTagged b
  let e := epochOf s (plpEpochS b) (plpEpochNs b) * (tNs : Int)
  opstopForm b && (skip || (opstopTagTried s b && tagOk (keyOf s (opstopSlot s b)) b)) &&
  decide ((s.tim.now : Int) - ((10 * tSec : Nat) : Int) ≤ e) && decide (e < (s.tim.now : Int) + (tSec : Int))

/-- R278, R280: cause OPERATOR with OPERATOR and REASON, or OPSTOP_REJECT. -/
def execOpstopFrame (n : Nat) (s : State) : Out :=
  .next (match headFrame s n with
    | none => s
    | some f =>
      if !portServes s n then s
      else if s.crp.mode = .standby then paiCount 6 1 (popHead n s)
      else match plpCheck s n f with
        | .drop bit t => takeDropped n bit t s
        | .opstop =>
          let s := if opstopTagTried s f.plp then perf 0x126 1 s else s
          if opstopOk s f then
            nfTellPeer 3 (nfTriggerWith 3 ((f.plp.drop 24).take 3) (inc (Reg.NFL_CNT 4) 1 (popHead n s)))
          else stickyCount Reg.NFL_STICKY 6 (Reg.NFL_CNT 5) (popHead n s)
        | _ => s)

end Sys2Proof.Machine
end

