-- ==== Sys2Proof/Machine/Tasks.lean ====
section
/-! DEFINITION. The task board and the dispatcher's own commands (chapter 8). -/
namespace Sys2Proof.Machine

/-! ### Host commands that run as jobs -/

/-- The command of a job, with its body. -/
def cmdBody (j : Job) : List Byte := match j.work with | .body b => b | _ => []

/-- Runs the command of opcode `op` where it is the one that its executor takes next (R244, R245): `f` answers the new
state, the status and the detail bytes; the command then completes and its job ends. -/
def withCmd (ex op : Nat) (f : List Byte → State → State × Nat × List Byte) (s : State) : State :=
  withJob ex (fun j => match j.cmd with | some c => decide (c.opcode = op) | none => false)
    (fun j s => let r := f (cmdBody j) s; endJob j.id (completeOpt j.cmd r.2.1 r.2.2 r.1)) s

/-- The code of a command in STANDBY that would otherwise complete with `c` (R15): a common code other than OK and LATE, or a
lower chapter code, outranks NOT_ACTIVE. -/
def standbyCode (c : Nat) : Nat := if (2 ≤ c ∧ c ≤ 8) ∨ (0x40 ≤ c ∧ c < 0x70) then c else 0x70

/-- A command that changes mirrored state completes NOT_ACTIVE in STANDBY (R334). -/
def activeOnly (f : List Byte → State → State × Nat × List Byte) (b : List Byte) (s : State) : State × Nat × List Byte :=
  let r := f b s
  if s.crp.mode = .standby ∧ standbyCode r.2.1 = 0x70 then (paiCount 7 1 s, 0x70, []) else r

/-! ### Tasks -/

/-- The live task of an id, the task that a machine holds. -/
def taskOf (s : State) (id : Nat) : Option Task := s.tsk.tasks.find? (fun t => t.id = id)
def taskHeld (s : State) (m : Nat) : Option Task := s.tsk.tasks.find? (fun t => t.holder = some m)

/-- Changes a task's state and holder. -/
def setTask (id : Nat) (st : TaskState) (h : Option Nat) (s : State) : State :=
  putTasks (s.tsk.tasks.map (fun t => if t.id = id then { t with state := st, holder := h } else t)) s

/-- Removes a task. -/
def dropTask (id : Nat) (s : State) : State := putTasks (s.tsk.tasks.filter (fun t => t.id ≠ id)) s

/-- One task event record (R264, Table 8.5). -/
def taskRecord (t : Task) (ev status : Nat) (s : State) : State :=
  let h := match t.holder with | some m => m | none => 0xFFFF
  let r := rxRecord (fld s Reg.TSK_CTRL 15 8) 3 0 (nsOf s.tim.now % (2 ^ 32 * 1000000000))
    (leBytes 4 t.id ++ leBytes 1 ev ++ leBytes 1 status ++ leBytes 2 h ++ leBytes 2 t.chain ++ zeros 2 ++ timeBytes s.tim.now) s
  if r.2 then r.1 else sticky Reg.TSK_STICKY 2 r.1

/-- Sends the TASK frame of a task to a machine (R261), under the generation of the report that brought it about (R153). -/
def sendTask (m gen : Nat) (t : Task) (s : State) : State :=
  let n := t.payload.length
  (sendMachGen m gen 3 7 (epochS t.assigned) (epochNs t.assigned) .task 0
    (leBytes 4 t.id ++ leBytes 2 t.chain ++ leBytes 1 t.prio ++ zeros 1 ++ leBytes 2 n ++ zeros 2 ++
     padTo (4 * ceilDiv n 4) t.payload) s).1

/-- R257. -/
def taskEnqueue (b : List Byte) (s : State) : State × Nat × List Byte :=
  let id := leAt b 0 4
  if 65536 ≤ s.tsk.tasks.length then (sticky Reg.TSK_STICKY 0 s, 4, [])
  else if id = 0xFFFFFFFF ∨ 4095 < leAt b 4 2 ∨ 7 < leAt b 6 1 ∨ 64 < leAt b 12 2 then (s, 0x60, [])
  else if (taskOf s id).isSome then (s, 0x61, [])
  else
    let t : Task := ⟨id, leAt b 4 2, leAt b 6 1, leAt b 8 4, (b.drop 16).take (leAt b 12 2), .queued, none, 0⟩
    (inc (Reg.TSK_CNT 0) 1 (putTasks (s.tsk.tasks ++ [t]) s), 0, [])

def execTaskEnqueue (s : State) : Out := .next (withCmd 5 0x10 (activeOnly taskEnqueue) s)

/-- R258, Table 8.4: ACTION 0 cancels; an ACTION other than 0 and 1 completes BAD_TASK. -/
def taskCancel (b : List Byte) (s : State) : State × Nat × List Byte :=
  if leAt b 4 1 ≠ 0 then (s, 0x60, [])
  else match taskOf s (leAt b 0 4) with
    | none => (s, 0x62, [])
    | some t => (taskRecord t 5 0 (inc (Reg.TSK_CNT 3) 1 (dropTask t.id s)), 0, [])

/-- R258, Table 8.4: ACTION 1 requeues an ASSIGNED or REFUSED task. -/
def taskRequeue (b : List Byte) (s : State) : State × Nat × List Byte :=
  match taskOf s (leAt b 0 4) with
  | none => (s, 0x62, [])
  | some t =>
    match t.state with
    | .assigned | .refused => (taskRecord t 6 0 (inc (Reg.TSK_CNT 5) 1 (setTask t.id .queued none s)), 0, [])
    | _ => (s, 0x60, [])

/-- The TASK_CTRL next in turn has ACTION 1, or not. -/
def taskCtrlIs (requeue : Bool) (s : State) : Bool :=
  match pickJob s 5 (fun _ => true) with
  | some j => decide ((leAt (cmdBody j) 4 1 = 1) = (requeue = true))
  | none => false

def execTaskCancel (s : State) : Out :=
  .next (if taskCtrlIs false s then withCmd 5 0x11 (activeOnly taskCancel) s else s)
def execTaskRequeue (s : State) : Out :=
  .next (if taskCtrlIs true s then withCmd 5 0x11 (activeOnly taskRequeue) s else s)

/-- The task is taken up by its holder (Table 8.4). -/
def taskAccepted (t : Task) (s : State) : State := taskRecord t 2 0 (setTask t.id .active t.holder s)

/-- An ACK for a task that is not, or no longer, ASSIGNED to its sender: ignored and counted (Table 8.7). -/
def ackIgnored (s : State) : State := { s with tsk := { s.tsk with ignored := s.tsk.ignored + 1 } }

/-- The ACK of a TASK frame (Table 8.4): acted on only for a task ASSIGNED to the sender. -/
def taskAck (m id status : Nat) (s : State) : State :=
  match taskOf s id with
  | some t =>
    if t.state = .assigned ∧ t.holder = some m then
      if status = 0 then taskAccepted t s
      else taskRecord t 4 status (stickyCount Reg.TSK_STICKY 1 (Reg.TSK_CNT 4) (setTask id .refused none s))
    else ackIgnored s
  | none => ackIgnored s

/-- MACHINE_SET gives a holder GEN 0 (Table 8.4). -/
def taskReturn (m : Nat) (s : State) : State :=
  match taskHeld s m with
  | some t => taskRecord t 6 0 (inc (Reg.TSK_CNT 5) 1 (setTask t.id .queued none s))
  | none => s

/-- The machine's held task as its IDLE report settles it (Table 8.4). -/
def taskSettle (m gen reported : Nat) (s : State) : State :=
  match taskHeld s m with
  | none => s
  | some t =>
    match t.state with
    | .assigned =>
      if reported = t.id then taskAccepted t s
      else taskRecord t 7 0 (inc (Reg.TSK_CNT 6) 1 (sendTask m gen t s))
    | .active => taskRecord t 3 0 (inc (Reg.TSK_CNT 2) 1 (dropTask t.id s))
    | _ => s

/-- The head of a chain: its earliest live task (R259). -/
def chainHead (s : State) (c : Nat) : Option Task := s.tsk.tasks.find? (fun t => t.chain = c)

/-- A task that an allotment may choose for a class: the head of a free chain, eligible (R259, R260). -/
def allottable (s : State) (cls : Nat) (t : Task) : Bool :=
  decide (t.state = .queued) && decide (t.mask / 2 ^ cls % 2 = 1) &&
  (match chainHead s t.chain with | some h => decide (h.id = t.id) | none => false)

/-- The task with the lowest PRIO, and among those the earliest enqueued. -/
def bestTask (l : List Task) : Option Task :=
  l.foldl (fun b t => match b with | none => some t | some b => some (if t.prio < b.prio then t else b)) none

/-- The task goes to a machine now. -/
def assignTask (id m : Nat) (s : State) : State :=
  putTasks (s.tsk.tasks.map (fun t => if t.id = id then { t with state := .assigned, holder := some m, assigned := s.tim.now } else t)) s

/-- R260: settle, then allot where the machine holds nothing. TSK_CNT_7 counts the reports that allot nothing (R268). -/
def allot (m gen reported : Nat) (s : State) : State :=
  let s := taskSettle m gen reported s
  let none' := inc (Reg.TSK_CNT 7) 1 s
  if (taskHeld s m).isSome then none'
  else
    if !flag s Reg.TSK_CTRL 0 then none'
    else match bestTask (s.tsk.tasks.filter (allottable s (mach s m).entry.cls)) with
      | none => none'
      | some t =>
        let t' := { t with state := .assigned, holder := some m, assigned := s.tim.now }
        taskRecord t' 1 0 (sendTask m gen t' (perf 0x161 1 (inc (Reg.TSK_CNT 1) 1 (assignTask t.id m s))))

def execAllot (s : State) : Out :=
  .next (withJob 5 (fun j => decide (j.kind = .allot))
    (fun j s => match j.work with
      | .allot id _ gen => endJob j.id (allot j.flow gen id s)
      | _ => endJob j.id s) s)

/-! ### Dispatcher -/

/-- R253: the held count is below INTAKE_MAX again; a new round starts at NET_0. -/
def execIntakeResume (s : State) : Out :=
  .next (
    if s.dsp.intakeOff && decide (held s < intakeMax s) then
      setDsp { s.dsp with intakeOff := false, cursor := 259 } s
    else s)

/-- R268: DSP_CMD.CLEAR_MAX. The largest number held since then is, at first, what is held. -/
def execDspClearMax (s : State) : Out := .next (wr Reg.DSP_HELD_MAX (BitVec.ofNat 32 (held s)) s)

end Sys2Proof.Machine
end

