-- ==== Sys2Proof/Machine/HostRings.lean ====
section
/-! DEFINITION. The host interface (chapter 12): rings, doorbells, command intake, the host's own commands, events and
vectors, the PCIe endpoint. -/
namespace Sys2Proof.Machine

def setIo (io : Io) (s : State) : State := { s with io := io }
def ring (s : State) (r : Nat) : Ring := ioRing s.io r
def setRing (r : Nat) (x : Ring) (s : State) : State := { s with io := ioSetRing s.io r x }

/-- Applies an operation on the indications that may raise further sources. -/
def withIo (f : Io → Io × List Nat) (s : State) : State :=
  let p := f s.io
  { s with io := ioRaise s.tim.now (chained s) p.2 p.1 }

/-- HIF's CFG_REJECT (R356, R374). -/
def hifReject (s : State) : State := sticky Reg.HIF_STICKY 6 s

/-! ### Doorbells and enables -/

/-- The ring enters ERROR with a code (R354, R359). -/
def ringError (r code : Nat) (s : State) : State :=
  sticky Reg.HIF_STICKY 0 (setRing r { ring s r with state := .error, err := code } s)

/-- R354: a new host index of ring `r`. -/
def execDoorbell (r : Nat) (h : Word) (s : State) : Out :=
  let x := ring s r
  let n := h.toNat
  let gap := if ringHostProduced x then (n + 2 ^ 32 - x.dev) % 2 ^ 32 else (x.dev + 2 ^ 32 - n) % 2 ^ 32
  .next (
    if 256 ≤ r ∨ x.state ≠ .run then s
    else if 2 ^ 31 ≤ (n + 2 ^ 32 - x.host) % 2 ^ 32 then ringError r 2 s
    else if ringSize x < gap then ringError r 1 s
    else perf 0x180 1 (setRing r { x with host := n } s))

/-- A value of HIF_RING_r_CFG holds a reserved encoding (R374). -/
def ringCfgReserved (s : State) (w : Word) : Bool :=
  let k := bits w 3 1
  decide (k < 1) || decide (5 < k) || decide (10 < bits w 7 4) || decide (gradePorts s ≤ bits w 24 23)

/-- The bits of HIF_RING_r_CFG that hold fields. -/
def ringCfgMask : Word := 0x03FFFFFF#32

/-- R356: a write of HIF_RING_r_CFG with EN 1. -/
def execRingEnable (r : Nat) (w : Word) (s : State) : Out :=
  let x := ring s r
  let w := w &&& ringCfgMask
  let k := bits w 3 1
  let c := ring s (bits w 15 8)
  .next (
    if 256 ≤ r ∨ bitAt w 0 = false then s
    else if ringEn x then (if w = x.cfg then s else hifReject s)
    else if ringCfgReserved s w then hifReject s
    else if (k = 1 ∨ k = 5) ∧ (ringEn c && decide (ringKind c = 2)) = false then
      hifReject (setRing r { x with cfg := w &&& 0xFFFFFFFE#32 } s)
    else setRing r { x with cfg := w, state := .run, err := 0, dev := 0, host := 0, drop := 0 } s)

/-- R356: EN is cleared; the ring takes no further entry. -/
def execRingDisable (r : Nat) (s : State) : Out :=
  let x := ring s r
  .next (
    if 256 ≤ r ∨ ringEn x = false then s
    else setRing r { x with cfg := x.cfg &&& 0xFFFFFFFE#32, state := .disabled, err := 0 } s)

/-! ### Command intake -/

/-- The fields of a command entry (Table 12.4). -/
def entOpcode (e : List Byte) : Nat := leAt e 0 1
def entIndirect (e : List Byte) : Bool := decide (leAt e 1 1 % 2 = 1)
def entQuiet (e : List Byte) : Bool := decide (leAt e 1 1 / 2 % 2 = 1)
def entLen (e : List Byte) : Nat := leAt e 2 2
def entTag (e : List Byte) : Nat := leAt e 4 4

/-- BUF_ADDR of an indirect entry (R358). -/
def entBufAddr (e : List Byte) : Nat := leAt e 8 8
/-- The body of an entry: inline, or as read from host memory. -/
def entBody (e body : List Byte) : List Byte := if entIndirect e then padTo (entLen e) body else (e.drop 8).take (entLen e)

/-- BODY_LEN is one that the opcode allows (Table 12.5, R225, Table 14.10, R441, R450, R469, R470). -/
def bodyLenOk (op n : Nat) : Bool :=
  match op with
  | 0x00 | 0x38 => decide (n = 0)
  | 0x01 => decide (n = 36)
  | 0x02 => decide (n = 4)
  | 0x08 => decide (n % 16 = 0) && decide (16 ≤ n) && decide (n ≤ 1024)
  | 0x09 => decide (n % 4 = 0) && decide (12 ≤ n) && decide (n ≤ 1032)
  | 0x10 => decide (n = 80)
  | 0x11 | 0x28 | 0x2A | 0x2B => decide (n = 8)
  | 0x18 => decide (n = 64)
  | 0x20 | 0x29 => decide (n = 24)
  | 0x30 => decide (n = 384)
  | 0x31 | 0x39 => decide (n = 40)
  | _ => false

/-- The opcodes of Table 12.5 that a command ring takes, and those left in recovery (R427). -/
def opcodeOk (s : State) (op : Nat) : Bool :=
  let staging := [0x00, 0x28, 0x29, 0x2A, 0x2B].contains op
  staging || (!s.crp.recovery && [0x01, 0x02, 0x08, 0x09, 0x10, 0x11, 0x18, 0x30, 0x31, 0x38, 0x39].contains op)

/-- The envelope checks of R359; 0 when all pass. -/
def envelope (opOk : Bool) (e : List Byte) (bodyErr : Bool) : Nat :=
  if !opOk then 0x78
  else if (!entIndirect e && decide (56 < entLen e)) || decide (4096 < entLen e) || !bodyLenOk (entOpcode e) (entLen e) then 0x79
  else if entIndirect e && bodyErr then 0x7A
  else 0

/-- The detail of a LEDGER completion in which no item failed (R365). -/
def ledgerDetail (s : State) (seq : Nat) : List Byte := [0xFF, 0] ++ zeros 14 ++ leBytes 4 seq ++ leBytes 1 s.cht.originGen

/-- Job kind of an opcode (Table 12.5). -/
def opKind (op : Nat) : JobKind :=
  match op with
  | 0x08 => .ledger
  | 0x10 | 0x11 => .taskCmd
  | _ => .hostCmd

/-- The flow of a ring's jobs (R251). -/
def ringFlow (s : State) (r : Nat) : Nat := 1088 + fld s (Reg.DSP_RING_CFG r) 5 0

/-- The command that an entry of ring `r` makes. -/
def entCmd (r flow : Nat) (x : Ring) (e : List Byte) : Cmd := ⟨entOpcode e, r, ringCpl x, entTag e, x.dev, entQuiet e, flow, false⟩

/-- Entry taken: the device index moves on, and a completion is owed (R355, R360, R370). -/
def takeEntry (r : Nat) (s : State) : State :=
  let x := ring s r
  let c := ring s (ringCpl x)
  withIo (ringAdvance s.tim.now (chained s) r (ringVecEn x && ringIrqOnConsume x)) (setRing (ringCpl x) { c with owed := c.owed + 1 } s)

/-- The device reads entry `x.dev` of a host-produced ring; where its opcode and length stand, and it is indirect, its body (R353,
R358, R359). -/
def fetchEntry (x : Ring) (e : List Byte) (opOk entryErr : Bool) (s : State) : State :=
  let s := emit (.fetch (ringEntryAddr x x.dev) 64) s
  if !entryErr && entIndirect e && decide (envelope opOk e false = 0) then emit (.fetch (entBufAddr e) (entLen e)) s else s

/-- R253, R359, R360: the dispatcher reads the next entry of a command ring. `entry` and `body` are what host memory
holds. A command that fails its envelope completes once the ring's earlier commands have, so that
completions keep the ring's order (R361; assumption 35). -/
def execCommandFetch (r : Nat) (entry body : List Byte) (entryErr bodyErr : Bool) (s : State) : Out :=
  .next (
    let e := padTo 64 entry
    let op := entOpcode e
    let f := fetchEntry (ring s r) e (opcodeOk s op) entryErr s
    if !ringReady s r || !intakeOpen s || !intakeTurn s (4 + r) then s
    else if entryErr || s.io.lost then ringError r 3 (sticky Reg.HIF_STICKY 3 f)
    else
      let code := envelope (opcodeOk s op) e bodyErr
      let c := entCmd r (ringFlow s r) (ring s r) e
      if code ≠ 0 then
        let s := stickyIf (decide (code = 0x7A)) Reg.HIF_STICKY 3 (intakeServed (4 + r) (takeEntry r f))
        flushLate (setDsp { s.dsp with late := s.dsp.late ++ [⟨s.dsp.nextId, c, code, if op = 0x08 then ledgerDetail s 0 else []⟩] } s)
      else
        addJob (opKind op) (ringFlow s r) (levelFor s (opKind op) r) ((s.tim.now : Nat) : Int) 0 none (.body (entBody e body)) (some c)
          (intakeServed (4 + r) (takeEntry r f)))

/-- R362: NOP completes OK. -/
def execNop (s : State) : Out := .next (withCmd 6 0x00 (fun _ s => (s, 0, [])) s)

/-! ### Machine table -/

/-- The entry that 32 bytes spell (Table 5.4). -/
def decodeEntry (b : List Byte) : MachEntry :=
  ⟨leAt b 0 1, decide (leAt b 1 1 % 2 = 1), decide (leAt b 1 1 / 2 % 2 = 1), decide (leAt b 1 1 / 4 % 2 = 1), leAt b 2 1, leAt b 3 1,
   leAt b 4 2 % 256, decide (leAt b 4 2 / 256 % 2 = 1), leAt b 6 1, leAt b 7 1, leAt b 8 1, leAt b 10 2, (padTo 32 b).drop 12 |>.take 16⟩

/-- The 32 bytes of an entry, RESET_SEQ reading 0 (R363). -/
def encodeEntry (e : MachEntry) : List Byte :=
  leBytes 1 e.gen ++ leBytes 1 (b2n e.learn + 2 * b2n e.strict + 4 * b2n e.dualAnt) ++ leBytes 1 e.port ++ leBytes 1 e.cls ++
  leBytes 2 (e.slot + 256 * b2n e.slotValid) ++ leBytes 1 e.key0 ++ leBytes 1 e.key1 ++ leBytes 1 e.txSel ++ zeros 1 ++
  leBytes 2 e.udpPort ++ padTo 16 e.addr ++ zeros 4

/-- An entry that MACHINE_SET takes (R363; assumption 36 on bits that Table 5.4 leaves out). -/
def entryOk (s : State) (b : List Byte) : Bool :=
  decide (leAt b 0 1 ≤ 2) && decide (leAt b 1 1 < 16) && decide (leAt b 2 1 < gradePorts s) && decide (leAt b 3 1 < 32) &&
  decide (leAt b 4 2 < 512) && decide (leAt b 6 1 < 64) && decide (leAt b 7 1 < 64) && decide (leAt b 8 1 ≤ 1) &&
  decide (leAt b 9 1 = 0) && decide (leAt b 28 4 = 0)

/-- A fix engine runs a job of slot `k`. -/
def slotInService (s : State) (k : Nat) : Bool :=
  s.pst.engine.any (fun e => match e.2.job with | some j => decide (j.2.slot = k) | none => false)

/-- A slot whose state has been discarded: WB_COUNT, which counts write-backs alone, stays (R204). -/
def emptied (k : Nat) (x : Slot) : Slot := { slotDef k with wb := x.wb }

/-- A slot's state is discarded (Table 6.1), once what waits for it has completed. -/
def emptySlot (k : Nat) (waits : Bool) (s : State) : State :=
  putSlot k (if waits then { fixSlot s k with resetWaits := true } else emptied k (fixSlot s k)) s

/-- A reset of slot `k` follows a job of the slot in service (R204). -/
def resetSlot (k : Nat) (s : State) : State := emptySlot k (slotInService s k) s

/-- Machine `m` has an OBS epoch or a fix job in its flow. -/
def obsHeld (s : State) (m : Nat) : Bool :=
  (flowJobs s m).any (fun j => match j.work with | .obs _ _ _ => true | _ => false)

/-- Table 6.1: the owner's GEN leaves 2, or SLOT_VALID is cleared. Its jobs held complete first (R153, R202), unless they
find another slot. -/
def slotAfterSet (m : Nat) (old new : MachEntry) (s : State) : State :=
  let x := fixSlot s old.slot
  if x.run && decide (x.owner = m) && ((decide (old.gen = 2) && decide (new.gen ≠ 2)) || (old.slotValid && !new.slotValid)) then
    emptySlot old.slot (slotInService s old.slot || (decide (old.slot = new.slot) && obsHeld s m)) s
  else s

/-- The last OBS epoch of a machine has left: a slot that waited for it is emptied, unless a job of the slot still runs. -/
def slotSettle (m : Nat) (s : State) : State :=
  let k := (mach s m).entry.slot
  if (fixSlot s k).resetWaits && !obsHeld s m && !slotInService s k then emptySlot k false s else s

/-- R150, R156, R363, Tables 6.1 and 8.4. -/
def machineSet (b : List Byte) (s : State) : State × Nat × List Byte :=
  let m := leAt b 0 2 % 1024
  let eb := b.drop 4
  if gradeMachines s ≤ m ∨ entryOk s eb = false then (s, 0x7B, [])
  else
    let x := mach s m
    let e := decodeEntry eb
    let again := decide (leAt eb 1 1 / 8 % 2 = 1) || decide (x.entry.gen ≠ e.gen)
    let s := slotAfterSet m x.entry e (putMach m { x with entry := e, resetSeq := x.resetSeq || again } s)
    (keyLossCheck (if e.gen = 0 then taskReturn m s else s), 0, [])

def execMachineSet (s : State) : Out := .next (withCmd 6 0x01 (activeOnly machineSet) s)

/-- R363. -/
def machineGet (b : List Byte) (s : State) : State × Nat × List Byte :=
  let m := leAt b 0 2 % 1024
  if gradeMachines s ≤ m then (s, 0x7B, []) else (s, 0, encodeEntry (mach s m).entry)

def execMachineGet (s : State) : Out := .next (withCmd 6 0x02 machineGet s)

/-! ### Host transmit -/

/-- A frame with the port's VLAN tag, padded to 60 bytes (R364). -/
def hostFrame (s : State) (n : Nat) (f : List Byte) : List Byte :=
  let g := f.take 12 ++ vlanTag s n ++ f.drop 12
  g ++ zeros (60 - g.length)

/-- Ring `r` can give an entry now: completion room (R360), Q5 has room (R364), its port is there. In recovery its commands complete
BAD_OPCODE (R427). -/
def netTxReady (s : State) (r : Nat) : Bool :=
  let x := ring s r
  let c := ring s (ringCpl x)
  decide (r < 256) && ringRuns 5 x && !s.io.dmaHeld && decide (ringFill x ≠ 0) && decide (ringFill c + c.owed < ringSize c) &&
  (s.crp.recovery || (portServes s (ringPort x) && decide ((netPort s (ringPort x)).q5.length < 256)))

/-- A frame of ring `r` waits or is being sent. -/
def netTxBusy (s : State) (r : Nat) : Bool :=
  let p := netPort s (ringPort (ring s r))
  let of (f : TxFrame) : Bool := match f.cmd with | some c => decide (c.ring = r) | none => false
  p.q5.any of || (match p.tx with | some f => of f | none => false)

/-- R359, R364: an entry of a host transmit ring. `frame` is what stands at FRAME_ADDR. An entry that sends nothing
completes after the frames of its ring before it (R361).
Of a FRAME_LEN out of range no frame can be read, so its BAD_FIELD stands where DMA_ERROR would rank first (DEDUCED, assumption 222). -/
def execNetTx (r : Nat) (entry body frame : List Byte) (entryErr bodyErr frameErr : Bool) (s : State) : Out :=
  .next (
    let e := padTo 64 entry
    let opOk := decide (entOpcode e = 0x20) && !s.crp.recovery
    let f := fetchEntry (ring s r) e opOk entryErr s
    if !netTxReady s r then s
    else if entryErr || s.io.lost then ringError r 3 (sticky Reg.HIF_STICKY 3 f)
    else
      let n := ringPort (ring s r)
      let b := entBody e body
      let len := leAt b 10 2
      let env := envelope opOk e bodyErr
      let lenOk := decide (14 ≤ len) && decide (len ≤ if flag s (Reg.NET_CTRL n) 9 then 9014 else 1514)
      let f := if env = 0 ∧ lenOk = true then emit (.fetch (leAt b 16 8) len) f else f
      let code :=
        if env ≠ 0 then env
        else if !lenOk then 0x7B
        else if frameErr then 0x7A
        else 0
      let c := entCmd r 0xFFFF (ring s r) e
      if code ≠ 0 then
        if netTxBusy s r then s
        else complete c code (if entOpcode e = 0x08 then ledgerDetail s 0 else [])
          (stickyIf (decide (code = 0x7A)) Reg.HIF_STICKY 3 (takeEntry r f))
      else
        let launch := if leAt b 8 1 % 2 = 1 then some (near32 s.tim.now (leAt b 0 4) (leAt b 4 4)) else none
        (enqueue n 5 ⟨.host, hostFrame s n (padTo len frame), launch, 0, 0, some c, 0, none⟩ (takeEntry r f)).1)

/-! ### Events and vectors -/

/-- Delivers the sources of a mask of group `g`. -/
def deliverMask (g : Nat) (w : Word) (s : State) : State :=
  (List.range 32).foldl (fun s b => if bitAt w b then withIo (deliver s.tim.now (Tab.get raiseDef (ioEv s.io g).at_ b) (chained s) (32 * g + b)) s else s) s

/-- R369: ENABLE of group `g` is written; a source enabled while pending is delivered at once. -/
def execEventEnable (g : Nat) (w : Word) (s : State) : Out :=
  let e := ioEv s.io g
  .next (
    if 16 ≤ g then s
    else deliverMask g (w &&& ~~~e.enable &&& e.pending) { s with io := ioSetEv s.io g { e with enable := w } })

/-- R370: the minimum interval of vector `v` has passed since its last message. A device time set back does not lengthen it. -/
def vecDue (s : State) (v : Nat) : Bool :=
  let x := ioVec s.io v
  decide (s.tim.now < x.sentAt) || decide (x.sentAt + x.minUs * tUs ≤ s.tim.now)

/-- R370: the minimum interval of vector `v` ends: one message for all triggers held. -/
def execVectorModerationEnd (v : Nat) (s : State) : Out :=
  let x := ioVec s.io v
  .next (
    if !x.holding || !vecDue s v then s
    else
      let s := { s with io := ioSetVec s.io v { x with holding := false, again := false } }
      if x.again then withIo (vecTrigger s.tim.now (chained s) v) s else s)

/-- The messages in the pending array whose vectors are not masked are sent, as far as messages may be. -/
def sendPending (s : State) : State :=
  ((s.io.vec.filter (fun e => e.2.pba && !e.2.masked)).map (·.1)).foldl (fun s v => withIo (vecTrigger s.tim.now (chained s) v) s) s

/-- R370: a vector's mask is cleared, or the function mask is written; a pending message that neither masks any more is sent. -/
def execMsixUnmask (x : MsixWrite) (s : State) : Out :=
  .next (match x with
    | .vector v =>
      if 64 ≤ v ∨ (ioVec s.io v).masked = false then s
      else
        let t := { s with io := ioSetVec s.io v { ioVec s.io v with masked := false } }
        if (ioVec s.io v).pba then withIo (vecTrigger s.tim.now (chained s) v) t else t
    | .function m =>
      let t := { s with io := { s.io with fnMask := m } }
      if m then t else sendPending t)

/-! ### PCIe endpoint -/

/-- A frame without the command that it answers. -/
def forgetFrame (f : TxFrame) : TxFrame := { f with cmd := none }

/-- The completion of a command is discarded. -/
def deadCmd (c : Cmd) : Cmd := { c with dead := true }

/-- A register of the host interface. -/
def isHif (a : Nat) : Bool := decide (0x01200000 ≤ a) && decide (a ≤ 0x012FFFFF)

/-- What a hold of DMA has kept back reaches its address, the results, unless device writes fail (R374); and a graph is fetched (R349). Assumption 238. -/
def dmaFlush (s : State) : State :=
  let l := s.io.dmaWait
  let s := { s with io := { s.io with dmaWait := [] } }
  let s := if s.io.lost then stickyIf (!l.isEmpty) Reg.HIF_STICKY 3 s else l.foldl (fun s w => emit (.dma w.1 w.2) s) s
  if s.cht.loadHeld then emit (.fetch s.cht.loadAddr s.cht.loadLen) { s with cht := { s.cht with loadHeld := false } } else s

/-- R348: region HOST alone is reset; commands already taken run on to their effect, their results included, and their completions are
discarded. -/
def execPcieReset (s : State) : Out :=
  let s := dmaFlush s
  .next { s with
    io := ioSetStk { s.io with evt := [], ring := [], vec := [], linkUp := false, speed := 0, width := 0, dmaHeld := false,
                               fnMask := false, lost := false } Reg.HIF_STICKY 0,
    crp := { s.crp with fifo := s.crp.fifo.filter (fun e => e.1 ≠ 8 ∧ e.1 ≠ 9) },
    bank := { s.bank with low := s.bank.low.filter (fun e => !isHif e.1), capt := s.bank.capt.filter (fun e => !isHif e.1) },
    dsp := { s.dsp with jobs := s.dsp.jobs.map (fun j => { j with cmd := j.cmd.map deadCmd }), late := [] },
    acq := { s.acq with fifo0 := s.acq.fifo0.map (fun q => { q with cmd := q.cmd.map deadCmd }),
                        fifo1 := s.acq.fifo1.map (fun q => { q with cmd := q.cmd.map deadCmd }),
                        pipe := s.acq.pipe.map (fun e => (e.1, { e.2 with cmd := e.2.cmd.map deadCmd })) },
    net := s.net.map (fun e => (e.1, { e.2 with q5 := e.2.q5.map forgetFrame, tx := e.2.tx.map forgetFrame })) }

/-- R349: Bus Master Enable is cleared or the function enters D3hot. -/
def execDmaHold (s : State) : Out :=
  .next (if s.io.dmaHeld then s else sticky Reg.HIF_STICKY 7 { s with io := { s.io with dmaHeld := true } })

/-- Writes the entries held for a completion ring, its index once at the end; the ring's vector is then pending. -/
def flushRing (s : State) (r : Nat) : State :=
  let l := (ring s r).held
  if l.isEmpty then s
  else if s.io.lost then withIo (ringFail r) (setRing r { ring s r with held := [] } s)
  else
    let s := setRing r { ring s r with held := [] } s
    let s := l.foldl (fun s e =>
      let x := ring s r
      if ringRuns 2 x && decide (ringFill x < ringSize x) then
        perf 0x181 1 (setRing r { x with dev := (x.dev + 1) % 2 ^ 32 } (emit (.ringEntry r (ringEntryAddr x x.dev) e) s))
      else sticky Reg.HIF_STICKY 5 (setRing r { x with drop := min (x.drop + 1) 0xFFFFFFFF } s)) s
    let x := ring s r
    if ringVecEn x then
      let v := ioVec s.io (ringVector x)
      { s with io := ioSetVec s.io (ringVector x) { v with pba := true } }
    else s

/-- R349: DMA is allowed again: the held results, a graph's fetch and the completions, the index words, then the pending messages. -/
def execDmaResume (s : State) : Out :=
  .next (
    if !s.io.dmaHeld then s
    else
      let s := dmaFlush s
      let rings := (s.io.ring.filter (fun e => !e.2.held.isEmpty)).map (·.1)
      let s := rings.foldl flushRing s
      let s := rings.foldl (fun s r => if ringEn (ring s r) && !s.io.lost then emit (.ringIndex r (ringIndexAddr (ring s r)) (ring s r).dev) s else s) s
      sendPending { s with io := { s.io with dmaHeld := false } })

end Sys2Proof.Machine
end

