-- ==== Sys2Proof/Machine/Regions.lean ====
section
/-! DEFINITION. Regions: which of them run (R21), what their registers go back to (R397), pins of captures (R84), and
the reset of each region's own state. -/
namespace Sys2Proof.Machine

/-- The registers from `lo` to below `hi` go back to their reset values. -/
def clearRegs (lo hi : Nat) (s : State) : State :=
  let keep (t : Tab Word) : Tab Word := t.filter (fun e => e.1 < lo || decide (hi ≤ e.1))
  { s with bank := ⟨keep s.bank.regs, keep s.bank.shadow, keep s.bank.low, keep s.bank.capt⟩ }

/-- Sticky registers from `lo` to below `hi` go back to 0; no source is raised. -/
def clearStk (lo hi : Nat) (s : State) : State :=
  { s with io := { s.io with stk := s.io.stk.filter (fun e => e.1 < lo || decide (hi ≤ e.1)) } }

/-- Removes the entries of a table whose index satisfies `p`. -/
def Tab.drop {α : Type} (p : Nat → Bool) (t : Tab α) : Tab α := t.filter (fun e => !p e.1)

def setPd (k : Nat) (v : PdState) (s : State) : State := setCrp { s.crp with pd := Tab.put pdDef s.crp.pd k v } s

/-- The BB side of ingress runs: PD_3 on, not held in reset (R379). -/
def bbUp (s : State) : Bool := decide (pdState s 3 = .on) && !s.ing.held

/-- BB has lost its lock while it is in use: the bridge carries nothing from it (R379). -/
def bridgeCut (s : State) : Bool := s.ing.held && decide (pdState s 3 = .on)

/-- Region CORR_r runs. -/
def corrUp (s : State) (r : Nat) : Bool :=
  decide (pdState s (4 + r) = .on) && bbUp s && !s.crp.inReset.getLsbD (1 + r)

/-- Region ACQ runs, and the bridge carries its accesses (R379). -/
def acqUp (s : State) : Bool := decide (pdState s 8 = .on) && !s.crp.inReset.getLsbD 5 && !bridgeCut s

/-- Regions FIX and CHART run. -/
def fixUp (s : State) : Bool := decide (pdState s 9 = .on) && !s.crp.inReset.getLsbD 6
def chartUp (s : State) : Bool := decide (pdState s 10 = .on) && !s.crp.inReset.getLsbD 7

/-- A channel's context runs in its region. -/
def chUp (s : State) (ch : Nat) : Bool := decide (ch < gradeChannels s) && corrUp s (ch / 512)

/-! ### Contexts and captures -/

def ctx (s : State) (ch : Nat) : Ctx := Tab.get ctxDef s.cor.ctx ch
def setCtx (ch : Nat) (c : Ctx) (s : State) : State := { s with cor := { s.cor with ctx := Tab.put ctxDef s.cor.ctx ch c } }
def corUnit (s : State) (u : Nat) : CorUnit := Tab.get unitDef s.cor.unit u
def setUnit (u : Nat) (x : CorUnit) (s : State) : State := { s with cor := { s.cor with unit := Tab.put unitDef s.cor.unit u x } }

def capture (s : State) (id : Nat) : Capture := Tab.get capDef s.acq.caps id
def setCapture (id : Nat) (c : Capture) (s : State) : State := { s with acq := { s.acq with caps := Tab.put capDef s.acq.caps id c } }

/-- The pin count of a capture (R84). -/
def pins (s : State) (id : Nat) : Nat :=
  let of (q : Search) : Bool := decide (q.source = 0) && decide (q.capture = id)
  (s.acq.fifo0.filter of).length + (s.acq.fifo1.filter of).length + (s.acq.pipe.filter (fun e => of e.2)).length +
  (s.cor.ctx.filter (fun e => (decide (e.2.state = .armed) || decide (e.2.state = .run)) && decide (e.2.cap = some id))).length

/-- Deferred releases whose capture is pinned no longer take effect (R84). -/
def releaseDue (s : State) : State :=
  { s with acq := { s.acq with caps := s.acq.caps.filter (fun e => !(e.2.deferred && decide (pins s e.1 = 0))) } }

def ant (s : State) (n : Nat) : Ant := Tab.get antDef s.ing.ant n

def cfgAnt (c : Ctx) : Nat := bits c.cfg 1 0
def cfgReplay (c : Ctx) : Bool := bitAt c.cfg 13

/-- The device time of the sample that a live antenna delivers now: the BB counter less the antenna's latency (R44). -/
def liveTime (s : State) (n : Nat) : Nat := s.tim.bb - (ant s n).latency.toNat * tNs / 1000

/-- Index in its capture of the first sample of a replay: at or after AT, at 8,184 samples to 100 µs (R66). -/
def replayFirst (s : State) (c : Ctx) : Nat :=
  match c.cap with
  | some id => ceilDiv ((c.at_ - ((capture s id).startMs * 1000000 : Nat)).toNat * 8184) 100000
  | none => 0

/-- The instant of the sample being processed, the latest of `nsamp`, in ns: for a replay the capture time. -/
def sampleNs (s : State) (c : Ctx) : Nat :=
  match cfgReplay c, c.cap with
  | true, some id => (capture s id).startMs * 1000000 + (replayFirst s c + (c.nsamp - 1)) * 100000 / 8184
  | _, _ => nsOf (liveTime s (cfgAnt c))

/-- A context leaves RUN for the state `st`: the run stays known for the epochs not yet formed, the latest of which lies at most a
second back (R116, R117). The runs known are those of `l`. -/
def runEnded (s : State) (ch : Nat) (c : Ctx) (st : CtxState) (l : List EndedRun) : List EndedRun :=
  if c.state = .run ∧ cfgReplay c = false then
    ⟨ch, sampleNs s c, { c with state := st }⟩ :: l.filter (fun x => decide (formPoint s ≤ x.at_ + 2000000000))
  else l

/-- A context leaves RUN. -/
def runEnds (ch : Nat) (c : Ctx) (st : CtxState) (s : State) : State :=
  { s with cor := { s.cor with ended := runEnded s ch c st s.cor.ended } }

/-- A context goes back to IDLE. -/
def ctxIdle (ch : Nat) (c : Ctx) (s : State) : State :=
  releaseDue (setCtx ch { c with state := .idle, stopAt := none } (runEnds ch c .idle s))

/-- Region CORR_r is reset (R78, R397): contexts, units, their registers, the quarantine bits. Integrations of a run are lost, as by
a quarantine. -/
def resetCorr (r : Nat) (s : State) : State :=
  let ended := (s.cor.ctx.filter (fun e => e.1 / 512 = r)).foldl (fun l e => runEnded s e.1 e.2 .quarantined l) s.cor.ended
  let s := { s with cor := { s.cor with ended := ended, ctx := Tab.drop (fun k => k / 512 = r) s.cor.ctx,
                                        unit := Tab.drop (fun k => k / 32 = r) s.cor.unit } }
  releaseDue (wr (Reg.COR_QUAR r) 0 (clearRegs (Reg.COR_CFG (512 * r)) (Reg.COR_CFG (512 * (r + 1))) s))

/-- Region ACQ is reset: its registers and pipelines. A search that ran returns to the head of its queue, which lies in
CTRL (R93, Table 1.4; assumption 37). -/
def resetAcq (s : State) : State :=
  let back (prio : Nat) : List Search := (s.acq.pipe.map (·.2)).filter (fun q => q.sel / 128 = prio)
  clearStk 0x800000 0x900000 (clearRegs 0x800000 0x900000
    { s with acq := { s.acq with fifo0 := back 0 ++ s.acq.fifo0, fifo1 := back 1 ++ s.acq.fifo1, pipe := [], lastCap := none } })

/-- What ACQ loses when its power goes. -/
def acqLost (s : State) : State := { resetAcq s with acq := { (resetAcq s).acq with code := [] } }

end Sys2Proof.Machine
end

