-- ==== Sys2Proof/Machine/Ingress.lean ====
section
/-! DEFINITION. The bridge, the thermal governor and antenna ingress (chapters 1 and 2). -/
namespace Sys2Proof.Machine

def setIng (g : Ing) (s : State) : State := { s with ing := g }
def setAnt (n : Nat) (a : Ant) (s : State) : State := setIng { s.ing with ant := Tab.put antDef s.ing.ant n a } s

/-- Antenna `n` exists and ingress runs. -/
def antUp (s : State) (n : Nat) : Bool := decide (n < gradeAnts s) && bbUp s

/-! ### Bridge -/

/-- R23: every lane failure sets BRIDGE_DEGRADED; the bridge runs on 8 lanes from the first on. -/
def execBridgeLaneFail (s : State) : Out := .next (sticky Reg.GLB_ERR 2 (setIng { s.ing with degraded := true } s))

/-- R25: 1 ms without traffic; the loss counts from the start of the silence. -/
def execBridgeSilent (s : State) : Out :=
  .next (
    if s.ing.silent then s
    else reportLoss ((s.tim.now : Int) - (tMs : Int)) (sticky Reg.GLB_ERR 3 (setIng { s.ing with silent := true } s)))

/-! ### Thermal governor (R27) -/

/-- A sensor byte of GLB_TEMP as a temperature. -/
def tempAt (w : Word) (k : Nat) : Int := signed 8 (bits w (8 * k + 7) (8 * k))

/-- The highest of the three sensors. -/
def tempMax (w : Word) : Int := max (tempAt w 0) (max (tempAt w 1) (tempAt w 2))

/-- The 105 °C stage is in force (GLB_TEMP.HOT). -/
def hot (s : State) : Bool := flag s Reg.GLB_TEMP 24

/-- Stop cause 3 ends when every sensor reads below 100 °C and THERMAL_TRIP is clear (Table 7.10). -/
def tripCheck (s : State) : State :=
  if s.crp.tripStop && decide (tempMax (rd s Reg.GLB_TEMP) < 100) && !bitAt (stk s Reg.GLB_ERR) 1 then
    setCrp { s.crp with tripStop := false } s
  else s

/-- GLB_TEMP after a sample. A reading that a byte does not hold stands at its end (assumption 220). -/
def tempWord (old : Word) (bb fl nv : Int) : Word :=
  let m := max bb (max fl nv)
  let isHot := decide (105 ≤ m) || (bitAt old 24 && decide (100 ≤ m))
  let byte (x : Int) : Nat := wrapInt 8 (max (-128) (min 127 x))
  BitVec.ofNat 32 (byte bb + 2 ^ 8 * byte fl + 2 ^ 16 * byte nv + 2 ^ 24 * b2n isHot + 2 ^ 25 * b2n (decide (115 ≤ m)))

/-- A die's sensor reaches 115 °C. -/
def tripDie (old new : Word) (s : State) (k : Nat) : State :=
  if tempAt old k < 115 ∧ 115 ≤ tempAt new k then
    record 0x42 k (leBytes 4 new.toNat) (sticky Reg.GLB_ERR 1 (setCrp { s.crp with tripStop := true } s))
  else s

/-- R27: the highest reading of each die; a stage acts when a reading first reaches it (assumption 38). -/
def execThermalSample (bb fl nv : Int) (s : State) : Out :=
  let old := rd s Reg.GLB_TEMP
  let new := tempWord old bb fl nv
  let s := wr Reg.GLB_TEMP new s
  let s := (List.range 3).foldl (fun s k => stickyIf (decide (tempAt old k < 100) && decide (100 ≤ tempAt new k)) Reg.GLB_ERR 0 s) s
  .next (tripCheck ((List.range 3).foldl (tripDie old new) s))

/-- R373: a write of GLB_ERR with THERMAL_TRIP set. -/
def execThermalTripClear (w : Word) (s : State) : Out :=
  .next (tripCheck { s with io := ioSetStk s.io Reg.GLB_ERR (stk s Reg.GLB_ERR &&& ~~~(w &&& 0xF)) })

/-! ### Link bring-up -/

/-- R80: ANT_EN. A set bit starts bring-up, a cleared bit takes the link down at once. -/
def antSwitch (w : Word) (s : State) (n : Nat) : State :=
  let a := ant s n
  if gradeAnts s ≤ n then s
  else if bitAt w n then
    if a.link = .down then setAnt n { a with link := .codeGroup, aligned := false, waitSysref := false, nondet := false } s else s
  else setAnt n { a with link := .down, cdrLock := false, aligned := false, waitSysref := false, nondet := false } s

/-- The low `n` bits of a word. -/
def lowBits (n : Nat) (w : Word) : Word := BitVec.ofNat 32 (w.toNat % 2 ^ n)

def execAntEn (w : Word) (s : State) : Out :=
  .next (if bbUp s then (List.range 4).foldl (antSwitch w) (wr Reg.ING_CTRL (lowBits (gradeAnts s) w) s) else s)

/-- SUBCLASS0 is in force: outside MAINTAIN the bit is forbidden, and reads 0 (R2, R47). -/
def subclass0 (s : State) (n : Nat) : Bool := decide (s.crp.mode = .maintain) && flag s (Reg.ING_CFG n) 1

/-- The frame of the multiframe at which the elastic buffer releases: RBD frames after the LMFC edge (R43). -/
def releaseFrame (s : State) (n lmfc : Nat) : Nat := (lmfc + fld s (Reg.ING_CFG n) 12 8) % 32

/-- Four valid /K28.5/ characters: the link waits for SYSREF, or in subclass 0 releases on its own alignment (R43, R47). -/
def execCodeGroupSync (n : Nat) (s : State) : Out :=
  let a := ant s n
  .next (
    if antUp s n && decide (a.link = .codeGroup) then
      if subclass0 s n then setAnt n { a with cdrLock := true, link := .lane, nondet := true } s
      else setAnt n { a with cdrLock := true, waitSysref := true, nondet := false } s
    else s)

/-- A pulse is due. -/
def sysrefDue (s : State) : Bool :=
  decide (s.ing.sysrefAt < sysrefIdx s) && (match fld s Reg.ING_SYSREF_CTL 1 0 with | 1 => s.ing.sysrefPend | 2 => true | _ => false)

/-- The pulse leaves SYSREF_OUT_n of an enabled antenna (R42), and its receiver takes it (R43): `phases` gives, by antenna, the
frame, of the 32 that the SAMPLE clock counts over and over, in which the pulse reaches it. The count runs on through sets and
steps of device time, so a pulse that these displaced falls off the LMFC edge. The first after the link is enabled aligns the LMFC; a later one is
checked, and realigns it under REALIGN. In subclass 0 the link ignores it (R47). -/
def sysrefTake (phases : List (BitVec 5)) (s : State) (n : Nat) : State :=
  let a := ant s n
  if gradeAnts s ≤ n ∨ a.link = .down then s
  else
    let s := emit (.sysref n) s
    if subclass0 s n ∨ a.nondet = true then s
    else
      let p := ((phases.drop n).headD 0).toNat
      let moves := !a.aligned || flag s (Reg.ING_CFG n) 2
      let a' := { a with aligned := true, waitSysref := false, link := if a.waitSysref then LinkState.lane else a.link,
                         lmfc := if moves then p else a.lmfc, release := if moves then releaseFrame s n p else a.release }
      stickyIf (a.aligned && decide (p ≠ a.lmfc)) Reg.ING_STICKY (8 + n) (setAnt n a' s)

def execSysrefPulse (phases : List (BitVec 5)) (s : State) : Out :=
  .next (
    if bbUp s && sysrefDue s then
      let s := setIng { s.ing with sysrefPend := false, sysrefAt := sysrefIdx s } s
      (List.range 4).foldl (sysrefTake phases) s
    else s)

/-- The link configuration octets agree with Table 2.1 and the expected scrambling and subclass (fields where JESD204B
places them; assumption 39). -/
def ilasOk (s : State) (n : Nat) (o : List Byte) : Bool :=
  let b (k : Nat) : Nat := leAt o k 1
  let sub := if subclass0 s n then 0 else 1
  decide (b 3 / 128 = b2n (flag s (Reg.ING_CFG n) 0)) && decide (b 3 % 32 = 0) && decide (b 4 = 3) && decide (b 5 % 32 = 31) &&
  decide (b 6 = 7) && decide (b 7 / 64 = 0) && decide (b 7 % 32 = 3) && decide (b 8 / 32 = sub) && decide (b 8 % 32 = 3) &&
  decide (b 9 / 32 = 1) && decide (b 9 % 32 = 0) && decide (b 10 / 128 = 0) && decide (b 10 % 32 = 0)

/-- R48. -/
def execIlasReceived (n : Nat) (octets : List Byte) (s : State) : Out :=
  let a := ant s n
  .next (
    if antUp s n && decide (a.link = .lane) then
      if ilasOk s n octets then setAnt n { a with link := .data } s
      else
        let o := padTo 14 octets
        let s := (List.range 4).foldl (fun s i => wr (Reg.ING_ILAS n i) (BitVec.ofNat 32 (leAt o (4 * i) 4)) s) s
        sticky Reg.ING_STICKY (4 + n) (setAnt n { a with link := .codeGroup, waitSysref := false } s)
    else s)

/-- Marks every context that runs live on antenna `n`. A replay's dumps carry no LATENCY_STEP, though its capture may span the
instant: a capture does not record it (assumption 148). -/
def markAnt (n : Nat) (f : Ctx → Ctx) (s : State) : State :=
  { s with cor := { s.cor with ctx := s.cor.ctx.map (fun e =>
      (e.1, if e.2.state = .run ∧ bits e.2.cfg 1 0 = n ∧ bitAt e.2.cfg 13 = false then f e.2 else e.2)) } }

/-- Link loss (R50): back to step 2 of the bring-up. LMFC_ALIGNED keeps its value, since the LMFC runs on (assumption 146). -/
def linkLoss (n : Nat) (cdrLost : Bool) (s : State) : State :=
  let a := ant s n
  let w := rd s (Reg.ING_ERRCNT n)
  sticky Reg.ING_STICKY n (wr (Reg.ING_ERRCNT n) (setBits w 31 16 (min (bits w 31 16 + 1) 0xFFFF))
    (setAnt n { a with link := .codeGroup, cdrLock := a.cdrLock && !cdrLost, waitSysref := false, errs := 0 } s))

/-- The multiframe of antenna `n` that is running: 160 TIME cycles each, from its LMFC edge in the SAMPLE clock's count
(Table 2.1). Neither is moved by a set or a step of device time. A subclass-0 link, which aligns to no SYSREF, counts from the edge
that the antenna holds (DESIGN CHOICE, assumption 223). -/
def multiframe (s : State) (n : Nat) : Nat := (s.tim.cycles + 160 - 5 * (ant s n).lmfc) / 160

/-- R49: one frame is replaced by zero samples. Sixteen code errors in one multiframe are a link loss (R50). -/
def execCodeErr (n : Nat) (s : State) : Out :=
  let w := rd s (Reg.ING_ERRCNT n)
  let a := ant s n
  let errs := if a.errMf = multiframe s n then a.errs + 1 else 1
  .next (
    if antUp s n && decide (a.link = .data) then
      let s := markAnt n (fun c => { c with ingressGap := true })
        (perf 0x103 1 (wr (Reg.ING_ERRCNT n) (setBits w 15 0 (min (bits w 15 0 + 1) 0xFFFF))
          (setAnt n { a with errs := errs, errMf := multiframe s n } s)))
      if 16 ≤ errs then linkLoss n false s else s
    else s)

/-- R50: link loss on misplaced /A/ characters, or where the lane's clock and data recovery was lost. -/
def execLinkLoss (n : Nat) (cdrLost : Bool) (s : State) : Out :=
  .next (if antUp s n && decide ((ant s n).link ≠ .down) then linkLoss n cdrLost s else s)

/-- R51: `clipped` counts, per band, the clipped samples of the preceding millisecond, which has 81,840. The fraction is
rounded down to 1/256 (assumption 147). -/
def execIngClipLoad (n : Nat) (clipped : List Nat) (s : State) : Out :=
  let v (b : Nat) : Nat := min 255 ((clipped.getD b 0) * 256 / 81840)
  .next (
    if antUp s n && decide (Tab.get natDef s.ing.clipMs n < msIdx s.tim.now) then
      wr (Reg.ING_CLIP n) (BitVec.ofNat 32 (v 0 + 2 ^ 8 * v 1 + 2 ^ 16 * v 2 + 2 ^ 24 * v 3))
        (setIng { s.ing with clipMs := Tab.put natDef s.ing.clipMs n (msIdx s.tim.now) } s)
    else s)

/-- R45: a write of ING_n_LATENCY. -/
def execIngLatencyWrite (n : Nat) (w : Word) (s : State) : Out :=
  .next (if antUp s n then wr (Reg.ING_LATENCY n) w (setAnt n { ant s n with pendLatency := some (w, msIdx s.tim.now) } s) else s)

/-- R45: the next whole millisecond. -/
def execLatencyStep (n : Nat) (s : State) : Out :=
  let a := ant s n
  .next (match a.pendLatency with
    | some (w, m) =>
      if antUp s n && decide (m < msIdx s.tim.now) then
        markAnt n (fun c => { c with latencyStep := true }) (setAnt n { a with latency := w, pendLatency := none } s)
      else s
    | none => s)

end Sys2Proof.Machine
end

