-- ==== Sys2Proof/Machine/Tracking.lean ====
section
/-! DEFINITION. Channel contexts, dumps, rates, residue events and code memory (chapter 2). -/
namespace Sys2Proof.Machine

/-! ### Options and replicas -/

def cfgBand (c : Ctx) : Nat := bits c.cfg 3 2
def cfgComp (c : Ctx) : Nat := bits c.cfg 5 4
def cfgBoc (c : Ctx) : Bool := bitAt c.cfg 14
def cfgCore (c : Ctx) : Nat := bits c.cfg 16 15

/-- INTLEN in ms (Table 2.3). -/
def intMs (c : Ctx) : Nat := match bits c.cfg 8 6 with | 0 => 1 | 1 => 2 | 2 => 4 | 3 => 10 | _ => 20

/-- Chips of one integration (R65). -/
def intChips (c : Ctx) : Nat := intMs c * c.chipsPerMs

/-- One chip of a code in the memory of cluster `k` at a position in 2⁻⁴⁸ chip (R54, R57, R59): 1, −1, or 0 for a code of
length 0. -/
def chipAt (s : State) (k base len : Nat) (boc : Bool) (pos : Int) : Int :=
  if len = 0 then 0
  else
    let i := ((pos / (2 ^ 48 : Nat)) % (len : Int)).toNat
    let a := (base + i) % 2 ^ 24
    let v : Int := if bitAt (Tab.get wordDef s.cor.code (k * 2 ^ 19 + a / 32)) (a % 32) then -1 else 1
    if boc && decide (((2 ^ 47 : Nat) : Int) ≤ pos % (2 ^ 48 : Nat)) then -v else v

/-- Code A and code B of a context at an offset from prompt. -/
def codeA (s : State) (ch : Nat) (c : Ctx) (off : Int) : Int :=
  chipAt s (ch / 256) c.aBase c.aLen (cfgBoc c) ((c.idxA * 2 ^ 48 + c.codeNco : Nat) + off)
def codeB (s : State) (ch : Nat) (c : Ctx) (off : Int) : Int :=
  chipAt s (ch / 256) c.bBase c.bLen (cfgBoc c) ((c.idxB * 2 ^ 48 + c.codeNco : Nat) + off)

/-- The seven replica values VE, E, P, L, VL, PP, noise (Table 2.4, R57, R58). -/
def replicas (s : State) (ch : Nat) (c : Ctx) : List Int :=
  let d : Int := ((bits c.cfg 12 9 + 1) * 2 ^ 44 : Nat)
  let main (off : Int) : Int :=
    match cfgComp c with | 0 => codeA s ch c off | 1 => codeB s ch c off | _ => codeA s ch c off + codeB s ch c off
  let na := codeA s ch c ((c.aLen / 2 * 2 ^ 48 : Nat) : Int)
  let nb := codeB s ch c ((c.bLen / 2 * 2 ^ 48 : Nat) : Int)
  [main (-2 * d), main (-d), main 0, main d, main (2 * d), if cfgComp c = 1 then codeA s ch c 0 else codeB s ch c 0,
   match cfgComp c with | 0 => na | 1 => nb | _ => na + nb]

/-- An accumulator's limit (R64). -/
def accSat (x : Int) : Int := max (-8388607) (min 8388607 x)

/-- The mixer (R63): the product of a sample with the carrier. -/
def mixed (c : Ctx) (x : Int × Int) : Int × Int :=
  let t := Config.carrierTable (c.carrNco / 2 ^ 42)
  let sn := max (-7) (min 7 t.1)
  let cs := max (-7) (min 7 t.2)
  (x.1 * cs + x.2 * sn, x.2 * cs - x.1 * sn)

/-- One sample into the fourteen accumulators. -/
def accumulate (s : State) (ch : Nat) (c : Ctx) (x : Int × Int) : Ctx :=
  let m := mixed c x
  let sums := (List.zip (c.acc ++ List.replicate (14 - c.acc.length) 0)
    ((replicas s ch c).flatMap (fun r => [m.1 * r, m.2 * r]))).map (fun p => p.1 + p.2)
  { c with acc := sums.map accSat, sat := c.sat || sums.any (fun v => decide (accSat v ≠ v)) }

/-! ### Oscillators -/

/-- Advances the oscillators by `n` samples (R61, R62): chips carried, and the context. -/
def advance (n : Nat) (c : Ctx) : Ctx × Nat :=
  let code := c.codeNco + n * c.codeRate
  let chips := code / 2 ^ 48
  let carr : Int := (c.carrNco : Int) + (n : Int) * signed 48 c.carrRate
  let up (i len : Nat) : Nat := if len = 0 then 0 else (i + chips) % len
  ({ c with codeNco := code % 2 ^ 48, idxA := up c.idxA c.aLen, idxB := up c.idxB c.bLen,
            carrNco := wrapInt 48 carr, carrCyc := wrapInt 32 ((c.carrCyc : Int) + carr / (2 ^ 48 : Nat)),
            count := c.count + chips, nsamp := c.nsamp + n }, chips)

/-- Takes the pending rates (R69). -/
def applyRates (c : Ctx) : Ctx :=
  { c with codeRate := c.pendCode.getD c.codeRate, carrRate := c.pendCarr.getD c.carrRate,
           rateApplied := c.pendCode.isSome || c.pendCarr.isSome, rateMerged := decide (0 < c.pendCount),
           pendCode := none, pendCarr := none, pendCount := 0 }

/-! ### Dumps -/

/-- The antenna-band of a context delivers no samples: zeros, with INGRESS_GAP (R50, R60, R66). A replay context takes its
samples from its capture, whatever its antenna does now (assumption 181). -/
def noSamples (s : State) (c : Ctx) : Bool :=
  match cfgReplay c, c.cap with
  | true, some id => !((capture s id).stored / 2 ^ (4 * cfgAnt c + cfgBand c) % 2 == 1)
  | true, none => true
  | false, _ => !antUp s (cfgAnt c) || decide ((ant s (cfgAnt c)).link ≠ .data)

/-- FLAGS of a dump (Table 2.5). NONDET holds for an antenna in subclass 0, or whose link came up in it; a replay's dumps never carry it, since a
capture does not record it (R47; assumption 148). Of an integration that saw both, the boundary's instant decides (assumption 224). -/
def dumpFlags (s : State) (c : Ctx) (last : Bool) : Nat :=
  let f (i : Nat) (b : Bool) : Nat := if b then 2 ^ i else 0
  let nondet := !cfgReplay c && ((ant s (cfgAnt c)).nondet || subclass0 s (cfgAnt c))
  f 0 c.bad + f 1 c.gap + f 2 c.sat + f 3 c.ingressGap + f 4 (cfgReplay c) + f 5 c.rateApplied + f 6 c.rateMerged +
    f 7 (c.bbInvalid || !bbValid s) + f 8 c.lateStart + f 9 nondet + f 10 last + f 11 c.first + f 12 c.latencyStep

/-- The 64-byte dump (Table 2.5). -/
def dumpBytes (s : State) (ch : Nat) (c : Ctx) (last : Bool) : List Byte :=
  let t := sampleNs s c
  leBytes 2 ch ++ leBytes 2 (dumpFlags s c last) ++ leBytes 2 c.seq ++ leBytes 2 (t / 1000000000) ++ leBytes 4 (t % 1000000000) ++
  leBytes 4 ((if c.bLen ≠ 0 then c.idxB else c.idxA) % 2 ^ 20 + c.codeNco / 2 ^ 36 * 2 ^ 20) ++ leBytes 4 c.carrCyc ++
  leBytes 2 (c.carrNco / 2 ^ 32) ++ ((c.acc ++ List.replicate (14 - c.acc.length) 0).flatMap (fun v => leBytes 3 (wrapInt 24 v)))

/-! ### Lock time (R119) -/

/-- The instant from which lock time counts at `e`. -/
def lockAt (e : Nat) (l : List Nat) : Nat := ((l.filter (fun t => decide (t ≤ e))).max?).getD e

/-- Lock time counts from `ns` on. -/
def lockFrom (ns : Nat) (c : Ctx) : Ctx := { c with locks := ns :: c.locks, lockStart := false }

/-- Keeps the instants after the formation point `e` and the latest at or before it. -/
def pruneLocks (e : Nat) (l : List Nat) : List Nat :=
  match (l.filter (fun t => decide (t ≤ e))).max? with
  | some m => m :: l.filter (fun t => decide (e < t))
  | none => l

/-- Two dump numbers, modulo 65,536, at most 7 apart: no dump is discarded later than that after another. -/
def nearSeq (a b : Nat) : Bool := decide ((a + 65536 - b) % 65536 < 8) || decide ((b + 65536 - a) % 65536 < 8)

/-- The dump numbered `q`, ending at `ns`, is missing: BAD, or discarded; `first` is its FIRST flag. Beside a missing neighbour it
restarts lock time. -/
def missDump (first : Bool) (q ns : Nat) (c : Ctx) : Ctx :=
  let c' := if c.missed.contains ((q + 65535) % 65536) || c.missed.contains ((q + 1) % 65536) then lockFrom ns c else c
  { c' with missed := q :: c.missed.filter (nearSeq q), missed0 := if first then some ns else c.missed0 }

/-- Keeps of a channel's boundaries those after the formation point `e` and the latest at or before it. -/
def pruneMarks (e : Nat) : List DumpMark → List DumpMark
  | [] => []
  | m :: ms => if m.endNs ≤ e then [m] else m :: pruneMarks e ms

/-- The next integration starts: counters and flags cleared, the pending rate applied. -/
def nextIntegration (c : Ctx) : Ctx :=
  applyRates { c with count := 0, acc := List.replicate 14 0, bad := false, gap := false, sat := false, ingressGap := false,
                      bbInvalid := false, lateStart := false, first := false, latencyStep := false, seq := (c.seq + 1) % 65536 }

/-- What the integration that ends at a boundary leaves for the observables: its mark, and lock time. -/
def markBoundary (s : State) (flags : Nat) (kept : Bool) (c d : Ctx) : Ctx :=
  let ns := sampleNs s c
  let m : DumpMark := ⟨ns, some flags, c.idxA, c.idxB, c.codeNco, c.carrCyc, c.carrNco, d.codeRate, d.carrRate⟩
  let d := { d with lastSeq := c.seq, marks := pruneMarks (formPoint s) (m :: c.marks), locks := pruneLocks (formPoint s) c.locks,
                    missed := c.missed.filter (nearSeq c.seq) }
  let d := if c.ingressGap || c.latencyStep then lockFrom ns d else d
  if c.bad || !kept then missDump c.first c.seq ns d else d

/-- A boundary (R65, R67): the dump of the integration that ends enters its unit, or finds four pending there and is
discarded (R18); an armed stop ends the context (Table 2.7). -/
def boundary (ch : Nat) (last : Bool) (c : Ctx) (s : State) : State :=
  let u := ch / 16
  let x := corUnit s u
  let stops := last || (match c.stopAt with | some t => decide (t ≤ (sampleNs s c : Int)) | none => false)
  let s := perf 0x100 1 s
  let kept := decide (x.dumps.length < 4)
  let s := if kept then setUnit u { x with dumps := x.dumps ++ [(ch, cfgCore c, dumpBytes s ch c stops)] } s
           else perf 0x101 1 (sticky Reg.COR_STICKY (ch / 256) s)
  let c' := markBoundary s (dumpFlags s c stops) kept c { nextIntegration c with gap := !kept }
  if stops then ctxIdle ch c' s else setCtx ch c' s

/-- One sample of a running context: the oscillators, a boundary, the accumulators. No sample (R49, R50, R66) counts as zero,
with INGRESS_GAP. -/
def takeSample (ch : Nat) (x : Option (Int × Int)) (s : State) : State :=
  let c := ctx s ch
  if c.state ≠ .run then s
  else
    let p := if c.fresh then ({ c with fresh := false, nsamp := c.nsamp + 1 }, 0) else advance 1 c
    let s := if p.2 ≠ 0 ∧ intChips c ≠ 0 ∧ p.1.count = intChips c then boundary ch false p.1 s else setCtx ch p.1 s
    let c := ctx s ch
    if c.state ≠ .run then s
    else
      let c := { c with bbInvalid := c.bbInvalid || !bbValid s }
      match if noSamples s c then none else x with
      | some v => setCtx ch (accumulate s ch c v) s
      | none => setCtx ch (accumulate s ch { c with ingressGap := true } (0, 0)) s

/-- The samples of a live context's band in a run of its antenna's lane frames (R40, R41). -/
def liveSamples (s : State) (c : Ctx) (frames : List LaneFrame) : List (Option (Int × Int)) :=
  (laneRun (flag s (Reg.ING_CFG (cfgAnt c)) 0) frames).map (fun w => w.map (fun v => sampleOf (bandOctet (cfgBand c) v)))

/-- The captured samples that a replay has not taken yet: none until the capture is complete. -/
def replaySamples (s : State) (c : Ctx) : List (Option (Int × Int)) :=
  match c.cap with
  | some id =>
    let x := capture s id
    let first := replayFirst s c + c.nsamp
    let bytes := padTo (x.lenMs * 81840) (Tab.get bytesDef x.data (4 * cfgAnt c + cfgBand c))
    if x.state = 3 then (bytes.drop first).map (fun b => some (sampleOf b.toNat)) else []
  | none => []

/-- Takes samples up to and including the next boundary sample, if they reach one. -/
def toBoundary (ch : Nat) : List (Option (Int × Int)) → State → Option State
  | [], _ => none
  | x :: xs, s =>
    let t := takeSample ch x s
    if (ctx t ch).state ≠ .run ∨ (ctx t ch).seq ≠ (ctx s ch).seq then some t else toBoundary ch xs t

/-- R61 to R67: the samples that reach a running context, up to and including its boundary sample. `frames` are what the lane
of a live context's antenna carried, from two frames before on; a replay takes its samples from its capture. -/
def execIntegrationBoundary (ch : Nat) (frames : List LaneFrame) (s : State) : Out :=
  let c := ctx s ch
  .next (
    if !chUp s ch then s
    else if cfgReplay c then (toBoundary ch (replaySamples s c) s).getD s
    else (liveSamples s c frames).foldl (fun s x => takeSample ch x s) s)

/-- R66: the capture `id` ends: its last samples, zero samples to the next boundary, LAST and INGRESS_GAP, IDLE. Where no boundary
can come, since CODE_RATE or CHIPS_PER_MS is 0, the context goes IDLE with END and no dump (assumption 149). -/
def execReplayCaptureEnd (ch id : Nat) (s : State) : Out :=
  let c := ctx s ch
  .next (
    if !chUp s ch || !cfgReplay c || decide (c.state ≠ .run) || decide (c.cap ≠ some id) || decide ((capture s id).state ≠ 3) then s
    else
      let s := (replaySamples s c).foldl (fun s x => takeSample ch x s) s
      let c := ctx s ch
      if c.state ≠ .run then s
      else if c.codeRate = 0 ∨ intChips c = 0 then ctxIdle ch { c with ended := true } s
      else
        let n := ceilDiv ((intChips c - c.count) * 2 ^ 48 - c.codeNco) c.codeRate
        boundary ch true { (advance n { c with nsamp := max 1 c.nsamp }).1 with ended := true, ingressGap := true, fresh := false } s)

/-- When a dump ended, from its TIME fields, whose seconds wrap at 65,536: of late. -/
def dumpEndNs (s : State) (b : List Byte) : Nat :=
  let n := nsOf s.tim.now
  let p := 65536 * 1000000000
  n - (n + p - (leAt b 6 2 * 1000000000 + leAt b 8 4) % p) % p

/-- A dump of channel `ch` was discarded on its way: it is missing from its run, which may have ended since. -/
def dumpLost (ch : Nat) (b : List Byte) (s : State) : State :=
  let ns := dumpEndNs s b
  let miss (c : Ctx) : Ctx := missDump (decide (leAt b 2 2 / 2048 % 2 = 1)) (leAt b 4 2) ns c
  let c := { ctx s ch with qgap := true }
  if c.startNs < ns then setCtx ch (miss c) s
  else
    let of (x : EndedRun) : Bool := decide (x.chan = ch) && decide (x.ctx.startNs < ns) && decide (ns ≤ x.at_)
    setCtx ch c { s with cor := { s.cor with ended := s.cor.ended.map (fun x => if of x then { x with ctx := miss x.ctx } else x) } }

/-- A dump with its GAP flag set. -/
def withGap (b : List Byte) : List Byte := b.take 2 ++ [b.getD 2 0 ||| 2] ++ b.drop 3

/-- R68: the oldest pending dump of a unit reaches its loop core's queue of 2,048 entries, unless the bridge's receive FIFO drops it
(R394, R395). -/
def execDumpDelivery (u : Nat) (s : State) : Out :=
  let x := corUnit s u
  .next (match x.dumps with
    | [] => s
    | (ch, core, b) :: rest =>
      let s := bridgeHeard (setUnit u { x with dumps := rest } s)
      if dropsNext s 16 then perf 0x101 1 (dumpLost ch b (dropTaken 16 s))
      else
      let q := Tab.get queueDef s.cor.queue core
      let c := ctx s ch
      if q.length < 2048 then
        let b := if c.qgap then withGap b else b
        emit (.dump (4 + core) b) (setCtx ch { c with qgap := false }
          { s with cor := { s.cor with queue := Tab.put queueDef s.cor.queue core (q ++ [(ch, b)]) } })
      else perf 0x101 1 (sticky Reg.COR_STICKY 11 (dumpLost ch b s)))

/-! ### Commands of a context (Table 2.7) -/

/-- A command or write that the state of a context does not take. -/
def ctxRefuse (s : State) : State := sticky Reg.COR_STICKY 9 s

/-- The AT instant in ns. Nanoseconds beyond 999,999,999 count as they stand (assumption 225). -/
def ctxAt (s : State) (ch : Nat) : Int := epochOf s (rd s (Reg.COR_AT_S ch)).toNat (rd s (Reg.COR_AT_NS ch)).toNat

/-- The capture that a replay from `at_` ns reads: the earliest that still holds samples at or after it. -/
def replayCapture (s : State) (at_ : Int) : Option Nat :=
  (s.acq.caps.filter (fun e => decide (2 ≤ e.2.state) && decide (at_ < (((e.2.startMs + e.2.lenMs) * 1000000 : Nat) : Int)))).foldl
    (fun b e => match b with
      | none => some e.1
      | some k => some (if e.2.startMs < (capture s k).startMs then e.1 else k)) none

/-- START: the configuration is latched; the context waits for AT. A replay's AT is a capture time and always past, so it brings
no LATE_START (assumption 182); where no capture holds a sample at or after it, the context stays ARMED (assumption 75). -/
def execStart (ch : Nat) (s : State) : Out :=
  let c := ctx s ch
  let w (f : Nat → Nat) : Nat := (rd s (f ch)).toNat
  let at_ := ctxAt s ch
  let cfg := rd s (Reg.COR_CFG ch)
  let c' : Ctx := { c with state := CtxState.armed, cfg := cfg, aBase := w Reg.COR_CODE_A_BASE, aLen := w Reg.COR_CODE_A_LEN,
                           bBase := w Reg.COR_CODE_B_BASE, bLen := w Reg.COR_CODE_B_LEN, chipsPerMs := w Reg.COR_INT, at_ := at_,
                           cap := if bitAt cfg 13 then replayCapture s at_ else none, ended := false, stopAt := none,
                           lateStart := !bitAt cfg 13 && decide (at_ * (tNs : Int) < (liveTime s (bits cfg 1 0) : Int)) }
  .next (
    if !chUp s ch then s
    else if c.state ≠ .idle then ctxRefuse s
    else setCtx ch c' s)

def execStopAt (ch : Nat) (s : State) : Out :=
  let c := ctx s ch
  .next (
    if !chUp s ch then s
    else match c.state with
      | .armed => ctxIdle ch c s
      | .run => setCtx ch { c with stopAt := some (ctxAt s ch) } s
      | _ => ctxRefuse s)

def execAbort (ch : Nat) (s : State) : Out :=
  let c := ctx s ch
  .next (
    if !chUp s ch then s
    else match c.state with
      | .armed | .run => ctxIdle ch c s
      | _ => ctxRefuse s)

/-- The first sample at or after AT: CODE_INIT, CARR_INIT, integration 0 (R55). A discarded dump of the run before still
marks the next with GAP (R18, R68). -/
def execContextRun (ch : Nat) (s : State) : Out :=
  let c := ctx s ch
  let chip := fld s (Reg.COR_CODE_INIT ch) 19 0
  let at0 (len : Nat) : Nat := if len = 0 then 0 else chip % len
  let start := sampleNs s { c with nsamp := 0 }
  let due := if cfgReplay c then c.cap.isSome else decide (c.at_ * (tNs : Int) ≤ (liveTime s (cfgAnt c) : Int))
  let c' : Ctx := { c with state := CtxState.run, codeNco := fld s (Reg.COR_CODE_INIT ch) 31 20 * 2 ^ 36,
                           carrNco := fld s (Reg.COR_CARR_INIT ch) 15 0 * 2 ^ 32, carrCyc := 0, idxA := at0 c.aLen, idxB := at0 c.bLen,
                           fresh := true, nsamp := 0, count := 0, acc := List.replicate 14 0, bad := false,
                           sat := false, ingressGap := false, bbInvalid := !bbValid s, latencyStep := false, first := true, seq := 0,
                           locks := [start], startNs := start, lockStart := true, missed := [], missed0 := none }
  let d := applyRates c'
  let m : DumpMark := ⟨start, none, d.idxA, d.idxB, d.codeNco, 0, d.carrNco, d.codeRate, d.carrRate⟩
  .next (if chUp s ch && decide (c.state = .armed) && due then setCtx ch { d with marks := [m] } s else s)

/-! ### Rates (R69) -/

/-- A code rate reaches the pending buffer. -/
def pendCodeRate (v : Nat) (c : Ctx) : Ctx :=
  { c with pendCode := some (v % 2 ^ 48), pendCount := c.pendCount + (if c.pendCode.isSome then 1 else 0) }
def pendCarrRate (v : Nat) (c : Ctx) : Ctx :=
  { c with pendCarr := some (v % 2 ^ 48), pendCount := c.pendCount + (if c.pendCarr.isSome then 1 else 0) }

/-- A core event of Table 16.5 occurs on Noquel core `core`: those of its own counters that select it count (R476, R477). -/
def corePerf (core ev : Nat) (s : State) : State :=
  let l := (s.io.ctr.filter (fun e => decide (e.1 / 16 = core) && decide (e.2.event = ev) && !(chained s && decide (e.1 % 2 = 1)))).map (·.1)
  if s.io.frozen then s else l.foldl (fun s k => withIo (ctrAdd (chained s) k 1) s) s

/-- A loop core's message: it has used the oldest dump of the channel in its queue (assumption 40). The core counts
DUMP_TAKEN and RATE_SENT (R482). COR_c_CODE_RATE and COR_c_CARR_RATE go on reading the words that the host wrote last
(assumption 150). -/
def execRateMessage (ch : Nat) (code carr : BitVec 64) (s : State) : Out :=
  let c := ctx s ch
  let q := Tab.get queueDef s.cor.queue (cfgCore c)
  .next (
    if !chUp s ch then s
    else
      let s := bridgeHeard s
      let taken := q.any (fun e => decide (e.1 = ch))
      let s := { s with cor := { s.cor with queue := Tab.put queueDef s.cor.queue (cfgCore c) (q.eraseP (fun e => e.1 = ch)) } }
      let s := if taken then corePerf (4 + cfgCore c) 0x12 s else s
      let s := corePerf (4 + cfgCore c) 0x13 s
      if c.state = .quarantined then s else setCtx ch (pendCarrRate carr.toNat (pendCodeRate code.toNat c)) s)

/-- A BAR0 write of the high word submits both words (R12); a quarantined context refuses it (R73). -/
def execCodeRateHi (ch : Nat) (w : Word) (s : State) : Out :=
  let lo := lowWord s (Reg.COR_CODE_RATE_LO ch)
  .next (
    if !chUp s ch then s
    else if (ctx s ch).state = .quarantined then ctxRefuse s
    else wr (Reg.COR_CODE_RATE_HI ch) (lowBits 16 w) (wr (Reg.COR_CODE_RATE_LO ch) lo
      (setCtx ch (pendCodeRate (bits w 15 0 * 2 ^ 32 + lo.toNat) (ctx s ch)) s)))

def execCarrRateHi (ch : Nat) (w : Word) (s : State) : Out :=
  let lo := lowWord s (Reg.COR_CARR_RATE_LO ch)
  .next (
    if !chUp s ch then s
    else if (ctx s ch).state = .quarantined then ctxRefuse s
    else wr (Reg.COR_CARR_RATE_HI ch) (lowBits 16 w) (wr (Reg.COR_CARR_RATE_LO ch) lo
      (setCtx ch (pendCarrRate (bits w 15 0 * 2 ^ 32 + lo.toNat) (ctx s ch)) s)))

/-! ### Residue events (R76, R77) -/

/-- Stops the sixteen contexts of a unit. -/
def stopUnit (u : Nat) (s : State) : State :=
  releaseDue ((List.range 16).foldl (fun s k =>
    let c := ctx s (16 * u + k)
    setCtx (16 * u + k) { c with state := .quarantined, stopAt := none } (runEnds (16 * u + k) c .quarantined s)) (setUnit u ⟨none, []⟩ s))

/-- Unit `u` is quarantined. -/
def unitQuarantined (s : State) (u : Nat) : Bool := flag s (Reg.COR_QUAR (u / 32)) (u % 32)

/-- A check of unit `u` fails in the slot of its context `k`. A quarantined unit no longer checks (assumption 183). -/
def corrMismatch (u k : Nat) (s : State) : State :=
  if decide (gradeChannels s / 16 ≤ u) || !corrUp s (u / 32) || unitQuarantined s u then s
  else
    let ch := 16 * u + k % 16
    let x := corUnit s u
    let c := ctx s ch
    let s := if c.state = .run then setCtx ch { c with bad := true } s else s
    let s := perf 0x102 1 (stickyCount Reg.COR_STICKY 12 Reg.COR_MISMATCH_CNT s)
    match x.lastMismatch with
    | some p =>
      if p < s.tim.now ∧ s.tim.now ≤ p + tSec then
        let a := Reg.COR_QUAR (u / 32)
        record 0x10 u (leBytes 4 (rd s Reg.COR_MISMATCH_CNT).toNat)
          (sticky Reg.COR_STICKY 8 (wr a (rd s a ||| oneHot (u % 32)) (stopUnit u s)))
      else setUnit u { corUnit s u with lastMismatch := some s.tim.now } s
    | none => setUnit u { corUnit s u with lastMismatch := some s.tim.now } s

def execCorrMismatchEvent (u k : Nat) (s : State) : Out := .next (corrMismatch u k s)

/-- R508: GO corrupts one residue in MAINTAIN. Which context's slot the next cycle serves is open: a free value. -/
def execCorInject (w : Word) (s : State) : Out :=
  .next (
    if s.crp.mode = .maintain ∧ bitAt w 31 = true ∧ bits w 8 7 ≠ 3 then corrMismatch (bits w 6 0) (freeVal s) (freeNext s) else s)

/-- R81: 32 chips into the code memories selected; ADDR moves on by 32. -/
def execCorCodeData (w : Word) (s : State) : Out :=
  let a := (rd s Reg.COR_CODE_ADDR).toNat / 32 * 32
  let sel := rd s Reg.COR_CODE_SEL
  let s := (List.range 8).foldl (fun s k =>
    if bitAt sel k && decide (512 * (k / 2) < gradeChannels s) && corrUp s (k / 2) then
      { s with cor := { s.cor with code := Tab.put wordDef s.cor.code (k * 2 ^ 19 + a / 32) w } } else s) s
  .next (wr Reg.COR_CODE_ADDR (BitVec.ofNat 32 ((a + 32) % 2 ^ 24)) s)

end Sys2Proof.Machine
end

