-- ==== Sys2Proof/Machine/Observables.lean ====
section
/-! DEFINITION. Base observables (R116 to R121) and the cross-checks between reference antennas (R112, R113). -/
namespace Sys2Proof.Machine

/-! ### Epochs and candidates -/

/-- Formation runs in this mode (R116). -/
def formMode (s : State) : Bool :=
  match s.crp.mode with
  | .serve | .holdover | .survey | .standby | .maintain => true
  | _ => false

/-- Ingress of an antenna delivers data. -/
def antData (s : State) (n : Nat) : Bool := antUp s n && decide ((ant s n).link = .data)

/-- A value of the REF set as it was active at an epoch. -/
def setFld (regs : Tab Word) (a hi lo : Nat) : Nat := bits (Tab.get RegMap.reset regs a) hi lo
def setFlag (regs : Tab Word) (a i : Nat) : Bool := bitAt (Tab.get RegMap.reset regs a) i
def epFld (p : BaseEp) (a hi lo : Nat) : Nat := setFld p.regs a hi lo
def epFlag (p : BaseEp) (a i : Nat) : Bool := setFlag p.regs a i

/-- Coordinate `i` of an antenna in the set active at an epoch, in 0.1 mm. -/
def epCoord (p : BaseEp) (n i : Nat) : Int :=
  let a := Reg.REF_ANT_COORD n (2 * i)
  signed 64 ((Tab.get RegMap.reset p.regs a).toNat + 2 ^ 32 * (Tab.get RegMap.reset p.regs (a + 4)).toNat)

/-- A running survey needs observables of antenna `n` (R110). -/
def surveyForms (s : State) (n : Nat) : Bool := s.ref.survey.any (fun v => v.ants.any (fun x => decide (x.ant = n)))

/-- Antenna `n` is a candidate whose ingress delivers data: one that is DOWN is IN_SERVICE at this epoch (Table 4.2); or its ingress
delivers data and it is being surveyed. `regs` is the REF set. -/
def antForms (s : State) (regs : Tab Word) (n : Nat) : Bool :=
  decide (n < gradeAnts s) && (setFlag regs (Reg.REF_ANT_CFG n) 0 && setFlag regs (Reg.REF_ANT_CFG n) 1 || surveyForms s n) && antData s n

/-! ### One observable (R117) -/

/-- The context tracks a live signal. -/
def tracks (s : State) (ch : Nat) : Bool := chUp s ch && decide ((ctx s ch).state = .run) && !cfgReplay (ctx s ch)

/-- The context that tracked a live signal on a channel at `e`: the one that runs, or one whose run ended later. -/
def ctxAtE (s : State) (e ch : Nat) : Option Ctx :=
  if tracks s ch && decide ((ctx s ch).startNs ≤ e) then some (ctx s ch)
  else (s.cor.ended.find? (fun x => decide (x.chan = ch) && decide (x.ctx.startNs ≤ e) && decide (e < x.at_))).map (·.ctx)

/-- The run on channel `k` that began before `ns`: what its context still shows, or of late ended. -/
def runBefore (s : State) (k ns : Nat) : Option Ctx :=
  if !(ctx s k).marks.isEmpty && decide ((ctx s k).startNs < ns) then some (ctx s k)
  else (s.cor.ended.find? (fun x => decide (x.chan = k) && decide (x.ctx.startNs < ns))).map (·.ctx)

/-- Samples from a boundary to `e` ns. -/
def samplesTo (m : DumpMark) (e : Nat) : Frac := ⟨(((e - m.endNs) * 8184 : Nat) : Int), 100000⟩

/-- The code position at `e` in chips of the code period of the last boundary, discriminator added. -/
def codeAt (c : Ctx) (m : DumpMark) (o : ChanObs) (e : Nat) : Frac :=
  let idx := if c.bLen ≠ 0 then m.idxB else m.idxA
  let nco := Frac.add (Frac.ofNat (idx * 2 ^ 48 + m.codeNco)) (Frac.mul (Frac.ofNat m.codeRate) (samplesTo m e))
  Frac.mul (Frac.add nco (Frac.ofInt (o.codeDisc * (2 ^ 28 : Nat)))) ⟨1, 2 ^ 48⟩

/-- Pseudorange in metres: light's way from the transmit time of that position to `e`. -/
def pseudorange (c : Ctx) (m : DumpMark) (o : ChanObs) (e : Nat) : Frac :=
  let sent := Frac.add ⟨o.codeZero, 2 ^ 32⟩ (Frac.mul (codeAt c m o e) (Frac.ratio 1000000 c.chipsPerMs))
  Frac.mul (Frac.sub (Frac.ofNat e) sent) ⟨(lightSpeed : Int), 1000000000⟩

/-- The carrier's cycles since the start beyond those of its nominal offset, discriminator added. The cycle counter wraps. -/
def carrierAt (c : Ctx) (m : DumpMark) (o : ChanObs) (offset : Int) (e : Nat) : Frac :=
  let nco := Frac.add ⟨((m.carrCyc * 2 ^ 48 + m.carrNco : Nat) : Int), 2 ^ 48⟩ (Frac.mul ⟨signed 48 m.carrRate, 2 ^ 48⟩ (samplesTo m e))
  let x := Frac.sub (Frac.add nco ⟨o.carrDisc, 2 ^ 16⟩) ⟨offset * ((e : Int) - (c.startNs : Int)), 1000000000⟩
  Frac.sub x (Frac.ofInt (Frac.floor (Frac.mul (Frac.add x (Frac.ofNat (2 ^ 31))) ⟨1, 2 ^ 32⟩) * (2 ^ 32 : Nat)))

/-- Doppler in Hz: the carrier rate beyond the nominal offset. -/
def dopplerAt (m : DumpMark) (offset : Int) : Frac := Frac.sub ⟨signed 48 m.carrRate * 81840000, 2 ^ 48⟩ (Frac.ofInt offset)

/-- A dump's flags shut its signal out: BAD, INGRESS_GAP, NONDET, BB_TIME_INVALID (R118). -/
def flagsBad (f : Nat) : Bool := [0, 3, 7, 9].any (fun i => f / 2 ^ i % 2 == 1)

/-- The last dump at or before `e` of a signal whose channel's last boundary is `m`: before the first dump of a channel that it
was moved to, the last one of the channel that it came from (R117, R118). -/
def lastFlags (s : State) (e : Nat) (o : ChanObs) (c : Ctx) (m : DumpMark) : Option Nat :=
  match m.flags, o.movedFrom with
  | some f, _ => some f
  | none, some k => ((runBefore s k c.startNs).bind (fun d => d.marks.find? (fun x => x.endNs ≤ e))).bind (·.flags)
  | none, none => none

/-- Lock time of a channel with what an epoch brings (R119): a move takes it over from the channel that tracked the signal, unless
integrations were lost there; dumps missing on both sides of the move are consecutive; loss of carrier lock restarts it. -/
def lockJoin (s : State) (e : Nat) (o : ChanObs) (c : Ctx) : Ctx :=
  let c1 := match c.lockStart, o.movedFrom.bind (fun k => runBefore s k c.startNs) with
    | true, some d =>
      if d.state = .quarantined then c
      else
        let c1 := { c with locks := d.locks, lockStart := false }
        if d.missed.contains d.lastSeq then
          let c2 := { c1 with missed := 65535 :: c1.missed }
          match c.missed0 with | some ns => lockFrom ns c2 | none => c2
        else c1
    | _, _ => c
  match o.lostAt with
  | some t => lockFrom t c1
  | none => if o.locked then c1 else lockFrom e c1

/-- The observable of a channel at `e` ns under a REF set (R117, R118, R120). Phase falls as Doppler's cycles add up. A set or step of
device time leaves the instant from which lock time counts (assumption 231). -/
def formOne (s : State) (regs : Tab Word) (e : Nat) (o : ChanObs) : Option BaseSig :=
  match signalKind o.kind, (ctxAtE s e o.chan).map (lockJoin s e o) with
  | some x, some c =>
    match c.marks.find? (fun m => m.endNs ≤ e) with
    | some m =>
      let offset := carrierOffset x o.gloK
      if antForms s regs (cfgAnt c) && o.locked && (lastFlags s e o c m).any (fun f => !flagsBad f) &&
          decide (4 * setFld regs Reg.REF_CTRL 13 8 ≤ o.cn0) && decide (c.chipsPerMs ≠ 0) then
        some ⟨cfgAnt c, o.chan, x.gnss, o.sat, o.kind, cfgComp c, signalId x (cfgComp c), decide (cfgComp c = 0) && !o.polarity, o.gloK,
          fp64.ofFrac (pseudorange c m o e), fp64.ofFrac (Frac.sub ⟨o.carrZero, 2 ^ 16⟩ (carrierAt c m o offset e)),
          fp32.ofFrac (dopplerAt m offset), o.cn0, (e - lockAt e c.locks) / 1000000⟩
      else none
    | none => none
  | _, _ => none

/-- Two observables are of one signal with one COMP. -/
def sameSig (a b : BaseSig) : Bool :=
  decide (a.gnss = b.gnss) && decide (a.sat = b.sat) && decide (a.kind = b.kind) && decide (a.comp = b.comp)

/-- The observables that an epoch forms: of one signal tracked twice on an antenna, the lower channel's (R121). A channel whose own
observable is absent shuts out none (assumption 230). -/
def formSigs (s : State) (regs : Tab Word) (e : Nat) (obs : List ChanObs) : List BaseSig :=
  let l := obs.filterMap (formOne s regs e)
  l.filter (fun o => !l.any (fun x => decide (x.ant = o.ant) && sameSig x o && decide (x.chan < o.chan)))

/-- The context of a channel that ran at `e` keeps its lock time. -/
def lockObs (e : Nat) (s : State) (o : ChanObs) : State :=
  if tracks s o.chan && decide ((ctx s o.chan).startNs ≤ e) then setCtx o.chan (lockJoin s e o (ctx s o.chan)) s else s

/-! ### Geometry -/

/-- The distance of two points, in nm, rounded down; coordinates in 0.1 mm. -/
def distNm (x y z x' y' z' : Int) : Nat :=
  isqrtStep 64 0 ((((x - x') ^ 2 + (y - y') ^ 2 + (z - z') ^ 2) * 10000000000).toNat)

/-- A satellite's position in a list. -/
def satPos (l : List SatPos) (gnss sat : Nat) : Option SatPos := l.find? (fun x => decide (x.gnss = gnss) && decide (x.sat = sat))

/-- The range from antenna `n` to a satellite, in nm. -/
def rangeNm (p : BaseEp) (n : Nat) (v : SatPos) : Int := distNm (epCoord p n 0) (epCoord p n 1) (epCoord p n 2) v.x v.y v.z

/-- A length in metres in whole nm. -/
def toNm (x : Frac) : Int := nearest (Frac.mul x (Frac.ofNat 1000000000))

/-! ### Pair tests (R112) -/

/-- A signal common to two antennas: the observables, and their single difference of phase less that of ranges, in nm. -/
structure Common where
  x : BaseSig
  y : BaseSig
  sd : Int

/-- The common signals of antennas `a` and `b` whose satellites' positions are known. -/
def commons (p : BaseEp) (sats : List SatPos) (a b : Nat) : List Common :=
  (p.sigs.filter (fun o => decide (o.ant = a))).filterMap (fun x =>
    match p.sigs.find? (fun y => decide (y.ant = b) && sameSig x y), satPos sats x.gnss x.sat with
    | some y, some v => some ⟨x, y, (toNm (phaseOf x) - toNm (phaseOf y)) - (rangeNm p a v - rangeNm p b v)⟩
    | _, _ => none)

/-- Signals that share a pivot: one kind, COMP and frequency. -/
def sameGroup (c d : Common) : Bool := decide (c.x.kind = d.x.kind) && decide (c.x.comp = d.x.comp) && decide (c.x.gloK = d.x.gloK)

/-- The pair ambiguity held for a signal whose phase both antennas have tracked without a slip since. -/
def heldAmb (p : BaseEp) (ambs : List PairAmb) (a b : Nat) (c : Common) : Option PairAmb :=
  (ambs.find? (fun m => decide (m.a = a) && decide (m.b = b) && decide (m.gnss = c.x.gnss) && decide (m.sat = c.x.sat) &&
    decide (m.kind = c.x.kind) && decide (m.comp = c.x.comp))).filter (fun m =>
      decide (p.e - m.e ≤ c.x.lock * 1000000) && decide (p.e - m.e ≤ c.y.lock * 1000000))

/-- The pivot of a signal's group: the one held where it is still there, else the lowest satellite. -/
def pivotOf (p : BaseEp) (ambs : List PairAmb) (a b : Nat) (l : List Common) (c : Common) : Common :=
  let g := l.filter (sameGroup c)
  match g.find? (fun d => match heldAmb p ambs a b d with | some m => decide (m.pivot = d.x.sat) | none => false) with
  | some d => d
  | none => g.foldl (fun d f => if f.x.sat < d.x.sat then f else d) c

/-- What a signal brings along with respect to pivot `q`: the integer held, and for how many epochs. A resolved integer is
carried over to a new pivot that is resolved as well. -/
def carriedAmb (p : BaseEp) (ambs : List PairAmb) (a b : Nat) (q c : Common) : Option PairAmb :=
  match heldAmb p ambs a b c, heldAmb p ambs a b q with
  | some m, some k =>
    if k.pivot = q.x.sat then (if m.pivot = q.x.sat then some m else none)
    else if m.pivot = k.pivot ∧ m.run = 20 ∧ k.run = 20 then some { m with n := m.n - k.n } else none
  | _, _ => none

/-- One signal at one epoch: its ambiguity, and where that is resolved its residual r in nm. `every` is the formation period. The
pivot has no residual, and does not count among the resolved common signals (assumption 229). -/
def ambEpoch (p : BaseEp) (ambs : List PairAmb) (a b : Nat) (l : List Common) (c : Common) : PairAmb × Option Int :=
  let q := pivotOf p ambs a b l c
  let mk (n : Int) (run : Nat) : PairAmb := ⟨a, b, c.x.gnss, c.x.sat, c.x.kind, c.x.comp, q.x.sat, n, run, p.e⟩
  if q.x.sat = c.x.sat then (mk 0 20, none)
  else
    let dd := c.sd - q.sd
    let wave := Frac.mul (waveOf c.x) (Frac.ofNat 1000000000)
    let n := nearest (Frac.mul (Frac.ofInt dd) (Frac.ratio wave.den wave.num.toNat))
    let resid (n : Int) : Int := dd - nearest (Frac.mul wave (Frac.ofInt n))
    let near := Frac.le (Frac.ofNat ((resid n).natAbs * 5)) wave
    let every := 1000000000 / max 1 (obsHz (epFld p Reg.REF_CTRL 2 0))
    match carriedAmb p ambs a b q c with
    | some m =>
      if m.run = 20 then (mk m.n 20, some (resid m.n))
      else if near = true ∧ m.n = n ∧ p.e - m.e ≤ every then (mk n (m.run + 1), if m.run + 1 = 20 then some (resid n) else none)
      else (mk n (b2n near), none)
    | none => (mk n (b2n near), none)

/-- The test of one pair at one epoch, and the ambiguities of its signals. -/
def pairTest (p : BaseEp) (sats : List SatPos) (ambs : List PairAmb) (a b : Nat) : PairTest × List PairAmb :=
  let l := commons p sats a b
  let r := l.map (ambEpoch p ambs a b l)
  let res := r.filterMap (·.2)
  (⟨a, b, res.length, (res.map (fun v => v.natAbs ^ 2)).foldl (· + ·) 0⟩, r.map (·.1))

/-- The pairs of a list, the lower antenna first. -/
def pairsOf : List Nat → List (Nat × Nat)
  | [] => []
  | a :: l => l.map (fun b => (a, b)) ++ pairsOf l

/-- Replaces the ambiguities of the signals judged; of the others, those resolved stay (R112). -/
def keepAmbs (old new : List PairAmb) : List PairAmb :=
  old.filter (fun m => decide (m.run = 20) && !new.any (fun k => decide (m.a = k.a) && decide (m.b = k.b) && decide (m.gnss = k.gnss) &&
    decide (m.sat = k.sat) && decide (m.kind = k.kind) && decide (m.comp = k.comp))) ++ new

/-- A pair with 5 resolved common signals is tested; it fails above `lim` mm. -/
def pairTested (t : PairTest) : Bool := decide (5 ≤ t.signals)
def pairFails (lim : Nat) (t : PairTest) : Bool := decide (t.signals * (lim * 1000000) ^ 2 < t.sumSq)

/-- The RMS of a tested pair in 0.1 mm, rounded down. -/
def pairRms (t : PairTest) : Nat := isqrtStep 64 0 (t.sumSq / max 1 t.signals) / 100000

/-! ### Absolute check (R113) -/

/-- The code residuals of antenna `n` in nm, the common clock term still in them. -/
def codeResids (p : BaseEp) (sats : List SatPos) (n : Nat) : List Int :=
  (p.sigs.filter (fun o => decide (o.ant = n))).filterMap (fun o =>
    (satPos sats o.gnss o.sat).map (fun v => toNm (prOf o) - rangeNm p n v - v.extra * 100000))

/-- The absolute check of antenna `n`: m Σ v² − (Σ v)² is m² times the mean square about the mean. -/
def absTest (p : BaseEp) (sats : List SatPos) (n : Nat) : AbsTest :=
  let v := codeResids p sats n
  let sum := v.foldl (· + ·) 0
  ⟨n, v.length, v.length * (v.map (fun x => x.natAbs ^ 2)).foldl (· + ·) 0 - sum.natAbs ^ 2⟩

/-- It fails above `lim` m. -/
def absTestFails (lim : Nat) (t : AbsTest) : Bool := decide (5 ≤ t.signals) && decide ((t.signals * (lim * 1000000000)) ^ 2 < t.dev)

end Sys2Proof.Machine
end

