-- ==== Sys2Proof/Machine/FixJob.lean ====
section
/-! DEFINITION. The fix job (R169 to R190): what it computes from what it fetched. Where the spec leaves the arithmetic open, the
estimator of Config answers on exactly what the rules give it. -/
namespace Sys2Proof.Machine

/-! ### Lists -/

/-- Inserts an element before the first that it precedes; sorts a list stably. -/
def insertBy {α : Type} (lt : α → α → Bool) (a : α) : List α → List α
  | [] => [a]
  | b :: l => if lt a b then a :: b :: l else b :: insertBy lt a l
def sortBy {α : Type} (lt : α → α → Bool) (l : List α) : List α := l.foldl (fun m a => insertBy lt a m) []

/-- The element that comes first. -/
def firstBy {α : Type} (lt : α → α → Bool) (l : List α) : Option α := (sortBy lt l).head?

/-! ### What the job fetched -/

/-- A field of the PST set in force at the start (R201). -/
def pstFld (f : FixStart) (a hi lo : Nat) : Nat := bits (Tab.get RegMap.reset f.regs a) hi lo

/-- The slot belongs to another machine (R166); the job initialises it (Table 6.1). -/
def fixShared (f : FixStart) : Bool := f.state.run && decide (f.state.owner ≠ f.machine)
def fixInit (f : FixStart) : Bool :=
  !f.state.run || fixShared f || f.state.initNext || decide (f.state.epoch + 10000000000 ≤ f.epoch)

/-- The base age lies in [0, BASE_AGE_MAX_MS) (R170). -/
def fixInAge (f : FixStart) : Bool :=
  match f.base with | some p => decide (f.epoch - p.e < pstFld f Reg.PST_AGE_CFG 10 0 * 1000000) | none => false

/-! ### Reference antenna (R172 to R174) -/

/-- Squared distance from a slot's last position to an antenna, in units of (0.1 mm)². -/
def antDist2 (p : BaseEp) (x : Slot) (n : Nat) : Nat :=
  ((epCoord p n 0 - x.x) ^ 2 + (epCoord p n 1 - x.y) ^ 2 + (epCoord p n 2 - x.z) ^ 2).toNat

/-- √a exceeds √b by more than h. -/
def rootExceeds (a b h : Nat) : Bool := decide (b + h ^ 2 < a) && decide (4 * h ^ 2 * b < (a - b - h ^ 2) ^ 2)

/-- The reference antenna of a job (R172). -/
def chooseRef (f : FixStart) (p : BaseEp) : Option Nat :=
  let h := pstFld f Reg.PST_REFSEL 11 0 * 10000
  let pref (n : Nat) : Nat := epFld p (Reg.REF_ANT_CFG n) 3 2
  if fixInit f then
    if f.primary.any (p.inService.contains ·) then f.primary else firstBy (fun a b => decide (pref a < pref b)) p.inService
  else if p.inService.contains f.state.refAnt &&
      !p.inService.any (fun n => rootExceeds (antDist2 p f.state f.state.refAnt) (antDist2 p f.state n) h) then some f.state.refAnt
  else firstBy (fun a b => decide (antDist2 p f.state a < antDist2 p f.state b)) p.inService

/-- The antenna chosen; none without a base epoch. -/
def fixRef (f : FixStart) : Option Nat := f.base.bind (chooseRef f)

/-- The coordinates of the antenna in an epoch. -/
def refCoord (p : BaseEp) (n : Nat) : Int × Int × Int := (epCoord p n 0, epCoord p n 1, epCoord p n 2)

/-- The coordinates of the antenna changed at the base epoch (R174), or differ from those of the unit that mirrored the slot (R339). -/
def fixMoved (f : FixStart) : Bool :=
  match f.base, fixRef f with
  | some p, some n =>
    (p.refChange && p.moved.getLsbD n) ||
    (f.state.mirrored && decide (f.state.refAnt = n) && decide (f.state.coord ≠ refCoord p n))
  | _, _ => false

/-! ### Signals (R175) -/

/-- The signals of an OBS part (Table 5.8). -/
def obsSig (b : List Byte) (i : Nat) : RoverSig :=
  let o := 32 + 28 * i
  ⟨leAt b o 1, leAt b (o + 1) 1, leAt b (o + 2) 1, leAt b (o + 3) 1, leAt b (o + 4) 8, leAt b (o + 12) 8, leAt b (o + 20) 4,
   leAt b (o + 24) 1, leAt b (o + 25) 1, leAt b (o + 26) 2⟩
def obsSigs (parts : List (Nat × List Byte)) : List RoverSig :=
  parts.flatMap (fun q => (List.range (leAt q.2 25 1)).map (obsSig q.2))

def sigSecond (r : RoverSig) : Bool := decide (r.flags % 2 = 1)
def sigHalf (r : RoverSig) : Bool := decide (r.flags / 2 % 2 = 1)
def sigSlip (r : RoverSig) : Bool := decide (r.flags / 4 % 2 = 1)
/-- PR and phase are valid; a value that is no number is not (assumption 160). -/
def prOk (r : RoverSig) : Bool := decide (r.flags / 8 % 2 = 1) && fp64.finite r.pr
def phaseOk (r : RoverSig) : Bool := decide (r.flags / 16 % 2 = 1) && fp64.finite r.phase

/-- Carrier and wavelength of a signal, its phase and code in metres. -/
def sigHz (r : RoverSig) : Nat := match kindOfId r.gnss r.signal with | some x => carrierHz x r.gloK | none => 0
def sigWave (r : RoverSig) : Frac := Frac.ratio (lightSpeed : Int) (sigHz r)
def sigPhase (r : RoverSig) : Frac := Frac.mul (fp64.toFrac r.phase) (sigWave r)
def sigCode (r : RoverSig) : Frac := fp64.toFrac r.pr

/-- A signal that enters the epoch: the rover's and the base's observables, and the sine of the satellite's elevation. -/
structure UsedSig where
  r : RoverSig
  b : BaseSig
  elev : Frac

/-- The sine of a satellite's elevation at antenna `n`. -/
def elevation (p : BaseEp) (n : Nat) (v : SatPos) : Frac :=
  let x := epCoord p n 0
  let y := epCoord p n 1
  let z := epCoord p n 2
  Frac.ratio (Config.enuOf x y z (v.x - x) (v.y - y) (v.z - z)).2.2 (distNm x y z v.x v.y v.z / 1000)

/-- The satellite is excluded from this machine's solutions (R185). -/
def satOut (f : FixStart) (gnss sat : Nat) : Bool :=
  !fixShared f && f.state.out.any (fun x => decide (x.1 = gnss) && decide (x.2.1 = sat) && decide (0 < x.2.2))

/-- The signals that enter of one of the machine's antennas (R175). -/
def entering (f : FixStart) (second : Bool) : List UsedSig :=
  match f.base, fixRef f with
  | some p, some n =>
    f.sigs.filterMap (fun r =>
      match p.sigs.find? (fun o => decide (o.ant = n) && decide (o.gnss = r.gnss) && decide (o.sat = r.sat) && decide (o.signal = r.signal)),
            satPos p.sats r.gnss r.sat with
      | some o, some v =>
        let el := elevation p n v
        if decide (sigSecond r = second) && (prOk r || phaseOk r) && decide (4 * pstFld f Reg.PST_MASK_CFG 13 8 ≤ r.cn0) &&
            Frac.le ⟨(sinCos (pstFld f Reg.PST_MASK_CFG 6 0)).1, fix⟩ el && !satOut f r.gnss r.sat then some ⟨r, o, el⟩
        else none
      | _, _ => none)
  | _, _ => []

/-- Two signals are of one satellite; of one signal. -/
def sameSat (a b : RoverSig) : Bool := decide (a.gnss = b.gnss) && decide (a.sat = b.sat)
def sameId (a b : RoverSig) : Bool := sameSat a b && decide (a.signal = b.signal)

/-! ### Slips (R176) -/

/-- The monitors of a slot that still means something to this job. -/
def sigMon (f : FixStart) (r : RoverSig) : Option SigMon :=
  if fixInit f then none
  else f.state.sigMons.find? (fun m => decide (m.second = sigSecond r) && decide (m.gnss = r.gnss) && decide (m.sat = r.sat) &&
    decide (m.signal = r.signal))
def satMon (f : FixStart) (a b : RoverSig) : Option SatMon :=
  if fixInit f then none
  else f.state.satMons.find? (fun m => decide (m.second = sigSecond a) && decide (m.gnss = a.gnss) && decide (m.sat = a.sat) &&
    decide (m.s1 = a.signal) && decide (m.s2 = b.signal))

/-- The signals with phase of a signal's satellite at its antenna; every two of them on different carriers, the lower ID first. -/
def freqPairs (l : List UsedSig) (r : RoverSig) : List (RoverSig × RoverSig) :=
  let mine := (l.map (·.r)).filter (fun x => sameSat x r && decide (sigSecond x = sigSecond r) && phaseOk x)
  mine.flatMap (fun a => (mine.filter (fun b => decide (a.signal < b.signal) && decide (sigHz a ≠ sigHz b))).map (fun b => (a, b)))

/-- The phase change departs from the Doppler integrated over the interval, its mean, by more than 1 cycle. -/
def dopplerSlip (e : Nat) (m : SigMon) (r : RoverSig) : Bool :=
  let mean := Frac.mul (Frac.add (fp32.toFrac m.doppler) (fp32.toFrac r.doppler)) ⟨((e - m.e : Nat) : Int), 2000000000⟩
  let x := Frac.add (Frac.sub (fp64.toFrac r.phase) (fp64.toFrac m.phase)) mean
  Frac.lt (Frac.ofNat 1) ⟨(x.num.natAbs : Int), x.den⟩

/-- A slip of the signal alone: SFLAGS, LOCK, the base's lock time, Doppler on one frequency, a phase rejected the epoch before
(R178). -/
def sigSlips (f : FixStart) (eb : Nat) (l : List UsedSig) (u : UsedSig) : Bool :=
  sigSlip u.r ||
  (match sigMon f u.r with
    | some m => decide (u.r.lock < m.lock) || decide (u.b.lock * 1000000 < eb - m.eb) || m.rejected ||
        ((freqPairs l u.r).isEmpty && phaseOk u.r && dopplerSlip f.epoch m u.r)
    | none => false)

/-- The geometry-free combination in nm, and the Melbourne-Wübbena value in 10⁻⁶ wide-lane cycle. -/
def gfOf (a b : RoverSig) : Int := toNm (Frac.sub (sigPhase a) (sigPhase b))
def mwOf (a b : RoverSig) : Int :=
  let wide : Int := (sigHz a : Int) - (sigHz b : Int)
  let code := Frac.add (Frac.mul (sigCode a) (Frac.ratio (sigHz a) lightSpeed)) (Frac.mul (sigCode b) (Frac.ratio (sigHz b) lightSpeed))
  let x := Frac.sub (Frac.sub (fp64.toFrac a.phase) (fp64.toFrac b.phase)) (Frac.mul code (Frac.ratio wide (sigHz a + sigHz b)))
  nearest (Frac.mul x (Frac.ofNat 1000000))

/-- The change of the geometry-free combination that the last epochs predict, in nm. -/
def gfPredicted (e : Nat) (l : List (Nat × Int)) : Int :=
  match l.head?, l.getLast? with
  | some a, some b => if b.1 < a.1 then (a.2 - b.2) * ((e : Int) - (a.1 : Int)) / ((a.1 : Int) - (b.1 : Int)) else 0
  | _, _ => 0

/-- The geometry-free or the wide-lane test of two signals fails. -/
def pairSlips (f : FixStart) (q : RoverSig × RoverSig) : Bool :=
  match satMon f q.1 q.2 with
  | some m =>
    let gf := match m.gf.head? with
      | some v => decide (pstFld f Reg.PST_SLIP_CFG 7 0 * 1000000 < (gfOf q.1 q.2 - v.2 - gfPredicted f.epoch m.gf).natAbs)
      | none => false
    let mw := prOk q.1 && prOk q.2 && decide (0 < m.mwN) &&
      decide (pstFld f Reg.PST_SLIP_CFG 15 8 * 100000 * m.mwN < (mwOf q.1 q.2 * m.mwN - m.mwSum).natAbs)
    gf || mw
  | none => false

/-- A slip of a satellite on two or more frequencies: it resets every one. -/
def satSlips (f : FixStart) (l : List UsedSig) (r : RoverSig) : Bool := (freqPairs l r).any (pairSlips f)

/-- The signal's ambiguity is reset. -/
def slips (f : FixStart) (eb : Nat) (l : List UsedSig) (u : UsedSig) : Bool := sigSlips f eb l u || satSlips f l u.r

/-- The monitors after the epoch. -/
def newSigMon (f : FixStart) (eb : Nat) (rejected : RoverSig → Bool) (u : UsedSig) : SigMon :=
  ⟨sigSecond u.r, u.r.gnss, u.r.sat, u.r.signal, u.r.lock, u.r.phase, u.r.doppler, f.epoch, eb, rejected u.r⟩
def newSatMons (f : FixStart) (eb : Nat) (l : List UsedSig) (u : UsedSig) : List SatMon :=
  (freqPairs l u.r).map (fun p =>
    let fresh := l.any (fun x => (sameId x.r p.1 || sameId x.r p.2) && slips f eb l x)
    let old := (satMon f p.1 p.2).filter (fun _ => !fresh)
    let gf := (f.epoch, gfOf p.1 p.2) :: (match old with | some m => m.gf | none => [])
    let mw := prOk p.1 && prOk p.2
    let sum := match old with | some m => m.mwSum | none => 0
    let n := match old with | some m => m.mwN | none => 0
    ⟨sigSecond u.r, u.r.gnss, u.r.sat, p.1.signal, p.2.signal, gf.take 6, sum + (if mw then mwOf p.1 p.2 else 0), n + b2n mw⟩)

/-! ### Double differences (R171, R175) -/

/-- The ambiguities that the filter holds from the epoch before; a slot initialised has none. -/
def heldAmbs (f : FixStart) : List AmbState := if fixInit f then [] else f.state.ambs

/-- The pivot that a list of ambiguities has for a signal, and whether the signal's satellite is among them. -/
def pivotIn (l : List AmbState) (r : RoverSig) : Option Nat :=
  (l.find? (fun a => decide (a.gnss = r.gnss) && decide (a.signal = r.signal))).map (·.pivot)
def knownIn (l : List AmbState) (r : RoverSig) : Bool :=
  decide (pivotIn l r = some r.sat) ||
  l.any (fun a => decide (a.gnss = r.gnss) && decide (a.sat = r.sat) && decide (a.signal = r.signal))

/-- A GNSS and signal ID: its signals. -/
def sameKind (a b : RoverSig) : Bool := decide (a.gnss = b.gnss) && decide (a.signal = b.signal)

/-- The pivot before has slipped, for the signal's GNSS and ID. -/
def pivotSlipped (held : List AmbState) (slip : RoverSig → Bool) (l : List UsedSig) (r : RoverSig) : Bool :=
  l.any (fun u => sameKind u.r r && decide (pivotIn held r = some u.r.sat) && slip u.r)

/-- The pivot of a signal: the highest satellite; not the one that was the pivot and slipped, where there is another. -/
def pivotSig (f : FixStart) (slip : RoverSig → Bool) (l : List UsedSig) (u : UsedSig) : UsedSig :=
  let g := l.filter (fun x => sameKind x.r u.r)
  let h := g.filter (fun x => !(decide (pivotIn (heldAmbs f) u.r = some x.r.sat) && slip x.r))
  (firstBy (fun a b => Frac.lt b.elev a.elev) (if h.isEmpty then g else h)).getD u

/-- A satellite's coordinate after `age` ns: position, velocity and acceleration of one axis. -/
def axisAt (age : Nat) (x v a : Int) : Int := x + v * age / 1000000000 + a * (age ^ 2 : Nat) / (2 * 10 ^ 18)

/-- What a satellite's motion does to the range of antenna `n` from e_b to e_r beside the rate at e_b, which the Doppler carries, in nm
(R171; DEDUCED, assumption 159). -/
def motionNm (p : BaseEp) (n age : Nat) (v : SatPos) : Int :=
  let c := refCoord p n
  let far := distNm c.1 c.2.1 c.2.2 (axisAt age v.x v.vx v.ax) (axisAt age v.y v.vy v.ay) (axisAt age v.z v.vz v.az)
  let near := distNm c.1 c.2.1 c.2.2 v.x v.y v.z
  let dot := (v.x - c.1) * v.vx + (v.y - c.2.1) * v.vy + (v.z - c.2.2) * v.vz
  (far : Int) - (near : Int) - dot * 10 ^ 10 * age / (10 ^ 9 * (max 1 near : Nat))

/-- What carries a base observable on from e_b to e_r, in nm: its Doppler and the satellite's motion (R171). -/
def baseMoves (p : BaseEp) (n age : Nat) (u : UsedSig) : Int :=
  toNm (Frac.mul (rateOf u.b) ⟨(age : Int), 1000000000⟩) +
  (match satPos p.sats u.r.gnss u.r.sat with | some v => motionNm p n age v | none => 0)

/-- Between-receiver differences of code and phase, in nm, against antenna `n` of a base epoch. -/
def codeDiff (p : BaseEp) (n age : Nat) (u : UsedSig) : Int := toNm (sigCode u.r) - toNm (prOf u.b) - baseMoves p n age u
def phaseDiff (p : BaseEp) (n age : Nat) (u : UsedSig) : Int := toNm (sigPhase u.r) - toNm (phaseOf u.b) - baseMoves p n age u

/-- The double differences of a list of signals; `code` and `phase` difference one signal, `half` tells a half cycle. -/
def doubleDiffs (f : FixStart) (slip : RoverSig → Bool) (addVar : Nat) (code phase : UsedSig → Option Int) (half : UsedSig → Bool)
    (l : List UsedSig) : List DDObs :=
  l.flatMap (fun u =>
    let q := pivotSig f slip l u
    let dd (isPhase : Bool) (d : UsedSig → Option Int) : List DDObs :=
      match d u, d q with
      | some a, some b => [⟨u.r.gnss, u.r.sat, u.r.signal, q.r.sat, isPhase, a - b, isPhase && (half u || half q), addVar⟩]
      | _, _ => []
    if q.r.sat = u.r.sat then [] else dd false code ++ dd true phase)

/-! ### Filter input (R173, R177) -/

/-- What the pair ambiguities give for a signal between the antenna before and the one chosen, resolved (R112): pivot and integer. -/
def pairAmb (f : FixStart) (ref gnss sat signal : Nat) : Option (Nat × Int) :=
  let old := f.state.refAnt
  let id (m : PairAmb) : Option Nat := (signalKind m.kind).map (fun x => signalId x m.comp)
  (f.ambs.find? (fun m => decide (m.run = 20) && decide (m.gnss = gnss) && decide (m.sat = sat) && decide (id m = some signal) &&
    ((decide (m.a = old) && decide (m.b = ref)) || (decide (m.a = ref) && decide (m.b = old))))).map
    (fun m => (m.pivot, if m.a = old then m.n else -m.n))

/-- The integer that carries the ambiguity of a satellite against a pivot over to the antenna chosen; 0 where the antenna stays. -/
def carryOver (f : FixStart) (ref gnss signal sat pivot : Nat) : Option Int :=
  if f.state.refAnt = ref then some 0
  else match pairAmb f ref gnss sat signal, pairAmb f ref gnss pivot signal with
    | some a, some b => if a.1 = b.1 then some (a.2 - b.2) else none
    | _, _ => none

/-- The change of antenna resets an ambiguity that the filter held: one without a resolved pair ambiguity (R173). -/
def switchReset (f : FixStart) (ref : Nat) : Bool :=
  (heldAmbs f).any (fun a => (carryOver f ref a.gnss a.signal a.sat a.pivot).isNone)

/-- The ambiguity of a phase double difference, against those held; `carry` is what a change of antenna adds to it. -/
def ambOf (held : List AmbState) (carry : DDObs → Option Int) (slip : RoverSig → Bool) (l : List UsedSig) (o : DDObs) : AmbState :=
  let sig (sat : Nat) : Option RoverSig :=
    (l.find? (fun u => decide (u.r.gnss = o.gnss) && decide (u.r.signal = o.signal) && decide (u.r.sat = sat))).map (·.r)
  match sig o.sat, sig o.pivot with
  | some r, some q =>
    let on := knownIn held r && knownIn held q && !slip r && !slip q && !pivotSlipped held slip l r
    let c := carry o
    ⟨o.gnss, o.sat, o.signal, o.pivot, on && c.isSome, c.getD 0, decide (o.gnss ≠ 1) && !o.float && on && c.isSome⟩
  | _, _ => ⟨o.gnss, o.sat, o.signal, o.pivot, false, 0, false⟩

/-- The satellites of a list. -/
def satsIn (l : List UsedSig) : List (Nat × Nat) := (l.map (fun u => (u.r.gnss, u.r.sat))).eraseDups

/-- The satellites with an ionosphere state: those that are no pivot of any GNSS and signal ID. -/
def ionoSats (f : FixStart) (slip : RoverSig → Bool) (l : List UsedSig) : List (Nat × Nat) :=
  let pivots := l.map (fun u => (u.r.gnss, (pivotSig f slip l u).r.sat))
  (satsIn l).filter (fun x => !pivots.contains x)

/-- The double differences of the main solution against antenna `ref`. -/
def mainObs (f : FixStart) (p : BaseEp) (ref : Nat) (slip : RoverSig → Bool) (l : List UsedSig) : List DDObs :=
  let age := f.epoch - p.e
  doubleDiffs f slip ((pstFld f Reg.PST_MASK_CFG 23 16 * age) ^ 2) (fun u => if prOk u.r then some (codeDiff p ref age u) else none)
    (fun u => if phaseOk u.r then some (phaseDiff p ref age u) else none) (fun u => sigHalf u.r || u.b.half) l

/-- States of the filter for a list of signals (R177): position, velocity, ionosphere, ambiguities. -/
def statesFor (f : FixStart) (p : BaseEp) (ref : Nat) (slip : RoverSig → Bool) (l : List UsedSig) : Nat :=
  6 + (ionoSats f slip l).length + ((mainObs f p ref slip l).filter (·.phase)).length

/-- Drops the lowest satellite while there are more than 128 states. -/
def dropToFit (f : FixStart) (p : BaseEp) (ref : Nat) (slip : RoverSig → Bool) : Nat → List UsedSig → List UsedSig
  | 0, l => l
  | n + 1, l =>
    if statesFor f p ref slip l ≤ 128 then l
    else match firstBy (fun a b => Frac.lt a.elev b.elev) l with
      | some u => dropToFit f p ref slip n (l.filter (fun x => !sameSat x.r u.r))
      | none => l

/-- The code-only solution of an epoch (R167). -/
def codeOnly (f : FixStart) (p : BaseEp) (ref : Nat) (l : List UsedSig) : CodeOut :=
  let age := f.epoch - p.e
  let c := refCoord p ref
  Config.codeSol ⟨(l.filter (fun u => prOk u.r)).map (fun u => (u.r.gnss, u.r.sat, u.r.signal, codeDiff p ref age u)), age, p.sats,
    c.1, c.2.1, c.2.2⟩

/-- The prediction of an epoch (R167, R174, R177). A slot initialised starts from the code-only solution with velocity 0 and 10 m/s 1σ,
and so, with its other states kept, does one whose antenna's coordinates changed; else position goes on at constant velocity. -/
def priorOf (f : FixStart) (p : BaseEp) (ref : Nat) (l : List UsedSig) : Prior :=
  let x := f.state
  if fixInit f || fixMoved f then
    let c := codeOnly f p ref l
    ⟨if fixInit f then .fresh else .kept, c.x, c.y, c.z, 0, 0, 0, 10000, c.clock⟩
  else
    let um (v : Int) : Int := v * ((f.epoch - x.filtEpoch : Nat) : Int) / 1000000
    let d := Config.ecefOf x.x x.y x.z (um x.ve) (um x.vn) (um x.vu)
    ⟨.predicted, x.x + d.1 / 100, x.y + d.2.1 / 100, x.z + d.2.2 / 100, x.ve, x.vn, x.vu, 0, x.clock⟩

/-! ### Prediction of the filter's content (R177) -/

/-- The covariance of two states; 0 where it lists none. -/
def covOf (l : List Cov) (a b : FState) : Frac :=
  match l.find? (fun c => (decide (c.a = a) && decide (c.b = b)) || (decide (c.a = b) && decide (c.b = a))) with
  | some c => Frac.ratio c.num c.den
  | none => Frac.ofNat 0

/-- Σ of products of fractions. -/
def fracSum (l : List Frac) : Frac := l.foldl Frac.add (Frac.ofNat 0)

/-- The pivot that the ambiguities of a GNSS and signal ID were held against. -/
def oldPivot (held : List AmbState) (gnss signal : Nat) : Option Nat :=
  (held.find? (fun a => decide (a.gnss = gnss) && decide (a.signal = signal))).map (·.pivot)

/-- A state of an epoch from the states of the epoch before, `dt` ns earlier: constant velocity; an ambiguity against a new pivot is the
difference of two against the old one. -/
def stateFrom (held : List AmbState) (dt : Nat) (ambs : List AmbState) (x : FState) : List (FState × Frac) :=
  match x with
  | .pos k => [(.pos k, Frac.ofNat 1), (.vel k, ⟨(dt : Int), 1000000000⟩)]
  | .amb g s n =>
    let of (sat : Nat) (c : Int) : List (FState × Frac) := if oldPivot held g n = some sat then [] else [(.amb g sat n, Frac.ofInt c)]
    match ambs.find? (fun a => decide (a.gnss = g) && decide (a.sat = s) && decide (a.signal = n)) with
    | some a => of s 1 ++ of a.pivot (-1)
    | none => []
  | y => [(y, Frac.ofNat 1)]

/-- Process noise over `dt` ns: ACC_Q in 0.01 m/s²/√Hz drives position and velocity of an axis, IONO_Q in mm/√s an ionosphere state. -/
def processNoise (accQ ionoQ dt : Nat) (a b : FState) : Frac :=
  let t : Frac := ⟨(dt : Int), 1000000000⟩
  let q := Frac.ofNat ((accQ * 10000) ^ 2)
  match a, b with
  | .pos i, .pos j => if i = j then Frac.mul q (Frac.mul (Frac.mul t (Frac.mul t t)) ⟨1, 3⟩) else Frac.ofNat 0
  | .pos i, .vel j | .vel i, .pos j => if i = j then Frac.mul q (Frac.mul (Frac.mul t t) ⟨1, 2⟩) else Frac.ofNat 0
  | .vel i, .vel j => if i = j then Frac.mul q t else Frac.ofNat 0
  | .iono g s, .iono h r => if g = h ∧ s = r then Frac.mul (Frac.ofNat ((ionoQ * 1000) ^ 2)) t else Frac.ofNat 0
  | _, _ => Frac.ofNat 0

/-- The pairs of a list of states, each once. -/
def statePairs : List FState → List (FState × FState)
  | [] => []
  | x :: l => (x, x) :: l.map (fun y => (x, y)) ++ statePairs l

/-- The content of the filter predicted `dt` ns on, over its states that go on: each covariance as the states before give it, with the
process noise; an estimate likewise, with the integer that a change of antenna adds to an ambiguity (R173). States that are new, or
fresh, list no covariance but that of a fresh velocity, of `sigma` mm/s (R167); the spec gives no other first variance (assumption 236). -/
def predictFilter (old : Filter) (held : List AmbState) (accQ ionoQ dt sigma : Nat) (motion : List FState) (iono : List (Nat × Nat))
    (ambs : List AmbState) : Filter :=
  let on := (iono.map (fun x => FState.iono x.1 x.2)).filter (fun x => old.est.any (fun e => e.1 = x)) ++
    (ambs.filter (·.goesOn)).map (fun a => FState.amb a.gnss a.sat a.signal)
  let src := stateFrom held dt ambs
  let moved (x y : FState) : Frac :=
    fracSum ((src x).flatMap (fun u => (src y).map (fun v => Frac.mul (Frac.mul u.2 v.2) (covOf old.cov u.1 v.1))))
  let est (x : FState) : Int :=
    (fracSum ((src x).map (fun u => Frac.mul u.2 (Frac.ofInt (((old.est.find? (fun e => e.1 = u.1)).map (·.2)).getD 0))))).floor +
    (match x with
      | .amb g s n => ((ambs.find? (fun a => decide (a.gnss = g) && decide (a.sat = s) && decide (a.signal = n))).map (fun a => a.carry * 1000000)).getD 0
      | _ => 0)
  ⟨on.map (fun x => (x, est x)),
   (statePairs (motion ++ on)).map (fun x => let v := Frac.add (moved x.1 x.2) (processNoise accQ ionoQ dt x.1 x.2); ⟨x.1, x.2, v.num, v.den⟩) ++
   (if sigma = 0 then [] else (List.range 3).map (fun k => ⟨.vel k, .vel k, ((sigma * 1000) ^ 2 : Nat), 1⟩))⟩

/-- The states of position and velocity that go on: all, unless the prediction is fresh in them (R167, R174). -/
def motionStates (k : PriorKind) : List FState :=
  match k with
  | .predicted => [.pos 0, .pos 1, .pos 2, .vel 0, .vel 1, .vel 2]
  | .fresh | .kept => []

/-- A filter's input from its observations and ambiguities. -/
def filterIn (f : FixStart) (p : BaseEp) (ref : Nat) (old : Filter) (held : List AmbState) (motion : List FState) (prior : Prior)
    (iono : List (Nat × Nat)) (obs : List DDObs) (amb : DDObs → AmbState) : FilterIn :=
  let c := refCoord p ref
  let ambs := (obs.filter (·.phase)).map amb
  let dt := if prior.kind = .fresh then 0 else f.epoch - f.state.filtEpoch
  ⟨predictFilter old held (pstFld f Reg.PST_FILT_CFG 7 0) (pstFld f Reg.PST_FILT_CFG 15 8) dt prior.velSigma motion iono ambs, prior, iono,
   ambs, obs, f.epoch - p.e, p.sats, c.1, c.2.1, c.2.2⟩

/-- The input of the position filter. -/
def mainIn (f : FixStart) (p : BaseEp) (ref : Nat) (slip : RoverSig → Bool) (prior : Prior) (l : List UsedSig) : FilterIn :=
  filterIn f p ref (if fixInit f then ⟨[], []⟩ else f.state.content) (heldAmbs f) (motionStates prior.kind) prior (ionoSats f slip l)
    (mainObs f p ref slip l) (ambOf (heldAmbs f) (fun o => carryOver f ref o.gnss o.signal o.sat o.pivot) slip l)

/-- States of a filter (R177). -/
def statesOf (i : FilterIn) : Nat := 6 + i.iono.length + i.ambs.length

/-! ### Innovation test (R178) -/

/-- Two observations are of one signal and kind. -/
def sameObs (a b : DDObs) : Bool :=
  decide (a.gnss = b.gnss) && decide (a.sat = b.sat) && decide (a.signal = b.signal) && decide (a.phase = b.phase)

/-- The observations that the test at 4σ rejects. -/
def rejected (i : FilterIn) : List DDObs :=
  ((List.zip i.obs (Config.innovations i)).filter (fun x => decide (4 * x.2.2 < x.2.1.natAbs))).map (·.1)

/-- Takes observations out of the update. -/
def without (bad : List DDObs) (i : FilterIn) : FilterIn := { i with obs := i.obs.filter (fun o => !bad.any (sameObs o)) }

/-! ### Ambiguity resolution (R179, R180) -/

/-- The success rate that a conditional deviation in 10⁻⁹ cycle leaves, of `fix`: 1 − 2 (1 − Φ(1 / 2σ)); none below 3σ. -/
def roundRate (sigma : Nat) : Nat :=
  let x := fix * 1000000000 / (2 * sigma)
  if sigma = 0 then fix else if x < 3 * fix then 0 else fix - 2 * normalTail x

/-- How many leading ambiguities of an order keep the success rate at or above `least`: the rate so far, how many so far. -/
def leading (least : Nat) : List Nat → Nat → Nat → Nat
  | [], _, n => n
  | s :: l, rate, n =>
    let r := rate * roundRate s / fix
    if least ≤ r then leading least l r (n + 1) else n

/-- Steps 4 to 6: the first subset, from `k` ambiguities down, whose best vector is accepted. -/
def arSearch (f : FixStart) (i : FilterIn) (ok : Nat → Bool) : Nat → Option Nat
  | 0 => none
  | k + 1 =>
    let r := Config.search i (k + 1) (pstFld f Reg.PST_AR_CFG 27 20 * 1024)
    if k + 1 < pstFld f Reg.PST_AR_CFG 17 12 ∨ r.exhausted = true then none
    else if pstFld f Reg.PST_AR_CFG 7 0 * r.best ≤ 10 * r.second ∧ ok (k + 1) = true then some (k + 1)
    else arSearch f i ok k

/-- How many ambiguities the accepted vector fixes; `ok` is a further condition on it (R187). -/
def resolve (f : FixStart) (i : FilterIn) (ok : Nat → Bool) : Option Nat :=
  let cands := (i.ambs.filter (·.candidate)).length
  let order := (sortBy (fun a b => decide (a < b)) (Config.decorrelated i)).take cands
  arSearch f i ok (leading (fix - fix / 10 ^ pstFld f Reg.PST_AR_CFG 11 8) order fix 0)

/-- A solution of a filter update: fixed by some ambiguities, or float. The content is always the float filter's. -/
structure Solved where
  i : FilterIn
  fixed : Option Nat
  out : FilterOut
  content : Filter

def solve (f : FixStart) (i : FilterIn) : Solved :=
  let fl := Config.floatSol i
  let k := resolve f i (fun _ => true)
  ⟨i, k, match k with | some n => Config.fixedSol i n | none => fl, fl.content⟩

/-! ### Integrity (R181 to R186) -/

/-- The satellites that carry a solution: in an observation, or its pivot; the highest first. -/
def usedSats (l : List UsedSig) (i : FilterIn) : List (Nat × Nat) :=
  let high := sortBy (fun a b => Frac.lt b.elev a.elev) l
  (satsIn high).filter (fun x => i.obs.any (fun o => decide (o.gnss = x.1) && (decide (o.sat = x.2) || decide (o.pivot = x.2))))

/-- Group `k` of `n`: satellite i of the order joins group i mod n. -/
def groupSats (sats : List (Nat × Nat)) (n k : Nat) : List (Nat × Nat) :=
  ((List.range sats.length).filter (fun i => i % n = k)).filterMap (fun i => (sats.drop i).head?)

/-- K_md for `n` groups, fixed or float, and K_fa (R182), in 10⁻⁹. -/
def kMd (f : FixStart) (fixed : Bool) (n : Nat) : Nat :=
  let ir := pstFld f Reg.PST_INT_CFG 3 0
  let ps := pstFld f Reg.PST_AR_CFG 11 8
  let eff : Frac := if fixed then ⟨(10 ^ ps : Nat) - (10 ^ ir : Nat), 10 ^ (ir + ps)⟩ else ⟨1, 10 ^ ir⟩
  phiInv (Frac.mul eff ⟨1, 2 * (n + 1)⟩)
def kFa (f : FixStart) (n : Nat) : Nat := phiInv ⟨1, 10 ^ pstFld f Reg.PST_INT_CFG 7 4 * (2 * n)⟩

/-- A subset solution: its group, its satellites left, the solution, the separation from the full one along east, north and up
in µm, and its deviations. -/
structure Subset where
  group : List (Nat × Nat)
  left : Nat
  sol : Solved
  sep : Int × Int × Int
  dev : SepOut

/-- The subset solution without a group (R181): the same prediction, the observations that passed, ambiguities anew. -/
def subsetOf (f : FixStart) (p : BaseEp) (ref : Nat) (slip : RoverSig → Bool) (prior : Prior) (bad : List DDObs) (l : List UsedSig)
    (full : Solved) (group : List (Nat × Nat)) : Subset :=
  let m := l.filter (fun u => !group.contains (u.r.gnss, u.r.sat))
  let sol := solve f (without bad (mainIn f p ref slip prior m))
  let o := full.out
  ⟨group, (usedSats m sol.i).length, sol, Config.enuOf o.x o.y o.z (sol.out.x - o.x) (sol.out.y - o.y) (sol.out.z - o.z),
   Config.separation full.i sol.i full.fixed sol.fixed⟩

/-- The separations of a subset with their deviations. -/
def axes (x : Subset) : List (Int × Nat) := [(x.sep.1, x.dev.e), (x.sep.2.1, x.dev.n), (x.sep.2.2, x.dev.u)]

/-- The test of a group fails (R183). -/
def sepFails (kfa : Nat) (x : Subset) : Bool := (axes x).any (fun a => decide (kfa * a.2 < a.1.natAbs * 1000000000))

/-- The largest ratio of separation to deviation over the axes (R185). -/
def sepRatio (x : Subset) : Frac := ((axes x).map (fun a => Frac.ratio (a.1.natAbs : Int) a.2)).foldl Frac.max (Frac.ofNat 0)

/-- A level in 10⁻⁹ µm, in mm rounded up (R190). -/
def levelMm (v : Nat) : Nat := min (ceilDiv v (1000 * 1000000000)) 0xFFFFFFFF

/-- PL_h and PL_v of a solution with no test failed (R184), from the full solution and its subsets. -/
def protection (kmd kfa : Nat) (full : FilterOut) (l : List Subset) : Nat × Nat :=
  (levelMm ((l.map (fun x => kfa * x.dev.h + kmd * x.sol.out.sigH)).foldl max (kmd * full.sigH)),
   levelMm ((l.map (fun x => kfa * x.dev.u + kmd * x.sol.out.sigV)).foldl max (kmd * full.sigV)))

/-- What a job carries: its fix state (Table 6.4), the solution, levels, satellites in it, the group excluded, if any. -/
structure Carried where
  state : Nat
  sol : Solved
  plh : Nat
  plv : Nat
  nsat : Nat
  group : Option (List (Nat × Nat))

/-- R181 to R186, R189: the solution that the job carries. -/
def integrity (f : FixStart) (p : BaseEp) (ref : Nat) (slip : RoverSig → Bool) (prior : Prior) (bad : List DDObs) (l : List UsedSig) :
    Carried :=
  let full := solve f (without bad (mainIn f p ref slip prior l))
  let sats := usedSats l full.i
  let alone (st : Nat) (s : Solved) (n : Nat) (groups : Nat) (g : Option (List (Nat × Nat))) : Carried :=
    let k := kMd f s.fixed.isSome groups
    ⟨st, s, levelMm (k * s.out.sigH), levelMm (k * s.out.sigV), n, g⟩
  if sats.length < 5 then alone 0 full 0 0 none
  else if sats.length = 5 then alone 1 full 5 0 none
  else
    let n := min (pstFld f Reg.PST_INT_CFG 11 8) sats.length
    let subs := (List.range n).map (fun k => subsetOf f p ref slip prior bad l full (groupSats sats n k))
    let kfa := kFa f n
    if subs.any (sepFails kfa) then
      match firstBy (fun a b => Frac.lt (sepRatio b) (sepRatio a)) subs with
      | some x => alone (if x.left < 5 then 0 else 1) x.sol x.left n (some x.group)
      | none => alone 0 full 0 n none
    else
      let pl := protection (kMd f full.fixed.isSome n) kfa full.out subs
      ⟨if full.fixed.isSome && !fixMoved f then 3 else 2, full, pl.1, pl.2, sats.length, none⟩

/-! ### Heading and pitch (R187, R188) -/

/-- |b| differs from BASE_MM by no more than TOL_MM, where a length is declared. -/
def lengthOk (f : FixStart) (b : BaseOut) : Bool :=
  let len := pstFld f (Reg.PST_CLASS_ANT f.entry.cls) 15 0
  let tol := pstFld f (Reg.PST_CLASS_ANT f.entry.cls) 23 16
  let d2 := (b.e ^ 2 + b.n ^ 2 + b.u ^ 2).toNat
  decide (len = 0) || (decide (((len - tol) * 1000) ^ 2 ≤ d2) && decide (d2 ≤ ((len + tol) * 1000) ^ 2))

/-- The second antenna's signal that goes with a signal of the first. -/
def partner (l : List UsedSig) (u : UsedSig) : Option RoverSig := (l.find? (fun v => sameId v.r u.r)).map (·.r)

/-- The baseline's ambiguities from the epoch before. -/
def heldHead (f : FixStart) : List AmbState := if fixInit f then [] else f.state.headAmbs

/-- The filter input of the baseline: differences between the machine's antennas over the satellites of a list, with the pivots and the
slips of the main solution; a slip at either antenna resets. The base antenna plays no part in it. -/
def headIn (f : FixStart) (p : BaseEp) (ref : Nat) (slip slip2 : RoverSig → Bool) (prior : Prior) (l l2 : List UsedSig) : FilterIn :=
  let both (r : RoverSig) : Bool := slip r || l2.any (fun v => sameId v.r r && slip2 v.r)
  let diff (ok : RoverSig → Bool) (val : RoverSig → Frac) (u : UsedSig) : Option Int :=
    match partner l2 u with
    | some v => if ok u.r && ok v then some (toNm (val v) - toNm (val u.r)) else none
    | none => none
  let obs := doubleDiffs f slip 0 (diff prOk sigCode) (diff phaseOk sigPhase)
    (fun u => sigHalf u.r || (match partner l2 u with | some v => sigHalf v | none => false)) l
  filterIn f p ref (if fixInit f then ⟨[], []⟩ else f.state.baseline) (heldHead f) [] { prior with velSigma := 0 } [] obs
    (ambOf (heldHead f) (fun _ => some 0) both l)

/-- Heading from 0 to 35,999 and pitch, in 0.01°. -/
def headingOf (b : BaseOut) : Nat := (atan2 b.e b.n % 36000).toNat
def pitchOf (b : BaseOut) : Int := atan2 b.u (isqrtStep 64 0 (b.e ^ 2 + b.n ^ 2).toNat)

/-- The baseline: what it leaves, and heading and pitch where they are valid. -/
def heading (f : FixStart) (i : FilterIn) : Filter × Option (Nat × Int) :=
  let k := resolve f i (fun k => lengthOk f (Config.baselineSol i (some k)))
  let b := Config.baselineSol i k
  ((Config.baselineSol i none).content, if k.isSome then some (headingOf b, pitchOf b) else none)

/-! ### The result (R189, R190) -/

/-- A result as the FIX frame and the halo carry it. -/
structure FixResult where
  state : Nat
  x : Int
  y : Int
  z : Int
  ve : Int
  vn : Int
  vu : Int
  velValid : Bool
  headValid : Bool
  heading : Nat
  pitch : Int
  plh : Nat
  plv : Nat
  age : Nat
  ref : Nat
  nsat : Nat
deriving DecidableEq, Repr

/-- A result of fix state NONE (Table 6.5). -/
def resultNone (age ref : Nat) : FixResult := ⟨0, 0, 0, 0, 0, 0, 0, false, false, 0, 0, 0xFFFFFFFF, 0xFFFFFFFF, age, ref, 0⟩

/-- AGE of a result: base age in ms, saturating; 0xFFFF without a base epoch. -/
def ageOf (f : FixStart) : Nat := match f.base with | some p => min ((f.epoch - p.e) / 1000000) 0xFFFF | none => 0xFFFF

/-- What a fix job does when it completes: its result, its slot, STATE_LIMIT, REF_SWITCH_RESET, EXCLUSION. -/
structure FixDone where
  result : FixResult
  slot : Slot
  stateLimit : Bool
  switched : Bool
  excluded : Bool

/-- The slot that a job starts from: a new owner resets it (R166). -/
def startSlot (f : FixStart) : Slot := if fixShared f then { slotDef f.slot with wb := f.state.wb } else f.state

/-- A slot after a job with result `r`: ownership, the epoch, the status words. -/
def slotSolved (f : FixStart) (initNext : Bool) (r : FixResult) : Slot :=
  { startSlot f with owner := f.machine, run := true, initNext := initNext, epoch := f.epoch, lastState := r.state,
                     wb := (f.state.wb + 1) % 256, plh := r.plh }

/-- Satellites of a solution that carried Doppler: a number (assumption 160). -/
def dopplerSats (l : List UsedSig) : Nat := (satsIn (l.filter (fun u => fp32.finite u.r.doppler))).length

/-- The satellites excluded after the epoch: those of a group for 20 epochs, the others one less (R185). -/
def nextOut (f : FixStart) (group : Option (List (Nat × Nat))) : List (Nat × Nat × Nat) :=
  let old := (if fixShared f then [] else f.state.out).filterMap (fun x => if 1 < x.2.2 then some (x.1, x.2.1, x.2.2 - 1) else none)
  match group with
  | some g => g.map (fun x => (x.1, x.2, 20)) ++ old.filter (fun x => !g.contains (x.1, x.2.1))
  | none => old

/-- The job with a base epoch in age, measured from antenna `ref`. -/
def fixSolve (f : FixStart) (p : BaseEp) (ref : Nat) : FixDone :=
  let all := entering f false
  let l2 := if f.entry.dualAnt then entering f true else []
  let slipIn (l : List UsedSig) (r : RoverSig) : Bool := l.any (fun u => sameId u.r r && slips f p.e l u)
  let slip := slipIn all
  let l := dropToFit f p ref slip all.length all
  let prior := priorOf f p ref l
  let i := mainIn f p ref slip prior l
  let bad := rejected i
  let none0 := resultNone (ageOf f) ref
  let limit := decide (l.length ≠ all.length)
  let switched := switchReset f ref
  if i.obs.length < 2 * bad.length then ⟨none0, slotSolved f true none0, limit, switched, false⟩
  else
    let c := integrity f p ref slip prior bad l
    let o := c.sol.out
    let in_ (u : UsedSig) : Bool := !(match c.group with | some g => g.contains (u.r.gnss, u.r.sat) | none => false)
    let hi := headIn f p ref slip (slipIn l2) prior (l.filter in_) l2
    let h := heading f hi
    let head := f.entry.dualAnt && h.2.isSome
    let hp := if head then h.2.getD (0, 0) else (0, 0)
    let r : FixResult := if c.state = 0 then none0
      else ⟨c.state, o.x, o.y, o.z, o.ve, o.vn, o.vu, decide (4 ≤ dopplerSats (l.filter in_)), head, hp.1, hp.2, c.plh, c.plv, ageOf f, ref, c.nsat⟩
    let badSig (x : RoverSig) : Bool := bad.any (fun b => b.phase && decide (b.gnss = x.gnss) && decide (b.sat = x.sat) && decide (b.signal = x.signal))
    let x := { slotSolved f false r with
      refAnt := ref, nstates := statesOf i, x := o.x, y := o.y, z := o.z, ve := o.ve, vn := o.vn, vu := o.vu, content := c.sol.content,
      ambs := i.ambs, sigMons := (all.filter (fun u => phaseOk u.r)).map (newSigMon f p.e badSig) ++
        (l2.filter (fun u => phaseOk u.r)).map (newSigMon f p.e (fun _ => false)),
      satMons := (all.flatMap (newSatMons f p.e all) ++ l2.flatMap (newSatMons f p.e l2)).eraseDups, out := nextOut f c.group,
      baseline := h.1, headAmbs := hi.ambs, filtEpoch := f.epoch, clock := prior.clock, coord := refCoord p ref, mirrored := false }
    ⟨r, x, limit, switched, c.group.isSome⟩

/-- The fix job. Without a base epoch in age no signal enters (R175) and the filter is predicted alone: the job carries NONE and commits
the epoch and the predicted velocity, which at constant velocity is the slot's; the rest stays as of its own epoch, from which the next
job predicts (R170). A slot that it was to initialise is left to the next job (assumption 162). -/
def fixDone (f : FixStart) : FixDone :=
  match f.base, fixRef f, fixInAge f with
  | some p, some ref, true => fixSolve f p ref
  | _, ref, _ =>
    let r := resultNone (ageOf f) (ref.getD 0)
    ⟨r, slotSolved f (fixInit f) r, false, false, false⟩

end Sys2Proof.Machine
end

