-- ==== Sys2Proof/Machine/Acquisition.lean ====
section
/-! DEFINITION. Captures, the acquisition queue and its pipelines, and the reassembly of rover snapshots (chapter 3). -/
namespace Sys2Proof.Machine

def setAcq (a : Acq) (s : State) : State := { s with acq := a }

/-! ### Captures -/

/-- Granules of a capture (R82): the antenna-bands asked for, found present or not (assumption 151). -/
def granules (mask len : Nat) : Nat := popCount 16 mask * len

/-- Free granules of the pool of 384 (R82, ACQ_STATUS.FREE). -/
def freeGranules (s : State) : Nat := 384 - (s.acq.caps.map (fun e => granules e.2.mask e.2.lenMs)).sum

/-- Capture ids that no capture holds. -/
def unusedIds (s : State) : List Nat := (List.range 256).filter (fun k => !s.acq.caps.any (fun e => e.1 = k))

/-- Enters a capture into the directory under a free id. Which one is open: a free value (assumption 41). -/
def allocCapture (mask len startMs state : Nat) (stored : Nat) (late : Bool) (s : State) : State :=
  let ids := unusedIds s
  let id := ids.getD (freeVal s % ids.length) 0
  let c : Capture := ⟨mask, len, startMs, stored, state, late, false, s.acq.orders, []⟩
  setAcq { s.acq with caps := Tab.put capDef s.acq.caps id c, orders := s.acq.orders + 1, lastCap := some id } (freeNext s)

/-- AT, which nanoseconds that are no whole millisecond round up (ACQ_CAP_AT), or the next whole millisecond where AT is past;
and whether it is past (R86). -/
def captureStart (s : State) : Nat × Bool :=
  let ms := ((epochOf s (rd s Reg.ACQ_CAP_AT_S).toNat (rd s Reg.ACQ_CAP_AT_NS).toNat + 999999) / 1000000).toNat
  if ms * tMs < s.tim.now then (msIdx s.tim.now + 1, true) else (ms, false)

/-- R85, R86: the CAPTURE command, in every mode in which ACQ runs, STANDBY too (DESIGN CHOICE, assumption 186). A directory without
a free id refuses as a full pool does (assumption 41). -/
def execCapture (s : State) : Out :=
  let mask := fld s Reg.ACQ_CAP_CFG 15 0
  let len := fld s Reg.ACQ_CAP_CFG 20 16
  let at_ := captureStart s
  .next (
    if !acqUp s then s
    else if len < 1 ∨ 24 < len then sticky Reg.ACQ_STICKY 3 s
    else if freeGranules s < granules mask len ∨ unusedIds s = [] then sticky Reg.ACQ_STICKY 0 s
    else allocCapture mask len at_.1 1 0 at_.2 s)

/-- R84: the RELEASE command; a pinned capture's release is deferred. -/
def execCaptureRelease (id : Nat) (s : State) : Out :=
  .next (
    if !acqUp s || !s.acq.caps.any (fun e => e.1 = id) then s
    else if pins s id = 0 then setAcq { s.acq with caps := Tab.del s.acq.caps id } s
    else setCapture id { capture s id with deferred := true } s)

/-- The antenna-bands of a mask whose antenna delivers samples now (R83). -/
def storedNow (s : State) (mask : Nat) : Nat :=
  ((List.range 16).filter (fun b => decide (mask / 2 ^ b % 2 = 1) && antUp s (b / 4) && decide ((ant s (b / 4)).link = .data))).foldl
    (fun v b => v + 2 ^ b) 0

/-- R83: AT of an armed capture. -/
def execCaptureWindowStart (id : Nat) (s : State) : Out :=
  let c := capture s id
  .next (
    if c.state = 1 ∧ c.startMs * tMs ≤ s.tim.now then setCapture id { c with state := 2, stored := storedNow s c.mask } s else s)

/-- The samples of the stored antenna-bands, from what each antenna's lane carried in the window (R41, R83): a frame in error
counts as zero samples (R49). -/
def captureData (s : State) (stored : Nat) (frames : List (List LaneFrame)) : Tab (List Byte) :=
  ((List.range 16).filter (fun b => decide (stored / 2 ^ b % 2 = 1))).map (fun b =>
    (b, (laneRun (flag s (Reg.ING_CFG (b / 4)) 0) ((frames.drop (b / 4)).headD [])).map (fun w =>
      match w with | some v => BitVec.ofNat 8 (bandOctet (b % 4) v) | none => 0)))

/-- R83: AT + L ms. -/
def execCaptureWindowEnd (w : WindowFrames) (s : State) : Out :=
  let c := capture s w.id
  .next (
    if c.state = 2 ∧ (c.startMs + c.lenMs) * tMs ≤ s.tim.now then
      setCapture w.id { c with state := 3, data := (captureData s c.stored w.frames).filter (fun e => !e.2.isEmpty) } s
    else s)

/-- The oldest unpinned capture: the first allocated (assumption 152). -/
def oldestUnpinned (s : State) : Option Nat :=
  ((s.acq.caps.filter (fun e => decide (pins s e.1 = 0))).foldl
    (fun (b : Option (Nat × Nat)) e => match b with
      | none => some (e.1, e.2.order)
      | some p => some (if e.2.order < p.2 then (e.1, e.2.order) else p)) none).map (·.1)

/-- Adds one to a 16-bit saturating half of a counter register. -/
def incHalf (a lo : Nat) (s : State) : State := wr a (setBits (rd s a) (lo + 15) lo (min (fld s a (lo + 15) lo + 1) 0xFFFF)) s

/-- Releases the oldest unpinned captures, one at a time, until `need` granules and an id are free (R88). -/
def makeRoom (need : Nat) : Nat → State → State
  | 0, s => s
  | n + 1, s =>
    if need ≤ freeGranules s ∧ unusedIds s ≠ [] then s
    else match oldestUnpinned s with
      | none => s
      | some id =>
        makeRoom need n (sticky Reg.ACQ_STICKY 1 (incHalf Reg.ACQ_SNAP_COUNT 0 (setAcq { s.acq with caps := Tab.del s.acq.caps id } s)))

/-- Granules that would be free with every unpinned capture released. -/
def reachable (s : State) : Nat :=
  384 - ((s.acq.caps.filter (fun e => decide (pins s e.1 ≠ 0))).map (fun e => granules e.2.mask e.2.lenMs)).sum

/-- R87, R88: in SNAPSHOT mode a scheduled capture falls due. One that cannot fit, for want of
granules or of an id, is skipped and releases nothing (assumption 42). -/
def execSnapshotScheduledCapture (s : State) : Out :=
  let mask := fld s Reg.ACQ_SNAP_MASK 15 0
  let len := fld s Reg.ACQ_SNAP_CFG 19 15
  let sec := s.acq.nextSnapS
  .next (
    if s.crp.mode ≠ .snapshot ∨ bbUp s = false ∨ s.tim.now < sec * tSec then s
    else
      let s := setAcq { s.acq with nextSnapS := sec + max 1 (fld s Reg.ACQ_SNAP_CFG 9 0) } s
      if reachable s < granules mask len ∨ (unusedIds s = [] ∧ oldestUnpinned s = none) then incHalf Reg.ACQ_SNAP_COUNT 16 s
      else
        let s := makeRoom (granules mask len) 256 s
        allocCapture mask len (sec * 1000) 2 (storedNow s mask) false s)

/-! ### The queue (R93 to R95) -/

/-- The search that 64 descriptor bytes describe (Table 3.1). -/
def searchOf (b : List Byte) (cmd : Option Cmd) : Search :=
  ⟨leAt b 0 2, leAt b 2 1, leAt b 3 1, leAt b 4 4, leAt b 8 4, leAt b 12 4, leAt b 16 4, leAt b 20 4, leAt b 24 4, leAt b 28 2,
   leAt b 30 2, leAt b 32 1, leAt b 36 8, leAt b 44 4, cmd⟩

/-- COH of a search (Table 3.1). -/
def searchCoh (q : Search) : Nat := q.sel / 16 % 8

/-- The reserved encodings of R94. -/
def searchBad (q : Search) : Bool :=
  decide (5 ≤ searchCoh q) || decide (q.nc = 0) || decide (q.nbins = 0) || decide (2 ≤ q.source)

/-- Descriptors queued. -/
def queued (s : State) : Nat := s.acq.fifo0.length + s.acq.fifo1.length

/-- A peak as Table 3.2 lays it out: PHASE, BIN, POWER. -/
structure Peak where
  phase : Nat
  bin : Nat
  power : Nat

def Peak.bytes (p : Peak) : List Byte := leBytes 4 p.phase ++ leBytes 2 p.bin ++ zeros 2 ++ leBytes 4 p.power

/-- Peak `i` of a result. Beyond NPEAK the spec states none: a free value. -/
def peakAt (n : Nat) (peaks : List Peak) (i : Nat) : Peak :=
  match peaks.drop i with
  | p :: _ => p
  | [] => ⟨Config.free (n + 3 * i), Config.free (n + 3 * i + 1), Config.free (n + 3 * i + 2)⟩

/-- The result of a rover snapshot's search reaches its solve (R101). -/
def snapGets (q : Search) (bytes : List Byte) (s : State) : State :=
  if q.source ≠ 1 ∨ q.cmd.isSome then s
  else setAcq { s.acq with snaps := s.acq.snaps.map (fun e =>
    if e.1 = q.capture ∧ e.2.solving then (e.1, { e.2 with results := e.2.results ++ [bytes] }) else e) } s

/-- A search completes (Table 3.2): its result is written, and the host command that asked for it completes with bytes 0 to 3
of the result (R362). Where no block was searched, NOISE is a free value. -/
def endSearch (q : Search) (status blocks : Nat) (noise : Option Nat) (peaks : List Peak) (s : State) : State :=
  let n := s.free
  let head := leBytes 2 q.tag ++ leBytes 1 status ++ leBytes 1 peaks.length
  let bytes := head ++ leBytes 4 (noise.getD (Config.free n)) ++ leBytes 1 blocks ++ zeros 3 ++
    (List.range 4).flatMap (fun i => (peakAt (n + 1) peaks i).bytes) ++ zeros 4
  completeOpt q.cmd status head (dmaOut q.resultAddr bytes (snapGets q bytes { s with free := n + 13 }))

/-- A descriptor arrives at the queue, which lies in CTRL (R93, R94). ACQ raises no event while it is down (R21). -/
def enqueueSearch (q : Search) (s : State) : State :=
  let full := decide (256 ≤ queued s)
  if searchBad q then stickyIf (acqUp s) Reg.ACQ_STICKY 2 (endSearch q (if full then 4 else 0x44) 0 none [] s)
  else if full then endSearch q 4 0 none [] s
  else if q.sel / 128 % 2 = 0 then setAcq { s.acq with fifo0 := s.acq.fifo0 ++ [q] } s
  else setAcq { s.acq with fifo1 := s.acq.fifo1 ++ [q] } s

/-- R93: the write of the last word of ACQ_JOB. -/
def execAcqJob (w : Word) (s : State) : Out :=
  let b := ((List.range 15).flatMap (fun i => leBytes 4 (rd s (Reg.ACQ_JOB i)).toNat)) ++ leBytes 4 w.toNat
  .next (if acqUp s then enqueueSearch (searchOf b none) s else s)

/-- R362: ACQ_SEARCH hands its descriptor over and frees its flow at once; the completion follows the search. -/
def execAcqSearch (s : State) : Out :=
  .next (withJob 6 (fun j => match j.cmd with | some c => decide (c.opcode = 0x18) | none => false)
    (fun j s => enqueueSearch (searchOf (cmdBody j) j.cmd) (endJob j.id s)) s)

/-! ### Pipelines -/

/-- NOT_AFTER_S is set and has been reached (R95). -/
def searchExpired (s : State) (q : Search) : Bool :=
  decide (q.notAfter ≠ 0) && decide (near32 s.tim.now q.notAfter 0 ≤ (s.tim.now : Int))

/-- Removes the first expired search of the queue. -/
def dropExpired (s : State) : Option (Search × State) :=
  match s.acq.fifo0.find? (searchExpired s) with
  | some q => some (q, setAcq { s.acq with fifo0 := s.acq.fifo0.eraseP (searchExpired s) } s)
  | none =>
    match s.acq.fifo1.find? (searchExpired s) with
    | some q => some (q, setAcq { s.acq with fifo1 := s.acq.fifo1.eraseP (searchExpired s) } s)
    | none => none

/-- R95: a search whose time has passed completes STALE, whether or not ACQ runs; else an idle pipeline takes the next
search, PRIO 0 first. -/
def execSearchStart (pipe : Nat) (s : State) : Out :=
  .next (match dropExpired s with
    | some (q, s) => releaseDue (endSearch q 6 0 none [] s)
    | none =>
      if !acqUp s || s.crp.acqDownWaits || decide (4 ≤ pipe) || !flag s Reg.ACQ_CTRL pipe || hot s ||
          s.acq.pipe.any (fun e => e.1 = pipe) then s
      else match s.acq.fifo0, s.acq.fifo1 with
        | q :: l, _ => setAcq { s.acq with fifo0 := l, pipe := Tab.ins s.acq.pipe pipe q } s
        | [], q :: l => setAcq { s.acq with fifo1 := l, pipe := Tab.ins s.acq.pipe pipe q } s
        | [], [] => s)

/-- Length of a coherent block in µs. -/
def cohUs (q : Search) : Nat := match searchCoh q with | 0 => 1000 | 1 => 2000 | 2 => 4000 | 3 => 8000 | _ => 10000

/-- Microseconds of samples that a search's source holds (R96): none where the capture or snapshot is gone or is not yet
complete (assumption 153). -/
def sourceUs (s : State) (q : Search) : Nat :=
  if q.source = 0 then (if (capture s q.capture).state = 3 then (capture s q.capture).lenMs * 1000 else 0)
  else match s.acq.snaps.find? (fun e => e.1 = q.capture) with
    | some e => if e.2.complete then e.2.lenUs else 0
    | none => 0

/-- Blocks lying wholly inside the source (R90, R96). -/
def searchBlocks (s : State) (q : Search) : Nat := min q.nc ((sourceUs s q - q.offsetUs) / cohUs q)

/-! ### The search (R90 to R92) -/

/-- A snapshot's bytes in the order of their offsets, as far as they join without a gap (R162). -/
def snapBytes : Nat → Nat → List (Nat × List Byte) → List Byte
  | 0, _, _ => []
  | n + 1, at_, parts =>
    match parts.find? (fun p => decide (p.1 ≤ at_) && decide (at_ < p.1 + p.2.length)) with
    | some p => p.2.drop (at_ - p.1) ++ snapBytes n (p.1 + p.2.length) parts
    | none => []

/-- The bytes of a snapshot. -/
def snapData (x : Snap) : List Byte := snapBytes (x.parts.length + 1) 0 x.parts

/-- 2-bit sample `k` of a snapshot's band: four to a byte, the first in bits [1:0], the first band before the second (R162). -/
def snapSample (x : Snap) (data : List Byte) (band k : Nat) : Byte :=
  let b := (data.drop (band * (x.lenUs / 1000 * 4092) + k / 4)).headD 0
  BitVec.ofNat 8 (b.toNat / 4 ^ (k % 4) % 4)

/-- The samples of block `b` of a search: at 81.84 Msps, one byte each in the layout of R41, from a capture, zero where the
antenna-band is absent (R83); at 16.368 Msps from a snapshot. Of SEL[1:0] a snapshot's search takes bit 0 for the band index, and
a band that the snapshot does not have reads sample code 0 (assumption 226). -/
def blockSamples (s : State) (q : Search) (b : Nat) : List Byte :=
  let us := q.offsetUs + b * cohUs q
  if q.source = 0 then
    let first := ceilDiv (us * 8184) 100
    let n := ceilDiv ((us + cohUs q) * 8184) 100 - first
    padTo n ((Tab.get bytesDef (capture s q.capture).data (4 * (q.sel / 4 % 4) + q.sel % 4)).drop first)
  else match s.acq.snaps.find? (fun e => e.1 = q.capture) with
    | some e =>
      let first := ceilDiv (us * 16368) 1000
      let data := snapData e.2
      (List.range (ceilDiv ((us + cohUs q) * 16368) 1000 - first)).map (fun i => snapSample e.2 data (q.sel % 2) (first + i))
    | none => []

/-- The code in ACQ code memory (R54): true for chip −1. -/
def searchCode (s : State) (q : Search) : List Bool :=
  (List.range (q.codeLen % 2 ^ 20)).map (fun i =>
    let a := (q.codeBase + i) % 2 ^ 24
    bitAt (Tab.get wordDef s.acq.code (a / 32)) (a % 32))

/-- The centre of Doppler bin `k` in 0.1 Hz (R91). -/
def binCentre (q : Search) (k : Nat) : Int := signed 32 q.centre + ((k : Int) - ((q.nbins / 2 : Nat) : Int)) * ((10 * q.binHz : Nat) : Int)

/-- Samples of a coherent block, which are the code phases searched. -/
def phases : Nat := 65536

/-- Sample `i` of the replica (R90): the code at the descriptor's chip rate from chip 0, round its length, 65,536 samples in COH; with
BOC the second half of each chip is reversed (R59). A code of no chips gives 0. -/
def replicaAt (q : Search) (code : List Bool) (i : Nat) : Int :=
  let half := 2 * i * q.chipRate * cohUs q / (100 * 1000000 * phases)
  match code.drop (half / 2 % code.length) with
  | [] => 0
  | c :: _ => if c != (decide (q.codeLen / 2 ^ 20 % 2 = 1) && decide (half % 2 = 1)) then -1 else 1

/-- The replica. -/
def replica (q : Search) (code : List Bool) : List Int := (List.range phases).map (replicaAt q code)

/-- The replica shifted round, so that its sample `phase` meets the block's first: the correlation is circular (R90, R92). -/
def atPhase (r : List Int) (phase : Nat) : List Int := r.drop phase ++ r.take phase

/-- |correlation|² of a block with the replica at a bin and a code phase, as FP32. The resampling and the rounding are the
implementation's own, so the value is an uninterpreted function of the block and of the shifted replica; samples that are all zero
and a code of no chips give 0 (R54; assumption 77). -/
def blockPower (q : Search) (r : List Int) (samples : List Byte) (bin phase : Nat) : Nat :=
  if (q.source = 0 ∧ samples.all (fun x => decide (x = 0))) ∨ q.codeLen % 2 ^ 20 = 0 then 0
  else Config.blockPower (decide (q.source = 1)) samples (cohUs q) (binCentre q bin) (atPhase r phase) % 0x7F800000

/-- Power of each cell (R91): its blocks' powers summed in FP32, one function of bin and phase. -/
def cellPower (s : State) (q : Search) (blocks : Nat) : Nat → Nat → Nat :=
  let r := replica q (searchCode s q)
  let data := (List.range blocks).map (blockSamples s q)
  fun bin phase => data.foldl (fun sum d => fp32.add sum (blockPower q r d bin phase)) 0

/-- Two cells lie within ±2 samples of code phase, circular, and ±1 bin (R92). -/
def cellNear (a b : Nat × Nat) : Bool :=
  let d := (a.2 + phases - b.2) % phases
  decide (a.1 ≤ b.1 + 1) && decide (b.1 ≤ a.1 + 1) && (decide (d ≤ 2) || decide (phases - 2 ≤ d))

/-- The cells of a search in order of bin, then of code phase. -/
def cells (q : Search) : List (Nat × Nat) := (List.range q.nbins).flatMap (fun b => (List.range phases).map (fun p => (b, p)))

/-- The cell of greatest power, the first of equals, among those not near a peak already chosen. -/
def bestCell (power : Nat → Nat → Nat) (taken : List (Nat × Nat)) (l : List (Nat × Nat)) : Option (Nat × Nat) :=
  (l.filter (fun c => !taken.any (cellNear c))).foldl
    (fun b c => match b with
      | none => some c
      | some d => some (if power d.1 d.2 < power c.1 c.2 then c else d)) none

/-- Up to `n` peaks in descending order of power (R92). -/
def bestCells (power : Nat → Nat → Nat) (l : List (Nat × Nat)) : Nat → List (Nat × Nat) → List (Nat × Nat)
  | 0, taken => taken
  | n + 1, taken => match bestCell power taken l with
    | some c => bestCells power l n (taken ++ [c])
    | none => taken

/-- PHASE of a peak (R92): its sample, refined by the parabola through its neighbours, in 2⁻¹² chip at the descriptor's chip
rate, to the nearest, modulo the code's length. -/
def peakPhase (q : Search) (power : Nat → Nat → Nat) (c : Nat × Nat) : Nat :=
  let p (i : Nat) : Frac := fp32.toFrac (power c.1 (i % phases))
  let lo := p (c.2 + phases - 1)
  let mid := p c.2
  let hi := p (c.2 + 1)
  let curve := Frac.sub (Frac.add lo hi) (Frac.add mid mid)
  let step := Frac.sub lo hi
  -- samples: phase + (lo − hi) / (2 (lo − 2 mid + hi)); a flat top stays where it is
  let num := (c.2 : Int) * (2 * curve.num * (step.den : Int)) + step.num * (curve.den : Int)
  let den := 2 * curve.num * (step.den : Int)
  let at_ : Frac := if curve.num = 0 then Frac.ofNat c.2 else Frac.ratio (if den < 0 then -num else num) den.natAbs
  -- one sample is CHIP_RATE / 100 × COH / 65,536 chips
  let scale := Frac.ratio ((q.chipRate * cohUs q * 4096 : Nat) : Int) (100 * 1000000 * phases)
  let v := (Frac.floor (Frac.add (Frac.mul at_ scale) ⟨1, 2⟩))
  let len : Nat := q.codeLen % 2 ^ 20 * 4096
  if len = 0 then wrapInt 32 v else (v % (len : Int)).toNat

/-- The mean power of the cells that no peak excludes, as FP32 (R92). -/
def noiseMean (q : Search) (power : Nat → Nat → Nat) (taken : List (Nat × Nat)) : Nat :=
  let l := (cells q).filter (fun c => !taken.any (cellNear c))
  let sum := l.foldl (fun f c => Frac.add f (fp32.toFrac (power c.1 c.2))) (Frac.ofNat 0)
  fp32.ofFrac (Frac.mul sum (Frac.ratio 1 l.length))

/-- R413: ACQ powers down once its running searches have finished: it is isolated and loses its state, as any domain (R412). -/
def acqDownCheck (s : State) : State :=
  if s.crp.acqDownWaits && s.acq.pipe.isEmpty then
    setPd 8 .isolated (acqLost (setCrp { s.crp with acqDownWaits := false } s))
  else s

/-- R90 to R92, R96: a running search ends; its result needs the bridge (R379). Its transforms count by the blocks it did (assumption 78). -/
def execSearchComplete (pipe : Nat) (s : State) : Out :=
  .next (match if bridgeCut s then none else s.acq.pipe.find? (fun e => e.1 = pipe) with
    | none => s
    | some (_, q) =>
      let n := searchBlocks s q
      let status := if n = 0 then 0x43 else if n < q.nc then 0x42 else 0
      let s := setAcq { s.acq with pipe := Tab.del s.acq.pipe pipe } s
      let power := cellPower s q n
      let best := if n = 0 then [] else bestCells power (cells q) 4 []
      let peaks := best.map (fun c => (⟨peakPhase q power c, c.1, power c.1 c.2⟩ : Peak))
      let noise := if n = 0 then none else some (noiseMean q power best)
      let s := perf 0x109 1 (perf 0x108 (2 * q.nbins * n + 1) s)
      acqDownCheck (releaseDue (endSearch q status n noise peaks s)))

/-! ### Rover snapshots (R98 to R100, R162) -/

/-- The snapshot of a machine under reassembly, and its complete one that has not started solving. -/
def snapOpen (s : State) (m : Nat) : Option Snap := (s.acq.snaps.find? (fun e => decide (e.2.machine = m) && !e.2.complete)).map (·.2)
def snapWaiting (s : State) (m : Nat) : Option Snap :=
  (s.acq.snaps.find? (fun e => decide (e.2.machine = m) && e.2.complete && !e.2.solving)).map (·.2)

def putSnap (x : Snap) (s : State) : State := setAcq { s.acq with snaps := Tab.ins s.acq.snaps x.handle x } s

/-- A snapshot leaves the store with a status: its ACK, and ACQ_RSNAP_COUNT, where one that was solved but found no room counts as
dropped alone (assumption 227). -/
def endSnap (x : Snap) (status : Nat) (s : State) : State :=
  let s := setAcq { s.acq with snaps := Tab.del s.acq.snaps x.handle } s
  let s := incHalf Reg.ACQ_RSNAP_COUNT (if status = 6 ∨ status = 4 ∨ status = 0x41 then 16 else 0) s
  sendAckGen x.machine x.gen 9 status x.seq x.snapId s

/-- The job of a snapshot that waits to be solved leaves with it (R99). -/
def dropSnapJob (handle : Nat) (s : State) : State :=
  match s.dsp.jobs.find? (fun j => decide (j.work = .snap handle) && !j.inService) with
  | some j => endJob j.id s
  | none => s

/-- The snapshot that a first fragment opens. -/
def snapFirst (f : RxFrame) (s : State) : Snap :=
  let b := f.plp
  let t := near32 s.tim.now (leAt b 28 4) (leAt b 32 4)
  ⟨s.acq.handles, plpMachine b, leAt b 24 4, leAt b 39 1, [], [], s.tim.now, secOf t.toNat, subNs t.toNat, leAt b 37 1 * 1000,
   leAt b 36 1, false, false, plpGen b, 0, 0, (0, 0, 0), [], [], (mach s (plpMachine b)).entry.port, f.srcPort, f.srcAddr, plpSeq b⟩

/-- The declared capture start lies in [now - MAX_AGE_S, now) (R100). -/
def snapFresh (s : State) (x : Snap) : Bool :=
  let t := (x.startS * 1000000000 + x.startNs) * tNs
  decide (s.tim.now ≤ t + fld s Reg.ACQ_RSNAP_CFG 9 0 * tSec) && decide (t < s.tim.now)

/-- Bytes of a snapshot: LEN_MS × 4,092 for each of its bands (R162). -/
def snapSize (x : Snap) : Nat := x.lenUs / 1000 * 4092 * (if x.bands / 16 % 2 = 1 then 2 else 1)

/-- The last fragment: the snapshot completes STALE, or its PARSE waits in its machine's flow, in place of a snapshot that
waited (R99, R100, R243, R253). -/
def snapComplete (n : Nat) (f : RxFrame) (x : Snap) (s : State) : State :=
  let m := x.machine
  if !snapFresh s x then endSnap x 6 (takeAccepted n f s)
  else if !intakeOpen s || !intakeTurn s n then s
  else
    let s := intakeServed n (takeAccepted n f s)
    let s := match snapWaiting s m with | some y => endSnap y 6 (dropSnapJob y.handle s) | none => s
    addJob .parse m (levelFor s .parse 0) (f.endAt : Int) f.tRx none (.snap x.handle) none (putSnap { x with complete := true } s)

/-- A fragment joins its snapshot. One with an index the snapshot does not have, or seen before, is ignored. Fragments that are
all held but leave a gap in the snapshot's bytes do not complete it (assumption 154). -/
def snapJoin (n : Nat) (f : RxFrame) (x : Snap) (s : State) : State :=
  let i := leAt f.plp 38 1
  if x.got.contains i || decide (x.frags ≤ i) then takeAccepted n f s
  else
    let x := { x with got := x.got ++ [i], parts := x.parts ++ [(leAt f.plp 40 4, (f.plp.drop 48).take (leAt f.plp 44 2))],
                      seq := plpSeq f.plp }
    if x.got.length < x.frags ∨ (snapData x).length < snapSize x then putSnap x (takeAccepted n f s) else snapComplete n f x s

/-- A fragment of a new snapshot; 256 entries is all the store holds. The first fragment of a snapshot that finds none free is
answered NO_ROOM, and the snapshot's other fragments are ignored (R98). -/
def snapNew (n : Nat) (f : RxFrame) (s : State) : State :=
  let x := snapFirst f s
  if Tab.get natDef s.acq.refused x.machine = x.snapId + 1 then takeAccepted n f s
  else if 256 ≤ s.acq.snaps.length then
    sendAckGen x.machine x.gen 9 4 x.seq x.snapId (incHalf Reg.ACQ_RSNAP_COUNT 16
      (takeAccepted n f (setAcq { s.acq with refused := Tab.put natDef s.acq.refused x.machine (x.snapId + 1) } s)))
  else snapJoin n f x (setAcq { s.acq with handles := s.acq.handles + 1, refused := Tab.put natDef s.acq.refused x.machine 0 } s)

/-- R98, R99, R162: a SNAP fragment. -/
def snapPart (n : Nat) (f : RxFrame) (s : State) : State :=
  let m := plpMachine f.plp
  let id := leAt f.plp 24 4
  if s.acq.snaps.any (fun e => decide (e.2.machine = m) && e.2.complete && decide (e.2.snapId = id)) then takeAccepted n f s
  else match snapOpen s m with
    | none => snapNew n f s
    | some x =>
      if x.snapId = id ∧ s.tim.now < x.firstAt + 2 * tSec then snapJoin n f x s
      else snapNew n f (endSnap x 6 s)

def execSnapFrame (n : Nat) (s : State) : Out := .next (withHead n 9 (snapPart n) s)

/-- R98: 2 s after the first fragment. -/
def execSnapReassemblyTimeout (m : Nat) (s : State) : Out :=
  .next (match snapOpen s m with
    | some x => if x.firstAt + 2 * tSec ≤ s.tim.now then endSnap x 6 s else s
    | none => s)

end Sys2Proof.Machine
end

