-- ==== Sys2Proof/Machine/SwapOps.lean ====
section
/-! DEFINITION. Configuration sets (R418 to R420): what a swap copies, what it brings about, and the request. -/
namespace Sys2Proof.Machine

/-- Bits of CRP_CFG_SWAP.SETS (Table 14.8): REF 0, PST 1, CHT 2, NFL 3, TIM 4, DSP 5, TSK 6, NET 7. -/
def inSets (sets : BitVec 8) (a : Nat) : Bool := match setOf a with | some k => sets.getLsbD k | none => false

/-- The MAC address registers, which are a unit's own (Table 11.3). -/
def isMacReg (a : Nat) : Bool := (List.range 4).any (fun n => decide (a = Reg.NET_MAC_LO n) || decide (a = Reg.NET_MAC_HI n))

/-- A register whose writes are mirrored (Table 11.3): a register of any set but REF, other than a MAC address. -/
def isMirroredReg (a : Nat) : Bool := inSets 0xFE a && !isMacReg a

/-- The shadow values of these sets become the active ones (R419). -/
def swapRegs (sets : BitVec 8) (s : State) : State :=
  let kept := s.bank.regs.filter (fun e => !inSets sets e.1)
  let new := s.bank.shadow.filter (fun e => inSets sets e.1)
  { s with bank := { s.bank with regs := new.foldl (fun t e => Tab.put RegMap.reset t e.1 e.2) kept } }

/-- Registers of the mirrored sets whose active values differ between two states, with the new values. -/
def mirroredDiff (old new : State) : List (Nat × Word) :=
  let addrs := (old.bank.regs.map (·.1) ++ new.bank.regs.map (·.1)).eraseDups
  (addrs.filter (fun a => isMirroredReg a && decide (rd old a ≠ rd new a))).map (fun a => (a, rd new a))

def refAnt (s : State) (n : Nat) : RefAnt := Tab.get refAntDef s.ref.ant n
def setRef (r : Ref) (s : State) : State := { s with ref := r }

/-- Coordinates of antenna `n` differ; its HEIGHT differs (R109). -/
def coordsDiffer (a b : State) (n : Nat) : Bool :=
  (List.range 6).any (fun i => decide (rd a (Reg.REF_ANT_COORD n i) ≠ rd b (Reg.REF_ANT_COORD n i)))
def heightDiffers (a b : State) (n : Nat) : Bool := decide (rd a (Reg.REF_ANT_HEIGHT n) ≠ rd b (Reg.REF_ANT_HEIGHT n))

/-- The antennas that satisfy `p`, as a mask. -/
def antMask (p : Nat → Bool) : BitVec 4 := BitVec.ofNat 4 (((List.range 4).filter p).foldl (fun v n => v + 2 ^ n) 0)

/-- A changed NET_n_CTRL: a port disabled or set to another speed loses its link (R138). -/
def netCtrlChanged (old : State) (s : State) (n : Nat) : State :=
  let was := flag old (Reg.NET_CTRL n) 0
  let now := flag s (Reg.NET_CTRL n) 0
  if was && (!now || flag old (Reg.NET_CTRL n) 1 != flag s (Reg.NET_CTRL n) 1) then linkLost n s else s

/-- Streams that the new values switch on: their first epoch lies at or after this instant (R127). -/
def streamsOn (old : State) (s : State) : State :=
  let on (k : Nat) : Bool := !flag old (Reg.REF_STREAM_CFG k) 0 && flag s (Reg.REF_STREAM_CFG k) 0
  let start (t : Tab Stream) (k : Nat) : Tab Stream := Tab.put streamDef t k { Tab.get streamDef t k with last := ceilDiv s.tim.now tNs - 1 }
  setRef { s.ref with stream := ((List.range 16).filter on).foldl start s.ref.stream } s

/-- The antennas that swaps altered, and those that they moved. -/
def swapsAltered (l : List RefSwap) : BitVec 4 := (l.map (·.altered)).foldl (· ||| ·) 0
def swapsMoved (l : List RefSwap) : BitVec 4 := (l.map (·.moved)).foldl (· ||| ·) 0

/-- Swaps at or before the formation point `e` count as one: what was active before each no longer matters. -/
def pastSwaps (e : Nat) (l : List RefSwap) : List RefSwap :=
  let past := l.filter (fun x => decide (x.at_ ≤ e))
  l.filter (fun x => decide (e < x.at_)) ++
    (match past with | [] => [] | x :: _ => [⟨x.at_, [], swapsAltered past, swapsMoved past⟩])

/-- The REF set active at `e`: what the first swap after it replaced, else what is active now. -/
def refSetAt (e : Nat) (s : State) : Tab Word :=
  match (s.ref.swaps.filter (fun x => decide (e < x.at_))).getLast? with
  | some x => x.before
  | none => s.bank.regs.filter (fun x => inSets 1 x.1)

/-- What new active values bring about beside themselves. -/
def afterSwap (old : State) (s : State) : State :=
  let live (n : Nat) : Bool := decide ((refAnt s n).state ≠ .down)
  let x : RefSwap := ⟨nsOf s.tim.now, old.bank.regs.filter (fun x => inSets 1 x.1),
    antMask (fun n => live n && (coordsDiffer old s n || heightDiffers old s n)), antMask (fun n => live n && coordsDiffer old s n)⟩
  let s := setRef { s.ref with swaps := x :: pastSwaps (formPoint s) s.ref.swaps } s
  let s := (List.range 4).foldl (netCtrlChanged old) s
  let s := (List.range 4).foldl (fun s n => if portRuns s n then pauseCheck n s else s) s
  timCheckBound (heldChanged (streamsOn old s))

/-- The sets swap together (R419, R420). -/
def swapSets (sets : BitVec 8) (s : State) : State :=
  let new := setCrp { s.crp with swaps := s.crp.swaps + 1, swapWait := 0 } (swapRegs sets s)
  let diff := mirroredDiff s new
  let new := notice 0 (afterSwap s new)
  if diff.isEmpty then new else mirror (.cfg diff) new

/-- The shadow holds PSR_NINES ≤ IR_EXP (R182). -/
def pstForbidden (s : State) : Bool :=
  decide (bits (shadow s Reg.PST_AR_CFG) 11 8 ≤ bits (shadow s Reg.PST_INT_CFG) 3 0)

/-- The shadow of NET_n sends tags of a reserved VID: VLAN_EN with VID 0 or 4,095 (R163). -/
def netForbidden (s : State) (n : Nat) : Bool :=
  let vid := bits (shadow s (Reg.NET_VLAN n)) 11 0
  bitAt (shadow s (Reg.NET_CTRL n)) 3 && (decide (vid = 0) || decide (vid = 4095))

/-- The combinations of shadow values that a chapter forbids (R419) among these sets, each as the CFG_REJECT of its block. -/
def forbiddenIn (sets : BitVec 8) (s : State) : List (Nat × Nat) :=
  (if sets.getLsbD 1 && pstForbidden s then [(Reg.PST_STICKY, 9)] else []) ++
  (if sets.getLsbD 7 then ((List.range 4).filter (netForbidden s)).map (fun n => (Reg.NET_STICKY n, 10)) else [])

/-- CRP's CFG_REJECT. -/
def crpReject (s : State) : State := sticky Reg.CRP_STICKY 6 s

/-- The block of a sticky register runs, so that it raises events (R21). -/
def blockUp (s : State) (a : Nat) : Bool :=
  if a = Reg.PST_STICKY then fixUp s else (List.range 4).all (fun n => decide (a ≠ Reg.NET_STICKY n) || portUp s n)

/-- R419: a swap refused whole, with CFG_REJECT of CRP and of each block at fault that runs. -/
def refuseSwap (blocks : List (Nat × Nat)) (s : State) : State :=
  blocks.foldl (fun s b => stickyIf (blockUp s b.1) b.1 b.2 s) (crpReject s)

/-- The sets that waited swap at the boundary. Host may have changed the shadow since the request, and the active PST set always
has PSR_NINES > IR_EXP (R182): the request is then refused whole here (assumption 51). -/
def swapWaiting (s : State) : State :=
  let sets := s.crp.swapWait
  let bad := forbiddenIn sets s
  if bad.isEmpty then swapSets sets s else refuseSwap bad (setCrp { s.crp with swapWait := 0 } s)

/-- The sets of a request that swap: in STANDBY the mirrored ones are ignored, with MIRROR_WRITE (R334). -/
def swapAllowed (sets : BitVec 8) (s : State) : BitVec 8 := if s.crp.mode = .standby then sets &&& 1 else sets

/-- R419: CRP_CFG_SWAP. -/
def execCfgSwap (w : Word) (s : State) : Out :=
  let asked := BitVec.ofNat 8 (bits w 7 0)
  let sets := swapAllowed asked s
  .next (
    if !bitAt w 31 then s
    else
      let s := if sets ≠ asked then paiSticky 11 s else s
      if s.crp.swapWait ≠ 0 then crpReject s
      else if !(forbiddenIn sets s).isEmpty then refuseSwap (forbiddenIn sets s) s
      else if sets = 0 then s
      else if bitAt w 8 || sets.getLsbD 2 then setCrp { s.crp with swapWait := sets } s
      else swapSets sets s)

end Sys2Proof.Machine
end

