-- ==== Sys2Proof/Machine/Ledger.lean ====
section
/-! DEFINITION. The Chart ledger: ticks (R213), conflicts (R212), stored intervals (R214), the test of a request's items
(R220 to R223), fill (R240), and what the decision of a request brings about. -/
namespace Sys2Proof.Machine

def setCht (c : Cht) (s : State) : State := { s with cht := c }

/-- CHT's CFG_REJECT. -/
def chtReject (s : State) : State := sticky Reg.CHT_STICKY 11 s

/-! ### Ticks (R213) -/

/-- A device time as a START: rounded down; a time before the origin is tick 0. -/
def tickDown (s : State) (t : Nat) : Nat := min (t / tMs - originMs s) (openEnd - 1)

/-- A device time as an END: rounded up. -/
def tickUp (s : State) (t : Nat) : Nat := min (ceilDiv t tMs - originMs s) openEnd

/-- A rebase has moved the origin (R219): grant issue resumes where the current tick is below 0xFFFF_0000. -/
def rebasedTick (s : State) : State :=
  rearmNear (setCht { s.cht with tickStop := s.cht.tickStop && decide (0xFFFF0000 ≤ nowTick s) } s)

/-! ### Intervals -/

/-- Same segment, class and owner. -/
def sameKey (a b : Ival) : Bool := decide (a.seg = b.seg) && decide (a.cls = b.cls) && decide (a.owner = b.owner)

/-- R212: START₁ < END₂ and START₂ < END₁. -/
def overlaps (a b : Ival) : Bool := decide (a.start < b.fin) && decide (b.start < a.fin)

/-- Overlap or abut. -/
def touches (a b : Ival) : Bool := sameKey a b && decide (a.start ≤ b.fin) && decide (b.start ≤ a.fin)

/-- The order in which the model keeps stored intervals. -/
def ivalBefore (a b : Ival) : Bool :=
  decide (a.seg < b.seg) || (decide (a.seg = b.seg) && (decide (a.cls < b.cls) || (decide (a.cls = b.cls) &&
    (decide (a.owner < b.owner) || (decide (a.owner = b.owner) && decide (a.start < b.start))))))

/-- Inserts in order. -/
def insIval (x : Ival) : List Ival → List Ival
  | [] => [x]
  | y :: l => if ivalBefore x y then x :: y :: l else y :: insIval x l

/-- R214: an interval joins the stored ones of its owner, class and segment that it overlaps or abuts. -/
def addIval (x : Ival) (l : List Ival) : List Ival :=
  let near := l.filter (touches x)
  let x : Ival := { x with start := near.foldl (fun m y => min m y.start) x.start, fin := near.foldl (fun m y => max m y.fin) x.fin }
  insIval x (l.filter (fun y => !touches x y))

/-- What remains of `y` once [START, END) of `x` is released (R221). -/
def cutOne (x y : Ival) : List Ival :=
  if sameKey x y && overlaps x y then
    (if y.start < x.start then [{ y with fin := x.start }] else []) ++ (if x.fin < y.fin then [{ y with start := x.fin }] else [])
  else [y]

def cutIvals (x : Ival) (l : List Ival) : List Ival := l.flatMap (cutOne x)

/-! ### Conflicts (R212, Table 7.3) -/

/-- The segments on which a reservation of segment `k` meets others. -/
def segsOf (g : Graph) (k : Nat) : List Nat := k :: g.conf.getD k []

/-- The pair of classes is marked in Table 7.3. -/
def classClash (a b : Nat) : Bool := decide (a < 2) || decide (b < 2)

/-- Both belong to the same machine. -/
def sameMachine (a b : Ival) : Bool := decide (a.cls ≠ 2) && decide (b.cls ≠ 2) && decide (a.owner = b.owner)

/-- Two reservations conflict. -/
def conflicts (g : Graph) (a b : Ival) : Bool :=
  (segsOf g a.seg).contains b.seg && overlaps a b && !sameMachine a b && classClash a.cls b.cls

/-- The first interval of a list that blocks `x`: its own segment first, then the conflict list's in order. -/
def blockerIn (g : Graph) (x : Ival) (l : List Ival) : Option Ival :=
  (segsOf g x.seg).findSome? (fun k => l.find? (fun y => decide (y.seg = k) && conflicts g x y))

/-! ### A request's items -/

/-- An item that failed: its status, index, BLK_SRC and blocker (Table 12.8). -/
structure ItemFail where
  code : Nat
  item : Nat
  src : Nat
  blk : Option Ival
deriving DecidableEq, Repr

/-- A request under test: the stored intervals as left by its items, the intervals they added, the failures. -/
structure LedgerRun where
  stored : List Ival
  added : List Ival
  fails : List ItemFail
deriving DecidableEq, Repr

/-- The interval of an item. -/
def itemIval (it : Item) : Ival := ⟨it.seg, it.cls, it.owner, it.start, it.fin⟩

/-- R221: a START before the current tick. -/
def clipped (now : Nat) (x : Ival) : Ival := { x with start := max x.start now }

/-- R222: BAD_ITEM. -/
def itemBad (g : Graph) (machines : Nat) (host : Bool) (it : Item) : Bool :=
  decide (g.segs.length ≤ it.seg) || decide (it.fin ≤ it.start) || decide (3 ≤ it.op) || it.bad ||
  (host && decide (it.cls ≠ 2) && decide (machines ≤ it.owner))

/-- An item that the ledger can act on, bad or not: a segment of the graph, an interval and an operation that exist. -/
def itemTestable (g : Graph) (it : Item) : Bool :=
  decide (it.seg < g.segs.length) && decide (it.start < it.fin) && decide (it.op < 3)

/-- R222: a host request reserves or releases HALO. -/
def itemDenied (host : Bool) (it : Item) : Bool := host && decide (it.cls = 1) && decide (it.op ≤ 1)

/-- The tick from which [at, fin) is not held by any of these intervals: each that covers it moves it on. -/
def coveredTo : Nat → List Ival → Nat → Nat
  | 0, _, at_ => at_
  | n + 1, l, at_ =>
    match l.find? (fun y => decide (y.start ≤ at_) && decide (at_ < y.fin)) with
    | some y => coveredTo n l y.fin
    | none => at_

/-- The first piece of `x` that its owner's own PATH leaves out (R223, R229 step 8). -/
def pathGap (x : Ival) (l : List Ival) : Option Ival :=
  let own := l.filter (sameKey x)
  let a := coveredTo own.length own x.start
  if x.fin ≤ a then none
  else some { x with start := a, fin := (own.filter (fun y => decide (a < y.start))).foldl (fun m y => min m y.start) x.fin }

/-- The intervals as they would be stored now. -/
def runStored (r : LedgerRun) : List Ival := r.added.foldl (fun l x => addIval x l) r.stored

/-- R215: intervals stored in a shard. -/
def shardCount (l : List Ival) (shard : Nat) : Nat := (l.filter (fun x => decide (x.seg % 32 = shard))).length
def shardMax : Nat := 131072

/-- The tests of RESERVE and CHECK under R212: against what is stored and has not ended, then against earlier items. -/
def testItem (g : Graph) (now i : Nat) (it : Item) (x : Ival) (r : LedgerRun) : List ItemFail :=
  match blockerIn g x (r.stored.filter (fun y => decide (now < y.fin))) with
  | some b => [⟨5, i, 1, some b⟩]
  | none =>
    match blockerIn g x r.added with
    | some b => [⟨5, i, 2, some b⟩]
    | none =>
      if it.own then
        match pathGap x (r.stored ++ r.added) with
        | some b => [⟨5, i, 3, some b⟩]
        | none => []
      else []

/-- NO_ROOM where an item leaves its shard above its capacity. -/
def capacityFail (i : Nat) (it : Item) (r : LedgerRun) : LedgerRun :=
  if shardMax < shardCount (runStored r) (it.seg % 32) then { r with fails := r.fails ++ [⟨4, i, 0, none⟩] } else r

/-- One item (R220 to R222). A bad item that can act is tested too: CONFLICT and NO_ROOM outrank BAD_ITEM. -/
def runItem (g : Graph) (machines now : Nat) (host : Bool) (i : Nat) (it : Item) (r : LedgerRun) : LedgerRun :=
  let x := itemIval it
  let r := if itemBad g machines host it then { r with fails := r.fails ++ [⟨0x58, i, 0, none⟩] } else r
  if !itemTestable g it then r
  else
    let r := if itemDenied host it then { r with fails := r.fails ++ [⟨0x59, i, 0, none⟩] } else r
    if it.op = 1 then capacityFail i it { r with stored := cutIvals x r.stored, added := cutIvals x r.added }
    else
      let x := clipped now x
      if x.fin ≤ x.start then r
      else
        let r := { r with fails := r.fails ++ testItem g now i it x r }
        if it.op = 0 then capacityFail i it { r with added := r.added ++ [x] } else r

/-- All items in order, from index `i`. -/
def runItems (g : Graph) (machines now : Nat) (host : Bool) : Nat → List Item → LedgerRun → LedgerRun
  | _, [], r => r
  | i, it :: l, r => runItems g machines now host (i + 1) l (runItem g machines now host i it r)

/-- Rank of a request's status (R15, R222). -/
def statusRank (c : Nat) : Nat := match c with | 4 => 0 | 5 => 1 | 0x58 => 2 | _ => 3

/-- The failure that a refused request reports: the highest code by rank, at the first item that fails with it. -/
def worstFail (l : List ItemFail) : Option ItemFail :=
  l.foldl (fun b f => match b with | none => some f | some b => some (if statusRank f.code < statusRank b.code then f else b)) none

/-! ### Fill -/

/-- The percentage mark in intervals of a shard (R240). -/
def fillMark (s : State) : Nat := fld s Reg.CHT_FILL_CFG 6 0 * shardMax / 100 + (if fld s Reg.CHT_FILL_CFG 6 0 * shardMax % 100 = 0 then 0 else 1)

/-- Shards at or above the mark. -/
def shardsAbove (s : State) : BitVec 32 :=
  BitVec.ofNat 32 (((List.range 32).filter (fun k => decide (fillMark s ≤ shardCount s.cht.ivals k))).foldl (fun v k => v + 2 ^ k) 0)

/-- R240. -/
def fillCheck (s : State) : State :=
  let a := shardsAbove s
  let new := a &&& ~~~s.cht.above
  stickyIf (decide (new ≠ 0)) Reg.CHT_STICKY 1 (setCht { s.cht with above := a } s)

/-- A PARK of machine `m` is stored on one of these segments. -/
def parkHeld (s : State) (m : Nat) (segs : List Nat) : Bool :=
  s.cht.ivals.any (fun x => decide (x.cls = 3) && decide (x.owner = m) && segs.contains x.seg)

/-- LAPSED reads 1 while a lapse PARK is held: it is cleared once no PARK of the machine is stored on its span. -/
def lapsedCheck (s : State) : State :=
  s.cht.mach.foldl (fun s e =>
    if e.2.lapsed && !parkHeld s e.1 e.2.span then putChtMach e.1 { chtMach s e.1 with lapsed := false } s else s) s

/-- The ledger takes new contents. -/
def commitIvals (l : List Ival) (s : State) : State := lapsedCheck (fillCheck (putIvals l s))

/-! ### Requests -/

/-- A request enters the ledger: it takes the next sequence number (R20). -/
def sendRequest (items : List Item) (purpose : ReqFor) (job : Nat) (s : State) : State :=
  let q : Request := ⟨s.cht.nextSeq, items, purpose, s.tim.now, job⟩
  perf 0x142 items.length (perf 0x140 1
    (setCht { s.cht with reqs := s.cht.reqs ++ [q], nextSeq := (s.cht.nextSeq + 1) % 2 ^ 32 } s))

/-- One item as Table 7.4 spells it. -/
def decodeItem (b : List Byte) : Item :=
  let w := leAt b 0 4
  let o := leAt b 12 2
  let cls := w / 2 ^ 20 % 4
  ⟨w % 2 ^ 20, cls, w / 2 ^ 22 % 4, leAt b 4 4, leAt b 8 4, o, leAt b 14 1,
   decide (w / 2 ^ 24 ≠ 0) || (decide (cls ≠ 2) && decide (o / 2 ^ 10 ≠ 0)), false⟩

/-- The items of a LEDGER body. -/
def decodeItems : Nat → List Byte → List Item
  | 0, _ => []
  | n + 1, b => if b.isEmpty then [] else decodeItem (b.take 16) :: decodeItems n (b.drop 16)

/-- The detail of a refused LEDGER completion (Table 12.8). -/
def failDetail (s : State) (seq : Nat) (f : ItemFail) : List Byte :=
  let blk := match f.blk with
    | some b => leBytes 2 b.owner ++ leBytes 4 (b.seg + b.cls * 2 ^ 20) ++ leBytes 4 b.start ++ leBytes 4 b.fin
    | none => zeros 14
  leBytes 1 f.item ++ leBytes 1 f.src ++ blk ++ leBytes 4 seq ++ leBytes 1 s.cht.originGen

/-- The unit runs as one that makes or holds grants: not in STANDBY, active, not stopping or handing over. -/
def grantUnit (s : State) : Bool := isActive s && decide (s.crp.mode ≠ .standby) && !plpStopped s

/-- The stop causes of Table 7.10 for machine `m` and a frame received at `tRx` (R29, R236, R237), lowest first. Cause 1
holds too while the port's margin is not known, since no halo can then be computed. -/
def stopCause (s : State) (m : Nat) (tRx : Int) : Option Nat :=
  if !flag s Reg.CHT_CTRL 31 then some 0
  else if nfHeld s m || decide (tRx < (releaseInstant s m : Int)) || (portMTime s (mach s m).entry.port).isNone then some 1
  else if !grantUnit s || (s.pai.pair && decide (tRx < (s.pai.tAct : Int))) then some 2
  else if s.crp.tripStop then some 3
  else if s.cht.ue then some 4
  else if s.cht.tickStop then some 5
  else if s.cht.active.isNone then some 6
  else none

/-! ### Grants -/

/-- The body of a GRANT (Table 5.11). -/
def grantBody (g : GrantPlan) (number : Nat) : List Byte :=
  leBytes 4 g.seg ++ leBytes 4 g.offset ++ leBytes 2 g.cap ++ zeros 2 ++ leBytes 4 (epochS g.expiry) ++
  leBytes 4 (epochNs g.expiry) ++ leBytes 4 number

/-- R230: the GRANT is issued: its number is taken, the machine's words show it, and it is queued in Q2, or held until
the standby has acknowledged the record of its HALO commit (R332). It goes under the generation of the frame that its update came
from (R153). -/
def issueGrant (m : Nat) (g : GrantPlan) (s : State) : State :=
  let x := chtMach s m
  let number := (x.grantNo + 1) % 2 ^ 32
  let rec_ := s.pai.nextRec
  let s := putChtMach m { x with reason := 0, grantNo := number, epoch := some g.epoch, expiry := g.expiry, tStop := g.tStop,
                                 span := g.span, live := true, cancelled := false, lapsed := false } s
  let s := perf 0x146 1 (inc (Reg.CHT_CNT 4) 1 s)
  match canSend m 2 s with
  | .noRoom => grantLost m 4 s
  | .keyGone => grantLost m 2 (keyGone (mach s m).entry.port s)
  | .ok =>
    let p := buildMach m g.gen 4 (epochS g.epoch) (epochNs g.epoch) .grant number none (grantBody g number) s
    let port := (mach s m).entry.port
    if peerServes s then
      { p.2 with pai := { p.2.pai with grants := p.2.pai.grants ++ [⟨rec_, m, port, p.1, g, s.tim.now⟩] } }
    else (enqueue port 2 p.1 p.2).1

/-! ### Decision (R222, R223) -/

/-- The request's outcome: status, the failure to report, and the ledger that it would leave. -/
def judge (s : State) (q : Request) : Nat × Option ItemFail × List Ival :=
  let host := match q.purpose with | .host => true | _ => false
  if s.cht.ue then (8, none, [])
  else if host && decide (((q.items.head?.map (·.gen)).getD s.cht.originGen) ≠ s.cht.originGen) then (6, none, [])
  else match s.cht.active with
    | none => (0x5A, none, [])
    | some g =>
      let r := runItems g (gradeMachines s) (nowTick s) host 0 q.items ⟨s.cht.ivals, [], []⟩
      let fails := match q.purpose with | .lapse _ => r.fails.filter (fun f => f.code ≠ 5) | _ => r.fails
      match worstFail fails with
      | some f => (f.code, some f, [])
      | none => (0, none, runStored r)

/-- R233: the PATHs of other machines that lapse PARKs of `m` conflict with, from each PARK's START onward. -/
def truncated (g : Graph) (parks : List Ival) (l : List Ival) : List Ival :=
  l.filter (fun y => decide (y.cls = 0) && parks.any (fun x => conflicts g x y))

/-- Cuts PATH `y` for every PARK that it conflicts with. -/
def cutFor (g : Graph) (parks : List Ival) (y : Ival) : List Ival :=
  let from_ := ((parks.filter (fun x => conflicts g x y)).map (·.start)).foldl min openEnd
  if y.start < from_ then [{ y with fin := min y.fin from_ }] else []

/-- The request is committed (R230, R233, R235). -/
def commitRequest (q : Request) (new : List Ival) (s : State) : State :=
  match q.purpose with
  | .host => commitIvals new s
  | .halo m g =>
    let s := commitIvals new s
    match stopCause s m g.epoch with
    | some n => setReason m (0xE0 + n) s
    | none => issueGrant m g s
  | .lapse m =>
    let parks := (q.items.map itemIval).map (clipped (nowTick s))
    let graph := s.cht.active.getD ⟨0, 0, 0, 0, 0, 0, 0, 0, [], [], []⟩
    let hit := truncated graph parks s.cht.ivals
    let s := commitIvals (new.flatMap (fun y => if hit.contains y then cutFor graph parks y else [y])) s
    let s := ((hit.map (·.owner)).eraseDups).foldl (fun s _ => stickyCount Reg.CHT_STICKY 6 (Reg.CHT_CNT 10) s) s
    perf 0x148 1 (inc (Reg.CHT_CNT 8) 1 (putChtMach m { chtMach s m with lapsed := true, live := false } s))
  | .snap m =>
    let segs := (q.items.filter (fun it => it.op = 0)).map (·.seg)
    let s := commitIvals new s
    inc (Reg.CHT_CNT 9) 1 (putChtMach m { chtMach s m with parkSpan := segs } s)

/-- The store entry that a snapshot job works on ends with a status. -/
def endSnapJob (j : Option Job) (code : Nat) (s : State) : State :=
  match j with
  | some j =>
    match j.work with
    | .snap h => match s.acq.snaps.find? (fun e => e.1 = h) with | some e => endSnap e.2 code s | none => s
    | _ => s
  | none => s

/-- What a decided request answers to: a ring completion, the machine's LAST_REASON, or the snapshot's ACK. -/
def answerRequest (q : Request) (code : Nat) (f : Option ItemFail) (s : State) : State :=
  let j := s.dsp.jobs.find? (fun j => j.id = q.job)
  let s := match q.purpose with
    | .host =>
      completeOpt (match j with | some j => j.cmd | none => none) code
        (match f with | some f => failDetail s q.seq f | none => ledgerDetail s q.seq) s
    | .halo m _ => if code = 0 then s else setReason m code s
    | .lapse m => setReason m code s
    | .snap m => endSnapJob j code (setReason m code s)
  endJob q.job s

/-- The request leaves the ledger: its latency (CHT_LAT_MAX). -/
def latencySeen (q : Request) (s : State) : State :=
  let us := min (usBetween q.sent s.tim.now) 0xFFFF
  if (rd s Reg.CHT_LAT_MAX).toNat < us then wr Reg.CHT_LAT_MAX (BitVec.ofNat 32 us) s else s

/-- The earliest request is decided. -/
def decide1 (s : State) : State :=
  match s.cht.reqs with
  | [] => s
  | q :: rest =>
    let v := judge s q
    let s := latencySeen q (setCht { s.cht with reqs := rest } s)
    let s := match v.1 with
      | 0 => commitRequest q v.2.2 (inc (Reg.CHT_CNT 0) 1 s)
      | 4 => stickyCount Reg.CHT_STICKY 2 (Reg.CHT_CNT 2) s
      | 5 => perf 0x141 1 (inc (Reg.CHT_CNT 1) 1 s)
      | _ => s
    answerRequest q v.1 v.2.1 s

/-- Decides the requests in flight, in order. -/
def drainRequests : Nat → State → State
  | 0, s => s
  | n + 1, s => if s.cht.reqs.isEmpty then s else drainRequests n (decide1 s)

end Sys2Proof.Machine
end

