-- ==== Sys2Proof/Machine/GraphImage.lean ====
section
/-! DEFINITION. The lane graph image: its bytes as Tables 7.1 and 7.2 and R207, R208 lay them out, and the checks of
R205 to R209. -/
namespace Sys2Proof.Machine

/-- A signed field of `n` bytes. -/
def sAt (b : List Byte) (o n : Nat) : Int := signed (8 * n) (leAt b o n)

/-- A record of the segment table. -/
def parseSeg (b : List Byte) : Seg :=
  ⟨sAt b 0 4, sAt b 4 4, sAt b 8 4, sAt b 12 4, sAt b 16 4, sAt b 20 4, leAt b 24 4, leAt b 28 2, leAt b 30 1 + 256 * leAt b 31 1⟩

/-- `n` records of `w` bytes. -/
def chunks (w : Nat) : Nat → List Byte → List (List Byte)
  | 0, _ => []
  | n + 1, b => b.take w :: chunks w n (b.drop w)

/-- The entries that an index record (FIRST, COUNT) names in a list of words. -/
def listOf (words : List Byte) (r : List Byte) : List Nat :=
  (chunks 4 (leAt r 4 2) (words.drop (4 * leAt r 0 4))).map (fun w => leAt w 0 4 % 2 ^ 20)

/-- The tables of an image. -/
structure GraphTables where
  segs : List Byte
  idx : List Byte
  conf : List Byte
  gridIdx : List Byte
  grid : List Byte

/-- Header fields (Table 7.1). -/
def imgSegs (b : List Byte) : Nat := leAt b 12 4
def imgConf (b : List Byte) : Nat := leAt b 16 4
def imgGridE (b : List Byte) : Nat := leAt b 52 2
def imgGridN (b : List Byte) : Nat := leAt b 54 2
def imgGridLen (b : List Byte) : Nat := leAt b 56 4

/-- Where the tables stand. -/
def imgTables (b : List Byte) : GraphTables :=
  let g := b.drop (leAt b 88 8)
  let cells := imgGridE b * imgGridN b
  ⟨b.drop (leAt b 64 8), b.drop (leAt b 72 8), (b.drop (leAt b 80 8)).take (4 * imgConf b), g, (g.drop (8 * cells)).take (4 * imgGridLen b)⟩

/-- A table of `size` bytes at an offset lies in the image after the header. -/
def tableFits (b : List Byte) (off size : Nat) : Bool := decide (256 ≤ off) && decide (off + size ≤ b.length)

/-- Every header field lies in its range (R205), and the image has the length that was loaded (R209). -/
def headerOk (b : List Byte) (len : Nat) : Bool :=
  decide (b.length = len) && decide (256 ≤ len) && decide (leAt b 0 4 = 0x4652474C) && decide (leAt b 4 2 = 1) &&
  allZero ((b.drop 6).take 2) && decide (1 ≤ imgSegs b) && decide (imgSegs b ≤ 1048576) && decide (imgConf b ≤ 33554432) &&
  decide (100 ≤ leAt b 20 4) && decide (leAt b 20 4 ≤ 20000) && decide (8 ≤ leAt b 48 4) && decide (leAt b 48 4 ≤ 256) &&
  decide (1 ≤ imgGridE b) && decide (imgGridE b ≤ 4096) && decide (1 ≤ imgGridN b) && decide (imgGridN b ≤ 4096) &&
  allZero ((b.drop 60).take 4) && decide (leAt b 96 8 = len) && allZero ((b.drop 108).take 52) &&
  tableFits b (leAt b 64 8) (32 * imgSegs b) && tableFits b (leAt b 72 8) (8 * imgSegs b) && tableFits b (leAt b 80 8) (4 * imgConf b) &&
  tableFits b (leAt b 88 8) (8 * (imgGridE b * imgGridN b) + 4 * imgGridLen b)

/-- Squared length of a segment between its points, in mm². -/
def segLen2 (x : Seg) : Int := (x.ex - x.sx) ^ 2 + (x.ey - x.sy) ^ 2 + (x.ez - x.sz) ^ 2

/-- R206: a segment that the device takes: its length, the length against its points, the reserved bits of SURFACE and byte 31. -/
def segOk (x : Seg) : Bool :=
  decide (250 ≤ x.len) && decide (x.len ≤ 25000) && decide (x.surface < 4) && decide (x.limit < 65536) &&
  decide (((x.len : Int) - 10) ^ 2 ≤ segLen2 x) && decide (segLen2 x ≤ ((x.len : Int) + 10) ^ 2)

/-- An index record: at most `most` entries, all of them in a list of `total`. -/
def indexOk (most total : Nat) (r : List Byte) : Bool := decide (leAt r 4 2 ≤ most) && decide (leAt r 0 4 + leAt r 4 2 ≤ total)

/-- The graph of an image. -/
def parseGraph (b : List Byte) : Graph :=
  let t := imgTables b
  let n := imgSegs b
  ⟨leAt b 8 4, leAt b 20 4, sAt b 24 8, sAt b 32 8, sAt b 40 8, leAt b 48 4, imgGridE b, imgGridN b,
   (chunks 32 n t.segs).map parseSeg, (chunks 8 n t.idx).map (listOf t.conf),
   (chunks 8 (imgGridE b * imgGridN b) t.gridIdx).map (listOf t.grid)⟩

/-- R208: the grid's index records. -/
def gridOk (b : List Byte) : Bool :=
  (chunks 8 (imgGridE b * imgGridN b) (imgTables b).gridIdx).all (indexOk 4096 (imgGridLen b))

/-- R207: the conflict lists of a graph. -/
def confOk (g : Graph) : Bool :=
  (List.range g.conf.length).all (fun k =>
    let l := g.conf.getD k []
    decide (l.eraseDups.length = l.length) &&
    l.all (fun b => decide (b ≠ k) && decide (b < g.segs.length) && (g.conf.getD b []).contains k))

/-- The bytes that CRC and SIG cover. -/
def crcBytes (b : List Byte) : List Byte := b.take 104 ++ b.drop 256
def sigBytes (b : List Byte) : List Byte := b.take 160 ++ b.drop 256

/-- The key of CHT_GRAPH_CFG.KEY_SLOT, where it is an ECDSA P-384 public key with UPDATE_VERIFY (R209). -/
def graphKey (s : State) : Option (List Byte) :=
  let k := fld s Reg.CHT_GRAPH_CFG 5 0
  if keyUsable s k 4 && decide ((keySlot s k).type = 3) then some (keyOf s k) else none

/-- SIG verifies with the key that the load took when it began: it finishes with that key (R448; DEDUCED, assumption 196). -/
def graphSigned (s : State) (b : List Byte) : Bool :=
  match s.cht.loadKey with
  | some k => ecdsaP384 k (sigBytes b) ((b.drop 160).take 96)
  | none => false

/-- The FAIL_CODE of an image of `len` bytes; 0 where it is accepted (R205 to R209). -/
def imageFail (s : State) (len : Nat) (b : List Byte) : Nat :=
  if !headerOk b len || !gridOk b || !(parseGraph b).segs.all segOk then 1
  else if leAt b 104 4 ≠ crc32c (crcBytes b) then 2
  else if !graphSigned s b then 3
  else if !(chunks 8 (imgSegs b) (imgTables b).idx).all (indexOk 1024 (imgConf b)) || !confOk (parseGraph b) then 5
  else 0

end Sys2Proof.Machine
end

