-- ==== Sys2Proof/Machine/Chart.lean ====
section
/-! DEFINITION. The commands of the Chart ledger (chapter 7): graph, origin and rebase, requests, routes, the
grant-period boundary, errors of the reservation memory. -/
namespace Sys2Proof.Machine

/-! ### Lane graph -/

/-- GRAPH_REJECT with a FAIL_CODE, and nothing else changed. -/
def graphReject (code : Nat) (s : State) : State := sticky Reg.CHT_STICKY 8 (setCht { s.cht with failCode := code } s)

/-- R209: CHT_CMD.GRAPH_LOAD. The image is read once DMA is allowed (R349; assumption 238). -/
def execGraphLoad (s : State) : Out :=
  .next (
    if !chartUp s then s
    else if s.cht.stage = 1 || s.cht.activateWaits then graphReject 6 s
    else
      let a := rd64 s Reg.CHT_GRAPH_ADDR_LO
      let n := (rd s Reg.CHT_GRAPH_LEN).toNat
      let t := setCht { s.cht with stage := 1, failCode := 0, staging := none, loadAddr := a, loadLen := n, loadKey := graphKey s,
                                   loadHeld := s.io.dmaHeld } s
      if s.io.dmaHeld then t else emit (.fetch a n) t)

/-- R209: the load and its checks end. `image` is what stood in host memory at the load's address. -/
def execGraphVerified (image : List Byte) (s : State) : Out :=
  .next (
    if !chartUp s || decide (s.cht.stage ≠ 1) || s.cht.loadHeld then s
    else
      let f := imageFail s s.cht.loadLen image
      let s := setCht { s.cht with loadKey := none } s
      if f = 0 then setCht { s.cht with stage := 2, failCode := 0, staging := some (parseGraph image) } s
      else sticky Reg.CHT_STICKY 8 (setCht { s.cht with stage := 3, failCode := f } s))

/-- R210: CHT_CMD.GRAPH_ACTIVATE. The accepted activation goes to the peer as a record (R335). A standby activates its own staged graph,
which is not mirrored (R333), and leaves the mirrored ledger and routes alone (R334). -/
def execGraphActivate (s : State) : Out :=
  .next (
    if !chartUp s then s
    else if s.cht.stage = 1 || s.cht.activateWaits then graphReject 6 s
    else if s.cht.stage ≠ 2 || !(nfSet s || decide (s.crp.mode = .maintain)) then graphReject 4 s
    else match s.cht.staging with
      | some g => mirror (.graph g.id) (setCht { s.cht with activateWaits := true } s)
      | none => graphReject 4 s)

/-! ### Origin and ticks -/

/-- R216: the write of the origin's high word, with its low word. A standby keeps the mirrored origin (R334). -/
def execOriginWrite (w : Word) (s : State) : Out :=
  .next (
    if !chartUp s then s
    else if s.crp.mode = .standby then paiSticky 11 s
    else if s.cht.ivals ≠ [] then chtReject s
    else
      let s := rearmNear (wr Reg.CHT_ORIGIN_HI w (wr Reg.CHT_ORIGIN_LO (lowWord s Reg.CHT_ORIGIN_LO) s))
      mirror (.origin s.cht.originGen (originMs s) s.cht.rebaseEnd) s)

/-- R217: CHT_CMD.REBASE. -/
def execRebase (s : State) : Out :=
  let d := (rd s Reg.CHT_REBASE_DELTA).toNat
  .next (
    if !chartUp s then s
    else if s.crp.mode = .standby then paiSticky 11 s
    else if nowTick s < d ∨ s.cht.rebase.isSome then chtReject s
    else setCht { s.cht with rebase := some d } s)

/-- R217: B + 60 µs: requests sequenced in the window are decided from now on. -/
def execRebaseWindowEnd (s : State) : Out :=
  .next (match s.cht.rebaseEnd with
    | some t => if t ≤ s.tim.now then setCht { s.cht with rebaseEnd := none } s else s
    | none => s)

/-- R219: the warning, once for each approach. -/
def tickNear (s : State) : State :=
  let s := rearmNear s
  if !s.cht.nearTold && decide (0xF0000000 ≤ nowTick s) then sticky Reg.CHT_STICKY 9 (setCht { s.cht with nearTold := true } s) else s

/-- R219: grant issue stops. -/
def tickWrapped (s : State) : State :=
  if 0xFFFF0000 ≤ nowTick s then setCht { s.cht with tickStop := true } s else s

def execTickNearWrap (s : State) : Out := .next (if chartUp s then tickNear s else s)
def execTickWrap (s : State) : Out := .next (if chartUp s then tickWrapped s else s)

/-- R214: storage of intervals that have ended is reclaimed. -/
def execIntervalReclaim (s : State) : Out :=
  .next (if chartUp s then commitIvals (s.cht.ivals.filter (fun x => decide (nowTick s < x.fin))) s else s)

/-- R510: CHT_CMD.CLEAR_LAT. -/
def execChtClearLat (s : State) : Out := .next (if chartUp s then wr Reg.CHT_LAT_MAX 0 s else s)

/-! ### Grant-period boundary -/

/-- PERIOD_MS, and the number of the grant period that contains this instant (R231). -/
def periodMs (s : State) : Nat := fld s Reg.CHT_CTRL 9 0
def periodOf (s : State) : Nat := s.tim.now / (max 1 (periodMs s) * tMs)

/-- A stored interval against the new origin (R217); none where it has ended before it. -/
def rebaseIval (d : Nat) (x : Ival) : Option Ival :=
  if x.fin = openEnd then some { x with start := x.start - d }
  else if x.fin ≤ d then none
  else some { x with start := x.start - d, fin := x.fin - d }

/-- R217: the rebase at B. -/
def doRebase (d : Nat) (s : State) : State :=
  let o := originMs s + d
  let s := wr Reg.CHT_ORIGIN_LO (BitVec.ofNat 32 o) (wr Reg.CHT_ORIGIN_HI (BitVec.ofNat 32 (o / 2 ^ 32)) s)
  let s := setCht { s.cht with ivals := s.cht.ivals.filterMap (rebaseIval d), originGen := (s.cht.originGen + 1) % 256,
                               rebase := none, rebaseEnd := some (s.tim.now + 60 * tUs) } s
  let s := rebasedTick s
  mirror (.origin s.cht.originGen o s.cht.rebaseEnd) (inc (Reg.CHT_CNT 11) 1 (fillCheck s))

/-- A machine's words once a graph has been activated: no route, no lapse to place, no PARK. The LAPSE job of its last grant still comes,
and places nothing (R233, R248). -/
def chtMachActivated (x : ChtMach) : ChtMach := { x with route := [], matched := none, lapsed := false, cancelled := true, span := [], parkSpan := [] }

/-- The ledger and the machines' words at an activation. On a standby they are mirrored: what the active unit's activation does to them
comes as records (R334). -/
def activateLedger (s : State) : State :=
  if s.crp.mode = .standby then s
  else (s.cht.mach.map (·.1)).foldl (fun s m => putChtMach m (chtMachActivated (chtMach s m)) s) (putIvals [] s)

/-- R210: the staged graph becomes active. -/
def doActivate (s : State) : State :=
  match s.cht.staging with
  | none => setCht { s.cht with activateWaits := false, activatePeer := false } s
  | some g =>
    let old := s
    let s := activateLedger s
    let s := if s.cht.activatePeer then { s with pai := { s.pai with peerGraph := some g.id } } else s
    let s := setCht { s.cht with active := some g, staging := s.cht.active, stage := 0, activateWaits := false, activatePeer := false } s
    mismatchCheck old <| fillCheck (wr Reg.CHT_GRAPH_ID (BitVec.ofNat 32 g.id) (wr Reg.CHT_GRAPH_NSEG (BitVec.ofNat 32 g.segs.length) s))

/-- R341: the conditions of the return have held for 1 ms. -/
def returnDue (s : State) : Bool := match s.pai.returnOk with | some t => decide (t + tMs ≤ s.tim.now) | none => false

/-- R341, R342: a handover due at this boundary: the handover record leaves, and grants and PLP transmission stop. -/
def handoverAt (s : State) : State :=
  let due := match s.pai.handover with | .due _ => true | .sent _ => false | .none => returnDue s
  if due && s.pai.pair && s.pai.active then mirror .handover { s with pai := { s.pai with handover := .sent s.tim.now, returnOk := none } }
  else s

/-- What a boundary of the grant period does: the swaps that wait (R419), then the rebase (R217), then the activation
(R210), then the handover (R341). Requests in flight before a rebase or an activation were sequenced earlier and are
decided first (R20). -/
def grantBoundary (s : State) : State :=
  let s := if s.crp.swapWait ≠ 0 then swapWaiting s else s
  let s := if chartUp s && (s.cht.rebase.isSome || s.cht.activateWaits) then drainRequests s.cht.reqs.length s else s
  let s := match s.cht.rebase with | some d => if chartUp s then doRebase d s else s | none => s
  let s := if chartUp s && s.cht.activateWaits then doActivate s else s
  let s := handoverAt s
  setCht { s.cht with period := periodOf s } s

def execGrantPeriodBoundary (s : State) : Out := .next (if periodOf s = s.cht.period then s else grantBoundary s)

/-! ### Host requests -/

/-- R334: a LEDGER command that would change the mirrored ledger in STANDBY: it completes NOT_ACTIVE, or with the code that outranks it
(R15). -/
def standbyLedger (j : Job) (s : State) : State :=
  let q : Request := ⟨0, decodeItems 64 (cmdBody j), .host, s.tim.now, j.id⟩
  let v := judge s q
  let code := standbyCode v.1
  let detail := if code = v.1 then (match v.2.1 with | some f => failDetail s 0 f | none => ledgerDetail s 0) else ledgerDetail s 0
  endJob j.id (completeOpt j.cmd code detail (if code = 0x70 then paiCount 7 1 s else s))

/-- R220, R249: the LEDGER command next in turn is dispatched: it takes its sequence number. A request of CHECK items alone changes nothing
(R221), so it runs in STANDBY too (R334). -/
def execLedger (s : State) : Out :=
  .next (
    if !chartUp s then s
    else withJob 2 (fun j => match j.cmd with | some c => decide (c.opcode = 8) | none => decide (j.kind = .ledger))
      (fun j s =>
        let items := decodeItems 64 (cmdBody j)
        if s.crp.mode = .standby ∧ items.all (fun it => decide (it.op = 2)) = false then standbyLedger j s
        else sendRequest items .host j.id (updJob j.id (fun j => { j with inService := true }) s)) s)

/-- R222: the earliest request is decided, once no rebase window runs (R217). -/
def execLedgerDecision (s : State) : Out :=
  .next (if chartUp s && s.cht.rebaseEnd.isNone then decide1 s else s)

/-! ### Routes (R225) -/

/-- The end of one segment lies within 50 mm of the start of the next. -/
def joined (a b : Seg) : Bool := decide ((b.sx - a.ex) ^ 2 + (b.sy - a.ey) ^ 2 + (b.sz - a.ez) ^ 2 ≤ 2500)

/-- Every join of a route is within 50 mm. -/
def routeJoined (g : Graph) : List Nat → Bool
  | a :: b :: l =>
    (match g.segs[a]?, g.segs[b]? with | some x, some y => joined x y | _, _ => false) && routeJoined g (b :: l)
  | _ => true

/-- `n` segment ids of four bytes. -/
def decodeIds : Nat → List Byte → List Nat
  | 0, _ => []
  | n + 1, b => leAt b 0 4 :: decodeIds n (b.drop 4)

/-- R225: the body of ROUTE_SET. -/
def routeSet (b : List Byte) (s : State) : State × Nat × List Byte :=
  let m := leAt b 0 2
  let n := leAt b 6 2
  let ids := decodeIds n (b.drop 8)
  let x := chtMach s m
  let replace := decide (leAt b 2 1 % 2 = 1)
  let old := if replace then [] else x.route
  match s.cht.active with
  | none => (s, 0x5A, [])
  | some g =>
    if 4096 < old.length + n then (s, 4, [])
    else if gradeMachines s ≤ m ∨ n < 1 ∨ 256 < n ∨ b.length ≠ 8 + 4 * n ∨ ids.any (fun k => decide (g.segs.length ≤ k)) = true ∨
        routeJoined g (old.drop (old.length - 1) ++ ids) = false then (s, 0x58, [])
    else (putChtMach m { x with route := old ++ ids, cap := leAt b 4 2, matched := if replace then none else x.matched } s, 0, [])

def execRouteSet (s : State) : Out := .next (if chartUp s then withCmd 6 0x09 (activeOnly routeSet) s else s)

/-! ### Reservation memory (R238) -/

/-- A corrected error. -/
def execSramEccCorrected (_shard : Nat) (s : State) : Out :=
  .next (if chartUp s then perf 0x17B 1 (wr Reg.CHT_ECC_CNT (setBits (rd s Reg.CHT_ECC_CNT) 15 0 (min (fld s Reg.CHT_ECC_CNT 15 0 + 1) 0xFFFF)) s) else s)

/-- An uncorrectable error in a shard; `sram` is where (the recorder's payload). -/
def execLedgerUe (shard sram : Nat) (s : State) : Out :=
  .next (
    if !chartUp s then s
    else
      let s := wr Reg.CHT_ECC_CNT (setBits (rd s Reg.CHT_ECC_CNT) 31 16 (min (fld s Reg.CHT_ECC_CNT 31 16 + 1) 0xFFFF)) s
      let s := record 0x20 shard (leBytes 4 sram) (sticky Reg.CHT_STICKY 0 (setCht { s.cht with ue := true } s))
      nfTrigger 6 s)

end Sys2Proof.Machine
end

