-- ==== Sys2Proof/Machine/Halo.lean ====
section
/-! DEFINITION. Halo updates and grants (R226 to R231), grant lapse (R233) and the PARK of a snapshot (R235). -/
namespace Sys2Proof.Machine

/-! ### Matching (R226) -/

/-- A segment of the graph by its id. -/
def segAt (g : Graph) (k : Nat) : Seg := g.segs.getD k ⟨0, 0, 0, 0, 0, 0, 0, 0, 0⟩

/-- East and north in µm of a point given in mm from the graph origin along the ECEF axes. -/
def planePoint (g : Graph) (x y z : Int) : Int × Int :=
  let p := Config.enuOf g.ox g.oy g.oz (10 * x) (10 * y) (10 * z)
  (p.1, p.2.1)

/-- East and north of an ECEF position in 0.1 mm. -/
def planePos (g : Graph) (x y z : Int) : Int × Int :=
  let p := Config.enuOf g.ox g.oy g.oz (x - g.ox) (y - g.oy) (z - g.oz)
  (p.1, p.2.1)

/-- The squared distance in µm² from a position to a segment, and the offset in mm from its start, both in the horizontal
plane, the foot clamped to the segment. -/
def footOf (p a b : Int × Int) (len : Nat) : Frac × Frac :=
  let dx := b.1 - a.1
  let dy := b.2 - a.2
  let px := p.1 - a.1
  let py := p.2 - a.2
  let len2 := dx * dx + dy * dy
  let pa2 := px * px + py * py
  if p = a then (Frac.ofInt 0, Frac.ofInt 0)
  else if len2 < 1000000 then (Frac.ofInt pa2, Frac.ofInt 0)
  else
    let dot := px * dx + py * dy
    let t := max 0 (min len2 dot)
    (Frac.ratio (pa2 * len2 - (2 * t * dot - t * t)) len2.toNat, Frac.ratio (t * len) len2.toNat)

/-- A match: the place in the route, the squared distance, the offset within the segment. -/
structure RouteMatch where
  place : Nat
  dist2 : Frac
  off : Frac
deriving DecidableEq, Repr

/-- The candidates of a route: two places before the place matched last to sixteen after it, or the first 64. -/
def candidates (route : List Nat) (matched : Option Nat) : List (Nat × Nat) :=
  let all := (List.range route.length).zip route
  match matched with
  | some k => all.filter (fun e => decide (k ≤ e.1 + 2) && decide (e.1 ≤ k + 16))
  | none => all.take 64

/-- The candidate with the smallest distance, ties to the lower place. -/
def bestMatch (g : Graph) (p : Int × Int) (l : List (Nat × Nat)) : Option RouteMatch :=
  l.foldl (fun b e =>
    let x := segAt g e.2
    let f := footOf p (planePoint g x.sx x.sy x.sz) (planePoint g x.ex x.ey x.ez) x.len
    match b with
    | none => some ⟨e.1, f.1, f.2⟩
    | some b => some (if Frac.lt f.1 b.dist2 then ⟨e.1, f.1, f.2⟩ else b)) none

/-- Route distance of the start of each place, and the route's length, in mm. -/
def routeCum (g : Graph) : Nat → List Nat → List Nat
  | at_, [] => [at_]
  | at_, k :: l => at_ :: routeCum g (at_ + (segAt g k).len) l

/-! ### Class parameters -/

def classTime (s : State) (c : Nat) : Word := rd s (Reg.CHT_CLASS_TIME c)
def classReact (s : State) (c : Nat) : Nat := bits (classTime s c) 15 0
def classVmax (s : State) (c : Nat) : Nat := bits (classTime s c) 31 16
def classHalf (s : State) (c : Nat) : Nat := fld s (Reg.CHT_CLASS_SIZE c) 15 0
def classFixed (s : State) (c : Nat) : Nat := fld s (Reg.CHT_CLASS_SIZE c) 31 16

/-- A_BRAKE_k of a class; a surface class that does not exist has none. -/
def classBrake (s : State) (c k : Nat) : Nat :=
  match k with
  | 0 => fld s (Reg.CHT_CLASS_BRAKE_01 c) 15 0
  | 1 => fld s (Reg.CHT_CLASS_BRAKE_01 c) 31 16
  | 2 => fld s (Reg.CHT_CLASS_BRAKE_23 c) 15 0
  | 3 => fld s (Reg.CHT_CLASS_BRAKE_23 c) 31 16
  | _ => 0

/-- The STATUS reports of a machine received in [now - 2 s, now), and the latest of them. -/
def windowStatus (s : State) (m : Nat) : List StatusRep :=
  (mach s m).status.filter (fun r => decide (s.tim.now ≤ r.time + 2 * tSec) && decide (r.time < s.tim.now))
def freshStatus (s : State) (m : Nat) : Option StatusRep := (windowStatus s m).head?

/-! ### The computation (R229) -/

/-- The outcome of an update before any request: an end with its reason, sticky bit and counter, or a plan. -/
inductive HaloEnd where
  | stop (reason : Nat) (stickyBit counter : Option Nat)
  | go (g : GrantPlan)
deriving DecidableEq, Repr

/-- A place of the route: its number, the segment, its start and end in mm. -/
structure Place where
  n : Nat
  id : Nat
  seg : Seg
  lo : Nat
  hi : Nat
deriving DecidableEq, Repr

/-- The places of a route. -/
def places (g : Graph) (route : List Nat) : List Place :=
  let cum := routeCum g 0 route
  (List.range route.length).map (fun i =>
    let k := route.getD i 0
    ⟨i, k, segAt g k, cum.getD i 0, cum.getD (i + 1) 0⟩)

/-- The speed reported by the position source in mm/s: to 1 µm/s, rounded up (assumption 44). -/
def reportedSpeed (s : State) (c : Nat) (h : HaloIn) : Frac :=
  if h.velValid then Frac.ratio (sqrtUp (((h.ve * h.ve + h.vn * h.vn).toNat) * 1000000)) 1000 else Frac.ofNat (classVmax s c)

/-- Steps 1 to 7 of R229 for an update that is matched at place `k`, offset `off` of a trimmed route. -/
def haloCompute (s : State) (m c : Nat) (h : HaloIn) (g : Graph) (route : List Nat) (cap : Nat) (k : Nat) (off : Frac)
    (mTimeNs : Nat) : Option GrantPlan :=
  let ps := places g route
  let total := (ps.map (·.hi)).getLast?.getD 0
  let st := freshStatus s m
  let sp := Frac.add (Frac.ofNat (((ps[k]?).map (·.lo)).getD 0)) off
  let back := Frac.sub sp (Frac.ofNat h.plh)
  let ahead := ps.filter (fun p => Frac.lt back (Frac.ofNat p.hi))
  let window := ahead.filter (fun p => decide (p.n ≤ k + 64))
  let blocked := ahead.find? (fun p => decide (p.seg.limit = 0) || decide (k + 64 < p.n))
  let moving : List Place := match blocked with | some b => window.filter (fun p => decide (p.n < b.n)) | none => window
  let react := max (classReact s c) (match st with | some r => r.tReact | none => 0)
  let brakes := (window.map (fun p => classBrake s c p.seg.surface)) ++
    (match st with | some r => classBrake s c r.surface :: (if r.aBrake = 0 then [] else [r.aBrake]) | none => [])
  let a := brakes.foldl min 65535
  let vc := (moving.map (fun p => p.seg.limit)).foldl min (if cap = 0 then classVmax s c else min cap (classVmax s c))
  let vh := Frac.max (Frac.ofNat vc) (reportedSpeed s c h)
  let mt := Frac.ratio mTimeNs 1000000000
  let tExp := s.tim.now + fld s Reg.CHT_CTRL 19 10 * tMs
  let brakeMm := Frac.mul (Frac.mul vh vh) (Frac.ratio 1 (2 * a))
  let big := Frac.add (Frac.add (Frac.add (Frac.mul vh (Frac.ratio react 1000)) brakeMm) (Frac.mul mt vh))
    (Frac.ofNat (h.plh + classFixed s c))
  let hh := big.ceil
  let stop := Frac.add (Frac.add mt (Frac.ratio react 1000)) (Frac.mul vh (Frac.ratio 1 a))
  let tStop := (Frac.mul stop (Frac.ofNat tSec)).ceil.toNat
  let sec (t : Int) : Frac := Frac.ratio t tSec
  let front := Frac.add sp (Frac.ofNat h.plh)
  let reach := Frac.add front (Frac.mul vh (Frac.add (sec ((tExp : Int) - h.epoch)) mt))
  let limit := Frac.min reach (Frac.min (Frac.ofInt ((total : Int) - hh))
    (match blocked with | some b => Frac.ofInt ((b.lo : Int) - hh) | none => Frac.ofInt ((total : Int) - hh)))
  let l0 := limit.floor
  let spanOf (l : Int) : List Place := ahead.filter (fun p => decide ((p.lo : Int) ≤ l + hh))
  let l := match (spanOf l0)[21]? with | some p => min l0 ((p.lo : Int) - hh - 1) | none => l0
  let behind := Frac.lt (Frac.ofInt l) (Frac.add front (Frac.mul vh (sec ((s.tim.now : Int) - h.epoch))))
  if behind || decide (l < 0) then none
  else
    let at_ := match ps.find? (fun p => decide ((p.lo : Int) ≤ l) && decide (l < (p.hi : Int))) with
      | some p => some p
      | none => ps.getLast?
    match at_ with
    | none => none
    | some p => some ⟨p.id, (l - (p.lo : Int)).toNat, vc, s.tim.now, tExp, tStop, ((spanOf l).map (·.id)).eraseDups, h.gen⟩

/-- A needed A_BRAKE of row 4 of Table 7.7 is 0: the surfaces of the fresh STATUS and of the route from s_p - PL_h to the
end of the window. -/
def brakeUnset (s : State) (m c : Nat) (h : HaloIn) (g : Graph) (route : List Nat) (hit : Option RouteMatch) : Bool :=
  let st := match freshStatus s m with | some r => decide (classBrake s c r.surface = 0) | none => false
  let way := match hit with
    | some x =>
      let ps := places g route
      let back := Frac.sub (Frac.add (Frac.ofNat (((ps[x.place]?).map (·.lo)).getD 0)) x.off) (Frac.ofNat h.plh)
      ps.any (fun p => Frac.lt back (Frac.ofNat p.hi) && decide (p.n ≤ x.place + 64) && decide (classBrake s c p.seg.surface = 0))
    | none => false
  st || way

/-- The match is farther than OFFROUTE_MM. -/
def offRoute (s : State) (c : Nat) (x : RouteMatch) : Bool :=
  Frac.lt (Frac.ofNat ((fld s (Reg.CHT_CLASS_LIMITS c) 31 16 * 1000) ^ 2)) x.dist2

/-- Rows 2 to 9 of Table 7.7, in order, then the plan. `hit` is the match within OFFROUTE_MM on the route as trimmed. -/
def haloRows (s : State) (m : Nat) (h : HaloIn) (g : Graph) (off : Bool) (hit : Option RouteMatch) (route : List Nat) (cap : Nat)
    (epoch : Option Nat) : HaloEnd :=
  let e := (mach s m).entry
  let c := e.cls
  let badStatus := (windowStatus s m).any (fun r => decide (r.cls ≠ c) || decide (r.state = 4))
  if h.state < fld s (Reg.CHT_CLASS_GATE c) 1 0 then .stop 6 none (some 7)
  else if h.v1 && decide (fld s Reg.CHT_POS_CFG 26 11 < h.age) then .stop 6 (some 10) (some 7)
  else if classReact s c = 0 ∨ classVmax s c = 0 ∨ classHalf s c = 0 ∨ brakeUnset s m c h g route hit = true then .stop 0x5E none (some 7)
  else if badStatus then .stop 0x5E (some 7) (some 7)
  else if g.wConf < classHalf s c + h.plh ∨ fld s (Reg.CHT_CLASS_LIMITS c) 15 0 < h.plh then .stop 0x5D (some 4) (some 5)
  else match hit with
    | none => if off then .stop 0x5C (some 3) (some 6) else .stop 0x5B none (some 6)
    | some x =>
      match portMTime s e.port with
      | none => .stop 0xE1 none none
      | some mt =>
        match haloCompute s m c h g route cap x.place x.off mt with
        | none => .stop 0x5B (some 5) (some 6)
        | some p => if (epoch.map (fun t => t / (max 1 (periodMs s) * tMs))) = some (periodOf s) then .stop 0xFF none none else .go p

/-- The items of a halo request (R229, step 8). -/
def haloItems (s : State) (m : Nat) (p : GrantPlan) : List Item :=
  let a := tickDown s p.epoch
  let b := tickUp s p.expiry
  let c := tickUp s (p.expiry + p.tStop)
  (p.span.map (fun k => (⟨k, 0, 2, a, b, m, 0, false, true⟩ : Item))) ++ (p.span.map (fun k => (⟨k, 1, 0, a, c, m, 0, false, false⟩ : Item))) ++
  (p.span.map (fun k => (⟨k, 3, 1, a, openEnd, m, 0, false, false⟩ : Item)))

/-- Records the place matched, and drops the segments more than 64 places behind it from the route's head (R225, R226). -/
def recordMatch (m : Nat) (hit : Option RouteMatch) (s : State) : State × Option RouteMatch :=
  match hit with
  | none => (s, none)
  | some x =>
    let v := chtMach s m
    let cut := x.place - 64
    let v' := { v with route := v.route.drop cut, matched := some (x.place - cut) }
    (if v' = v then s else putChtMach m v' s, some { x with place := x.place - cut })

/-- The end of an update without a request. -/
def haloStop (m reason : Nat) (stickyBit counter : Option Nat) (s : State) : State :=
  let s := match stickyBit with | some b => sticky Reg.CHT_STICKY b s | none => s
  let s := match counter with | some k => inc (Reg.CHT_CNT k) 1 s | none => s
  setReason m reason s

/-- One halo update of machine `m` (R228 to R231), run by job `id`. -/
def haloUpdate (m : Nat) (h : HaloIn) (id : Nat) (s : State) : State :=
  let s := perf 0x145 1 (inc (Reg.CHT_CNT 3) 1 s)
  let cause := stopCause s m h.tRx
  let still (g : Graph) (s : State) : State × Bool × Option RouteMatch :=
    let v := chtMach s m
    match bestMatch g (planePos g h.x h.y h.z) (candidates v.route v.matched) with
    | none => (s, false, none)
    | some x =>
      if offRoute s (mach s m).entry.cls x then (s, true, none)
      else let r := recordMatch m (some x) s; (r.1, false, r.2)
  match cause with
  | some n =>
    let s := if n = 2 ∨ n = 6 then s else match s.cht.active with | some g => (still g s).1 | none => s
    endJob id (setReason m (0xE0 + n) s)
  | none =>
    match s.cht.active with
    | none => endJob id (setReason m 0xE6 s)
    | some g =>
      let r := still g s
      let s := r.1
      let v := chtMach s m
      match haloRows s m h g r.2.1 r.2.2 v.route v.cap v.epoch with
      | .stop reason b k => endJob id (haloStop m reason b k s)
      | .go p => sendRequest (haloItems s m p) (.halo m p) id (updJob id (fun j => { j with inService := true }) s)

def execHalo (s : State) : Out :=
  .next (
    if !chartUp s then s
    else withJob 2 (fun j => decide (j.kind = .halo)) (fun j s =>
      match j.work with
      | .halo h => haloUpdate j.flow h j.id s
      | _ => endJob j.id s) s)

/-! ### Lapse (R233) -/

/-- LAPSE jobs enter for the machines whose last grant has expired with none later; the active unit alone does so. -/
def lapseDue (s : State) : State :=
  if !grantUnit s then s
  else
    (s.cht.mach.filter (fun e => e.2.live && decide (e.2.expiry ≤ s.tim.now) &&
      !s.dsp.jobs.any (fun j => decide (j.kind = .lapse) && decide (j.flow = e.1)))).foldl
      (fun s e => addJob .lapse e.1 (levelFor s .lapse 0) ((e.2.expiry : Nat) : Int) 0 none (.lapse e.2.grantNo) none s) s

/-- The request of a lapse PARK. -/
def lapseItems (s : State) (m : Nat) (x : ChtMach) : List Item :=
  let a := tickDown s (x.expiry + x.tStop)
  x.span.map (fun k => (⟨k, 3, 0, a, openEnd, m, 0, false, false⟩ : Item))

/-- The LAPSE job next in turn: it completes without effect where a later grant was issued or an activation came between. -/
def lapseRun (j : Job) (s : State) : State :=
  let m := j.flow
  let x := chtMach s m
  match j.work with
  | .lapse n =>
    let mine := x.live && decide (x.grantNo = n) && decide (x.expiry ≤ s.tim.now)
    if mine && !x.cancelled then
      sendRequest (lapseItems s m x) (.lapse m) j.id (updJob j.id (fun j => { j with inService := true }) s)
    else inc (Reg.DSP_CNT 6) 1 (endJob j.id (if mine then putChtMach m { x with live := false } s else s))
  | _ => endJob j.id s

def execLapse (s : State) : Out :=
  .next (if chartUp s then withJob 2 (fun j => decide (j.kind = .lapse)) lapseRun (lapseDue s) else s)

/-! ### PARK of a snapshot (R235) -/

/-- Floor of a coordinate in µm over the cell size. -/
def cellOf (g : Graph) (v : Int) (n : Nat) : Int := v.fdiv ((g.cellM : Int) * 1000000) + ((n / 2 : Nat) : Int)

/-- The segments listed in the cells around a position: its own cell and the eight that touch it (R208). -/
def gridSegs (g : Graph) (p : Int × Int) : List Nat :=
  let i := cellOf g p.1 g.gridE
  let j := cellOf g p.2 g.gridN
  ([-1, 0, 1].flatMap (fun dj => [-1, 0, 1].flatMap (fun di =>
    let a := i + di
    let b := j + dj
    if 0 ≤ a ∧ a < (g.gridE : Int) ∧ 0 ≤ b ∧ b < (g.gridN : Int) then g.grid.getD (b.toNat * g.gridE + a.toNat) [] else []))).eraseDups

/-- The segments that have a point within `w` mm of a position in the plane. -/
def nearSegs (g : Graph) (p : Int × Int) (w : Nat) : List Nat :=
  (gridSegs g p).filter (fun k =>
    let x := segAt g k
    Frac.le (footOf p (planePoint g x.sx x.sy x.sz) (planePoint g x.ex x.ey x.ez) x.len).1 (Frac.ofNat ((w * 1000) ^ 2)))

/-- The request of a snapshot PARK: the previous snapshot PARK is released in the same request. -/
def snapItems (s : State) (m : Nat) (segs : List Nat) : List Item :=
  let a := nowTick s
  (((chtMach s m).parkSpan).map (fun k => (⟨k, 3, 1, 0, openEnd, m, 0, false, false⟩ : Item))) ++
  (segs.map (fun k => (⟨k, 3, 0, a, openEnd, m, 0, false, false⟩ : Item)))

end Sys2Proof.Machine
end

