-- ==== Sys2Proof/Machine/Reference.lean ====
section
/-! DEFINITION. The reference station and the correction streams (chapter 4). -/
namespace Sys2Proof.Machine

def setRefAnt (n : Nat) (x : RefAnt) (s : State) : State := setRef { s.ref with ant := Tab.put refAntDef s.ref.ant n x } s

/-- REF's CFG_REJECT and CMD_REFUSED. -/
def refReject (s : State) : State := sticky Reg.REF_STICKY 6 s
def refRefused (s : State) : State := sticky Reg.REF_STICKY 7 s


/-! ### Epochs -/

/-- R116, R117, R122: a formation point. While BB time is invalid or the bridge is silent the set is empty. The commands held
(R106) and the swaps since the epoch before (R109) belong to this epoch; a swap, a dump or an end of tracking after it does not. -/
def execBaseEpoch (obs : List ChanObs) (s : State) : Out :=
  let e := formPoint s
  .next (
    if !formMode s || decide (e ≤ s.ref.gridAt) then s
    else
      let regs := refSetAt e s
      let sigs := if bbValid s && !s.ing.silent then formSigs s regs e obs else []
      let s := obs.foldl (lockObs e) s
      let past := s.ref.swaps.filter (fun x => decide (x.at_ ≤ e))
      let p : BaseEp := ⟨e, sigs, false, false, [], regs, antMask (fun n => (refAnt s n).readmit), antMask (fun n => (refAnt s n).exclude),
        swapsAltered past, swapsMoved past, []⟩
      let ants := s.ref.ant.map (fun x => (x.1, { x.2 with readmit := false, exclude := false }))
      perf 0x110 1 (setRef { s.ref with epochs := s.ref.epochs ++ [p], gridAt := e, swaps := s.ref.swaps.filter (fun x => decide (e < x.at_)),
                                        ant := ants.filter (fun x => decide (x.2 ≠ refAntDef x.1)) } s))

/-- R106: a command is held until the next formed epoch; EXCLUDE takes precedence over READMIT. -/
def execReadmit (n : Nat) (w : Word) (s : State) : Out :=
  .next (if n < gradeAnts s ∧ bitAt w 0 = true ∧ bitAt w 1 = false then setRefAnt n { refAnt s n with readmit := true } s else s)
def execExclude (n : Nat) (w : Word) (s : State) : Out :=
  .next (if n < gradeAnts s ∧ bitAt w 1 = true then setRefAnt n { refAnt s n with exclude := true } s else s)

/-! ### Cross-checks and states (R106, R112 to R115) -/

/-- Antenna `n` takes part in the checks of an epoch (R112). -/
def judged (s : State) (n : Nat) : Bool := decide ((refAnt s n).state ≠ .down)

/-- What the checks of an epoch found: THRESH_MM, ABS_M, the pairs and the antennas. -/
structure Checks where
  thresh : Nat
  absM : Nat
  pairs : List PairTest
  absolute : List AbsTest

/-- The checks of an epoch, and the pair ambiguities after it. -/
def checksOf (s : State) (p : BaseEp) (sats : List SatPos) : Checks × List PairAmb :=
  let live := (List.range (gradeAnts s)).filter (judged s)
  let r := (pairsOf live).map (fun t => pairTest p sats s.ref.ambs t.1 t.2)
  (⟨epFld p Reg.REF_XCHK_CFG 7 0, epFld p Reg.REF_XCHK_CFG 31 28, r.map (·.1), live.map (absTest p sats)⟩,
   keepAmbs s.ref.ambs (r.flatMap (·.2)))

/-- The tested pairs of antenna `n`. -/
def testedPairs (c : Checks) (n : Nat) : List PairTest :=
  c.pairs.filter (fun t => (decide (t.a = n) || decide (t.b = n)) && pairTested t)

/-- The absolute check of antenna `n` fails (R113). -/
def absFails (c : Checks) (n : Nat) : Bool := c.absolute.any (fun t => decide (t.ant = n) && absTestFails c.absM t)

/-- Antenna `n` fails the epoch (R114). -/
def epochFails (c : Checks) (n : Nat) : Bool :=
  absFails c n || ((testedPairs c n).any (pairFails c.thresh) && (testedPairs c n).all (pairFails c.thresh))

/-- The exclusion of an antenna: sticky bit, recorder entry with its cause (0 cross-check, 1 HOST). -/
def excluded (n cause : Nat) (s : State) : State :=
  record 0x18 n (leBytes 1 cause ++ zeros 3 ++ leBytes 4 (rd s (Reg.REF_ANT_XCHK n)).toNat) (sticky Reg.REF_STICKY n s)

/-- The next state of an antenna (Table 4.2): the state, whether its fail count is cleared, which command acted (1 EXCLUDE,
2 READMIT, 3 READMIT refused), whether it is a readmission of the device's own. `f` is the epoch's result where it has one. -/
def antNext (s : State) (p : BaseEp) (n : Nat) (x : RefAnt) (f : Option Bool) : AntState × Bool × Nat × Bool :=
  let usable := epFlag p (Reg.REF_ANT_CFG n) 0 && epFlag p (Reg.REF_ANT_CFG n) 1
  let data := antData s n
  let live := decide (x.state = .inService) || decide (x.state = .held)
  let auto := epFlag p Reg.REF_CTRL 14 &&
    (match x.passSince with | some t => decide (epFld p Reg.REF_XCHK_CFG 27 16 * 1000000000 ≤ p.e - t) | none => false)
  if x.state = .down then (if usable && data then (.inService, false, 0, false) else (.down, false, 0, false))
  else if live && decide (f = some true) then
    (if epFld p Reg.REF_XCHK_CFG 11 8 ≤ x.fails then .excluded else .held, false, 0, false)
  else if x.state = .held ∧ f = some false then (.inService, true, 0, false)
  else if live && p.exclude.getLsbD n then (.excluded, false, 1, false)
  else if x.state = .excluded ∧ p.readmit.getLsbD n = true then
    (if x.passed then (.inService, true, 2, false) else (.excluded, false, 3, false))
  else if x.state = .excluded ∧ auto = true then (.inService, false, 0, true)
  else if !usable then (.down, true, 0, false)
  else if live && !data then (.down, true, 0, false)
  else (x.state, false, 0, false)

/-- A command held for this epoch that did not act (R106). -/
def cmdRefused (p : BaseEp) (n : Nat) (st : AntState) (acted : Nat) : Bool :=
  decide (acted = 3) || (p.readmit.getLsbD n && decide (acted ≠ 2) && decide (acted ≠ 3)) ||
  (p.exclude.getLsbD n && decide (acted ≠ 1) && decide (st ≠ .excluded) && decide (st ≠ .down))

/-- The cross-check report of an antenna: REF_ANT_n_XCHK. -/
def xchkWord (c : Checks) (n fails : Nat) : Word :=
  let worst := ((testedPairs c n).map pairRms).foldl max 0
  BitVec.ofNat 32 (min worst 65535 + 2 ^ 16 * fails + 2 ^ 20 * (testedPairs c n).length + 2 ^ 24 * b2n (absFails c n))

/-- One antenna at one epoch: judged unless it is DOWN. -/
def antEpoch (p : BaseEp) (c : Checks) (old : State) (s : State) (n : Nat) : State :=
  let x := refAnt s n
  let f : Option Bool := if judged old n then some (epochFails c n) else none
  let x := match f with
    | some true => { x with fails := min (x.fails + 1) 15, passed := false, passSince := none }
    | some false => { x with fails := 0, passed := true, passSince := some (x.passSince.getD p.e) }
    | none => { x with passSince := none }
  let s := if f = some true then perf 0x111 1 s else s
  let v := antNext s p n x f
  let x' := { x with state := v.1, fails := if v.2.1 then 0 else x.fails }
  let s := wr (Reg.REF_ANT_XCHK n) (xchkWord c n x'.fails) (setRefAnt n x' s)
  let s := if v.1 = .excluded ∧ x.state ≠ .excluded then excluded n (b2n (decide (v.2.2.1 = 1))) s else s
  let s := if v.2.2.2 then record 0x19 n [] s else s
  if cmdRefused p n v.1 v.2.2.1 then refRefused s else s

/-- The primary reference (R108). -/
def primaryOf (s : State) (p : BaseEp) : Option Nat :=
  ((List.range (gradeAnts s)).filter (fun n => decide ((refAnt s n).state = .inService) || decide ((refAnt s n).state = .held))).foldl
    (fun b n => match b with
      | none => some n
      | some k => some (if epFld p (Reg.REF_ANT_CFG n) 3 2 < epFld p (Reg.REF_ANT_CFG k) 3 2 then n else k)) none

def stream (s : State) (k : Nat) : Stream := Tab.get streamDef s.ref.stream k
def setStream (k : Nat) (x : Stream) (s : State) : State := setRef { s.ref with stream := Tab.put streamDef s.ref.stream k x } s

/-- The source antenna of a stream (R124). -/
def streamSrc (s : State) (k : Nat) : Option Nat :=
  let v := fld s (Reg.REF_STREAM_CFG k) 6 4
  if v = 4 then s.ref.primary else if v < gradeAnts s then some v else none

/-- R109: a reference change: the streams whose source changed or was altered send their station messages. -/
def refChange (altered : BitVec 4) (primaryMoved : Bool) (s : State) : State :=
  let s := setRef { s.ref with iods := (s.ref.iods + 1) % 8 } s
  let primary := match s.ref.primary with | some n => n | none => 0xFF
  let s := record 0x1A 0 (leBytes 1 s.ref.iods ++ leBytes 1 primary) (sticky Reg.REF_STICKY 4 s)
  (List.range 16).foldl (fun s k =>
    let hit := (match streamSrc s k with | some n => altered.getLsbD n | none => false) ||
      (primaryMoved && decide (fld s (Reg.REF_STREAM_CFG k) 6 4 = 4))
    if hit then setStream k { stream s k with force := true } s else s) s

/-- The newest base epoch at or before e_r that is published with an antenna in service (R169). -/
def baseFor (s : State) (e : Nat) : Option Nat :=
  ((s.ref.epochs.filter (fun p => p.published && decide (p.e ≤ e) && !p.sigs.isEmpty)).map (·.e)).max?

/-- A waiting fix job is released to its base epoch (R169, R248). -/
def openGate (s : State) (j : Job) : Job :=
  match j.work with
  | .obs er parts none => { j with gate := none, work := .obs er parts (some (baseFor s er)) }
  | _ => { j with gate := none }

/-- Fix jobs that wait for this epoch are released. -/
def openGates (e : Nat) (s : State) : State :=
  setDsp { s.dsp with jobs := s.dsp.jobs.map (fun j =>
    match j.kind, j.work with
    | .fix, .obs er _ none => if er = e then openGate s j else j
    | _, _ => j) } s

/-! ### Survey (R110, R111) -/

def engine (s : State) (e : Nat) : FixEngine := Tab.get engineDef s.pst.engine e
def setEngine (e : Nat) (x : FixEngine) (s : State) : State := { s with pst := { s.pst with engine := Tab.put engineDef s.pst.engine e x } }

/-- The antennas of a survey's mask. -/
def surveyed (s : State) (mask : Nat) : List Nat := (List.range (gradeAnts s)).filter (fun n => decide (mask / 2 ^ n % 2 = 1))

/-- The lowest enabled antenna outside a mask that has valid coordinates. -/
def anchor (s : State) (mask : Nat) : Option Nat :=
  (List.range (gradeAnts s)).find? (fun n => decide (mask / 2 ^ n % 2 = 0) && flag s (Reg.REF_ANT_CFG n) 0 && flag s (Reg.REF_ANT_CFG n) 1)

/-- A survey of a mask needs a fix engine: some antenna of it is surveyed relative to another. -/
def needsEngine (s : State) (v : Survey) : Bool := decide (b2n v.absolute < (surveyed s v.mask).length)

/-- Engine `e` could take work: present, enabled, not quarantined, without a job, not held by a survey. -/
def engineFree (s : State) (e : Nat) : Bool :=
  fixUp s && decide (e < gradeEngines s) && flag s Reg.PST_CTRL e && !flag s Reg.PST_QUAR e && (engine s e).job.isNone &&
  !s.ref.survey.any (fun v => decide (v.engine = some e))

/-- A running survey that wants an engine takes the lowest that is free (assumption 158). -/
def surveyEngine (s : State) : State :=
  match s.ref.survey with
  | some v =>
    if needsEngine s v && v.engine.isNone then
      setRef { s.ref with survey := some { v with engine := (List.range (gradeEngines s)).find? (engineFree s) } } s
    else s
  | none => s

/-- R110: the antennas are surveyed relative to an anchor, or where there is none to the lowest of the mask, itself absolute. The end
of DURATION_MIN is a fixed instant of device time, which a set or a step of the time does not move (DEDUCED, assumption 232). -/
def execSurveyStart (w : Word) (s : State) : Out :=
  .next (
    if s.crp.mode ≠ .survey ∨ bitAt w 0 = false then s
    else if s.ref.survey.isSome then refRefused s
    else
      let mask := fld s Reg.REF_SURVEY_CFG 19 16
      let fin := s.tim.now + fld s Reg.REF_SURVEY_CFG 10 0 * 60 * tSec
      let ants := surveyed s mask
      let from_ := (anchor s mask).getD (ants.head?.getD 0)
      surveyEngine (setRef { s.ref with survey := some ⟨fin, mask, (anchor s mask).isNone, from_, none, ants.map (fun n => ⟨n, [], none⟩)⟩,
                                        surveyState := 1 } s))

/-- R111. -/
def execSurveyAbort (w : Word) (s : State) : Out :=
  .next (if bitAt w 1 && s.ref.survey.isSome then setRef { s.ref with survey := none, surveyState := 0 } s else s)

/-- The ionosphere-free combination in nm of two signals' pseudoranges, where the first has the shorter wavelength: each is
weighted with the square of the other's wavelength. -/
def ionoFree (x y : BaseSig) : Int :=
  let a := Frac.mul (waveOf x) (waveOf x)
  let b := Frac.mul (waveOf y) (waveOf y)
  let d := Frac.sub b a
  toNm (Frac.mul (Frac.sub (Frac.mul b (prOf x)) (Frac.mul a (prOf y))) (Frac.ratio d.den d.num.toNat))

/-- The combinations of an antenna's signals. -/
def ionoFrees (l : List BaseSig) : List (Nat × Nat × Nat × Nat × Int) :=
  l.flatMap (fun x => (l.filter (fun y => decide (x.gnss = y.gnss) && decide (x.sat = y.sat) && Frac.lt (waveOf x) (waveOf y))).map
    (fun y => (x.gnss, x.sat, x.kind, y.kind, ionoFree x y)))

/-- The mean of positions; the origin of none. -/
def meanPos (l : List (Int × Int × Int)) : Int × Int × Int :=
  let n : Nat := max 1 l.length
  let mean (f : Int × Int × Int → Int) : Int := nearest (Frac.ratio ((l.map f).foldl (· + ·) 0) n)
  (mean (·.1), mean (·.2.1), mean (·.2.2))

/-- Where the antenna lies that baselines start from: the mean so far of an absolute survey, else its coordinates. -/
def surveyFrom (p : BaseEp) (v : Survey) : Int × Int × Int :=
  if v.absolute then meanPos ((v.ants.find? (fun x => decide (x.ant = v.ref))).elim [] (·.sols))
  else (epCoord p v.ref 0, epCoord p v.ref 1, epCoord p v.ref 2)

/-- What an epoch adds to one antenna of a survey. A relative survey needs its engine. -/
def surveyAdd (p : BaseEp) (sats : List SatPos) (v : Survey) (x : SurveyAnt) : SurveyAnt :=
  let of (n : Nat) : List BaseSig := p.sigs.filter (fun o => decide (o.ant = n))
  if v.absolute ∧ x.ant = v.ref then { x with sols := x.sols ++ (Config.pointSol (ionoFrees (of x.ant)) sats).toList }
  else if v.engine.isSome ∧ of x.ant ≠ [] ∧ of v.ref ≠ [] then
    let c := surveyFrom p v
    { x with est := some (Config.surveyStep x.est (of x.ant) (of v.ref) sats c.1 c.2.1 c.2.2) }
  else x

/-- R110: an epoch within the duration of a running survey. -/
def surveyEpoch (p : BaseEp) (sats : List SatPos) (s : State) : State :=
  match s.ref.survey with
  | some v => if p.e * tNs < v.fin then setRef { s.ref with survey := some { v with ants := v.ants.map (surveyAdd p sats v) } } s else s
  | none => s

/-- The coordinates that a survey found for antenna `n`, in both sets (R111). -/
def surveyWrite (n : Nat) (x : SurveyEst) (s : State) : State :=
  let put (i : Nat) (v : Int) (s : State) : State :=
    wrBoth (Reg.REF_ANT_COORD n (2 * i)) (BitVec.ofNat 32 (wrapInt 64 v)) (wrBoth (Reg.REF_ANT_COORD n (2 * i + 1)) (BitVec.ofNat 32 (wrapInt 64 v / 2 ^ 32)) s)
  let s := put 0 x.x (put 1 x.y (put 2 x.z s))
  let a := Reg.REF_ANT_CFG n
  wrShadow a (setBits (shadow s a) 1 1 1) (wr a (setBits (rd s a) 1 1 1) s)

/-- Coordinate `i` of an antenna, in 0.1 mm. -/
def antCoord (s : State) (n i : Nat) : Int :=
  signed 64 ((rd s (Reg.REF_ANT_COORD n (2 * i))).toNat + 2 ^ 32 * (rd s (Reg.REF_ANT_COORD n (2 * i + 1))).toNat)

/-- What a survey found of an antenna: of an absolute one the mean of its solutions, of a relative one its baseline's end. Without
one epoch that is a free value (assumption 192). -/
def surveyFound (s : State) (v : Survey) (x : SurveyAnt) : SurveyEst :=
  if v.absolute ∧ x.ant = v.ref ∧ x.sols ≠ [] then
    let m := meanPos x.sols
    ⟨m.1, m.2.1, m.2.2, Config.surveySigma x.sols, false⟩
  else
    match x.est with
    | some b =>
      let c := if v.absolute then meanPos ((v.ants.find? (fun y => decide (y.ant = v.ref))).elim [] (·.sols))
        else (antCoord s v.ref 0, antCoord s v.ref 1, antCoord s v.ref 2)
      { b with x := c.1 + b.x, y := c.2.1 + b.y, z := c.2.2 + b.z }
    | none => { Config.surveyEst s.free with fixed := false }

/-- One antenna at the end of a survey. A relative one meets its condition with fixed ambiguities and at most 5 mm; the Bool says
that all so far have. -/
def surveyAnt (v : Survey) (p : State × Bool) (x : SurveyAnt) : State × Bool :=
  let found := surveyFound p.1 v x
  let s := wr (Reg.REF_ANT_SURVEY_SIGMA x.ant) (BitVec.ofNat 32 (min found.sigma 65535)) (freeNext p.1)
  if (v.absolute && decide (x.ant = v.ref)) || (found.fixed && decide (found.sigma ≤ 5)) then (surveyWrite x.ant found s, p.2)
  else (s, false)

/-- R111: DURATION_MIN has passed. -/
def execSurveyEnd (s : State) : Out :=
  .next (match s.ref.survey with
    | none => s
    | some v =>
      if s.crp.mode ≠ .survey ∨ s.tim.now < v.fin then s
      else
        let r := v.ants.foldl (surveyAnt v) (s, true)
        let s := setRef { r.1.ref with survey := none, surveyState := if r.2 then 2 else 3 } r.1
        if r.2 then notice 4 s else sticky Reg.REF_STICKY 5 s)

/-! ### Publication (R106 to R115, R122) -/

/-- The ephemeris cache is kept in the NV store (R421). -/
def keepEphs (eph : List SnapEph) (s : State) : State := { s with upd := { s.upd with nv := { s.upd.nv with ephs := eph } } }

/-- R106 to R115, R122: the oldest epoch not yet published is checked and published. With it the base ephemerides are new: where
the satellites are (`sats`), and what is predicted of them at each machine (`eph`, R101). -/
def execBasePublish (sats : List SatPos) (eph : List SnapEph) (s : State) : Out :=
  .next (match s.ref.epochs.find? (fun p => !p.published) with
    | none => s
    | some p =>
      let s := surveyEpoch p sats s
      let old := s
      let r := checksOf s p sats
      let c := r.1
      let s := setRef { s.ref with ambs := r.2 } s
      let s := (List.range (gradeAnts s)).foldl (antEpoch p c old) s
      let prim := primaryOf s p
      let moved := decide (prim ≠ s.ref.primary)
      let xchk := match prim with | some n => (testedPairs c n).isEmpty | none => false
      let s := setRef { s.ref with primary := prim, noXchk := xchk } s
      let change := moved || decide (p.altered ≠ 0)
      let s := if change then refChange p.altered moved s else s
      let ins := (List.range (gradeAnts s)).filter (fun n => decide ((refAnt s n).state = .inService))
      let sigs := p.sigs.filter (fun o => ins.contains o.ant)
      let p' := { p with published := true, refChange := change, inService := ins, sats := sats, sigs := sigs }
      openGates p.e (keepEphs eph (setRef { s.ref with ephs := eph, epochs := s.ref.epochs.map (fun q => if q.e = p.e then p' else q) } s)))

/-- R122: the sets are kept while device time lies in [e, e + 2 s). -/
def execBaseDiscard (s : State) : Out :=
  .next (setRef { s.ref with epochs := s.ref.epochs.filter (fun p => decide (p.e * tNs ≤ s.tim.now) && decide (s.tim.now < p.e * tNs + 2 * tSec)) } s)

/-- R131: NEXT_LEAP_S replaces LEAP_S. -/
def execLeapApply (s : State) : Out :=
  let at_ := (rd s Reg.REF_LEAP_AT).toNat
  .next (
    if at_ ≠ 0 ∧ near32 s.tim.now at_ 0 ≤ (s.tim.now : Int) then
      let a := Reg.REF_TIME_CFG
      let next := fld s a 15 8
      wrBoth Reg.REF_LEAP_AT 0 (wrShadow a (setBits (shadow s a) 7 0 next) (wr a (setBits (rd s a) 7 0 next) s))
    else s)

/-! ### Stream epochs (R127, R128) -/

/-- A stream transmits at all (R123). -/
def streamOn (s : State) (k : Nat) : Bool := decide (k < 16) && flag s (Reg.REF_STREAM_CFG k) 0 && formMode s

/-- The period of a stream's observation epochs, in ns, no shorter than the formation period; none when off. -/
def streamNs (s : State) (k : Nat) : Option Nat :=
  let hz := obsHz (fld s (Reg.REF_STREAM_CFG k) 3 1)
  if hz = 0 then none else some (max (1000000000 / hz) (formNs s))

def isObsEpoch (s : State) (k e : Nat) : Bool := match streamNs s k with | some p => decide (e % p = 0) | none => false

/-- MSG_MASK bit. -/
def msgOn (s : State) (k b : Nat) : Bool := flag s (Reg.REF_STREAM_MSG_MASK k) b

/-- Station messages and message 1230 fall due at a whole second (R128). -/
def stationDue (s : State) (k sec : Nat) : Bool :=
  decide (sec % max 1 (fld s (Reg.REF_STREAM_STATION k) 20 12) = 0) && (List.range 5).any (fun i => msgOn s k (12 + i))
def biasDue (s : State) (k sec : Nat) : Bool := decide (sec % max 1 (fld s (Reg.REF_STREAM_STATION k) 29 21) = 0) && msgOn s k 17

/-- The state of a stream's source; DOWN where there is none. -/
def srcState (s : State) (k : Nat) : AntState := match streamSrc s k with | some n => (refAnt s n).state | none => .down

/-- The earliest stream epoch of stream `k` after the one handled last, in ns: an observation epoch that has been published,
or the current whole second with a message due, once its base epoch is published or 3 ms have passed. -/
def streamDue (s : State) (k : Nat) : Option Nat :=
  let last := (stream s k).last
  let secNs := nsOf s.tim.now / 1000000000 * 1000000000
  let sec := secNs / 1000000000
  let obs := (s.ref.epochs.filter (fun p => p.published && decide (last < p.e) && isObsEpoch s k p.e)).map (·.e)
  let settled := s.ref.epochs.any (fun p => decide (p.e = secNs) && p.published) || decide (secNs * tNs + 3 * tMs ≤ s.tim.now)
  let whole := if last < secNs ∧ (stationDue s k sec || biasDue s k sec) = true ∧ settled = true then [secNs] else []
  (obs ++ whole).foldl (fun b e => match b with | none => some e | some x => some (min x e)) none

/-! ### Messages (R125 to R132) -/

/-- A signal that MSM messages carry (Table 4.5). -/
def msmSignal (o : BaseSig) : Bool := match signalKind o.kind with | some x => x.msm | none => false

/-- The signals of a legacy message (R126): of satellites that have an L1 signal. -/
def legacySigs (l : List BaseSig) : List BaseSig :=
  l.filter (fun o => (legacyL1 o || legacyL2 o) && l.any (fun x => legacyL1 x && decide (x.sat = o.sat)))

/-- The observation messages in ascending number: MSG_MASK bit, message, GNSS (Table 4.4). -/
def obsMessages : List (Nat × Nat × Nat) :=
  [(0, 1004, 0), (1, 1012, 1), (2, 1074, 0), (3, 1077, 0), (4, 1084, 1), (5, 1087, 1), (6, 1094, 2), (7, 1097, 2),
   (8, 1114, 3), (9, 1117, 3), (10, 1124, 4), (11, 1127, 4)]

/-- Cells of an MSM message: satellites × signals present (R129). -/
def cellCount (l : List BaseSig) : Nat := (satsOf l).length * (sigsOf l).length

/-- Takes satellites in ascending order while the limit allows (R129): the part, and what is left. -/
def takePart (legacy : Bool) (l : List BaseSig) : List Nat → List BaseSig → List BaseSig × List BaseSig
  | [], part => (part, [])
  | k :: ks, part =>
    let more := part ++ l.filter (fun o => decide (o.sat = k))
    let fits := if legacy then decide ((satsOf more).length ≤ 31) else decide (cellCount more ≤ 64)
    if fits || part.isEmpty then takePart legacy l ks more
    else (part, l.filter (fun o => (k :: ks).contains o.sat))

/-- The parts of an observation message. -/
def splitParts (legacy : Bool) : Nat → List BaseSig → List (List BaseSig)
  | 0, _ => []
  | n + 1, l => if l.isEmpty then [] else let p := takePart legacy l (satsOf l) []; p.1 :: splitParts legacy n p.2

/-- The time fields of an observation message of epoch `e` ns (Table 4.6). -/
def timeFields (s : State) (number gnss e : Nat) : List (Nat × Int) :=
  let sec := e / 1000000000
  let ms := e % 1000000000 / 1000000
  let gps := sec % 604800 * 1000 + ms
  let glo := sec + 10800 - fld s Reg.REF_TIME_CFG 7 0
  match gnss with
  | 0 => [(4, gps)]
  | 1 =>
    let day : List (Nat × Int) := [(34, ((glo % 86400 * 1000 + ms : Nat) : Int))]
    if number = 1012 then day else (416, ((glo / 86400 % 7 : Nat) : Int)) :: day
  | 2 => [(248, gps)]
  | 3 => [(428, gps)]
  | _ => [(427, (((gps + 604800000 - 14000) % 604800000 : Nat) : Int))]

/-- Header fields of an observation message (Table 4.6). -/
def obsFields (s : State) (k number gnss e : Nat) (more : Bool) : List (Nat × Int) :=
  let head : List (Nat × Int) := (3, (fld s (Reg.REF_STREAM_STATION k) 11 0 : Nat)) :: timeFields s number gnss e
  let last : Int := (b2n more : Nat)
  let clock : Int := if s.crp.mode = .holdover then 2 else 1
  match number with
  | 1004 => head ++ [(5, last), (7, 0), (8, 0)]
  | 1012 => head ++ [(5, last), (36, 0), (37, 0)]
  | _ => head ++ [(393, last), (409, (s.ref.iods : Nat)), (411, 1), (412, clock), (417, 0), (418, 0)]

/-- A text of an antenna's record (Table 4.7): length and characters from byte `o`. -/
def antText (s : State) (n o : Nat) : List Byte :=
  let b := (List.range 16).flatMap (fun i => leBytes 4 (rd s (Reg.REF_ANT_TEXT n i)).toNat)
  (b.drop (o + 1)).take (leAt b o 1)

/-- Decimal text of a number below 1,000,000, and 16 hexadecimal digits. -/
def decText (n : Nat) : List Byte :=
  let d := [100000, 10000, 1000, 100, 10, 1].map (fun p => n / p % 10)
  ((d.take 5).dropWhile (fun x => x = 0) ++ d.drop 5).map (fun x => BitVec.ofNat 8 (48 + x))
def hexText (v : Nat) : List Byte :=
  (List.range 16).map (fun i => let x := v / 16 ^ (15 - i) % 16; BitVec.ofNat 8 (if x < 10 then 48 + x else 55 + x))

/-- "DREALE LTX-960L" or "DREALE LTX-960S" (Table 4.6, DF228). -/
def receiverText (s : State) : List Byte :=
  [0x44, 0x52, 0x45, 0x41, 0x4C, 0x45, 0x20, 0x4C, 0x54, 0x58, 0x2D, 0x39, 0x36, 0x30,
   (match s.grade with | .l => 0x4C | .s => 0x53)]

/-- The ACTIVE image version as "major.minor.patch". -/
def versionText (s : State) : List Byte :=
  let v := activeVersion s
  decText (bits v 31 24) ++ [0x2E] ++ decText (bits v 23 16) ++ [0x2E] ++ decText (bits v 15 0)

/-- A station message of stream `k` for antenna `n` (Table 4.6). -/
def stationMsg (s : State) (k n number : Nat) : RtcmMsg :=
  let id : Int := (fld s (Reg.REF_STREAM_STATION k) 11 0 : Nat)
  let any (l : List Nat) : Int := (b2n (l.any (msgOn s k)) : Nat)
  let xyz (i : Nat) : Int := signed 64 (rd64 s (Reg.REF_ANT_COORD n (2 * i)))
  let arp : List (Nat × Int) := [(3, id), (21, 0), (22, any [0, 2, 3]), (23, any [1, 4, 5]), (24, any [6, 7]), (141, 0), (142, 1),
    (364, 1), (25, xyz 0), (26, xyz 1), (27, xyz 2)]
  let setup : List (Nat × Int) := [(3, id), (31, (fld s (Reg.REF_ANT_CFG n) 11 4 : Nat))]
  match number with
  | 1005 => ⟨1005, arp, [], []⟩
  | 1006 => ⟨1006, arp ++ [(28, ((fld s (Reg.REF_ANT_HEIGHT n) 15 0 : Nat) : Int))], [], []⟩
  | 1007 => ⟨1007, setup, [(30, antText s n 0)], []⟩
  | 1008 => ⟨1008, setup, [(30, antText s n 0), (33, antText s n 32)], []⟩
  | _ => ⟨1033, setup, [(30, antText s n 0), (33, antText s n 32), (228, receiverText s), (230, versionText s),
      (232, hexText (s.upd.identity.toNat % 2 ^ 64))], []⟩

/-- Message 1230 (R132). -/
def biasMsg (s : State) (k : Nat) : RtcmMsg :=
  let l1 := fld s Reg.REF_GLO_BIAS 15 0
  let l2 := fld s Reg.REF_GLO_BIAS 31 16
  let mask := 8 * b2n (decide (l1 ≠ 0x8000)) + 2 * b2n (decide (l2 ≠ 0x8000))
  ⟨1230, [(3, ((fld s (Reg.REF_STREAM_STATION k) 11 0 : Nat) : Int)), (421, 0), (422, ((mask : Nat) : Int))] ++
    (if l1 = 0x8000 then [] else [(423, signed 16 l1)]) ++ (if l2 = 0x8000 then [] else [(425, signed 16 l2)]), [], []⟩

/-- The observation messages of one stream epoch, before DF005 and DF393: (number, GNSS, its cells). -/
def obsParts (s : State) (k : Nat) (sigs : List BaseSig) : List (Nat × Nat × List BaseSig) :=
  obsMessages.flatMap (fun m =>
    let glo := decide (m.2.2 = 1)
    if !msgOn s k m.1 || (glo && !flag s Reg.REF_TIME_CFG 16) then []
    else
      let legacy := decide (m.2.1 = 1004) || decide (m.2.1 = 1012)
      let all := sigs.filter (fun o => decide (o.gnss = m.2.2))
      let mine := if legacy then legacySigs all else all.filter msmSignal
      (splitParts legacy 256 mine).map (fun p => (m.2.1, m.2.2, p)))

/-- Marks each observation message but the last as followed by another. -/
def finishObs (s : State) (k e : Nat) : List (Nat × Nat × List BaseSig) → List RtcmMsg
  | [] => []
  | m :: l => ⟨m.1, obsFields s k m.1 m.2.1 e (!l.isEmpty), [], m.2.2⟩ :: finishObs s k e l

/-- The messages of stream `k` at epoch `e` ns, in the order of R128. `force` adds 1005 and 1006 (R109). -/
def streamMsgs (s : State) (k e : Nat) (force : Bool) : List RtcmMsg :=
  match streamSrc s k, srcState s k with
  | some n, .inService | some n, .held =>
    let whole := decide (e % 1000000000 = 0)
    let sec := e / 1000000000
    let sigs := match s.ref.epochs.find? (fun p => decide (p.e = e) && p.published) with
      | some p => p.sigs.filter (fun o => decide (o.ant = n))
      | none => []
    let obs := if isObsEpoch s k e && decide (srcState s k = .inService) then finishObs s k e (obsParts s k sigs) else []
    let bias := if whole && biasDue s k sec then [biasMsg s k] else []
    let station := whole && stationDue s k sec
    let sta (b number : Nat) (forced : Bool) : List RtcmMsg := if msgOn s k b && (station || forced) then [stationMsg s k n number] else []
    obs ++ bias ++ sta 12 1005 force ++ sta 13 1006 force ++ sta 14 1007 false ++ sta 15 1008 false ++ sta 16 1033 false
  | _, _ => []

/-! ### Delivery (R133 to R136) -/

/-- Whole frames packed into datagrams of at most `max` bytes. -/
def packFrames (max : Nat) : List (List Byte) → List Byte → List (List Byte)
  | [], cur => if cur.isEmpty then [] else [cur]
  | f :: l, cur =>
    if cur.isEmpty then packFrames max l f
    else if cur.length + f.length ≤ max then packFrames max l (cur ++ f)
    else cur :: packFrames max l f

/-- The datagrams of a stream epoch, with trailers where TAG_EN is set (Table 4.8). -/
def datagrams (s : State) (k seq : Nat) (frames : List (List Byte)) : List (List Byte) :=
  let tagged := flag s (Reg.REF_STREAM_CFG k) 9
  let key := keyOf s (fld s (Reg.REF_STREAM_CFG k) 15 10)
  let max := fld s (Reg.REF_STREAM_DGRAM k) 13 0 - (if tagged then 16 else 0)
  let l := packFrames max frames []
  (List.range l.length).map (fun i =>
    let d := l.getD i []
    if tagged then
      let body := d ++ leBytes 1 k ++ leBytes 1 (b2n (decide (i + 1 = l.length))) ++ zeros 2 ++ leBytes 4 (seq + i)
      body ++ tag key body 8
    else d)

/-- The stream's key is one that tags datagrams (R135). -/
def streamKeyOk (s : State) (k : Nat) : Bool :=
  let n := fld s (Reg.REF_STREAM_CFG k) 15 10
  keyUsable s n 1 && decide ((keySlot s n).type = 0)

/-- Adds one to a 16-bit half of REF_STREAM_n_COUNT. -/
def streamCount (k lo : Nat) (s : State) : State := incHalf (Reg.REF_STREAM_COUNT k) lo s

/-- The UDP side: the state, whether the epoch was lost there. Only a stream with TAG_EN needs its key (R135; DEDUCED, assumption
228). -/
def deliverUdp (k : Nat) (frames : List (List Byte)) (s : State) : State × Bool :=
  let x := stream s k
  let n := fld s (Reg.REF_STREAM_ROUTE k) 1 0
  if !flag s (Reg.REF_STREAM_CFG k) 8 || decide (s.crp.mode = .standby) then (s, false)
  else if flag s (Reg.REF_STREAM_CFG k) 9 && !streamKeyOk s k then
    (sticky Reg.REF_STICKY 9 (setStream k { x with keyWait := true } s), true)
  else
    let s := setStream k { x with keyWait := false } s
    let l := datagrams s k x.seq frames
    if !portServes s n || !(netPort s n).link || decide (256 < (netPort s n).q4.length + l.length) then (sticky Reg.REF_STICKY 8 s, true)
    else
      let dst := (List.range 4).flatMap (fun i => leBytes 4 (rd s (Reg.REF_STREAM_DST_ADDR k i)).toNat)
      let udp := Reg.REF_STREAM_UDP k
      let s := l.foldl (fun s d =>
        (enqueue n 4 ⟨.stream, udpFrame s n dst (fld s udp 15 0) (fld s udp 31 16) 0 d, none, 0, k, none, 0, none⟩ s).1) s
      let s := if flag s (Reg.REF_STREAM_CFG k) 9 then perf 0x127 l.length s else s
      (setStream k { stream s k with seq := (x.seq + l.length) % 2 ^ 32 } s, false)

/-- The ring side. -/
def deliverRing (k e : Nat) (frames : List (List Byte)) (s : State) : State × Bool :=
  if !flag s (Reg.REF_STREAM_CFG k) 7 then (s, false)
  else
    let r := rxRecord (fld s (Reg.REF_STREAM_ROUTE k) 9 2) 2 k (e % (2 ^ 32 * 1000000000)) frames.flatten s
    if r.2 then (r.1, false) else (sticky Reg.REF_STICKY 8 r.1, true)

/-- One stream epoch is encoded and delivered (R128 to R136). -/
def encodeStream (k e : Nat) (s : State) : State :=
  let x := stream s k
  let held := decide (srcState s k ≠ .down) && decide (srcState s k ≠ .excluded) && !flag s Reg.REF_TIME_CFG 16 &&
    (msgOn s k 1 || msgOn s k 4 || msgOn s k 5)
  let s := stickyIf held Reg.REF_STICKY 10 s
  let msgs := streamMsgs s k e x.force
  let s := setStream k { x with gloHeld := held, force := x.force && msgs.isEmpty } s
  if msgs.isEmpty then s
  else
    let frames := msgs.map rtcmFrame
    let a := deliverRing k e frames s
    let b := deliverUdp k frames a.1
    let any := flag s (Reg.REF_STREAM_CFG k) 7 || (flag s (Reg.REF_STREAM_CFG k) 8 && decide (s.crp.mode ≠ .standby))
    if a.2 || b.2 then streamCount k 16 b.1
    else if any then perf 0x112 1 (streamCount k 0 b.1)
    else b.1

/-- R127, R128, R255: a stream epoch falls due. Its ENCODE job enters; while the stream's last one is still held the epoch is
skipped. In STANDBY, where no ENCODE job runs (R256), the ring is served at once (R123). -/
def execStreamEpochDue (k : Nat) (s : State) : Out :=
  .next (
    if !streamOn s k then s
    else match streamDue s k with
      | none => s
      | some e =>
        let s := setStream k { stream s k with last := e } s
        if srcState s k = .down ∨ srcState s k = .excluded then s
        else if s.crp.mode = .standby then encodeStream k e s
        else if (flowJobs s (1024 + k)).isEmpty then
          addJob .encode (1024 + k) (levelFor s .encode 0) ((e * tNs : Nat) : Int) 0 none (.stream k e) none s
        else inc (Reg.DSP_CNT 4) 1 (sticky Reg.DSP_STICKY 2 (streamCount k 16 s)))

/-- R128: the ENCODE job next in turn. A stream that has stopped transmitting since (R123) delivers nothing. -/
def execEncode (s : State) : Out :=
  .next (withJob 3 (fun j => decide (j.kind = .encode))
    (fun j s => match j.work with
      | .stream k e => endJob j.id (if streamOn s k then encodeStream k e s else s)
      | _ => endJob j.id s) s)

end Sys2Proof.Machine
end

