-- ==== Sys2Proof/Machine/Polestar.lean ====
section
/-! DEFINITION. Polestar (chapter 6): the parse jobs, the fix jobs on their engines, residue mismatches, and the snapshot
solve (R101 to R104, R235). -/
namespace Sys2Proof.Machine

/-! ### Parse jobs -/

/-- The job that the parsers take next, where it parses a frame of a PLP type. -/
def withParse (type : Nat) (body : Job → List Byte → State → State) (s : State) : State :=
  withJob 0 (fun j => match j.work with | .frame _ b => decide (plpType b = type) | _ => false)
    (fun j s => match j.work with | .frame _ b => body j b s | _ => s) s

/-- A base epoch whose observables are published. -/
def basePublished (s : State) (e : Nat) : Bool := s.ref.epochs.any (fun p => decide (p.e = e) && p.published)

/-- The gate of a FIX job (R169, R248). -/
def fixGate (s : State) (e : Nat) : Option Int :=
  if e % formNs s = 0 ∧ basePublished s e = false ∧ s.tim.now < e * tNs + 3 * tMs then some ((e * tNs + 3 * tMs : Nat) : Int) else none

/-- Table 6.3: the code with which an epoch is refused. -/
def obsRefused (s : State) (m e : Nat) (tRx : Int) : Option Nat :=
  let x := fixSlot s (mach s m).entry.slot
  let er : Int := ((e * tNs : Nat) : Int)
  if tRx ≤ er then some 0x50
  else if ((fld s Reg.PST_AGE_CFG 21 11 * tMs : Nat) : Int) ≤ tRx - er then some 6
  else if x.run = true ∧ x.owner = m ∧ e ≤ x.epoch then some 6
  else none

/-- SEQ of the last part of an epoch. -/
def lastSeq (parts : List (Nat × List Byte)) : Nat := match parts.getLast? with | some p => plpSeq p.2 | none => 0

/-- Generation of a frame that a job holds (R153). -/
def partsGen (parts : List (Nat × List Byte)) : Nat := match parts.head? with | some p => plpGen p.2 | none => 2

/-- R168, R169: an OBS epoch is refused, or matched to its base epoch unless it waits for that. -/
def execObsParse (s : State) : Out :=
  .next (withJob 0 (fun j => match j.work with | .obs _ _ _ => decide (j.kind = .parse) | _ => false)
    (fun j s => match j.work with
      | .obs e parts _ =>
        match obsRefused s j.flow e j.stamp with
        | some code => slotSettle j.flow (endJob j.id (sendAckGen j.flow (partsGen parts) 1 code (lastSeq parts) 0 (sticky Reg.PST_STICKY 7 s)))
        | none =>
          let gate := fixGate s e
          succeed j.id .fix gate none (.obs e parts (if gate.isSome then none else some (baseFor s e))) s
      | _ => s) s)

/-- The machine's last position, in 0.1 mm (R101). -/
def setLastPos (m : Nat) (p : Int × Int × Int) (s : State) : State := setMach m { mach s m with lastPos := some p } s

/-- R227, R153: a POS frame too old, from the future or of a generation that the machine has left queues no update. -/
def execPosParse (s : State) : Out :=
  .next (withParse 2 (fun j b s =>
    let e := near32 s.tim.now (plpEpochS b) (plpEpochNs b)
    if j.tRx ≤ e ∨ ((fld s Reg.CHT_POS_CFG 10 0 * tMs : Nat) : Int) ≤ j.tRx - e then endJob j.id (sticky Reg.CHT_STICKY 10 s)
    else if plpGen b ≠ machGen s j.flow then endJob j.id s
    else
      let h : HaloIn := ⟨signed 64 (leAt b 24 8), signed 64 (leAt b 32 8), signed 64 (leAt b 40 8), e, leAt b 62 1, leAt b 64 4,
        signed 32 (leAt b 48 4), signed 32 (leAt b 52 4), decide (leAt b 63 1 % 2 = 1), true, leAt b 72 2, j.tRx, plpGen b⟩
      succeed j.id .halo none none (.halo h) (setLastPos j.flow (h.x, h.y, h.z) s)) s)

/-- R260, R290: the report is kept; NIGHTFALL_SEEN; an IDLE report that is fresh queues an ALLOT. -/
def execStatusParse (s : State) : Out :=
  .next (withParse 8 (fun j b s =>
    let m := j.flow
    let e := near32 s.tim.now (plpEpochS b) (plpEpochNs b)
    let r : StatusRep := ⟨leAt b 24 1, leAt b 25 1 % 32, leAt b 26 1, leAt b 27 1, leAt b 30 2, leAt b 32 2, leAt b 36 4, leAt b 40 4, j.tRx.toNat⟩
    let s := setMach m { mach s m with status := r :: (mach s m).status.filter (fun o => decide (r.time ≤ o.time + 2 * tSec)) } s
    let s := seenRelease m (decide (r.flags % 2 = 1)) s
    if r.state = 0 ∧ j.tRx - ((2 * tSec : Nat) : Int) ≤ e ∧ e < j.tRx then succeed j.id .allot none none (.allot r.taskId e.toNat (plpGen b)) s
    else endJob j.id s) s)

/-- R263, R290: ACKs of TASK frames go to the task board, those of RELEASE frames with STATUS OK to Nightfall. -/
def execAckParse (s : State) : Out :=
  .next (withParse 10 (fun j b s =>
    let type := leAt b 24 1
    let status := leAt b 25 1
    let detail := leAt b 32 4
    let s := if type = 7 then taskAck j.flow detail status s else if type = 6 ∧ status = 0 then releaseAcked j.flow detail s else s
    endJob j.id s) s)

/-! ### Engines -/

/-- What the fix job of machine `m` fetches at its start (R165, R169, R201). `base` is the base epoch matched; it may be gone by
now (R122). -/
def fixFetch (s : State) (m e : Nat) (parts : List (Nat × List Byte)) (base : Option Nat) : FixStart :=
  let x := (mach s m).entry
  ⟨x.slot, fixSlot s x.slot, m, e, x, s.bank.regs.filter (fun r => inSets 2 r.1),
   s.ref.epochs.find? (fun p => p.published && decide (some p.e = base)), s.ref.primary, s.ref.ambs, obsSigs parts⟩

/-- R165: engine `e` takes the next FIX or FIX_RETRY job that does not exclude it. -/
def execFixJob (e : Nat) (s : State) : Out :=
  .next (
    if !engineFree s e then s
    else match pickJob s 1 (fun j => decide (j.excluded ≠ some e)) with
      | none => s
      | some j =>
        match j.work with
        | .obs er parts base =>
          setEngine e { engine s e with job := some (j.id, fixFetch s j.flow er parts (base.getD (baseFor s er))) }
            (updJob j.id (fun j => { j with inService := true, engine := some e }) (countInherited j s))
        | _ => endJob j.id s)

/-- R248: gates that e_r + 3 ms has opened. -/
def execFixGateOpen (s : State) : Out :=
  .next (setDsp { s.dsp with jobs := s.dsp.jobs.map (fun j =>
    match j.gate with
    | some t => if j.kind = .fix ∧ t ≤ (s.tim.now : Int) then openGate s j else j
    | none => j) } s)

/-! ### The result (R189 to R193) -/

/-- The body of a FIX frame (Tables 5.9, 5.10). -/
def fixBody (r : FixResult) (late snapshot : Bool) : List Byte :=
  leBytes 8 (wrapInt 64 r.x) ++ leBytes 8 (wrapInt 64 r.y) ++ leBytes 8 (wrapInt 64 r.z) ++ leBytes 4 (wrapInt 32 r.ve) ++
  leBytes 4 (wrapInt 32 r.vn) ++ leBytes 4 (wrapInt 32 r.vu) ++ leBytes 2 r.heading ++ leBytes 1 r.state ++
  leBytes 1 (b2n r.velValid + 2 * b2n r.headValid + 4 * b2n late + 8 * b2n snapshot + 16 * b2n r.headValid) ++
  leBytes 4 r.plh ++ leBytes 4 r.plv ++ leBytes 2 r.age ++ leBytes 2 (wrapInt 16 r.pitch) ++ leBytes 1 r.ref ++ leBytes 1 r.nsat ++ zeros 2

/-- Sends a FIX frame of a generation for an epoch in ns (R191). -/
def sendFix (m gen e : Nat) (r : FixResult) (late snapshot : Bool) (s : State) : State :=
  (sendMachGen m gen 3 3 (e / 1000000000) (e % 1000000000) .fix 0 (fixBody r late snapshot) s).1

/-- A fix job completes at this instant: counters, LATE, PST_LAT_MAX. -/
def fixCounted (r : FixResult) (late : Bool) (tRx : Int) (s : State) : State :=
  let us := min (((s.tim.now : Int) - tRx).toNat / tUs) 0xFFFF
  let s := if (rd s Reg.PST_LAT_MAX).toNat < us then wr Reg.PST_LAT_MAX (BitVec.ofNat 32 us) s else s
  let s := perf 0x130 1 (inc (Reg.PST_CNT (4 - r.state)) 1 (inc (Reg.PST_CNT 0) 1 s))
  let s := if r.state = 3 then perf 0x131 1 s else s
  if late then perf 0x132 1 (stickyCount Reg.PST_STICKY 3 (Reg.PST_CNT 5) s) else s

/-- t_rx + FIX_BUDGET_US, of the set at the start, has been reached (R193). -/
def fixLate (s : State) (f : FixStart) (tRx : Int) : Bool :=
  decide (tRx + ((pstFld f Reg.PST_BUDGET 15 0 * tUs : Nat) : Int) ≤ (s.tim.now : Int))

/-- The write-back of a job (R165). A reset that waited for the job, and an owner that has left central-fix service, empty the slot
after it (R202, R204, Table 6.1). -/
def fixWriteBack (f : FixStart) (x : Slot) (s : State) : State :=
  let e := (mach s f.machine).entry
  putSlot f.slot (if (fixSlot s f.slot).resetWaits || decide (e.gen ≠ 2) || !e.slotValid then emptied f.slot x
    else { x with resetWaits := false }) s

/-- R191: the fix job of engine `e` completes. A job of a generation that the machine has left queues no halo update (R153). -/
def execFixJobComplete (e : Nat) (s : State) : Out :=
  .next (match (engine s e).job with
    | none => s
    | some (id, f) =>
      let s1 := surveyEngine (setEngine e { engine s e with job := none } s)
      match s.dsp.jobs.find? (fun j => j.id = id) with
      | none => s1
      | some j =>
        match j.work with
        | .obs er parts _ =>
          let m := j.flow
          let d := fixDone f
          let r := d.result
          let late := fixLate s f j.stamp
          let s := fixWriteBack f d.slot s1
          let s := stickyIf (fixShared f) Reg.PST_STICKY 4 s
          let s := stickyIf d.stateLimit Reg.PST_STICKY 5 s
          let s := stickyIf d.switched Reg.PST_STICKY 8 s
          let s := if d.excluded then stickyCount Reg.PST_STICKY 6 (Reg.PST_CNT 7) s else s
          let s := sendFix m (partsGen parts) er r late false (fixCounted r late j.stamp s)
          let s := if r.state = 0 then s else setLastPos m (r.x, r.y, r.z) s
          if r.state = 0 ∨ late = true ∨ partsGen parts ≠ machGen s m then endJob id s
          else
            succeed id .halo none none (.halo ⟨r.x, r.y, r.z, ((er * tNs : Nat) : Int), r.state, r.plh, r.ve, r.vn, r.velValid, false, 0, j.tRx, partsGen parts⟩) s
        | _ => endJob id s1)

/-! ### Residue mismatches (R196 to R198) -/

/-- The second event of an engine within a second quarantines it. -/
def fixQuarantine (e : Nat) (s : State) : State :=
  let x := engine s e
  let second := match x.lastMismatch with | some t => decide (s.tim.now ≤ t + tSec) && decide (t < s.tim.now) | none => false
  if !second then setEngine e { x with lastMismatch := some s.tim.now } s
  else if flag s Reg.PST_QUAR e then s
  else
    record 0x11 e (leBytes 4 (rd s Reg.PST_MISMATCH_CNT).toNat)
      (sticky Reg.PST_STICKY 1 (wr Reg.PST_QUAR (setBits (rd s Reg.PST_QUAR) e e 1) s))

/-- A mismatch event on engine `e`: the job in service is retried, or ends with NONE when it was the retry. -/
def fixMismatch (e : Nat) (s : State) : State :=
  let s := fixQuarantine e (sticky Reg.PST_STICKY 0 (inc Reg.PST_MISMATCH_CNT 1 s))
  match (engine s e).job with
  | none => s
  | some (id, f) =>
    let s := surveyEngine (setEngine e { engine s e with job := none } s)
    match s.dsp.jobs.find? (fun j => j.id = id) with
    | none => s
    | some j =>
      if j.kind = .fix then perf 0x133 1 (inc (Reg.PST_CNT 6) 1 (succeed id .fixRetry none (some e) j.work s))
      else match j.work with
        | .obs er parts _ =>
          let r := resultNone (ageOf f) ((fixRef f).getD 0)
          let late := fixLate s f j.stamp
          let s := record 0x12 j.flow (leBytes 4 f.slot ++ timeBytes j.stamp.toNat) (sticky Reg.PST_STICKY 2 s)
          let s := sendFix j.flow (partsGen parts) er r late false (fixCounted r late j.stamp s)
          let s := if (fixSlot s f.slot).resetWaits then emptySlot f.slot false s else s
          endJob id s
        | _ => endJob id s

def execFixMismatchEvent (e : Nat) (s : State) : Out := .next (if fixUp s && decide (e < gradeEngines s) then fixMismatch e s else s)

/-- R509: PST_INJECT. -/
def execPstInject (w : Word) (s : State) : Out :=
  .next (
    if !fixUp s || decide (s.crp.mode ≠ .maintain) then s
    else if bits w 5 4 = 3 then sticky Reg.PST_STICKY 9 s
    else if bitAt w 31 && decide (bits w 5 4 ≠ 2) && decide (bits w 3 0 < gradeEngines s) then fixMismatch (bits w 3 0) s
    else s)

/-- R204: PST_SLOT_CMD. A standby keeps the mirrored slot (R334). -/
def execPstSlotReset (w : Word) (s : State) : Out :=
  .next (
    if !fixUp s || !bitAt w 8 || decide (gradeSlots s ≤ bits w 7 0) then s
    else if s.crp.mode = .standby then paiSticky 11 s
    else resetSlot (bits w 7 0) s)

/-- R204: PST_CMD.CLEAR_LAT. -/
def execPstClearLat (s : State) : Out := .next (if fixUp s then wr Reg.PST_LAT_MAX 0 s else s)

/-! ### Snapshot solve (R101 to R104, R235) -/

/-- The result of a snapshot that was solved: DEGRADED, at rest, no heading. Its velocity is sent as not valid (DESIGN CHOICE,
assumption 188); AGE and REF_ANT, which the spec does not give a snapshot, are free values. -/
def snapResult (x : SnapEst) (pl : Nat × Nat) (used n : Nat) : FixResult :=
  ⟨1, x.x, x.y, x.z, 0, 0, 0, false, false, 0, 0, pl.1 % 2 ^ 32, pl.2 % 2 ^ 32, Config.free n % 65536, Config.free (n + 1) % 4, used % 256⟩

/-- The PARK that a solved snapshot asks for; a request that is refused records its status (R223). -/
def snapPark (j : Job) (v : Snap) (r : FixResult) (s : State) : State :=
  let m := v.machine
  let c := chtMach s m
  let finish (code : Nat) (s : State) : State := endJob j.id (endSnap v code s)
  if c.epoch.isSome ∧ s.tim.now < c.expiry then finish 0x40 s
  else match s.cht.active with
    | none => finish 0 s
    | some g =>
      let segs := nearSegs g (planePos g r.x r.y r.z) (v.half + r.plh)
      let items := snapItems s m segs
      if 64 < segs.length then stickyCount Reg.CHT_STICKY 2 (Reg.CHT_CNT 2) (finish 4 (setReason m 4 s))
      else if items.isEmpty || !chartUp s then finish 0 s
      else sendRequest items (.snap m) j.id s

/-- An ephemeris is inside its fit interval at the snapshot's capture time. -/
def ephFits (v : Snap) (x : SnapEph) : Bool := decide (x.fromS ≤ v.startS) && decide (v.startS < x.toS)

/-- The declared capture time in ns. -/
def snapTime (v : Snap) : Nat := v.startS * 1000000000 + v.startNs

/-- The search for one signal of a snapshot at its predicted Doppler: SOURCE 1, PRIO 1, no time limit. -/
def snapSearch (v : Snap) (tag : Nat) (x : SnapEph) (doppler : Word) : Search :=
  ⟨tag, 1, x.band.toNat + 16 * x.coh.toNat + 128, v.handle, 0, x.codeBase.toNat, x.codeLen.toNat, x.chipRate.toNat,
   (x.offset + doppler).toNat, x.binHz.toNat, x.nbins.toNat, x.nc.toNat, x.resultAddr.toNat, 0, none⟩

/-- The position that a solve starts from (R101): the machine's last, of a fix, a POS frame or a snapshot; else the primary reference
antenna's, or antenna 0's where there is none (DESIGN CHOICE, assumption 187). -/
def snapPrior (s : State) (m : Nat) : Int × Int × Int :=
  let n := s.ref.primary.getD 0
  let c (i : Nat) : Int := signed 64 (rd64 s (Reg.REF_ANT_COORD n (2 * i)))
  (mach s m).lastPos.getD (c 0, c 1, c 2)

/-- The signals that a solve expects, each with its Doppler (R101, item 1). -/
def snapSignals (s : State) (v : Snap) : List (SnapEph × Word) :=
  let p := snapPrior s v.machine
  (s.ref.ephs.filter (ephFits v)).filterMap (fun x => (Config.snapPredict x p.1 p.2.1 p.2.2 (snapTime v)).map (fun d => (x, d)))

/-- A search of snapshot `h` is queued or runs. -/
def snapSearching (s : State) (h : Nat) : Bool :=
  let mine (q : Search) : Bool := decide (q.source = 1) && decide (q.capture = h)
  s.acq.fifo0.any mine || s.acq.fifo1.any mine || s.acq.pipe.any (fun e => mine e.2)

/-- The snapshot of a job in the store. -/
def jobSnap (s : State) (j : Job) : Option Snap :=
  match j.work with | .snap h => (s.acq.snaps.find? (fun e => e.1 = h)).map (·.2) | _ => none

/-- The PARSE of a complete snapshot, where that is the parsers' next job, hands over to its SNAP_SOLVE (R247). -/
def snapParse (s : State) : State :=
  withJob 0 (fun j => match j.work with | .snap _ => true | _ => false)
    (fun j s => match jobSnap s j with
      | some _ => succeed j.id .snapSolve none none j.work s
      | none => endJob j.id s) s

/-- The next solve starts (R101): it fetches what it needs of the sets (R420) and submits its searches. The 105 °C stage stops
starts (R27). -/
def snapStart (s : State) : State :=
  if hot s then s
  else withJob 4 (fun j => decide (j.kind = .snapSolve)) (fun j s =>
    match jobSnap s j with
    | none => endJob j.id s
    | some v =>
      let l := snapSignals s v
      let s := putSnap { v with solving := true, ir := fld s Reg.PST_INT_CFG 3 0, half := classHalf s (mach s v.machine).entry.cls,
                                prior := snapPrior s v.machine, asked := l.map (·.1), results := [] } (updJob j.id (fun j => { j with inService := true }) s)
      (List.zip (List.range l.length) l).foldl (fun s x => enqueueSearch (snapSearch v x.1 x.2.1 x.2.2) s) s) s

/-- A solve in service whose searches have ended and that waits for no ledger answer. -/
def snapReady (s : State) (j : Job) : Bool :=
  decide (j.kind = .snapSolve) && j.inService && !s.cht.reqs.any (fun r => decide (r.job = j.id)) &&
  (match j.work with | .snap h => !snapSearching s h | _ => true)

/-- Results that found a signal: bytes 2 and 3, STATUS OK or SHORT_CAPTURE with a peak. -/
def snapFound (l : List (List Byte)) : Nat :=
  (l.filter (fun b => (decide (leAt b 2 1 = 0) || decide (leAt b 2 1 = 0x42)) && decide (0 < leAt b 3 1))).length

/-- R101 to R104: the solution of one job, from its searches' results; fewer than 6 signals, or an offset beyond 2 s, is none. It is
answered under the generation of its frames (R153). -/
def snapFinish (s : State) : State :=
  match s.dsp.jobs.find? (snapReady s) with
  | none => s
  | some j =>
    match jobSnap s j with
    | none => endJob j.id s
    | some v =>
      let n := s.free
      let x := Config.snapEst v.asked v.results v.prior.1 v.prior.2.1 v.prior.2.2 (snapTime v)
      let used := min x.used (snapFound v.results)
      let s := { s with free := n + 2 }
      if used < 6 ∨ 2000000 < x.offsetUs.natAbs then
        endJob j.id (endSnap v 0x41 (sendFix v.machine v.gen (snapTime v) (resultNone 0xFFFF 0) false true s))
      else
        let r := snapResult x (Config.snapLevels x v.asked v.ir) used n
        snapPark j v r (sendFix v.machine v.gen (snapTime v) r false true (setLastPos v.machine (r.x, r.y, r.z) s))

/-- R101: the stages of snapshot solves, each as far as it can go: a complete snapshot's parse, the start of the next solve,
the end of one whose searches have ended. -/
def execSnapSolve (s : State) : Out := .next (snapFinish (snapStart (snapParse s)))

end Sys2Proof.Machine
end

