-- ==== Sys2Proof/Machine/Pair.lean ====
section
/-! DEFINITION. The pair (chapter 11): Pulsar, claims, takeover and yielding, mirroring, handover. -/
namespace Sys2Proof.Machine

def setPai (p : Pai) (s : State) : State := { s with pai := p }

/-! ### Mirror sync (R331) -/

/-- The records of the whole mirrored state (Table 11.3). -/
def syncRecords (s : State) : List MirrorRec :=
  [.sync, .origin s.cht.originGen (originMs s) s.cht.rebaseEnd, .ledger [] s.cht.ivals] ++
  s.cht.mach.map (fun e => .chart e.1 e.2) ++
  s.mach.map (fun e => .machine e.1 e.2.entry e.2.txSeq e.2.seqLast e.2.resetSeq) ++
  s.pst.slot.map (fun e => .slot e.1 e.2) ++
  [.tasks s.tsk.tasks,
   .nightfall s.nfl.latch s.nfl.latchId s.nfl.trig s.nfl.first s.nfl.seen (nfOwn s) s.nfl.held (nfSeqs s),
   .keys (keyStates s), .cfg (s.bank.regs.filter (fun e => isMirroredReg e.1)), .graphId (rd s Reg.CHT_GRAPH_ID).toNat]

/-- The active unit starts a sync. -/
def startSync (s : State) : State :=
  if s.pai.pair && s.pai.active && s.pai.pathA.ok then
    (syncRecords s).foldl (fun s r => mirror r s) (setPai { s.pai with sync := 1 } s)
  else s

/-! ### Becoming active and standby (R336, R339) -/

/-- An antenna has ENABLE and COORD_VALID in the active REF set (Table 14.2). -/
def antQualifies (s : State) : Bool :=
  (List.range (gradeAnts s)).any (fun n => flag s (Reg.REF_ANT_CFG n) 0 && flag s (Reg.REF_ANT_CFG n) 1)

/-- The mode of a unit that serves: SERVE, SURVEY where no antenna qualifies, HOLDOVER with the time state. -/
def servingMode (s : State) : State :=
  let base : Mode := if antQualifies s then .serve else .survey
  if s.tim.state = .holdover then setMode .holdover (setCrp { s.crp with prev := base } s) else setMode base s

/-- Drives CLAIM_N low, which ends conditions 1 and 2 of R338, or releases it. -/
def claimDrive (s : State) : State :=
  if s.pai.claimDrive then s else emit (.pin 0 false) (setPai { s.pai with claimDrive := true, claimIn := false, splitLine := false } s)
def claimRelease (s : State) : State :=
  if s.pai.claimDrive then
    emit (.pin 0 true) (setPai { s.pai with claimDrive := false, claimIn := true, releasedAt := some s.tim.now } s)
  else s

/-- R343: the unit keeps the mirrored time state and its U, and a step that is announced or held. Where t_loss was set, which the
time-status word does not tell, it is this instant (assumption 233). -/
def adoptTime (s : State) : State :=
  match s.tim.mirror with
  | none => s
  | some w =>
    let u := w.u
    let s := setTim { s.tim with mirror := none, state := w.state, adopted := some s.tim.now } s
    if w.state = .holdover ∨ (w.state ≠ .free ∧ w.lossTiming = true) then
      setTim { s.tim with tLoss := some (s.tim.now : Int), u0 := u + 5 - stepTerm s } s
    else match w.state with
      | .locked => setTim { s.tim with tLoss := none, lastUnc := u + 5 - (adjNs s + stepTerm s) } s
      | .stepPending => setTim { s.tim with tLoss := none, lastUnc := u + 5 - stepTerm s } s
      | _ => setTim { s.tim with tLoss := none } s

/-- The number of the first frame of a latch whose launch lies after `now` (R282, R293). -/
def nextLaunch (t now : Nat) : Nat :=
  let d := now - (t + 100 * tUs)
  if now < t + 100 * tUs then 0
  else if d < tSec then d / (10 * tMs) + 1
  else 100 + (d - tSec) / (100 * tMs) + 1

/-- Item 2 of R339. -/
def advanceSeqs (s : State) : State :=
  let s := (s.mach.map (·.1)).foldl (fun s m => putMach m { mach s m with txSeq := ((mach s m).txSeq + 256) % 2 ^ 32 } s) s
  (List.range 4).foldl (fun s n => setPort n { netPort s n with nfSeq := ((netPort s n).nfSeq + 256) % 2 ^ 32 } s) s

/-- R293: the schedule goes on, ARMED returns to LATCHED. -/
def continueLatch (s : State) : State :=
  let n := s.nfl
  let latch : Latch := match n.latch with | .armed => .latched | l => l
  mirrorNfl (setNfl { n with latch := latch, nextK := nextLaunch n.trig s.tim.now } s)

/-- R256: a unit that becomes active starts with an empty dispatcher. The host commands that it held reached a unit in STANDBY, and each
completes NOT_ACTIVE, in order (R334, R360, R361; assumption 130). -/
def emptyDispatcher (s : State) : State :=
  let drop (s : State) (j : Job) : State :=
    let s := setDsp { s.dsp with jobs := s.dsp.jobs.filter (fun k => k.id ≠ j.id) } s
    flushLate (match j.cmd with | some c => complete c 0x70 [] (paiCount 7 1 s) | none => s)
  let s := s.dsp.jobs.foldl drop s
  setCht { s.cht with reqs := [] } s

/-- R339: the unit becomes active, and syncs its peer where path A is healthy (R331). `cause` is what the recorder entry carries: 1 the peer failed, 2 a start, 3 a
handover. -/
def takeover (cause : Nat) (s : State) : State :=
  let s := setPai { s.pai with active := true, starting := false, hushed := false, claimAt := none, handover := .none,
                               lostReady := none, returnOk := none, sync := 0, syncNfl := none } s
  let s := paiCount 2 1 (paiSticky 4 (emit (.pin 1 true) (emptyDispatcher s)))
  let s := servingMode (adoptTime (advanceSeqs s))
  let s := if chartUp s then lapseDue s else s
  let s := continueLatch s
  let s := setPai { s.pai with tAct := s.tim.now } s
  startSync (timCheckBound (record 0x38 0 (leBytes 1 cause ++ zeros 7 ++ timeBytes s.tim.now) s))

/-- Frames that a unit in STANDBY does not send (R149, R323): all but the host's own. -/
def standbyFrames (p : NetPort) : NetPort :=
  let keep (l : List TxFrame) : List TxFrame := l.filter (fun f => f.kind = .host)
  { p with q0 := keep p.q0, q1 := keep p.q1, q2 := keep p.q2, q3 := keep p.q3, q4 := keep p.q4, q5 := keep p.q5 }

/-- The unit is standby and not ready: it holds no job but the host's own, and no request (R256). Mismatches that it has then show at once
(R335). -/
def toStandby (s : State) : State :=
  let s := claimRelease s
  let s := setPai { s.pai with active := false, hushed := false, claimAt := none, handover := .none, grants := [], sync := 0,
                               starting := false, returnOk := none, peerReadySince := none, sentRecs := [],
                               splitActive := false, lostReady := none, syncNfl := none } s
  let s := emit (.pin 1 false) s
  let s := match s.crp.mode with | .serve | .survey | .holdover => setMode .standby s | _ => s
  let jobs := (s.dsp.jobs.filter (fun j => j.cmd.isSome)).map (fun j => if j.kind = .ledger then { j with inService := false } else j)
  let s := setDsp { s.dsp with jobs := jobs } s
  let s := setCht { s.cht with reqs := [] } s
  let s := { s with pst := { s.pst with engine := s.pst.engine.map (fun e => (e.1, { e.2 with job := none })) } }
  let s := setAcq { s.acq with snaps := s.acq.snaps.filter (fun e => !e.2.complete) } s
  let s := { s with net := s.net.map (fun e => (e.1, standbyFrames e.2)) }
  let latch : Latch := match s.nfl.latch with | .armed => .latched | l => l
  mismatchesShown (setNfl { s.nfl with latch := latch, confirm := none, fleetRel := none, machRel := [] } s)

/-- The unit enters STANDBY and listens for its peer (R337). -/
def startListening (s : State) : State :=
  let s := toStandby s
  mismatchesShown (setPai { s.pai with starting := true, startAt := s.tim.now } (setMode .standby s))

/-! ### The claim procedure (R336) -/

/-- A standby that was ready when the peer became failed at `t`: ready, or made unready by no more than path A's share of
that failure (Table 11.1; assumption 45). -/
def canClaim (s : State) (t : Nat) : Bool :=
  paiReady s || (decide (s.crp.mode = .standby) && (match s.pai.lostReady with | some r => decide (t ≤ r + tMs) | none => false))

/-- Set where a unit cannot claim or yields; not while PAIR is down (R21). -/
def pairDegraded (s : State) : State := paiSticky 3 s

def claimProcedure (s : State) : State :=
  if s.crp.primary then
    if s.pai.active then claimDrive s
    else if s.pai.starting then takeover 2 (claimDrive s)
    else if canClaim s s.tim.now then takeover 1 (claimDrive s)
    else pairDegraded s
  else
    let s := claimRelease s
    setPai { s.pai with hushed := s.pai.active, claimAt := some s.tim.now } s

/-- Both paths have failed (R328). -/
def peerFail (s : State) : State :=
  if s.pai.pathA.ok || s.pai.pathB.ok || s.pai.peerFailed then s
  else claimProcedure (sticky Reg.PAI_STICKY 2 (setPai { s.pai with peerFailed := true, bothSince := none } s))

/-- R336: the secondary's sample of CLAIM_N. At any other time the level is only seen. -/
def execClaimSample (high : Bool) (s : State) : Out :=
  .next (
    if !s.pai.pair then s
    else
      let s := setPai { s.pai with claimIn := high && !s.pai.claimDrive, splitLine := s.pai.splitLine && !high } s
      match s.pai.claimAt with
      | none => s
      | some t =>
        if s.tim.now < t + 500 * tUs then s
        else
          let s := setPai { s.pai with claimAt := none } s
          if !high then pairDegraded (toStandby s)
          else if s.pai.active then claimDrive (setPai { s.pai with hushed := false } s)
          else if s.pai.starting then takeover 2 (claimDrive s)
          else if canClaim s t then takeover 1 (claimDrive s)
          else pairDegraded s)

/-- R336: the active unit releases CLAIM_N. -/
def execClaimNRelease (s : State) : Out :=
  .next (match s.pai.peerReadySince with
    | some t => if s.pai.pair && s.pai.active && s.pai.claimDrive && decide (t + tSec ≤ s.tim.now) then claimRelease s else s
    | none => s)

/-- The peer is heard on path B: valid bursts come. Whether it is active, heartbeats alone tell. -/
def heardB (s : State) : Bool := decide (0 < s.pai.pathB.good) && decide (s.tim.now < s.pai.pathB.last + tMs)

/-- R337: PEER_WAIT is over and no peer was heard on either path. One heard on path B alone is waited for: its heartbeats say which unit
is active, and its failure starts the claim procedure. -/
def execPeerWaitExpiry (s : State) : Out :=
  .next (
    if s.pai.pair && s.pai.starting && s.pai.claimAt.isNone && !heardB s && decide (s.pai.startAt + 100 * fld s Reg.PAI_CTRL 15 8 * tMs ≤ s.tim.now) then
      claimProcedure s
    else s)

/-! ### Split (R338) -/

/-- The peer's latest valid heartbeat shows CLAIM_DRIVE. -/
def peerDrives (s : State) : Bool := match s.pai.peer with | some p => decide (p.flags / 8 % 2 = 1) | none => false

/-- The pair is split: SPLIT_BRAIN and Nightfall cause 4. -/
def splitLine (s : State) : State :=
  nfTrigger 4 (sticky Reg.PAI_STICKY 6 (setPai { s.pai with splitLine := true, claimIn := false } s))

/-- Condition 1: CLAIM_N has read low for 20 µs while neither unit drives it. -/
def execSplitClaimLow (s : State) : Out :=
  .next (if pairUp s && !s.pai.claimDrive && !peerDrives s && !s.pai.splitLine then splitLine s else s)

/-- Condition 2: still low 100 µs after this unit's release, with a later heartbeat that shows no drive. -/
def execSplitClaimStuck (s : State) : Out :=
  .next (match s.pai.releasedAt, s.pai.peer with
    | some t, some p =>
      if pairUp s && !s.pai.claimDrive && !peerDrives s && !s.pai.splitLine && decide (t + 100 * tUs ≤ s.tim.now) && decide (t < p.at_) then
        splitLine s
      else s
    | _, _ => s)

/-- Condition 3, tested on a valid heartbeat. -/
def splitTest (s : State) : State :=
  match s.pai.peer with
  | none => s
  | some p =>
    let hoSent := match s.pai.handover with | .sent _ => true | _ => false
    let split := s.pai.active && !hoSent && decide (p.flags / 2 % 2 = 1) && decide ((s.pai.tAct : Int) ≤ near32 s.tim.now p.txS p.txNs)
    let was := s.pai.splitActive
    let s := setPai { s.pai with splitActive := split, splitLine := s.pai.splitLine && !peerDrives s } s
    if split && !was then nfTrigger 4 (sticky Reg.PAI_STICKY 6 s) else s

/-! ### Pulsar, path A -/

/-- A unit sends on both paths (R327), unless a tamper event has stopped them (Table 15.10). -/
def pulsarSends (s : State) : Bool :=
  pairUp s && decide (pdState s 11 = .on) && !s.crp.recovery && !s.nfl.wdgExpired && !s.pai.tampStop

/-- Heartbeat flags (Table 11.2). -/
def hbFlags (s : State) : Nat :=
  let hoSent := match s.pai.handover with | .sent _ => true | _ => false
  b2n s.crp.primary + 2 * b2n (s.pai.active && !hoSent) + 4 * b2n (paiReady s) + 8 * b2n s.pai.claimDrive +
  16 * b2n (decide (s.nfl.latch ≠ .idle)) + 32 * b2n (s.pai.active && !peerServes s)

/-- Bytes 0 to 39 of a heartbeat. -/
def hbBody (s : State) (seq : Nat) : List Byte :=
  let echo := match s.pai.peer with
    | some p => leBytes 4 p.seq ++ timeBytes p.at_
    | none => zeros 12
  [0x44, 0x50] ++ leBytes 1 1 ++ leBytes 1 (hbFlags s) ++ leBytes 4 seq ++ timeBytes s.tim.now ++ echo ++
  leBytes 4 s.pai.applied ++ leBytes 4 (activeVersion s).toNat ++ zeros 4

/-- The tag of a heartbeat under KEY_SLOT, or zeros (R326). -/
def hbTag (s : State) (body : List Byte) : List Byte :=
  if flag s Reg.PAI_CTRL 1 then tag (keyOf s (fld s Reg.PAI_CTRL 7 2)) body 8 else zeros 8

/-- KEY_SLOT holds a key for PAIR_LINK. -/
def pairKeyUsable (s : State) : Bool := keyUsable s (fld s Reg.PAI_CTRL 7 2) 6

/-- R326, R330: a heartbeat leaves, and with it the record of the time-status word. Nothing valid can be sent under AUTH_EN
without a usable key. -/
def execHeartbeatSend (s : State) : Out :=
  .next (
    if !pulsarSends s || (flag s Reg.PAI_CTRL 1 && !pairKeyUsable s) then s
    else
      let seq := (s.pai.hbSeq + 1) % 2 ^ 32
      let b := hbBody s seq
      let s := setPai { s.pai with hbSeq := seq, hbSent := ((seq, s.tim.now) :: s.pai.hbSent).take 8 } s
      let s := tellActive s
      mirror (.time ⟨timState s, (timUnc s).getD 0, timSlewing s, lossTiming s⟩ s.tim.step) (emit (.heartbeat (b ++ hbTag s b)) s))

/-- A received frame is a valid heartbeat (R326). -/
def hbValid (s : State) (f : List Byte) (crcOk : Bool) : Bool :=
  crcOk && decide (f.length = 48) && decide (f.take 2 = [0x44, 0x50]) && decide (leAt f 2 1 = 1) &&
  (match s.pai.pathA.seq with
    | some q => decide (1 ≤ (leAt f 4 4 + 2 ^ 32 - q) % 2 ^ 32) && decide ((leAt f 4 4 + 2 ^ 32 - q) % 2 ^ 32 < 2 ^ 31)
    | none => true) &&
  (!flag s Reg.PAI_CTRL 1 || (pairKeyUsable s && decide (f.drop 40 = hbTag s (f.take 40))))

/-- Heartbeats missing are counted. -/
def hbMissed (n : Nat) (s : State) : State := perf 0x172 n (inc (Reg.PAI_CNT 0) n s)

/-- Both paths are healthy: the peer is no longer failed (R328). -/
def bothHealthy (s : State) : State :=
  if s.pai.pathA.ok && s.pai.pathB.ok then
    setPai { s.pai with peerFailed := false, bothSince := some (s.pai.bothSince.getD s.tim.now) } s
  else s

/-- Path A after a valid frame (Table 11.1). A frame is missing where SEQ skips it. -/
def pathAGood (seq : Nat) (s : State) : State :=
  let p := s.pai.pathA
  let gap := match p.seq with | some q => (seq + 2 ^ 32 - q) % 2 ^ 32 - 1 | none => 0
  let good := if gap = 0 ∧ p.missing = 0 then p.good + 1 else 1
  let ok := p.ok || decide (4 ≤ good)
  let s := hbMissed (gap - p.missing) (setPai { s.pai with pathA := ⟨ok, good, 0, s.tim.now, some seq⟩ } s)
  let s := bothHealthy s
  if ok && !p.ok then startSync s else s

/-- The offset of a standby to the active unit in ps (R343), from the heartbeat just received; none without an echo. -/
def offsetOf (s : State) (f : List Byte) : Option Int :=
  match s.pai.hbSent.find? (fun e => decide (e.1 = leAt f 16 4)) with
  | none => none
  | some e =>
    let ps (t : Int) : Int := t * 1000 / (tNs : Int)
    let theirs := near32 s.tim.now (leAt f 20 4) (leAt f 24 4) - (e.2 : Int)
    let ours := (s.tim.now : Int) - near32 s.tim.now (leAt f 8 4) (leAt f 12 4)
    some ((ps ours - ps theirs) / 2 - signed 32 (rd s Reg.PAI_ASYM).toNat)

/-- A standby steers to the active unit (R343): within the next heartbeat interval, or at once where it is far away
(assumption 46). -/
def steer (f : List Byte) (s : State) : State :=
  if s.crp.mode ≠ .standby ∨ leAt f 3 1 / 2 % 2 = 0 then s
  else match offsetOf s f with
    | none => s
    | some o =>
      let s := setPai { s.pai with offsetPs := o } s
      let d := -o * (tNs : Int) / 1000
      if o.natAbs ≤ 500000 then startAdj d 102300 s
      else moveTime ((s.tim.now : Int) + d).toNat s

/-- R337: a unit that listens has heard its peer. -/
def heardPeer (s : State) : State :=
  match s.pai.starting, s.pai.peer with
  | true, some p =>
    let s := setPai { s.pai with starting := false, claimAt := none } s
    if p.flags / 2 % 2 = 1 ∨ s.crp.primary = false then s else takeover 2 (claimDrive s)
  | _, _ => s

/-- The conditions of R341 on the active secondary: since when they hold. -/
def returnCheck (s : State) : State :=
  let ok := s.pai.pair && s.pai.active && !s.crp.primary && flag s Reg.PAI_CTRL 0 &&
    (match s.pai.bothSince with | some t => decide (t + 10 * tSec ≤ s.tim.now) | none => false) &&
    (match s.pai.peer with | some p => decide (p.flags % 2 = 1) && decide (p.flags / 4 % 2 = 1) | none => false)
  setPai { s.pai with returnOk := if ok then some (s.pai.returnOk.getD s.tim.now) else none } s

/-- How many records the standby is behind, by its MIRROR_ACKED of 32 bits. -/
def recsBehind (s : State) (p : PeerView) : Nat := (s.pai.nextRec - 1 + 2 ^ 32 - p.acked % 2 ^ 32) % 2 ^ 32

/-- R331: the standby is more than 4,096 records behind, and no sync runs. -/
def lagCheck (s : State) : State :=
  match s.pai.peer with
  | some p => if s.pai.active && decide (s.pai.sync ≠ 1) && decide (4096 < recsBehind s p) then startSync s else s
  | none => s

/-- What a valid heartbeat says. -/
def peerView (f : List Byte) (s : State) : State :=
  let flags := leAt f 3 1
  let ready := decide (flags / 4 % 2 = 1)
  setPai { s.pai with
    peer := some ⟨flags, leAt f 4 4, leAt f 8 4, leAt f 12 4, leAt f 28 4, BitVec.ofNat 32 (leAt f 32 4), s.tim.now⟩,
    peerReadySince := if ready then some (s.pai.peerReadySince.getD s.tim.now) else none } s

/-- R326: a frame of the PAIR link that claims to be a heartbeat. One that is not valid, or that a DROP takes
(R394), counts as missing. -/
def execHeartbeatReceive (f : List Byte) (crcOk : Bool) (s : State) : Out :=
  .next (
    if !pairUp s then s
    else if dropsNext s 10 || !hbValid s f crcOk then
      let s := if dropsNext s 10 then dropTaken 10 s else s
      let p := s.pai.pathA
      hbMissed 1 (setPai { s.pai with pathA := { p with missing := p.missing + 1, good := 0 } } s)
    else
      let old := s
      let s := splitTest (peerView f s)
      let s := pathAGood (leAt f 4 4) s
      let s := lagCheck (returnCheck (heardPeer (steer f s)))
      mismatchCheck old (wr Reg.PAI_PEER_VER (BitVec.ofNat 32 (leAt f 32 4)) s))

/-- R328: four heartbeats in a row are missing. -/
def execPathAFail (s : State) : Out :=
  let p := s.pai.pathA
  .next (
    if pairUp s && p.ok && (decide (4 ≤ p.missing) || decide (p.last + tMs ≤ s.tim.now)) then
      let lost := if paiReady s then some s.tim.now else none
      let s := hbMissed (4 - p.missing) s
      let s := setPai { s.pai with pathA := { p with ok := false, good := 0, missing := 0, seq := none }, lostReady := lost, sync := 0,
                                   sentRecs := [], peerReadySince := none, returnOk := none, bothSince := none } s
      peerFail (sticky Reg.PAI_STICKY 0 s)
    else s)

/-! ### Pulsar, path B -/

/-- The six cells of a burst, the first in bit 0 (R327): start, count, odd parity over count and parity bit. -/
def burstCells (n : Nat) : Nat := 1 + 2 * (n % 16) + 32 * ((popCount 4 (n % 16) + 1) % 2)

/-- R327. -/
def execPulseBurstSend (s : State) : Out :=
  .next (
    if !pulsarSends s then s
    else emit (.burst (burstCells s.pai.burst)) (setPai { s.pai with burst := (s.pai.burst + 1) % 16 } s))

/-- A burst is valid (R327). After a failure the next burst of right form opens a new row. -/
def burstValid (s : State) (c : Nat) : Bool :=
  let p := s.pai.pathB
  decide (c % 2 = 1) && decide (popCount 5 (c / 2) % 2 = 1) &&
  (match p.seq with
    | some q => decide (c / 2 % 16 = (q + 1) % 16) && decide (p.last + 80 * tUs ≤ s.tim.now) && decide (s.tim.now < p.last + 120 * tUs)
    | none => true)

def execPulseBurstReceive (cells : BitVec 6) (s : State) : Out :=
  let c := cells.toNat
  let p := s.pai.pathB
  .next (
    if !pairUp s then s
    else if burstValid s c then
      let good := p.good + 1
      bothHealthy (setPai { s.pai with pathB := ⟨p.ok || decide (4 ≤ good), good, 0, s.tim.now, some (c / 2 % 16)⟩ } s)
    else
      inc (Reg.PAI_CNT 1) 1 (setPai { s.pai with pathB := { p with good := 0, missing := p.missing + 1, seq := if p.ok then p.seq else none } } s))

/-- R328: 1 ms without a valid burst. -/
def execPathBFail (s : State) : Out :=
  let p := s.pai.pathB
  .next (
    if pairUp s && p.ok && decide (p.last + tMs ≤ s.tim.now) then
      let s := inc (Reg.PAI_CNT 1) (10 - p.missing) s
      let s := setPai { s.pai with pathB := { p with ok := false, good := 0, missing := 0, seq := none }, returnOk := none, bothSince := none } s
      peerFail (sticky Reg.PAI_STICKY 1 s)
    else s)

/-! ### Mirror records on the receiving unit (R330) -/

/-- Nightfall's state as mirrored (Table 11.3). -/
def applyNfl (r : MirrorRec) (s : State) : State :=
  match r with
  | .nightfall latch id trig first seen active held seqs =>
    let low := match latch with | .latched | .armed => true | _ => false
    let n := nfDrive (!low) (!low) s.nfl
    let s := setNfl { n with latch := latch, latchId := id, trig := trig, first := first, seen := seen, held := held } s
    let s := { s with upd := { s.upd with nv := { s.upd.nv with latchId := id } }, pai := { s.pai with peerNf := active } }
    (List.range 4).foldl (fun s n => setPort n { netPort s n with nfSeq := seqs.getD n 0 } s) s
  | _ => s

/-- A sync begins on the standby: what it mirrored before is dropped (R331). -/
def clearMirrored (s : State) : State :=
  let keep (t : Tab Word) : Tab Word := t.filter (fun e => !isMirroredReg e.1)
  { s with cht := { s.cht with ivals := [], mach := [] }, mach := [], pst := { s.pst with slot := [] }, tsk := { s.tsk with tasks := [] },
           bank := { s.bank with regs := keep s.bank.regs, shadow := keep s.bank.shadow },
           pai := { s.pai with sync := 1, syncNfl := none, peerKeys := [], peerGraph := none } }

/-- R335: the mirrored activation: the own staged graph, when it is the same one. -/
def applyGraph (id : Nat) (s : State) : State :=
  match s.cht.staging with
  | some g =>
    if s.cht.stage = 2 ∧ g.id = id ∧ chartUp s = true then setCht { s.cht with activateWaits := true, activatePeer := true } s
    else setPai { s.pai with peerGraph := some id } s
  | none => setPai { s.pai with peerGraph := some id } s

/-- The mirrored origin; a new generation moves the stored ticks as R217 does. -/
def applyOrigin (gen o : Nat) (fin : Option Nat) (s : State) : State :=
  let ivals := if gen = s.cht.originGen then s.cht.ivals else s.cht.ivals.filterMap (rebaseIval (o - originMs s))
  let s := setCht { s.cht with originGen := gen, rebaseEnd := fin, ivals := ivals } s
  rebasedTick (wr Reg.CHT_ORIGIN_LO (BitVec.ofNat 32 o) (wr Reg.CHT_ORIGIN_HI (BitVec.ofNat 32 (o / 2 ^ 32)) s))

/-- The step that the active unit has announced: TIM_STEP_NS and TIM_STEP_AT_S hold it here too. Once it is made its term stays until
S + STEP_HOLD_S (R306, R309, R343; DEDUCED, assumption 191). -/
def applyStep (step : Option StepPlan) (s : State) : State :=
  match step, s.tim.step with
  | some p, _ =>
    setTim { s.tim with step := some p, stepNs := p.d, stepAt := p.s, termEnd := none }
      (wr Reg.TIM_STEP_NS (BitVec.ofInt 32 p.d) (wr Reg.TIM_STEP_AT_S (BitVec.ofNat 32 p.s) s))
  | none, some p => setTim { s.tim with step := none, termEnd := some (p.s + fld s Reg.TIM_HOLD_CFG 15 8) } s
  | none, none => s

/-- The standby applies a record. -/
def applyRec (r : MirrorRec) (s : State) : State :=
  match r with
  | .ledger del add =>
    fillCheck (setCht { s.cht with ivals := add.foldl (fun l x => insIval x l) (s.cht.ivals.filter (fun x => !del.contains x)) } s)
  | .origin gen o fin => fillCheck (applyOrigin gen o fin s)
  | .chart m v => setChtMach m v s
  | .machine m e tx last any => keyLossCheck (setMach m { mach s m with entry := e, txSeq := tx, seqLast := last, resetSeq := any } s)
  | .slot k v => { s with pst := { s.pst with slot := Tab.put slotDef s.pst.slot k (if v = slotDef k then v else { v with mirrored := true }) } }
  | .tasks l => { s with tsk := { s.tsk with tasks := l } }
  | .nightfall .. => if s.pai.sync = 2 then applyNfl r s else setPai { s.pai with syncNfl := some r } s
  | .keys l => setPai { s.pai with peerKeys := l } s
  | .cfg l => afterSwap s (l.foldl (fun s e => wrBoth e.1 e.2 s) s)
  | .graph id => applyGraph id s
  | .graphId id => setPai { s.pai with peerGraph := some id } s
  | .time w step => timCheckBound (applyStep step (setTim { s.tim with mirror := some w, state := w.state } s))
  | .sync => clearMirrored s
  | .handover | .release _ | .trigger _ | .active _ | .push _ => s

/-- The outcome of an image push (R423). -/
def pushOutcome (o : Nat) (s : State) : State :=
  if s.upd.push ≠ 1 then s
  else
    let s := { s with upd := { s.upd with push := if o = 1 then 2 else 3 } }
    stickyIf (decide (o = 0)) Reg.UPD_STICKY 5 s

/-- R341 step 2: the unit that takes over by a handover. -/
def returnTakeover (s : State) : State :=
  let b := s.tim.now / (max 1 (periodMs s) * tMs) * (max 1 (periodMs s) * tMs)
  let s := takeover 3 s
  record 0x39 0 (leBytes 4 (usBetween b s.tim.now)) (paiCount 3 1 (paiSticky 5 s))

/-- A standby takes record `number` now: the next one, or any later one while a sync runs; a sync may begin at any. -/
def recInOrder (s : State) (number : Nat) (r : MirrorRec) : Bool :=
  decide (r = .sync) || (decide (s.pai.sync = 1) && decide (s.pai.applied < number)) ||
  (decide (s.pai.sync = 2) && decide (number = s.pai.applied + 1))

/-- R330, R341: a record arrives over the PAIR link. A standby that is not ready does not acknowledge a handover record: only a ready one
becomes active by return (R329). On the active unit only a trigger of the standby, its NFL_ACTIVE and
the outcome of a push have an effect (R293, Table 9.1, R424). -/
def execMirrorRecord (number : Nat) (r : MirrorRec) (s : State) : Out :=
  .next (
    if !pairUp s then s
    else if dropsNext s 10 then dropTaken 10 s
    else match r with
      | .push o => pushOutcome o s
      | _ =>
        if s.pai.active then
          match r with
          | .trigger _ => nfTrigger 13 s
          | .active w => setPai { s.pai with peerNf := w } s
          | .nightfall _ _ _ _ _ active _ _ => setPai { s.pai with peerNf := active } s
          | _ => s
        else if s.crp.mode ≠ .standby || !recInOrder s number r then s
        else
          let t := mismatchCheck s (applyRec r s)
          let t := setPai { t.pai with applied := number } t
          if r ≠ .handover then emit (.mirrorAck number) t
          else if paiReady t then returnTakeover (emit (.mirrorAck number) t)
          else t)

/-! ### Acknowledgements on the active unit (R332, R341) -/

/-- A held GRANT enters Q2, or is lost where its queue has no room. -/
def releaseGrant (g : HeldGrant) (s : State) : State :=
  let p := enqueue g.port 2 g.frame s
  if p.2 && portServes s g.port then p.1 else grantLost g.machine 4 s

/-- R330, R332, R341: the standby acknowledges every record up to `number`. Once a handover record is acknowledged, the unit
is standby. -/
def execMirrorAck (number : Nat) (s : State) : Out :=
  .next (
    if !pairUp s || !s.pai.active then s
    else if dropsNext s 10 then dropTaken 10 s
    else
      let done := s.pai.sentRecs.filter (fun e => decide (e.1 ≤ number))
      let us := (done.map (fun e => usBetween e.2.2 s.tim.now)).foldl max 0
      let due := s.pai.grants.filter (fun g => decide (g.number ≤ number))
      let s := perf 0x171 ((done.map (fun e => usBetween e.2.2 s.tim.now)).sum) s
      let s := setPai { s.pai with sentRecs := s.pai.sentRecs.filter (fun e => !decide (e.1 ≤ number)), lagMax := max s.pai.lagMax us,
                                   grants := s.pai.grants.filter (fun g => !decide (g.number ≤ number)) } s
      let s := if plpStopped s then due.foldl (fun s g => grantLost g.machine 0xE2 s) s else due.foldl (fun s g => releaseGrant g s) s
      match s.pai.handover with
      | .sent _ => if done.any (fun e => decide (e.2.1 = .handover)) then toStandby s else s
      | _ => s)

/-- A held GRANT has waited 150 µs. -/
def grantWaited (s : State) (g : HeldGrant) : Bool := decide (g.sent + 150 * tUs ≤ s.tim.now)

/-- R332: grants whose acknowledgement has not come within 150 µs are discarded. -/
def execMirrorAckTimeout (s : State) : Out :=
  .next (
    let gone := s.pai.grants.filter (grantWaited s)
    if gone.isEmpty then s
    else
      let s := setPai { s.pai with grants := s.pai.grants.filter (fun g => !grantWaited s g) } s
      let s := gone.foldl (fun s g => grantLost g.machine 0x71 s) s
      paiSticky 7 (paiCount 5 gone.length s))

/-- R331: the running sync completes; on the standby the latch state of the active unit takes the place of its own (R294). -/
def execMirrorSyncComplete (s : State) : Out :=
  .next (
    if pairUp s && decide (s.pai.sync = 1) && s.pai.pathA.ok then
      let old := s
      let s := inc (Reg.PAI_CNT 4) 1 (setPai { s.pai with sync := 2, lagMax := 0 } s)
      let s := match s.pai.syncNfl with | some r => setPai { s.pai with syncNfl := none } (applyNfl r s) | none => s
      mismatchCheck old s
    else s)

/-- R341: 200 µs after B without the acknowledgement the unit is active again and tries at the next boundary. -/
def execHandoverAckTimeout (s : State) : Out :=
  .next (match s.pai.handover with
    | .sent t =>
      if t + 200 * tUs ≤ s.tim.now then
        paiSticky 7 (setPai { s.pai with handover := .due (s.cht.period + 1),
                                                      sentRecs := s.pai.sentRecs.filter (fun e => decide (e.2.1 ≠ .handover)) } s)
      else s
    | _ => s)

/-! ### Commands -/

/-- R342: PAI_CMD.YIELD. -/
def execYield (s : State) : Out :=
  .next (
    if !pairUp s then s
    else if s.pai.active && peerServes s then
      match s.pai.handover with
      | .none => setPai { s.pai with handover := .due (s.cht.period + 1) } s
      | _ => s
    else sticky Reg.PAI_STICKY 12 s)

/-- R345: PAI_CMD.RESYNC. A standby asks the active unit for the sync. -/
def execResync (s : State) : Out :=
  .next (
    if !pairUp s || !s.pai.pathA.ok then s
    else if s.pai.active then startSync s
    else emit (.pair 4 []) (setPai { s.pai with sync := 0 } s))

end Sys2Proof.Machine
end

