-- ==== Sys2Proof/Machine/Recorder.lean ====
section
/-! DEFINITION. The event recorder and the performance counters (chapter 16). -/
namespace Sys2Proof.Machine

def setRec (r : Rec) (s : State) : State := { s with recorder := r }

/-! ### The ring of slots -/

/-- Bytes of a record (R460). -/
def recSize (x : Record) : Nat := 32 + x.payload.length

/-- Bytes of records that a segment holds (R459, R473). -/
def segBytes (r : Rec) : Nat := if r.store = .lifeboat then 32736 else 262112

/-- Bytes used in a slot. -/
def slotUsed (x : RecSlot) : Nat := (x.records.map recSize).sum

/-- The slots of the ring, by number. -/
def ringSlots (r : Rec) : List Nat :=
  if r.store = .lifeboat then [0, 1] else (List.range 64).filter (fun k => (Tab.get recSlotDef r.slots k).inRing)

def recSlot (r : Rec) (k : Nat) : RecSlot := Tab.get recSlotDef (recSlots r) k

/-- Good slots of the MRAM ring. -/
def goodSlots (r : Rec) : Nat := ((List.range 64).filter (fun k => (Tab.get recSlotDef r.slots k).inRing)).length

/-- The slot of the ring that follows the current one. -/
def nextSlot (r : Rec) : Option Nat :=
  match (ringSlots r).find? (fun k => decide (r.cur < k)) with
  | some k => some k
  | none => (ringSlots r).head?

/-- Slots that hold records, oldest filling first. -/
def filledSlots (r : Rec) : List RecSlot :=
  ((ringSlots r).map (recSlot r)).filter (fun x => !x.records.isEmpty)

/-- REC_OLDEST_SEQ: the first record of the slot filled longest ago. -/
def recOldest (r : Rec) : Nat :=
  match (filledSlots r).foldl (fun b x => match b with
      | none => some x
      | some y => some (if x.fillNo < y.fillNo then x else y)) none with
  | some x => match x.records with | a :: _ => a.seq | [] => r.nextSeq
  | none => match r.inProgress with | some a => a.seq | none => r.nextSeq

/-- REC_NEWEST_SEQ: SEQ of the newest committed record. -/
def recNewestSeq (r : Rec) : Nat :=
  ((match r.inProgress with | some a => a.seq | none => r.nextSeq) + 2 ^ 32 - 1) % 2 ^ 32

/-- A record is unread (R467). -/
def unread (r : Rec) (x : Record) : Bool := decide ((x.seq + 2 ^ 32 - r.readSeq) % 2 ^ 32 < 2 ^ 31)

/-- REC_FILL (R467). -/
def recFill (r : Rec) : Nat :=
  let bytes := ((filledSlots r).map (fun x => ((x.records.filter (unread r)).map recSize).sum)).sum
  bytes * 100 / max 1 ((if r.store = .lifeboat then 2 else goodSlots r) * segBytes r)

/-- REC_FILL is at or above the mark (REC_STATUS.FILL_LIVE). -/
def aboveMark (s : State) : Bool := decide (fld s Reg.REC_FILL_CFG 6 0 ≤ recFill s.recorder)

/-- Each rise of REC_FILL to the mark sets FILL_HIGH (R467). -/
def fillHigh (s : State) : State :=
  let a := aboveMark s
  let was := s.recorder.above
  let s := setRec { s.recorder with above := a } s
  stickyIf (a && !was) Reg.REC_STICKY 4 s

/-- Opens slot `k`: its records are discarded (R466). -/
def openSlot (k : Nat) (s : State) : State :=
  let r := s.recorder
  let x := recSlot r k
  let n := (x.records.filter (unread r)).length
  let first := match r.inProgress with | some a => a.seq | none => r.nextSeq
  let r' : Rec := { recPutSlot k { x with fillNo := r.opened + 1, firstSeq := first, records := [], zeroed := [] } r with cur := k, opened := r.opened + 1 }
  let s := setRec r' s
  if x.records.isEmpty then s
  else
    let old := recOldest r'
    let behind := decide ((old + 2 ^ 32 - r.readSeq) % 2 ^ 32 < 2 ^ 31)
    let s := inc (Reg.REC_CNT 5) n (inc (Reg.REC_CNT 4) 1 (sticky Reg.REC_STICKY 5 s))
    setRec { s.recorder with readSeq := if behind then old else r.readSeq } s

/-! ### Taking events (R463, R464) -/

/-- The drops counted are staged as a LOST entry once there is room. -/
def stageLost (r : Rec) : Rec :=
  if r.dropped = 0 ∨ 64 ≤ r.staging.length then r
  else { r with staging := r.staging ++ [⟨0x0002, 0, [], r.dropAt, r.dropFree, true, r.dropped⟩], dropped := 0 }

/-- The writer takes staged events until one starts a record; an interrupted record comes before them (R473). No event is taken while a
retirement copies (R471). -/
def takeStaged : Nat → State → State
  | 0, s => s
  | n + 1, s =>
    if s.recorder.inProgress.isSome || s.recorder.store = .notUp || s.recorder.copying.isSome then s
    else match s.recorder.resume, s.recorder.staging with
      | some x, _ => setRec { recStart x.1 { s.recorder with resume := none } with heldFolds := x.2 } s
      | none, [] => s
      | none, e :: rest =>
        let e := if e.lost then { e with payload := leBytes 8 e.count } else e
        let p := recTake e (stageLost { s.recorder with staging := rest })
        let s := setRec p.1 s
        takeStaged n (if p.2 then perf 0x189 1 (inc (Reg.REC_CNT 1) 1 s) else s)

/-- The record in progress commits, with the folds held for it (R464). -/
def commitRecord (s : State) : State :=
  match s.recorder.inProgress with
  | none => s
  | some x =>
    let s := if slotUsed (recCur s.recorder) + recSize x ≤ segBytes s.recorder ∧ (recCur s.recorder).fillNo ≠ 0 then s
             else match nextSlot s.recorder with
               | some k => openSlot (if (recCur s.recorder).fillNo = 0 then s.recorder.cur else k) s
               | none => s
    let r := s.recorder
    let y := r.heldFolds.foldl (fun x t => recFoldInto t x) x
    let c := recCur r
    let n := r.heldFolds.length
    let r' := recPutSlot r.cur { c with records := c.records ++ [y] } r
    let s := setRec { r' with inProgress := none, heldFolds := [], lastWriteBack := s.tim.now } s
    fillHigh (perf 0x188 1 (inc (Reg.REC_CNT 0) 1 (perf 0x189 n (inc (Reg.REC_CNT 1) n s))))

/-- Records in progress and staged are committed, `n` at the most. -/
def commitAll : Nat → State → State
  | 0, s => s
  | n + 1, s => if s.recorder.store = .notUp || s.recorder.inProgress.isNone then s else commitAll n (takeStaged 66 (commitRecord s))

/-- R462: the record in progress commits and the writer takes the next staged events. A retirement copy comes first (R471). -/
def execRecordCommit (s : State) : Out :=
  .next (
    if s.recorder.store = .notUp || s.recorder.inProgress.isNone || s.recorder.copying.isSome then s
    else takeStaged 66 (commitRecord s))

/-- R465. -/
def execFoldWriteBack (s : State) : Out :=
  let r := s.recorder
  .next (
    if r.foldDirty && r.copying.isNone && decide (r.lastWriteBack + tMs ≤ s.tim.now) then setRec { r with foldDirty := false, lastWriteBack := s.tim.now } s
    else s)

/-! ### Wear and the lifeboat (R471 to R473) -/

/-- A record as an event to be formed again. -/
def eventOf (x : Record) : RecEvent := ⟨x.type, x.key, x.payload, x.first, x.timeFree, false, 0⟩

/-- R473: the recorder moves to the lifeboat. The LIFEBOAT record takes the SEQ of the interrupted one, which follows it with the folds
held for it, and then the staged events. A retirement copy is abandoned (Table 16.6). -/
def toLifeboat (cause : Nat) (s : State) : State :=
  let r := s.recorder
  if r.store = .lifeboat then s
  else
    let last := recNewestSeq r
    let seq := match r.inProgress with | some x => x.seq | none => r.nextSeq
    let r' := recStart ⟨0x0006, cause, leBytes 8 last, s.tim.now, decide (s.tim.state = .free), false, 0⟩
      { r with store := .lifeboat, boat := [], cur := 0, nextSeq := seq, inProgress := none, heldFolds := [],
               resume := r.inProgress.map (fun x => (eventOf x, r.heldFolds)), copying := none, foldDirty := false }
    fillHigh (sticky Reg.REC_STICKY 3 (setRec r' s))

/-- The NV interface fails: the recorder moves to the lifeboat, or its scan will find the failure (R473, R474). -/
def nvFailed (s : State) : State :=
  match s.recorder.store with
  | .mram => toLifeboat 1 s
  | .notUp => if s.crp.mode = .boot then setRec { s.recorder with nvFail := true } s else s
  | .lifeboat => s

/-- R473: cause 1, the NV interface; cause 2, no good slot left. -/
def execLifeboat (cause : Nat) (s : State) : Out :=
  .next (
    if cause = 1 then nvFailed s
    else if s.recorder.store = .mram ∧ cause = 2 ∧ goodSlots s.recorder = 0 then toLifeboat 2 s
    else s)

/-- R472: the slot leaves the ring. -/
def dropSlot (k : Nat) (x : RecSlot) (s : State) : State :=
  let s := setRec { s.recorder with slots := Tab.put recSlotDef s.recorder.slots k { x with inRing := false, records := [], fillNo := 0, zeroed := [] } } s
  let told := s.recorder.sparesOutTold
  let s := setRec { s.recorder with sparesOutTold := true } s
  let s := if told then s else record 0x05 0 (leBytes 8 (goodSlots s.recorder)) (sticky Reg.REC_STICKY 2 s)
  fillHigh (
    if goodSlots s.recorder = 0 then toLifeboat 2 s
    else if s.recorder.cur = k then
      (match nextSlot s.recorder with | some j => openSlot j s | none => s)
    else s)

/-- The copy of slot `k` to the next spare is complete (R471): the 512-bit words of `bad` were uncorrectable and are zero. Spares are
taken in ascending order of physical segment, 64 to 71 (DESIGN CHOICE, assumption 234). -/
def copyEnds (k phys worst : Nat) (bad : List Nat) (s : State) : State :=
  let r := s.recorder
  let x := recSlot r k
  let spare := 72 - r.spares
  let y := { x with phys := spare, records := x.records.map (fun z => { z with moved := true }),
                    zeroed := x.zeroed ++ bad.filter (fun w => !x.zeroed.contains w) }
  let s := takeStaged 66 (setRec { r with slots := Tab.put recSlotDef r.slots k y, spares := r.spares - 1, copying := none } s)
  record 0x04 phys (leBytes 4 spare ++ leBytes 4 worst) (inc (Reg.REC_CNT 3) 1 (sticky Reg.REC_STICKY 1 s))

/-- R471, R472: physical segment `phys` fails verify. Its copy to a spare begins, or no spare is left and its slot leaves the ring; the
copy ends with the largest number of bits corrected in a word and the uncorrectable words. Events wait in staging between the two. -/
def execSegmentRetired (phys : Nat) (x : SegCopy) (s : State) : Out :=
  .next (
    if s.recorder.store ≠ .mram then s
    else match (List.range 64).find? (fun k => (recSlot s.recorder k).inRing && decide ((recSlot s.recorder k).phys = phys)) with
      | none => s
      | some k =>
        match x with
        | .begins =>
          if s.recorder.copying.isSome then s
          else if s.recorder.spares = 0 then dropSlot k (recSlot s.recorder k) s
          else setRec { s.recorder with copying := some phys } s
        | .ends worst bad => if s.recorder.copying = some phys then copyEnds k phys worst bad s else s)

/-! ### Reading and clearing -/

def recReject (s : State) : State := sticky Reg.REC_STICKY 8 s

/-- R467: the write of REC_READ_SEQ. -/
def execRecReadSeq (w : Word) (s : State) : Out :=
  let r := s.recorder
  let span := (recNewestSeq r + 1 + 2 ^ 32 - recOldest r) % 2 ^ 32
  .next (
    if r.store = .notUp then s
    else if (w.toNat + 2 ^ 32 - recOldest r) % 2 ^ 32 ≤ span then fillHigh (setRec { r with readSeq := w.toNat } s)
    else recReject s)

/-- The bytes of a nonce. -/
def nonceBytes (n : Nat) : List Byte := leBytes 32 (Config.nonce n).toNat

/-- R469. -/
def recNonce (_ : List Byte) (s : State) : State × Nat × List Byte :=
  (freeNext (setRec { s.recorder with nonce := some (s.free, s.tim.now) } s), 0, nonceBytes s.free)

def execRecNonce (s : State) : Out := .next (withCmd 6 0x38 recNonce s)

/-- The nonce that is valid now (R469). -/
def validNonce (s : State) : Option Nat :=
  match s.recorder.nonce with
  | some (n, t) => if s.tim.now < t + 60 * tSec then some n else none
  | none => none

/-- The status of a REC_CLEAR (R470). -/
def clearStatus (b : List Byte) (s : State) : Nat :=
  let k := leAt b 0 1
  if lc s = 3 then 8
  else if 64 ≤ k ∨ keyUsable s k 3 = false then 2
  else match validNonce s with
    | none => 6
    | some n =>
      if (b.drop 8).take 32 = hmacSha256 (keyOf s k) (nonceBytes n ++ (b.drop 4).take 4) then 0 else 7

/-- R470: every slot is emptied; the CLEARED record is the first. -/
def clearAll (b : List Byte) (s : State) : State :=
  let s := commitRecord s
  let r := s.recorder
  let range := leBytes 4 (recOldest r) ++ leBytes 4 (recNewestSeq r)
  let empty (t : Tab RecSlot) : Tab RecSlot :=
    t.foldl (fun t e => Tab.put recSlotDef t e.1 { e.2 with records := [], fillNo := 0, firstSeq := 0, zeroed := [] }) []
  let r := if r.store = .lifeboat then { r with boat := empty r.boat } else { r with slots := empty r.slots }
  let s := setRec (recStart ⟨0x0003, leAt b 4 4, leBytes 8 (leAt b 0 1) ++ (b.drop 8).take 8 ++ range, s.tim.now,
      decide (s.tim.state = .free), false, 0⟩ { r with readSeq := r.nextSeq, foldDirty := false }) s
  fillHigh (inc (Reg.REC_CNT 6) 1 (sticky Reg.REC_STICKY 6 s))

/-- R470. -/
def recClear (b : List Byte) (s : State) : State × Nat × List Byte :=
  let code := clearStatus b s
  let s := setRec { s.recorder with nonce := none } s
  if code = 0 then (clearAll b s, 0, []) else (inc (Reg.REC_CNT 7) 1 (sticky Reg.REC_STICKY 7 s), code, [])

/-- R470; a segment's retirement completes first (Table 16.6). -/
def execRecClear (s : State) : Out := .next (if s.recorder.store = .notUp || s.recorder.copying.isSome then s else withCmd 6 0x39 recClear s)

/-! ### Start (R474) -/

/-- The slot of the ring opened last. -/
def scanSlot (r : Rec) : Nat :=
  ((ringSlots r).foldl (fun (b : Nat × Nat) k => if b.2 < (recSlot r k).fillNo then (k, (recSlot r k).fillNo) else b)
    ((ringSlots r).headD 0, 0)).1

/-- The records of a slot that the scan finds committed: the word with a record's FLAGS, byte 7, has not been written as zero (R471,
R474; assumption 240). -/
def foundRecords (x : RecSlot) : List Record :=
  (x.records.foldl (fun (p : Nat × List Record) z =>
    (p.1 + recSize z, if x.zeroed.contains ((p.1 + 7) / 64) then p.2 else p.2 ++ [z])) (32, [])).2

/-- The newest committed record of the ring (R474). -/
def scanNewest (r : Rec) : Option Record :=
  ((ringSlots r).foldl (fun (b : Option (Nat × Record)) k =>
    match (foundRecords (recSlot r k)).getLast?, b with
    | none, b => b
    | some z, none => some ((recSlot r k).fillNo, z)
    | some z, some y => if y.1 < (recSlot r k).fillNo then some ((recSlot r k).fillNo, z) else some y) none).map (·.2)

/-- The event of the START record (R461). -/
def startEvent (s : State) : RecEvent :=
  ⟨0x0001, 0, leBytes 4 s.crp.rstCause.toNat ++ leBytes 4 s.crp.wake ++ leBytes 4 (activeVersion s).toNat ++ leBytes 4 (lc s),
   s.tim.now, decide (s.tim.state = .free), false, 0⟩

/-- The scan finds no store to write: the lifeboat, with SEQ 0; its first record is LIFEBOAT, then START (R473, R474; assumption 239). -/
def boatUp (cause : Nat) (r : Rec) (s : State) : State :=
  let s' := toLifeboat cause (setRec { r with nextSeq := 0, readSeq := 0, nvFail := false } s)
  setRec { s'.recorder with resume := some (startEvent s, []) } s'

/-- The scan of step 3 and the START record; then the events of the earlier steps. START is committed by the end of the step, and so
before any activation copy (R474). -/
def recUp (s : State) : State :=
  let r := { s.recorder with store := .mram, inProgress := none, heldFolds := [], resume := none, copying := none }
  let r := { r with cur := scanSlot r }
  let r := { r with nextSeq := match scanNewest r with | some x => (x.seq + 1) % 2 ^ 32 | none => r.nextSeq }
  let r := { r with readSeq := recOldest r }
  if r.nvFail then commitAll 2 (boatUp 1 r s)
  else if goodSlots r = 0 then commitAll 2 (boatUp 2 r s)
  else commitAll 1 (fillHigh (setRec (recStart (startEvent s) r) s))

/-! ### Performance counters (R476 to R481) -/

/-- Counter `k` exists on this grade (R476). -/
def ctrExists (s : State) (k : Nat) : Bool := decide (k < 256) && !(decide (s.grade = .s) && decide (160 ≤ k) && decide (k < 192))

/-- R477, R478: a carry out of bit 47 of counter `k`. -/
def execCounterOverflow (k : Nat) (s : State) : Out :=
  let c := ioCtr s.io k
  .next (
    if !ctrExists s k || s.io.frozen || decide (c.event = 0) then s
    else withIo (ctrAdd (chained s) k (2 ^ 48 - c.count.toNat)) s)

/-- A carry into or out of counter `k` in the cycle of a write is dropped, with CARRY_LOST (R481); the even partner that it came from
has wrapped. -/
def carryDropped (k : Nat) (carry : Bool) (s : State) : State :=
  if carry then
    sticky Reg.PRF_STICKY 0 (
      if chained s && decide (k % 2 = 1) then { s with io := ioSetCtr s.io (k - 1) { ioCtr s.io (k - 1) with count := 0 } } else s)
  else s

/-- R12, R481: the write of PRF_k_HI applies both words, and wins over a carry of its cycle. -/
def execPrfHiWrite (k : Nat) (w : CtrWrite) (s : State) : Out :=
  let c := ioCtr s.io k
  .next (
    if !ctrExists s k then s
    else carryDropped k w.carry
      { s with io := ioSetCtr s.io k { c with count := BitVec.ofNat 48 (c.low.toNat + 2 ^ 32 * bits w.word 15 0) } })

/-- The hardware performance-monitor counter `n`, 3 to 18, as core `core` reads it: one of its own 16 counters; zero on an application
core, 8 to 11, without its bit of APP_EN (R479). A read of an even counter captures its odd partner, whose read returns the capture
(R480). -/
def coreRead (core n : Nat) (s : State) : State × BitVec 48 :=
  let k := 16 * core + (n - 3)
  if 8 ≤ core ∧ s.io.appEn.getLsbD (core - 8) = false then (s, 0)
  else if k % 2 = 1 then (s, (ioCtr s.io k).capt)
  else
    let b := ioCtr s.io (k + 1)
    ({ s with io := ioSetCtr s.io (k + 1) { b with capt := b.count } }, (ioCtr s.io k).count)

/-- R481: the write of PRF_CTL. -/
def execFreeze (w : Word) (s : State) : Out :=
  let app := bits w 3 0
  .next { s with io := { s.io with appEn := BitVec.ofNat 4 (if s.grade = .s then app % 4 else app), frozen := bitAt w 8 } }

/-- R480: a read of PRF_k_LO for even k captures the pair. -/
def execPrfPairCapture (k : Nat) (s : State) : Out :=
  .next (
    if !ctrExists s k || decide (k % 2 = 1) then s
    else
      let a := ioCtr s.io k
      let b := ioCtr s.io (k + 1)
      { s with io := ioSetCtr (ioSetCtr s.io k { a with capt := a.count }) (k + 1) { b with capt := b.count } })

end Sys2Proof.Machine
end

