-- ==== Sys2Proof/Machine/Keys.lean ====
section
/-! DEFINITION. Keys and the life-cycle (chapter 15): key updates, derivation, attestation, key RAM, the real-time clock's
capture, JTAG. -/
namespace Sys2Proof.Machine

def setKey (k : Key) (s : State) : State := { s with key := k }
def keyReject (s : State) : State := sticky Reg.KEY_STICKY 8 s

/-- Key slots changed since `old`: the peer is told, mismatches show (R335), and a key slot that a grant needs may be lost. -/
def keysChanged (old s : State) : State := mismatchCheck old (keyLossCheck (mirrorKeys s))

/-! ### Life-cycle (R433 to R435) -/

/-- Quarantine entries and exits made (Table 15.1). -/
def qEntries (f : BitVec 128) : Nat := popCount 61 (f.toNat >>> 2)
def qExits (f : BitVec 128) : Nat := popCount 61 (f.toNat >>> 63)

/-- Sets OTP bit 128 + i. -/
def lcSet (i : Nat) (f : BitVec 128) : BitVec 128 := f ||| BitVec.ofNat 128 (2 ^ i)

/-- The lowest unset bit of 61 from `lo`. -/
def lowestFree (f : BitVec 128) (lo : Nat) : Option Nat := ((List.range 61).map (lo + ·)).find? (fun i => !f.getLsbD i)

/-- R435: the state follows from the new bits; key RAM and the NV key store are emptied, the store with the new state. -/
def lcChange (f : BitVec 128) (s : State) : State :=
  let old := s
  let s := { s with upd := { s.upd with lcField := f } }
  let s := setKey { s.key with slot := [], nvSlot := [], nvLc := lcCode f, nvOk := true } s
  keysChanged old (sticky Reg.KEY_STICKY 1 s)

/-- The bits of an entry into QUARANTINE, or of RETIRED where no entry is free (Table 15.2). -/
def tamperBits (f : BitVec 128) : BitVec 128 :=
  match lowestFree f 2 with
  | some i => lcSet i f
  | none => lcSet 127 f

/-- The life-cycle change of a tamper event (Table 15.2). -/
def lcTamper (s : State) : State := if lc s = 1 ∨ lc s = 2 then lcChange (tamperBits s.upd.lcField) s else s

/-- A tamper source is active now. No event of the table says when a source that has fired has ended, so that is a free value of each
instant (assumption 195). -/
def tampLive (s : State) : Bool :=
  decide (s.key.live ≠ 0) && Config.tampActive s.key.live.toNat (s.key.rtcSec.toNat * 32768 + s.key.rtcSub.toNat) s.key.rtcAcc

/-- The bits that SET_LC leaves; none where Table 15.2 has no such row. -/
def setLcBits (s : State) (target : Nat) : Option (BitVec 128) :=
  let f := s.upd.lcField
  let maint := decide (s.crp.mode = .maintain)
  match lc s, target with
  | 1, 2 => if maint then some (lcSet 1 f) else none
  | 1, 3 | 2, 3 => (lowestFree f 2).map (fun i => lcSet i f)
  | 3, 2 => if maint && !tampLive s then (lowestFree f 63).map (fun i => lcSet 1 (lcSet i f)) else none
  | 1, 4 | 2, 4 | 3, 4 => if maint then some (lcSet 127 f) else none
  | _, _ => none

/-- The transition of SET_LC; a quarantine exit clears the VBAT tamper latch. -/
def setLcRun (target : Nat) (s : State) : State :=
  match setLcBits s target with
  | some f =>
    let s := if lc s = 3 ∧ target = 2 then setKey { s.key with cause := 0, causeTime := 0 } s else s
    lcChange f s
  | none => s

/-- A digest that stands in KEY_PROV_k from `k`. -/
def provDigest (s : State) (k : Nat) : BitVec 384 :=
  BitVec.ofNat 384 (leNum ((List.range 12).flatMap (fun i => leBytes 4 (rd s (Reg.KEY_PROV (k + i))).toNat)))

/-- KEY_LC_CMD is accepted (R434, R458). -/
def lcCmdOk (w : Word) (s : State) : Bool := decide (bits w 31 24 = 0xC3) && decide (lc s = 0) && decide (s.crp.mode = .maintain)

/-- R434: KEY_LC_CMD with ACTION PROVISION. A reserved ACTION is refused here. -/
def execProvision (w : Word) (s : State) : Out :=
  .next (
    if bits w 1 0 = 2 then s
    else if bits w 1 0 ≠ 1 ∨ lcCmdOk w s = false then keyReject s
    else
      let s := { s with upd := { s.upd with imageKey := provDigest s 0 } }
      let s := setKey { s.key with owner := Tab.put digestDef s.key.owner 0 (provDigest s 12), ownerIdx := 0 } s
      lcChange (lcSet 0 s.upd.lcField) s)

/-- R434: KEY_LC_CMD with ACTION RETIRE. -/
def execRetire (w : Word) (s : State) : Out :=
  .next (
    if bits w 1 0 ≠ 2 then s
    else if lcCmdOk w s then lcChange (lcSet 127 s.upd.lcField) s
    else keyReject s)

/-! ### Key-update messages (R441 to R446) -/

/-- Fields of a message (Table 15.5). -/
def kuAction (b : List Byte) : Nat := leAt b 6 1
def kuOwner (b : List Byte) : Nat := leAt b 7 1
def kuCounter (b : List Byte) : Nat := leAt b 24 8
def kuSlot (b : List Byte) : Nat := leAt b 32 1 % 64
def kuType (b : List Byte) : Nat := leAt b 33 1
def kuParent (b : List Byte) : Nat := leAt b 34 1 % 64
def kuTarget (b : List Byte) : Nat := leAt b 35 1
def kuEngines (b : List Byte) : Nat := leAt b 36 1
def kuLabel (b : List Byte) : List Byte := ((b.drop 40).take 16).take (leAt b 37 1)
def kuContext (b : List Byte) : List Byte := ((b.drop 56).take 32).take (leAt b 38 1)

/-- The KDF of R446: blocks 1 to n, L bits. -/
def kdf (key label context : List Byte) (n l : Nat) : List Byte :=
  (List.range n).flatMap (fun i => hmacSha256 key (beBytes 4 (i + 1) ++ label ++ [0] ++ context ++ beBytes 4 l))

/-- "LTX-KEY-TRANSPORT". -/
def transportLabel : List Byte := [0x4C, 0x54, 0x58, 0x2D, 0x4B, 0x45, 0x59, 0x2D, 0x54, 0x52, 0x41, 0x4E, 0x53, 0x50, 0x4F, 0x52, 0x54]

/-- The 96 bytes that KEY_CT carries: in clear for a public key, else under the keystream (R445). -/
def kuPlain (s : State) (b : List Byte) : List Byte :=
  let ct := padTo 96 ((b.drop 88).take 96)
  if kuType b = 3 then ct
  else List.zipWith (fun x y => x ^^^ y) ct (kdf (leBytes 32 s.key.idKey.toNat) transportLabel ((b.drop 8).take 24) 3 768)

/-- The stored counter in force (R444). -/
def storedCtr (s : State) : Nat := max s.key.nvCtr s.key.vbatCtr

/-- An owner key digest is programmed (KEY_STATUS.OWNER_SET). -/
def ownerSet (s : State) : Bool := s.key.owner.any (fun e => e.1 = 0)

/-- The authentication check of Table 15.7 passes. -/
def kuAuth (s : State) (b : List Byte) : Bool :=
  let pub := padTo 96 ((b.drop 184).take 96)
  decide (kuOwner b = s.key.ownerIdx) && decide (digest384 pub = Tab.get digestDef s.key.owner s.key.ownerIdx) &&
  ecdsaP384 pub (b.take 288) (padTo 96 (b.drop 288)) && decide ((b.drop 8).take 16 = leBytes 16 s.upd.identity.toNat)

/-- The layout holds (Table 15.5). -/
def kuLayout (b : List Byte) : Bool :=
  decide (b.take 4 = [0x4B, 0x55, 0x50, 0x44]) && decide (leAt b 4 2 = 1) && decide (1 ≤ kuAction b) && decide (kuAction b ≤ 5) &&
  decide (kuOwner b ≤ 3) && decide (leAt b 32 1 < 64) && decide (leAt b 34 1 < 64) && decide (leAt b 36 1 < 128) &&
  decide (leAt b 37 1 ≤ 16) && decide (leAt b 38 1 ≤ 32) && decide (leAt b 39 1 = 0) &&
  allZero (((b.drop 40).take 16).drop (leAt b 37 1)) && allZero (((b.drop 56).take 32).drop (leAt b 38 1)) &&
  allZero ((b.drop 280).take 8) && (decide (kuAction b = 1) || decide (kuAction b = 5) || allZero ((b.drop 88).take 96)) &&
  (decide (kuAction b ≠ 4) || (decide (2 ≤ kuTarget b) && decide (kuTarget b ≤ 4)))

/-- The padding of a transported key is 0 (R445). -/
def kuPadding (s : State) (b : List Byte) : Bool :=
  decide (kuAction b ≠ 1) || decide (3 ≤ kuType b) || allZero ((kuPlain s b).drop (keyLen (kuType b)))

/-- The engine bits that a type takes (Table 15.4). -/
def typeMask (t : Nat) : List Nat := match t with | 0 => [0, 1, 2, 6] | 2 => [3, 5] | 3 => [4] | _ => []

/-- TYPE and ENGINES fit Table 15.4. -/
def enginesFit (t e : Nat) : Bool := decide (t ≤ 3) && (List.range 7).all (fun i => decide (e / 2 ^ i % 2 = 0) || (typeMask t).contains i)

/-- Depth of a child of slot `p`. -/
def childDepth (s : State) (p : Nat) : Nat := (keySlot s p).depth + 1

/-- R447: a DERIVE that is refused. -/
def deriveDenied (s : State) (b : List Byte) : Bool :=
  let p := keySlot s (kuParent b)
  !(decide (p.type = 1) || decide (p.type = 2)) || decide (kuType b = 3) || decide (kuParent b = kuSlot b) ||
  decide (4 < childDepth s (kuParent b))

/-- The status of a message: the first code that applies (R442, Table 15.7, R15). -/
def kuStatus (s : State) (b : List Byte) : Nat :=
  let a := kuAction b
  if ownerSet s && !kuAuth s b then 7
  else if lc s = 3 ∧ ¬ (a = 4 ∧ (kuTarget b = 2 ∨ kuTarget b = 4)) then 8
  else if a = 2 ∧ (keySlot s (kuParent b)).state ≠ .valid then 2
  else if kuCounter b ≤ storedCtr s then 6
  else if a = 5 ∧ kuOwner b = 3 then 4
  else if !kuLayout b || !kuPadding s b then 0x88
  else if lc s = 0 ∨ lc s = 4 ∨ (a = 4 ∧ (setLcBits s (kuTarget b)).isNone) then 0x89
  else if (a = 1 ∨ a = 2) ∧ (enginesFit (kuType b) (kuEngines b) = false ∨ (a = 2 ∧ deriveDenied s b = true)) then 0x8A
  else 0

/-- Slots derived from `k`, directly or through others: `n` levels. One that key RAM has lost counts while the store holds it. -/
def descendants (s : State) : Nat → Nat → List Nat
  | 0, _ => []
  | n + 1, k =>
    let of (t : Tab KeySlot) : List Nat :=
      (t.filter (fun e => e.2.derived && decide (e.2.parent = k) && decide (e.2.state = .valid) && decide (e.1 ≠ k))).map (·.1)
    let kids := (of s.key.slot ++ of s.key.nvSlot).eraseDups
    (kids ++ kids.flatMap (descendants s n)).eraseDups

/-- A slot whose key was zeroised. -/
def goneSlot : KeySlot := { keySlotDef 0 with state := .gone }

/-- The octets of "LTX-KEY-STORE". -/
def storeLabel : List Byte := [0x4C, 0x54, 0x58, 0x2D, 0x4B, 0x45, 0x59, 0x2D, 0x53, 0x54, 0x4F, 0x52, 0x45]

/-- The key that wraps the slots of the NV key store (R440). -/
def storeKey (s : State) : List Byte := kdf (leBytes 32 s.key.idKey.toNat) storeLabel (leBytes 16 s.upd.identity.toNat) 1 256

/-- Writes a slot, in key RAM and, wrapped, in the NV key store (R440). -/
def putKey (k : Nat) (x : KeySlot) (s : State) : State :=
  setKey { s.key with slot := Tab.put keySlotDef s.key.slot k x,
                      nvSlot := Tab.put keySlotDef s.key.nvSlot k { x with material := kwWrap (storeKey s) x.material } } s

/-- Invalidates the descendants of slot `k` (R448). -/
def invalidateBelow (k : Nat) (s : State) : State :=
  let l := descendants s 5 k
  if l.isEmpty then s
  else
    let s := l.foldl (fun s j => putKey j goneSlot s) s
    record 0x48 k (leBytes 8 (l.foldl (fun v j => v + 2 ^ j) 0)) (sticky Reg.KEY_STICKY 3 s)

/-- The new contents of SLOT of a WRITE or DERIVE. -/
def kuFill (s : State) (b : List Byte) : KeySlot :=
  let t := kuType b
  if kuAction b = 1 then ⟨.valid, t, kuEngines b, false, 0, 0, (kuPlain s b).take (keyLen t)⟩
  else
    let p := kuParent b
    let bits := if t = 0 then 128 else 256
    ⟨.valid, t, kuEngines b, true, p, childDepth s p, (kdf (keyOf s p) (kuLabel b) (kuContext b) 1 bits).take (keyLen t)⟩

/-- The effect of an update that passes every check (Table 15.6). -/
def kuCommit (b : List Byte) (s : State) : State :=
  let k := kuSlot b
  let s := setKey { s.key with nvCtr := kuCounter b, vbatCtr := kuCounter b } s
  match kuAction b with
  | 1 | 2 => let x := kuFill s b; keysChanged s (putKey k x (invalidateBelow k s))
  | 3 => keysChanged s (putKey k goneSlot (invalidateBelow k s))
  | 4 => setLcRun (kuTarget b) s
  | _ =>
    let i := kuOwner b + 1
    setKey { s.key with owner := Tab.put digestDef s.key.owner i (digest384 (padTo 96 ((b.drop 88).take 96))), ownerIdx := i } s

/-- Code of a slot state in a completion and in KEY_SLOT_k_ATTR. -/
def slotCode (x : KeySlot) : Nat := match x.state with | .empty => 0 | .valid => 1 | .gone => 2

/-- KEY_UPDATE (R442, R443). -/
def keyUpdate (b : List Byte) (s : State) : State × Nat × List Byte :=
  let code := kuStatus s b
  let s := if code = 0 then kuCommit b s else sticky Reg.KEY_STICKY 2 s
  (s, code, leBytes 8 (storedCtr s) ++ leBytes 1 (kuSlot b) ++ leBytes 1 (slotCode (keySlot s (kuSlot b))))

/-- The key update next in turn has an action that `ok` takes. -/
def nextKeyUpdate (s : State) (ok : Nat → Bool) : Bool :=
  match pickJob s 6 (fun _ => true) with
  | some j => ok (kuAction (cmdBody j))
  | none => false

def runKeyUpdate (ok : Nat → Bool) (s : State) : Out :=
  .next (if nextKeyUpdate s ok then withCmd 6 0x30 keyUpdate s else s)

/-- R445. A message whose ACTION Table 15.6 does not have is answered here. -/
def execKeyWrite (s : State) : Out := runKeyUpdate (fun a => !(decide (2 ≤ a) && decide (a ≤ 5))) s
def execKeyDerive (s : State) : Out := runKeyUpdate (fun a => decide (a = 2)) s
def execKeyZeroise (s : State) : Out := runKeyUpdate (fun a => decide (a = 3)) s
def execSetLc (s : State) : Out := runKeyUpdate (fun a => decide (a = 4)) s
def execReplaceOwner (s : State) : Out := runKeyUpdate (fun a => decide (a = 5)) s

/-! ### Attestation (R450) -/

/-- The message that is authenticated. -/
def attestMsg (s : State) (nonce : List Byte) : List Byte :=
  nonce ++ leBytes 1 (lc s) ++ leBytes 4 (activeVersion s).toNat ++ leBytes 16 s.upd.identity.toNat

def attest (b : List Byte) (s : State) : State × Nat × List Byte :=
  let k := leAt b 32 1
  if lc s = 3 then (s, 8, [])
  else if 64 ≤ k then (s, 0x8A, [])
  else if (keySlot s k).state ≠ .valid then (s, 2, [])
  else if keyUsable s k 5 = false then (s, 0x8A, [])
  else (s, 0, hmacSha256 (keyOf s k) (attestMsg s (b.take 32)) ++ leBytes 1 (lc s) ++ zeros 3 ++ leBytes 4 (activeVersion s).toNat)

def execAttest (s : State) : Out := .next (withCmd 6 0x31 attest s)

/-! ### Key RAM (R440, R452) -/

/-- An uncorrectable error in the key RAM of slot `k`. -/
def execKeyRamUe (k : Nat) (s : State) : Out :=
  .next (
    if 64 ≤ k then s
    else
      let s := sticky Reg.KEY_STICKY 4 s
      if (keySlot s k).state ≠ .valid then s
      else keysChanged s (setKey { s.key with slot := Tab.put keySlotDef s.key.slot k { keySlot s k with state := .gone, material := [] } } s))

/-- Slot `k` as the NV key store has it, unwrapped; EMPTY where the wrapped key fails its check (assumption 197). -/
def nvKey (s : State) (k : Nat) : KeySlot :=
  let x := Tab.get keySlotDef s.key.nvSlot k
  match kwUnwrap (storeKey s) x.material with
  | some m => { x with material := m }
  | none => keySlotDef k

/-- The restore of slot `k` from a good store. -/
def restoreKey (k : Nat) (s : State) : State :=
  if s.key.nvOk && decide (keySlot s k ≠ nvKey s k) then
    keysChanged s (setKey { s.key with slot := Tab.put keySlotDef s.key.slot (k % 64) (nvKey s k) } s)
  else s

def execKeyRestore (k : Nat) (s : State) : Out := .next (if k < 64 then restoreKey k s else s)

/-- R452: VBAT below 1.65 V: key RAM is zeroised, VBAT_LOW is latched. -/
def execVbatLow (s : State) : Out :=
  let old := s
  let zero (t : Tab KeySlot) : Tab KeySlot := t.map (fun e => (e.1, if e.2.state = .valid then goneSlot else e.2))
  let s := setKey { s.key with slot := zero s.key.slot, cause := s.key.cause ||| oneHot 11 } s
  .next (
    if s.crp.mode = .dormant then setKey { s.key with lowOwed := true } s
    else keysChanged old (sticky Reg.KEY_STICKY 5 s))

/-! ### Debug and the clock -/

/-- R455: TAP access beyond BYPASS and IDCODE. -/
def execDebugAccess (tap : Nat) (s : State) : Out :=
  .next (if lc s = 1 then record 0x4A 0 (leBytes 4 tap) (sticky Reg.KEY_STICKY 7 s) else s)

/-- R451: a read of KEY_RTC_SUB captures the seconds. -/
def execRtcCapture (s : State) : Out := .next (setKey { s.key with rtcCapt := s.key.rtcSec } s)

end Sys2Proof.Machine
end

