-- ==== Sys2Proof/Machine/Update.lean ====
section
/-! DEFINITION. OTP generations, the NV configuration store, staging and confirmation of images (chapter 14). -/
namespace Sys2Proof.Machine

def setUpd (u : Upd) (s : State) : State := { s with upd := u }
def updReject (s : State) : State := sticky Reg.UPD_STICKY 6 s
def otpReject (s : State) : State := sticky Reg.OTP_STICKY 2 s

/-! ### OTP configuration (R417) -/

/-- The 128 bytes of a generation; its CRC holds. -/
def genBytes (g : BitVec 1024) : List Byte := leBytes 128 g.toNat
def genValid (g : BitVec 1024) : Bool := decide (leAt (genBytes g) 124 4 = crc32c ((genBytes g).take 124))

/-- The live generation: the highest-numbered valid one of a list whose first has number `k`; 0 when none is. -/
def liveOf : Nat → List (BitVec 1024) → Nat
  | _, [] => 0
  | k, g :: l => let r := liveOf (k + 1) l; if r ≠ 0 then r else if genValid g then k else 0

/-- Byte `o` of the live generation, or its default (Table 14.7). -/
def cfgByte (s : State) (o dflt : Nat) : Nat :=
  if s.upd.liveGen = 0 then dflt else leAt (genBytes (s.upd.gens.getD (s.upd.liveGen - 1) 0)) o 1

/-- PAIR, BOOT_FLAGS and NETREF of Table 14.7. -/
def cfgPair (s : State) : Bool := decide (cfgByte s 4 0 % 2 = 1)
def cfgBootSelEn (s : State) : Bool := decide (cfgByte s 5 3 % 2 = 1)
def cfgLoadEn (s : State) : Bool := decide (cfgByte s 5 3 / 2 % 2 = 1)
def cfgNetRef (s : State) : Nat := cfgByte s 6 0 % 4

/-- R346, Table 12.1. -/
def pcieIds (s : State) : PcieIds :=
  ⟨0x1F6C, 0x0960, 0x118000, cfgByte s 0 0x6C + 256 * cfgByte s 1 0x1F, cfgByte s 2 0x60 + 256 * cfgByte s 3 0x09, 0x4000000, 64,
   0x1210000, 0x1211000, s.upd.identity.setWidth 64⟩

/-- The contents of OTP_PROG_0 to OTP_PROG_31. -/
def progData (s : State) : BitVec 1024 :=
  BitVec.ofNat 1024 (leNum ((List.range 32).flatMap (fun k => leBytes 4 (rd s (Reg.OTP_PROG k)).toNat)))

/-- R417: OTP_CMD. `verified` is what the readback finds. A generation that fails it is consumed. -/
def execOtpProgram (w : Word) (verified : Bool) (s : State) : Out :=
  .next (
    if !bitAt w 0 then s
    else if bits w 31 24 ≠ 0x5C ∨ s.crp.mode ≠ .maintain ∨ lc s = 4 then otpReject s
    else if 5 ≤ s.upd.gens.length then sticky Reg.OTP_STICKY 0 s
    else if verified then setUpd { s.upd with gens := s.upd.gens ++ [progData s] } s
    else sticky Reg.OTP_STICKY 1 (setUpd { s.upd with gens := s.upd.gens ++ [0] } s))

/-! ### Images (R422) -/

/-- The floor in force (R428). -/
def floorNow (u : Upd) : Nat := max (popCount 1024 u.floorBits.toNat) u.floorVbat

/-- What the bytes of an image set spell (Table 14.9): SIG is ECDSA P-384 over bytes 0 to 383 and 512 to TOTAL_LEN − 1, under
PUBKEY. -/
def parseImage (b : List Byte) : Image :=
  let key := (b.drop 32).take 96
  let len := leAt b 16 4
  { magic := BitVec.ofNat 32 (leAt b 0 4), format := leAt b 4 2, grades := leAt b 6 1, version := BitVec.ofNat 32 (leAt b 8 4),
    svn := leAt b 12 2, totalLen := len,
    comps := (List.range (leAt b 14 2)).map (fun i => (leAt b (128 + 16 * i) 1, leAt b (132 + 16 * i) 4, leAt b (136 + 16 * i) 4)),
    keyDigest := digest384 key, sigOk := ecdsaP384 key (b.take 384 ++ (b.take len).drop 512) ((b.drop 384).take 96),
    whole := decide (len ≤ b.length), bytes := b }

/-- The image set is complete (R422), with the header that Table 14.9 gives one. -/
def imageComplete (g : Grade) (i : Image) : Bool :=
  i.whole && decide (i.magic = 0x4958544C) && decide (i.format = 1) && decide (7 ≤ i.comps.length) && decide (i.comps.length ≤ 16) &&
  decide (512 ≤ i.totalLen) && decide (i.totalLen ≤ 12582912) &&
  (List.range 7).all (fun t => decide ((i.comps.filter (fun c => c.1 = t)).length = 1)) &&
  i.comps.all (fun c => decide (c.2.1 + c.2.2 ≤ i.totalLen)) &&
  decide (i.grades / (match g with | .l => 1 | .s => 2) % 2 = 1)

/-- Key digest and signature hold. -/
def imageAuthentic (u : Upd) (i : Image) : Bool := decide (i.keyDigest = u.imageKey) && i.sigOk

/-- The image may run: verified and complete under R422, and not below the floor. -/
def imageUsable (g : Grade) (u : Upd) (i : Option Image) : Bool :=
  match i with
  | some i => imageAuthentic u i && imageComplete g i && decide (floorNow u ≤ i.svn)
  | none => false

/-- The outcome of a commit whose blocks are all there (R424, R15). -/
def imageStatus (s : State) (i : Image) : Nat :=
  if !imageAuthentic s.upd i then 7
  else if !imageComplete s.grade i then 0x81
  else if i.svn < floorNow s.upd then 0x82
  else 0

/-! ### Staging sessions (R423, R424) -/

/-- A session opens: STAGING is RECEIVING, activation is disarmed. -/
def openSession (source len : Nat) (s : State) : State :=
  let n := (s.upd.sessions + 1) % 2 ^ 32
  setUpd { s.upd with sessions := n, session := some ⟨n, source, len, [], s.tim.now⟩, staging := .receiving, armed := false,
                      stagingImg := none } s

/-- A session ends without a successful commit. -/
def failSession (s : State) : State := setUpd { s.upd with session := none, staging := .invalid, stagingImg := none } s

/-- A committed image: STAGING is VERIFIED and activation is armed. -/
def commitSession (i : Image) (s : State) : State :=
  setUpd { s.upd with session := none, staging := .verified, stagingImg := some i, armed := true } s

/-- TOTAL_LEN is one that Table 14.9 allows. -/
def lenOk (n : Nat) : Bool := decide (512 ≤ n) && decide (n ≤ 12582912)

/-- The blocks of a session, and the length of block `k`. -/
def blockCount (x : Session) : Nat := ceilDiv x.totalLen 65536
def blockLen (x : Session) (k : Nat) : Nat := min 65536 (x.totalLen - 65536 * k)

/-- Block `k` as it reads back from STAGING is whole, and its CRC is the one given (R424). -/
def blockGood (x : Session) (k crc : Nat) (data : List Byte) : Bool :=
  decide (data.length = blockLen x k) && decide (crc32c data = crc)

/-- Block `k` arrives: the last copy stands, and a bad copy leaves the block unreceived. -/
def takeBlock (x : Session) (k crc : Nat) (data : List Byte) (s : State) : State :=
  let rest := x.blocks.filter (fun b => b.1 ≠ k)
  setUpd { s.upd with session := some { x with blocks := if blockGood x k crc data then rest ++ [(k, data)] else rest, last := s.tim.now } } s

/-- The bytes of STAGING: the blocks in order. -/
def stagedBytes (x : Session) : List Byte :=
  (List.range (blockCount x)).flatMap (fun k => ((x.blocks.find? (fun b => b.1 = k)).map (·.2)).getD [])

/-- The image set that STAGING holds. -/
def stagedImage (x : Session) : Image := parseImage (stagedBytes x)

/-- Commits the session of `x`: the status, and what it leaves. -/
def commitOf (x : Session) (s : State) : State × Nat :=
  let i := stagedImage x
  let code := if x.blocks.length < blockCount x then 0x81 else imageStatus s i
  (if code = 0 then commitSession i s else failSession s, code)

/-- The session that the host holds under number `n`. -/
def hostSession (s : State) (n : Nat) : Option Session :=
  match s.upd.session with
  | some x => if x.source = 1 ∧ x.number = n then some x else none
  | none => none

/-- A TOTAL_LEN out of range completes BAD_BLOCK (assumption 48). -/
def stageOpen (b : List Byte) (s : State) : State × Nat × List Byte :=
  if s.upd.session.isSome then (s, 3, [])
  else if !lenOk (leAt b 0 4) then (s, 0x80, [])
  else let s := openSession 1 (leAt b 0 4) s; (s, 0, leBytes 4 s.upd.sessions)

def execStageOpen (s : State) : Out := .next (withCmd 6 0x28 stageOpen s)

/-- `data`: the block as it reads back from STAGING; it is read from host memory once DMA is allowed (R349). -/
def stageBlock (data : List Byte) (b : List Byte) (s : State) : State × Nat × List Byte :=
  match hostSession s (leAt b 0 4) with
  | none => (s, 0x83, [])
  | some x =>
    let k := leAt b 4 2
    if blockCount x ≤ k ∨ leAt b 8 4 ≠ blockLen x k then (s, 0x80, [])
    else (takeBlock x k (leAt b 12 4) data s, if blockGood x k (leAt b 12 4) data then 0 else 0x80, [])

def execStageBlock (data : List Byte) (s : State) : Out := .next (if s.io.dmaHeld then s else withCmd 6 0x29 (stageBlock data) s)

def stageCommit (b : List Byte) (s : State) : State × Nat × List Byte :=
  match hostSession s (leAt b 0 4) with
  | none => (s, 0x83, [])
  | some x => let r := commitOf x s; (r.1, r.2, [])

/-- The command next in turn names session `n`. -/
def namesSession (s : State) (n : Nat) : Bool :=
  match pickJob s 6 (fun _ => true) with
  | some j => decide (leAt (cmdBody j) 0 4 = n)
  | none => false
/-- R424: STAGE_COMMIT of the session `n`. -/
def execStageCommit (n : Nat) (s : State) : Out :=
  .next (if namesSession s n then withCmd 6 0x2A stageCommit s else s)

def stageAbort (b : List Byte) (s : State) : State × Nat × List Byte :=
  match hostSession s (leAt b 0 4) with
  | none => (s, 0x83, [])
  | some _ => (failSession s, 0, [])

def execStageAbort (s : State) : Out := .next (withCmd 6 0x2B stageAbort s)

/-- R423: TIMEOUT_S without a block. -/
def execSessionTimeout (s : State) : Out :=
  .next (match s.upd.session with
    | some x => if x.last + fld s Reg.UPD_CFG 7 0 * tSec ≤ s.tim.now then sticky Reg.UPD_STICKY 4 (failSession s) else s
    | none => s)

/-! ### The peer path -/

/-- R423: an open record of the peer. Where it gets no session, the peer is told, and its push ends. -/
def execPeerOpenRecord (totalLen : Nat) (s : State) : Out :=
  .next (
    if !pairUp s then s
    else if dropsNext s 10 then dropTaken 10 s
    else if s.upd.session.isSome then emit (.pair 7 [0]) s
    else if !lenOk totalLen then emit (.pair 7 [2]) s
    else openSession 2 totalLen s)

/-- R424: a block of the peer's push (its number, its CRC and the data as they read back), or its commit; the outcome of the
commit is reported to the pushing unit. -/
def execPeerStageRecord (block : Option Nat) (crc : Nat) (data : List Byte) (s : State) : Out :=
  .next (
    if !pairUp s then s
    else if dropsNext s 10 then dropTaken 10 s
    else match s.upd.session with
      | none => s
      | some x =>
        if x.source ≠ 2 then s
        else match block with
          | some k => if blockCount x ≤ k then s else takeBlock x k crc data s
          | none => let r := commitOf x s; emit (.pair 7 [if r.2 = 0 then 1 else 2]) r.1)

/-- The image that a push sends. -/
def pushImage (s : State) : Option Image := if s.upd.staging = .verified then s.upd.stagingImg else s.upd.active

/-- The blocks of an image that a push carries: number, CRC, data (R424). They cover TOTAL_LEN; bytes that the image does not list are 0
(assumption 7). -/
def pushBlocks (i : Image) : List (Nat × Nat × List Byte) :=
  (List.range (ceilDiv i.totalLen 65536)).map (fun k =>
    let d := padTo (min 65536 (i.totalLen - 65536 * k)) (i.bytes.drop (65536 * k))
    (k, crc32c d, d))

/-- A push goes out: the open record, the blocks, the commit. -/
def sendPush (i : Image) (s : State) : State :=
  let s := emit (.pair 5 (leBytes 4 i.totalLen)) s
  let s := (pushBlocks i).foldl (fun s b => emit (.pair 8 (leBytes 2 b.1 ++ leBytes 4 b.2.1 ++ b.2.2)) s) s
  emit (.pair 6 (leBytes 4 i.totalLen)) s

/-- R423: UPD_CMD.PUSH_PEER. A push that cannot reach the peer has failed. -/
def execPushPeer (w : Word) (s : State) : Out :=
  .next (
    if !bitAt w 2 then s
    else if !s.pai.pair then updReject s
    else match pushImage s with
      | some i =>
        if pairUp s && s.pai.pathA.ok then
          sendPush i (setUpd { s.upd with push := 1 } s)
        else setUpd { s.upd with push := 3 } s
      | none => setUpd { s.upd with push := 3 } s)

/-! ### Confirmation, floor, configuration store -/

/-- R426: UPD_CMD.CONFIRM. Of an ACTIVE already confirmed it has no effect (Table 14.12). -/
def execConfirm (w : Word) (s : State) : Out :=
  .next (if bitAt w 0 && !s.upd.confirmed then setUpd { s.upd with confirmed := true, failed := 0 } s else s)

/-- R428: RAISE_FLOOR with CONFIRM. OTP programming is refused in RETIRED (Table 15.3). -/
def execRaiseFloor (w : Word) (s : State) : Out :=
  .next (
    if !bitAt w 0 || !bitAt w 1 then s
    else if lc s = 4 then updReject s
    else match s.upd.active with
      | some i =>
        setUpd { s.upd with floorBits := s.upd.floorBits ||| BitVec.ofNat 1024 (2 ^ min i.svn 1024 - 1),
                            floorVbat := max s.upd.floorVbat i.svn } s
      | none => s)

/-- UPD_STATUS.FALLBACK_STALE (R428). -/
def fallbackStale (s : State) : Bool := match s.upd.fallback with | some i => decide (i.svn < floorNow s.upd) | none => false

/-- R421: UPD_CMD.CFG_SAVE. -/
def execCfgSave (w : Word) (s : State) : Out :=
  .next (
    if bitAt w 3 then
      setUpd { s.upd with nv := { s.upd.nv with valid := true, regs := s.bank.regs.filter (fun e => (setOf e.1).isSome) } } s
    else s)

/-- The load of step 6: the stored values, or the register resets, stand in both copies of every set. -/
def loadSets (regs : Tab Word) (s : State) : State :=
  let keep (t : Tab Word) : Tab Word := t.filter (fun e => (setOf e.1).isNone)
  let set := regs.filter (fun e => (setOf e.1).isSome)
  let put (t : Tab Word) : Tab Word := set.foldl (fun t e => Tab.put RegMap.reset t e.1 e.2) (keep t)
  { s with bank := { s.bank with regs := put s.bank.regs, shadow := put s.bank.shadow } }

end Sys2Proof.Machine
end

