-- ==== Sys2Proof/Machine/Resets.lean ====
section
/-! DEFINITION. Clocks (R375 to R381), crossing FIFOs (R394, R395), region and port resets (R397, R400), power domains (R412
to R414) and device resets (R396, R493). -/
namespace Sys2Proof.Machine

/-! ### Clocks -/

/-- CRP_PLL_STATUS. -/
def pllStatus (s : State) : Word :=
  BitVec.ofNat 32 (s.crp.netLock.toNat + 16 * s.crp.netRef.toNat + 64 * b2n s.crp.pairLock + 128 * b2n s.crp.pcieLock +
    256 * b2n s.crp.memLock + 512 * b2n s.crp.nvLock)

/-- The recorder entry CLOCK_FAULT: 0 REF_IN, 1 FL Zenith, 2 BB Zenith. -/
def clockFault (k : Nat) (s : State) : State := record 0x40 k (leBytes 4 (pllStatus s).toNat) s

/-- The cross-check's failure ends once REF_OK and FL_LOCK both read 1 (R378). -/
def clockRestored (s : State) : State :=
  if s.crp.refOk && s.crp.flLock then setNfl { s.nfl with clockFault := false } s else s

/-- R377: instance 0 is FL, 1 is BB. -/
def execZenithLock (die : Nat) (s : State) : Out :=
  .next (
    if !pd1Runs s || !s.crp.refOk then s
    else if die = 0 then clockRestored (setCrp { s.crp with flLock := true } s)
    else if die = 1 ∧ pdState s 3 = .on then setIng { s.ing with held := false } (setCrp { s.crp with bbLock := true } s)
    else s)

/-- R378: also of a reference that was absent from the start. Without power, or in a brown-out, REF_IN is seen to be absent later (R494). -/
def execRefLost (s : State) : Out :=
  .next (
    if !pd1Runs s then setCrp { s.crp with refOk := false } s
    else nfTrigger 9 (clockFault 0 (sticky Reg.CRP_STICKY 0
      (setNfl { s.nfl with clockFault := true } (setCrp { s.crp with refOk := false } s)))))

def execFlUnlock (s : State) : Out :=
  .next (
    if !pd1Runs s || !s.crp.flLock then s
    else nfTrigger 9 (clockFault 1 (sticky Reg.CRP_STICKY 1
      (setNfl { s.nfl with clockFault := true } (setCrp { s.crp with flLock := false } s)))))

def execRefInRestored (s : State) : Out := .next (clockRestored (setCrp { s.crp with refOk := true } s))

/-- The cells of the crossings of a list are reset (R398, R399): a DROP that waits is lost. -/
def resetCrossings (l : List Nat) (s : State) : State := setCrp { s.crp with fifo := Tab.drop (fun k => l.contains k) s.crp.fifo } s

/-- Ingress is in reset: its registers, links and the sample buffer's captures (R89, R379). -/
def resetIngress (s : State) : State :=
  let s := clearStk 0x300000 0x400000 (clearRegs 0x300000 0x400000 (setIng { Ing.reset with held := true, silent := s.ing.silent } s))
  setTim { s.tim with bbValid := false } { s with acq := { s.acq with caps := [] } }

/-- R379. -/
def execBbUnlock (s : State) : Out :=
  .next (
    if !pd1Runs s || !s.crp.bbLock then s
    else
      let s := clockFault 2 (sticky Reg.CRP_STICKY 2 (setCrp { s.crp with bbLock := false } s))
      resetIngress ((List.range 4).foldl (fun s r => resetCorr r s) (resetCrossings [16, 17] s)))

/-- R379: ingress and the correlators are released; BB time is valid again once R303 has loaded the counter. -/
def execBbRelock (s : State) : Out :=
  .next (
    if s.ing.held && s.crp.refOk && pd1Runs s then setIng { s.ing with held := false } (setCrp { s.crp with bbLock := true } s)
    else s)

/-- The lock or reference that CRP_PLL_STATUS bit `k` shows is lost. Without PCIe's, device writes to host memory fail (R374; assumption
235). -/
def pllLost (k : Nat) (s : State) : State :=
  let c := s.crp
  match k with
  | 0 | 1 | 2 | 3 => linkLost k (setCrp { c with netLock := c.netLock &&& ~~~(BitVec.ofNat 4 (2 ^ k)) } s)
  | 4 => linkLost 1 (linkLost 0 (setCrp { c with netRef := c.netRef &&& 2, netLock := c.netLock &&& 0xC } s))
  | 5 => linkLost 3 (linkLost 2 (setCrp { c with netRef := c.netRef &&& 1, netLock := c.netLock &&& 0x3 } s))
  | 6 => setCrp { c with pairLock := false } s
  | 7 => setIo { s.io with lost := true } (setCrp { c with pcieLock := false } s)
  | 8 => setCrp { c with memLock := false } s
  | _ => setCrp { c with nvLock := false } s

/-- R381. The loss of NV_LOCK moves the recorder to the lifeboat (R473). -/
def execAuxUnlock (k : Nat) (s : State) : Out :=
  .next (
    if 10 ≤ k ∨ pd1Runs s = false then s
    else
      let s := pllLost k (sticky Reg.CRP_STICKY 3 s)
      if k = 9 then nvFailed s else s)

/-! ### Ports -/

/-- Registers from `lo` to below `hi` outside every configuration set go back to their resets (assumption 49). -/
def clearPlain (lo hi : Nat) (s : State) : State :=
  let keep (t : Tab Word) : Tab Word := t.filter (fun e => e.1 < lo || decide (hi ≤ e.1) || (setOf e.1).isSome)
  clearStk lo hi { s with bank := ⟨keep s.bank.regs, s.bank.shadow, keep s.bank.low, keep s.bank.capt⟩ }

/-- The frames that a port holds; the one on the wire comes before those that wait (R361). -/
def portFrames (p : NetPort) : List TxFrame := p.tx.toList ++ p.q0 ++ p.q1 ++ p.q2 ++ p.q3 ++ p.q4 ++ p.q5

/-- A port is emptied: its receive FIFO, its queues, its link, its crossings. The model's reader has
no receive packet begun between commands; the frame on the wire is discarded as its owner does it. It keeps its NIGHTFALL SEQ. -/
def emptyPort (n : Nat) (s : State) : State :=
  let p := netPort s n
  (portFrames p).foldl (fun s f => discardFrame f s)
    (resetCrossings [n, n + 4] (setPort n { portDef n with nfSeq := p.nfSeq } s))

/-- NET_n is powered down or reset. -/
def resetPort (n : Nat) (s : State) : State :=
  clearPlain (0x1000000 + 0x40000 * n) (0x1000000 + 0x40000 * (n + 1)) (emptyPort n s)

/-- PAIR is powered down or reset: both paths stop. -/
def resetPairLink (s : State) : State :=
  let s := resetCrossings [10, 11] s
  let p := s.pai
  peerFail (setPai { p with pathA := pathDown, pathB := pathDown, sync := 0, sentRecs := [], peerReadySince := none, returnOk := none,
                            bothSince := none, lostReady := if paiReady s then some s.tim.now else p.lostReady } s)

/-- Some side of a port's reset is set without the other (R400). -/
def splitSides (mac fab : BitVec 4) : BitVec 4 := mac ^^^ fab

/-- Both sides of port `n` are in reset. -/
def bothSides (s : State) (n : Nat) : Bool := s.crp.macRst.getLsbD n && s.crp.fabRst.getLsbD n

/-- Port `n` after a write of CRP_NET_RST: its link goes with the MAC side, what it holds once both sides are in reset. -/
def netSides (old : State) (s : State) (n : Nat) : State :=
  let s := if s.crp.macRst.getLsbD n && !old.crp.macRst.getLsbD n then linkLost n s else s
  if bothSides s n && !bothSides old n then emptyPort n s else s

/-- R400. -/
def execCrpNetRst (w : Word) (s : State) : Out :=
  let ports := BitVec.ofNat 4 (2 ^ gradePorts s - 1)
  let mac := BitVec.ofNat 4 (bits w 3 0) &&& ports
  let fab := BitVec.ofNat 4 (bits w 11 8) &&& ports
  let split := splitSides mac fab
  let hold := s.crp.netHold ||| split
  let seen := (s.crp.bothSeen ||| (mac &&& fab)) &&& hold
  let ends := seen &&& ~~~mac &&& ~~~fab
  let s' := setCrp { s.crp with macRst := mac, fabRst := fab, netHold := hold &&& ~~~ends, bothSeen := seen &&& ~~~ends } s
  .next ((List.range 4).foldl (netSides s) (stickyIf (decide (split ≠ 0)) Reg.CRP_STICKY 4 s'))

/-! ### Crossing FIFOs -/

/-- FIFO `k` exists on this grade, and the port that it belongs to is powered (R21). -/
def fifoExists (s : State) (k : Nat) : Bool :=
  decide (k < 20) && !(decide (k < 8) && !portPowered s (k % 4))

/-- DROP on a FIFO that the model holds by packets (R394). -/
def dropPacket (f : Fifo) : Fifo :=
  if f.dropping then f
  else match f.packets with
    | (_, true) :: rest => { f with packets := rest, midPacket := false }
    | (n, false) :: rest => { f with packets := (n, false) :: rest, dropping := true }
    | [] => { f with dropNext := true }

/-- DROP at FIFO `k` (R394). A receive FIFO holds whole frames; the current packet of a transmit FIFO is the frame on the
wire. -/
def fifoDrop (k : Nat) (s : State) : State :=
  if k < 4 then
    let p := netPort s k
    if p.fifo.isEmpty then setFifo k { fifo s k with dropNext := true } s else popHead k s
  else if k < 8 then
    let p := netPort s (k - 4)
    match p.tx with
    | some f => discardFrame f (setPort (k - 4) { p with tx := none } s)
    | none => setFifo k { fifo s k with dropNext := true } s
  else setFifo k (dropPacket (fifo s k)) s

/-- R394: CRP_FIFO_k_CMD, in MAINTAIN only (R2). -/
def execFifoDrop (k : Nat) (w : Word) (s : State) : Out :=
  .next (if fifoExists s k && bitAt w 0 && decide (s.crp.mode = .maintain) then fifoDrop k s else s)

/-- R395: the packet that holds the word is dropped, and counted where the owner counts drops. A packet of FIFOs 8 to 19 is under way: it
is the next to arrive (assumption 29). -/
def execFifoUe (k : Nat) (s : State) : Out :=
  .next (
    if !fifoExists s k || !pd1Runs s then s
    else
      let s := record 0x41 k (leBytes 4 0) (sticky Reg.CRP_STICKY 5 s)
      if k < 4 then (if (netPort s k).fifo.isEmpty then s else inc (Reg.NET_CNT k 4) 1 (popHead k s))
      else if k < 8 then (if (netPort s (k - 4)).tx.isSome then fifoDrop k s else s)
      else fifoDrop k s)

/-! ### Regions -/

/-- A region's bit in CRP_RST_STATUS. -/
def inResetSet (b : Nat) (s : State) : State := setCrp { s.crp with inReset := s.crp.inReset ||| BitVec.ofNat 9 (2 ^ b) } s
def inResetEnd (b : Nat) (s : State) : State := setCrp { s.crp with inReset := s.crp.inReset &&& ~~~(BitVec.ofNat 9 (2 ^ b)) } s

/-- Jobs that an executor had taken go back to the head of their flows. -/
def requeueJobs (e : Nat) (s : State) : State :=
  setDsp { s.dsp with jobs := s.dsp.jobs.map (fun j => if executor j.kind = e then { j with inService := false, engine := none } else j) } s

/-- Region FIX is reset (R199): slots, engines, quarantine. PST_MISMATCH_CNT counts since device reset (R204). -/
def resetFix (s : State) : State :=
  let n := rd s Reg.PST_MISMATCH_CNT
  wr Reg.PST_MISMATCH_CNT n (requeueJobs 1 (clearPlain 0xA00000 0xC00000 { s with pst := Pst.reset }))

/-- Region CHART is reset (R238): ledger, graphs, routes, the error. The dispatcher keeps its sequence number. -/
def resetChart (s : State) : State :=
  let s := requeueJobs 2 (setCht { Cht.reset with nextSeq := s.cht.nextSeq, period := s.cht.period } s)
  clearPlain 0xC00000 0xE00000 s

/-- Regions of CRP_RST_CMD that this write commands: a write with DEVICE set is a device reset or is ignored. -/
def rstAsks (w : Word) (b : Nat) : Bool := bitAt w b && !bitAt w 0

/-- The write asks for FIX or CHART outside MAINTAIN: it is refused whole (R402, R429). -/
def rstRefused (w : Word) (s : State) : Bool := (rstAsks w 6 || rstAsks w 7) && decide (s.crp.mode ≠ .maintain)

/-- R397: CRP_RST_CMD.CORR. A region that is powered down ignores it. -/
def execCorrReset (w : Word) (s : State) : Out :=
  .next ((List.range 4).foldl (fun s r =>
    if rstAsks w (1 + r) && !rstRefused w s && decide (pdState s (4 + r) = .on) then inResetSet (1 + r) (resetCorr r s) else s) s)

/-- A power-down that waited for the searches need wait no longer (R413). -/
def execAcqReset (w : Word) (s : State) : Out :=
  .next (if rstAsks w 5 && !rstRefused w s && decide (pdState s 8 = .on) then acqDownCheck (inResetSet 5 (resetAcq s)) else s)

def execFixReset (w : Word) (s : State) : Out :=
  .next (
    if !rstAsks w 6 then s
    else if s.crp.mode ≠ .maintain then crpReject s
    else if pdState s 9 = .on then inResetSet 6 (resetFix s) else s)

def execChartReset (w : Word) (s : State) : Out :=
  .next (
    if !rstAsks w 7 then s
    else if s.crp.mode ≠ .maintain then crpReject s
    else if pdState s 10 = .on then inResetSet 7 (resetChart s) else s)

/-- R397: every port and PAIR. -/
def execNetReset (w : Word) (s : State) : Out :=
  .next (
    if rstAsks w 8 && !rstRefused w s && decide (pdState s 12 = .on) then
      let s := (List.range 4).foldl (fun s n => resetPort n s) (inResetSet 8 s)
      if s.pai.pair then resetPairLink s else s
    else s)

/-- R397: the reset of the region with this bit position completes. -/
def execRegionResetDone (b : Nat) (s : State) : Out :=
  .next (if 1 ≤ b ∧ b ≤ 8 then inResetEnd b s else s)

/-! ### Power domains (R412 to R414) -/

/-- The power domain of bit `b` of CRP_PWR_REQ: CORR_0 to CORR_3, ACQ, NET_0 to NET_3, PAIR. -/
def pwrDomain (b : Nat) : Nat := if b < 5 then 4 + b else if b < 9 then 11 + b else 20

/-- The bits of CRP_PWR_REQ that this grade has. -/
def pwrMask (s : State) : Word := match s.grade with | .l => 0x3FF | .s => 0x273

/-- A context of region `r` is ARMED or RUN. -/
def corrBusy (s : State) (r : Nat) : Bool :=
  s.cor.ctx.any (fun e => decide (e.1 / 512 = r) && (decide (e.2.state = .armed) || decide (e.2.state = .run)))

/-- R413: the power-down of bit `b` is refused. -/
def pwrRefused (s : State) (b : Nat) : Bool :=
  decide (s.crp.mode = .boot) || (decide (b < 4) && corrBusy s b) || (decide (b = 9) && s.pai.pair && decide (s.crp.mode ≠ .maintain))

/-- What a domain loses when its power goes. -/
def domainLost (b : Nat) (s : State) : State :=
  if b < 4 then { resetCorr b s with cor := { (resetCorr b s).cor with code := Tab.drop (fun k => k / 2 ^ 20 = b) (resetCorr b s).cor.code } }
  else if b = 4 then acqLost s
  else if b < 9 then resetPort (b - 5) s
  else if s.pai.pair then resetPairLink s
  else s

/-- The domain of bit `b` is isolated; it is off within 100 µs. -/
def powerDown (b : Nat) (s : State) : State := setPd (pwrDomain b) .isolated (domainLost b s)

/-- One bit of a write of CRP_PWR_REQ. -/
def pwrBit (old new : Word) (s : State) (b : Nat) : State :=
  let was := bitAt old b
  let now := bitAt new b
  if was && !now then
    if pwrRefused s b then sticky Reg.CRP_PWR_STICKY 0 (wr Reg.CRP_PWR_REQ (rd s Reg.CRP_PWR_REQ ||| oneHot b) s)
    else if pdState s (pwrDomain b) ≠ .on ∧ pdState s (pwrDomain b) ≠ .ramping then s
    else if b = 4 ∧ s.acq.pipe ≠ [] then setCrp { s.crp with acqDownWaits := true } s
    else powerDown b s
  else if !was && now then
    let s := if b = 4 then setCrp { s.crp with acqDownWaits := false } s else s
    if pdState s (pwrDomain b) = .on ∨ s.crp.mode = .boot then s else setPd (pwrDomain b) .ramping s
  else s

/-- R412, R413: a write of CRP_PWR_REQ. -/
def execPowerRequest (w : Word) (s : State) : Out :=
  let old := rd s Reg.CRP_PWR_REQ
  let new := w &&& pwrMask s
  .next ((List.range 10).foldl (pwrBit old new) (wr Reg.CRP_PWR_REQ new s))

/-- A domain that has powered up is reset under R397: nothing that it held is left. -/
def domainReset (k : Nat) (s : State) : State :=
  if 4 ≤ k ∧ k < 8 then resetCorr (k - 4) s
  else if k = 8 then resetAcq s
  else if 16 ≤ k ∧ k < 20 then resetPort (k - 16) s
  else s

/-- R412: a domain is off, or is up, reset and released. -/
def execPowerRampDone (k : Nat) (s : State) : Out :=
  .next (match pdState s k with
    | .isolated => setPd k .off s
    | .ramping => setPd k .on (domainReset k s)
    | _ => s)

end Sys2Proof.Machine
end

