-- ==== Sys2Proof/Machine/StartUp.lean ====
section
/-! DEFINITION. The steps of a start (Table 14.4), what a start that is stopped has done, the resets of the device (R396). -/
namespace Sys2Proof.Machine

/-! ### Steps -/

/-- The domains of a list are on. -/
def setPdsOn (l : List Nat) (s : State) : State := setCrp { s.crp with pd := l.foldl (fun t k => Tab.put pdDef t k .on) s.crp.pd } s

/-- Step 2: the live generation and what it and the calibration field of OTP set; PD_2, PD_11 and PD_14 are powered. A wake start does
not reset PD_1, so it keeps the calibration registers and CRP_NETREF. -/
def bootOtp (s : State) : State :=
  let s := setPdsOn [2, 11, 14] s
  let s := setUpd { s.upd with liveGen := liveOf 1 s.upd.gens } s
  let s := setCrp { s.crp with pairOp := cfgPair s } s
  let s := setPai { s.pai with pair := cfgPair s } s
  if 2 ≤ s.crp.wake then s
  else
    let s := wr Reg.TIM_BB_LAT s.upd.bbLatOtp (wr Reg.CRP_NETREF (BitVec.ofNat 32 (cfgNetRef s)) s)
    (List.range 4).foldl (fun s n => wr (Reg.TIM_PORT_LAT_10G n) s.upd.lat10G (wr (Reg.TIM_PORT_LAT_1G n) s.upd.lat1G s)) s

/-- The recorder entry TAMPER (R454). -/
def tamperRecord (s : State) : State :=
  record 0x49 s.key.cause.toNat (leBytes 4 s.key.causeTime.toNat ++ leBytes 4 (lc s)) s

/-- Step 3: LPDDR5 and NV training. -/
def bootMem (s : State) : State := setCrp { s.crp with memLock := true, nvLock := true } s

/-- Step 3: the recorder scan, then one entry for each tamper event that waits for it (R454). -/
def bootRecorder (s : State) : State :=
  let s := recUp (bootMem s)
  (List.range s.key.recordsOwed).foldl (fun s _ => tamperRecord s) (setKey { s.key with recordsOwed := 0 } s)

/-- ACTIVE goes to FALLBACK, STAGING to ACTIVE. -/
def activate (i : Image) (s : State) : State :=
  setUpd { s.upd with fallback := s.upd.active, active := some i, staging := .empty, stagingImg := none, confirmed := false, failed := 0,
                      armed := false, journal := none } s

/-- FALLBACK is copied to ACTIVE (R426). -/
def fallBack (s : State) : State :=
  sticky Reg.UPD_STICKY 2 (setUpd { s.upd with active := s.upd.fallback, confirmed := true, journal := none } s)

/-- BOOT_SEL as it acts (R415). -/
def bootSelNow (s : State) : Nat := if cfgBootSelEn s then (if 4 ≤ s.crp.bootSel then 0 else s.crp.bootSel) else 0

/-- Step 3: the activation (R425). A copy in progress is resumed. A start from FALLBACK leaves ACTIVE untouched, an armed activation
for a later start (BOOT_SEL 0b010). -/
def bootActivate (s : State) : State :=
  if bootSelNow s = 2 then s
  else match s.upd.journal with
  | some (back, _) =>
    let s := sticky Reg.UPD_STICKY 3 s
    if back then fallBack s
    else match s.upd.stagingImg with | some i => activate i s | none => setUpd { s.upd with journal := none } s
  | none =>
  if !s.upd.armed then s
  else match s.upd.stagingImg with
    | none => setUpd { s.upd with armed := false, staging := .invalid } s
    | some i =>
      let code := imageStatus s i
      if code = 0 then activate i s
      else sticky Reg.UPD_STICKY (if code = 0x82 then 1 else 0) (setUpd { s.upd with armed := false, staging := .invalid, stagingImg := none } s)

/-- ACTIVE cannot run, or has failed three starts (R426). -/
def mustFall (s : State) : Bool :=
  !imageUsable s.grade s.upd s.upd.active || (!s.upd.confirmed && decide (3 ≤ s.upd.failed))

/-- Step 4: verification, the failed-start count and falling back (R426, R427). The Bool: an image can run. BLANK has no image
key and starts in recovery (R436). -/
def bootVerify (s : State) : State × Bool :=
  let usable := imageUsable s.grade s.upd s.upd.fallback
  let s := setUpd { s.upd with fallbackValid := match s.upd.fallback with | some i => imageAuthentic s.upd i | none => false } s
  if lc s = 0 ∨ bootSelNow s = 3 then (s, false)
  else if bootSelNow s = 2 then (s, usable)
  else if mustFall s then
    if usable then (fallBack s, true) else (s, false)
  else if s.upd.confirmed then (s, true)
  else (setUpd { s.upd with failed := s.upd.failed + 1 } s, true)

/-- Step 6: the NV configuration store; without a good one the resets of the registers apply. The ephemeris cache lives in the same
store (R421). -/
def bootConfig (s : State) : State :=
  let s := { s with ref := { s.ref with ephs := s.upd.nv.ephs } }
  if !cfgLoadEn s then s
  else if s.upd.nv.valid then loadSets s.upd.nv.regs s
  else sticky Reg.CRP_PWR_STICKY 2 (loadSets [] s)

/-- The START latch of a start that resets PD_2 (R292, R280): LATCH_ID moves on from the stored one. -/
def bootLatch (s : State) : State :=
  if 2 ≤ s.crp.wake then s
  else
    let id := (s.upd.nv.latchId + 1) % 2 ^ 32
    let s := setUpd { s.upd with nv := { s.upd.nv with latchId := id } } (setNfl { s.nfl with latchId := id } s)
    let s := perf 0x169 1 (stickyCount Reg.NFL_STICKY 0 (Reg.NFL_CNT 0) s)
    record 0x28 id (leBytes 1 11 ++ zeros 7 ++ timeBytes s.nfl.trig) s

/-- Step 6: key RAM from the NV key store; without a good one the slots whose copy fails are EMPTY (R440). -/
def bootKeys (s : State) : State :=
  let s := setKey { s.key with storeOk := s.key.nvOk } s
  if s.key.nvOk then (List.range 64).foldl (fun s k => if (keySlot s k).state = .valid then s else restoreKey k s) s
  else sticky Reg.KEY_STICKY 6 (setKey { s.key with slot := s.key.slot.filter (fun e => decide (e.2.state = .valid)) } s)

/-- The domains of the bits of a list that CRP_PWR_REQ requests. -/
def requested (l : List Nat) (s : State) : List Nat := (l.filter (fun b => bitAt (rd s Reg.CRP_PWR_REQ &&& pwrMask s) b)).map pwrDomain

/-- Step 6: PD_9, PD_10, PD_12 with its requested sub-domains, PD_13; the PCIe link trains. -/
def bootLink (s : State) : State :=
  let ports : BitVec 4 := BitVec.ofNat 4 (2 ^ gradePorts s - 1)
  let s := setPdsOn ([9, 10, 12, 13] ++ requested [5, 6, 7, 8, 9] s) s
  let s := setCrp { s.crp with netLock := ports, netRef := if s.grade = .l then 3 else 1, pairLock := true, pcieLock := true } s
  setIo { s.io with linkUp := true, speed := 4, width := 4, lost := false } s

/-- Step 7: PD_3 to PD_8 as requested; ingress with SYSREF MODE 2, PERIOD 1. A wake start skips the part of PD_3. -/
def bootPower (s : State) : State :=
  let s := setPdsOn (3 :: requested [0, 1, 2, 3, 4] s) s
  if 2 ≤ s.crp.wake then s
  else
    let s := wr Reg.ING_SYSREF_CTL (BitVec.ofNat 32 (2 + 2 ^ 16)) s
    setIng { s.ing with held := !s.crp.bbLock, sysrefAt := s.tim.now / (2 * tMs) } s

/-! ### Starts that are stopped (R416, R425, R426) -/

/-- Steps 2 to `n` of a start, in order. The Bool: an image can run; without one the start goes no further than step 4. -/
def bootThrough (n : Nat) (s : State) : State × Bool :=
  let s := if 2 ≤ n then bootOtp s else s
  let s := if 3 ≤ n then bootActivate (bootRecorder s) else s
  let p := if 4 ≤ n then bootVerify s else (s, true)
  if !p.2 then p
  else
    let s := if 6 ≤ n then bootLink (bootKeys (bootLatch (bootConfig p.1))) else p.1
    (if 7 ≤ n then bootPower s else s, true)

/-- Step 3 stops within the copies of an activation, at block `k` of the two: the journal says so (R425). -/
def copyBegun (k : Nat) (s : State) : State :=
  if s.upd.journal.isSome ∨ s.upd.armed = false ∨ bootSelNow s = 2 then s
  else match s.upd.stagingImg with
    | some i => if imageStatus s i = 0 then setUpd { s.upd with journal := some (false, k % (2 * ceilDiv i.totalLen 65536)) } s else s
    | none => s

/-- Step 4 stops within the copy of FALLBACK to ACTIVE (R426). -/
def fallBegun (k : Nat) (s : State) : State :=
  match s.upd.fallback with
  | some i =>
    if lc s ≠ 0 ∧ bootSelNow s < 2 ∧ mustFall s = true ∧ imageUsable s.grade s.upd (some i) = true then
      setUpd { s.upd with journal := some (true, k % ceilDiv i.totalLen 65536) } s
    else s
  | none => s

/-- The clocks of step 1 are there, and nothing has halted or holds the start. -/
def bootRuns (s : State) : Bool :=
  decide (s.crp.mode = .boot) && s.crp.booting && !s.crp.halted && !s.crp.brown && s.crp.flLock && s.crp.refOk

/-- What a start has done when something stops it. Table 14.4 gives times, not instants: how many steps are done, and how far a copy
has come, are free values (assumption 198). -/
def bootPart (s : State) : State :=
  if !bootRuns s then s
  else
    let n := freeVal s % 10
    let k := Config.free (s.free + 1)
    let s := { s with free := s.free + 2 }
    let s :=
      if n = 8 then copyBegun k (bootRecorder (bootThrough 2 s).1)
      else if n = 9 then fallBegun k (bootThrough 3 s).1
      else (bootThrough n s).1
    setCrp { s.crp with booting := false } s

/-! ### Device resets (R396) -/

/-- PD_0 with VBAT gone: key RAM, counters, tamper latch and clock are lost. -/
def loseVbat (s : State) : State :=
  let s := setKey { s.key with slot := [], vbatCtr := 0, cause := 0, causeTime := 0, recordsOwed := 0, lcOwed := false, lowOwed := false,
                               live := 0, rtcSec := 0,
                               rtcSub := 0, rtcAcc := 0, rtcCapt := 0, alarm := 0 } s
  setUpd { s.upd with floorVbat := 0 } (wr Reg.KEY_TAMP_CFG (RegMap.reset Reg.KEY_TAMP_CFG)
    (wr Reg.KEY_TAMP_TIMING (RegMap.reset Reg.KEY_TAMP_TIMING) s))

/-- The RTC's time: seconds and LPO cycles of 1/32,768 s (R451). -/
def rtcTime (k : Key) : Nat := k.rtcSec.toNat * tSec + k.rtcSub.toNat * tSec / 32768

/-- The recorder as a reset leaves it: what MRAM holds. A record in progress is lost, and its SEQ is formed again (Table 16.6). -/
def recKept (r : Rec) : Rec :=
  { Rec.reset with slots := r.slots, opened := r.opened, spares := r.spares, sparesOutTold := r.sparesOutTold,
                   nextSeq := match r.inProgress with | some x => x.seq | none => r.nextSeq }

/-- Every domain but PD_0 is as a reset leaves it. OTP, MRAM and the balls' levels stay; a start that is lost has done part of its
steps. -/
def resetAll (s : State) : State :=
  let vbat (a : Nat) : Bool := decide (a = Reg.KEY_TAMP_CFG) || decide (a = Reg.KEY_TAMP_TIMING)
  let s := bootPart s
  let u := s.upd
  let n := s.nfl
  let t := rtcTime s.key
  { State.reset with
    grade := s.grade, free := s.free, pending := s.pending,
    bank := { Bank.reset with regs := s.bank.regs.filter (fun e => vbat e.1) },
    io := { Io.reset with out := s.io.out },
    recorder := recKept s.recorder,
    crp := { Crp.reset with primary := s.crp.primary, bootSel := s.crp.bootSel, refOk := s.crp.refOk, brown := s.crp.brown,
                            pmuEn := s.crp.pmuEn, halted := s.crp.halted },
    upd := { u with session := none, staging := if u.session.isSome then .invalid else u.staging, push := 0, liveGen := 0, fallbackValid := false },
    tim := Tim.reset t,
    nfl := { Nfl.reset 0 t with supplyOk := n.supplyOk, inA := n.inA, inB := n.inB },
    key := { s.key with storeOk := false } }

/-- The outputs TP_k that are driven high. -/
def tpHigh (s : State) : List Nat :=
  if outputsOn s then (List.range 16).filter (fun k => tpExists s k && tpLevel s k (tpOut s k).ending.isSome) else []

/-- The pins as a reset leaves them: ACTIVE_OUT low, CLAIM_N released, and the outputs TP_k of the list, which were high, low (R489). -/
def resetPins (claim : Bool) (high : List Nat) (s : State) : State :=
  let s := high.foldl (fun s k => emit (.tp k false) s) (emit (.pin 1 false) s)
  if claim then emit (.pin 0 true) s else s

/-- Step 2 of a start as far as keys go: a life-cycle change owed by a tamper event is made (R453), and a NV key store
whose header names another state is emptied (R435). The stickies of a tamper event and of a low VBAT without power are set (R452,
R454). -/
def startKeys (s : State) : State :=
  let owed := s.key.lcOwed
  let s := stickyIf (decide (0 < s.key.recordsOwed)) Reg.KEY_STICKY 0 s
  let s := stickyIf s.key.lowOwed Reg.KEY_STICKY 5 (setKey { s.key with lowOwed := false } s)
  let s := if owed then lcTamper (setKey { s.key with lcOwed := false } s) else s
  if s.key.nvLc = lc s then s
  else keyLossCheck (setKey { s.key with slot := [], nvSlot := [], nvLc := lc s, nvOk := true } s)

/-- A device reset: CRP_RST_CAUSE bit `cause`, and CRP_MODE.WAKE. -/
def deviceReset (cause wake : Nat) (s : State) : State :=
  let claim := s.pai.claimDrive
  let high := tpHigh s
  let s := resetAll s
  startKeys (resetPins claim high (setCrp { s.crp with rstCause := oneHot cause, wake := wake } s))

/-- R396, R410: PD_1 reaches power-good, with the balls' levels. From DORMANT it is a wake; without VBAT DORMANT was not held (R494), and
outside DORMANT VBAT was lost as well. -/
def execPowerOn (primary : Bool) (bootSel : Nat) (x : Supply) (s : State) : Out :=
  let s' := if s.crp.mode = .dormant ∧ x.vbatHeld = true then deviceReset 4 1 s else deviceReset 0 0 (loseVbat (bootPart s))
  .next (setCrp { s'.crp with primary := primary, bootSel := bootSel % 8, refOk := x.refPresent, halted := false, brown := false,
                              pmuEn := true } s')

/-- R396: 1 µs resets, below 100 ns is filtered, between them the spec leaves it open: a free value decides. -/
def execResetN (lowNs : Nat) (s : State) : Out :=
  .next (
    if s.crp.mode = .dormant ∨ lowNs < 100 then s
    else if 1000 ≤ lowNs then deviceReset 1 0 s
    else if freeVal s % 2 = 1 then deviceReset 1 0 (freeNext s)
    else freeNext s)

/-- R493: more than 10 ns below a threshold; the reset holds until BROWN_OUT_END. -/
def execBrownOut (lowNs : Nat) (s : State) : Out :=
  .next (
    if s.crp.mode = .dormant ∨ lowNs ≤ 10 then s
    else let s := deviceReset 3 0 s; setCrp { s.crp with brown := true } s)

def execBrownOutEnd (s : State) : Out := .next (setCrp { s.crp with brown := false } s)

/-- CRP_RST_CMD.DEVICE; not in DORMANT (Table 14.2). -/
def execDeviceReset (w : Word) (s : State) : Out :=
  .next (
    if !bitAt w 0 ∨ s.crp.mode = .dormant then s
    else if bits w 31 24 = 0xA5 then deviceReset 2 0 s
    else crpReject s)

end Sys2Proof.Machine
end

