-- ==== Sys2Proof/Machine/Modes.lean ====
section
/-! DEFINITION. The end of a start, the changes of mode that commands and pins bring (Table 14.2), tamper events
(Table 15.10). -/
namespace Sys2Proof.Machine

/-! ### The end of a start -/

/-- The life-cycle state ends every start in MAINTAIN (Table 15.3). -/
def lcMaintain (s : State) : Bool := decide (lc s = 3) || decide (lc s = 4)

/-- SINGLE operation drives ACTIVE_OUT high from the end of BOOT (R322), in whatever mode that is. -/
def singleOut (s : State) : State := if s.pai.pair then s else emit (.pin 1 true) s

/-- Step 8: BOOT ends by Table 14.2. -/
def bootEnd (s : State) : State :=
  let s := singleOut (setCrp { s.crp with booting := false } s)
  if bootSelNow s ≠ 0 ∨ lcMaintain s = true then nfTrigger 12 (setMode .maintain s)
  else if s.pai.pair then startListening s
  else servingMode s

/-- Recovery (R427): PD_11, PD_13, PD_14 and the NV die are powered beside PD_0 to PD_2; BOOT ends in MAINTAIN. -/
def bootRecovery (s : State) : State :=
  let pd := ([0, 1, 2, 11, 13, 14] : List Nat).foldl (fun t k => Tab.put pdDef t k PdState.on) []
  let s := setCrp { s.crp with pd := pd, recovery := true, booting := false, pcieLock := true, memLock := true, nvLock := true } s
  nfTrigger 12 <| setMode .maintain (bootLatch (singleOut (setIo { s.io with linkUp := true, speed := 4, width := 4, lost := false } s)))

/-- R416, Table 14.4: the start-up completes. Its steps are taken together at its end (assumption 50). -/
def execBootComplete (s : State) : Out :=
  .next (
    if !bootRuns s then s
    else
      let p := bootThrough 7 s
      if p.2 then bootEnd p.1 else bootRecovery p.1)

/-! ### Mode commands (R404) -/

def modeRefused (s : State) : State := sticky Reg.CRP_PWR_STICKY 1 s

/-- A write of CRP_MODE_CMD for TARGET `t`: a wrong KEY or a mode in which no row allows it changes nothing. -/
def modeCmd (t : Nat) (w : Word) (ok : Bool) (run : State → State) (s : State) : State :=
  if bits w 2 0 ≠ t then s
  else if decide (bits w 31 24 = 0x4D) && ok then run s
  else modeRefused s

/-- A mode is one of a list. -/
def modeIn (s : State) (l : List Mode) : Bool := l.contains s.crp.mode

/-- MAINTAIN ends: SINGLE as at the end of BOOT, PAIR listens (R337). -/
def leaveMaintain (s : State) : State := if s.pai.pair then startListening s else servingMode s

/-- The unit may leave MAINTAIN for service. -/
def maintainEnds (s : State) : Bool := decide (s.crp.mode = .maintain) && !s.crp.recovery

def execTargetSurvey (w : Word) (s : State) : Out :=
  .next (modeCmd 2 w (maintainEnds s || (decide (s.crp.mode = .serve) && nfSet s))
    (fun s => if s.crp.mode = .maintain then leaveMaintain s else setMode .survey s) s)

def execTargetServe (w : Word) (s : State) : Out :=
  .next (modeCmd 3 w (maintainEnds s || decide (s.crp.mode = .survey))
    (fun s => if s.crp.mode = .maintain then leaveMaintain s else setMode .serve s) s)

/-- A unit in MAINTAIN neither waits for its peer at start nor claims as it would there (R337 holds in STANDBY only). -/
def stopListening (s : State) : State :=
  if s.pai.starting then setPai { s.pai with starting := false, claimAt := none } s else s

/-- MAINTAIN is entered with Nightfall cause MODE. A standby goes on from the mirrored time (R343). -/
def toMaintain (s : State) : State := nfTrigger 12 (timCheckBound (adoptTime (setMode .maintain (stopListening s))))

def execTargetMaintain (w : Word) (s : State) : Out :=
  .next (modeCmd 7 w (modeIn s [.serve, .survey, .holdover, .standby]) toMaintain s)

/-- SNAPSHOT is entered with Nightfall cause MODE; a swap that waits is discarded (Table 14.12). -/
def toSnapshot (s : State) : State :=
  let s := nfTrigger 12 s
  let s := setMode .snapshot (setCrp { s.crp with snapAt := some s.tim.now, snapDown := false, swapWait := 0 } s)
  setAcq { s.acq with nextSnapS := ceilDiv s.tim.now tSec } s

def execTargetSnapshot (w : Word) (s : State) : Out :=
  .next (modeCmd 6 w (modeIn s [.serve, .survey, .holdover, .maintain]) toSnapshot s)

/-- Open records are committed; a retirement copy is given up, and its segment stays in the ring (assumption 241). -/
def commitOpen (s : State) : State := commitAll 70 (setRec { s.recorder with copying := none } s)

/-- R408: open records are committed and PMU_EN goes low. -/
def toDormant (s : State) : State :=
  let s := commitOpen s
  emit (.pin 2 false) (setCrp { s.crp with pmuEn := false } s)

def execTargetDormant (w : Word) (s : State) : Out :=
  .next (modeCmd 0 w (decide (s.crp.mode = .maintain)) toDormant s)

/-! ### SNAPSHOT and DORMANT -/

/-- Blocks of the address map that lie in PD_0 to PD_3, and ACQ's capture registers with the sample buffer. -/
def snapKeeps (a : Nat) : Bool :=
  let b := a / 0x100000
  decide (b = 0) || decide (b = 1) || decide (b = 2) || decide (b = 3) || decide (b = 8) || decide (b = 15) || decide (b = 19) || decide (b = 22)

/-- Every domain but PD_0 to PD_3 is powered down (Table 14.2). -/
def snapPowerDown (s : State) : State :=
  let s := commitOpen s
  let keep (t : Tab Word) : Tab Word := t.filter (fun e => snapKeeps e.1)
  let claim := s.pai.claimDrive
  let s : State := { s with
    bank := ⟨keep s.bank.regs, keep s.bank.shadow, keep s.bank.low, keep s.bank.capt⟩,
    io := { Io.reset with out := s.io.out, stk := keep s.io.stk },
    recorder := recKept s.recorder,
    crp := { s.crp with snapDown := true, pd := [(0, .on), (1, .on), (2, .on), (3, .on)], netLock := 0, netRef := 0, pairLock := false,
                        pcieLock := false, memLock := false, nvLock := false, inReset := 0, acqDownWaits := false, fifo := [] },
    upd := { s.upd with session := none, staging := if s.upd.session.isSome then .invalid else s.upd.staging, push := 0 },
    cor := Cor.reset, acq := { Acq.reset with caps := s.acq.caps, orders := s.acq.orders, nextSnapS := s.acq.nextSnapS },
    ref := Ref.reset, net := [], mach := [], pst := Pst.reset, cht := Cht.reset, dsp := Dsp.reset, tsk := Tsk.reset,
    nfl := { s.nfl with confirm := none, fleetRel := none, machRel := [], seenRel := [], keyLossAt := none, keyLossFired := false },
    pai := Pai.reset }
  resetPins claim [] (releaseDue s)

def execSnapshotPowerDown (s : State) : Out :=
  .next (match s.crp.snapAt with
    | some t =>
      if s.crp.mode = .snapshot ∧ s.crp.snapDown = false ∧ t + 20 * tMs ≤ s.tim.now then snapPowerDown s else s
    | none => s)

/-- The timer of CRP_SNAP_WAKE has expired. -/
def snapTimer (s : State) : Bool :=
  match s.crp.snapAt with
  | some t => decide (fld s Reg.CRP_SNAP_WAKE 19 0 ≠ 0) && decide (t + fld s Reg.CRP_SNAP_WAKE 19 0 * tSec ≤ s.tim.now)
  | none => false

/-- R411: a wake start. -/
def wakeStart (s : State) : State :=
  let wake := if snapTimer s then 3 else 2
  let s := if s.crp.snapDown then s else snapPowerDown s
  startKeys (setCrp { s.crp with mode := .boot, prev := .dormant, booting := true, halted := false, wake := wake, snapAt := none,
                                 snapDown := false, recovery := false } s)

def execSnapshotWake (s : State) : Out := .next (if s.crp.mode = .snapshot then wakeStart s else s)

/-- PMU_EN may be low: DORMANT, or the rails have yet to fall. -/
def pmuAsleep (s : State) : Bool := decide (s.crp.mode = .dormant) || !s.crp.pmuEn

/-- PMU_EN goes high. -/
def pmuOn (s : State) : State := emit (.pin 2 true) (setCrp { s.crp with pmuEn := true } s)

/-- R408. -/
def execWakeN (s : State) : Out := .next (if pmuAsleep s then pmuOn s else s)

/-- R451: the RTC, by the low 32 bits of its seconds, has reached a non-zero KEY_RTC_ALARM. -/
def execRtcAlarm (s : State) : Out := .next (if pmuAsleep s ∧ s.key.alarm ≠ 0 ∧ s.key.alarm.toNat ≤ s.key.rtcSec.toNat % 2 ^ 32 then pmuOn s else s)

/-- Table 14.2: only PD_0 stays. -/
def execMainRailsLost (s : State) : Out :=
  .next (
    if s.crp.mode = .dormant then s
    else
      let s := resetPins true (tpHigh s) (resetAll s)
      setCrp { s.crp with mode := .dormant, booting := false, halted := false, refOk := false, pd := [(0, .on)] } s)

/-! ### Tamper (R452 to R454) -/

/-- The enable bit of a source in KEY_TAMP_CFG: 0 to 3 TAMP_n, 4 mesh, 5 voltage, 6 temperature, 7 clock glitch. -/
def tampEnabled (s : State) (src : Nat) : Bool := flag s Reg.KEY_TAMP_CFG (if src < 4 then src else src + 4)

/-- Key RAM is zeroised. -/
def zeroiseRam (s : State) : State :=
  setKey { s.key with slot := s.key.slot.map (fun e => (e.1, if e.2.state = .valid then goneSlot else e.2)) } s

/-- A key operation runs: the check of a graph's signature (R209). -/
def keyOpRuns (s : State) : Bool := decide (s.cht.stage = 1)

/-- Every key operation is aborted: the load is refused for its key (assumption 196). -/
def abortKeyOps (s : State) : State :=
  if keyOpRuns s then sticky Reg.CHT_STICKY 8 (setCht { s.cht with stage := 3, failCode := 3, loadKey := none, loadHeld := false } s) else s

/-- The VBAT latch takes the cause; its time is that of the first event. -/
def latchTamper (src : Nat) (s : State) : State :=
  let off := modeIn s [.dormant, .snapshot]
  let bit (i : Nat) (c : Bool) : Word := if c then oneHot i else 0
  let first := decide (s.key.cause &&& 0xFF = 0)
  setKey { s.key with cause := s.key.cause ||| oneHot src ||| bit 8 off ||| bit 9 (decide (s.crp.mode = .boot)) |||
                        bit 10 (keyOpRuns s),
                      causeTime := if first then BitVec.ofNat 32 s.key.rtcSec.toNat else s.key.causeTime,
                      live := s.key.live ||| BitVec.ofNat 8 (2 ^ src), lcOwed := s.key.lcOwed || off } (abortKeyOps s)

/-- The entry TAMPER, now or as soon as the recorder is up. -/
def tamperNote (s : State) : State :=
  if s.recorder.store = .notUp then setKey { s.key with recordsOwed := s.key.recordsOwed + 1 } s else tamperRecord s

/-- Table 15.10. The life-cycle change of an event without PD_1's cores follows at step 2 of the next start. -/
def tamperRespond (s : State) : State :=
  match s.crp.mode with
  | .dormant => pmuOn (setKey { s.key with recordsOwed := s.key.recordsOwed + 1 } s)
  | .snapshot => wakeStart (setKey { s.key with recordsOwed := s.key.recordsOwed + 1 } s)
  | .boot => let t := bootPart s; tamperNote (lcTamper (setCrp { t.crp with booting := s.crp.booting, halted := true } t))
  | .maintain => tamperNote (lcTamper (keyLossCheck s))
  | .serve | .survey | .holdover | .standby =>
    let s := toMaintain s
    tamperNote (lcTamper (keyLossCheck (setPai { s.pai with tampStop := true } s)))

/-- The under-voltage half of the voltage source acts: the rails are there, and no brown-out holds the device in reset. A power loss
never quarantines it (R493, Table 15.9). -/
def underArmed (s : State) : Bool := pd1Runs s

/-- R453: source `src` fires; `under` is the under-voltage half of the voltage source. The
glitch monitor runs on PD_1's clocks, or on the LPO in DORMANT. -/
def execTamperEvent (src : Nat) (under : Bool) (s : State) : Out :=
  .next (
    if 8 ≤ src ∨ tampEnabled s src = false ∨ (src = 5 ∧ under = true ∧ underArmed s = false) then s
    else
      let s := latchTamper src (zeroiseRam s)
      tamperRespond (stickyIf (decide (s.crp.mode ≠ .dormant)) Reg.KEY_STICKY 0 s))

end Sys2Proof.Machine
end

