-- ==== Sys2Proof/Machine/RegisterRead.lean ====
section
/-! DEFINITION. What a host read of BAR0 returns (R2, R7, R8, R11, R350, R418): the value of every register of the
map and of the recorder window. A read that also changes state has a row of its own; this file changes nothing. -/
namespace Sys2Proof.Machine

/-- A word from its fields: each value at its lowest bit. -/
def pack (l : List (Nat × Nat)) : Word := BitVec.ofNat 32 ((l.map (fun p => p.2 * 2 ^ p.1)).sum)

/-- Low and high word of a number. -/
def loWord (n : Nat) : Word := BitVec.ofNat 32 n
def hiWord (n : Nat) : Word := BitVec.ofNat 32 (n / 2 ^ 32)

/-- A signed number of 32 bits. -/
def signWord (i : Int) : Word := BitVec.ofInt 32 i

/-- A number that saturates at 32 bits. -/
def satWord (n : Nat) : Word := BitVec.ofNat 32 (min n 0xFFFFFFFF)

/-- A mask of the indexes below `n` that satisfy `p`. -/
def maskOf (n : Nat) (p : Nat → Bool) : Nat := (((List.range n).filter p).map (fun k => 2 ^ k)).sum

/-! ### Which registers can be reached -/

/-- The host region runs, so that BAR0 answers (R348; Table 1.4, PD_13). -/
def hostUp (s : State) : Bool := decide (pdState s 13 = .on)

/-- The register that an address names on this grade (R2, R350). -/
def regAt (s : State) (a : Nat) : Option RegDesc :=
  match RegMap.find a with
  | some d => if RegMap.index d a < (match s.grade with | .l => d.count | .s => d.countS) then some d else none
  | none => none

/-- The region of the register runs (R21). The COR_ registers outside the contexts belong to no single region; REF_,
DSP_, TSK_ and the rest live in regions that run whenever BAR0 answers. -/
def regionUp (s : State) (d : RegDesc) (a : Nat) : Bool :=
  match a / 2 ^ 20 with
  | 3 => bbUp s
  | 4 | 5 | 6 | 7 =>
    if Reg.COR_CFG 0 ≤ a then corrUp s ((a - Reg.COR_CFG 0) / 0x40 / 512)
    else if d.base = Reg.COR_QUAR 0 then corrUp s (RegMap.index d a) else true
  | 8 => acqUp s
  | 10 => fixUp s
  | 12 => chartUp s
  | 16 => portUp s (RegMap.index d a)
  | 17 => a = Reg.PAI_STATUS || paiRuns s
  | _ => true

/-- The register answers in this life-cycle state and mode (R2): KEY_PROV outside BLANK does not. -/
def stateAllows (s : State) (d : RegDesc) : Bool := !(decide (d.base = Reg.KEY_PROV 0) && decide (lc s ≠ 0))

/-- The register that an access reaches; none where the access is forbidden in the sense of R2. -/
def reached (s : State) (a : Nat) : Option RegDesc :=
  if hostUp s then
    match regAt s a with
    | some d => if regionUp s d a && stateAllows s d then some d else none
    | none => none
  else none

/-! ### Status registers, block by block; none where the register is a plain one -/

def modeCode (m : Mode) : Nat :=
  match m with
  | .dormant => 0 | .boot => 1 | .survey => 2 | .serve => 3 | .holdover => 4 | .standby => 5 | .snapshot => 6 | .maintain => 7

def pdCode (p : PdState) : Nat := match p with | .off => 0 | .ramping => 1 | .on => 2 | .isolated => 3

/-- The group of a sticky register's bits, for GLB_STICKY: notice sources stand outside. -/
def stickyGroups (s : State) : Nat :=
  maskOf 16 (fun g => s.io.stk.any (fun e =>
    decide (e.2 ≠ 0) && (List.range 32).any (fun b => bitAt e.2 b && decide (stickySource e.1 b / 32 = g) &&
      (stickyTable.any (fun t => t.1 = e.1) || decide (e.1 = Reg.TIM_TP_STICKY)))))

def viewGlb (s : State) (d : RegDesc) (n : Nat) : Option Word :=
  if d.base = Reg.GLB_ID then some (match s.grade with | .l => 0x09600010 | .s => 0x09600011)
  else if d.base = Reg.GLB_IDENT 0 then some (loWord (s.upd.identity.toNat / 2 ^ (32 * n)))
  else if d.base = Reg.GLB_STICKY then some (pack [(0, stickyGroups s)])
  else none

/-- Fill of a Table 13.6 FIFO; the two sides agree between commands (R391; assumption 29). FIFOs 0 to 3 are the receive FIFOs of
the ports (R143); FIFOs 4 to 7 hold the frame that is being sent. -/
def fifoFill (s : State) (k : Nat) : Nat :=
  if k < 4 then rxFill (netPort s k)
  else if k < 8 then (match (netPort s (k - 4)).tx with | some f => f.bytes.length | none => 0)
  else ((fifo s k).packets.map (·.1)).sum

/-- Sets whose shadow differs from active (CRP_CFG_STATUS.DIRTY). -/
def dirtySets (s : State) : Nat :=
  let differs := ((s.bank.regs ++ s.bank.shadow).map (·.1)).filter (fun a => decide (rd s a ≠ shadow s a))
  maskOf 8 (fun k => differs.any (fun a => decide (setOf a = some k)))

def viewCrp (s : State) (d : RegDesc) (n : Nat) : Option Word :=
  let c := s.crp
  if d.base = Reg.CRP_FIFO_RD 0 ∨ d.base = Reg.CRP_FIFO_WR 0 then some (pack [(0, fifoFill s n)])
  else if d.base = Reg.CRP_ZEN_STATUS then some (pack [(0, b2n c.flLock), (1, b2n c.bbLock), (2, b2n c.refOk)])
  else if d.base = Reg.CRP_PLL_STATUS then some (pllStatus s)
  else if d.base = Reg.CRP_RST_CAUSE then some c.rstCause
  else if d.base = Reg.CRP_RST_STATUS then some (pack [(0, c.inReset.toNat / 2 * 2)])
  else if d.base = Reg.CRP_NET_RST then some (pack [(0, c.macRst.toNat), (8, c.fabRst.toNat)])
  else if d.base = Reg.CRP_NET_HOLD then some (pack [(0, c.netHold.toNat)])
  else if d.base = Reg.CRP_MODE then
    some (pack [(0, modeCode c.mode), (4, modeCode c.prev), (8, bootSelNow s), (11, b2n c.recovery), (12, c.wake)])
  else if d.base = Reg.CRP_PWR_STATUS then some (pack ((List.range 15).map (fun k => (2 * k, pdCode (pdState s k)))))
  else if d.base = Reg.CRP_CFG_STATUS then some (pack [(0, c.swapWait.toNat), (8, dirtySets s), (16, c.swaps.toNat)])
  else none

def timCode (t : TimeState) : Nat := match t with | .free => 0 | .locked => 1 | .holdover => 2 | .stepPending => 3

def viewTim (s : State) (d : RegDesc) (n : Nat) : Option Word :=
  let t := s.tim
  let lost (f : Int → Word) : Word := match t.tLoss with | some x => f x | none => 0
  if d.base = Reg.TIM_STATUS then
    some (pack [(0, timCode (timState s)), (2, b2n (timSlewing s)), (3, b2n (lossTiming s)), (4, b2n (aboveBound s)), (5, b2n (bbValid s)),
      (6, b2n t.pendIncr.isSome)])
  else if d.base = Reg.TIM_UNC then some (uncReg s)
  else if d.base = Reg.TIM_NOW_FRAC then some (loWord t.now)
  else if d.base = Reg.TIM_NOW_NS ∨ d.base = Reg.TIM_NOW_S_LO ∨ d.base = Reg.TIM_NOW_S_HI then
    some (Tab.get RegMap.reset s.bank.capt d.base)
  else if d.base = Reg.TIM_ADJ_REMAIN then some (signWord (t.adjRemain / (tNs : Int)))
  else if d.base = Reg.TIM_LOSS_S then some (lost (fun x => loWord (secOf x.toNat)))
  else if d.base = Reg.TIM_LOSS_NS then some (lost (fun x => loWord (subNs x.toNat)))
  else if d.base = Reg.TIM_PORT_DELAY 0 then some (signWord (timPort s n).delay)
  else if d.base = Reg.TIM_PORT_STEP 0 then some (satWord (timPort s n).step)
  else if d.base = Reg.TIM_PORT_MTIME 0 then some (match portMTime s n with | some m => satWord m | none => 0)
  else none

def linkCode (x : LinkState) : Nat := match x with | .down => 0 | .codeGroup => 1 | .lane => 2 | .data => 3

def viewIng (s : State) (d : RegDesc) (n : Nat) : Option Word :=
  if d.base = Reg.ING_STATUS 0 then
    some (pack [(0, linkCode (ant s n).link), (2, b2n (ant s n).cdrLock), (3, b2n (ant s n).aligned)])
  else if d.base = Reg.ING_CFG 0 then some (if s.crp.mode = .maintain then rd s (Reg.ING_CFG n) else setBits (rd s (Reg.ING_CFG n)) 1 1 0)
  else if d.base = Reg.ING_SYSREF_CTL then some (setBits (rd s Reg.ING_SYSREF_CTL) 31 31 (b2n s.ing.sysrefPend))
  else none

def ctxCode (x : CtxState) : Nat := match x with | .idle => 0 | .armed => 1 | .run => 2 | .quarantined => 3

def viewCor (s : State) (d : RegDesc) (n : Nat) : Option Word :=
  if d.base = Reg.COR_STATUS 0 then
    let c := ctx s n
    some (pack [(0, ctxCode c.state), (2, b2n c.ended), (3, b2n c.stopAt.isSome), (16, c.lastSeq)])
  else none

def viewAcq (s : State) (d : RegDesc) : Option Word :=
  if d.base = Reg.ACQ_STATUS then
    some (pack [(0, maskOf 4 (fun p => s.acq.pipe.any (fun e => e.1 = p))), (4, queued s), (16, freeGranules s)])
  else if d.base = Reg.ACQ_CAP_LAST then
    -- ABSENT of a capture that is still armed shows its whole mask: nothing is stored yet (assumption 155)
    some (match s.acq.lastCap with
      | some id =>
        let c := capture s id
        pack [(0, id), (8, c.state), (10, b2n c.late), (16, c.mask - c.stored)]
      | none => 0)
  else none

def antCode (x : AntState) : Nat := match x with | .down => 0 | .inService => 1 | .held => 2 | .excluded => 3

def viewRef (s : State) (d : RegDesc) (n : Nat) : Option Word :=
  if d.base = Reg.REF_STATUS then
    some (pack [(0, ((List.range 4).map (fun k => antCode (refAnt s k).state * 4 ^ k)).sum), (8, s.ref.primary.getD 0),
      (10, b2n s.ref.primary.isNone), (11, b2n s.ref.noXchk), (12, s.ref.iods), (16, s.ref.surveyState)])
  else if d.base = Reg.REF_STREAM_STATUS 0 then
    let hz := obsHz (fld s (Reg.REF_STREAM_CFG n) 3 1)
    let idle := flag s (Reg.REF_STREAM_CFG n) 0 && (match srcState s n with | .down | .excluded => true | _ => false)
    some (pack [(0, b2n (decide (hz ≠ 0) && decide (1000000000 / hz < formNs s))), (1, b2n idle), (2, b2n (stream s n).keyWait),
      (3, b2n (stream s n).gloHeld)])
  else none

def viewPst (s : State) (d : RegDesc) (n i : Nat) : Option Word :=
  let x := fixSlot s n
  if d.base = Reg.PST_STATUS then
    some (pack [(0, gradeEngines s - popCount 16 (rd s Reg.PST_QUAR).toNat),
      (5, ((List.range (gradeEngines s)).filter (fun e => (engine s e).job.isSome)).length),
      (10, (s.dsp.jobs.filter (fun j => !j.inService && (decide (j.kind = .fix) || decide (j.kind = .fixRetry)))).length)])
  else if d.base = Reg.PST_SLOT_STATUS 0 0 then
    some (if gradeSlots s ≤ n then 0 else match i with
      | 0 => pack [(0, x.owner), (10, x.lastState), (12, x.refAnt), (14, b2n x.run), (16, x.nstates), (24, x.wb % 256)]
      | 1 => loWord (x.epoch / 1000000000)
      | 2 => loWord (x.epoch % 1000000000)
      | _ => loWord x.plh)
  else none

/-- CHT_STOP_CAUSE (Table 7.10). -/
def stopCauses (s : State) : Nat :=
  b2n (!flag s Reg.CHT_CTRL 31) + 2 * b2n (nfAnyHeld s) + 4 * b2n (decide (s.crp.mode = .standby)) + 8 * b2n s.crp.tripStop +
  16 * b2n s.cht.ue + 32 * b2n s.cht.tickStop + 64 * b2n s.cht.active.isNone

/-- The fullest shard, the lower on a tie, with its count. -/
def fullest (l : List Ival) : Nat × Nat :=
  (List.range 32).foldl (fun b k => if b.1 < shardCount l k then (shardCount l k, k) else b) (0, 0)

def viewCht (s : State) (d : RegDesc) (n i : Nat) : Option Word :=
  let c := s.cht
  if d.base = Reg.CHT_STATUS then
    some (pack [(0, b2n c.active.isSome), (1, b2n (decide (shardsAbove s ≠ 0))), (2, b2n (decide (stopCauses s ≠ 0))),
      (3, b2n (c.rebase.isSome || c.rebaseEnd.isSome)), (8, c.originGen)])
  else if d.base = Reg.CHT_STOP_CAUSE then some (pack [(0, stopCauses s)])
  else if d.base = Reg.CHT_NOW_TICK then some (satWord (nowTick s))
  else if d.base = Reg.CHT_FILL then some (satWord c.ivals.length)
  else if d.base = Reg.CHT_FILL_MAX then some (pack [(0, (fullest c.ivals).1), (18, (fullest c.ivals).2)])
  else if d.base = Reg.CHT_GRAPH_STATE then some (pack [(0, c.stage), (8, c.failCode)])
  else if d.base = Reg.CHT_MACH_STATUS 0 0 then
    let x := chtMach s n
    some (if gradeMachines s ≤ n then 0 else match i with
      | 0 => pack [(0, x.reason), (8, b2n x.lapsed)]
      | 1 => loWord x.grantNo
      | 2 => loWord (secOf x.expiry)
      | _ => loWord (subNs x.expiry))
  else none

/-- Level at which a queued job counts (R245). -/
def countLevel (s : State) (j : Job) : Nat :=
  match flowJobs s j.flow with
  | h :: _ => if h.id = j.id then effLevel s j.flow else j.level
  | [] => j.level

def viewDsp (s : State) (d : RegDesc) (n : Nat) : Option Word :=
  if d.base = Reg.DSP_STATUS then
    some (pack [(0, held s), (15, b2n s.dsp.intakeOff), (16, (s.dsp.jobs.filter (·.inService)).length)])
  else if d.base = Reg.DSP_LEVEL_COUNT 0 then
    some (pack [(0, (s.dsp.jobs.filter (fun j => !j.inService && decide (countLevel s j = n))).length)])
  else if d.base = Reg.DSP_FLOW_STATUS 0 then
    some (match flowJobs s n with
      | [] => 0
      | j :: _ => pack [(0, (flowJobs s n).length), (12, kindCode j.kind), (16, effLevel s n), (19, b2n j.inService),
          (20, b2n (match j.gate with | some g => decide ((s.tim.now : Int) < g) | none => false))])
  else if d.base = Reg.TSK_COUNT_A then some (pack [(0, s.tsk.tasks.length)])
  else if d.base = Reg.TSK_COUNT_B then
    let heldTasks := s.tsk.tasks.filter (fun t => decide (t.state = .assigned) || decide (t.state = .active))
    let busy := (s.tsk.tasks.filter (fun t => decide (t.state ≠ .queued))).map (·.chain)
    some (pack [(0, heldTasks.length), (16, busy.eraseDups.length)])
  else if d.base = Reg.TSK_MACH 0 then some (match taskHeld s n with | some t => loWord t.id | none => 0xFFFFFFFF)
  else if d.base = Reg.TSK_CHAIN 0 then
    let live := s.tsk.tasks.filter (fun t => t.chain = n)
    let st := match chainHead s n with
      | none => 0
      | some t => match t.state with | .queued => 1 | .assigned | .active => 2 | .refused => 3
    some (pack [(0, st), (2, live.length)])
  else none

def latchCode (l : Latch) : Nat := match l with | .idle => 0 | .latched => 1 | .armed => 2 | .selective => 3

/-- NFL_HELD_k: machine 32k + j is held. -/
def heldWord (s : State) (k : Nat) : Word := BitVec.ofNat 32 (maskOf 32 (fun j => nfHeld s (32 * k + j)))

/-- The debounce counters have run since the SAFE island left reset: DEBOUNCE SAFE cycles of 20 ns (R270). -/
def inputsKnown (s : State) : Bool := decide (fld s Reg.NFL_CFG 12 0 * 4092 ≤ s.tim.cycles * 500)

def viewNfl (s : State) (d : RegDesc) (n : Nat) : Option Word :=
  let x := s.nfl
  if d.base = Reg.NFL_STATUS then
    let left := if x.latch = .armed then (x.armAt + 10 * tSec - s.tim.now) / tMs else 0
    some (pack [(0, latchCode x.latch), (2, b2n x.outA), (3, b2n x.outB), (4, b2n x.fbA), (5, b2n x.fbB),
      (6, b2n (x.inA && inputsKnown s)), (7, b2n (x.inB && inputsKnown s)), (8, b2n x.disc), (16, left)])
  else if d.base = Reg.NFL_LATCH_ID then some (loWord x.latchId)
  else if d.base = Reg.NFL_CAUSE then some (loWord x.first)
  else if d.base = Reg.NFL_SEEN then some x.seen
  else if d.base = Reg.NFL_ACTIVE then some (nfActive s)
  else if d.base = Reg.NFL_TRIG_S then some (loWord (secOf x.trig))
  else if d.base = Reg.NFL_TRIG_NS then some (loWord (subNs x.trig))
  else if d.base = Reg.NFL_HELD 0 then some (if gradeMachines s ≤ 32 * n then 0 else heldWord s n)
  else none

def viewNet (s : State) (d : RegDesc) (n : Nat) : Option Word :=
  let p := netPort s n
  if d.base = Reg.NET_STATUS 0 then
    some (pack [(0, b2n p.link), (1, b2n p.anDone), (2, b2n p.pauseSince.isSome), (3, b2n p.xoff), (4, b2n p.bypass)])
  else if d.base = Reg.NET_RX_COUNT 0 then some (pack [(0, rxFill p)])
  else none

/-- Current mirror lag: the age of the oldest record sent and not acknowledged, in µs. -/
def lagNow (s : State) : Nat := match s.pai.sentRecs with | r :: _ => (s.tim.now - r.2.2) / tUs | [] => 0

def viewPai (s : State) (d : RegDesc) : Option Word :=
  let x := s.pai
  if d.base = Reg.PAI_STATUS then
    let ready := match x.peer with | some p => decide (p.flags / 4 % 2 = 1) | none => false
    let left := match x.bothSince with | some t => if x.pair && x.active && !s.crp.primary then ceilDiv (t + 10 * tSec - s.tim.now) tSec else 0 | none => 0
    some (if x.pair then pack [(0, 1), (1, b2n s.crp.primary), (2, b2n x.active), (3, b2n x.pathA.ok), (4, b2n x.pathB.ok),
        (5, b2n x.peerFailed), (6, b2n (paiReady s)), (7, b2n ready), (8, b2n (x.active && !peerServes s)), (9, b2n x.claimDrive),
        (10, b2n x.claimIn), (11, x.sync), (13, b2n (x.splitLine || x.splitActive)), (16, left)]
      else pack [(1, b2n s.crp.primary), (2, 1), (10, b2n x.claimIn)])
  else if d.base = Reg.PAI_OFFSET then some (signWord x.offsetPs)
  else if d.base = Reg.PAI_LAG then some (pack [(0, min (lagNow s) 65535), (16, min (max x.lagMax (lagNow s)) 65535)])
  else if d.base = Reg.PAI_KEY_DIFF_LO then some (loWord (maskOf 32 (keyDiffers s)))
  else if d.base = Reg.PAI_KEY_DIFF_HI then some (loWord (maskOf 32 (fun k => keyDiffers s (32 + k))))
  else if d.base = Reg.PAI_SWITCH_S then some (loWord (secOf x.tAct))
  else if d.base = Reg.PAI_SWITCH_NS then some (loWord (subNs x.tAct))
  else none

/-- HIF_RING_r_STATE.STATE: HELD while DMA is not allowed (R349). -/
def ringCode (s : State) (x : Ring) : Nat :=
  match x.state with | .disabled => 0 | .run => if s.io.dmaHeld then 3 else 1 | .error => 2

def viewHif (s : State) (d : RegDesc) (n : Nat) : Option Word :=
  let e := ioEv s.io n
  let r := ring s n
  let v := ioVec s.io n
  if d.base = Reg.HIF_STATUS then
    some (pack [(0, b2n s.io.linkUp), (1, s.io.speed), (4, s.io.width), (7, b2n s.io.dmaHeld)])
  else if d.base = Reg.HIF_EVT_PENDING 0 then some e.pending
  else if d.base = Reg.HIF_EVT_ENABLE 0 then some e.enable
  else if d.base = Reg.HIF_EVT_ROUTE 0 then some e.route
  else if d.base = Reg.HIF_EVT_COUNT 0 then some e.count
  else if d.base = Reg.HIF_RING_CFG 0 then some r.cfg
  else if d.base = Reg.HIF_RING_BASE_LO 0 then some r.baseLo
  else if d.base = Reg.HIF_RING_BASE_HI 0 then some r.baseHi
  else if d.base = Reg.HIF_RING_IDX_LO 0 then some r.idxLo
  else if d.base = Reg.HIF_RING_IDX_HI 0 then some r.idxHi
  else if d.base = Reg.HIF_RING_DATA_LO 0 then some r.dataLo
  else if d.base = Reg.HIF_RING_DATA_HI 0 then some r.dataHi
  else if d.base = Reg.HIF_RING_DATA_CFG 0 then some r.dataCfg
  else if d.base = Reg.HIF_RING_STATE 0 then some (pack [(0, ringCode s r), (4, r.err)])
  else if d.base = Reg.HIF_RING_DEV_IDX 0 then some (loWord r.dev)
  else if d.base = Reg.HIF_RING_HOST_IDX 0 then some (loWord r.host)
  else if d.base = Reg.HIF_RING_DROP 0 then some (satWord r.drop)
  else if d.base = Reg.HIF_VEC_MOD 0 then some (pack [(0, v.minUs)])
  else if d.base = Reg.MSIX_ADDR_LO 0 then some v.addrLo
  else if d.base = Reg.MSIX_ADDR_HI 0 then some v.addrHi
  else if d.base = Reg.MSIX_DATA 0 then some v.data
  else if d.base = Reg.MSIX_CTRL 0 then some (pack [(0, b2n v.masked)])
  else if d.base = Reg.MSIX_PBA 0 then some (pack [(0, maskOf 32 (fun k => (ioVec s.io (32 * n + k)).pba))])
  else none

def viewKey (s : State) (d : RegDesc) (n : Nat) : Option Word :=
  let k := s.key
  let x := keySlot s n
  if d.base = Reg.KEY_STATUS then
    some (pack [(0, lc s), (4, qEntries s.upd.lcField), (10, qExits s.upd.lcField), (16, k.ownerIdx), (18, b2n (ownerSet s)),
      (19, b2n k.storeOk), (20, b2n (tampLive s)), (21, b2n (decide (lc s ≤ 1)))])
  else if d.base = Reg.KEY_CTR_LO then some (loWord (storedCtr s))
  else if d.base = Reg.KEY_CTR_HI then some (hiWord (storedCtr s))
  else if d.base = Reg.KEY_TAMP_CAUSE then some k.cause
  else if d.base = Reg.KEY_TAMP_TIME then some k.causeTime
  else if d.base = Reg.KEY_RTC_SUB then some (pack [(0, k.rtcSub.toNat)])
  else if d.base = Reg.KEY_RTC_S_LO then some (loWord k.rtcCapt.toNat)
  else if d.base = Reg.KEY_RTC_S_HI then some (hiWord k.rtcCapt.toNat)
  else if d.base = Reg.KEY_RTC_ALARM then some k.alarm
  else if d.base = Reg.KEY_SLOT_ATTR 0 then
    some (pack [(0, slotCode x), (2, x.type), (4, x.engines), (11, b2n x.derived), (12, x.parent), (18, x.depth)])
  else if d.base = Reg.KEY_SLOT_CHECK 0 then some (keyCheck s n)
  else none

def viewRec (s : State) (d : RegDesc) : Option Word :=
  let r := s.recorder
  if d.base = Reg.REC_STATUS then
    some (match r.store with
      | .notUp => pack [(0, 2)]
      | _ => pack [(0, if r.store = .lifeboat then 1 else 0), (2, goodSlots r), (9, r.spares), (13, b2n (aboveMark s)), (14, r.staging.length),
          (21, b2n (r.inProgress.any (fun x => decide (x.type = 3))))])
  else if d.base = Reg.REC_NEWEST_SEQ then some (loWord (recNewestSeq r))
  else if d.base = Reg.REC_OLDEST_SEQ then some (loWord (recOldest r))
  else if d.base = Reg.REC_READ_SEQ then some (loWord r.readSeq)
  else if d.base = Reg.REC_FILL then some (pack [(0, min (recFill r) 100)])
  else none

def viewPrf (s : State) (d : RegDesc) (n : Nat) : Option Word :=
  let c := ioCtr s.io n
  let count := if n % 2 = 0 then c.count else c.capt
  if d.base = Reg.PRF_CTL then some (pack [(0, s.io.appEn.toNat), (8, b2n s.io.frozen)])
  else if d.base = Reg.PRF_EVT 0 then some (if ctrExists s n then pack [(0, c.event), (12, b2n c.irqEn)] else 0)
  else if d.base = Reg.PRF_LO 0 then some (if ctrExists s n then loWord count.toNat else 0)
  else if d.base = Reg.PRF_HI 0 then some (if ctrExists s n then hiWord c.capt.toNat else 0)
  else none

def stagingCode (x : Staging) : Nat := match x with | .empty => 0 | .receiving => 1 | .verified => 2 | .invalid => 3
/-- The version of an image slot, 0 where it is empty or its image fails verification (R422). -/
def slotVersion (u : Upd) (i : Option Image) : Word := match i with | some x => if imageAuthentic u x then x.version else 0 | none => 0
def slotSvn (i : Option Image) : Nat := match i with | some x => x.svn | none => 0

def viewUpd (s : State) (d : RegDesc) (n : Nat) : Option Word :=
  let u := s.upd
  if d.base = Reg.OTP_STATUS then
    some (pack [(0, u.liveGen), (3, 5 - u.gens.length), (6, b2n (cfgPair s)), (16, floorNow u)])
  else if d.base = Reg.OTP_CFG 0 then
    some (if u.liveGen = 0 then 0 else loWord (leAt (genBytes (u.gens.getD (u.liveGen - 1) 0)) (4 * n) 4))
  else if d.base = Reg.UPD_STATUS then
    some (pack [(0, stagingCode u.staging), (2, match u.session with | some x => x.source | none => 0), (4, b2n u.armed),
      (5, b2n (u.confirmed && !s.crp.booting)), (6, if s.crp.booting then 0 else u.failed), (8, b2n (fallbackStale s)), (9, b2n u.fallbackValid), (10, u.push),
      (16, match u.session with | some x => x.blocks.length | none => 0)])
  else if d.base = Reg.UPD_ACTIVE_VER then some (slotVersion u u.active)
  else if d.base = Reg.UPD_STAGING_VER then some (slotVersion u u.stagingImg)
  else if d.base = Reg.UPD_FALLBACK_VER then some (slotVersion u u.fallback)
  else if d.base = Reg.UPD_SVN then
    some (pack [(0, slotSvn u.active), (11, slotSvn u.stagingImg), (22, min (slotSvn u.fallback) 1023)])
  else none

/-- The status word of a register that state of its own makes up. -/
def view (s : State) (d : RegDesc) (a : Nat) : Option Word :=
  let n := RegMap.index d a
  let i := (a - d.base) % d.stride / d.step
  match a / 2 ^ 20 with
  | 0 => viewGlb s d n
  | 1 => viewCrp s d n
  | 2 => viewTim s d n
  | 3 => viewIng s d n
  | 4 | 5 | 6 | 7 => viewCor s d n
  | 8 => viewAcq s d
  | 9 => viewRef s d n
  | 10 => viewPst s d n i
  | 12 => viewCht s d n i
  | 14 => viewDsp s d n
  | 15 => viewNfl s d n
  | 16 => viewNet s d n
  | 17 => viewPai s d
  | 18 => viewHif s d n
  | 19 => viewKey s d n
  | 20 => viewRec s d
  | 21 => viewPrf s d n
  | 22 => viewUpd s d n
  | _ => none

/-! ### The recorder window -/

/-- Bytes of a committed record (Table 16.2). -/
def recordBytes (x : Record) : List Byte :=
  leBytes 4 x.seq ++ leBytes 2 x.type ++ leBytes 1 (x.payload.length / 8) ++
  leBytes 1 (1 + 2 * b2n x.timeFree + 4 * b2n x.lifeboat + 8 * b2n x.moved) ++ leBytes 4 x.repeats ++
  leBytes 4 (secOf x.first) ++ leBytes 4 (subNs x.first) ++ leBytes 4 x.lastUs ++ leBytes 8 x.key ++ x.payload

/-- Bytes of a slot (R459): the segment header, the records, then zeros. A slot that was cleared, or never opened, shows
FILL_NO 0xFFFF_FFFF (R470; assumption 142). -/
def slotBytes (x : RecSlot) : List Byte :=
  [0x52, 0x53, 0x45, 0x47] ++ leBytes 4 (if x.fillNo = 0 then 0xFFFFFFFF else x.fillNo) ++ leBytes 4 x.firstSeq ++ leBytes 1 x.phys ++ zeros 19 ++ x.records.flatMap recordBytes

/-- The slot that REC_WIN_SEL shows. -/
def windowSlot (s : State) : RecSlot :=
  let k := fld s Reg.REC_WIN_SEL 5 0
  if flag s Reg.REC_WIN_SEL 8 then Tab.get recSlotDef s.recorder.boat (k % 2) else Tab.get recSlotDef s.recorder.slots k

/-- The word at an offset of the window (0x0144_0000 to 0x0147_FFFF). Behind the segment header, what a copy wrote as zero reads as
zero (R471). -/
def windowWord (s : State) (o : Nat) : Word :=
  if (flag s Reg.REC_WIN_SEL 8 && decide (32768 ≤ o)) || (decide (32 ≤ o) && (windowSlot s).zeroed.contains (o / 64)) then 0
  else BitVec.ofNat 32 (leAt (slotBytes (windowSlot s)) o 4)

/-! ### A read -/

/-- The bits of a register that read 0 by their access: reserved bits (R8) and write-only fields (R7). -/
def readMask (d : RegDesc) : Word :=
  d.flds.foldl (fun m f => if f.acc = .wo then m else setBits m f.hi f.lo (2 ^ (f.hi + 1 - f.lo) - 1)) 0

/-- The value of a plain register: of a set register the active one, or the shadow where CRP_CFG_VIEW asks (R418);
a sticky register's bits from where hardware sets them. -/
def plainValue (s : State) (d : RegDesc) (a : Nat) : Word :=
  if d.flds.any (fun f => f.acc = .w1c) then stk s a
  else match d.set with
    | some k => if flag s Reg.CRP_CFG_VIEW k then shadow s a else rd s a
    | none => rd s a

/-- The low words of the 64-bit quantities that capture their high word when read (R11). -/
def lowOfPair (d : RegDesc) (i : Nat) : Bool :=
  decide (d.base = Reg.TIM_INCR_FRAC) || decide (d.base = Reg.CHT_ORIGIN_LO) || decide (d.base = Reg.CHT_GRAPH_ADDR_LO) ||
  decide (d.base = Reg.KEY_CTR_LO) || decide (d.base = Reg.PAI_KEY_DIFF_LO) || decide (d.base = Reg.COR_CODE_RATE_LO 0) ||
  decide (d.base = Reg.COR_CARR_RATE_LO 0) || (decide (d.base = Reg.REF_ANT_COORD 0 0) && decide (i % 2 = 0)) ||
  decide (d.base = Reg.HIF_RING_BASE_LO 0) || decide (d.base = Reg.HIF_RING_IDX_LO 0) || decide (d.base = Reg.HIF_RING_DATA_LO 0)

/-- The bits of a register whose units this grade has (R2): elsewhere the LTX-960S reads 0. -/
def gradeMask (s : State) (d : RegDesc) : Word :=
  if d.base = Reg.CRP_PWR_REQ then pwrMask s
  else if d.base = Reg.PST_CTRL then BitVec.ofNat 32 (2 ^ gradeEngines s - 1)
  else 0xFFFFFFFF

/-- What a register holds at this moment. -/
def regValue (s : State) (a : Nat) : Word :=
  match reached s a with
  | some d => (match view s d a with | some w => w | none => plainValue s d a) &&& readMask d &&& gradeMask s d
  | none => 0

/-- What a host read of the dword that holds address `a` (R351) returns: the recorder window, a captured high word (R11), else the
register. -/
def readReg (s : State) (a : Nat) : Word :=
  let a := a / 4 * 4
  if 0x01440000 ≤ a ∧ a ≤ 0x0147FFFF then (if hostUp s then windowWord s (a - 0x01440000) else 0)
  else match s.bank.capt.find? (fun e => e.1 = a) with
    | some e => if (reached s a).isSome then e.2 else 0
    | none => regValue s a

/-- R11: a read of a pair's low word captures the high word for the next read of it. -/
def execLowWordCapture (a : Nat) (s : State) : Out :=
  let a := a / 4 * 4
  .next (match reached s a with
    | some d =>
      if lowOfPair d ((a - d.base) % d.stride / d.step) then
        { s with bank := { s.bank with capt := Tab.ins s.bank.capt (a + 4) (regValue s (a + 4)) } }
      else s
    | none => s)

end Sys2Proof.Machine
end

