-- ==== Sys2Proof/Machine/RegisterWrite.lean ====
section
/-! DEFINITION. A host write of BAR0 (R2, R7, R8, R12, R350, R351, R418): the access codes, the refusals of each
chapter, and the registers whose write is a command with a row of its own, which acts as that row gives. -/
namespace Sys2Proof.Machine

/-- The state that a row's meaning leaves. -/
def ran (o : Out) (s : State) : State := match o with | .next t => t | _ => s

/-- CFG_REJECT of the block of an address. -/
def blockReject (a : Nat) (s : State) : State :=
  match a / 2 ^ 20 with
  | 1 => crpReject s
  | 2 => timReject s
  | 3 => sticky Reg.ING_STICKY 12 s
  | 4 | 5 | 6 | 7 => sticky Reg.COR_STICKY 10 s
  | 8 => sticky Reg.ACQ_STICKY 3 s
  | 9 => refReject s
  | 10 => sticky Reg.PST_STICKY 9 s
  | 12 => chtReject s
  | 14 => if a < 0xE80000 then sticky Reg.DSP_STICKY 3 s else sticky Reg.TSK_STICKY 3 s
  | 15 => sticky Reg.NFL_STICKY 8 s
  | 16 => sticky (Reg.NET_STICKY (a / 0x40000 % 4)) 10 s
  | 17 => sticky Reg.PAI_STICKY 13 s
  | 18 => hifReject s
  | 19 => keyReject s
  | 20 => recReject s
  | 21 => sticky Reg.PRF_STICKY 2 s
  | 22 => if a < 0x01601000 then otpReject s else updReject s
  | _ => s

/-! ### Fields -/

/-- Bits [hi:lo] as a mask. -/
def spanMask (f : Fld) : Word := setBits 0 f.hi f.lo (2 ^ (f.hi + 1 - f.lo) - 1)

/-- The bits of a register with an access code. -/
def accMask (d : RegDesc) (x : Acc) : Word := d.flds.foldl (fun m f => if f.acc = x then m ||| spanMask f else m) 0

/-- The written fields hold no reserved encoding. -/
def fieldsOk (d : RegDesc) (w : Word) : Bool :=
  d.flds.all (fun f => !(decide (f.acc = .rw) || decide (f.acc = .wo)) || (decide (f.min ≤ bits w f.hi f.lo) && decide (bits w f.hi f.lo ≤ f.max)))

/-- The value that host last placed in a register: in a set register the shadow (R418). -/
def written (s : State) (d : RegDesc) (a : Nat) : Word := if d.set.isSome then shadow s a else rd s a

/-- Places a value: in the shadow of a set register. -/
def place (d : RegDesc) (a : Nat) (v : Word) (s : State) : State := if d.set.isSome then wrShadow a v s else wr a v s

/-- A write that every access code lets through: RW bits take the written value, the others keep theirs (R7, R8). -/
def merged (s : State) (d : RegDesc) (a : Nat) (w : Word) : Word :=
  let m := accMask d .rw ||| accMask d .wo
  (written s d a &&& ~~~m) ||| (w &&& m)

/-- R7, R8, R74 and its like: a register with no effect of its own. -/
def plainWrite (d : RegDesc) (a : Nat) (w : Word) (s : State) : State :=
  if d.flds.any (fun f => f.acc = .w1c) then
    { s with io := ioSetStk s.io a (stk s a &&& ~~~(w &&& accMask d .w1c)) }
  else if accMask d .rw ||| accMask d .wo = 0 then s
  else if fieldsOk d w then place d a (merged s d a w) s
  else blockReject a s

/-- Plain, when a condition of the chapter holds; refused otherwise. -/
def checkedWrite (ok : Bool) (d : RegDesc) (a : Nat) (w : Word) (s : State) : State :=
  if ok then plainWrite d a w s else blockReject a s

/-- The low word of a 64-bit quantity waits for its high word (R12). -/
def stageLow (d : RegDesc) (a : Nat) (w : Word) (s : State) : State :=
  { s with bank := { s.bank with low := Tab.put RegMap.reset s.bank.low a (w &&& accMask d .rw) } }

/-! ### Registers with effects, block by block -/

def writeGlb (d : RegDesc) (a : Nat) (w : Word) (s : State) : State :=
  if d.base = Reg.GLB_ERR then ran (execThermalTripClear w s) s else plainWrite d a w s

/-- CRP_RST_CMD: the whole device, or the regions asked for. -/
def writeRst (w : Word) (s : State) : State :=
  if bitAt w 0 then ran (execDeviceReset w s) s
  else if rstRefused w s then crpReject s
  else
    let s := ran (execCorrReset w s) s
    let s := ran (execAcqReset w s) s
    let s := ran (execFixReset w s) s
    let s := ran (execChartReset w s) s
    ran (execNetReset w s) s

/-- CRP_MODE_CMD (R404). -/
def writeMode (w : Word) (s : State) : State :=
  match bits w 2 0 with
  | 0 => ran (execTargetDormant w s) s
  | 2 => ran (execTargetSurvey w s) s
  | 3 => ran (execTargetServe w s) s
  | 6 => ran (execTargetSnapshot w s) s
  | 7 => ran (execTargetMaintain w s) s
  | _ => modeRefused s

/-- A port of the pair whose reference the write changes is enabled (R381). -/
def netRefBlocked (s : State) (w : Word) : Bool :=
  (List.range (gradePorts s)).any (fun n => flag s (Reg.NET_CTRL n) 0 && bitAt (w ^^^ rd s Reg.CRP_NETREF) (n / 2))

def writeCrp (d : RegDesc) (n a : Nat) (w : Word) (s : State) : State :=
  if d.base = Reg.CRP_NETREF then checkedWrite (!netRefBlocked s w) d a w s
  else if d.base = Reg.CRP_RST_CMD then writeRst w s
  else if d.base = Reg.CRP_NET_RST then ran (execCrpNetRst w s) s
  else if d.base = Reg.CRP_FIFO_CMD 0 then ran (execFifoDrop n w s) s
  else if d.base = Reg.CRP_MODE_CMD then writeMode w s
  else if d.base = Reg.CRP_PWR_REQ then ran (execPowerRequest w s) s
  else if d.base = Reg.CRP_CFG_SWAP then ran (execCfgSwap w s) s
  else plainWrite d a w s

/-- PPS_OUT_n: an output switched on emits no pulse for an edge already past; one that is due at this instant is on time (R319). -/
def writePps (d : RegDesc) (n a : Nat) (w : Word) (s : State) : State :=
  let was := flag s a 0
  let t := plainWrite d a w s
  if !was && flag t a 0 then setTim { t.tim with ppsLast := Tab.put natDef t.tim.ppsLast n (ppsSkip t n) } t else t

/-- TIM_TP_k_CFG: EN arms (R317); a write without EN disarms, or changes MODE and POL of an output that is not armed. -/
def writeTpCfg (d : RegDesc) (n a : Nat) (w : Word) (s : State) : State :=
  if bitAt w 0 then ran (execTpEn n w s) s
  else checkedWrite (!flag s a 0 || decide (bits w 2 1 = fld s a 2 1)) d a w s

/-- The other TP registers: refused while EN is 1, and a WIDTH at or above PERIOD in periodic mode (R317). -/
def writeTp (d : RegDesc) (n a : Nat) (w : Word) (s : State) : State :=
  let wide := decide (d.base = Reg.TIM_TP_WIDTH 0) && flag s (Reg.TIM_TP_CFG n) 1 &&
    decide ((rd s (Reg.TIM_TP_PERIOD n)).toNat ≤ w.toNat)
  checkedWrite (!flag s (Reg.TIM_TP_CFG n) 0 && !wide) d a w s

def ppsDelayOk (w : Word) : Bool := decide ((signed 32 w.toNat).natAbs ≤ 1000000)

def writeTim (d : RegDesc) (n a : Nat) (w : Word) (s : State) : State :=
  if d.base = Reg.TIM_INCR_FRAC then stageLow d a w s
  else if d.base = Reg.TIM_INCR_INT then ran (execTimIncrInt w s) s
  else if d.base = Reg.TIM_ADJ_CTRL then ran (execTimAdjCtrl w s) s
  else if d.base = Reg.TIM_SET_NS then ran (execTimSetNs w s) s
  else if d.base = Reg.TIM_LOCK_REPORT then ran (execTimLockReport w s) s
  else if d.base = Reg.TIM_LOSS_NS then ran (execTimLossNs w s) s
  else if d.base = Reg.TIM_RETURN then ran (execTimReturn w s) s
  else if d.base = Reg.TIM_BB_LAT then (if s.crp.mode = .maintain then plainWrite d a w s else s)
  else if d.base = Reg.TIM_PPS_CFG 0 then writePps d n a w s
  else if d.base = Reg.TIM_PPS_DELAY 0 then checkedWrite (ppsDelayOk w) d a w s
  else if d.base = Reg.TIM_TP_CFG 0 then writeTpCfg d n a w s
  else if d.base = Reg.TIM_TP_AT_S 0 ∨ d.base = Reg.TIM_TP_AT_NS 0 ∨ d.base = Reg.TIM_TP_PERIOD 0 ∨ d.base = Reg.TIM_TP_WIDTH 0 then
    writeTp d n a w s
  else if d.base = Reg.TIM_PORT_STICKY 0 then (if bitAt w 0 then ran (execPathAsymClear n s) s else s)
  else plainWrite d a w s

/-- ING_SYSREF_CTL: MODE 1 waits for its second, MODE 2 for its period (R42). -/
def writeSysref (d : RegDesc) (a : Nat) (w : Word) (s : State) : State :=
  if fieldsOk d w then
    let t := plainWrite d a w s
    setIng { t.ing with sysrefPend := decide (bits w 1 0 = 1), sysrefAt := sysrefIdx t } t
  else blockReject a s

/-- ING_n_CFG on a link whose LMFC is aligned: a new RBD moves the release at once (R43). -/
def relRelease (n : Nat) (s : State) : State :=
  let a := ant s n
  if a.aligned then setAnt n { a with release := releaseFrame s n a.lmfc } s else s

/-- ING_n_CFG: SUBCLASS0 keeps its value outside MAINTAIN (R47). -/
def ingCfgWord (s : State) (a : Nat) (w : Word) : Word :=
  if s.crp.mode = .maintain then w else setBits w 1 1 (fld s a 1 1)

def writeIng (d : RegDesc) (n a : Nat) (w : Word) (s : State) : State :=
  if d.base = Reg.ING_CTRL then ran (execAntEn w s) s
  else if d.base = Reg.ING_SYSREF_CTL then writeSysref d a w s
  else if d.base = Reg.ING_CFG 0 then relRelease n (plainWrite d a (ingCfgWord s a w) s)
  else if d.base = Reg.ING_LATENCY 0 then ran (execIngLatencyWrite n w s) s
  else plainWrite d a w s

/-- COR_c_CMD: ABORT takes precedence, then STOP_AT, then START (R72). -/
def writeCtxCmd (ch : Nat) (w : Word) (s : State) : State :=
  if bitAt w 2 then ran (execAbort ch s) s
  else if bitAt w 1 then ran (execStopAt ch s) s
  else if bitAt w 0 then ran (execStart ch s) s
  else s

/-- The context registers that take effect in IDLE only (R73). -/
def idleOnly (b : Nat) : Bool :=
  [Reg.COR_CFG 0, Reg.COR_CODE_A_BASE 0, Reg.COR_CODE_A_LEN 0, Reg.COR_CODE_B_BASE 0, Reg.COR_CODE_B_LEN 0, Reg.COR_INT 0,
   Reg.COR_CODE_INIT 0, Reg.COR_CARR_INIT 0].contains b

/-- The correlator registers. A context out of IDLE refuses its idle-only registers before a reserved encoding in them is looked
at (assumption 184); a quarantined one refuses every write, of AT and of read-only STATUS too (assumption 74). -/
def writeCor (d : RegDesc) (n a : Nat) (w : Word) (s : State) : State :=
  let st := (ctx s n).state
  if d.base = Reg.COR_INJECT then ran (execCorInject w s) s
  else if d.base = Reg.COR_CODE_DATA then ran (execCorCodeData w s) s
  else if a < Reg.COR_CFG 0 then plainWrite d a w s
  else if d.base = Reg.COR_CMD 0 then writeCtxCmd n w s
  else if d.base = Reg.COR_CODE_RATE_HI 0 then ran (execCodeRateHi n w s) s
  else if d.base = Reg.COR_CARR_RATE_HI 0 then ran (execCarrRateHi n w s) s
  else if idleOnly d.base && decide (st ≠ .idle) then ctxRefuse s
  else if !idleOnly d.base && decide (st = .quarantined) then ctxRefuse s
  else if d.base = Reg.COR_CODE_RATE_LO 0 ∨ d.base = Reg.COR_CARR_RATE_LO 0 then stageLow d a w s
  else plainWrite d a w s

/-- ACQ_CODE_DATA: 32 chips at ADDR, which moves on by 32 and wraps (R75, R81). -/
def writeAcqCode (w : Word) (s : State) : State :=
  let p := (rd s Reg.ACQ_CODE_ADDR).toNat / 32 * 32
  wr Reg.ACQ_CODE_ADDR (BitVec.ofNat 32 ((p + 32) % 2 ^ 24)) (setAcq { s.acq with code := Tab.put wordDef s.acq.code (p / 32) w } s)

/-- ACQ_CAP_CMD: CAPTURE, then RELEASE. -/
def writeCapCmd (w : Word) (s : State) : State :=
  let s := if bitAt w 0 then ran (execCapture s) s else s
  if bitAt w 1 then ran (execCaptureRelease (bits w 15 8) s) s else s

def writeAcq (d : RegDesc) (n a : Nat) (w : Word) (s : State) : State :=
  if d.base = Reg.ACQ_CAP_CMD then writeCapCmd w s
  else if d.base = Reg.ACQ_CODE_DATA then writeAcqCode w s
  else if d.base = Reg.ACQ_JOB 0 ∧ n = 15 then ran (execAcqJob w s) s
  else plainWrite d a w s

/-- The high word of a coordinate applies the pair, within ±2³⁷ (R107). -/
def writeCoord (d : RegDesc) (a : Nat) (w : Word) (s : State) : State :=
  let lo := lowWord s (a - 4)
  let v := signed 64 (lo.toNat + 2 ^ 32 * w.toNat)
  if -(2 ^ 37 : Int) ≤ v ∧ v < (2 ^ 37 : Int) then place d a w (place d (a - 4) lo s) else blockReject a s

/-- Two observation messages of one GNSS (Table 4.4). -/
def twoObs (w : Word) : Bool :=
  [[0, 2, 3], [1, 4, 5], [6, 7], [8, 9], [10, 11]].any (fun l => decide (1 < (l.filter (bitAt w)).length))

/-- REF_SURVEY_CMD: START, then ABORT. -/
def writeSurvey (w : Word) (s : State) : State := let s := ran (execSurveyStart w s) s; ran (execSurveyAbort w s) s

/-- REF_ANT_n_CMD. -/
def writeAntCmd (n : Nat) (w : Word) (s : State) : State := let s := ran (execReadmit n w s) s; ran (execExclude n w s) s

def writeRef (d : RegDesc) (n a : Nat) (w : Word) (s : State) : State :=
  let i := (a - d.base) % d.stride / d.step
  if d.base = Reg.REF_ANT_COORD 0 0 then (if i % 2 = 0 then stageLow d a w s else writeCoord d a w s)
  else if d.base = Reg.REF_STREAM_MSG_MASK 0 then checkedWrite (!twoObs w) d a w s
  else if d.base = Reg.REF_ANT_TEXT 0 0 then checkedWrite (!(decide (i % 8 = 0) && decide (31 < bits w 7 0))) d a w s
  else if d.base = Reg.REF_ANT_CMD 0 then writeAntCmd n w s
  else if d.base = Reg.REF_SURVEY_CMD then writeSurvey w s
  else plainWrite d a w s

/-- PST_CTRL: engines that the grade lacks read 0 (R204). -/
def pstCtrlWord (s : State) (w : Word) : Word := match s.grade with | .l => w | .s => setBits w 15 8 0

def writePst (d : RegDesc) (a : Nat) (w : Word) (s : State) : State :=
  if d.base = Reg.PST_CTRL then plainWrite d a (pstCtrlWord s w) s
  else if d.base = Reg.PST_INJECT then ran (execPstInject w s) s
  else if d.base = Reg.PST_CMD then (if bitAt w 0 then ran (execPstClearLat s) s else s)
  else if d.base = Reg.PST_SLOT_CMD then ran (execPstSlotReset w s) s
  else plainWrite d a w s

/-- CHT_CMD: its commands in ascending bit order (R510). -/
def writeChtCmd (w : Word) (s : State) : State :=
  let s := if bitAt w 0 then ran (execRebase s) s else s
  let s := if bitAt w 1 then ran (execGraphLoad s) s else s
  let s := if bitAt w 2 then ran (execGraphActivate s) s else s
  if bitAt w 3 then ran (execChtClearLat s) s else s

/-- CHT_CTRL (R232). -/
def chtCtrlOk (w : Word) : Bool :=
  decide (20 ≤ bits w 9 0) && decide (bits w 9 0 ≤ 500) && decide (20 ≤ bits w 19 10) && decide (bits w 19 10 ≤ 1000) &&
  decide (2 * bits w 9 0 ≤ bits w 19 10)

/-- The address of the graph image: both words apply with the high one (R12). -/
def writeGraphAddr (a : Nat) (w : Word) (s : State) : State :=
  wr a w (wr Reg.CHT_GRAPH_ADDR_LO (lowWord s Reg.CHT_GRAPH_ADDR_LO) s)

def writeCht (d : RegDesc) (a : Nat) (w : Word) (s : State) : State :=
  if d.base = Reg.CHT_CTRL then checkedWrite (chtCtrlOk w) d a w s
  else if d.base = Reg.CHT_ORIGIN_LO then stageLow d a w s
  else if d.base = Reg.CHT_ORIGIN_HI then ran (execOriginWrite w s) s
  else if d.base = Reg.CHT_CMD then writeChtCmd w s
  else if d.base = Reg.CHT_FILL_CFG then fillCheck (plainWrite d a w s)
  else if d.base = Reg.CHT_GRAPH_ADDR_LO then (if bits w 11 0 = 0 then stageLow d a w s else blockReject a s)
  else if d.base = Reg.CHT_GRAPH_ADDR_HI then writeGraphAddr a w s
  else if d.base = Reg.CHT_GRAPH_LEN then checkedWrite (decide (256 ≤ w.toNat) && decide (w.toNat ≤ 201326592)) d a w s
  else plainWrite d a w s

def writeDsp (d : RegDesc) (a : Nat) (w : Word) (s : State) : State :=
  if d.base = Reg.DSP_CMD then (if bitAt w 0 then ran (execDspClearMax s) s else s)
  else if d.base = Reg.DSP_CTRL then heldChanged (plainWrite d a w s)
  else plainWrite d a w s

def writeNfl (d : RegDesc) (a : Nat) (w : Word) (s : State) : State :=
  if d.base = Reg.NFL_TRIGGER then ran (execNflTrigger w s) s
  else if d.base = Reg.NFL_ARM then ran (execNflArm w s) s
  else if d.base = Reg.NFL_CONFIRM then ran (execNflConfirm w s) s
  else if d.base = Reg.NFL_MREL then ran (execNflMrel w s) s
  else if d.base = Reg.NFL_WDG_KICK then ran (execNflWdgKick w s) s
  else plainWrite d a w s

/-- VID 0 and 4,095 are reserved when VLAN_EN is 1. -/
def vlanOk (s : State) (n : Nat) (w : Word) : Bool :=
  !bitAt (shadow s (Reg.NET_CTRL n)) 3 || (decide (bits w 11 0 ≠ 0) && decide (bits w 11 0 ≠ 4095))

def writeNet (d : RegDesc) (n a : Nat) (w : Word) (s : State) : State :=
  if d.base = Reg.NET_VLAN 0 then checkedWrite (vlanOk s n w) d a w s
  else if d.base = Reg.NET_PAUSE_CFG 0 then checkedWrite (decide (bits w 15 8 < bits w 7 0)) d a w s
  else plainWrite d a w s

/-- PAI_CMD: YIELD, then RESYNC. -/
def writePaiCmd (w : Word) (s : State) : State :=
  let s := if bitAt w 0 then ran (execYield s) s else s
  if bitAt w 1 then ran (execResync s) s else s

def writePai (d : RegDesc) (a : Nat) (w : Word) (s : State) : State :=
  if d.base = Reg.PAI_CMD then writePaiCmd w s
  else if d.base = Reg.PAI_CTRL then returnCheck (plainWrite d a w s)
  else if d.base = Reg.PAI_ASYM then (if s.crp.mode = .maintain then plainWrite d a w s else s)
  else plainWrite d a w s

/-- HIF_RING_r_CFG: EN starts the ring; clearing EN stops it; the rest takes writes only while EN is 0 (R356). -/
def writeRingCfg (r : Nat) (w : Word) (s : State) : State :=
  let x := ring s r
  let w := w &&& ringCfgMask
  if bitAt w 0 then ran (execRingEnable r w s) s
  else if ringEn x then (if w = x.cfg &&& 0xFFFFFFFE#32 then ran (execRingDisable r s) s else hifReject s)
  else if ringCfgReserved s w then hifReject s
  else setRing r { x with cfg := w } s

/-- The other registers of a ring. -/
def writeRingReg (d : RegDesc) (r a : Nat) (w : Word) (s : State) : State :=
  let x := ring s r
  let w := w &&& accMask d .rw
  let lo := lowWord s (a - 4)
  if ringEn x then hifReject s
  else if d.base = Reg.HIF_RING_BASE_LO 0 ∨ d.base = Reg.HIF_RING_IDX_LO 0 ∨ d.base = Reg.HIF_RING_DATA_LO 0 then stageLow d a w s
  else if d.base = Reg.HIF_RING_BASE_HI 0 then setRing r { x with baseLo := lo, baseHi := w } s
  else if d.base = Reg.HIF_RING_IDX_HI 0 then setRing r { x with idxLo := lo, idxHi := w } s
  else if d.base = Reg.HIF_RING_DATA_HI 0 then setRing r { x with dataLo := lo, dataHi := w } s
  else setRing r { x with dataCfg := w } s

/-- The MSI-X table entry of vector `v` (R370). -/
def writeMsix (d : RegDesc) (v : Nat) (w : Word) (s : State) : State :=
  let x := ioVec s.io v
  if d.base = Reg.MSIX_ADDR_LO 0 then setIo (ioSetVec s.io v { x with addrLo := w }) s
  else if d.base = Reg.MSIX_ADDR_HI 0 then setIo (ioSetVec s.io v { x with addrHi := w }) s
  else if d.base = Reg.MSIX_DATA 0 then setIo (ioSetVec s.io v { x with data := w }) s
  else if bitAt w 0 then setIo (ioSetVec s.io v { x with masked := true }) s
  else ran (execMsixUnmask (.vector v) s) s

def writeHif (d : RegDesc) (n a : Nat) (w : Word) (s : State) : State :=
  let e := ioEv s.io n
  if d.base = Reg.HIF_EVT_PENDING 0 then setIo (ioSetEv s.io n { e with pending := e.pending &&& ~~~w }) s
  else if d.base = Reg.HIF_EVT_ENABLE 0 then ran (execEventEnable n w s) s
  else if d.base = Reg.HIF_EVT_ROUTE 0 then setIo (ioSetEv s.io n { e with route := w &&& accMask d .rw }) s
  else if d.base = Reg.HIF_RING_CFG 0 then writeRingCfg n w s
  else if d.base = Reg.HIF_VEC_MOD 0 then setIo (ioSetVec s.io n { ioVec s.io n with minUs := bits w 15 0 }) s
  else if Reg.MSIX_ADDR_LO 0 ≤ a then (if accMask d .rw = 0 then s else writeMsix d n w s)
  else if 0x01201000 ≤ a ∧ a < 0x01205000 then (if accMask d .rw = 0 then (if ringEn (ring s n) then hifReject s else s) else writeRingReg d n a w s)
  else plainWrite d a w s

/-- KEY_TAMP_CFG and KEY_TAMP_TIMING take writes in BLANK and PROVISIONED only (R452). -/
def tampOpen (s : State) : Bool := decide (lc s ≤ 1)

def writeKey (d : RegDesc) (a : Nat) (w : Word) (s : State) : State :=
  if d.base = Reg.KEY_TAMP_CFG ∨ d.base = Reg.KEY_TAMP_TIMING then checkedWrite (tampOpen s) d a w s
  else if d.base = Reg.KEY_RTC_ALARM then setKey { s.key with alarm := w } s
  else if d.base = Reg.KEY_LC_CMD then (let s := ran (execProvision w s) s; ran (execRetire w s) s)
  else plainWrite d a w s

def writeRec (d : RegDesc) (a : Nat) (w : Word) (s : State) : State :=
  if d.base = Reg.REC_READ_SEQ then ran (execRecReadSeq w s) s
  else if d.base = Reg.REC_FILL_CFG then fillHigh (plainWrite d a w s)
  else plainWrite d a w s

/-- The system events of Table 16.5, as ranges. -/
def systemEvents : List (Nat × Nat) := [
  (0x100, 0x103), (0x108, 0x10A), (0x110, 0x113), (0x118, 0x11F), (0x120, 0x127), (0x130, 0x135), (0x140, 0x148), (0x150, 0x151),
  (0x158, 0x161), (0x168, 0x169), (0x170, 0x172), (0x178, 0x17C), (0x180, 0x184), (0x188, 0x18B), (0x190, 0x190)]

/-- Counter `k` can count event `e` (R476, R482); event 0 counts nothing on any counter. -/
def eventFits (k e : Nat) : Bool :=
  decide (e = 0) || (if k < 192 then decide (e ≤ 0x13) else systemEvents.any (fun r => decide (r.1 ≤ e) && decide (e ≤ r.2)))

/-- The performance counters; a carry in the cycle of a write is dropped (R481). -/
def writePrf (d : RegDesc) (k a : Nat) (w : Word) (x : WriteCycle) (s : State) : State :=
  let c := ioCtr s.io k
  if d.base = Reg.PRF_CTL then ran (execFreeze w s) s
  else if d.base = Reg.PRF_HI 0 then ran (execPrfHiWrite k ⟨w, x.carry⟩ s) s
  else if d.base = Reg.PRF_EVT 0 then
    (if !ctrExists s k then s
     else if eventFits k (bits w 11 0) then
       carryDropped k x.carry (setIo (ioSetCtr s.io k { c with event := bits w 11 0, irqEn := bitAt w 12 }) s)
     else blockReject a s)
  else if d.base = Reg.PRF_LO 0 then (if ctrExists s k then setIo (ioSetCtr s.io k { c with low := w }) s else s)
  else plainWrite d a w s

/-- UPD_CMD: CONFIRM and RAISE_FLOOR, PUSH_PEER, CFG_SAVE. RAISE_FLOOR acts on ACTIVE as the write finds it. -/
def writeUpdCmd (w : Word) (s : State) : State :=
  let s := ran (execConfirm w s) s
  let s := ran (execRaiseFloor w s) s
  let s := ran (execPushPeer w s) s
  ran (execCfgSave w s) s

/-- OTP_CMD: what the readback of a written generation finds is open: a free value. -/
def writeOtpCmd (w : Word) (s : State) : State := ran (execOtpProgram w (decide (freeVal s % 2 = 0)) s) s

def writeUpd (d : RegDesc) (a : Nat) (w : Word) (s : State) : State :=
  if d.base = Reg.OTP_CMD then freeNext (writeOtpCmd w s)
  else if d.base = Reg.UPD_CMD then writeUpdCmd w s
  else plainWrite d a w s

/-- Sources of group `g` that were pending, and that hardware raises in the cycle of a write that clears them: their bits stay set, and
they are delivered again (R369). One raised first in this instant has been delivered. -/
def redeliver (g : Nat) (w : Word) (s : State) : State :=
  let e := ioEv s.io g
  let again (b : Nat) : Bool := bitAt (w &&& e.pending &&& e.enable) b && decide ((Tab.get raiseDef e.at_ b).1 ≠ s.tim.now)
  (List.range 32).foldl (fun s b => if again b then withIo (deliver s.tim.now (s.tim.now, e.pending) (chained s) (32 * g + b)) s else s) s

/-- A write that reaches the register at `a`. A W1C bit that hardware sets in the same cycle remains set (R9). -/
def writeReg (d : RegDesc) (a : Nat) (w : Word) (x : WriteCycle) (s : State) : State :=
  let n := RegMap.index d a
  let again := w &&& x.set
  let w := w &&& ~~~(x.set &&& accMask d .w1c)
  match a / 2 ^ 20 with
  | 0 => writeGlb d a w s
  | 1 => writeCrp d n a w s
  | 2 => writeTim d n a w s
  | 3 => writeIng d n a w s
  | 4 | 5 | 6 | 7 => writeCor d n a w s
  | 8 => writeAcq d n a w s
  | 9 => writeRef d n a w s
  | 10 => writePst d a w s
  | 12 => writeCht d a w s
  | 14 => writeDsp d a w s
  | 15 => writeNfl d a w s
  | 16 => writeNet d n a w s
  | 17 => writePai d a w s
  | 18 => if d.base = Reg.HIF_EVT_PENDING 0 then redeliver n again (writeHif d n a w s) else writeHif d n a w s
  | 19 => writeKey d a w s
  | 20 => writeRec d a w s
  | 21 => writePrf d n a w x s
  | 22 => writeUpd d a w s
  | _ => s

/-- The doorbell page of an address, at its offset 0 (R354). -/
def doorbellOf (a : Nat) : Option Nat :=
  if 0x02000000 ≤ a ∧ (a - 0x02000000) % 0x1000 = 0 ∧ (a - 0x02000000) / 0x1000 < 256 then some ((a - 0x02000000) / 0x1000) else none

/-- A write of the word `w` to the dword at `a`: R351, then R2, R334 and the register. A write with partial byte enables sets
MMIO_PARTIAL wherever it goes, also where R2 forbids an access without a sticky bit (DEDUCED, assumption 221). -/
def execRegisterWrite (a : Nat) (w : Word) (x : WriteCycle) (s : State) : Out :=
  .next (
    if !hostUp s then s
    else if x.be % 16 ≠ 15 ∨ a % 4 ≠ 0 then sticky Reg.HIF_STICKY 4 s
    else match doorbellOf a with
      | some r => ran (execDoorbell r w s) s
      | none =>
        match reached s a with
        | none => s
        | some d => if isMirroredReg a && decide (s.crp.mode = .standby) then paiSticky 11 s else writeReg d a w x s)

end Sys2Proof.Machine
end

