-- ==== Sys2Proof/Machine/Dispatch.lean ====
section
/-! DEFINITION. One arm for each command: its meaning. -/
namespace Sys2Proof.Machine

/-- The effect of a command on everything but the queue. -/
def exec (i : Instr) (s : State) : Host.Outcome State Fault Refusal :=
  match i with
  | .registerWrite addr w x => Sys2Proof.Machine.execRegisterWrite addr w x s
  | .lowWordCapture addr => Sys2Proof.Machine.execLowWordCapture addr s
  | .bridgeLaneFail => Sys2Proof.Machine.execBridgeLaneFail s
  | .bbSyncLost => Sys2Proof.Machine.execBbSyncLost s
  | .bridgeSilent => Sys2Proof.Machine.execBridgeSilent s
  | .thermalSample bb fl nv => Sys2Proof.Machine.execThermalSample bb fl nv s
  | .thermalTripClear w => Sys2Proof.Machine.execThermalTripClear w s
  | .antEn w => Sys2Proof.Machine.execAntEn w s
  | .codeGroupSync ant => Sys2Proof.Machine.execCodeGroupSync ant s
  | .sysrefPulse phases => Sys2Proof.Machine.execSysrefPulse phases s
  | .ilasReceived ant octets => Sys2Proof.Machine.execIlasReceived ant octets s
  | .codeErr ant => Sys2Proof.Machine.execCodeErr ant s
  | .linkLoss ant cdrLost => Sys2Proof.Machine.execLinkLoss ant cdrLost s
  | .ingClipLoad ant clipped => Sys2Proof.Machine.execIngClipLoad ant clipped s
  | .ingLatencyWrite ant w => Sys2Proof.Machine.execIngLatencyWrite ant w s
  | .latencyStep ant => Sys2Proof.Machine.execLatencyStep ant s
  | .start ch => Sys2Proof.Machine.execStart ch s
  | .stopAt ch => Sys2Proof.Machine.execStopAt ch s
  | .abort ch => Sys2Proof.Machine.execAbort ch s
  | .contextRun ch => Sys2Proof.Machine.execContextRun ch s
  | .integrationBoundary ch frames => Sys2Proof.Machine.execIntegrationBoundary ch frames s
  | .replayCaptureEnd ch id => Sys2Proof.Machine.execReplayCaptureEnd ch id s
  | .dumpDelivery unit => Sys2Proof.Machine.execDumpDelivery unit s
  | .rateMessage ch code carr => Sys2Proof.Machine.execRateMessage ch code carr s
  | .codeRateHi ch w => Sys2Proof.Machine.execCodeRateHi ch w s
  | .carrRateHi ch w => Sys2Proof.Machine.execCarrRateHi ch w s
  | .corrMismatchEvent unit context => Sys2Proof.Machine.execCorrMismatchEvent unit context s
  | .corCodeData w => Sys2Proof.Machine.execCorCodeData w s
  | .corInject w => Sys2Proof.Machine.execCorInject w s
  | .capture => Sys2Proof.Machine.execCapture s
  | .captureRelease id => Sys2Proof.Machine.execCaptureRelease id s
  | .captureWindowStart id => Sys2Proof.Machine.execCaptureWindowStart id s
  | .captureWindowEnd w => Sys2Proof.Machine.execCaptureWindowEnd w s
  | .snapshotScheduledCapture => Sys2Proof.Machine.execSnapshotScheduledCapture s
  | .acqJob w => Sys2Proof.Machine.execAcqJob w s
  | .searchStart pipe => Sys2Proof.Machine.execSearchStart pipe s
  | .searchComplete pipe => Sys2Proof.Machine.execSearchComplete pipe s
  | .snapFrame port => Sys2Proof.Machine.execSnapFrame port s
  | .snapReassemblyTimeout m => Sys2Proof.Machine.execSnapReassemblyTimeout m s
  | .snapSolve => Sys2Proof.Machine.execSnapSolve s
  | .baseEpoch obs => Sys2Proof.Machine.execBaseEpoch obs s
  | .basePublish sats eph => Sys2Proof.Machine.execBasePublish sats eph s
  | .baseDiscard => Sys2Proof.Machine.execBaseDiscard s
  | .readmit ant w => Sys2Proof.Machine.execReadmit ant w s
  | .exclude ant w => Sys2Proof.Machine.execExclude ant w s
  | .surveyStart w => Sys2Proof.Machine.execSurveyStart w s
  | .surveyAbort w => Sys2Proof.Machine.execSurveyAbort w s
  | .surveyEnd => Sys2Proof.Machine.execSurveyEnd s
  | .leapApply => Sys2Proof.Machine.execLeapApply s
  | .streamEpochDue n => Sys2Proof.Machine.execStreamEpochDue n s
  | .encode => Sys2Proof.Machine.execEncode s
  | .frameReceive port frame fcsOk => Sys2Proof.Machine.execFrameReceive port frame fcsOk s
  | .xoffRefresh port => Sys2Proof.Machine.execXoffRefresh port s
  | .pauseExpiry port => Sys2Proof.Machine.execPauseExpiry port s
  | .pauseBypass port => Sys2Proof.Machine.execPauseBypass port s
  | .linkUp port => Sys2Proof.Machine.execLinkUp port s
  | .linkDown port => Sys2Proof.Machine.execLinkDown port s
  | .transmitStart turn => Sys2Proof.Machine.execTransmitStart turn s
  | .transmitEnd port => Sys2Proof.Machine.execTransmitEnd port s
  | .obsFrame port => Sys2Proof.Machine.execObsFrame port s
  | .obsEpochTimeout m => Sys2Proof.Machine.execObsEpochTimeout m s
  | .posFrame port => Sys2Proof.Machine.execPosFrame port s
  | .statusFrame port => Sys2Proof.Machine.execStatusFrame port s
  | .ackFrame port => Sys2Proof.Machine.execAckFrame port s
  | .wrongGenFrame port => Sys2Proof.Machine.execWrongGenFrame port s
  | .opstopFrame port => Sys2Proof.Machine.execOpstopFrame port s
  | .obsParse => Sys2Proof.Machine.execObsParse s
  | .posParse => Sys2Proof.Machine.execPosParse s
  | .statusParse => Sys2Proof.Machine.execStatusParse s
  | .ackParse => Sys2Proof.Machine.execAckParse s
  | .fixJob e => Sys2Proof.Machine.execFixJob e s
  | .fixGateOpen => Sys2Proof.Machine.execFixGateOpen s
  | .fixJobComplete e => Sys2Proof.Machine.execFixJobComplete e s
  | .fixMismatchEvent e => Sys2Proof.Machine.execFixMismatchEvent e s
  | .pstSlotReset w => Sys2Proof.Machine.execPstSlotReset w s
  | .pstClearLat => Sys2Proof.Machine.execPstClearLat s
  | .pstInject w => Sys2Proof.Machine.execPstInject w s
  | .graphLoad => Sys2Proof.Machine.execGraphLoad s
  | .graphVerified image => Sys2Proof.Machine.execGraphVerified image s
  | .graphActivate => Sys2Proof.Machine.execGraphActivate s
  | .rebase => Sys2Proof.Machine.execRebase s
  | .rebaseWindowEnd => Sys2Proof.Machine.execRebaseWindowEnd s
  | .chtClearLat => Sys2Proof.Machine.execChtClearLat s
  | .originWrite w => Sys2Proof.Machine.execOriginWrite w s
  | .tickNearWrap => Sys2Proof.Machine.execTickNearWrap s
  | .tickWrap => Sys2Proof.Machine.execTickWrap s
  | .intervalReclaim => Sys2Proof.Machine.execIntervalReclaim s
  | .grantPeriodBoundary => Sys2Proof.Machine.execGrantPeriodBoundary s
  | .ledger => Sys2Proof.Machine.execLedger s
  | .ledgerDecision => Sys2Proof.Machine.execLedgerDecision s
  | .routeSet => Sys2Proof.Machine.execRouteSet s
  | .halo => Sys2Proof.Machine.execHalo s
  | .lapse => Sys2Proof.Machine.execLapse s
  | .sramEccCorrected shard => Sys2Proof.Machine.execSramEccCorrected shard s
  | .ledgerUe shard sram => Sys2Proof.Machine.execLedgerUe shard sram s
  | .commandFetch ring entry body entryErr bodyErr => Sys2Proof.Machine.execCommandFetch ring entry body entryErr bodyErr s
  | .intakeResume => Sys2Proof.Machine.execIntakeResume s
  | .taskEnqueue => Sys2Proof.Machine.execTaskEnqueue s
  | .taskCancel => Sys2Proof.Machine.execTaskCancel s
  | .taskRequeue => Sys2Proof.Machine.execTaskRequeue s
  | .allot => Sys2Proof.Machine.execAllot s
  | .dspClearMax => Sys2Proof.Machine.execDspClearMax s
  | .stopInDebounce ch => Sys2Proof.Machine.execStopInDebounce ch s
  | .discrepancy => Sys2Proof.Machine.execDiscrepancy s
  | .fbFault ch => Sys2Proof.Machine.execFbFault ch s
  | .nflTrigger w => Sys2Proof.Machine.execNflTrigger w s
  | .latchMismatch => Sys2Proof.Machine.execLatchMismatch s
  | .clockCrossCheck => Sys2Proof.Machine.execClockCrossCheck s
  | .safeSupplyMonitor => Sys2Proof.Machine.execSafeSupplyMonitor s
  | .nflWdgKick w => Sys2Proof.Machine.execNflWdgKick w s
  | .watchdogExpiry => Sys2Proof.Machine.execWatchdogExpiry s
  | .keyGraceExpiry => Sys2Proof.Machine.execKeyGraceExpiry s
  | .nightfallFrameDue => Sys2Proof.Machine.execNightfallFrameDue s
  | .nflArm w => Sys2Proof.Machine.execNflArm w s
  | .nflConfirm w => Sys2Proof.Machine.execNflConfirm w s
  | .releaseAcknowledged => Sys2Proof.Machine.execReleaseAcknowledged s
  | .confirmAckTimeout => Sys2Proof.Machine.execConfirmAckTimeout s
  | .armWindowEnd => Sys2Proof.Machine.execArmWindowEnd s
  | .nflMrel w => Sys2Proof.Machine.execNflMrel w s
  | .releaseResend => Sys2Proof.Machine.execReleaseResend s
  | .timIncrInt w => Sys2Proof.Machine.execTimIncrInt w s
  | .incrApply => Sys2Proof.Machine.execIncrApply s
  | .timAdjCtrl w => Sys2Proof.Machine.execTimAdjCtrl w s
  | .adjustmentEnd => Sys2Proof.Machine.execAdjustmentEnd s
  | .timSetNs w => Sys2Proof.Machine.execTimSetNs w s
  | .timLockReport w => Sys2Proof.Machine.execTimLockReport w s
  | .timLossNs w => Sys2Proof.Machine.execTimLossNs w s
  | .timReturn w => Sys2Proof.Machine.execTimReturn w s
  | .holdoverEntry => Sys2Proof.Machine.execHoldoverEntry s
  | .sigTimeout => Sys2Proof.Machine.execSigTimeout s
  | .stepInstant => Sys2Proof.Machine.execStepInstant s
  | .stepHoldEnd => Sys2Proof.Machine.execStepHoldEnd s
  | .boundExceeded => Sys2Proof.Machine.execBoundExceeded s
  | .timeSyncSymbol driftPs => Sys2Proof.Machine.execTimeSyncSymbol driftPs s
  | .ppsEdge n => Sys2Proof.Machine.execPpsEdge n s
  | .tpEn k w => Sys2Proof.Machine.execTpEn k w s
  | .tpPulse k => Sys2Proof.Machine.execTpPulse k s
  | .pulseWidthEnd out => Sys2Proof.Machine.execPulseWidthEnd out s
  | .peerDelayExchange port t1 t2 t3 t4 => Sys2Proof.Machine.execPeerDelayExchange port t1 t2 t3 t4 s
  | .pathAsymClear port => Sys2Proof.Machine.execPathAsymClear port s
  | .timNowCapture => Sys2Proof.Machine.execTimNowCapture s
  | .rtcLoad => Sys2Proof.Machine.execRtcLoad s
  | .heartbeatSend => Sys2Proof.Machine.execHeartbeatSend s
  | .heartbeatReceive frame crcOk => Sys2Proof.Machine.execHeartbeatReceive frame crcOk s
  | .pulseBurstSend => Sys2Proof.Machine.execPulseBurstSend s
  | .pulseBurstReceive cells => Sys2Proof.Machine.execPulseBurstReceive cells s
  | .pathAFail => Sys2Proof.Machine.execPathAFail s
  | .pathBFail => Sys2Proof.Machine.execPathBFail s
  | .claimSample high => Sys2Proof.Machine.execClaimSample high s
  | .claimNRelease => Sys2Proof.Machine.execClaimNRelease s
  | .splitClaimLow => Sys2Proof.Machine.execSplitClaimLow s
  | .splitClaimStuck => Sys2Proof.Machine.execSplitClaimStuck s
  | .mirrorRecord number r => Sys2Proof.Machine.execMirrorRecord number r s
  | .mirrorAck number => Sys2Proof.Machine.execMirrorAck number s
  | .mirrorAckTimeout => Sys2Proof.Machine.execMirrorAckTimeout s
  | .mirrorSyncComplete => Sys2Proof.Machine.execMirrorSyncComplete s
  | .handoverAckTimeout => Sys2Proof.Machine.execHandoverAckTimeout s
  | .yield => Sys2Proof.Machine.execYield s
  | .resync => Sys2Proof.Machine.execResync s
  | .peerWaitExpiry => Sys2Proof.Machine.execPeerWaitExpiry s
  | .pcieReset => Sys2Proof.Machine.execPcieReset s
  | .dmaHold => Sys2Proof.Machine.execDmaHold s
  | .dmaResume => Sys2Proof.Machine.execDmaResume s
  | .doorbell ring h => Sys2Proof.Machine.execDoorbell ring h s
  | .ringEnable ring w => Sys2Proof.Machine.execRingEnable ring w s
  | .ringDisable ring => Sys2Proof.Machine.execRingDisable ring s
  | .nop => Sys2Proof.Machine.execNop s
  | .machineSet => Sys2Proof.Machine.execMachineSet s
  | .machineGet => Sys2Proof.Machine.execMachineGet s
  | .acqSearch => Sys2Proof.Machine.execAcqSearch s
  | .netTx ring entry body frame entryErr bodyErr frameErr => Sys2Proof.Machine.execNetTx ring entry body frame entryErr bodyErr frameErr s
  | .eventEnable g w => Sys2Proof.Machine.execEventEnable g w s
  | .vectorModerationEnd v => Sys2Proof.Machine.execVectorModerationEnd v s
  | .zenithLock die => Sys2Proof.Machine.execZenithLock die s
  | .refLost => Sys2Proof.Machine.execRefLost s
  | .flUnlock => Sys2Proof.Machine.execFlUnlock s
  | .bbUnlock => Sys2Proof.Machine.execBbUnlock s
  | .bbRelock => Sys2Proof.Machine.execBbRelock s
  | .auxUnlock which => Sys2Proof.Machine.execAuxUnlock which s
  | .powerOn primary bootSel x => Sys2Proof.Machine.execPowerOn primary bootSel x s
  | .bootComplete => Sys2Proof.Machine.execBootComplete s
  | .resetN lowNs => Sys2Proof.Machine.execResetN lowNs s
  | .brownOut lowNs => Sys2Proof.Machine.execBrownOut lowNs s
  | .deviceReset w => Sys2Proof.Machine.execDeviceReset w s
  | .corrReset w => Sys2Proof.Machine.execCorrReset w s
  | .acqReset w => Sys2Proof.Machine.execAcqReset w s
  | .fixReset w => Sys2Proof.Machine.execFixReset w s
  | .chartReset w => Sys2Proof.Machine.execChartReset w s
  | .netReset w => Sys2Proof.Machine.execNetReset w s
  | .regionResetDone region => Sys2Proof.Machine.execRegionResetDone region s
  | .crpNetRst w => Sys2Proof.Machine.execCrpNetRst w s
  | .fifoDrop k w => Sys2Proof.Machine.execFifoDrop k w s
  | .fifoUe k => Sys2Proof.Machine.execFifoUe k s
  | .targetDormant w => Sys2Proof.Machine.execTargetDormant w s
  | .targetSurvey w => Sys2Proof.Machine.execTargetSurvey w s
  | .targetServe w => Sys2Proof.Machine.execTargetServe w s
  | .targetSnapshot w => Sys2Proof.Machine.execTargetSnapshot w s
  | .targetMaintain w => Sys2Proof.Machine.execTargetMaintain w s
  | .snapshotPowerDown => Sys2Proof.Machine.execSnapshotPowerDown s
  | .snapshotWake => Sys2Proof.Machine.execSnapshotWake s
  | .wakeN => Sys2Proof.Machine.execWakeN s
  | .rtcAlarm => Sys2Proof.Machine.execRtcAlarm s
  | .mainRailsLost => Sys2Proof.Machine.execMainRailsLost s
  | .powerRequest w => Sys2Proof.Machine.execPowerRequest w s
  | .cfgSwap w => Sys2Proof.Machine.execCfgSwap w s
  | .confirm w => Sys2Proof.Machine.execConfirm w s
  | .raiseFloor w => Sys2Proof.Machine.execRaiseFloor w s
  | .pushPeer w => Sys2Proof.Machine.execPushPeer w s
  | .cfgSave w => Sys2Proof.Machine.execCfgSave w s
  | .stageOpen => Sys2Proof.Machine.execStageOpen s
  | .peerOpenRecord totalLen => Sys2Proof.Machine.execPeerOpenRecord totalLen s
  | .stageBlock data => Sys2Proof.Machine.execStageBlock data s
  | .stageCommit session => Sys2Proof.Machine.execStageCommit session s
  | .stageAbort => Sys2Proof.Machine.execStageAbort s
  | .sessionTimeout => Sys2Proof.Machine.execSessionTimeout s
  | .otpProgram w verified => Sys2Proof.Machine.execOtpProgram w verified s
  | .provision w => Sys2Proof.Machine.execProvision w s
  | .retire w => Sys2Proof.Machine.execRetire w s
  | .keyWrite => Sys2Proof.Machine.execKeyWrite s
  | .keyDerive => Sys2Proof.Machine.execKeyDerive s
  | .keyZeroise => Sys2Proof.Machine.execKeyZeroise s
  | .setLc => Sys2Proof.Machine.execSetLc s
  | .replaceOwner => Sys2Proof.Machine.execReplaceOwner s
  | .attest => Sys2Proof.Machine.execAttest s
  | .tamperEvent src under => Sys2Proof.Machine.execTamperEvent src under s
  | .keyRamUe slot => Sys2Proof.Machine.execKeyRamUe slot s
  | .keyRestore slot => Sys2Proof.Machine.execKeyRestore slot s
  | .vbatLow => Sys2Proof.Machine.execVbatLow s
  | .debugAccess instr => Sys2Proof.Machine.execDebugAccess instr s
  | .rtcCapture => Sys2Proof.Machine.execRtcCapture s
  | .recordCommit => Sys2Proof.Machine.execRecordCommit s
  | .foldWriteBack => Sys2Proof.Machine.execFoldWriteBack s
  | .segmentRetired phys x => Sys2Proof.Machine.execSegmentRetired phys x s
  | .lifeboat cause => Sys2Proof.Machine.execLifeboat cause s
  | .recReadSeq w => Sys2Proof.Machine.execRecReadSeq w s
  | .recNonce => Sys2Proof.Machine.execRecNonce s
  | .recClear => Sys2Proof.Machine.execRecClear s
  | .counterOverflow k => Sys2Proof.Machine.execCounterOverflow k s
  | .prfHiWrite k w => Sys2Proof.Machine.execPrfHiWrite k w s
  | .freeze w => Sys2Proof.Machine.execFreeze w s
  | .prfPairCapture k => Sys2Proof.Machine.execPrfPairCapture k s
  | .stopInHealthy ch => Sys2Proof.Machine.execStopInHealthy ch s
  | .refInRestored => Sys2Proof.Machine.execRefInRestored s
  | .safeSupplyRestored => Sys2Proof.Machine.execSafeSupplyRestored s
  | .msixUnmask x => Sys2Proof.Machine.execMsixUnmask x s
  | .powerRampDone pd => Sys2Proof.Machine.execPowerRampDone pd s
  | .peerStageRecord block crc data => Sys2Proof.Machine.execPeerStageRecord block crc data s
  | .brownOutEnd => Sys2Proof.Machine.execBrownOutEnd s

end Sys2Proof.Machine
end

