-- ==== Sys2Proof/Machine/Tick.lean ====
section
/-! DEFINITION. One TIME cycle: what passes when no command waits (assumption 1). The counter advances (R299, R301),
the real-time clock runs (R451), and the counters of lasting events count (R482); everything else that time brings about is a
row of the table. -/
namespace Sys2Proof.Machine

/-- Fraction units that the adjustment in progress adds in this cycle (R301): of R units left over n cycles, R / n
rounded towards zero, so that the last cycle makes the total exact. -/
def adjShare (t : Tim) : Int := if t.adjCycles = 0 then 0 else t.adjRemain.tdiv (t.adjCycles : Int)

/-- What the BB counter removes of its last difference in this cycle (R303). -/
def bbShare (t : Tim) : Int := if t.bbCycles = 0 then 0 else t.bbRemain.tdiv (t.bbCycles : Int)

/-- The time counter and its BB slave over one TIME cycle: the slave copies the increment, not the adjustment. -/
def timCycle (t : Tim) : Tim :=
  let d := adjShare t
  let b := bbShare t
  { t with now := ((t.now + t.incr : Nat) + d).toNat, cycles := t.cycles + 1, adjRemain := t.adjRemain - d, adjCycles := t.adjCycles - 1,
           bb := ((t.bb + t.incr : Nat) + b).toNat, bbRemain := t.bbRemain - b, bbCycles := t.bbCycles - 1 }

/-- U that has fallen to the bound or below no longer exceeds it (R307). -/
def boundFallen (s : State) : State := if s.tim.above && !aboveBound s then { s with tim := { s.tim with above := false } } else s

/-- The RTC over one TIME cycle: 32,768 LPO cycles a second, of 409,200,000 TIME cycles. -/
def rtcCycle (k : Key) : Key :=
  let a := k.rtcAcc + 32768
  if a < 409200000 then { k with rtcAcc := a }
  else
    let k := { k with rtcAcc := a - 409200000 }
    if k.rtcSub = 32767 then { k with rtcSub := 0, rtcSec := k.rtcSec + 1 } else { k with rtcSub := k.rtcSub + 1 }

/-- The watchdog is suspended in SNAPSHOT (R279). -/
def wdgHold (s : State) : State :=
  if s.crp.mode = .snapshot then setNfl { s.nfl with wdgLast := s.nfl.wdgLast + 1 } s else s

/-- PD_1 is powered and out of reset: the TIME clock runs (R396, R493). -/
def timeRuns (s : State) : Bool := decide (pdState s 1 = .on) && !s.crp.brown

/-- Jobs queued at a level, as LEVEL_k_WAIT counts them (R245). -/
def waitingAt (k : Nat) (s : State) : Nat :=
  (s.dsp.jobs.filter (fun j => !j.inService && decide (countLevel s j = k))).length

/-- Microseconds of an intake stop that have passed (R253): 409.2 cycles each. -/
def stopUs (s : State) : Nat := (s.tim.cycles - s.dsp.offAt) * 10 / 4092

/-- A microsecond of an intake stop ends in this cycle: DSP_CNT_7 and event 0x160 (R268). -/
def stopCount (s : State) : State :=
  if s.dsp.intakeOff && decide (((s.tim.cycles - 1 - s.dsp.offAt) * 10 / 4092) < stopUs s) then perf 0x160 1 (inc (Reg.DSP_CNT 7) 1 s) else s

/-- The events of Table 16.5 that last: FABRIC runs two cycles to a TIME cycle (Table 13.1), and every busy pipeline and
engine counts them; job-microseconds count as a microsecond of device time begins. `before` is the time before the cycle. -/
def lasting (before : Nat) (s : State) : State :=
  let busy := (s.pst.engine.filter (fun e => e.2.job.isSome)).length
  let s := perf 0x134 (2 * busy) (perf 0x10A (2 * s.acq.pipe.length) (perf 0x190 2 s))
  if before / tUs = s.tim.now / tUs then s
  else (List.range 8).foldl (fun s k => perf (0x158 + k) (waitingAt k s) s) s

/-- The events of Table 16.5 that no command of the table and no state of this model shows: those of the cores; FIX_FMA, the conflict
cache, DRAM, corrected errors, host DMA and the bridge's retries. -/
def hiddenEvents : List Nat := [0x135, 0x143, 0x144, 0x178, 0x179, 0x17A, 0x17B, 0x17C, 0x182, 0x183, 0x18A]

/-- Counter `k` counts the hidden events of a cycle: how many is a free value (R482; assumption 134). -/
def hiddenCount (s : State) (e : Nat × PCtr) : State :=
  let n := if e.1 < 192 then Config.coreEvents (e.1 / 16) e.2.event s.tim.cycles else Config.systemEvents e.2.event s.tim.cycles
  let counts := (if e.1 < 192 then decide (e.2.event ≠ 0) else hiddenEvents.contains e.2.event) && !(chained s && decide (e.1 % 2 = 1))
  if counts && ctrExists s e.1 && !s.io.frozen then withIo (ctrAdd (chained s) e.1 n) s else s

/-- The hidden events of one cycle. -/
def hidden (s : State) : State := s.io.ctr.foldl hiddenCount s

/-- One TIME cycle of the device. Without PD_1 only PD_0's clock runs. -/
def tick (s : State) : State :=
  if timeRuns s then hidden <| lasting s.tim.now <| stopCount <| wdgHold <| boundFallen { s with tim := timCycle s.tim, key := rtcCycle s.key } else { s with key := rtcCycle s.key }

end Sys2Proof.Machine
end

