-- ==== Sys2Proof/Safety.lean ====
section
/-! DEFINITION. What statements speak of: a command that answers a next state, one-time programmable memory that only
gains bits (R417, R433), sticky bits that stay set (R475), grants on their way out (R28), and the parts of the
state. -/
namespace Sys2Proof.Safety
open Sys2Proof.Machine

/-- Command `i` in state `s` answers a next state, of which `P` holds. -/
def Completes (i : Instr) (s : State) (P : State → Prop) : Prop := ∃ t, exec i s = .next t ∧ P t

/-- A sticky bit reads 1. -/
abbrev stkSet (s : State) (a bit : Nat) : Prop := bitAt (stk s a) bit = true

/-- Every sticky bit of `s` is set in `t` too. -/
def stkHolds (s t : State) : Prop := ∀ a bit, stkSet s a bit → stkSet t a bit

/-- Bits set in `a` are set in `b`. -/
def bitsKept {n : Nat} (a b : BitVec n) : Prop := a &&& b = a

/-- One-time programmable memory only gains bits and generations. -/
def otpGrows (s t : State) : Prop :=
  bitsKept s.upd.lcField t.upd.lcField ∧ bitsKept s.upd.floorBits t.upd.floorBits ∧ s.upd.gens <+: t.upd.gens

/-- GRANT frames queued on the ports, and grants that wait for the peer's acknowledgement. -/
def grantsQueued (s : State) : Nat :=
  ((List.range 4).map (fun n => ((netPort s n).q2.filter (fun f => f.kind = .grant)).length)).sum + s.pai.grants.length

/-- The parts of the state, but for the queue of commands. -/
inductive Part where
  | grade | bank | io | recorder | crp | upd | ing | cor | acq | tim | ref | net | mach | pst | cht | dsp | tsk | nfl | pai | key | free
deriving DecidableEq, Repr

/-- A part is the same in two states. -/
def Part.same (s t : State) : Part → Prop
  | .grade => t.grade = s.grade
  | .bank => t.bank = s.bank
  | .io => t.io = s.io
  | .recorder => t.recorder = s.recorder
  | .crp => t.crp = s.crp
  | .upd => t.upd = s.upd
  | .ing => t.ing = s.ing
  | .cor => t.cor = s.cor
  | .acq => t.acq = s.acq
  | .tim => t.tim = s.tim
  | .ref => t.ref = s.ref
  | .net => t.net = s.net
  | .mach => t.mach = s.mach
  | .pst => t.pst = s.pst
  | .cht => t.cht = s.cht
  | .dsp => t.dsp = s.dsp
  | .tsk => t.tsk = s.tsk
  | .nfl => t.nfl = s.nfl
  | .pai => t.pai = s.pai
  | .key => t.key = s.key
  | .free => t.free = s.free

/-- At most the parts listed differ. -/
def onlyTouches (l : List Part) (s t : State) : Prop := ∀ p : Part, p ∉ l → p.same s t

/-! ### What a command leaves -/

/-- A set of registers, by address. -/
abbrev Fam := Nat → Bool
/-- One register; the first `n` of an array; those of sets of configuration (R418); those of a range. -/
def one (x : Nat) : Fam := fun a => decide (a = x)
def words (f : Nat → Nat) (n : Nat) : Fam := fun a => (List.range n).any (fun k => decide (a = f k))
def ofSets (sets : BitVec 8) : Fam := inSets sets
def between (lo hi : Nat) : Fam := fun a => decide (lo ≤ a) && decide (a < hi)
/-- A block's registers outside every set of configuration, but for some; every register but some; what SNAPSHOT powers down. -/
def block (lo hi : Nat) (but : List Nat) : Fam := fun a => between lo hi a && (setOf a).isNone && !but.contains a
def allBut (l : List Nat) : Fam := fun a => !l.contains a
def notInSnapshot : Fam := fun a => !snapKeeps a

/-- The address belongs to one of the families. -/
def among (l : List Fam) (a : Nat) : Bool := l.any (fun f => f a)

/-- The counters of a block. -/
def netCnt (n : Nat) : Fam := words (Reg.NET_CNT n) 8
def allNetCnt : Fam := fun a => (List.range 4).any (fun n => netCnt n a)
def netSticky : Fam := words Reg.NET_STICKY 4
def pstCnt : Fam := words Reg.PST_CNT 8
def chtCnt : Fam := words Reg.CHT_CNT 12
def dspCnt : Fam := words Reg.DSP_CNT 8
def tskCnt : Fam := words Reg.TSK_CNT 8
def nflCnt : Fam := words Reg.NFL_CNT 8
def paiCnt : Fam := words Reg.PAI_CNT 8
def recCnt : Fam := words Reg.REC_CNT 8

/-- The sticky words that a raise of any source can set: a full event ring (R366), a counter that wraps (R478). -/
def raised : List Fam := [one Reg.HIF_STICKY, one Reg.PRF_STICKY, words Reg.PRF_OVF 8]

/-- Command `c` changes at most these parts, and never the queue or the grade. -/
def Keeps (c : Instr) (parts : List Part) : Prop :=
  ∀ s t, exec c s = .next t → t.pending = s.pending ∧ t.grade = s.grade ∧ onlyTouches parts s t

/-- Of the plain registers at most those of `regs` differ, of the sticky words at most those of `stks`. -/
def SameBut (regs stks : List Fam) (s t : State) : Prop :=
  (∀ a, among regs a = false → rd t a = rd s a ∧ shadow t a = shadow s a) ∧ (∀ a, among stks a = false → stk t a = stk s a)

/-- Command `c` changes at most these parts; of the plain registers at most those of `regs`, of the sticky words at most those
of `stks`. -/
def Frame (c : Instr) (parts : List Part) (regs stks : List Fam) : Prop :=
  Keeps c parts ∧ ∀ s t, exec c s = .next t → SameBut regs stks s t

/-- Command `c` can take power from part of the device, or reset it: of the registers outside `regs` those of `cleared` keep their values
or read their resets, the others keep theirs; of the sticky words outside `stks` those of `cleared` keep theirs or read 0. -/
def ResetFrame (c : Instr) (parts : List Part) (cleared regs stks : List Fam) : Prop :=
  Keeps c parts ∧ ∀ s t, exec c s = .next t →
    (∀ a, among regs a = false → (rd t a = rd s a ∨ rd t a = RegMap.reset a) ∧
      (among cleared a = false → rd t a = rd s a ∧ shadow t a = shadow s a)) ∧
    (∀ a, among stks a = false → (stk t a = stk s a ∨ stk t a = 0) ∧ (among cleared a = false → stk t a = stk s a))

/-- What a Nightfall trigger may change (R275, R276, R280): parts, registers, sticky words. -/
def nfParts : List Part := [.bank, .io, .recorder, .upd, .net, .cht, .nfl, .pai]
def nfRegs : List Fam := [nflCnt, one Reg.NFL_REFUSE, recCnt]
def nfStks : List Fam := [one Reg.NFL_STICKY, one Reg.REC_STICKY] ++ raised

/-- A trigger's parts, registers and sticky words with others; some sticky words with those of a raise. -/
def nfPartsAnd (l : List Part) : List Part := nfParts ++ l
def nfRegsAnd (l : List Fam) : List Fam := nfRegs ++ l
def nfStksAnd (l : List Fam) : List Fam := nfStks ++ l
def andRaised (l : List Fam) : List Fam := l ++ raised

/-- The registers of the correlator regions that a write of CRP_RST_CMD resets. -/
def corrRegs (w : Word) : Fam := fun a =>
  (List.range 4).any (fun r => rstAsks w (1 + r) && (one (Reg.COR_QUAR r) a || between (Reg.COR_CFG (512 * r)) (Reg.COR_CFG (512 * (r + 1))) a))
/-- Every register of the correlator regions, of ACQ, of the ports. -/
def allCorrRegs : List Fam := [words Reg.COR_QUAR 4, between (Reg.COR_CFG 0) (Reg.COR_CFG 2048)]
def acqRegs : Fam := between 0x800000 0x900000
def portRegs : Fam := block 0x1000000 0x1100000 []
/-- The registers that a mirror record writes (Table 11.3). -/
def recordRegs (r : MirrorRec) : Fam := fun a =>
  match r with
  | .cfg l => l.any (fun e => decide (e.1 = a))
  | .sync => isMirroredReg a
  | _ => false
/-- What a start loads: the sets, and the registers of OTP (Table 14.4). -/
def startRegs : List Fam := [ofSets 0xFF, one Reg.CRP_NETREF, one Reg.ING_SYSREF_CTL, one Reg.TIM_BB_LAT,
  words Reg.TIM_PORT_LAT_10G 4, words Reg.TIM_PORT_LAT_1G 4]

/-! ### Writes of registers -/

/-- A register whose write does more than to store its fields, or that takes them under a condition: the registers of channel
contexts, rings and vectors, and the commands. -/
def hasEffect (b : Nat) : Bool :=
  between (Reg.COR_CFG 0) (Reg.COR_CFG 2048) b || between 0x01200100 0x01220000 b ||
  [Reg.GLB_ERR, Reg.CRP_NETREF, Reg.CRP_RST_CMD, Reg.CRP_NET_RST, Reg.CRP_FIFO_CMD 0, Reg.CRP_MODE_CMD, Reg.CRP_PWR_REQ,
   Reg.CRP_CFG_SWAP].contains b ||
  [Reg.TIM_INCR_FRAC, Reg.TIM_INCR_INT, Reg.TIM_ADJ_CTRL, Reg.TIM_SET_NS, Reg.TIM_LOCK_REPORT, Reg.TIM_LOSS_NS, Reg.TIM_RETURN,
   Reg.TIM_BB_LAT, Reg.TIM_PPS_CFG 0, Reg.TIM_PPS_DELAY 0, Reg.TIM_TP_CFG 0, Reg.TIM_TP_AT_S 0, Reg.TIM_TP_AT_NS 0,
   Reg.TIM_TP_PERIOD 0, Reg.TIM_TP_WIDTH 0, Reg.TIM_PORT_STICKY 0].contains b ||
  [Reg.ING_CTRL, Reg.ING_SYSREF_CTL, Reg.ING_CFG 0, Reg.ING_LATENCY 0, Reg.COR_INJECT, Reg.COR_CODE_DATA, Reg.ACQ_CAP_CMD,
   Reg.ACQ_CODE_DATA, Reg.ACQ_JOB 0, Reg.REF_ANT_COORD 0 0, Reg.REF_STREAM_MSG_MASK 0, Reg.REF_ANT_TEXT 0 0, Reg.REF_ANT_CMD 0,
   Reg.REF_SURVEY_CMD, Reg.PST_CTRL, Reg.PST_INJECT, Reg.PST_CMD, Reg.PST_SLOT_CMD].contains b ||
  [Reg.CHT_CTRL, Reg.CHT_ORIGIN_LO, Reg.CHT_ORIGIN_HI, Reg.CHT_CMD, Reg.CHT_FILL_CFG, Reg.CHT_GRAPH_ADDR_LO, Reg.CHT_GRAPH_ADDR_HI,
   Reg.CHT_GRAPH_LEN, Reg.DSP_CMD, Reg.DSP_CTRL, Reg.NFL_TRIGGER, Reg.NFL_ARM, Reg.NFL_CONFIRM, Reg.NFL_MREL, Reg.NFL_WDG_KICK,
   Reg.NET_VLAN 0, Reg.NET_PAUSE_CFG 0, Reg.PAI_CMD, Reg.PAI_CTRL, Reg.PAI_ASYM].contains b ||
  [Reg.KEY_TAMP_CFG, Reg.KEY_TAMP_TIMING, Reg.KEY_RTC_ALARM, Reg.KEY_LC_CMD, Reg.REC_READ_SEQ, Reg.REC_FILL_CFG, Reg.PRF_CTL,
   Reg.PRF_HI 0, Reg.PRF_EVT 0, Reg.PRF_LO 0, Reg.OTP_CMD, Reg.UPD_CMD].contains b

/-- The registers whose write is one row of the table: the first of each array with the row that a write of element `n` is. -/
def rowWrites (n : Nat) (w : Word) (carry : Bool) : List (Nat × Instr) := [
  (Reg.GLB_ERR, .thermalTripClear w), (Reg.CRP_NET_RST, .crpNetRst w), (Reg.CRP_FIFO_CMD 0, .fifoDrop n w),
  (Reg.CRP_PWR_REQ, .powerRequest w), (Reg.CRP_CFG_SWAP, .cfgSwap w),
  (Reg.TIM_INCR_INT, .timIncrInt w), (Reg.TIM_ADJ_CTRL, .timAdjCtrl w), (Reg.TIM_SET_NS, .timSetNs w),
  (Reg.TIM_LOCK_REPORT, .timLockReport w), (Reg.TIM_LOSS_NS, .timLossNs w), (Reg.TIM_RETURN, .timReturn w),
  (Reg.ING_CTRL, .antEn w), (Reg.ING_LATENCY 0, .ingLatencyWrite n w), (Reg.COR_INJECT, .corInject w),
  (Reg.COR_CODE_DATA, .corCodeData w), (Reg.COR_CODE_RATE_HI 0, .codeRateHi n w), (Reg.COR_CARR_RATE_HI 0, .carrRateHi n w),
  (Reg.PST_INJECT, .pstInject w), (Reg.PST_SLOT_CMD, .pstSlotReset w), (Reg.CHT_ORIGIN_HI, .originWrite w),
  (Reg.NFL_TRIGGER, .nflTrigger w), (Reg.NFL_ARM, .nflArm w), (Reg.NFL_CONFIRM, .nflConfirm w), (Reg.NFL_MREL, .nflMrel w),
  (Reg.NFL_WDG_KICK, .nflWdgKick w), (Reg.HIF_EVT_ENABLE 0, .eventEnable n w), (Reg.REC_READ_SEQ, .recReadSeq w),
  (Reg.PRF_CTL, .freeze w), (Reg.PRF_HI 0, .prfHiWrite n ⟨w, carry⟩)]

/-! ### The invariant -/

/-- What no command breaks: HOLDOVER returns to SERVE or SURVEY (Table 14.1), at most five OTP generations (R417), at most
four pending dumps to a unit (R18), accumulators that saturate (R64), code memories in canonical form. -/
def Inv (s : State) : Prop :=
  (s.crp.mode = .holdover → s.crp.prev = .serve ∨ s.crp.prev = .survey) ∧
  s.upd.gens.length ≤ 5 ∧
  (∀ u, (corUnit s u).dumps.length ≤ 4) ∧
  (∀ ch, ∀ v ∈ (ctx s ch).acc, -8388607 ≤ v ∧ v ≤ 8388607) ∧
  Tab.wf wordDef s.cor.code = true ∧ Tab.wf wordDef s.acq.code = true

/-- The two counters of a pair as one number of 96 bits (R477). -/
def pairCount (io : Io) (j : Nat) : Nat := (ioCtr io (2 * j)).count.toNat + 2 ^ 48 * (ioCtr io (2 * j + 1)).count.toNat

/-- A command that resets the whole device (R396); a host write of CRP_RST_CMD can. -/
def resetsDevice (c : Instr) : Prop :=
  match c with
  | .powerOn _ _ _ | .resetN _ | .brownOut _ | .deviceReset _ => True
  | .registerWrite a _ _ => a = Reg.CRP_RST_CMD
  | _ => False

/-- A command that wakes the device from SNAPSHOT (R411, Table 15.10). -/
def wakesSnapshot (c : Instr) : Prop :=
  match c with
  | .snapshotWake | .tamperEvent _ _ => True
  | _ => False

end Sys2Proof.Safety
end

