-- ==== Sys2Proof/Certificates/Slice0/Obligations.lean ====
section
/-! DEFINITION. The statements for the provers, family by family. Where one is about a behaviour that the model chose, its
docstring says so and names the log entry. -/
open Sys2Proof Sys2Proof.Machine Sys2Proof.Safety

/-- One step runs the command at the front of the queue on the state with the queue's rest; with no command one TIME
cycle passes (log entry 1). No command stops the device. -/
def Obligations.StepRunsTheFrontCommand : Prop :=
  (∀ (s : State) (c : Instr) (rest : List Instr), step { s with pending := c :: rest } = exec c { s with pending := rest }) ∧
  (∀ s : State, s.pending = [] → step s = .next (tick s)) ∧
  (∀ (s : State) (c : Instr), ∃ t, exec c s = .next t)

/-- R292, R396, R403, R474: the state after power-on. -/
def Obligations.ResetState : Prop :=
  Safety.Inv State.reset ∧ State.reset.crp.mode = .boot ∧ State.reset.crp.rstCause = 1 ∧ State.reset.crp.wake = 0 ∧
  State.reset.nfl.latch = .latched ∧ State.reset.nfl.first = 11 ∧ State.reset.nfl.held = BitVec.allOnes 1024 ∧
  nfOutA State.reset = false ∧ nfOutB State.reset = false ∧ State.reset.tim.state = .free ∧ State.reset.recorder.store = .notUp ∧
  State.reset.key.slot = [] ∧ State.reset.pending = [] ∧ (∀ a, rd State.reset a = RegMap.reset a) ∧ (∀ a, stk State.reset a = 0)

/-- R18, R64, R417, Table 14.1: every step keeps the invariant. -/
def Obligations.EveryStepKeepsInv : Prop :=
   ∀ s t : State, Safety.Inv s → step s = .next t → Safety.Inv t

/-- R417, R428, R433: OTP bits are set and never cleared, generations are added and never changed. -/
def Obligations.OtpOnlyGrows : Prop :=
   ∀ (c : Instr) (s t : State), exec c s = .next t → otpGrows s t

/-- R410. The premise rules out a recorded mode that `Inv` excludes. -/
def Obligations.OnlyResetsAndWakesEnterBoot : Prop :=
  ∀ (c : Instr) (s t : State), Safety.Inv s → s.crp.mode ≠ .boot → exec c s = .next t → t.crp.mode = .boot →
    (resetsDevice c ∧ s.crp.mode = .dormant ∧ t.crp.rstCause = 16 ∧ t.crp.wake = 1) ∨
    (resetsDevice c ∧ t.crp.rstCause ∈ ([1, 2, 4, 8] : List Word) ∧ t.crp.wake = 0) ∨
    (wakesSnapshot c ∧ s.crp.mode = .snapshot ∧ (t.crp.wake = 2 ∨ t.crp.wake = 3))

/-- R433, Table 15.1: the first row that matches. -/
def Obligations.LifeCycleFromOtp : Prop :=
  ∀ s : State, lc s =
    if s.upd.lcField.getLsbD 127 then 4
    else if (List.range 61).countP (fun i => s.upd.lcField.getLsbD (63 + i)) < (List.range 61).countP (fun i => s.upd.lcField.getLsbD (2 + i)) then 3
    else if s.upd.lcField.getLsbD 1 then 2
    else if s.upd.lcField.getLsbD 0 then 1
    else 0

/-- R477: in the chained modes an even counter's carries go into its odd partner, which selects no event of its own.
That DORMANT and SNAPSHOT, which R477 does not name, do not chain is log entry 10. -/
def Obligations.ChainedPairsCountAsOne : Prop :=
  (∀ s : State, chained s = true ↔ s.crp.mode = .serve ∨ s.crp.mode = .holdover ∨ s.crp.mode = .survey ∨ s.crp.mode = .standby) ∧
  (∀ (io : Io) (e k : Nat), k ∈ ctrsOf true e io → k % 2 = 0) ∧
  (∀ (io : Io) (j n : Nat), pairCount (ctrAdd true (2 * j) n io).1 j = (pairCount io j + n) % 2 ^ 96) ∧
  (∀ (io : Io) (j n : Nat), j < 128 → 2 ^ 96 ≤ pairCount io j + n →
    bitAt (ioStk (ctrAdd true (2 * j) n io).1 (Reg.PRF_OVF ((2 * j + 1) / 32))) ((2 * j + 1) % 32) = true)

/-- R406. The last part is how the unit rejoins under R337. -/
def Obligations.StandbyAcceptsMaintainOnly : Prop :=
  (∀ (s : State) (w : Word) (x : WriteCycle), x.be = 15 → hostUp s = true → s.crp.mode = .standby →
    Completes (.registerWrite Reg.CRP_MODE_CMD w x) s (fun t =>
      t.crp.mode = if bits w 2 0 = 7 ∧ bits w 31 24 = 0x4D then .maintain else .standby)) ∧
  (∀ s : State, s.crp.mode = .maintain → paiReady s = false) ∧
  (∀ (s : State) (w : Word) (x : WriteCycle), x.be = 15 → hostUp s = true → s.crp.mode = .maintain → s.crp.recovery = false → s.pai.pair = true →
    (bits w 2 0 = 2 ∨ bits w 2 0 = 3) → bits w 31 24 = 0x4D →
    Completes (.registerWrite Reg.CRP_MODE_CMD w x) s (fun t => t.crp.mode = .standby ∧ t.pai.active = false ∧
      t.pai.starting = true ∧ t.pai.startAt = s.tim.now))

/-- R2, R7, R8, R11, R351, R354, R418: host accesses. A write of a plain register merges its RW bits, in the shadow of a
set register; a partial write and a forbidden one do nothing; the write of a register that is a command acts as its row.
A register of a channel context is shown for a context in IDLE; `hasEffect` lists the registers whose write does more
than store its fields, of which `rowWrites` gives those that are one row of the table. Which pairs of registers capture
their high word is log entries 20 and 21; MMIO_PARTIAL of a write that no register takes is entry 221, and what reaches
a write in its cycle entry 237. -/
def Obligations.RegisterAccessCompletes : Prop :=
  (∀ (s : State) (d : RegDesc) (a : Nat) (w : Word) (x : WriteCycle), x.be = 15 → a % 4 = 0 → doorbellOf a = none →
    reached s a = some d → (hasEffect d.base = false ∨ d.base = Reg.DSP_CTRL ∨ (idleOnly d.base = true ∧ (ctx s (RegMap.index d a)).state = .idle)) →
    (isMirroredReg a = true → s.crp.mode ≠ .standby) → d.flds.any (fun f => decide (f.acc = .w1c)) = false → fieldsOk d w = true →
    accMask d .rw ||| accMask d .wo ≠ 0 →
    Completes (.registerWrite a w x) s (fun t => written t d a = merged s d a w)) ∧
  (∀ (s : State) (d : RegDesc) (a : Nat) (w : Word) (x : WriteCycle), x.be = 15 → a % 4 = 0 → doorbellOf a = none →
    reached s a = some d → hasEffect d.base = false →
    (isMirroredReg a = true → s.crp.mode ≠ .standby) → d.flds.any (fun f => decide (f.acc = .w1c)) = true →
    Completes (.registerWrite a w x) s (fun t => stk t a = stk s a &&& ~~~(w &&& ~~~x.set &&& accMask d .w1c) ∧ t.bank = s.bank)) ∧
  (∀ (s : State) (d : RegDesc) (a : Nat) (w : Word) (x : WriteCycle) (r : Instr), x.be = 15 → x.set = 0 → a % 4 = 0 →
    doorbellOf a = none → reached s a = some d → (isMirroredReg a = true → s.crp.mode ≠ .standby) →
    (d.base, r) ∈ rowWrites (RegMap.index d a) w x.carry →
    Completes (.registerWrite a w x) s (fun t => exec r s = .next t)) ∧
  (∀ (s : State) (a : Nat) (w : Word) (x : WriteCycle), hostUp s = true → (x.be % 16 ≠ 15 ∨ a % 4 ≠ 0) →
    Completes (.registerWrite a w x) s (fun t => t.bank = s.bank ∧ stkSet t Reg.HIF_STICKY 4)) ∧
  (∀ (s : State) (a : Nat) (w : Word) (x : WriteCycle), x.be = 15 → a % 4 = 0 → doorbellOf a = none → reached s a = none →
    Completes (.registerWrite a w x) s (fun t => t = s)) ∧
  (∀ (s : State) (a r : Nat) (w : Word) (x : WriteCycle), x.be = 15 → hostUp s = true → a % 4 = 0 → doorbellOf a = some r →
    Completes (.registerWrite a w x) s (fun t => exec (.doorbell r w) s = .next t)) ∧
  (∀ (s : State) (w : Word) (x : WriteCycle), x.be = 15 → hostUp s = true →
    Completes (.registerWrite Reg.TIM_SET_NS w x) s (fun t => exec (.timSetNs w) s = .next t)) ∧
  (∀ (s : State) (w : Word) (x : WriteCycle), x.be = 15 → hostUp s = true →
    Completes (.registerWrite Reg.NFL_TRIGGER w x) s (fun t => exec (.nflTrigger w) s = .next t)) ∧
  (∀ (s : State) (d : RegDesc) (a : Nat), reached s a = some d → lowOfPair d ((a - d.base) % d.stride / d.step) = true →
    Completes (.lowWordCapture a) s (fun t => Tab.get RegMap.reset t.bank.capt (a + 4) = regValue s (a + 4) ∧ t.bank.regs = s.bank.regs))

/-- R23, R25, R27, R373: the bridge and the thermal governor. A silence counts as a loss 1 ms back. Readings outside the
signed byte saturate (log entry 220). -/
def Obligations.BridgeAndThermalComplete : Prop :=
  (∀ s : State, Completes .bridgeLaneFail s (fun t => t.ing.degraded = true ∧ stkSet t Reg.GLB_ERR 2)) ∧
  (∀ s : State, s.ing.silent = false → timState s = .locked → lossTiming s = false → s.tim.tLoss = none →
    Completes .bridgeSilent s (fun t => t.ing.silent = true ∧ stkSet t Reg.GLB_ERR 3 ∧
      t.tim.tLoss = some ((s.tim.now : Int) - (tMs : Int)))) ∧
  (∀ (s : State) (b f n : Int), -128 ≤ b → b ≤ 127 → -128 ≤ f → f ≤ 127 → -128 ≤ n → n ≤ 127 →
    Completes (.thermalSample b f n) s (fun t => tempAt (rd t Reg.GLB_TEMP) 0 = b ∧ tempAt (rd t Reg.GLB_TEMP) 1 = f ∧
      tempAt (rd t Reg.GLB_TEMP) 2 = n ∧
      (∀ k, k < 3 → tempAt (rd s Reg.GLB_TEMP) k < 100 → 100 ≤ tempAt (rd t Reg.GLB_TEMP) k → stkSet t Reg.GLB_ERR 0) ∧
      (hot t = true ↔ 105 ≤ max b (max f n) ∨ (hot s = true ∧ 100 ≤ max b (max f n))))) ∧
  (∀ (s : State) (b f n : Int), tempAt (rd s Reg.GLB_TEMP) 0 < 115 → 115 ≤ b → b ≤ 127 →
    Completes (.thermalSample b f n) s (fun t => hot t = true ∧ stkSet t Reg.GLB_ERR 1 ∧ t.crp.tripStop = true)) ∧
  (∀ (s : State) (w : Word), bitAt w 1 = true → s.crp.tripStop = true → tempMax (rd s Reg.GLB_TEMP) < 100 →
    Completes (.thermalTripClear w) s (fun t => ¬ stkSet t Reg.GLB_ERR 1 ∧ t.crp.tripStop = false))

/-- R42, R43, R48, R50, R80: bring-up of an antenna's link, and its loss. The receiver lock at code group
synchronisation is log entry 72, and what a link that falls back to code group synchronisation keeps entry 146. R48:
link configuration data that differs is captured, and the link goes back to code group synchronisation. -/
def Obligations.LinkBringUpCompletes : Prop :=
  (∀ (s : State) (w : Word) (n : Nat), antUp s n = true → bitAt w n = true → (ant s n).link = .down →
    Completes (.antEn w) s (fun t => (ant t n).link = .codeGroup ∧ rd t Reg.ING_CTRL = lowBits (gradeAnts s) w)) ∧
  (∀ (s : State) (w : Word) (n : Nat), antUp s n = true → bitAt w n = false →
    Completes (.antEn w) s (fun t => (ant t n).link = .down)) ∧
  (∀ (s : State) (n : Nat), antUp s n = true → (ant s n).link = .codeGroup → subclass0 s n = false →
    Completes (.codeGroupSync n) s (fun t => (ant t n).cdrLock = true ∧ (ant t n).waitSysref = true ∧ (ant t n).link = .codeGroup)) ∧
  (∀ (s : State) (n : Nat), antUp s n = true → (ant s n).link = .codeGroup → subclass0 s n = true →
    Completes (.codeGroupSync n) s (fun t => (ant t n).link = .lane ∧ (ant t n).nondet = true)) ∧
  (∀ (s : State) (n : Nat), s.crp.mode ≠ .maintain → subclass0 s n = false) ∧
  (∀ (s : State) (phases : List (BitVec 5)) (n : Nat), antUp s n = true → sysrefDue s = true → (ant s n).link = .codeGroup →
    (ant s n).waitSysref = true → (ant s n).aligned = false → subclass0 s n = false → (ant s n).nondet = false →
    Completes (.sysrefPulse phases) s (fun t => (ant t n).link = .lane ∧ (ant t n).aligned = true ∧
      (ant t n).lmfc = ((phases.drop n).headD 0).toNat ∧ (ant t n).release = ((ant t n).lmfc + fld s (Reg.ING_CFG n) 12 8) % 32 ∧
      t.ing.sysrefAt = sysrefIdx s)) ∧
  (∀ (s : State) (phases : List (BitVec 5)) (n : Nat), antUp s n = true → sysrefDue s = true → (ant s n).link = .data →
    (ant s n).waitSysref = false → (ant s n).aligned = true → subclass0 s n = false → (ant s n).nondet = false →
    ((phases.drop n).headD 0).toNat ≠ (ant s n).lmfc →
    Completes (.sysrefPulse phases) s (fun t => stkSet t Reg.ING_STICKY (8 + n) ∧ (ant t n).link = .data ∧
      (ant t n).lmfc = if flag s (Reg.ING_CFG n) 2 = true then ((phases.drop n).headD 0).toNat else (ant s n).lmfc)) ∧
  (∀ (s : State) (n : Nat) (o : List Byte), antUp s n = true → (ant s n).link = .lane → ilasOk s n o = true →
    Completes (.ilasReceived n o) s (fun t => (ant t n).link = .data ∧ t.io = s.io)) ∧
  (∀ (s : State) (n : Nat) (cdr : Bool), antUp s n = true → (ant s n).link ≠ .down →
    Completes (.linkLoss n cdr) s (fun t => (ant t n).link = .codeGroup ∧ stkSet t Reg.ING_STICKY n ∧
      fld t (Reg.ING_ERRCNT n) 31 16 = min (fld s (Reg.ING_ERRCNT n) 31 16 + 1) 0xFFFF)) ∧
  (∀ (s : State) (n : Nat) (o : List Byte), antUp s n = true → (ant s n).link = .lane → ilasOk s n o = false →
    Completes (.ilasReceived n o) s (fun t => (ant t n).link = .codeGroup ∧ stkSet t Reg.ING_STICKY (4 + n) ∧
      rd t (Reg.ING_ILAS n 0) = BitVec.ofNat 32 (leAt (padTo 14 o) 0 4) ∧ rd t (Reg.ING_ILAS n 1) = BitVec.ofNat 32 (leAt (padTo 14 o) 4 4) ∧
      rd t (Reg.ING_ILAS n 2) = BitVec.ofNat 32 (leAt (padTo 14 o) 8 4) ∧ rd t (Reg.ING_ILAS n 3) = BitVec.ofNat 32 (leAt (padTo 14 o) 12 4)))

/-- R45, R49, R51: samples replaced, clip counts, latency. A written latency acts from the next whole millisecond. The
clip fraction is rounded down by log entry 147; the start of the multiframe in which errors are counted is entry 223. -/
def Obligations.IngressSamplesComplete : Prop :=
  (∀ (s : State) (n ch : Nat), antUp s n = true → (ant s n).link = .data → (ctx s ch).state = .run → bits (ctx s ch).cfg 1 0 = n →
    bitAt (ctx s ch).cfg 13 = false →
    Completes (.codeErr n) s (fun t => (ctx t ch).ingressGap = true ∧
      fld t (Reg.ING_ERRCNT n) 15 0 = min (fld s (Reg.ING_ERRCNT n) 15 0 + 1) 0xFFFF)) ∧
  (∀ (s : State) (n : Nat), antUp s n = true → (ant s n).link = .data → (ant s n).errMf = multiframe s n → 15 ≤ (ant s n).errs →
    Completes (.codeErr n) s (fun t => (ant t n).link = .codeGroup ∧ stkSet t Reg.ING_STICKY n)) ∧
  (∀ (s : State) (n : Nat) (l : List Nat), antUp s n = true → Tab.get natDef s.ing.clipMs n < msIdx s.tim.now →
    Completes (.ingClipLoad n l) s (fun t => fld t (Reg.ING_CLIP n) 7 0 = min 255 (l.getD 0 0 * 256 / 81840) ∧
      fld t (Reg.ING_CLIP n) 31 24 = min 255 (l.getD 3 0 * 256 / 81840))) ∧
  (∀ (s : State) (n : Nat) (w : Word), antUp s n = true →
    Completes (.ingLatencyWrite n w) s (fun t => rd t (Reg.ING_LATENCY n) = w ∧ (ant t n).latency = (ant s n).latency ∧
      (ant t n).pendLatency = some (w, msIdx s.tim.now))) ∧
  (∀ (s : State) (n ch m : Nat) (w : Word), antUp s n = true → (ant s n).pendLatency = some (w, m) → m < msIdx s.tim.now →
    (ctx s ch).state = .run → bits (ctx s ch).cfg 1 0 = n → bitAt (ctx s ch).cfg 13 = false →
    Completes (.latencyStep n) s (fun t => (ant t n).latency = w ∧ (ant t n).pendLatency = none ∧ (ctx t ch).latencyStep = true))

/-- R55, R72, Table 2.7: the commands of a channel context. -/
def Obligations.ContextCommandsComplete : Prop :=
  (∀ (s : State) (ch : Nat), chUp s ch = true → (ctx s ch).state = .idle →
    Completes (.start ch) s (fun t => (ctx t ch).state = .armed ∧ (ctx t ch).cfg = rd s (Reg.COR_CFG ch) ∧
      (ctx t ch).aLen = (rd s (Reg.COR_CODE_A_LEN ch)).toNat ∧ (ctx t ch).at_ = ctxAt s ch)) ∧
  (∀ (s : State) (ch : Nat), chUp s ch = true → (ctx s ch).state ≠ .idle →
    Completes (.start ch) s (fun t => t.cor = s.cor ∧ stkSet t Reg.COR_STICKY 9)) ∧
  (∀ (s : State) (ch : Nat), chUp s ch = true → (ctx s ch).state = .run →
    Completes (.stopAt ch) s (fun t => (ctx t ch).state = .run ∧ (ctx t ch).stopAt = some (ctxAt s ch))) ∧
  (∀ (s : State) (ch : Nat), chUp s ch = true → (ctx s ch).state = .armed →
    Completes (.stopAt ch) s (fun t => (ctx t ch).state = .idle)) ∧
  (∀ (s : State) (ch : Nat), chUp s ch = true → ((ctx s ch).state = .armed ∨ (ctx s ch).state = .run) →
    Completes (.abort ch) s (fun t => (ctx t ch).state = .idle)) ∧
  (∀ (s : State) (ch : Nat), chUp s ch = true → (ctx s ch).state = .armed → cfgReplay (ctx s ch) = false →
    (ctx s ch).at_ * (tNs : Int) ≤ (liveTime s (cfgAnt (ctx s ch)) : Int) → 0 < (ctx s ch).aLen →
    Completes (.contextRun ch) s (fun t => (ctx t ch).state = .run ∧ (ctx t ch).seq = 0 ∧ (ctx t ch).first = true ∧
      (ctx t ch).gap = (ctx s ch).gap ∧ (ctx t ch).qgap = (ctx s ch).qgap ∧
      (ctx t ch).idxA = fld s (Reg.COR_CODE_INIT ch) 19 0 % (ctx s ch).aLen ∧
      (ctx t ch).codeNco = fld s (Reg.COR_CODE_INIT ch) 31 20 * 2 ^ 36))

/-- R18, R61, R66 to R68: samples, boundaries and dumps. That a sample takes three lane frames is log entry 145; a rate
written before its boundary is held by entry 73; the NONDET flag looks at the boundary (entry 224). -/
def Obligations.IntegrationCompletes : Prop :=
  (∀ (s : State) (ch : Nat) (e f g : LaneFrame), chUp s ch = true → cfgReplay (ctx s ch) = false →
    (ctx s ch).state = .run → (ctx s ch).fresh = false →
    (ctx s ch).codeNco + (ctx s ch).codeRate < 2 ^ 48 →
    Completes (.integrationBoundary ch [e, f, g]) s (fun t => (ctx t ch).codeNco = (ctx s ch).codeNco + (ctx s ch).codeRate ∧
      (ctx t ch).idxA < max 1 (ctx s ch).aLen ∧ (ctx t ch).nsamp = (ctx s ch).nsamp + 1 ∧
      (laneError g = true ∨ noSamples s (ctx s ch) = true → (ctx t ch).ingressGap = true))) ∧
  (∀ (s : State) (ch : Nat) (e f g : LaneFrame), chUp s ch = true → cfgReplay (ctx s ch) = false →
    (ctx s ch).state = .run → (ctx s ch).fresh = false →
    (ctx s ch).stopAt = none → 2 ^ 48 ≤ (ctx s ch).codeNco + (ctx s ch).codeRate → (ctx s ch).codeNco + (ctx s ch).codeRate < 2 ^ 49 →
    (ctx s ch).count + 1 = intChips (ctx s ch) → (corUnit s (ch / 16)).dumps.length < 4 →
    Completes (.integrationBoundary ch [e, f, g]) s (fun t => (corUnit t (ch / 16)).dumps.length = (corUnit s (ch / 16)).dumps.length + 1 ∧
      (ctx t ch).seq = ((ctx s ch).seq + 1) % 65536 ∧ (ctx t ch).count = 0 ∧ (ctx t ch).pendCode = none)) ∧
  (∀ (s : State) (ch : Nat) (e f g : LaneFrame), chUp s ch = true → cfgReplay (ctx s ch) = false →
    (ctx s ch).state = .run → (ctx s ch).fresh = false →
    (ctx s ch).stopAt = none → 2 ^ 48 ≤ (ctx s ch).codeNco + (ctx s ch).codeRate → (ctx s ch).codeNco + (ctx s ch).codeRate < 2 ^ 49 →
    (ctx s ch).count + 1 = intChips (ctx s ch) → 4 ≤ (corUnit s (ch / 16)).dumps.length →
    Completes (.integrationBoundary ch [e, f, g]) s (fun t => (corUnit t (ch / 16)).dumps = (corUnit s (ch / 16)).dumps ∧
      stkSet t Reg.COR_STICKY (ch / 256) ∧ (ctx t ch).gap = true)) ∧
  (∀ (s : State) (ch id : Nat), chUp s ch = true → cfgReplay (ctx s ch) = true → (ctx s ch).state = .run → (ctx s ch).stopAt = none →
    (ctx s ch).cap = some id → (capture s id).state = 3 →
    Completes (.replayCaptureEnd ch id) s (fun t => (ctx t ch).state = .idle ∧ (ctx t ch).ended = true)) ∧
  (∀ (s : State) (u ch core : Nat) (b : List Byte) (l : List (Nat × Nat × List Byte)), (corUnit s u).dumps = (ch, core, b) :: l →
    dropsNext s 16 = false → (Tab.get queueDef s.cor.queue core).length < 2048 →
    Completes (.dumpDelivery u) s (fun t => (corUnit t u).dumps = l ∧
      (Tab.get queueDef t.cor.queue core).length = (Tab.get queueDef s.cor.queue core).length + 1)) ∧
  (∀ (s : State) (u ch core : Nat) (b : List Byte) (l : List (Nat × Nat × List Byte)), (corUnit s u).dumps = (ch, core, b) :: l →
    dropsNext s 16 = false → 2048 ≤ (Tab.get queueDef s.cor.queue core).length →
    Completes (.dumpDelivery u) s (fun t => (corUnit t u).dumps = l ∧ stkSet t Reg.COR_STICKY 11 ∧ (ctx t ch).qgap = true))

/-- R12, R69: rates enter the pending buffer of a context, from its loop core or from the host. That a write in a
quarantined context sets CTX_WRITE_REFUSED is log entry 74, and what the rate registers read entry 150. R76, R77, R81,
R508: residue events and code memory. A second event within a second quarantines the unit. -/
def Obligations.RatesAndResidueComplete : Prop :=
  (∀ (s : State) (ch : Nat) (code carr : BitVec 64), chUp s ch = true → (ctx s ch).state ≠ .quarantined →
    Completes (.rateMessage ch code carr) s (fun t => (ctx t ch).pendCode = some (code.toNat % 2 ^ 48) ∧
      (ctx t ch).pendCarr = some (carr.toNat % 2 ^ 48) ∧ (ctx t ch).codeRate = (ctx s ch).codeRate)) ∧
  (∀ (s : State) (ch : Nat) (w : Word), chUp s ch = true → (ctx s ch).state ≠ .quarantined →
    Completes (.codeRateHi ch w) s (fun t =>
      (ctx t ch).pendCode = some ((bits w 15 0 * 2 ^ 32 + (lowWord s (Reg.COR_CODE_RATE_LO ch)).toNat) % 2 ^ 48) ∧
      (ctx t ch).pendCarr = (ctx s ch).pendCarr ∧ rd t (Reg.COR_CODE_RATE_HI ch) = lowBits 16 w)) ∧
  (∀ (s : State) (ch : Nat) (w : Word), chUp s ch = true → (ctx s ch).state ≠ .quarantined →
    Completes (.carrRateHi ch w) s (fun t =>
      (ctx t ch).pendCarr = some ((bits w 15 0 * 2 ^ 32 + (lowWord s (Reg.COR_CARR_RATE_LO ch)).toNat) % 2 ^ 48) ∧
      (ctx t ch).pendCode = (ctx s ch).pendCode)) ∧
  (∀ (s : State) (ch : Nat) (w : Word), chUp s ch = true → (ctx s ch).state = .quarantined →
    Completes (.codeRateHi ch w) s (fun t => t.cor = s.cor ∧ t.bank = s.bank ∧ stkSet t Reg.COR_STICKY 9)) ∧
  (∀ (s : State) (u k : Nat), u < gradeChannels s / 16 → corrUp s (u / 32) = true → unitQuarantined s u = false →
    (corUnit s u).lastMismatch = none →
    Completes (.corrMismatchEvent u k) s (fun t => (corUnit t u).lastMismatch = some s.tim.now ∧ stkSet t Reg.COR_STICKY 12 ∧
      rd t Reg.COR_MISMATCH_CNT = satAdd (rd s Reg.COR_MISMATCH_CNT) 1 ∧
      ((ctx s (16 * u + k % 16)).state = .run → (ctx t (16 * u + k % 16)).bad = true))) ∧
  (∀ (s : State) (u k p : Nat), u < gradeChannels s / 16 → corrUp s (u / 32) = true → unitQuarantined s u = false →
    (corUnit s u).lastMismatch = some p → p < s.tim.now → s.tim.now ≤ p + tSec →
    Completes (.corrMismatchEvent u k) s (fun t => unitQuarantined t u = true ∧ stkSet t Reg.COR_STICKY 8 ∧
      (ctx t (16 * u)).state = .quarantined ∧ (ctx t (16 * u + 15)).state = .quarantined)) ∧
  (∀ (s : State) (w : Word), s.crp.mode = .maintain → bitAt w 31 = true → bits w 8 7 ≠ 3 → bits w 6 0 < gradeChannels s / 16 →
    corrUp s (bits w 6 0 / 32) = true → unitQuarantined s (bits w 6 0) = false →
    Completes (.corInject w) s (fun t => stkSet t Reg.COR_STICKY 12 ∧ rd t Reg.COR_MISMATCH_CNT = satAdd (rd s Reg.COR_MISMATCH_CNT) 1)) ∧
  (∀ (s : State) (w : Word) (k : Nat), k < 8 → bitAt (rd s Reg.COR_CODE_SEL) k = true → 512 * (k / 2) < gradeChannels s →
    corrUp s (k / 2) = true → (rd s Reg.COR_CODE_ADDR).toNat < 2 ^ 24 →
    Completes (.corCodeData w) s (fun t =>
      Tab.get wordDef t.cor.code (k * 2 ^ 19 + (rd s Reg.COR_CODE_ADDR).toNat / 32) = w ∧
      rd t Reg.COR_CODE_ADDR = BitVec.ofNat 32 (((rd s Reg.COR_CODE_ADDR).toNat / 32 * 32 + 32) % 2 ^ 24)))

/-- R83 to R88: captures in the sample buffer. The id that a CAPTURE takes is a free value over the unused ones (log
entries 2 and 41). -/
def Obligations.CapturesComplete : Prop :=
  (∀ s : State, let id := (unusedIds s).getD (freeVal s % (unusedIds s).length) 0
    acqUp s = true → 1 ≤ fld s Reg.ACQ_CAP_CFG 20 16 → fld s Reg.ACQ_CAP_CFG 20 16 ≤ 24 →
    granules (fld s Reg.ACQ_CAP_CFG 15 0) (fld s Reg.ACQ_CAP_CFG 20 16) ≤ freeGranules s → unusedIds s ≠ [] →
    Completes .capture s (fun t => (capture t id).state = 1 ∧ (capture t id).mask = fld s Reg.ACQ_CAP_CFG 15 0 ∧
      (capture t id).lenMs = fld s Reg.ACQ_CAP_CFG 20 16 ∧ (capture t id).startMs = (captureStart s).1 ∧
      (capture t id).late = (captureStart s).2 ∧ t.acq.lastCap = some id)) ∧
  (∀ s : State, acqUp s = true → 1 ≤ fld s Reg.ACQ_CAP_CFG 20 16 → fld s Reg.ACQ_CAP_CFG 20 16 ≤ 24 →
    freeGranules s < granules (fld s Reg.ACQ_CAP_CFG 15 0) (fld s Reg.ACQ_CAP_CFG 20 16) →
    Completes .capture s (fun t => t.acq = s.acq ∧ stkSet t Reg.ACQ_STICKY 0)) ∧
  (∀ (s : State) (id : Nat), acqUp s = true → s.acq.caps.any (fun e => e.1 = id) = true → pins s id = 0 →
    Completes (.captureRelease id) s (fun t => t.acq.caps.any (fun e => e.1 = id) = false ∧ t.acq.fifo0 = s.acq.fifo0)) ∧
  (∀ (s : State) (id : Nat), acqUp s = true → s.acq.caps.any (fun e => e.1 = id) = true → pins s id ≠ 0 →
    Completes (.captureRelease id) s (fun t => (capture t id).deferred = true ∧ (capture t id).mask = (capture s id).mask)) ∧
  (∀ (s : State) (id : Nat), (capture s id).state = 1 → (capture s id).startMs * tMs ≤ s.tim.now →
    Completes (.captureWindowStart id) s (fun t => (capture t id).state = 2 ∧ (capture t id).stored = storedNow s (capture s id).mask)) ∧
  (∀ (s : State) (id : Nat) (frames : List (List LaneFrame)), (capture s id).state = 2 →
    ((capture s id).startMs + (capture s id).lenMs) * tMs ≤ s.tim.now →
    Completes (.captureWindowEnd ⟨id, frames⟩) s (fun t => (capture t id).state = 3 ∧ (capture t id).stored = (capture s id).stored ∧
      (capture t id).data = (captureData s (capture s id).stored frames).filter (fun e => !e.2.isEmpty))) ∧
  (∀ s : State, s.crp.mode = .snapshot → bbUp s = true → s.acq.nextSnapS * tSec ≤ s.tim.now → s.acq.caps = [] →
    granules (fld s Reg.ACQ_SNAP_MASK 15 0) (fld s Reg.ACQ_SNAP_CFG 19 15) ≤ 384 →
    Completes .snapshotScheduledCapture s (fun t => t.acq.caps.length = 1 ∧
      t.acq.nextSnapS = s.acq.nextSnapS + max 1 (fld s Reg.ACQ_SNAP_CFG 9 0)))

/-- R93 to R96, R362: the acquisition queue and its pipelines. The band index of a search of a snapshot and an absent
band are log entry 226. R98 to R100, R162: snapshots of rovers under reassembly. What a snapshot that found no room
counts as is log entry 227. -/
def Obligations.SearchesAndSnapshotsComplete : Prop :=
  (∀ (s : State) (w : Word), let q := searchOf (((List.range 15).flatMap (fun i => leBytes 4 (rd s (Reg.ACQ_JOB i)).toNat)) ++ leBytes 4 w.toNat) none
    acqUp s = true → searchBad q = false → queued s < 256 → q.sel / 128 % 2 = 0 →
    Completes (.acqJob w) s (fun t => t.acq.fifo0 = s.acq.fifo0 ++ [q] ∧ t.acq.fifo1 = s.acq.fifo1)) ∧
  (∀ (s : State) (j : Job) (c : Cmd), pickJob s 6 (fun _ => true) = some j → j.cmd = some c → c.opcode = 0x18 →
    searchBad (searchOf (cmdBody j) j.cmd) = false → queued s < 256 → (searchOf (cmdBody j) j.cmd).sel / 128 % 2 = 1 →
    Completes .acqSearch s (fun t => t.acq.fifo1 = s.acq.fifo1 ++ [searchOf (cmdBody j) j.cmd] ∧
      t.dsp.jobs = s.dsp.jobs.filter (fun k => k.id ≠ j.id))) ∧
  (∀ (s : State) (p : Nat) (q : Search) (l : List Search), dropExpired s = none → acqUp s = true → s.crp.acqDownWaits = false → p < 4 →
    flag s Reg.ACQ_CTRL p = true → hot s = false → s.acq.pipe.any (fun e => e.1 = p) = false → s.acq.fifo0 = q :: l →
    Completes (.searchStart p) s (fun t => t.acq.fifo0 = l ∧ t.acq.pipe.any (fun e => e.1 = p && e.2 = q) = true)) ∧
  (∀ (s : State) (p : Nat) (q : Search), s.acq.fifo0.find? (searchExpired s) = some q →
    Completes (.searchStart p) s (fun t => t.acq.fifo0 = s.acq.fifo0.eraseP (searchExpired s) ∧ t.acq.pipe = s.acq.pipe)) ∧
  (∀ (s : State) (p : Nat) (q : Search), bridgeCut s = false → s.acq.pipe.find? (fun e => e.1 = p) = some (p, q) →
    Completes (.searchComplete p) s (fun t => t.acq.pipe = Tab.del s.acq.pipe p ∧ t.acq.fifo0 = s.acq.fifo0)) ∧
  (∀ (power : Nat → Nat → Nat) (l : List (Nat × Nat)), let best := bestCells power l 4 []
    best.length ≤ 4 ∧ best.Pairwise (fun c d => power d.1 d.2 ≤ power c.1 c.2 ∧ cellNear d c = false) ∧ (∀ c ∈ best, c ∈ l) ∧
    (best.length < 4 → ∀ c ∈ l, best.any (cellNear c) = true)) ∧
  (∀ (s : State) (n : Nat) (f : RxFrame), headFrame s n = some f → portServes s n = true → s.crp.mode ≠ .standby → plpCheck s n f = .accept → plpType f.plp = 9 →
    flowFull s (plpMachine f.plp) = false → Tab.get natDef s.acq.refused (plpMachine f.plp) ≠ leAt f.plp 24 4 + 1 →
    s.acq.snaps = [] → 2 ≤ leAt f.plp 39 1 → leAt f.plp 38 1 < leAt f.plp 39 1 →
    Completes (.snapFrame n) s (fun t => ∃ x : Snap, t.acq.snaps = [(x.handle, x)] ∧ x.machine = plpMachine f.plp ∧
      x.snapId = leAt f.plp 24 4 ∧ x.got = [leAt f.plp 38 1] ∧
      x.parts = [(leAt f.plp 40 4, (f.plp.drop 48).take (leAt f.plp 44 2))] ∧ x.firstAt = s.tim.now)) ∧
  (∀ (s : State) (n : Nat) (f : RxFrame), headFrame s n = some f → portServes s n = true → s.crp.mode ≠ .standby → plpCheck s n f = .accept → plpType f.plp = 9 →
    flowFull s (plpMachine f.plp) = true →
    Completes (.snapFrame n) s (fun t => t.acq = s.acq ∧ stkSet t Reg.DSP_STICKY 1 ∧ rd t (Reg.DSP_CNT 3) = satAdd (rd s (Reg.DSP_CNT 3)) 1 ∧
      (mach t (plpMachine f.plp)).seqLast = plpSeq f.plp)) ∧
  (∀ (s : State) (m : Nat) (x : Snap), snapOpen s m = some x → x.firstAt + 2 * tSec ≤ s.tim.now →
    Completes (.snapReassemblyTimeout m) s (fun t => t.acq.snaps = Tab.del s.acq.snaps x.handle))

/-- R116 to R122: base epochs are formed at the points of the grid, published once checked, and discarded when 2 s old.
A channel whose own observable is absent shuts out none (log entry 230); lock time and a step of time are entry 231.
R106, R110, R111, R131: commands on antennas, surveys, leap seconds. A survey is absolute where no antenna in service
outside its mask has coordinates, and else relative to the lowest of those. Which antenna a relative survey is relative
to is log entry 158, SURVEY_STATE after ABORT entry 208, and the end of a survey as a fixed instant entry 232. -/
def Obligations.BaseStationCompletes : Prop :=
  (∀ (s : State) (l : List ChanObs), formMode s = true → s.ref.gridAt < formPoint s →
    Completes (.baseEpoch l) s (fun t => t.ref.gridAt = formPoint s ∧ ∃ p, t.ref.epochs = s.ref.epochs ++ [p] ∧ p.e = formPoint s ∧
      p.published = false ∧ (bbValid s = false ∨ s.ing.silent = true → p.sigs = []))) ∧
  (∀ (s : State) (regs : Tab Word) (e : Nat) (l : List ChanObs) (o : BaseSig), o ∈ formSigs s regs e l →
    (ctxAtE s e o.chan).isSome = true ∧ antForms s regs o.ant = true ∧ 4 * setFld regs Reg.REF_CTRL 13 8 ≤ o.cn0 ∧ (o.half = true → o.comp = 0) ∧
    (∀ x ∈ formSigs s regs e l, x.ant = o.ant → sameSig x o = true → o.chan ≤ x.chan)) ∧
  (∀ (s : State) (p : BaseEp) (l : List SatPos) (eph : List SnapEph), s.ref.epochs.find? (fun q => !q.published) = some p →
    Completes (.basePublish l eph) s (fun t => t.ref.ephs = eph ∧
      t.ref.epochs.any (fun q => q.e = p.e && q.published && q.sigs.all (fun o => q.inService.contains o.ant)) = true ∧
      t.ref.epochs.length = s.ref.epochs.length)) ∧
  (∀ s : State, Completes .baseDiscard s (fun t => t.ref.epochs = s.ref.epochs.filter (fun p => p.e * tNs ≤ s.tim.now && s.tim.now < p.e * tNs + 2 * tSec) ∧
    t.ref.ant = s.ref.ant)) ∧
  (∀ (s : State) (n : Nat) (w : Word), n < gradeAnts s → bitAt w 0 = true → bitAt w 1 = false →
    Completes (.readmit n w) s (fun t => (refAnt t n).readmit = true ∧ (refAnt t n).state = (refAnt s n).state)) ∧
  (∀ (s : State) (n : Nat) (w : Word), n < gradeAnts s → bitAt w 1 = true →
    Completes (.exclude n w) s (fun t => (refAnt t n).exclude = true ∧ (refAnt t n).state = (refAnt s n).state)) ∧
  (∀ (s : State) (w : Word), s.crp.mode = .survey → bitAt w 0 = true → s.ref.survey = none →
    Completes (.surveyStart w) s (fun t => t.ref.surveyState = 1 ∧ t.ref.survey.map (·.mask) = some (fld s Reg.REF_SURVEY_CFG 19 16) ∧
      t.ref.survey.map (·.absolute) = some (anchor s (fld s Reg.REF_SURVEY_CFG 19 16)).isNone ∧ t.ref.survey.map (·.fin) = some (s.tim.now + fld s Reg.REF_SURVEY_CFG 10 0 * 60 * tSec))) ∧
  (∀ (s : State) (v : Survey) (w : Word), bitAt w 1 = true → s.ref.survey = some v →
    Completes (.surveyAbort w) s (fun t => t.ref.survey = none ∧ t.ref.surveyState = 0)) ∧
  (∀ (s : State) (v : Survey), s.ref.survey = some v → v.fin ≤ s.tim.now → s.crp.mode = .survey →
    Completes .surveyEnd s (fun t => t.ref.survey = none ∧ (t.ref.surveyState = 2 ∨ t.ref.surveyState = 3) ∧
      (t.ref.surveyState = 3 → stkSet t Reg.REF_STICKY 5))) ∧
  (∀ s : State, (rd s Reg.REF_LEAP_AT).toNat ≠ 0 → near32 s.tim.now (rd s Reg.REF_LEAP_AT).toNat 0 ≤ (s.tim.now : Int) →
    Completes .leapApply s (fun t => rd t Reg.REF_LEAP_AT = 0 ∧ fld t Reg.REF_TIME_CFG 7 0 = fld s Reg.REF_TIME_CFG 15 8 ∧
      fld t Reg.REF_TIME_CFG 31 8 = fld s Reg.REF_TIME_CFG 31 8))

/-- R127, R128, R131, R255: stream epochs. One that falls due while the stream's last is still held is counted and
skipped. A job that counts nothing once its stream is off or has no message is log entry 97, when GLO_HELD is set entry
209, and datagrams without TAG_EN entry 228. -/
def Obligations.StreamsComplete : Prop :=
  (∀ (s : State) (k e : Nat), streamOn s k = true → streamDue s k = some e → srcState s k = .inService → s.crp.mode ≠ .standby →
    flowJobs s (1024 + k) = [] →
    Completes (.streamEpochDue k) s (fun t => (stream t k).last = e ∧ t.dsp.jobs.length = s.dsp.jobs.length + 1 ∧
      t.dsp.jobs.any (fun j => j.kind = .encode && j.flow = 1024 + k && j.work = .stream k e) = true)) ∧
  (∀ (s : State) (k e : Nat), streamOn s k = true → streamDue s k = some e → srcState s k = .inService → s.crp.mode ≠ .standby →
    flowJobs s (1024 + k) ≠ [] →
    Completes (.streamEpochDue k) s (fun t => (stream t k).last = e ∧ t.dsp.jobs = s.dsp.jobs ∧ stkSet t Reg.DSP_STICKY 2 ∧ rd t (Reg.DSP_CNT 4) = satAdd (rd s (Reg.DSP_CNT 4)) 1 ∧
      fld t (Reg.REF_STREAM_COUNT k) 31 16 = min (fld s (Reg.REF_STREAM_COUNT k) 31 16 + 1) 0xFFFF)) ∧
  (∀ (s : State) (j : Job) (k e : Nat), k < 16 → pickJob s 3 (fun _ => true) = some j → j.kind = .encode → j.work = .stream k e →
    (streamOn s k = false ∨ streamMsgs s k e (stream s k).force = []) →
    Completes .encode s (fun t => t.dsp.jobs = s.dsp.jobs.filter (fun x => x.id ≠ j.id) ∧
      rd t (Reg.REF_STREAM_COUNT k) = rd s (Reg.REF_STREAM_COUNT k))) ∧
  (∀ (s : State) (j : Job) (k e : Nat), let n := fld s (Reg.REF_STREAM_ROUTE k) 1 0
    let msgs := streamMsgs s k e (stream s k).force
    k < 16 → pickJob s 3 (fun _ => true) = some j → j.kind = .encode → j.work = .stream k e → streamOn s k = true → msgs ≠ [] →
    s.crp.mode ≠ .standby → flag s (Reg.REF_STREAM_CFG k) 7 = false → flag s (Reg.REF_STREAM_CFG k) 8 = true →
    flag s (Reg.REF_STREAM_CFG k) 9 = false → portServes s n = true → (netPort s n).link = true →
    (netPort s n).q4.length + (datagrams s k (stream s k).seq (msgs.map rtcmFrame)).length ≤ 256 →
    Completes .encode s (fun t => t.dsp.jobs = s.dsp.jobs.filter (fun x => x.id ≠ j.id) ∧
      (stream t k).seq = ((stream s k).seq + (datagrams s k (stream s k).seq (msgs.map rtcmFrame)).length) % 2 ^ 32 ∧
      (netPort t n).q4.length = (netPort s n).q4.length + (datagrams s k (stream s k).seq (msgs.map rtcmFrame)).length ∧
      fld t (Reg.REF_STREAM_COUNT k) 15 0 = min (fld s (Reg.REF_STREAM_COUNT k) 15 0 + 1) 0xFFFF)) ∧
  (∀ (s : State) (j : Job) (k e : Nat), k < 16 → pickJob s 3 (fun _ => true) = some j → j.kind = .encode → j.work = .stream k e →
    streamOn s k = true → srcState s k = .inService → flag s Reg.REF_TIME_CFG 16 = false → msgOn s k 1 = true →
    Completes .encode s (fun t => t.dsp.jobs = s.dsp.jobs.filter (fun x => x.id ≠ j.id) ∧ (stream t k).gloHeld = true ∧
      stkSet t Reg.REF_STICKY 10))

/-- R139 to R145: frames received, and pauses. A PLP frame joins the receive FIFO; an oversize frame is dropped whole. A
frame that is too long counts as oversize whatever its FCS by log entry 210; the room of the time core's queue is entry
164, and the test of the FIFO for its frames entry 176. -/
def Obligations.ReceiveCompletes : Prop :=
  (∀ (s : State) (n p : Nat) (frame src pl : List Byte), portRuns s n = true → (netPort s n).link = true →
    (Tab.get fifoDef s.crp.fifo n).dropNext = false → classify s n frame true = .plp src p pl →
    rxFill (netPort s n) + frame.length ≤ 262144 →
    Completes (.frameReceive n frame true) s (fun t =>
      (netPort t n).fifo = (netPort s n).fifo ++ [⟨src, p, pl, tRx s n, s.tim.now, frame.length⟩] ∧
      rd t (Reg.NET_CNT n 0) = satAdd (rd s (Reg.NET_CNT n 0)) 1)) ∧
  (∀ (s : State) (n : Nat) (frame : List Byte) (ok : Bool), portRuns s n = true → (netPort s n).link = true →
    (Tab.get fifoDef s.crp.fifo n).dropNext = false → classify s n frame ok = .oversize →
    Completes (.frameReceive n frame ok) s (fun t => (netPort t n).fifo = (netPort s n).fifo ∧ stkSet t (Reg.NET_STICKY n) 6 ∧
      rd t (Reg.NET_CNT n 4) = satAdd (rd s (Reg.NET_CNT n 4)) 1)) ∧
  (∀ (s : State) (n : Nat) (frame : List Byte), portRuns s n = true → (netPort s n).link = true →
    (Tab.get fifoDef s.crp.fifo n).dropNext = false → classify s n frame true = .timeCore → rxFill (netPort s n) + frame.length ≤ 262144 →
    Completes (.frameReceive n frame true) s (fun t => (netPort t n).fifo = (netPort s n).fifo ∧
      (.timeCore n (tRx s n / (tNs : Int)) frame ∈ t.io.out ∨ rd t (Reg.NET_CNT n 4) = satAdd (rd s (Reg.NET_CNT n 4)) 1))) ∧
  (∀ (s : State) (n : Nat), portRuns s n = true → (netPort s n).xoff = true → flag s (Reg.NET_CTRL n) 8 = true →
    (netPort s n).xoffAt + tMs ≤ s.tim.now →
    Completes (.xoffRefresh n) s (fun t => (netPort t n).xoffAt = (netPort s n).xoffAt + tMs ∧
      rd t (Reg.NET_CNT n 6) = satAdd (rd s (Reg.NET_CNT n 6)) 1)) ∧
  (∀ (s : State) (n a : Nat), (netPort s n).pauseSince = some a → (netPort s n).pauseEnd ≤ s.tim.now →
    Completes (.pauseExpiry n) s (fun t => (netPort t n).pauseSince = none ∧ (netPort t n).bypass = false)) ∧
  (∀ (s : State) (n a : Nat), (netPort s n).pauseSince = some a → (netPort s n).bypass = false → flag s (Reg.NET_CTRL n) 7 = true →
    a + fld s (Reg.NET_PAUSE_CFG n) 31 16 * tUs ≤ s.tim.now →
    Completes (.pauseBypass n) s (fun t => (netPort t n).bypass = true ∧ stkSet t (Reg.NET_STICKY n) 8))

/-- R138, R146, R147, R283, R372: the link of a port, and its transmissions. The coding of the advertisement is log
entry 165, and the place and value of the one-step stamp entry 163. -/
def Obligations.TransmitCompletes : Prop :=
  (∀ (s : State) (n : Nat), n < 4 → portRuns s n = true → (netPort s n).link = false →
    Completes (.linkUp n) s (fun t =>
      ((netPort t n).anDone = true ↔ flag s (Reg.NET_CTRL n) 1 = true ∧ flag s (Reg.NET_CTRL n) 2 = true) ∧
      ((netPort t n).anDone = true → advert s n ∈ t.io.out) ∧ (netPort t n).link = true ∧ (netPort t n).pauseSince = none ∧ t.crp.netLock.getLsbD n = true)) ∧
  (∀ (s : State) (n : Nat), n < gradePorts s → (netPort s n).link = true →
    Completes (.linkDown n) s (fun t => (netPort t n).link = false ∧ (netPort t n).tx = none ∧ stkSet t (Reg.NET_STICKY n) 0)) ∧
  (∀ (s : State) (n q : Nat) (f : TxFrame) (l : List TxFrame), portRuns s n = true → (netPort s n).link = true → (netPort s n).tx = none →
    (Tab.get fifoDef s.crp.fifo (n + 4)).dropNext = false → (List.range 6).find? (mayStart s n) = some q → getQ (netPort s n) q = f :: l →
    Completes (.transmitStart ⟨n, []⟩) s (fun t => (netPort t n).tx = some f ∧ (getQ (netPort t n) q).length = l.length ∧
      (netPort t n).txStart = tTx s n ∧ t.io.out = .frame n (sentBytes s n f) :: s.io.out ∧
      (f.ptp = none → sentBytes s n f = f.bytes ++ frameCheck f.bytes))) ∧
  (∀ (s : State) (n : Nat) (f : TxFrame) (k : PtpMark), f.ptp = some k → k.oneStep = true → k.transport = .ethernet →
    sentFrame s n f = if flag s (Reg.NET_CTRL n) 4 = true then
        f.bytes.take k.off ++ stampMessage (tTx s n) ((f.bytes.drop k.off).take k.len) ++
          f.bytes.drop (k.off + (stampMessage (tTx s n) ((f.bytes.drop k.off).take k.len)).length)
      else f.bytes) ∧
  (∀ (s : State) (n : Nat) (f : TxFrame), portHeld s n = false → (netPort s n).tx = some f →
    Completes (.transmitEnd n) s (fun t => (netPort t n).tx = none ∧ (netPort t n).q3 = (netPort s n).q3 ∧
      rd t (Reg.NET_CNT n 1) = satAdd (rd s (Reg.NET_CNT n 1)) 1))

/-- R142, R152 to R156, R161, R162, R278: PLP frames at the head of a port's FIFO. An accepted frame forms its job and
moves the machine's SEQ_last. OBS_INCOMPLETE on the port of the machine's entry is log entry 65. -/
def Obligations.PlpFramesComplete : Prop :=
  (∀ (s : State) (n : Nat) (f : RxFrame), headFrame s n = some f → portServes s n = true → s.crp.mode ≠ .standby →
    plpCheck s n f = .accept → plpType f.plp = 2 → intakeOpen s = true → intakeTurn s n = true →
    flowFull s (plpMachine f.plp) = false →
    Completes (.posFrame n) s (fun t => (mach t (plpMachine f.plp)).seqLast = plpSeq f.plp ∧
      ∃ j, t.dsp.jobs = s.dsp.jobs ++ [j] ∧ j.kind = .parse ∧ j.flow = plpMachine f.plp ∧ j.work = .frame n f.plp)) ∧
  (∀ (s : State) (n : Nat) (f : RxFrame), headFrame s n = some f → portServes s n = true → s.crp.mode ≠ .standby →
    plpCheck s n f = .accept → plpType f.plp = 8 → intakeOpen s = true → intakeTurn s n = true →
    flowFull s (plpMachine f.plp) = false →
    Completes (.statusFrame n) s (fun t => (mach t (plpMachine f.plp)).seqLast = plpSeq f.plp ∧
      ∃ j, t.dsp.jobs = s.dsp.jobs ++ [j] ∧ j.kind = .parse ∧ j.flow = plpMachine f.plp ∧ j.work = .frame n f.plp)) ∧
  (∀ (s : State) (n : Nat) (f : RxFrame), headFrame s n = some f → portServes s n = true → s.crp.mode ≠ .standby →
    plpCheck s n f = .accept → plpType f.plp = 10 → intakeOpen s = true → intakeTurn s n = true →
    flowFull s (plpMachine f.plp) = false →
    Completes (.ackFrame n) s (fun t => (mach t (plpMachine f.plp)).seqLast = plpSeq f.plp ∧
      ∃ j, t.dsp.jobs = s.dsp.jobs ++ [j] ∧ j.kind = .parse ∧ j.flow = plpMachine f.plp ∧ j.work = .frame n f.plp)) ∧
  (∀ (s : State) (n : Nat) (f : RxFrame), headFrame s n = some f → portServes s n = true → s.crp.mode ≠ .standby →
    plpCheck s n f = .accept → plpType f.plp = 1 → (mach s (plpMachine f.plp)).entry.slotValid = true →
    (mach s (plpMachine f.plp)).entry.slot < gradeSlots s → (mach s (plpMachine f.plp)).obs = none →
    (mach s (plpMachine f.plp)).lastDiscarded = none → leAt f.plp 24 1 / 16 = 1 → intakeOpen s = true → intakeTurn s n = true →
    flowFull s (plpMachine f.plp) = false →
    Completes (.obsFrame n) s (fun t => (mach t (plpMachine f.plp)).seqLast = plpSeq f.plp ∧ (mach t (plpMachine f.plp)).obs = none ∧
      ∃ j, t.dsp.jobs = s.dsp.jobs ++ [j] ∧ j.kind = .parse ∧ j.flow = plpMachine f.plp)) ∧
  (∀ (s : State) (m : Nat) (a : ObsAsm), (mach s m).obs = some a → a.firstAt + 200 * tMs ≤ s.tim.now →
    Completes (.obsEpochTimeout m) s (fun t => (mach t m).obs = none ∧ (mach t m).lastDiscarded = some a.epoch ∧
      (portUp s (mach s m).entry.port = true → stkSet t (Reg.NET_STICKY (mach s m).entry.port) 9))) ∧
  (∀ (s : State) (n : Nat) (f : RxFrame), headFrame s n = some f → portServes s n = true → s.crp.mode ≠ .standby →
    plpCheck s n f = .answer 0x48 →
    Completes (.wrongGenFrame n) s (fun t => (mach t (plpMachine f.plp)).seqLast = plpSeq f.plp ∧ t.dsp = s.dsp ∧
      (netPort t n).fifo = (netPort s n).fifo.drop 1)) ∧
  (∀ (s : State) (n : Nat) (f : RxFrame), headFrame s n = some f → portServes s n = true → s.crp.mode ≠ .standby →
    plpCheck s n f = .opstop → opstopOk s f = true → s.nfl.latch = .idle →
    rowsNow s = [] →
    Completes (.opstopFrame n) s (fun t => t.nfl.latch = .latched ∧ t.nfl.first = 3 ∧ t.nfl.seen = oneHot 3 ∧
      (netPort t n).fifo = (netPort s n).fifo.drop 1))

/-- R246, R247, R260, R263: a parse job reads its frame, and hands its entry to its successor. A STATUS record held with
the time that its frame was received is log entry 92. -/
def Obligations.ParseJobsComplete : Prop :=
  (∀ (s : State) (j : Job) (e : Nat) (p : List (Nat × List Byte)) (b : Option (Option Nat)), pickJob s 0 (fun _ => true) = some j →
    j.work = .obs e p b → j.kind = .parse →
    obsRefused s j.flow e j.stamp = none →
    Completes .obsParse s (fun t => (t.dsp.jobs.find? (fun k => k.id = j.id)).map (fun k => (k.kind, k.gate, k.work)) =
        some (.fix, fixGate s e, .obs e p (if (fixGate s e).isSome then none else some (baseFor s e))) ∧
      t.dsp.jobs.length = s.dsp.jobs.length)) ∧
  (∀ (s : State) (j : Job) (n : Nat) (b : List Byte), let e := near32 s.tim.now (plpEpochS b) (plpEpochNs b)
    pickJob s 0 (fun _ => true) = some j → j.work = .frame n b → plpType b = 2 → e < j.tRx → plpGen b = machGen s j.flow →
    j.tRx - e < ((fld s Reg.CHT_POS_CFG 10 0 * tMs : Nat) : Int) →
    Completes .posParse s (fun t => (t.dsp.jobs.find? (fun k => k.id = j.id)).map (·.kind) = some .halo ∧
      t.dsp.jobs.length = s.dsp.jobs.length)) ∧
  (∀ (s : State) (j : Job) (n : Nat) (b : List Byte), pickJob s 0 (fun _ => true) = some j → j.work = .frame n b → plpType b = 8 →
    Completes .statusParse s (fun t => (mach t j.flow).status.head?.map (·.state) = some (leAt b 24 1) ∧
      (mach t j.flow).status.head?.map (·.time) = some j.tRx.toNat)) ∧
  (∀ (s : State) (j : Job) (n : Nat) (b : List Byte) (k : Task), pickJob s 0 (fun _ => true) = some j → j.work = .frame n b → plpType b = 10 →
    leAt b 24 1 = 7 → leAt b 25 1 = 0 → taskOf s (leAt b 32 4) = some k → k.state = .assigned → k.holder = some j.flow →
    Completes .ackParse s (fun t => taskOf t (leAt b 32 4) = some { k with state := .active } ∧
      t.dsp.jobs = s.dsp.jobs.filter (fun x => x.id ≠ j.id)))

/-- R165, R169, R170, R191, R202, R204, R248: fix jobs on their engines. What a job makes of its epoch is `fixDone`, a
function of what it fetched; the filter's arithmetic is a free value (log entry 2). What the filter computes from its
states, the base and the observations is free where R177 gives no arithmetic (log entries 4 and 236); a job without a
base epoch keeps position, states and ambiguities (entry 162). R32, R196 to R198, R509: a residue mismatch sends the job
back at level 1, excluding the engine; an injected one does the same in MAINTAIN. R101 to R104, R247: the stages of a
snapshot solve. A complete snapshot's PARSE hands over; the solve submits its searches; fewer than 6 signals give a FIX
frame of state NONE, NO_SOLUTION, and the snapshot leaves. How a solve hands over and ends is log entries 43 and 80. -/
def Obligations.FixJobsComplete : Prop :=
  (∀ (s : State) (e er : Nat) (j : Job) (p : List (Nat × List Byte)) (b : Option (Option Nat)), engineFree s e = true →
    pickJob s 1 (fun j => decide (j.excluded ≠ some e)) = some j → j.work = .obs er p b →
    Completes (.fixJob e) s (fun t => (engine t e).job = some (j.id, fixFetch s j.flow er p (b.getD (baseFor s er))) ∧
      (t.dsp.jobs.find? (fun k => k.id = j.id)).map (·.inService) = some true)) ∧
  (∀ s : State, Completes .fixGateOpen s (fun t => t.dsp.jobs.length = s.dsp.jobs.length ∧
    t.dsp.jobs.all (fun j => !(decide (j.kind = .fix) && (match j.gate with | some g => decide (g ≤ (s.tim.now : Int)) | none => false))) = true)) ∧
  (∀ (s : State) (e id er : Nat) (f : FixStart) (j : Job) (p : List (Nat × List Byte)) (b : Option (Option Nat)),
    (engine s e).job = some (id, f) → s.dsp.jobs.find? (fun k => k.id = id) = some j → j.work = .obs er p b →
    (fixSlot s f.slot).resetWaits = false → (mach s f.machine).entry.gen = 2 → (mach s f.machine).entry.slotValid = true →
    Completes (.fixJobComplete e) s (fun t => (engine t e).job = none ∧
      fixSlot t f.slot = { (fixDone f).slot with resetWaits := false } ∧
      ((fixDone f).excluded = true → stkSet t Reg.PST_STICKY 6))) ∧
  (∀ f : FixStart, (fixDone f).slot.epoch = f.epoch ∧ (fixDone f).slot.owner = f.machine ∧ (fixDone f).slot.run = true ∧
    (fixDone f).slot.wb = (f.state.wb + 1) % 256 ∧
    ((f.base = none ∨ fixInAge f = false) → (fixDone f).result.state = 0 ∧ (fixDone f).slot.content = (startSlot f).content ∧
      (fixDone f).slot.ambs = (startSlot f).ambs ∧ (fixDone f).slot.x = (startSlot f).x)) ∧
  (∀ (s : State) (e id er : Nat) (f : FixStart) (j : Job) (p : List (Nat × List Byte)) (b : Option (Option Nat)),
    (engine s e).job = some (id, f) → s.dsp.jobs.find? (fun k => k.id = id) = some j → j.work = .obs er p b →
    (fixSlot s f.slot).resetWaits = true →
    Completes (.fixJobComplete e) s (fun t => (engine t e).job = none ∧ fixSlot t f.slot = { slotDef f.slot with wb := ((fixDone f).slot.wb) })) ∧
  (∀ s : State, fixUp s = true → Completes .pstClearLat s (fun t => rd t Reg.PST_LAT_MAX = 0 ∧ t.pst = s.pst)) ∧
  (∀ (s : State) (w : Word), fixUp s = true → s.crp.mode ≠ .standby → bitAt w 8 = true →
    bits w 7 0 < gradeSlots s →
    slotInService s (bits w 7 0) = false →
    Completes (.pstSlotReset w) s (fun t => fixSlot t (bits w 7 0) = { slotDef (bits w 7 0) with wb := (fixSlot s (bits w 7 0)).wb })) ∧
  (∀ (s : State) (w : Word), fixUp s = true → s.crp.mode ≠ .standby → bitAt w 8 = true →
    bits w 7 0 < gradeSlots s → slotInService s (bits w 7 0) = true →
    Completes (.pstSlotReset w) s (fun t => fixSlot t (bits w 7 0) = { fixSlot s (bits w 7 0) with resetWaits := true })) ∧
  (∀ (s : State) (w : Word), fixUp s = true → paiRuns s = true → s.crp.mode = .standby → bitAt w 8 = true → bits w 7 0 < gradeSlots s →
    Completes (.pstSlotReset w) s (fun t => t.pst = s.pst ∧ stkSet t Reg.PAI_STICKY 11)) ∧
  (∀ (s : State) (e id : Nat) (f : FixStart) (j : Job), fixUp s = true → e < gradeEngines s → (engine s e).job = some (id, f) →
    s.dsp.jobs.find? (fun k => k.id = id) = some j → j.kind = .fix →
    Completes (.fixMismatchEvent e) s (fun t => (engine t e).job = none ∧ stkSet t Reg.PST_STICKY 0 ∧
      (t.dsp.jobs.find? (fun k => k.id = id)).map (fun k => (k.kind, k.level, k.excluded)) = some (.fixRetry, 1, some e))) ∧
  (∀ (s : State) (w : Word) (id : Nat) (f : FixStart) (j : Job), fixUp s = true → s.crp.mode = .maintain → bitAt w 31 = true → bits w 5 4 = 0 →
    bits w 3 0 < gradeEngines s → (engine s (bits w 3 0)).job = some (id, f) →
    s.dsp.jobs.find? (fun k => k.id = id) = some j → j.kind = .fix →
    Completes (.pstInject w) s (fun t => (engine t (bits w 3 0)).job = none ∧ stkSet t Reg.PST_STICKY 0 ∧
      (t.dsp.jobs.find? (fun k => k.id = id)).map (·.kind) = some .fixRetry)) ∧
  (∀ (s : State) (j : Job) (v : Snap) (h : Nat), hot s = true → s.dsp.jobs.find? (snapReady s) = none →
    pickJob s 0 (fun _ => true) = some j → j.work = .snap h → jobSnap s j = some v →
    Completes .snapSolve s (fun t => (t.dsp.jobs.find? (fun k => k.id = j.id)).map (fun k => (k.kind, k.inService, k.work)) =
      some (.snapSolve, false, .snap h))) ∧
  (∀ (s : State) (j : Job) (v : Snap), let l := List.zip (List.range (snapSignals s v).length) (snapSignals s v)
    hot s = false → s.dsp.jobs.find? (snapReady s) = none →
    pickJob s 0 (fun _ => true) = none → pickJob s 4 (fun _ => true) = some j → j.kind = .snapSolve → jobSnap s j = some v →
    j.work = .snap v.handle →
    l.all (fun x => !searchBad (snapSearch v x.1 x.2.1 x.2.2)) = true → queued s + l.length ≤ 256 →
    Completes .snapSolve s (fun t => t.acq.fifo1 = s.acq.fifo1 ++ l.map (fun x => snapSearch v x.1 x.2.1 x.2.2) ∧
      (l ≠ [] → (t.dsp.jobs.find? (fun k => k.id = j.id)).map (·.inService) = some true))) ∧
  (∀ (s : State) (j : Job) (v : Snap), hot s = true → pickJob s 0 (fun _ => true) = none →
    s.dsp.jobs.find? (snapReady s) = some j → jobSnap s j = some v → v.results = [] →
    Completes .snapSolve s (fun t => t.acq.snaps = Tab.del s.acq.snaps v.handle ∧
      t.dsp.jobs = s.dsp.jobs.filter (fun k => k.id ≠ j.id)))

/-- R205 to R210: the lane graph is loaded, verified and activated. An activation waits for requests in flight by log
entry 82; a standby activates by entry 201; a load under a DMA hold reads the image at its end (entry 238). R213 to
R219, R510: the origin, the rebase and the ticks. A rebase waits for requests in flight by log entry 82. -/
def Obligations.GraphsAndTicksComplete : Prop :=
  (∀ s : State, chartUp s = true → s.cht.stage ≠ 1 → s.cht.activateWaits = false →
    Completes .graphLoad s (fun t => t.cht.stage = 1 ∧ t.cht.loadHeld = s.io.dmaHeld ∧ t.cht.staging = none ∧ t.cht.active = s.cht.active ∧
      t.cht.loadLen = (rd s Reg.CHT_GRAPH_LEN).toNat ∧ t.cht.loadKey = Machine.graphKey s)) ∧
  (∀ (s : State) (image : List Byte), chartUp s = true → s.cht.stage = 1 → s.cht.loadHeld = false → imageFail s s.cht.loadLen image = 0 →
    Completes (.graphVerified image) s (fun t => t.cht.stage = 2 ∧ t.cht.staging = some (parseGraph image) ∧ t.cht.active = s.cht.active)) ∧
  (∀ (s : State) (image : List Byte), chartUp s = true → s.cht.stage = 1 → s.cht.loadHeld = false → imageFail s s.cht.loadLen image ≠ 0 →
    Completes (.graphVerified image) s (fun t => t.cht.stage = 3 ∧ t.cht.failCode = imageFail s s.cht.loadLen image ∧ t.cht.active = s.cht.active ∧
      stkSet t Reg.CHT_STICKY 8)) ∧
  (∀ (s : State) (g : Graph), chartUp s = true → s.cht.stage = 2 → s.cht.activateWaits = false → s.cht.staging = some g → nfSet s = true →
    Completes .graphActivate s (fun t => t.cht.activateWaits = true ∧ t.cht.active = s.cht.active)) ∧
  (∀ (s : State) (g : Graph), periodOf s ≠ s.cht.period → s.crp.swapWait = 0 → chartUp s = true → s.cht.rebase = none →
    s.crp.mode ≠ .standby → s.cht.activateWaits = true → s.cht.staging = some g → s.cht.reqs = [] →
    Completes .grantPeriodBoundary s (fun t => t.cht.active = some g ∧ t.cht.ivals = [] ∧ t.cht.activateWaits = false ∧
      rd t Reg.CHT_GRAPH_ID = BitVec.ofNat 32 g.id)) ∧
  (∀ (s : State) (w : Word), chartUp s = true → s.crp.mode ≠ .standby → s.cht.ivals = [] →
    Completes (.originWrite w) s (fun t => rd t Reg.CHT_ORIGIN_HI = w ∧ rd t Reg.CHT_ORIGIN_LO = lowWord s Reg.CHT_ORIGIN_LO)) ∧
  (∀ (s : State) (w : Word), chartUp s = true → s.crp.mode ≠ .standby → s.cht.ivals ≠ [] →
    Completes (.originWrite w) s (fun t => originMs t = originMs s ∧ stkSet t Reg.CHT_STICKY 11)) ∧
  (∀ s : State, chartUp s = true → s.crp.mode ≠ .standby → (rd s Reg.CHT_REBASE_DELTA).toNat ≤ nowTick s → s.cht.rebase = none →
    Completes .rebase s (fun t => t.cht.rebase = some (rd s Reg.CHT_REBASE_DELTA).toNat ∧ t.cht.ivals = s.cht.ivals)) ∧
  (∀ (s : State) (d : Nat), periodOf s ≠ s.cht.period → s.crp.swapWait = 0 → chartUp s = true → s.cht.rebase = some d →
    s.cht.activateWaits = false → s.cht.reqs = [] →
    Completes .grantPeriodBoundary s (fun t => t.cht.rebase = none ∧ t.cht.ivals = s.cht.ivals.filterMap (rebaseIval d) ∧
      t.cht.originGen = (s.cht.originGen + 1) % 256 ∧ t.cht.rebaseEnd = some (s.tim.now + 60 * tUs))) ∧
  (∀ (s : State) (e : Nat), s.cht.rebaseEnd = some e → e ≤ s.tim.now → Completes .rebaseWindowEnd s (fun t => t.cht.rebaseEnd = none)) ∧
  (∀ s : State, chartUp s = true → s.cht.nearTold = false → 0xF0000000 ≤ nowTick s →
    Completes .tickNearWrap s (fun t => t.cht.nearTold = true ∧ stkSet t Reg.CHT_STICKY 9)) ∧
  (∀ s : State, chartUp s = true → 0xFFFF0000 ≤ nowTick s → Completes .tickWrap s (fun t => t.cht.tickStop = true)) ∧
  (∀ s : State, chartUp s = true →
    Completes .intervalReclaim s (fun t => t.cht.ivals = s.cht.ivals.filter (fun x => nowTick s < x.fin))) ∧
  (∀ s : State, chartUp s = true → Completes .chtClearLat s (fun t => rd t Reg.CHT_LAT_MAX = 0 ∧ t.cht = s.cht))

/-- R20, R220 to R223, R230, R249: ledger requests. A request whose items all pass is stored whole, one that fails
changes no reservation; a halo that passes issues a grant. What a command completes with on a STANDBY is log entry 172,
and the order in which blockers are looked at entry 83. R238: errors of the reservation memory. -/
def Obligations.LedgerRequestsComplete : Prop :=
  (∀ (s : State) (j : Job) (c : Cmd), chartUp s = true → pickJob s 2 (fun _ => true) = some j → j.cmd = some c → c.opcode = 8 →
    (s.crp.mode ≠ .standby ∨ (decodeItems 64 (cmdBody j)).all (fun it => decide (it.op = 2)) = true) →
    Completes .ledger s (fun t => t.cht.reqs = s.cht.reqs ++ [⟨s.cht.nextSeq, decodeItems 64 (cmdBody j), .host, s.tim.now, j.id⟩] ∧
      t.cht.nextSeq = (s.cht.nextSeq + 1) % 2 ^ 32)) ∧
  (∀ (s : State) (j : Job) (c : Cmd), let v := judge s ⟨0, decodeItems 64 (cmdBody j), .host, s.tim.now, j.id⟩
    chartUp s = true → pickJob s 2 (fun _ => true) = some j → j.cmd = some c → c.opcode = 8 → s.crp.mode = .standby →
    (decodeItems 64 (cmdBody j)).all (fun it => decide (it.op = 2)) = false → paiRuns s = true → standbyCode v.1 = 0x70 →
    Completes .ledger s (fun t => t.cht = s.cht ∧ rd t (Reg.PAI_CNT 7) = satAdd (rd s (Reg.PAI_CNT 7)) 1 ∧
      t.dsp.jobs = s.dsp.jobs.filter (fun k => k.id ≠ j.id))) ∧
  (∀ (s : State) (q : Request) (l : List Request) (v : List Ival), chartUp s = true → s.cht.rebaseEnd = none → s.cht.reqs = q :: l →
    q.purpose = .host → judge s q = (0, none, v) →
    Completes .ledgerDecision s (fun t => t.cht.ivals = v ∧ t.cht.reqs = l)) ∧
  (∀ (s : State) (q : Request) (l : List Request), chartUp s = true → s.cht.rebaseEnd = none → s.cht.reqs = q :: l → (judge s q).1 ≠ 0 →
    Completes .ledgerDecision s (fun t => t.cht.ivals = s.cht.ivals ∧ t.cht.reqs = l)) ∧
  (∀ (s : State) (q : Request) (l : List Request) (v : List Ival) (m : Nat) (p : GrantPlan), chartUp s = true → s.cht.rebaseEnd = none →
    s.cht.reqs = q :: l → q.purpose = .halo m p → judge s q = (0, none, v) → (mach s m).entry.port < 4 → stopCause s m p.epoch = none →
    Completes .ledgerDecision s (fun t => t.cht.ivals = v ∧ (chtMach t m).grantNo = ((chtMach s m).grantNo + 1) % 2 ^ 32 ∧
      (chtMach t m).expiry = p.expiry ∧ (chtMach t m).live = true)) ∧
  (∀ (s : State) (k : Nat), chartUp s = true →
    Completes (.sramEccCorrected k) s (fun t => fld t Reg.CHT_ECC_CNT 15 0 = min (fld s Reg.CHT_ECC_CNT 15 0 + 1) 0xFFFF ∧
      t.cht = s.cht)) ∧
  (∀ (s : State) (k a : Nat), chartUp s = true →
    Completes (.ledgerUe k a) s (fun t => t.cht.ue = true ∧ stkSet t Reg.CHT_STICKY 0 ∧ nfSet t = true ∧
      fld t Reg.CHT_ECC_CNT 31 16 = min (fld s Reg.CHT_ECC_CNT 31 16 + 1) 0xFFFF))

/-- R225 to R233: routes, halo updates and lapses. The plan of a halo is the one that R229 computes. The plan's
half-open places and an unknown U are log entries 85 and 84; the reason of a withheld update, 0xE0 and its cause, leans
on entry 88. -/
def Obligations.HalosComplete : Prop :=
  (∀ (s : State) (j : Job) (c : Cmd) (g : Graph), let b := cmdBody j
    let ids := decodeIds (leAt b 6 2) (b.drop 8)
    chartUp s = true → pickJob s 6 (fun _ => true) = some j → j.cmd = some c → c.opcode = 9 → s.crp.mode ≠ .standby →
    s.cht.active = some g → leAt b 2 1 % 2 = 1 → leAt b 0 2 < gradeMachines s → 1 ≤ leAt b 6 2 → leAt b 6 2 ≤ 256 →
    b.length = 8 + 4 * leAt b 6 2 → ids.any (fun k => decide (g.segs.length ≤ k)) = false → routeJoined g ids = true →
    Completes .routeSet s (fun t => (chtMach t (leAt b 0 2)).route = ids ∧ (chtMach t (leAt b 0 2)).cap = leAt b 4 2 ∧
      (chtMach t (leAt b 0 2)).matched = none)) ∧
  (∀ (s : State) (j : Job) (h : HaloIn) (g : Graph) (x : RouteMatch) (p : GrantPlan), let v := chtMach s j.flow
    chartUp s = true → pickJob s 2 (fun _ => true) = some j → j.kind = .halo → j.work = .halo h →
    (mach s j.flow).entry.port < 4 → (mach s j.flow).entry.cls < 32 → stopCause s j.flow h.tRx = none → s.cht.active = some g →
    bestMatch g (planePos g h.x h.y h.z) (candidates v.route v.matched) = some x → offRoute s (mach s j.flow).entry.cls x = false →
    v.matched = some x.place → x.place ≤ 64 → haloRows s j.flow h g false (some x) v.route v.cap v.epoch = .go p →
    Completes .halo s (fun t => t.cht.reqs = s.cht.reqs ++ [⟨s.cht.nextSeq, haloItems s j.flow p, .halo j.flow p, s.tim.now, j.id⟩])) ∧
  (∀ (s : State) (j : Job) (h : HaloIn) (n : Nat), chartUp s = true → pickJob s 2 (fun _ => true) = some j → j.kind = .halo →
    j.work = .halo h → (mach s j.flow).entry.port < 4 → (mach s j.flow).entry.cls < 32 → stopCause s j.flow h.tRx = some n →
    Completes .halo s (fun t => (chtMach t j.flow).reason = 0xE0 + n ∧ t.cht.reqs = s.cht.reqs ∧ t.cht.ivals = s.cht.ivals)) ∧
  (∀ (s : State) (j : Job) (n : Nat), let x := chtMach s j.flow
    chartUp s = true → pickJob (lapseDue s) 2 (fun _ => true) = some j → j.kind = .lapse → j.work = .lapse n → x.live = true →
    x.grantNo = n → x.expiry ≤ s.tim.now →
    Completes .lapse s (fun t => t.cht.reqs = s.cht.reqs ++ [⟨s.cht.nextSeq, lapseItems s j.flow x, .lapse j.flow, s.tim.now, j.id⟩]))

/-- R354, R356: rings. A doorbell that lies within the ring moves the host index; one that goes back stops the ring. -/
def Obligations.RingsComplete : Prop :=
  (∀ (s : State) (r : Nat) (h : Word), r < 256 → (ring s r).state = .run → ringHostProduced (ring s r) = true →
    (h.toNat + 2 ^ 32 - (ring s r).host) % 2 ^ 32 < 2 ^ 31 → (h.toNat + 2 ^ 32 - (ring s r).dev) % 2 ^ 32 ≤ ringSize (ring s r) →
    Completes (.doorbell r h) s (fun t => (ring t r).host = h.toNat ∧ (ring t r).state = .run)) ∧
  (∀ (s : State) (r : Nat) (h : Word), r < 256 → (ring s r).state = .run → 2 ^ 31 ≤ (h.toNat + 2 ^ 32 - (ring s r).host) % 2 ^ 32 →
    Completes (.doorbell r h) s (fun t => (ring t r).state = .error ∧ (ring t r).err = 2 ∧ stkSet t Reg.HIF_STICKY 0)) ∧
  (∀ (s : State) (r : Nat) (w : Word), r < 256 → bitAt w 0 = true → ringEn (ring s r) = false → ringCfgReserved s (w &&& ringCfgMask) = false →
    bits (w &&& ringCfgMask) 3 1 ≠ 1 → bits (w &&& ringCfgMask) 3 1 ≠ 5 →
    Completes (.ringEnable r w) s (fun t => (ring t r).state = .run ∧ (ring t r).cfg = w &&& ringCfgMask ∧ (ring t r).dev = 0 ∧
      (ring t r).host = 0)) ∧
  (∀ (s : State) (r : Nat) (w : Word), let c := ring s (bits (w &&& ringCfgMask) 15 8)
    r < 256 → bitAt w 0 = true → ringEn (ring s r) = false → ringCfgReserved s (w &&& ringCfgMask) = false →
    ringEn c = true → ringKind c = 2 →
    Completes (.ringEnable r w) s (fun t => (ring t r).state = .run ∧ (ring t r).cfg = w &&& ringCfgMask)) ∧
  (∀ (s : State) (r : Nat), r < 256 → ringEn (ring s r) = true →
    Completes (.ringDisable r) s (fun t => (ring t r).state = .disabled ∧ ringEn (ring t r) = false))

/-- R253, R254, R359, R362: commands are taken from their rings. NOP writes a completion with OK. A command that fails
its envelope waits for the earlier ones of its ring (log entry 35). R150, R363, R364, R427: the machine table and host
transmission, which in recovery completes BAD_OPCODE. MACHINE is taken modulo 1024 by log entry 55, NOT_ACTIVE ranks
below other codes by entry 172, and a FRAME_LEN out of range completes without the frame being read (entry 222). -/
def Obligations.HostCommandsComplete : Prop :=
  (∀ (s : State) (r : Nat) (e b : List Byte), ringReady s r = true → s.io.lost = false → intakeOpen s = true → intakeTurn s (4 + r) = true →
    envelope (opcodeOk s (entOpcode (padTo 64 e))) (padTo 64 e) false = 0 →
    Completes (.commandFetch r e b false false) s (fun t => ∃ j, t.dsp.jobs = s.dsp.jobs ++ [j] ∧ j.kind = opKind (entOpcode (padTo 64 e)) ∧
      j.work = .body (entBody (padTo 64 e) b) ∧ j.cmd = some (entCmd r (ringFlow s r) (ring s r) (padTo 64 e)))) ∧
  (∀ (s : State) (r : Nat) (e b : List Byte) (err : Bool), ringReady s r = true → s.io.lost = false → intakeOpen s = true → intakeTurn s (4 + r) = true →
    envelope (opcodeOk s (entOpcode (padTo 64 e))) (padTo 64 e) err ≠ 0 →
    Completes (.commandFetch r e b false err) s (fun t => t.dsp.jobs = s.dsp.jobs ∧ t.dsp.cursor = 4 + r ∧
      (ringOlder s r s.dsp.nextId = true → ∃ l ∈ t.dsp.late, l.cmd = entCmd r (ringFlow s r) (ring s r) (padTo 64 e) ∧
        l.code = envelope (opcodeOk s (entOpcode (padTo 64 e))) (padTo 64 e) err))) ∧
  (∀ (s : State) (j : Job) (c : Cmd), let x := ring s c.cpl
    pickJob s 6 (fun _ => true) = some j → j.cmd = some c → c.opcode = 0 → c.quiet = false → c.dead = false → s.io.dmaHeld = false →
    s.io.lost = false →
    ringRuns 2 x = true → ringFill x < ringSize x →
    Completes .nop s (fun t => t.dsp.jobs = s.dsp.jobs.filter (fun k => k.id ≠ j.id) ∧
      Output.ringEntry c.cpl (ringEntryAddr x x.dev) (cplEntry s.tim.now c 0 []) ∈ t.io.out)) ∧
  (∀ s : State, s.dsp.intakeOff = true → held s < intakeMax s →
    Completes .intakeResume s (fun t => t.dsp.intakeOff = false ∧ t.dsp.jobs = s.dsp.jobs)) ∧
  (∀ s : State, Completes .dspClearMax s (fun t => rd t Reg.DSP_HELD_MAX = 0 ∧ t.dsp = s.dsp)) ∧
  (∀ (s : State) (j : Job) (c : Cmd), let m := leAt (cmdBody j) 0 2 % 1024
    pickJob s 6 (fun _ => true) = some j → j.cmd = some c → c.opcode = 1 → s.crp.mode ≠ .standby →
    m < gradeMachines s → entryOk s ((cmdBody j).drop 4) = true →
    Completes .machineSet s (fun t => (mach t m).entry = decodeEntry ((cmdBody j).drop 4) ∧
      t.dsp.jobs = s.dsp.jobs.filter (fun k => k.id ≠ j.id))) ∧
  (∀ (s : State) (j : Job) (c : Cmd), let m := leAt (cmdBody j) 0 2 % 1024
    pickJob s 6 (fun _ => true) = some j → j.cmd = some c → c.opcode = 1 → s.crp.mode = .standby →
    paiRuns s = true →
    Completes .machineSet s (fun t => t.mach = s.mach ∧ t.tsk = s.tsk ∧
      (m < gradeMachines s → rd t (Reg.PAI_CNT 7) = satAdd (rd s (Reg.PAI_CNT 7)) 1) ∧
      t.dsp.jobs = s.dsp.jobs.filter (fun k => k.id ≠ j.id))) ∧
  (∀ (s : State) (j : Job) (c : Cmd), pickJob s 6 (fun _ => true) = some j → j.cmd = some c → c.opcode = 2 →
    Completes .machineGet s (fun t => t.mach = s.mach ∧ t.dsp.jobs = s.dsp.jobs.filter (fun k => k.id ≠ j.id))) ∧
  (∀ (s : State) (r : Nat) (e b f : List Byte), let x := padTo 64 e
    netTxReady s r = true → s.io.lost = false → entOpcode x = 0x20 → envelope (!s.crp.recovery) x false = 0 →
    14 ≤ leAt (entBody x b) 10 2 → leAt (entBody x b) 10 2 ≤ 1514 →
    Completes (.netTx r e b f false false false) s (fun t =>
      (netPort t (ringPort (ring s r))).q5.length = (netPort s (ringPort (ring s r))).q5.length + 1)) ∧
  (∀ (s : State) (r : Nat) (e b f : List Byte), let x := padTo 64 e
    let y := ring s (ringCpl (ring s r))
    netTxReady s r = true → s.io.lost = false → s.crp.recovery = true → ringRuns 2 y = true → netTxBusy s r = false → entOpcode x = 0x20 →
    Completes (.netTx r e b f false false false) s (fun t => t.net = s.net ∧
      Output.ringEntry (ringCpl (ring s r)) (ringEntryAddr y y.dev) (cplEntry s.tim.now (entCmd r 0xFFFF (ring s r) x) 0x78 []) ∈ t.io.out))

/-- R257 to R260, Table 8.4: the task board. -/
def Obligations.TaskBoardCompletes : Prop :=
  (∀ (s : State) (j : Job) (c : Cmd), let b := cmdBody j
    pickJob s 5 (fun _ => true) = some j → j.cmd = some c → c.opcode = 0x10 → s.crp.mode ≠ .standby →
    s.tsk.tasks.length < 65536 → leAt b 0 4 ≠ 0xFFFFFFFF → leAt b 4 2 ≤ 4095 → leAt b 6 1 ≤ 7 → leAt b 12 2 ≤ 64 →
    taskOf s (leAt b 0 4) = none →
    Completes .taskEnqueue s (fun t => t.tsk.tasks = s.tsk.tasks ++
      [⟨leAt b 0 4, leAt b 4 2, leAt b 6 1, leAt b 8 4, (b.drop 16).take (leAt b 12 2), .queued, none, 0⟩])) ∧
  (∀ (s : State) (j : Job) (c : Cmd) (k : Task), pickJob s 5 (fun _ => true) = some j → j.cmd = some c → c.opcode = 0x11 →
    s.crp.mode ≠ .standby → leAt (cmdBody j) 4 1 = 0 → taskOf s (leAt (cmdBody j) 0 4) = some k →
    Completes .taskCancel s (fun t => t.tsk.tasks = s.tsk.tasks.filter (fun x => x.id ≠ k.id))) ∧
  (∀ (s : State) (j : Job) (c : Cmd) (k : Task), pickJob s 5 (fun _ => true) = some j → j.cmd = some c → c.opcode = 0x11 →
    s.crp.mode ≠ .standby → leAt (cmdBody j) 4 1 = 1 → taskOf s (leAt (cmdBody j) 0 4) = some k → k.state = .assigned →
    Completes .taskRequeue s (fun t => taskOf t k.id = some { k with state := .queued, holder := none })) ∧
  (∀ (s : State) (j : Job) (id e g : Nat) (k : Task), pickJob s 5 (fun _ => true) = some j → j.kind = .allot → j.work = .allot id e g →
    flag s Reg.TSK_CTRL 0 = true → taskHeld s j.flow = none →
    bestTask (s.tsk.tasks.filter (allottable s (mach s j.flow).entry.cls)) = some k →
    Completes .allot s (fun t => t.tsk.tasks.any (fun x => x.id = k.id && x.state = .assigned && x.holder = some j.flow) = true ∧
      t.dsp.jobs = s.dsp.jobs.filter (fun x => x.id ≠ j.id)))

/-- R348, R349, R369, R370: events, vectors and the PCIe endpoint. That a PCIe reset brings the link down and ends a DMA
hold is log entry 57, and that what was held reaches its address entry 238; a write that fails while the link is lost is
entry 235. -/
def Obligations.EventsComplete : Prop :=
  (∀ (s : State) (g : Nat) (w : Word), g < 16 →
    Completes (.eventEnable g w) s (fun t => (ioEv t.io g).enable = w)) ∧
  (∀ (s : State) (v : Nat), (ioVec s.io v).holding = true → vecDue s v = true → (ioVec s.io v).again = false →
    Completes (.vectorModerationEnd v) s (fun t => (ioVec t.io v).holding = false ∧ t.io.out = s.io.out)) ∧
  (∀ (s : State) (v : Nat), (ioVec s.io v).holding = true → vecDue s v = true → (ioVec s.io v).again = true →
    (ioVec s.io v).masked = false → s.io.fnMask = false → s.io.dmaHeld = false → s.io.lost = false →
    Completes (.vectorModerationEnd v) s (fun t => Output.msix v ∈ t.io.out)) ∧
  (∀ (s : State) (v : Nat), v < 64 → (ioVec s.io v).masked = true → (ioVec s.io v).pba = true → (ioVec s.io v).holding = false →
    s.io.fnMask = false → s.io.dmaHeld = false → s.io.lost = false →
    Completes (.msixUnmask (.vector v)) s (fun t => (ioVec t.io v).masked = false ∧ Output.msix v ∈ t.io.out)) ∧
  (∀ (s : State) (v : Nat), v < 64 → s.io.fnMask = true →
    Completes (.msixUnmask (.vector v)) s (fun t => (ioVec t.io v).masked = false ∧ (ioVec t.io v).pba = (ioVec s.io v).pba ∧
      t.io.out = s.io.out)) ∧
  (∀ s : State, Completes (.msixUnmask (.function true)) s (fun t => t.io.fnMask = true ∧ t.io.vec = s.io.vec ∧ t.io.out = s.io.out)) ∧
  (∀ (s : State) (v : Nat) (x : Vec), s.io.dmaHeld = false → s.io.lost = false → s.io.vec = [(v, x)] → x.pba = true → x.masked = false →
    x.holding = false →
    Completes (.msixUnmask (.function false)) s (fun t => t.io.fnMask = false ∧ Output.msix v ∈ t.io.out)) ∧
  (∀ s : State, Completes .pcieReset s (fun t => t.io.ring = [] ∧ t.io.evt = [] ∧ t.io.linkUp = false ∧ t.io.dmaHeld = false ∧
    t.io.lost = false ∧ (s.io.lost = false → ∀ x ∈ s.io.dmaWait, Output.dma x.1 x.2 ∈ t.io.out) ∧
    stk t Reg.HIF_STICKY = 0 ∧ t.dsp.jobs.map (·.id) = s.dsp.jobs.map (·.id) ∧ t.dsp.jobs.all (fun j => j.cmd.all (·.dead)) = true)) ∧
  (∀ s : State, s.io.dmaHeld = false → Completes .dmaHold s (fun t => t.io.dmaHeld = true ∧ stkSet t Reg.HIF_STICKY 7)) ∧
  (∀ s : State, s.io.dmaHeld = true → Completes .dmaResume s (fun t => t.io.dmaHeld = false ∧ t.dsp = s.dsp ∧
    (s.io.lost = false → ∀ x ∈ s.io.dmaWait, Output.dma x.1 x.2 ∈ t.io.out)))

/-- R269 to R273, R279, R295: the inputs and the monitors of the SAFE island. Where one triggers, the latch is set. SAFE
windows counted in TIME cycles are log entry 14, the feedback lines entry 12, and the instant of the debounce entry 214.
-/
def Obligations.NightfallInputsComplete : Prop :=
  (∀ s : State, s.nfl.tripA = false →
    Completes (.stopInDebounce 0) s (fun t => t.nfl.inA = false ∧ t.nfl.inB = s.nfl.inB ∧ nfSet t = true)) ∧
  (∀ s : State, s.nfl.tripB = false →
    Completes (.stopInDebounce 1) s (fun t => t.nfl.inB = false ∧ t.nfl.inA = s.nfl.inA ∧ nfSet t = true)) ∧
  (∀ s : State, s.nfl.inA = false →
    Completes (.stopInHealthy 0) s (fun t => t.nfl.inA = true ∧ t.nfl.inB = s.nfl.inB ∧ t.nfl.latch = s.nfl.latch)) ∧
  (∀ s : State, s.nfl.inB = false →
    Completes (.stopInHealthy 1) s (fun t => t.nfl.inB = true ∧ t.nfl.inA = s.nfl.inA ∧ t.nfl.latch = s.nfl.latch)) ∧
  (∀ s : State, s.nfl.inA ≠ s.nfl.inB → s.nfl.disc = false →
    s.nfl.changedAt + cycMs (fld s Reg.NFL_CFG 23 16) ≤ s.tim.cycles →
    Completes .discrepancy s (fun t => t.nfl.disc = true ∧ stkSet t Reg.NFL_STICKY 1 ∧ t.nfl.latch = s.nfl.latch)) ∧
  (∀ (s : State) (ch : Nat), ch < 2 →
    Completes (.fbFault ch) s (fun t => t.nfl.fbFault = true ∧ nfSet t = true ∧ stkSet t Reg.NFL_STICKY 2)) ∧
  (∀ s : State, Completes .latchMismatch s (fun t => t.nfl.latchFault = true ∧ nfSet t = true ∧ nfOutA t = false ∧ nfOutB t = false)) ∧
  (∀ s : State, Completes .clockCrossCheck s (fun t => t.nfl.clockFault = true ∧ nfSet t = true)) ∧
  (∀ s : State, Completes .safeSupplyMonitor s (fun t => nfOutA t = false ∧ nfOutB t = false ∧ t.nfl.latch = s.nfl.latch)) ∧
  (∀ s : State, Completes .safeSupplyRestored s (fun t => t.nfl.supplyOk = true ∧ t.nfl.outA = s.nfl.outA ∧ t.nfl.outB = s.nfl.outB))

/-- R275, R277, R279, R280: the watchdog, KEY_LOSS and the host's trigger. From IDLE a trigger takes a new LATCH_ID,
records its instant and its cause, and drops every grant that waits; one in the SAFE cycle of an arm or a confirm comes
before that command (R284). A frame is built 100 µs before its launch by log entry 15; the rows that a trigger of the
same SAFE cycle undoes are entry 168, and windows in TIME cycles entry 14. -/
def Obligations.NightfallTriggersComplete : Prop :=
  (∀ s : State, Completes (.nflWdgKick (if s.nfl.wdgOdd = true then 0xA5A55A5A else 0x5A5AA5A5)) s (fun t =>
    t.nfl.wdgStarted = true ∧ t.nfl.wdgLast = s.tim.cycles ∧ t.nfl.wdgOdd = !s.nfl.wdgOdd)) ∧
  (∀ (s : State) (w : Word), w ≠ (if s.nfl.wdgOdd = true then 0xA5A55A5A else 0x5A5AA5A5) →
    Completes (.nflWdgKick w) s (fun t => t.nfl.wdgLast = s.nfl.wdgLast ∧ t.nfl.wdgRun = 0 ∧ t.nfl.wdgOdd = s.nfl.wdgOdd)) ∧
  (∀ s : State, s.nfl.wdgStarted = true → s.crp.mode ≠ .snapshot →
    s.nfl.wdgLast + cycMs (fld s Reg.NFL_TIMING 17 8) ≤ s.tim.cycles →
    Completes .watchdogExpiry s (fun t => t.nfl.wdgExpired = true ∧ nfSet t = true)) ∧
  (∀ (s : State) (a : Nat), s.nfl.keyLossAt = some a → s.nfl.keyLossFired = false →
    a + cycMs (10 * fld s Reg.NFL_TIMING 31 18) ≤ s.tim.cycles →
    Completes .keyGraceExpiry s (fun t => t.nfl.keyLossFired = true ∧ nfSet t = true)) ∧
  (∀ (s : State) (w : Word), bitAt w 0 = true → s.nfl.latch = .idle → rowsNow s = [] →
    Completes (.nflTrigger w) s (fun t => t.nfl.latch = .latched ∧ t.nfl.latchId = (s.nfl.latchId + 1) % 2 ^ 32 ∧ t.nfl.first = 2 ∧
      t.nfl.seen = oneHot 2 ∧ t.nfl.trig = s.tim.now ∧ grantsQueued t = 0 ∧ t.upd.nv.latchId = t.nfl.latchId ∧
      t.nfl.outA = false ∧ t.nfl.outB = false)) ∧
  (∀ (s : State) (w : Word), bitAt w 0 = true → s.nfl.latch = .armed → rowsNow s = [] →
    Completes (.nflTrigger w) s (fun t => t.nfl.latch = .latched ∧ t.nfl.latchId = s.nfl.latchId ∧ stkSet t Reg.NFL_STICKY 3)) ∧
  (∀ (s : State) (w : Word) (c : NflCmd), bitAt w 0 = true → s.nfl.latch = .armed → s.nfl.confirm = none → rowsNow s = [c] →
    c.row = .arm →
    Completes (.nflTrigger w) s (fun t => t.nfl.latch = .latched ∧ t.nfl.latchId = s.nfl.latchId ∧ t.nfl.seen = s.nfl.seen ||| oneHot 2 ∧
      rd t Reg.NFL_REFUSE = BitVec.ofNat 32 (6 + 256) ∧ stkSet t Reg.NFL_STICKY 5)) ∧
  (∀ (s : State) (w : Word) (c : NflCmd), bitAt w 0 = true → s.nfl.latch = .idle → s.nfl.confirm = none → rowsNow s = [c] →
    c.row = .confirm →
    Completes (.nflTrigger w) s (fun t => t.nfl.latch = .latched ∧ t.nfl.latchId = s.nfl.latchId ∧ t.nfl.held = BitVec.allOnes 1024 ∧
      grantsQueued t = 0 ∧ t.nfl.outA = false ∧ t.nfl.outB = false ∧ rd t Reg.NFL_REFUSE = BitVec.ofNat 32 (6 + 512))) ∧
  (∀ s : State, nfSet s = true → launchOf s.nfl.trig s.nfl.nextK ≤ s.tim.now + 100 * tUs →
    Completes .nightfallFrameDue s (fun t => t.nfl.nextK = s.nfl.nextK + 1 ∧ t.nfl.latch = s.nfl.latch))

/-- R284 to R287, Table 9.4: arming, confirming, and the ends of both. `peerServes` as the peer in service is log entry
16, the return to LATCHED with reason 10 entry 125, and reason 8 of a standby's confirm entry 219. R289, R290: releasing
one machine in SELECTIVE, and the runs of RELEASE frames. -/
def Obligations.NightfallReleaseCompletes : Prop :=
  (∀ (s : State) (w : Word), triggerNow s = false → s.nfl.latch = .latched → endedNow s = false → nfUnitActive s = true → latchLo s w = true →
    Completes (.nflArm w) s (fun t => t.nfl.latch = .armed ∧ t.nfl.armAt = s.tim.now)) ∧
  (∀ (s : State) (w : Word), triggerNow s = false → isActive s = true → s.nfl.latch = .armed → confirmReason w s = 0 → peerServes s = false → bitAt w 16 = true →
    Completes (.nflConfirm w) s (fun t => t.nfl.latch = .idle ∧ t.nfl.held = 0 ∧ t.nfl.outA = true ∧ t.nfl.outB = true ∧
      t.nfl.relFleetAt = s.tim.now)) ∧
  (∀ (s : State) (w : Word), triggerNow s = false → isActive s = true → s.nfl.latch = .armed → confirmReason w s = 0 → peerServes s = false → bitAt w 16 = false →
    Completes (.nflConfirm w) s (fun t => t.nfl.latch = .selective ∧ t.nfl.held = s.nfl.held ∧ t.nfl.outA = true ∧ t.nfl.outB = true)) ∧
  (∀ (s : State) (w : Word), triggerNow s = false → isActive s = true → s.nfl.latch = .armed → confirmReason w s = 0 → peerServes s = true →
    Completes (.nflConfirm w) s (fun t => t.nfl.latch = .armed ∧ t.nfl.confirm = some (bitAt w 16, s.tim.now))) ∧
  (∀ (s : State) (w : Word), triggerNow s = true →
    Completes (.nflArm w) s (fun t => t.nfl = s.nfl ∧ rd t Reg.NFL_REFUSE = BitVec.ofNat 32 (6 + 256)) ∧
    Completes (.nflConfirm w) s (fun t => t.nfl = s.nfl ∧ rd t Reg.NFL_REFUSE = BitVec.ofNat 32 (6 + 512))) ∧
  (∀ (s : State) (w : Word), triggerNow s = false → isActive s = true → s.nfl.latch = .armed → confirmReason w s ≠ 0 →
    Completes (.nflConfirm w) s (fun t => t.nfl.latch = .latched ∧ stkSet t Reg.NFL_STICKY 5 ∧
      rd t Reg.NFL_REFUSE = BitVec.ofNat 32 (confirmReason w s + 512))) ∧
  (∀ (s : State) (w : Word), triggerNow s = false → isActive s = false → s.nfl.latch = .armed →
    Completes (.nflConfirm w) s (fun t => t.nfl.latch = .armed ∧ t.nfl.confirm = s.nfl.confirm ∧
      rd t Reg.NFL_REFUSE = BitVec.ofNat 32 (8 + 512))) ∧
  (∀ (s : State) (a : Nat), s.nfl.confirm = some (true, a) → s.tim.now ≤ a + 2 * tMs →
    Completes .releaseAcknowledged s (fun t => t.nfl.latch = .idle ∧ t.nfl.held = 0 ∧ t.nfl.confirm = none)) ∧
  (∀ (s : State) (a : Nat), s.nfl.confirm = some (false, a) → s.tim.now ≤ a + 2 * tMs →
    Completes .releaseAcknowledged s (fun t => t.nfl.latch = .selective ∧ t.nfl.held = s.nfl.held ∧ t.nfl.confirm = none)) ∧
  (∀ (s : State) (f : Bool) (a : Nat), s.nfl.confirm = some (f, a) → a + 2 * tMs ≤ s.tim.now →
    Completes .confirmAckTimeout s (fun t => t.nfl.latch = .latched ∧ t.nfl.confirm = none ∧ rd t Reg.NFL_REFUSE = BitVec.ofNat 32 (10 + 512))) ∧
  (∀ s : State, s.nfl.latch = .armed → s.nfl.confirm = none → s.nfl.armAt + 10 * tSec ≤ s.tim.now →
    Completes .armWindowEnd s (fun t => t.nfl.latch = .latched ∧ stkSet t Reg.NFL_STICKY 4)) ∧
  (∀ (s : State) (w : Word), let m := bits w 9 0
    bitAt w 31 = true → triggerNow s = false → s.nfl.latch = .selective → nfUnitActive s = true → m < gradeMachines s → (mach s m).entry.gen ≠ 0 →
    nfHeld s m = true → keyUsable s (txSlot (mach s m).entry) 0 = true →
    Completes (.nflMrel w) s (fun t => nfHeld t m = false)) ∧
  (∀ (s : State) (w : Word), let m := bits w 9 0
    bitAt w 31 = true → triggerNow s = false → s.nfl.latch = .selective → nfUnitActive s = true → m < gradeMachines s →
    (mach s m).entry.gen = 0 →
    Completes (.nflMrel w) s (fun t => t.nfl.latch = .selective ∧ t.nfl.held = s.nfl.held ∧ t.nfl.machRel = s.nfl.machRel ∧
      rd t Reg.NFL_REFUSE = BitVec.ofNat 32 (9 + 768 + 65536 * m))) ∧
  (∀ (s : State) (r : RelRun), s.nfl.fleetRel = some r → r.next ≤ s.tim.now → r.sent < 9 → s.nfl.machRel = [] →
    Completes .releaseResend s (fun t => t.nfl.fleetRel = some ⟨r.id, r.sent + 1, r.next + 100 * tMs⟩)) ∧
  (∀ (s : State) (r : RelRun), s.nfl.fleetRel = some r → r.next ≤ s.tim.now → 9 ≤ r.sent → s.nfl.machRel = [] →
    Completes .releaseResend s (fun t => t.nfl.fleetRel = none))

/-- R300, R301: increments and adjustments that lie in range are taken. R302. That the counter loads at the command
itself is log entry 6. -/
def Obligations.TimeSteeringCompletes : Prop :=
  (∀ (s : State) (w : Word), let v := bits w 7 0 * 2 ^ 32 + (lowWord s Reg.TIM_INCR_FRAC).toNat
    incrInRange v = true → timState s ≠ .holdover →
    Completes (.timIncrInt w) s (fun t => t.tim.pendIncr = some (v, msIdx s.tim.now) ∧ t.tim.incr = s.tim.incr)) ∧
  (∀ (s : State) (v m : Nat), s.tim.pendIncr = some (v, m) → m < msIdx s.tim.now →
    Completes .incrApply s (fun t => t.tim.incr = v ∧ t.tim.pendIncr = none ∧ t.tim.now = s.tim.now)) ∧
  (∀ (s : State) (w : Word), let total := signed 32 (rd s Reg.TIM_ADJ_OFFSET).toNat * (tNs : Int) + s.tim.adjRemain
    bits w 15 0 ≠ 0 →
    (timState s = .free ∨ s.crp.mode = .maintain ∨ total.natAbs * 1000 ≤ fld s Reg.TIM_HOLD_CFG 7 0 * bits w 15 0 * tNs) →
    Completes (.timAdjCtrl w) s (fun t => t.tim.adjRemain = total ∧ t.tim.adjCycles = bits w 15 0 * 409200)) ∧
  (∀ s : State, s.tim.adjCycles = 0 → Completes .adjustmentEnd s (fun t => t.tim.adjRemain = 0 ∧ t.tim.slewing = false)) ∧
  (∀ (s : State) (w : Word), bits w 29 0 ≤ 999999999 → (timState s = .free ∨ s.crp.mode = .maintain) →
    Completes (.timSetNs w) s (fun t => t.tim.state = .free ∧
      t.tim.now = (((rd s Reg.TIM_SET_S_LO).toNat + 2 ^ 32 * (rd s Reg.TIM_SET_S_HI).toNat) * 1000000000 + bits w 29 0) * tNs)) ∧
  (∀ (s : State) (w : Word), timState s ≠ .free → s.crp.mode ≠ .maintain →
    Completes (.timSetNs w) s (fun t => t.tim = s.tim ∧ stkSet t Reg.TIM_STICKY 6))

/-- R304, R305, R308, Table 10.1: the transitions of the time state. Of a STANDBY the state that its active unit mirrors
counts (R343, log entries 131, 191 and 233). R308, R309: a return is slewed or announced as a step, and the step is made
at its second. -/
def Obligations.TimeStateCompletes : Prop :=
  (∀ (s : State) (w : Word), bitAt w 31 = true → timState s = .free → s.tim.mirror = none →
    Completes (.timLockReport w) s (fun t => t.tim.state = .locked ∧ t.tim.tLoss = none ∧ t.tim.lastUnc = bits w 23 0)) ∧
  (∀ (s : State) (w : Word), bitAt w 31 = true → (timState s ≠ .free ∨ s.tim.mirror.isSome = true) →
    Completes (.timLockReport w) s (fun t => t.tim.state = s.tim.state ∧ t.tim.lastUnc = bits w 23 0)) ∧
  (∀ (s : State) (w : Word), (timState s = .locked ∨ timState s = .stepPending) → s.tim.tLoss = none → lossTiming s = false →
    Completes (.timLossNs w) s (fun t => t.tim.state = s.tim.state ∧
      t.tim.tLoss = some (near32 s.tim.now (rd s Reg.TIM_LOSS_S).toNat (bits w 29 0)))) ∧
  (∀ s : State, s.tim.mirror = none → s.tim.state = .locked → lossOver s = true →
    Completes .holdoverEntry s (fun t => t.tim.state = .holdover ∧ (s.crp.mode = .serve → t.crp.mode = .holdover ∧ t.crp.prev = .serve))) ∧
  (∀ (s : State) (r : Nat), s.tim.mirror = none → s.tim.state = .locked → lastOk s = some r → r + 2 * tSec ≤ s.tim.now →
    Completes .sigTimeout s (fun t => t.tim.state = .holdover ∧ t.tim.tLoss = some (r : Int) ∧ t.tim.u0 = s.tim.lastUnc)) ∧
  (∀ s : State, aboveBound s = true → s.tim.above = false →
    Completes .boundExceeded s (fun t => t.tim.above = true ∧ stkSet t Reg.TIM_STICKY 2 ∧ nfSet t = true ∧ bitAt t.nfl.seen 7 = true)) ∧
  (∀ s : State, (aboveBound s = false ∨ s.tim.above = true) →
    Completes .boundExceeded s (fun t => t = setTim { s.tim with above := aboveBound s } s)) ∧
  (∀ (s : State) (w : Word), (timState s = .locked ∨ timState s = .holdover) →
    s.tim.reports.any (fun r => decide (r.1 < s.tim.now) && decide (s.tim.now ≤ r.1 + tSec)) = true →
    (signed 32 w.toNat).natAbs ≤ 500 →
    Completes (.timReturn w) s (fun t => t.tim.state = .locked ∧ t.tim.tLoss = none ∧ t.tim.step = s.tim.step)) ∧
  (∀ (s : State) (w : Word), (timState s = .locked ∨ timState s = .holdover) →
    s.tim.reports.any (fun r => decide (r.1 < s.tim.now) && decide (s.tim.now ≤ r.1 + tSec)) = true →
    500 < (signed 32 w.toNat).natAbs →
    Completes (.timReturn w) s (fun t => t.tim.state = .stepPending ∧ t.tim.tLoss = none ∧
      t.tim.step = some ⟨-signed 32 w.toNat, ceilDiv (s.tim.now + 2 * tSec) tSec⟩ ∧
      rd t Reg.TIM_STEP_AT_S = BitVec.ofNat 32 (ceilDiv (s.tim.now + 2 * tSec) tSec))) ∧
  (∀ (s : State) (w : Word), (timState s = .free ∨ timState s = .stepPending) →
    Completes (.timReturn w) s (fun t => t.tim = s.tim ∧ stkSet t Reg.TIM_STICKY 7)) ∧
  (∀ (s : State) (p : StepPlan), timState s = .stepPending → s.tim.step = some p → p.s * tSec ≤ s.tim.now →
    Completes .stepInstant s (fun t => t.tim.now = ((s.tim.now : Int) + p.d * (tNs : Int)).toNat ∧ t.tim.step = none ∧
      ((lossOver s = false ∨ s.tim.mirror.isSome = true) → t.tim.state = .locked) ∧
      (lossOver s = true → s.tim.mirror = none → t.tim.state = .holdover) ∧ stkSet t Reg.TIM_STICKY 1)) ∧
  (∀ (s : State) (e : Nat), s.tim.termEnd = some e → e * tSec ≤ s.tim.now →
    Completes .stepHoldEnd s (fun t => t.tim.termEnd = none))

/-- R24, R303: the sync symbols of BB time; R11 and R451: the captured counter and the RTC. That a small difference is
removed over the next millisecond, and that the first symbol loads the counter while BB time is invalid, is log entry
71. -/
def Obligations.TimeCounterCompletes : Prop :=
  (∀ (s : State) (d : Int), let bb := ((s.tim.bb : Int) + psUnits d).toNat
    let mark := msIdx s.tim.now * tMs
    let lat := (rd s Reg.TIM_BB_LAT).toNat * tNs / 1000
    let diff : Int := (bb : Int) - (lat : Int) - (mark : Int)
    s.ing.held = false → s.tim.syncLost = false → s.tim.bbValid = true → diff.natAbs ≤ 16 * tNs →
    Completes (.timeSyncSymbol d) s (fun t => rd t Reg.TIM_BB_ERR = BitVec.ofInt 32 (unitsPs diff) ∧ t.tim.bb = bb ∧
      t.tim.bbRemain = -diff ∧ t.tim.bbCycles = 409200 ∧ t.tim.bbLoadMs = s.tim.bbLoadMs ∧ t.tim.missing = 0 ∧ t.ing.silent = false)) ∧
  (∀ (s : State) (d : Int), let mark := msIdx s.tim.now * tMs
    let lat := (rd s Reg.TIM_BB_LAT).toNat * tNs / 1000
    s.ing.held = false → s.tim.syncLost = false → s.tim.bbValid = true →
    16 * tNs < ((((s.tim.bb : Int) + psUnits d).toNat : Int) - (lat : Int) - (mark : Int)).natAbs →
    Completes (.timeSyncSymbol d) s (fun t => stkSet t Reg.TIM_STICKY 4 ∧ t.tim.bb = mark + lat ∧ bbValid t = false)) ∧
  (∀ (s : State) (d : Int), s.ing.held = false → (s.tim.syncLost = true ∨ s.tim.bbValid = false) →
    Completes (.timeSyncSymbol d) s (fun t => t.tim.syncLost = false ∧ t.tim.bbValid = true ∧
      t.tim.bb = msIdx s.tim.now * tMs + (rd s Reg.TIM_BB_LAT).toNat * tNs / 1000 ∧ t.ing.silent = false)) ∧
  (∀ s : State, s.tim.missing = 99 → s.tim.syncLost = false →
    Completes .bbSyncLost s (fun t => t.tim.syncLost = true ∧ bbValid t = false ∧ stkSet t Reg.TIM_STICKY 3)) ∧
  (∀ s : State, s.tim.missing + 1 < 100 → Completes .bbSyncLost s (fun t => t.tim.missing = s.tim.missing + 1 ∧ bbValid t = bbValid s)) ∧
  (∀ s : State, Completes .timNowCapture s (fun t =>
    Tab.get RegMap.reset t.bank.capt Reg.TIM_NOW_NS = BitVec.ofNat 32 (subNs s.tim.now) ∧
    Tab.get RegMap.reset t.bank.capt Reg.TIM_NOW_S_LO = BitVec.ofNat 32 (secOf s.tim.now) ∧
    Tab.get RegMap.reset t.bank.capt Reg.TIM_NOW_S_HI = BitVec.ofNat 32 (secOf s.tim.now / 2 ^ 32 % 2 ^ 16))) ∧
  (∀ s : State, timState s = .locked → s.tim.rtcSec < secOf s.tim.now →
    Completes .rtcLoad s (fun t => t.key.rtcSec = BitVec.ofNat 48 (secOf s.tim.now) ∧ t.key.rtcSub = BitVec.ofNat 15 (subNs s.tim.now * 32768 / 1000000000) ∧ t.tim.now = s.tim.now))

/-- R316 to R319: PPS and timed pulses. R314, R315: the delay-step monitor of a port. -/
def Obligations.TimePulsesComplete : Prop :=
  (∀ (s : State) (n : Nat), n < 2 → outputsOn s = true → flag s (Reg.TIM_PPS_CFG n) 0 = true → Tab.get natDef s.tim.ppsLast n < ppsSecond s n →
    Completes (.ppsEdge n) s (fun t => t.io.out = .pps n (!flag s (Reg.TIM_PPS_CFG n) 1) (fld s (Reg.TIM_PPS_CFG n) 22 4) :: s.io.out ∧
      Tab.get natDef t.tim.ppsLast n = ppsSecond s n)) ∧
  (∀ (s : State) (k : Nat) (w : Word), tpExists s k = true → outputsOn s = true → bitAt w 0 = true → bitAt w 1 = false → flag s (Reg.TIM_TP_CFG k) 0 = false →
    (s.tim.now : Int) ≤ near32 s.tim.now (rd s (Reg.TIM_TP_AT_S k)).toNat (fld s (Reg.TIM_TP_AT_NS k) 29 0) →
    Completes (.tpEn k w) s (fun t => (tpOut t k).next = near32 s.tim.now (rd s (Reg.TIM_TP_AT_S k)).toNat (fld s (Reg.TIM_TP_AT_NS k) 29 0) ∧
      rd t (Reg.TIM_TP_CFG k) = BitVec.ofNat 32 (bits w 2 0))) ∧
  (∀ (s : State) (k : Nat), tpDue s k = true → outputsOn s = true → flag s (Reg.TIM_TP_CFG k) 1 = false →
    Completes (.tpPulse k) s (fun t => t.io.out = .tp k (tpLevel s k true) :: s.io.out ∧ flag t (Reg.TIM_TP_CFG k) 0 = false)) ∧
  (∀ (s : State) (k : Nat), tpDue s k = true → outputsOn s = true → flag s (Reg.TIM_TP_CFG k) 1 = true →
    Completes (.tpPulse k) s (fun t => t.io.out = .tp k (tpLevel s k true) :: s.io.out ∧
      (tpOut t k).next = (tpOut s k).next + (((rd s (Reg.TIM_TP_PERIOD k)).toNat * tNs : Nat) : Int))) ∧
  (∀ (s : State) (k e : Nat), (tpOut s k).ending = some e → e ≤ s.tim.cycles →
    Completes (.pulseWidthEnd (2 + k)) s (fun t => t.io.out = .tp k (tpLevel s k false) :: s.io.out ∧ (tpOut t k).ending = none)) ∧
  (∀ (s : State) (n : Nat) (t1 t2 t3 t4 : Int), portPowered s n = true → bitAt (stk s (Reg.TIM_PORT_STICKY n)) 0 = false →
    (timPort s n).run = [] → (timPort s n).entered < 8 →
    Completes (.peerDelayExchange n t1 t2 t3 t4) s (fun t => (timPort t n).delay = ((t2 - t1) + (t4 - t3)) / 2 ∧
      (timPort t n).outbound = (timPort t n).delay + signed 32 (rd s (Reg.TIM_PORT_ASYM n)).toNat ∧
      (timPort t n).back = (timPort t n).delay - signed 32 (rd s (Reg.TIM_PORT_ASYM n)).toNat ∧
      (timPort t n).entered = (timPort s n).entered + 1)) ∧
  (∀ (s : State) (n : Nat), n < gradePorts s → bitAt (stk s (Reg.TIM_PORT_STICKY n)) 0 = true →
    Completes (.pathAsymClear n) s (fun t => (timPort t n).hist = [] ∧ (timPort t n).step = 0 ∧ ¬ stkSet t (Reg.TIM_PORT_STICKY n) 0))

/-- R326, R327, R330: heartbeats and bursts. -/
def Obligations.PulsarCompletes : Prop :=
  (∀ s : State, pulsarSends s = true → flag s Reg.PAI_CTRL 1 = false →
    Completes .heartbeatSend s (fun t => t.pai.hbSeq = (s.pai.hbSeq + 1) % 2 ^ 32 ∧
      Output.heartbeat (hbBody s ((s.pai.hbSeq + 1) % 2 ^ 32) ++ zeros 8) ∈ t.io.out)) ∧
  (∀ (s : State) (f : List Byte), pairUp s = true → dropsNext s 10 = false → hbValid s f true = true → s.pai.starting = false →
    Completes (.heartbeatReceive f true) s (fun t => t.pai.pathA.seq = some (leAt f 4 4) ∧ t.pai.pathA.missing = 0 ∧
      rd t Reg.PAI_PEER_VER = BitVec.ofNat 32 (leAt f 32 4))) ∧
  (∀ (s : State) (f : List Byte) (c : Bool), pairUp s = true → dropsNext s 10 = false → hbValid s f c = false →
    Completes (.heartbeatReceive f c) s (fun t => t.pai.pathA.missing = s.pai.pathA.missing + 1 ∧ t.pai.pathA.good = 0 ∧
      rd t (Reg.PAI_CNT 0) = satAdd (rd s (Reg.PAI_CNT 0)) 1)) ∧
  (∀ s : State, pulsarSends s = true →
    Completes .pulseBurstSend s (fun t => t.io.out = .burst (burstCells s.pai.burst) :: s.io.out ∧
      t.pai.burst = (s.pai.burst + 1) % 16)) ∧
  (∀ (s : State) (c : BitVec 6), pairUp s = true → burstValid s c.toNat = true →
    Completes (.pulseBurstReceive c) s (fun t => t.pai.pathB.good = s.pai.pathB.good + 1 ∧ t.pai.pathB.missing = 0 ∧
      t.pai.pathB.seq = some (c.toNat / 2 % 16) ∧ t.pai.pathB.last = s.tim.now)) ∧
  (∀ (s : State) (c : BitVec 6), pairUp s = true → burstValid s c.toNat = false →
    Completes (.pulseBurstReceive c) s (fun t => t.pai.pathB.good = 0 ∧ t.pai.pathB.missing = s.pai.pathB.missing + 1 ∧
      rd t (Reg.PAI_CNT 1) = satAdd (rd s (Reg.PAI_CNT 1)) 1))

/-- R328, R336 to R338: path failures, the claim line and splits. How a unit that hears bursts alone waits is log
entries 45, 166 and 199. -/
def Obligations.ClaimsComplete : Prop :=
  (∀ s : State, pairUp s = true → s.pai.pathA.ok = true → 4 ≤ s.pai.pathA.missing → s.pai.pathB.ok = true →
    Completes .pathAFail s (fun t => t.pai.pathA.ok = false ∧ t.pai.sync = 0 ∧ t.pai.active = s.pai.active ∧ stkSet t Reg.PAI_STICKY 0)) ∧
  (∀ s : State, pairUp s = true → s.pai.pathB.ok = true → s.pai.pathB.last + tMs ≤ s.tim.now → s.pai.pathA.ok = true →
    Completes .pathBFail s (fun t => t.pai.pathB.ok = false ∧ t.pai.active = s.pai.active ∧ stkSet t Reg.PAI_STICKY 1)) ∧
  (∀ s : State, pairUp s = true → s.pai.pathB.ok = true → s.pai.pathB.last + tMs ≤ s.tim.now → s.pai.pathA.ok = false →
    s.pai.peerFailed = false → s.crp.primary = true → s.pai.active = true →
    Completes .pathBFail s (fun t => t.pai.peerFailed = true ∧ t.pai.claimDrive = true ∧ t.pai.active = true ∧ stkSet t Reg.PAI_STICKY 2)) ∧
  (∀ (s : State) (c : Nat), s.pai.pair = true → s.pai.claimAt = some c → c + 500 * tUs ≤ s.tim.now → s.pai.active = true →
    Completes (.claimSample true) s (fun t => t.pai.claimDrive = true ∧ t.pai.active = true ∧ t.pai.hushed = false ∧ t.pai.claimAt = none)) ∧
  (∀ (s : State) (c : Nat), pairUp s = true → s.pai.claimAt = some c → c + 500 * tUs ≤ s.tim.now →
    Completes (.claimSample false) s (fun t => t.pai.claimDrive = false ∧ t.pai.active = false ∧ t.pai.claimAt = none ∧
      stkSet t Reg.PAI_STICKY 3)) ∧
  (∀ (s : State) (r : Nat), s.pai.peerReadySince = some r → s.pai.pair = true → s.pai.active = true → s.pai.claimDrive = true →
    r + tSec ≤ s.tim.now →
    Completes .claimNRelease s (fun t => t.pai.claimDrive = false ∧ t.pai.releasedAt = some s.tim.now ∧
      t.io.out = .pin 0 true :: s.io.out)) ∧
  (∀ s : State, pairUp s = true → s.pai.claimDrive = false → peerDrives s = false → s.pai.splitLine = false →
    Completes .splitClaimLow s (fun t => t.pai.splitLine = true ∧ t.nfl.latch = .latched ∧ stkSet t Reg.PAI_STICKY 6)) ∧
  (∀ (s : State) (r : Nat) (p : PeerView), pairUp s = true → s.pai.claimDrive = false → peerDrives s = false → s.pai.splitLine = false →
    s.pai.releasedAt = some r → s.pai.peer = some p → r + 100 * tUs ≤ s.tim.now → r < p.at_ →
    Completes .splitClaimStuck s (fun t => t.pai.splitLine = true ∧ t.nfl.latch = .latched ∧ stkSet t Reg.PAI_STICKY 6)) ∧
  (∀ s : State, s.pai.pair = true → s.pai.starting = true → s.pai.claimAt = none →
    heardB s = false → s.pai.startAt + 100 * fld s Reg.PAI_CTRL 15 8 * tMs ≤ s.tim.now → s.crp.primary = false →
    Completes .peerWaitExpiry s (fun t => t.pai.claimAt = some s.tim.now ∧ t.pai.hushed = s.pai.active ∧ t.pai.claimDrive = false))

/-- R330 to R332, R341, R342, R345: mirroring, and the handover. YIELD on a unit that is not active is log entry 216;
the handover and the form of the records are entries 130, 131, 133 and 200. -/
def Obligations.MirroringCompletes : Prop :=
  (∀ (s : State) (n : Nat) (l : List Task), pairUp s = true → dropsNext s 10 = false → s.pai.active = false → s.crp.mode = .standby →
    recInOrder s n (.tasks l) = true →
    Completes (.mirrorRecord n (.tasks l)) s (fun t => t.tsk = { s.tsk with tasks := l } ∧ t.pai.applied = n ∧ Output.mirrorAck n ∈ t.io.out)) ∧
  (∀ (s : State) (n k : Nat) (v : Slot), pairUp s = true → dropsNext s 10 = false → s.pai.active = false → s.crp.mode = .standby →
    recInOrder s n (.slot k v) = true →
    Completes (.mirrorRecord n (.slot k v)) s (fun t => fixSlot t k = (if v = slotDef k then v else { v with mirrored := true }) ∧ t.pai.applied = n)) ∧
  (∀ (s : State) (n : Nat), pairUp s = true → dropsNext s 10 = false → s.pai.active = true → s.pai.handover = .none →
    s.pai.grants.filter (fun g => decide (g.number ≤ n)) = [] →
    Completes (.mirrorAck n) s (fun t => t.pai.sentRecs = s.pai.sentRecs.filter (fun e => !decide (e.1 ≤ n)) ∧
      t.pai.grants = s.pai.grants.filter (fun g => !decide (g.number ≤ n)))) ∧
  (∀ (s : State) (n b : Nat), pairUp s = true → dropsNext s 10 = false → s.pai.active = true → s.pai.handover = .sent b →
    (s.pai.sentRecs.filter (fun e => decide (e.1 ≤ n))).any (fun e => decide (e.2.1 = .handover)) = true →
    Completes (.mirrorAck n) s (fun t => t.pai.active = false ∧ t.pai.handover = .none)) ∧
  (∀ s : State, (s.pai.grants.filter (grantWaited s)).isEmpty = false → paiRuns s = true →
    Completes .mirrorAckTimeout s (fun t => t.pai.grants = s.pai.grants.filter (fun g => !grantWaited s g) ∧ stkSet t Reg.PAI_STICKY 7)) ∧
  (∀ s : State, pairUp s = true → s.pai.sync = 1 → s.pai.pathA.ok = true →
    Completes .mirrorSyncComplete s (fun t => t.pai.sync = 2 ∧ t.pai.lagMax = 0 ∧ rd t (Reg.PAI_CNT 4) = satAdd (rd s (Reg.PAI_CNT 4)) 1)) ∧
  (∀ (s : State) (b : Nat), s.pai.handover = .sent b → b + 200 * tUs ≤ s.tim.now → paiRuns s = true →
    Completes .handoverAckTimeout s (fun t => t.pai.handover = .due (s.cht.period + 1) ∧ t.pai.active = s.pai.active ∧
      stkSet t Reg.PAI_STICKY 7)) ∧
  (∀ s : State, pairUp s = true → s.pai.active = true → peerServes s = true → s.pai.handover = .none →
    Completes .yield s (fun t => t.pai.handover = .due (s.cht.period + 1) ∧ t.pai.active = true)) ∧
  (∀ s : State, pairUp s = true → (s.pai.active && peerServes s) = false →
    Completes .yield s (fun t => t.pai = s.pai ∧ stkSet t Reg.PAI_STICKY 12)) ∧
  (∀ s : State, pairUp s = true → s.pai.pathA.ok = true → s.pai.active = true →
    Completes .resync s (fun t => t.pai.sync = 1 ∧ t.pai.nextRec = s.pai.nextRec + (syncRecords s).length)) ∧
  (∀ s : State, pairUp s = true → s.pai.pathA.ok = true → s.pai.active = false →
    Completes .resync s (fun t => t.pai.sync = 0 ∧ t.io.out = .pair 4 [] :: s.io.out))

/-- R377 to R381: clocks found and lost. -/
def Obligations.ClocksComplete : Prop :=
  (∀ s : State, pd1Runs s = true → s.crp.refOk = true →
    Completes (.zenithLock 0) s (fun t => t.crp.flLock = true ∧ t.nfl.clockFault = false)) ∧
  (∀ s : State, pd1Runs s = true → s.crp.refOk = true → pdState s 3 = .on →
    Completes (.zenithLock 1) s (fun t => t.crp.bbLock = true ∧ t.ing.held = false)) ∧
  (∀ s : State, pd1Runs s = false → Completes .refLost s (fun t => t = setCrp { s.crp with refOk := false } s)) ∧
  (∀ s : State, pd1Runs s = true →
    Completes .refLost s (fun t => t.crp.refOk = false ∧ t.nfl.clockFault = true ∧ t.nfl.latch = .latched ∧ stkSet t Reg.CRP_STICKY 0)) ∧
  (∀ s : State, pd1Runs s = true → s.crp.flLock = true →
    Completes .flUnlock s (fun t => t.crp.flLock = false ∧ t.nfl.clockFault = true ∧ t.nfl.latch = .latched ∧ stkSet t Reg.CRP_STICKY 1)) ∧
  (∀ s : State, Completes .refInRestored s (fun t => t.crp.refOk = true ∧ (s.crp.flLock = true → t.nfl.clockFault = false))) ∧
  (∀ s : State, pd1Runs s = true → s.crp.bbLock = true →
    Completes .bbUnlock s (fun t => t.crp.bbLock = false ∧ t.ing.held = true ∧ t.acq.caps = [] ∧ t.tim.bbValid = false ∧
      (∀ ch, ch < 2048 → ctx t ch = ctxDef ch) ∧ stkSet t Reg.CRP_STICKY 2)) ∧
  (∀ s : State, s.ing.held = true → s.crp.refOk = true → pd1Runs s = true →
    Completes .bbRelock s (fun t => t.ing.held = false ∧ t.crp.bbLock = true)) ∧
  (∀ s : State, pd1Runs s = true →
    Completes (.auxUnlock 7) s (fun t => t.crp.pcieLock = false ∧ t.io.lost = true ∧ stkSet t Reg.CRP_STICKY 3)) ∧
  (∀ s : State, pd1Runs s = true → s.recorder.store = .mram →
    Completes (.auxUnlock 9) s (fun t => t.crp.nvLock = false ∧ t.recorder.store = .lifeboat ∧ stkSet t Reg.CRP_STICKY 3))

/-- R396, R408, R411, R416, R427, R493: resets of the device, power and start-up. BOOT_COMPLETE takes the steps of a
start at once by log entry 50, and the LATCH_ID of a start in recovery is entry 117. -/
def Obligations.DeviceResetsComplete : Prop :=
  (∀ (s : State) (p : Bool) (b : Nat) (x : Supply), s.crp.mode = .dormant → x.vbatHeld = true →
    Completes (.powerOn p b x) s (fun t => t.crp.mode = .boot ∧ t.crp.rstCause = 16 ∧ t.crp.wake = 1 ∧ t.crp.primary = p ∧
      t.nfl.latch = .latched)) ∧
  (∀ (s : State) (p : Bool) (b : Nat) (x : Supply), (s.crp.mode ≠ .dormant ∨ x.vbatHeld = false) →
    Completes (.powerOn p b x) s (fun t => t.crp.mode = .boot ∧ t.crp.rstCause = 1 ∧ t.crp.wake = 0 ∧ t.key.slot = [] ∧
      t.nfl.latch = .latched)) ∧
  (∀ (s : State) (n : Nat), s.crp.mode ≠ .dormant → 1000 ≤ n →
    Completes (.resetN n) s (fun t => t.crp.mode = .boot ∧ t.crp.rstCause = 2 ∧ t.crp.booting = true ∧ t.nfl.latch = .latched)) ∧
  (∀ (s : State) (n : Nat), s.crp.mode = .dormant ∨ n < 100 → Completes (.resetN n) s (fun t => t = s)) ∧
  (∀ (s : State) (n : Nat), s.crp.mode ≠ .dormant → 100 ≤ n → n < 1000 →
    Completes (.resetN n) s (fun t => t = freeNext s ∨ (t.crp.mode = .boot ∧ t.crp.rstCause = 2))) ∧
  (∀ (s : State) (n : Nat), s.crp.mode ≠ .dormant → 10 < n →
    Completes (.brownOut n) s (fun t => t.crp.mode = .boot ∧ t.crp.rstCause = 8 ∧ t.crp.brown = true)) ∧
  (∀ s : State, Completes .brownOutEnd s (fun t => t.crp.brown = false)) ∧
  (∀ (s : State) (w : Word), s.crp.mode ≠ .dormant → bitAt w 0 = true → bits w 31 24 = 0xA5 →
    Completes (.deviceReset w) s (fun t => t.crp.mode = .boot ∧ t.crp.rstCause = 4 ∧ t.crp.booting = true ∧ t.nfl.latch = .latched)) ∧
  (∀ (s : State) (w : Word), s.crp.mode ≠ .dormant → bitAt w 0 = true → bits w 31 24 ≠ 0xA5 →
    Completes (.deviceReset w) s (fun t => t.crp = s.crp ∧ stkSet t Reg.CRP_STICKY 6)) ∧
  (∀ (s : State) (w : Word), s.crp.mode = .dormant → Completes (.deviceReset w) s (fun t => t = s)) ∧
  (∀ s : State, bootRuns s = true →
    Completes .bootComplete s (fun t => t.crp.booting = false ∧ t.crp.mode ≠ .boot ∧
      (lc s = 0 → t.crp.recovery = true ∧ t.crp.mode = .maintain) ∧
      (s.crp.wake < 2 → s.nfl.latch = .latched → t.nfl.latchId = (s.upd.nv.latchId + 1) % 2 ^ 32))) ∧
  (∀ s : State, s.crp.mode ≠ .dormant →
    Completes .mainRailsLost s (fun t => t.crp.mode = .dormant ∧ t.crp.pd = [(0, .on)] ∧
      (s.crp.mode ≠ .boot → t.key.slot = s.key.slot))) ∧
  (∀ s : State, s.crp.mode = .dormant ∨ s.crp.pmuEn = false →
    Completes .wakeN s (fun t => t.crp.pmuEn = true ∧ t.io.out = .pin 2 true :: s.io.out)) ∧
  (∀ s : State, s.crp.mode = .dormant ∨ s.crp.pmuEn = false → s.key.alarm ≠ 0 → s.key.alarm.toNat ≤ s.key.rtcSec.toNat % 2 ^ 32 →
    Completes .rtcAlarm s (fun t => t.crp.pmuEn = true ∧ t.io.out = .pin 2 true :: s.io.out))

/-- R394, R395, R397, R400: resets of regions and ports, and the crossing FIFOs. What a region's reset keeps is log
entries 37, 49 and 91; the packets of the crossing FIFOs are entry 29. -/
def Obligations.RegionResetsComplete : Prop :=
  (∀ (s : State) (w : Word) (r : Nat), r < 4 → rstAsks w (1 + r) = true → rstRefused w s = false → pdState s (4 + r) = .on →
    Completes (.corrReset w) s (fun t => t.crp.inReset.getLsbD (1 + r) = true ∧ ∀ ch, ch / 512 = r → ctx t ch = ctxDef ch)) ∧
  (∀ (s : State) (w : Word), rstAsks w 5 = true → rstRefused w s = false → pdState s 8 = .on → s.crp.acqDownWaits = true →
    Completes (.acqReset w) s (fun t => t.acq.pipe = [] ∧ pdState t 8 = .isolated ∧ t.crp.acqDownWaits = false)) ∧
  (∀ (s : State) (w : Word), rstAsks w 5 = true → rstRefused w s = false → pdState s 8 = .on →
    Completes (.acqReset w) s (fun t => t.crp.inReset.getLsbD 5 = true ∧ t.acq.pipe = [] ∧ t.acq.caps = s.acq.caps)) ∧
  (∀ (s : State) (w : Word), rstAsks w 6 = true → s.crp.mode = .maintain → pdState s 9 = .on →
    Completes (.fixReset w) s (fun t => t.crp.inReset.getLsbD 6 = true ∧ t.pst = Pst.reset)) ∧
  (∀ (s : State) (w : Word), rstAsks w 6 = true → s.crp.mode ≠ .maintain →
    Completes (.fixReset w) s (fun t => t.crp = s.crp ∧ t.pst = s.pst ∧ stkSet t Reg.CRP_STICKY 6)) ∧
  (∀ (s : State) (w : Word), rstAsks w 7 = true → s.crp.mode = .maintain → pdState s 10 = .on →
    Completes (.chartReset w) s (fun t => t.crp.inReset.getLsbD 7 = true ∧
      t.cht = { Cht.reset with nextSeq := s.cht.nextSeq, period := s.cht.period })) ∧
  (∀ (s : State) (w : Word), rstAsks w 8 = true → rstRefused w s = false → pdState s 12 = .on → s.pai.pair = false →
    Completes (.netReset w) s (fun t => t.crp.inReset.getLsbD 8 = true ∧
      ∀ n, n < 4 → netPort t n = { portDef n with nfSeq := (netPort s n).nfSeq })) ∧
  (∀ (s : State) (b : Nat), 1 ≤ b → b ≤ 8 →
    Completes (.regionResetDone b) s (fun t => t.crp.inReset.getLsbD b = false)) ∧
  (∀ (s : State) (w : Word), let ports := BitVec.ofNat 4 (2 ^ gradePorts s - 1)
    Completes (.crpNetRst w) s (fun t => t.crp.macRst = BitVec.ofNat 4 (bits w 3 0) &&& ports ∧
      t.crp.fabRst = BitVec.ofNat 4 (bits w 11 8) &&& ports ∧ (t.crp.macRst ≠ t.crp.fabRst → stkSet t Reg.CRP_STICKY 4))) ∧
  (∀ (s : State) (w : Word) (k : Nat), k < 4 → fifoExists s k = true → bitAt w 0 = true → s.crp.mode = .maintain → (netPort s k).fifo ≠ [] →
    Completes (.fifoDrop k w) s (fun t => (netPort t k).fifo = (netPort s k).fifo.drop 1 ∧ rd t (Reg.NET_CNT k 4) = rd s (Reg.NET_CNT k 4))) ∧
  (∀ (s : State) (w : Word) (n : Nat) (f : TxFrame), n < 4 → fifoExists s (n + 4) = true → bitAt w 0 = true → s.crp.mode = .maintain →
    (netPort s n).tx = some f →
    Completes (.fifoDrop (n + 4) w) s (fun t => (netPort t n).tx = none ∧ (f.kind = .nightfall → rd t (Reg.NFL_CNT 2) = satAdd (rd s (Reg.NFL_CNT 2)) 1))) ∧
  (∀ (s : State) (w : Word) (k : Nat), fifoExists s k = true → bitAt w 0 = true → s.crp.mode = .maintain →
    (k < 4 → (netPort s k).fifo = []) → (4 ≤ k → k < 8 → (netPort s (k - 4)).tx = none) → (8 ≤ k → fifo s k = fifoDef k) →
    Completes (.fifoDrop k w) s (fun t => dropsNext t k = true)) ∧
  (∀ (s : State) (w : Word) (k : Nat), s.crp.mode ≠ .maintain → Completes (.fifoDrop k w) s (fun t => t = s)) ∧
  (∀ (s : State) (k : Nat), k < 4 → fifoExists s k = true → pd1Runs s = true → (netPort s k).fifo ≠ [] →
    Completes (.fifoUe k) s (fun t => (netPort t k).fifo = (netPort s k).fifo.drop 1 ∧ rd t (Reg.NET_CNT k 4) = satAdd (rd s (Reg.NET_CNT k 4)) 1 ∧
      stkSet t Reg.CRP_STICKY 5)) ∧
  (∀ (s : State) (n : Nat) (f : TxFrame), n < 4 → fifoExists s (n + 4) = true → pd1Runs s = true → (netPort s n).tx = some f →
    Completes (.fifoUe (n + 4)) s (fun t => (netPort t n).tx = none ∧ stkSet t Reg.CRP_STICKY 5)) ∧
  (∀ (s : State) (k : Nat), 8 ≤ k → k < 20 → pd1Runs s = true → fifo s k = fifoDef k →
    Completes (.fifoUe k) s (fun t => dropsNext t k = true ∧ stkSet t Reg.CRP_STICKY 5)) ∧
  (∀ (s : State) (f : List Byte) (ok : Bool), pairUp s = true → dropsNext s 10 = true →
    Completes (.heartbeatReceive f ok) s (fun t => dropsNext t 10 = false ∧ t.pai.pathA.missing = s.pai.pathA.missing + 1 ∧
      t.pai.pathA.good = 0 ∧ rd t (Reg.PAI_CNT 0) = satAdd (rd s (Reg.PAI_CNT 0)) 1)) ∧
  (∀ (s : State) (u ch core : Nat) (b : List Byte) (l : List (Nat × Nat × List Byte)), (corUnit s u).dumps = (ch, core, b) :: l →
    dropsNext s 16 = true →
    Completes (.dumpDelivery u) s (fun t => (corUnit t u).dumps = l ∧ t.cor.queue = s.cor.queue ∧ dropsNext t 16 = false ∧ (ctx t ch).qgap = true))

/-- R404, R408, R411: the modes that a command asks for. -/
def Obligations.ModeCommandsComplete : Prop :=
  (∀ (s : State) (w : Word), bits w 2 0 = 0 → bits w 31 24 = 0x4D → s.crp.mode = .maintain →
    Completes (.targetDormant w) s (fun t => t.crp.mode = .maintain ∧ t.crp.pmuEn = false ∧ Output.pin 2 false ∈ t.io.out)) ∧
  (∀ (s : State) (w : Word), bits w 2 0 = 2 → bits w 31 24 = 0x4D → s.crp.mode = .serve → nfSet s = true →
    Completes (.targetSurvey w) s (fun t => t.crp.mode = .survey)) ∧
  (∀ (s : State) (w : Word), bits w 2 0 = 3 → bits w 31 24 = 0x4D → s.crp.mode = .survey →
    Completes (.targetServe w) s (fun t => t.crp.mode = .serve)) ∧
  (∀ (s : State) (w : Word), bits w 2 0 = 3 → bits w 31 24 = 0x4D → s.crp.mode = .maintain → s.crp.recovery = false → s.pai.pair = false →
    s.tim.state ≠ .holdover →
    Completes (.targetServe w) s (fun t => t.crp.mode = if antQualifies s then .serve else .survey)) ∧
  (∀ (s : State) (w : Word), bits w 2 0 = 6 → bits w 31 24 = 0x4D → modeIn s [.serve, .survey, .holdover, .maintain] = true →
    Completes (.targetSnapshot w) s (fun t => t.crp.mode = .snapshot ∧ t.crp.swapWait = 0 ∧ t.nfl.latch = .latched)) ∧
  (∀ (s : State) (w : Word), bits w 2 0 = 7 → bits w 31 24 = 0x4D → modeIn s [.serve, .survey, .holdover, .standby] = true →
    Completes (.targetMaintain w) s (fun t => t.crp.mode = .maintain ∧ t.nfl.latch = .latched)) ∧
  (∀ (s : State) (w : Word), bits w 2 0 = 7 → bits w 31 24 ≠ 0x4D →
    Completes (.targetMaintain w) s (fun t => t.crp = s.crp ∧ t.nfl = s.nfl ∧ stkSet t Reg.CRP_PWR_STICKY 1)) ∧
  (∀ (s : State) (a : Nat), s.crp.mode = .snapshot → s.crp.snapAt = some a → s.crp.snapDown = false → a + 20 * tMs ≤ s.tim.now →
    Completes .snapshotPowerDown s (fun t => t.crp.snapDown = true ∧ t.crp.mode = .snapshot ∧
      t.crp.pd = [(0, .on), (1, .on), (2, .on), (3, .on)] ∧ t.dsp = Dsp.reset)) ∧
  (∀ s : State, s.crp.mode = .snapshot →
    Completes .snapshotWake s (fun t => t.crp.mode = .boot ∧ t.crp.booting = true ∧ t.crp.wake = if snapTimer s then 3 else 2))

/-- R412, R413, R418 to R420: power domains, and the swap of configuration sets. -/
def Obligations.PowerAndSwapsComplete : Prop :=
  (∀ (s : State) (w : Word) (b : Nat), let old := rd s Reg.CRP_PWR_REQ
    b < 10 → bitAt old b = true → w &&& pwrMask s = old &&& ~~~(oneHot b) → pwrRefused s b = false → pdState s (pwrDomain b) = .on →
    (b = 4 → s.acq.pipe = []) →
    Completes (.powerRequest w) s (fun t => pdState t (pwrDomain b) = .isolated)) ∧
  (∀ (s : State) (w : Word) (b : Nat), let old := rd s Reg.CRP_PWR_REQ
    b < 10 → bitAt old b = true → w &&& pwrMask s = old &&& ~~~(oneHot b) → pwrRefused s b = true →
    Completes (.powerRequest w) s (fun t => t.crp = s.crp ∧ rd t Reg.CRP_PWR_REQ = old ∧ stkSet t Reg.CRP_PWR_STICKY 0)) ∧
  (∀ (s : State) (w : Word) (b : Nat), let old := rd s Reg.CRP_PWR_REQ
    b < 10 → bitAt old b = false → w &&& pwrMask s = old ||| oneHot b → s.crp.mode ≠ .boot → pdState s (pwrDomain b) = .off →
    Completes (.powerRequest w) s (fun t => pdState t (pwrDomain b) = .ramping)) ∧
  (∀ (s : State) (k : Nat), pdState s k = .isolated → Completes (.powerRampDone k) s (fun t => pdState t k = .off)) ∧
  (∀ (s : State) (k : Nat), pdState s k = .ramping → Completes (.powerRampDone k) s (fun t => pdState t k = .on)) ∧
  (∀ (s : State) (w : Word) (a : Nat), let sets := BitVec.ofNat 8 (bits w 7 0)
    bitAt w 31 = true → s.crp.mode ≠ .standby → s.crp.swapWait = 0 → forbiddenIn sets s = [] →
    bitAt w 8 = false → sets.getLsbD 2 = false → inSets sets a = true → Tab.wf RegMap.reset s.bank.shadow = true →
    Completes (.cfgSwap w) s (fun t => rd t a = shadow s a ∧ t.crp.swaps = s.crp.swaps + 1)) ∧
  (∀ (s : State) (w : Word), let sets := BitVec.ofNat 8 (bits w 7 0)
    bitAt w 31 = true → s.crp.mode ≠ .standby → s.crp.swapWait = 0 → forbiddenIn sets s = [] →
    bitAt w 8 = true →
    Completes (.cfgSwap w) s (fun t => t.crp.swapWait = sets ∧ t.bank = s.bank)) ∧
  (∀ (s : State) (w : Word), bitAt w 31 = true → s.crp.swapWait ≠ 0 →
    Completes (.cfgSwap w) s (fun t => t.bank = s.bank ∧ stkSet t Reg.CRP_STICKY 6)) ∧
  (∀ (s : State) (w : Word), let sets := BitVec.ofNat 8 (bits w 7 0)
    bitAt w 31 = true → s.crp.mode ≠ .standby → s.crp.swapWait = 0 → forbiddenIn sets s ≠ [] →
    Completes (.cfgSwap w) s (fun t => t.bank = s.bank ∧ t.crp = s.crp ∧ stkSet t Reg.CRP_STICKY 6))

/-- R417, R421, R426, R428: OTP, the configuration store, confirmation and the floor. -/
def Obligations.StoresComplete : Prop :=
  (∀ (s : State) (w : Word), bitAt w 0 = true → s.upd.confirmed = true → Completes (.confirm w) s (fun t => t = s)) ∧
  (∀ (s : State) (w : Word), bitAt w 0 = true → s.upd.confirmed = false →
    Completes (.confirm w) s (fun t => t.upd.confirmed = true ∧ t.upd.failed = 0 ∧ t.upd.active = s.upd.active)) ∧
  (∀ (s : State) (w : Word) (i : Image), bitAt w 0 = true → bitAt w 1 = true → lc s ≠ 4 → s.upd.active = some i →
    Completes (.raiseFloor w) s (fun t => t.upd.floorBits = s.upd.floorBits ||| BitVec.ofNat 1024 (2 ^ min i.svn 1024 - 1) ∧
      t.upd.floorVbat = max s.upd.floorVbat i.svn)) ∧
  (∀ (s : State) (w : Word), bitAt w 3 = true →
    Completes (.cfgSave w) s (fun t => t.upd.nv.valid = true ∧ t.upd.nv.regs = s.bank.regs.filter (fun e => (setOf e.1).isSome))) ∧
  (∀ (s : State) (w : Word), bitAt w 0 = true → bits w 31 24 = 0x5C → s.crp.mode = .maintain → lc s ≠ 4 → s.upd.gens.length < 5 →
    Completes (.otpProgram w true) s (fun t => t.upd.gens = s.upd.gens ++ [progData s])) ∧
  (∀ (s : State) (w : Word), bitAt w 0 = true → bits w 31 24 = 0x5C → s.crp.mode = .maintain → lc s ≠ 4 → s.upd.gens.length < 5 →
    Completes (.otpProgram w false) s (fun t => t.upd.gens = s.upd.gens ++ [0] ∧ stkSet t Reg.OTP_STICKY 1)) ∧
  (∀ (s : State) (w : Word) (v : Bool), bitAt w 0 = true → (bits w 31 24 ≠ 0x5C ∨ s.crp.mode ≠ .maintain ∨ lc s = 4) →
    Completes (.otpProgram w v) s (fun t => t.upd = s.upd ∧ stkSet t Reg.OTP_STICKY 2)) ∧
  (∀ (s : State) (w : Word), bits w 1 0 = 1 → lcCmdOk w s = true →
    Completes (.provision w) s (fun t => t.upd.lcField = lcSet 0 s.upd.lcField ∧ t.upd.imageKey = provDigest s 0 ∧ t.key.slot = [])) ∧
  (∀ (s : State) (w : Word), bits w 1 0 = 2 → lcCmdOk w s = true →
    Completes (.retire w) s (fun t => t.upd.lcField = lcSet 127 s.upd.lcField ∧ t.key.slot = [])) ∧
  (∀ (s : State) (w : Word), bits w 1 0 = 2 → lcCmdOk w s = false →
    Completes (.retire w) s (fun t => t.upd = s.upd ∧ t.key = s.key ∧ stkSet t Reg.KEY_STICKY 8))

/-- R423, R424: staging sessions and the peer path. A bad block is unreceived again and restarts the timeout by log
entries 113 and 218; the form of the PAIR records is entry 133; a block under a DMA hold is entry 238. -/
def Obligations.StagingCompletes : Prop :=
  (∀ (s : State) (j : Job) (c : Cmd), pickJob s 6 (fun _ => true) = some j → j.cmd = some c → c.opcode = 0x28 →
    s.upd.session = none → lenOk (leAt (cmdBody j) 0 4) = true →
    Completes .stageOpen s (fun t => t.upd.staging = .receiving ∧ t.upd.armed = false ∧
      t.upd.session = some ⟨(s.upd.sessions + 1) % 2 ^ 32, 1, leAt (cmdBody j) 0 4, [], s.tim.now⟩)) ∧
  (∀ (s : State) (j : Job) (c : Cmd) (x : Session) (d : List Byte), let k := leAt (cmdBody j) 4 2
    pickJob s 6 (fun _ => true) = some j → j.cmd = some c → c.opcode = 0x29 →
    s.io.dmaHeld = false → hostSession s (leAt (cmdBody j) 0 4) = some x → k < blockCount x → leAt (cmdBody j) 8 4 = blockLen x k →
    Completes (.stageBlock d) s (fun t =>
      t.upd.session = some { x with last := s.tim.now, blocks := x.blocks.filter (fun b => b.1 ≠ k) ++
        (if d.length = blockLen x k ∧ crc32c d = leAt (cmdBody j) 12 4 then [(k, d)] else []) })) ∧
  (∀ (s : State) (j : Job) (c : Cmd) (x : Session) (n : Nat), pickJob s 6 (fun _ => true) = some j → j.cmd = some c → c.opcode = 0x2A →
    leAt (cmdBody j) 0 4 = n → hostSession s n = some x → blockCount x ≤ x.blocks.length → imageStatus s (stagedImage x) = 0 →
    Completes (.stageCommit n) s (fun t => t.upd.staging = .verified ∧ t.upd.stagingImg = some (stagedImage x) ∧ t.upd.armed = true ∧
      t.upd.session = none)) ∧
  (∀ (s : State) (j : Job) (c : Cmd) (x : Session) (n : Nat), pickJob s 6 (fun _ => true) = some j → j.cmd = some c → c.opcode = 0x2A →
    leAt (cmdBody j) 0 4 = n → hostSession s n = some x → (x.blocks.length < blockCount x ∨ imageStatus s (stagedImage x) ≠ 0) →
    Completes (.stageCommit n) s (fun t => t.upd.staging = .invalid ∧ t.upd.session = none)) ∧
  (∀ (s : State) (j : Job) (c : Cmd) (x : Session), pickJob s 6 (fun _ => true) = some j → j.cmd = some c → c.opcode = 0x2B →
    hostSession s (leAt (cmdBody j) 0 4) = some x →
    Completes .stageAbort s (fun t => t.upd.staging = .invalid ∧ t.upd.session = none)) ∧
  (∀ (s : State) (x : Session), s.upd.session = some x → x.last + fld s Reg.UPD_CFG 7 0 * tSec ≤ s.tim.now →
    Completes .sessionTimeout s (fun t => t.upd.staging = .invalid ∧ t.upd.session = none ∧ stkSet t Reg.UPD_STICKY 4)) ∧
  (∀ (s : State) (n : Nat), pairUp s = true → dropsNext s 10 = false → s.upd.session = none → lenOk n = true →
    Completes (.peerOpenRecord n) s (fun t => t.upd.staging = .receiving ∧ t.upd.armed = false ∧
      t.upd.session = some ⟨(s.upd.sessions + 1) % 2 ^ 32, 2, n, [], s.tim.now⟩)) ∧
  (∀ (s : State) (x : Session) (k crc : Nat) (d : List Byte), pairUp s = true → dropsNext s 10 = false → s.upd.session = some x → x.source = 2 → k < blockCount x →
    Completes (.peerStageRecord (some k) crc d) s (fun t =>
      t.upd.session = some { x with last := s.tim.now, blocks := x.blocks.filter (fun b => b.1 ≠ k) ++
        (if d.length = blockLen x k ∧ crc32c d = crc then [(k, d)] else []) })) ∧
  (∀ (s : State) (x : Session) (crc : Nat) (d : List Byte), pairUp s = true → dropsNext s 10 = false → s.upd.session = some x → x.source = 2 →
    blockCount x ≤ x.blocks.length → imageStatus s (stagedImage x) = 0 →
    Completes (.peerStageRecord none crc d) s (fun t => t.upd.staging = .verified ∧ t.upd.armed = true ∧
      t.io.out = .pair 7 [1] :: s.io.out)) ∧
  (∀ (s : State) (w : Word) (i : Image), bitAt w 2 = true → pairUp s = true → s.pai.pathA.ok = true → pushImage s = some i →
    Completes (.pushPeer w) s (fun t => t.upd.push = 1 ∧ t.io.out = .pair 6 (leBytes 4 i.totalLen) ::
      ((pushBlocks i).map (fun b => Output.pair 8 (leBytes 2 b.1 ++ leBytes 4 b.2.1 ++ b.2.2))).reverse ++
      .pair 5 (leBytes 4 i.totalLen) :: s.io.out)) ∧
  (∀ (s : State) (w : Word), bitAt w 2 = true → s.pai.pair = false →
    Completes (.pushPeer w) s (fun t => t.upd = s.upd ∧ stkSet t Reg.UPD_STICKY 6))

/-- R440 to R448: authenticated key updates that pass every check, and one that does not. The NV copy wrapped beside the
rest of its slot is log entry 197, and the algorithms entry 3. -/
def Obligations.KeyUpdatesComplete : Prop :=
  (∀ (s : State) (j : Job) (c : Cmd), pickJob s 6 (fun _ => true) = some j → j.cmd = some c → c.opcode = 0x30 →
    kuAction (cmdBody j) = 1 → kuStatus s (cmdBody j) = 0 →
    Completes .keyWrite s (fun t => keySlot t (kuSlot (cmdBody j)) = kuFill s (cmdBody j) ∧ storedCtr t = kuCounter (cmdBody j) ∧
      Tab.get keySlotDef t.key.nvSlot (kuSlot (cmdBody j)) =
        { kuFill s (cmdBody j) with material := kwWrap (storeKey s) (kuFill s (cmdBody j)).material } ∧
      t.dsp.jobs = s.dsp.jobs.filter (fun k => k.id ≠ j.id))) ∧
  (∀ (s : State) (j : Job) (c : Cmd), pickJob s 6 (fun _ => true) = some j → j.cmd = some c → c.opcode = 0x30 →
    kuAction (cmdBody j) = 2 → kuStatus s (cmdBody j) = 0 →
    Completes .keyDerive s (fun t => keySlot t (kuSlot (cmdBody j)) = kuFill s (cmdBody j) ∧ storedCtr t = kuCounter (cmdBody j))) ∧
  (∀ (s : State) (j : Job) (c : Cmd), pickJob s 6 (fun _ => true) = some j → j.cmd = some c → c.opcode = 0x30 →
    kuAction (cmdBody j) = 3 → kuStatus s (cmdBody j) = 0 →
    Completes .keyZeroise s (fun t => keySlot t (kuSlot (cmdBody j)) = goneSlot ∧ storedCtr t = kuCounter (cmdBody j))) ∧
  (∀ (s : State) (j : Job) (c : Cmd) (f : BitVec 128), pickJob s 6 (fun _ => true) = some j → j.cmd = some c → c.opcode = 0x30 →
    kuAction (cmdBody j) = 4 → kuStatus s (cmdBody j) = 0 → setLcBits s (kuTarget (cmdBody j)) = some f →
    Completes .setLc s (fun t => t.upd.lcField = f ∧ t.key.slot = [] ∧ storedCtr t = kuCounter (cmdBody j))) ∧
  (∀ (s : State) (j : Job) (c : Cmd), pickJob s 6 (fun _ => true) = some j → j.cmd = some c → c.opcode = 0x30 →
    kuAction (cmdBody j) = 5 → kuStatus s (cmdBody j) = 0 →
    Completes .replaceOwner s (fun t => t.key.ownerIdx = kuOwner (cmdBody j) + 1 ∧ t.key.slot = s.key.slot ∧
      Tab.get digestDef t.key.owner t.key.ownerIdx = digest384 (padTo 96 (((cmdBody j).drop 88).take 96)))) ∧
  (∀ (s : State) (j : Job) (c : Cmd), pickJob s 6 (fun _ => true) = some j → j.cmd = some c → c.opcode = 0x30 →
    kuAction (cmdBody j) = 3 → kuStatus s (cmdBody j) ≠ 0 →
    Completes .keyZeroise s (fun t => t.key = s.key ∧ stkSet t Reg.KEY_STICKY 2)) ∧
  (∀ (s : State) (j : Job) (c : Cmd), let k := leAt (cmdBody j) 32 1
    let x := ring s c.cpl
    pickJob s 6 (fun _ => true) = some j → j.cmd = some c → c.opcode = 0x31 → c.quiet = false → c.dead = false →
    s.io.dmaHeld = false → s.io.lost = false →
    ringRuns 2 x = true → ringFill x < ringSize x → lc s ≠ 3 → k < 64 → keyUsable s k 5 = true →
    Completes .attest s (fun t => t.key = s.key ∧ Output.ringEntry c.cpl (ringEntryAddr x x.dev) (cplEntry s.tim.now c 0
      (hmacSha256 (keyOf s k) (attestMsg s ((cmdBody j).take 32)) ++ leBytes 1 (lc s) ++ zeros 3 ++ leBytes 4 (activeVersion s).toNat)) ∈
      t.io.out))

/-- R440, R451 to R455: tamper events, key RAM, VBAT, JTAG and the clock. A slot whose copy does not unwrap is EMPTY by
log entry 197; the record owed from DORMANT is entry 109, and the sources active now entry 195. -/
def Obligations.TamperAndKeyRamComplete : Prop :=
  (∀ (s : State) (n : Nat) (u : Bool), n < 8 → tampEnabled s n = true → (n = 5 → u = true → s.crp.brown = false) →
    modeIn s [.serve, .survey, .holdover, .standby] = true →
    Completes (.tamperEvent n u) s (fun t => t.crp.mode = .maintain ∧ t.nfl.latch = .latched ∧ bitAt t.key.cause n = true ∧
      (∀ k, (keySlot t k).state ≠ .valid) ∧ stkSet t Reg.KEY_STICKY 0)) ∧
  (∀ (s : State) (n : Nat) (u : Bool), n < 8 → tampEnabled s n = true → (n = 5 → u = true → s.crp.brown = false) →
    s.crp.mode = .dormant →
    Completes (.tamperEvent n u) s (fun t => t.crp.pmuEn = true ∧ t.key.recordsOwed = s.key.recordsOwed + 1 ∧ bitAt t.key.cause n = true ∧
      (∀ k, (keySlot t k).state ≠ .valid))) ∧
  (∀ (s : State) (k : Nat), k < 64 → (keySlot s k).state = .valid →
    Completes (.keyRamUe k) s (fun t => (keySlot t k).state = .gone ∧ (keySlot t k).material = [] ∧ t.key.nvSlot = s.key.nvSlot ∧
      stkSet t Reg.KEY_STICKY 4)) ∧
  (∀ (s : State) (k : Nat), k < 64 → s.key.nvOk = true →
    Completes (.keyRestore k) s (fun t => keySlot t k = nvKey s k)) ∧
  (∀ s : State, s.crp.mode ≠ .dormant →
    Completes .vbatLow s (fun t => bitAt t.key.cause 11 = true ∧ (∀ k, (keySlot t k).state ≠ .valid) ∧ stkSet t Reg.KEY_STICKY 5)) ∧
  (∀ (s : State) (n : Nat), lc s = 1 →
    Completes (.debugAccess n) s (fun t => t.key = s.key ∧ stkSet t Reg.KEY_STICKY 7)) ∧
  (∀ s : State, Completes .rtcCapture s (fun t => t.key.rtcCapt = s.key.rtcSec))

/-- R462 to R473: the recorder. That a refused REC_CLEAR ends the nonce is log entry 32, the nonce as a number entries 2
and 3, the clear in one command 101, a failure told in BOOT 178; the spare taken is entry 234, a start on the lifeboat
239, and a record that the scan does not find 240. -/
def Obligations.RecorderCompletes : Prop :=
  (∀ (s : State) (x : Record), let c := recCur s.recorder
    s.recorder.store = .mram → s.recorder.inProgress = some x → slotUsed c + recSize x ≤ segBytes s.recorder → c.fillNo ≠ 0 →
    s.recorder.staging = [] → s.recorder.resume = none → s.recorder.copying = none →
    Completes .recordCommit s (fun t => t.recorder.inProgress = none ∧
      (recCur t.recorder).records = c.records ++ [s.recorder.heldFolds.foldl (fun y t => recFoldInto t y) x])) ∧
  (∀ s : State, s.recorder.foldDirty = true → s.recorder.copying = none → s.recorder.lastWriteBack + tMs ≤ s.tim.now →
    Completes .foldWriteBack s (fun t => t.recorder.foldDirty = false ∧ t.recorder.lastWriteBack = s.tim.now)) ∧
  (∀ (s : State) (p k : Nat), s.recorder.store = .mram → s.recorder.copying = none → s.recorder.spares ≠ 0 →
    (List.range 64).find? (fun k => (recSlot s.recorder k).inRing && decide ((recSlot s.recorder k).phys = p)) = some k →
    Completes (.segmentRetired p .begins) s (fun t => t.recorder.copying = some p ∧ t.recorder.slots = s.recorder.slots ∧
      exec .recordCommit t = .next t ∧ exec .foldWriteBack t = .next t)) ∧
  (∀ (s : State) (p v k : Nat) (bad : List Nat), s.recorder.store = .mram → s.recorder.copying = some p → s.recorder.spares ≠ 0 →
    (List.range 64).find? (fun k => (recSlot s.recorder k).inRing && decide ((recSlot s.recorder k).phys = p)) = some k →
    Completes (.segmentRetired p (.ends v bad)) s (fun t => (recSlot t.recorder k).phys = 72 - s.recorder.spares ∧
      t.recorder.spares = s.recorder.spares - 1 ∧ (∀ w ∈ bad, w ∈ (recSlot t.recorder k).zeroed) ∧
      t.recorder.copying = none ∧ stkSet t Reg.REC_STICKY 1)) ∧
  (∀ s : State, s.recorder.store = .mram →
    Completes (.lifeboat 1) s (fun t => t.recorder.store = .lifeboat ∧ t.recorder.slots = s.recorder.slots ∧ stkSet t Reg.REC_STICKY 3)) ∧
  (∀ s : State, s.recorder.store = .mram → goodSlots s.recorder = 0 →
    Completes (.lifeboat 2) s (fun t => t.recorder.store = .lifeboat ∧ t.recorder.cur = 0 ∧ stkSet t Reg.REC_STICKY 3)) ∧
  (∀ s : State, s.recorder.store = .notUp → s.crp.mode = .boot →
    Completes (.lifeboat 1) s (fun t => t = setRec { s.recorder with nvFail := true } s ∧
      (recUp t).recorder.store = .lifeboat ∧ stkSet (recUp t) Reg.REC_STICKY 3 ∧
      ((recSlot (recUp t).recorder 0).records.map (fun x => (x.type, x.seq))).take 2 = [(6, 0), (1, 1)])) ∧
  (∀ (s : State) (w : Word), let r := s.recorder
    r.store ≠ .notUp → (w.toNat + 2 ^ 32 - recOldest r) % 2 ^ 32 ≤ (recNewestSeq r + 1 + 2 ^ 32 - recOldest r) % 2 ^ 32 →
    Completes (.recReadSeq w) s (fun t => t.recorder.readSeq = w.toNat)) ∧
  (∀ (s : State) (w : Word), let r := s.recorder
    r.store ≠ .notUp → (recNewestSeq r + 1 + 2 ^ 32 - recOldest r) % 2 ^ 32 < (w.toNat + 2 ^ 32 - recOldest r) % 2 ^ 32 →
    Completes (.recReadSeq w) s (fun t => t.recorder = s.recorder ∧ stkSet t Reg.REC_STICKY 8)) ∧
  (∀ (s : State) (j : Job) (c : Cmd), pickJob s 6 (fun _ => true) = some j → j.cmd = some c → c.opcode = 0x38 →
    Completes .recNonce s (fun t => t.recorder.nonce = some (s.free, s.tim.now) ∧ t.free = s.free + 1)) ∧
  (∀ (s : State) (j : Job) (c : Cmd), s.recorder.store ≠ .notUp → s.recorder.copying = none →
    pickJob s 6 (fun _ => true) = some j → j.cmd = some c → c.opcode = 0x39 → clearStatus (cmdBody j) s = 0 →
    Completes .recClear s (fun t => t.recorder.nonce = none ∧ stkSet t Reg.REC_STICKY 6 ∧
      ∃ x, t.recorder.inProgress = some x ∧ x.type = 3 ∧ x.seq = t.recorder.readSeq)) ∧
  (∀ (s : State) (j : Job) (c : Cmd), s.recorder.store ≠ .notUp → s.recorder.copying = none →
    pickJob s 6 (fun _ => true) = some j → j.cmd = some c → c.opcode = 0x39 → clearStatus (cmdBody j) s ≠ 0 →
    Completes .recClear s (fun t => t.recorder = { s.recorder with nonce := none } ∧ stkSet t Reg.REC_STICKY 7))

/-- R12, R476 to R481: the performance counters. The meaning of the COUNTER_OVERFLOW row, a carry from an event outside
the table, is log entry 102; the carry as an operand of a write is entry 237. -/
def Obligations.CountersComplete : Prop :=
  (∀ (s : State) (k : Nat), ctrExists s k = true → s.io.frozen = false → (ioCtr s.io k).event ≠ 0 → (chained s = false ∨ k % 2 = 1) →
    Completes (.counterOverflow k) s (fun t => stkSet t (Reg.PRF_OVF (k / 32)) (k % 32))) ∧
  (∀ (s : State) (k : Nat), ctrExists s k = true → s.io.frozen = false → (ioCtr s.io k).event ≠ 0 → chained s = true → k % 2 = 0 →
    Completes (.counterOverflow k) s (fun t => (ioCtr t.io k).count = 0 ∧ (ioCtr t.io (k + 1)).count = (ioCtr s.io (k + 1)).count + 1)) ∧
  (∀ (s : State) (k : Nat) (w : CtrWrite), ctrExists s k = true →
    Completes (.prfHiWrite k w) s (fun t =>
      (ioCtr t.io k).count = BitVec.ofNat 48 ((ioCtr s.io k).low.toNat + 2 ^ 32 * bits w.word 15 0) ∧
      (w.carry = true → stkSet t Reg.PRF_STICKY 0))) ∧
  (∀ (s : State) (w : Word), Completes (.freeze w) s (fun t => t.io.frozen = bitAt w 8 ∧
    t.io.appEn = BitVec.ofNat 4 (match s.grade with | .l => bits w 3 0 | .s => bits w 1 0))) ∧
  (∀ (s : State) (core n : Nat), 3 ≤ n → n < 19 → core < 12 →
    (8 ≤ core → s.io.appEn.getLsbD (core - 8) = false → (coreRead core n s).2 = 0) ∧
    ((core < 8 ∨ s.io.appEn.getLsbD (core - 8) = true) → n % 2 = 1 → (coreRead core n s).2 = (ioCtr s.io (16 * core + (n - 3))).count)) ∧
  (∀ (s : State) (k : Nat), ctrExists s k = true → k % 2 = 0 →
    Completes (.prfPairCapture k) s (fun t => (ioCtr t.io k).capt = (ioCtr s.io k).count ∧
      (ioCtr t.io (k + 1)).capt = (ioCtr s.io (k + 1)).count))

/-- R2, R8, R9, R61 to R94: what the commands of ingress, the correlators and the acquisition engine leave. A write of a
register without an effect of its own leaves every other register; one that acts as a row leaves what the row leaves
(RegisterAccessCompletes). -/
def Obligations.SignalFrames : Prop :=
  (∀ (addr : Nat) (w : Word) (x : WriteCycle) (s t : State), exec (.registerWrite addr w x) s = .next t → t.pending =
    s.pending ∧ t.grade = s.grade) ∧
  (∀ (addr : Nat) (w : Word) (x : WriteCycle) (d : RegDesc) (s t : State), x.be = 15 → addr % 4 = 0 → doorbellOf addr = none →
    reached s addr = some d → hasEffect d.base = false → exec (.registerWrite addr w x) s = .next t → onlyTouches [.bank, .io]
    s t ∧ (∀ a, a ≠ addr → rd t a = rd s a ∧ shadow t a = shadow s a) ∧ (∀ a, a / 2 ^ 20 ≠ addr / 2 ^ 20 → among (andRaised
    [one Reg.PAI_STICKY]) a = false → stk t a = stk s a)) ∧
  (∀ (addr : Nat) (w : Word) (x : WriteCycle) (s t : State), (x.be % 16 ≠ 15 ∨ addr % 4 ≠ 0) → exec (.registerWrite addr w x)
    s = .next t → onlyTouches [.io] s t ∧ (∀ a, among raised a = false → stk t a = stk s a)) ∧
  (∀ (addr : Nat), Frame (.lowWordCapture addr) [.bank] [] []) ∧
  (Frame .bridgeLaneFail [.io, .ing] [] (andRaised [one Reg.GLB_ERR])) ∧
  (Frame .bbSyncLost [.bank, .io, .cor, .tim] [one Reg.TIM_SYNC_MISS] (andRaised [one Reg.TIM_STICKY])) ∧
  (Frame .bridgeSilent (nfPartsAnd [.ing, .tim, .free]) nfRegs (nfStksAnd [one Reg.GLB_ERR, one Reg.TIM_STICKY])) ∧
  (∀ (bb : Int) (fl : Int) (nv : Int), Frame (.thermalSample bb fl nv) [.bank, .io, .recorder, .crp] [one Reg.GLB_TEMP,
    recCnt] (andRaised [one Reg.GLB_ERR, one Reg.REC_STICKY])) ∧
  (∀ (w : Word), Frame (.thermalTripClear w) [.io, .crp] [] (andRaised [one Reg.GLB_ERR])) ∧
  (∀ (w : Word), Frame (.antEn w) [.bank, .ing] [one Reg.ING_CTRL] []) ∧
  (∀ (ant : Nat), Frame (.codeGroupSync ant) [.ing] [] []) ∧
  (∀ (phases : List (BitVec 5)), Frame (.sysrefPulse phases) [.io, .ing] [] (andRaised [one Reg.ING_STICKY])) ∧
  (∀ (ant : Nat) (octets : List Byte), Frame (.ilasReceived ant octets) [.bank, .io, .ing] [words (Reg.ING_ILAS ant) 4]
    (andRaised [one Reg.ING_STICKY])) ∧
  (∀ (ant : Nat), Frame (.codeErr ant) [.bank, .io, .ing, .cor] [one (Reg.ING_ERRCNT ant)] (andRaised [one Reg.ING_STICKY])) ∧
  (∀ (ant : Nat) (cdrLost : Bool), Frame (.linkLoss ant cdrLost) [.bank, .io, .ing] [one (Reg.ING_ERRCNT ant)] (andRaised [one
    Reg.ING_STICKY])) ∧
  (∀ (ant : Nat) (clipped : List Nat), Frame (.ingClipLoad ant clipped) [.bank, .ing] [one (Reg.ING_CLIP ant)] []) ∧
  (∀ (ant : Nat) (w : Word), Frame (.ingLatencyWrite ant w) [.bank, .ing] [one (Reg.ING_LATENCY ant)] []) ∧
  (∀ (ant : Nat), Frame (.latencyStep ant) [.ing, .cor] [] []) ∧
  (∀ (ch : Nat), Frame (.start ch) [.io, .cor] [] (andRaised [one Reg.COR_STICKY])) ∧
  (∀ (ch : Nat), Frame (.stopAt ch) [.io, .cor, .acq] [] (andRaised [one Reg.COR_STICKY])) ∧
  (∀ (ch : Nat), Frame (.abort ch) [.io, .cor, .acq] [] (andRaised [one Reg.COR_STICKY])) ∧
  (∀ (ch : Nat), Frame (.contextRun ch) [.cor] [] []) ∧
  (∀ (ch : Nat) (frames : List (BitVec 37)), Frame (.integrationBoundary ch frames) [.io, .cor, .acq] [] (andRaised [one
    Reg.COR_STICKY])) ∧
  (∀ (ch id : Nat), Frame (.replayCaptureEnd ch id) [.io, .cor, .acq] [] (andRaised [one Reg.COR_STICKY])) ∧
  (∀ (unit : Nat), Frame (.dumpDelivery unit) [.crp, .io, .ing, .cor] [] (andRaised [one Reg.COR_STICKY])) ∧
  (∀ (ch : Nat) (code : BitVec 64) (carr : BitVec 64), Frame (.rateMessage ch code carr) [.io, .ing, .cor] [] raised) ∧
  (∀ (ch : Nat) (w : Word), Frame (.codeRateHi ch w) [.bank, .io, .cor] [one (Reg.COR_CODE_RATE_HI ch), one
    (Reg.COR_CODE_RATE_LO ch)] (andRaised [one Reg.COR_STICKY])) ∧
  (∀ (ch : Nat) (w : Word), Frame (.carrRateHi ch w) [.bank, .io, .cor] [one (Reg.COR_CARR_RATE_HI ch), one
    (Reg.COR_CARR_RATE_LO ch)] (andRaised [one Reg.COR_STICKY])) ∧
  (∀ (unit : Nat) (context : Nat), Frame (.corrMismatchEvent unit context) [.bank, .io, .recorder, .cor, .acq] [one
    Reg.COR_MISMATCH_CNT, one (Reg.COR_QUAR (unit / 32)), recCnt] (andRaised [one Reg.COR_STICKY, one Reg.REC_STICKY])) ∧
  (∀ (w : Word), Frame (.corCodeData w) [.bank, .cor] [one Reg.COR_CODE_ADDR] []) ∧
  (∀ (w : Word), Frame (.corInject w) [.bank, .io, .recorder, .cor, .acq, .free] [one Reg.COR_MISMATCH_CNT, one (Reg.COR_QUAR
    (bits w 6 0 / 32)), recCnt] (andRaised [one Reg.COR_STICKY, one Reg.REC_STICKY])) ∧
  (Frame .capture [.io, .acq, .free] [] (andRaised [one Reg.ACQ_STICKY])) ∧
  (∀ (id : Nat), Frame (.captureRelease id) [.acq] [] []) ∧
  (∀ (id : Nat), Frame (.captureWindowStart id) [.acq] [] []) ∧
  (∀ (w : WindowFrames), Frame (.captureWindowEnd w) [.acq] [] []) ∧
  (Frame .snapshotScheduledCapture [.bank, .io, .acq, .free] [one Reg.ACQ_SNAP_COUNT] (andRaised [one Reg.ACQ_STICKY])) ∧
  (∀ (w : Word), Frame (.acqJob w) [.io, .acq, .free] [] (andRaised [one Reg.ACQ_STICKY])) ∧
  (∀ (pipe : Nat), Frame (.searchStart pipe) [.io, .acq, .free] [] raised) ∧
  (∀ (pipe : Nat), ResetFrame (.searchComplete pipe) [.bank, .io, .crp, .acq, .free] [acqRegs] [] raised)

/-- What the commands of the base station and the field link leave. -/
def Obligations.LinkFrames : Prop :=
  (∀ (port : Nat), Frame (.snapFrame port) [.bank, .io, .acq, .net, .mach, .dsp, .pai] [one Reg.ACQ_RSNAP_COUNT, dspCnt, one
    Reg.DSP_HELD_MAX, netCnt port, paiCnt] (andRaised [one Reg.DSP_STICKY, netSticky, one Reg.NFL_STICKY])) ∧
  (∀ (m : Nat), Frame (.snapReassemblyTimeout m) [.bank, .io, .acq, .net, .mach, .pai] [one Reg.ACQ_RSNAP_COUNT] (andRaised
    [netSticky, one Reg.NFL_STICKY])) ∧
  (Frame .snapSolve [.bank, .io, .acq, .net, .mach, .cht, .dsp, .pai, .free] [one Reg.ACQ_RSNAP_COUNT, chtCnt, dspCnt]
    (andRaised [one Reg.ACQ_STICKY, one Reg.CHT_STICKY, netSticky, one Reg.NFL_STICKY])) ∧
  (∀ (obs : List ChanObs), Frame (.baseEpoch obs) [.io, .cor, .ref] [] raised) ∧
  (∀ (sats : List SatPos) (eph : List SnapEph), Frame (.basePublish sats eph) [.upd, .bank, .io, .recorder, .ref, .dsp]
    [recCnt, words Reg.REF_ANT_XCHK 4] (andRaised [one Reg.REC_STICKY, one Reg.REF_STICKY])) ∧
  (Frame .baseDiscard [.ref] [] []) ∧
  (∀ (ant : Nat) (w : Word), Frame (.readmit ant w) [.ref] [] []) ∧
  (∀ (ant : Nat) (w : Word), Frame (.exclude ant w) [.ref] [] []) ∧
  (∀ (w : Word), Frame (.surveyStart w) [.io, .ref] [] (andRaised [one Reg.REF_STICKY])) ∧
  (∀ (w : Word), Frame (.surveyAbort w) [.ref] [] []) ∧
  (Keeps .surveyEnd [.bank, .io, .ref, .free] ∧ (∀ s t, s.ref.survey = none → exec .surveyEnd s = .next t → t = s) ∧ ∀ (s t :
    State) (v : Survey), s.ref.survey = some v → exec .surveyEnd s = .next t → SameBut (v.ants.flatMap (fun x => [one
    (Reg.REF_ANT_CFG x.ant), words (Reg.REF_ANT_COORD x.ant) 6, one (Reg.REF_ANT_SURVEY_SIGMA x.ant)])) (andRaised [one
    Reg.REF_STICKY]) s t) ∧
  (Frame .leapApply [.bank] [one Reg.REF_LEAP_AT, one Reg.REF_TIME_CFG] []) ∧
  (∀ (n : Nat), Frame (.streamEpochDue n) [.bank, .io, .ref, .net, .dsp] [dspCnt, one Reg.DSP_HELD_MAX, one
    (Reg.REF_STREAM_COUNT n)] (andRaised [one Reg.DSP_STICKY, one Reg.NFL_STICKY, one Reg.REF_STICKY])) ∧
  (Frame .encode [.bank, .io, .ref, .net, .dsp] [dspCnt, words Reg.REF_STREAM_COUNT 16] (andRaised [one Reg.NFL_STICKY, one
    Reg.REF_STICKY])) ∧
  (∀ (port : Nat) (frame : List Byte) (fcsOk : Bool), Frame (.frameReceive port frame fcsOk) [.bank, .io, .crp, .net, .free]
    [netCnt port] (andRaised [one (Reg.NET_STICKY port)])) ∧
  (∀ (port : Nat), Frame (.xoffRefresh port) [.bank, .io, .net] [netCnt port] raised) ∧
  (∀ (port : Nat), Frame (.pauseExpiry port) [.net] [] []) ∧
  (∀ (port : Nat), Frame (.pauseBypass port) [.io, .net] [] (andRaised [one (Reg.NET_STICKY port)])) ∧
  (∀ (port : Nat), Frame (.linkUp port) [.bank, .io, .crp, .net] [nflCnt] []) ∧
  (∀ (port : Nat), Frame (.linkDown port) [.io, .net] [] (andRaised [one (Reg.NET_STICKY port)])) ∧
  (∀ (turn : PortTurn), Frame (.transmitStart turn) [.cht, .crp, .bank, .io, .net] [nflCnt] (andRaised [one Reg.NFL_STICKY])) ∧
  (∀ (port : Nat), Frame (.transmitEnd port) [.bank, .io, .net] [netCnt port, nflCnt] raised) ∧
  (∀ (port : Nat), Frame (.obsFrame port) [.bank, .io, .net, .mach, .dsp, .pai] [dspCnt, one Reg.DSP_HELD_MAX, netCnt port,
    paiCnt] (andRaised [one Reg.DSP_STICKY, netSticky, one Reg.NFL_STICKY])) ∧
  (∀ (m : Nat), Frame (.obsEpochTimeout m) [.io, .mach] [] (andRaised [netSticky])) ∧
  (∀ (port : Nat), Frame (.posFrame port) [.bank, .io, .net, .mach, .dsp, .pai] [dspCnt, one Reg.DSP_HELD_MAX, netCnt port,
    paiCnt] (andRaised [one Reg.DSP_STICKY, netSticky, one Reg.NFL_STICKY])) ∧
  (∀ (port : Nat), Frame (.statusFrame port) [.bank, .io, .net, .mach, .dsp, .pai] [dspCnt, one Reg.DSP_HELD_MAX, netCnt port,
    paiCnt] (andRaised [one Reg.DSP_STICKY, netSticky, one Reg.NFL_STICKY])) ∧
  (∀ (port : Nat), Frame (.ackFrame port) [.bank, .io, .net, .mach, .dsp, .pai] [dspCnt, one Reg.DSP_HELD_MAX, netCnt port,
    paiCnt] (andRaised [one Reg.DSP_STICKY, netSticky, one Reg.NFL_STICKY])) ∧
  (∀ (port : Nat), Frame (.wrongGenFrame port) [.bank, .io, .net, .mach, .pai] [netCnt port, paiCnt] (andRaised [netSticky,
    one Reg.NFL_STICKY])) ∧
  (∀ (port : Nat), Frame (.opstopFrame port) nfParts (nfRegsAnd [netCnt port, paiCnt]) (nfStksAnd [netSticky]))

/-- What the commands of the parsers, Polestar, Chart, the dispatcher and the task board leave. -/
def Obligations.JobFrames : Prop :=
  (Frame .obsParse [.bank, .io, .net, .mach, .pst, .dsp, .pai] [dspCnt] (andRaised [netSticky, one Reg.NFL_STICKY, one
    Reg.PST_STICKY])) ∧
  (Frame .posParse [.mach, .bank, .io, .dsp] [dspCnt] (andRaised [one Reg.CHT_STICKY])) ∧
  (Frame .statusParse [.bank, .io, .net, .mach, .dsp, .nfl, .pai] [dspCnt] (andRaised [netSticky, one Reg.NFL_STICKY])) ∧
  (Frame .ackParse [.bank, .io, .dsp, .tsk, .nfl, .pai] [dspCnt, tskCnt] (andRaised [one Reg.TSK_STICKY])) ∧
  (∀ (e : Nat), Frame (.fixJob e) [.bank, .io, .pst, .dsp] [dspCnt] raised) ∧
  (Frame .fixGateOpen [.dsp] [] []) ∧
  (∀ (e : Nat), Frame (.fixJobComplete e) [.bank, .io, .ref, .net, .mach, .pst, .dsp, .pai] [dspCnt, pstCnt, one
    Reg.PST_LAT_MAX] (andRaised [netSticky, one Reg.NFL_STICKY, one Reg.PST_STICKY])) ∧
  (∀ (e : Nat), Frame (.fixMismatchEvent e) [.bank, .io, .recorder, .ref, .net, .mach, .pst, .dsp, .pai] [dspCnt, pstCnt, one
    Reg.PST_LAT_MAX, one Reg.PST_MISMATCH_CNT, one Reg.PST_QUAR, recCnt] (nfStksAnd [netSticky, one Reg.PST_STICKY])) ∧
  (∀ (w : Word), Frame (.pstSlotReset w) [.io, .pst, .pai] [] (andRaised [one Reg.PAI_STICKY])) ∧
  (Frame .pstClearLat [.bank] [one Reg.PST_LAT_MAX] []) ∧
  (∀ (w : Word), Frame (.pstInject w) [.bank, .io, .recorder, .ref, .net, .mach, .pst, .dsp, .pai] [dspCnt, pstCnt, one
    Reg.PST_LAT_MAX, one Reg.PST_MISMATCH_CNT, one Reg.PST_QUAR, recCnt] (nfStksAnd [netSticky, one Reg.PST_STICKY])) ∧
  (Frame .graphLoad [.io, .cht] [] (andRaised [one Reg.CHT_STICKY])) ∧
  (∀ (image : List Byte), Frame (.graphVerified image) [.io, .cht] [] (andRaised [one Reg.CHT_STICKY])) ∧
  (Frame .graphActivate [.io, .cht, .pai] [] (andRaised [one Reg.CHT_STICKY])) ∧
  (Frame .rebase [.io, .cht] [] (andRaised [one Reg.CHT_STICKY, one Reg.PAI_STICKY])) ∧
  (Frame .rebaseWindowEnd [.cht] [] []) ∧
  (Frame .chtClearLat [.bank] [one Reg.CHT_LAT_MAX] []) ∧
  (∀ (w : Word), Frame (.originWrite w) [.bank, .io, .cht, .pai] [one Reg.CHT_ORIGIN_HI, one Reg.CHT_ORIGIN_LO] (andRaised
    [one Reg.CHT_STICKY, one Reg.PAI_STICKY])) ∧
  (Frame .tickNearWrap [.io, .cht] [] (andRaised [one Reg.CHT_STICKY])) ∧
  (Frame .tickWrap [.cht] [] []) ∧
  (Frame .intervalReclaim [.io, .cht, .pai] [] (andRaised [one Reg.CHT_STICKY])) ∧
  (Frame .grantPeriodBoundary (nfPartsAnd [.crp, .acq, .tim, .ref, .mach, .dsp]) (nfRegsAnd [ofSets 0xFF, one
    Reg.ACQ_RSNAP_COUNT, chtCnt, one Reg.CHT_GRAPH_ID, one Reg.CHT_GRAPH_NSEG, one Reg.CHT_LAT_MAX, one Reg.CHT_ORIGIN_HI, one
    Reg.CHT_ORIGIN_LO, dspCnt, one Reg.DSP_HELD_MAX, allNetCnt]) (nfStksAnd [one Reg.CHT_STICKY, one Reg.CRP_STICKY, one
    Reg.DSP_STICKY, netSticky, one Reg.PST_STICKY, one Reg.PAI_STICKY, one Reg.TIM_STICKY])) ∧
  (Frame .ledger [.bank, .io, .cht, .dsp] [dspCnt, paiCnt] raised) ∧
  (Frame .ledgerDecision [.bank, .io, .acq, .net, .mach, .cht, .dsp, .pai] [one Reg.ACQ_RSNAP_COUNT, chtCnt, one
    Reg.CHT_LAT_MAX, dspCnt] (andRaised [one Reg.CHT_STICKY, netSticky, one Reg.NFL_STICKY])) ∧
  (Frame .routeSet [.bank, .io, .cht, .dsp, .pai] [dspCnt, paiCnt] raised) ∧
  (Frame .halo [.bank, .io, .cht, .dsp, .pai] [chtCnt, dspCnt] (andRaised [one Reg.CHT_STICKY])) ∧
  (Frame .lapse [.pai, .bank, .io, .cht, .dsp] [dspCnt, one Reg.DSP_HELD_MAX] (andRaised [one Reg.DSP_STICKY])) ∧
  (∀ (shard : Nat), Frame (.sramEccCorrected shard) [.bank, .io] [one Reg.CHT_ECC_CNT] raised) ∧
  (∀ (shard : Nat) (sram : Nat), Frame (.ledgerUe shard sram) nfParts (nfRegsAnd [one Reg.CHT_ECC_CNT]) (nfStksAnd [one
    Reg.CHT_STICKY])) ∧
  (∀ (ring : Nat) (entry : List Byte) (body : List Byte) (entryErr : Bool) (bodyErr : Bool), Frame (.commandFetch ring entry
    body entryErr bodyErr) [.bank, .io, .dsp] [dspCnt, one Reg.DSP_HELD_MAX] (andRaised [one Reg.DSP_STICKY])) ∧
  (Frame .intakeResume [.dsp] [] []) ∧
  (Frame .taskEnqueue [.bank, .io, .dsp, .tsk, .pai] [dspCnt, paiCnt, tskCnt] (andRaised [one Reg.TSK_STICKY])) ∧
  (Frame .taskCancel [.bank, .io, .dsp, .tsk, .pai] [dspCnt, paiCnt, tskCnt] (andRaised [one Reg.TSK_STICKY])) ∧
  (Frame .taskRequeue [.bank, .io, .dsp, .tsk, .pai] [dspCnt, paiCnt, tskCnt] (andRaised [one Reg.TSK_STICKY])) ∧
  (Frame .allot [.bank, .io, .net, .mach, .dsp, .tsk, .pai] [dspCnt, tskCnt] (andRaised [netSticky, one Reg.NFL_STICKY, one
    Reg.TSK_STICKY])) ∧
  (Frame .dspClearMax [.bank] [one Reg.DSP_HELD_MAX] []) ∧
  (Frame .pcieReset [.cht, .bank, .crp, .io, .acq, .net, .dsp] [] raised) ∧
  (Frame .dmaHold [.io] [] raised) ∧
  (Frame .dmaResume [.cht, .io] [] raised) ∧
  (∀ (ring : Nat) (h : Word), Frame (.doorbell ring h) [.io] [] raised) ∧
  (∀ (ring : Nat) (w : Word), Frame (.ringEnable ring w) [.io] [] raised) ∧
  (∀ (ring : Nat), Frame (.ringDisable ring) [.io] [] []) ∧
  (Frame .nop [.bank, .io, .dsp] [dspCnt] raised) ∧
  (Frame .machineSet (nfPartsAnd [.mach, .pst, .dsp, .tsk]) (nfRegsAnd [dspCnt, paiCnt, tskCnt]) (nfStksAnd [one
    Reg.TSK_STICKY])) ∧
  (Frame .machineGet [.bank, .io, .dsp] [dspCnt] raised) ∧
  (Frame .acqSearch [.bank, .io, .acq, .dsp, .free] [dspCnt] (andRaised [one Reg.ACQ_STICKY])) ∧
  (∀ (ring : Nat) (entry : List Byte) (body : List Byte) (frame : List Byte) (entryErr : Bool) (bodyErr : Bool) (frameErr :
    Bool), Frame (.netTx ring entry body frame entryErr bodyErr frameErr) [.io, .net] [] (andRaised [one Reg.NFL_STICKY])) ∧
  (∀ (g : Nat) (w : Word), Frame (.eventEnable g w) [.io] [] raised) ∧
  (∀ (v : Nat), Frame (.vectorModerationEnd v) [.io] [] raised) ∧
  (∀ (x : MsixWrite), Frame (.msixUnmask x) [.io] [] raised)

/-- What the commands of Nightfall leave. -/
def Obligations.NightfallFrames : Prop :=
  (∀ (ch : Nat), Frame (.stopInDebounce ch) nfParts nfRegs nfStks) ∧
  (Frame .discrepancy [.io, .nfl] [] (andRaised [one Reg.NFL_STICKY])) ∧
  (∀ (ch : Nat), Frame (.fbFault ch) nfParts nfRegs nfStks) ∧
  (∀ (w : Word), Frame (.nflTrigger w) nfParts nfRegs nfStks) ∧
  (Frame .latchMismatch nfParts nfRegs nfStks) ∧
  (Frame .clockCrossCheck nfParts nfRegs nfStks) ∧
  (Frame .safeSupplyMonitor [.nfl] [] []) ∧
  (∀ (w : Word), Frame (.nflWdgKick w) [.nfl] [] []) ∧
  (Frame .watchdogExpiry nfParts nfRegs nfStks) ∧
  (Frame .keyGraceExpiry nfParts nfRegs nfStks) ∧
  (Frame .nightfallFrameDue [.bank, .io, .net, .nfl, .pai] [nflCnt] (andRaised [one Reg.NFL_STICKY])) ∧
  (∀ (w : Word), Frame (.nflArm w) [.bank, .io, .nfl, .pai] [one Reg.NFL_REFUSE] (andRaised [one Reg.NFL_STICKY])) ∧
  (∀ (w : Word), Frame (.nflConfirm w) [.bank, .io, .recorder, .net, .nfl, .pai] [one Reg.NFL_REFUSE, recCnt] (nfStksAnd
    [netSticky])) ∧
  (Frame .releaseAcknowledged [.bank, .io, .recorder, .net, .nfl, .pai] [recCnt] (nfStksAnd [netSticky])) ∧
  (Frame .confirmAckTimeout [.bank, .io, .nfl, .pai] [one Reg.NFL_REFUSE] (andRaised [one Reg.NFL_STICKY])) ∧
  (Frame .armWindowEnd [.io, .nfl, .pai] [] (andRaised [one Reg.NFL_STICKY])) ∧
  (∀ (w : Word), Frame (.nflMrel w) [.bank, .io, .net, .mach, .nfl, .pai] [one Reg.NFL_REFUSE] (andRaised [netSticky, one
    Reg.NFL_STICKY])) ∧
  (Frame .releaseResend [.bank, .io, .net, .mach, .nfl, .pai] [nflCnt] (andRaised [netSticky, one Reg.NFL_STICKY])) ∧
  (∀ (ch : Nat), Frame (.stopInHealthy ch) [.nfl] [] []) ∧
  (Frame .safeSupplyRestored [.nfl] [] [])

/-- What the commands of the time unit leave. -/
def Obligations.TimeFrames : Prop :=
  (∀ (w : Word), Frame (.timIncrInt w) [.bank, .io, .tim] [one Reg.TIM_INCR_FRAC, one Reg.TIM_INCR_INT] (andRaised [one
    Reg.TIM_STICKY])) ∧
  (Frame .incrApply [.tim] [] []) ∧
  (∀ (w : Word), Frame (.timAdjCtrl w) (nfPartsAnd [.tim]) nfRegs (nfStksAnd [one Reg.TIM_STICKY])) ∧
  (Frame .adjustmentEnd [.tim] [] []) ∧
  (∀ (w : Word), Frame (.timSetNs w) (nfPartsAnd [.cor, .ing, .tim, .ref]) (nfRegsAnd [words Reg.TIM_TP_CFG 16]) (nfStksAnd
    [one Reg.TIM_STICKY, one Reg.TIM_TP_STICKY])) ∧
  (∀ (w : Word), Frame (.timLockReport w) (nfPartsAnd [.tim]) nfRegs (nfStksAnd [one Reg.TIM_STICKY])) ∧
  (∀ (w : Word), Frame (.timLossNs w) (nfPartsAnd [.tim, .free]) nfRegs (nfStksAnd [one Reg.TIM_STICKY])) ∧
  (∀ (w : Word), Frame (.timReturn w) (nfPartsAnd [.ing, .crp, .tim, .ref]) (nfRegsAnd [one Reg.TIM_STEP_AT_S, one
    Reg.TIM_STEP_NS]) (nfStksAnd [one Reg.TIM_STICKY])) ∧
  (Frame .holdoverEntry (nfPartsAnd [.ing, .crp, .tim, .ref]) nfRegs (nfStksAnd [one Reg.TIM_STICKY])) ∧
  (Frame .sigTimeout (nfPartsAnd [.ing, .crp, .tim, .ref]) nfRegs (nfStksAnd [one Reg.TIM_STICKY])) ∧
  (Frame .stepInstant (nfPartsAnd [.cor, .crp, .ing, .tim, .ref]) (nfRegsAnd [words Reg.TIM_TP_CFG 16]) (nfStksAnd [one
    Reg.TIM_STICKY, one Reg.TIM_TP_STICKY])) ∧
  (Frame .stepHoldEnd (nfPartsAnd [.tim]) nfRegs (nfStksAnd [one Reg.TIM_STICKY])) ∧
  (Frame .boundExceeded (nfPartsAnd [.tim]) nfRegs (nfStksAnd [one Reg.TIM_STICKY])) ∧
  (∀ (driftPs : Int), Frame (.timeSyncSymbol driftPs) [.bank, .io, .ing, .cor, .tim] [one Reg.TIM_BB_ERR, one
    Reg.TIM_SYNC_MISS] (andRaised [one Reg.TIM_STICKY])) ∧
  (∀ (n : Nat), Frame (.ppsEdge n) [.io, .tim] [] []) ∧
  (∀ (k : Nat) (w : Word), Frame (.tpEn k w) [.bank, .io, .tim] [one (Reg.TIM_TP_CFG k)] (andRaised [one Reg.TIM_STICKY, one
    Reg.TIM_TP_STICKY])) ∧
  (∀ (k : Nat), Frame (.tpPulse k) [.bank, .io, .tim] [one (Reg.TIM_TP_CFG k)] []) ∧
  (∀ (out : Nat), Frame (.pulseWidthEnd out) [.io, .tim] [] []) ∧
  (∀ (port : Nat) (t1 : Int) (t2 : Int) (t3 : Int) (t4 : Int), Frame (.peerDelayExchange port t1 t2 t3 t4) [.bank, .io,
    .recorder, .tim] [recCnt] (andRaised [one Reg.REC_STICKY, one (Reg.TIM_PORT_STICKY port)])) ∧
  (∀ (port : Nat), Frame (.pathAsymClear port) [.io, .tim] [] (andRaised [one (Reg.TIM_PORT_STICKY port)])) ∧
  (Frame .timNowCapture [.bank] [] []) ∧
  (Frame .rtcLoad [.tim, .key] [] [])

/-- What the commands of the pair leave. -/
def Obligations.PairFrames : Prop :=
  (Frame .heartbeatSend [.io, .pai] [] raised) ∧
  (∀ (frame : List Byte) (crcOk : Bool), Frame (.heartbeatReceive frame crcOk) (nfPartsAnd [.cor, .crp, .ing, .tim, .ref,
    .mach, .dsp]) (nfRegsAnd [dspCnt, one Reg.DSP_HELD_MAX, paiCnt, one Reg.PAI_PEER_VER, words Reg.TIM_TP_CFG 16]) (nfStksAnd
    [one Reg.DSP_STICKY, one Reg.PAI_STICKY, one Reg.TIM_STICKY, one Reg.TIM_TP_STICKY])) ∧
  (Frame .pulseBurstSend [.io, .pai] [] []) ∧
  (∀ (cells : BitVec 6), Frame (.pulseBurstReceive cells) [.bank, .pai] [paiCnt] []) ∧
  (Frame .pathAFail (nfPartsAnd [.ing, .crp, .tim, .ref, .mach, .dsp]) (nfRegsAnd [dspCnt, one Reg.DSP_HELD_MAX, paiCnt])
    (nfStksAnd [one Reg.DSP_STICKY, one Reg.PAI_STICKY, one Reg.TIM_STICKY])) ∧
  (Frame .pathBFail (nfPartsAnd [.ing, .crp, .tim, .ref, .mach, .dsp]) (nfRegsAnd [dspCnt, one Reg.DSP_HELD_MAX, paiCnt])
    (nfStksAnd [one Reg.DSP_STICKY, one Reg.PAI_STICKY, one Reg.TIM_STICKY])) ∧
  (∀ (high : Bool), Frame (.claimSample high) (nfPartsAnd [.ing, .crp, .acq, .tim, .ref, .mach, .pst, .dsp]) (nfRegsAnd
    [dspCnt, one Reg.DSP_HELD_MAX, paiCnt]) (nfStksAnd [one Reg.DSP_STICKY, one Reg.PAI_STICKY, one Reg.TIM_STICKY])) ∧
  (Frame .claimNRelease [.io, .pai] [] []) ∧
  (Frame .splitClaimLow nfParts nfRegs (nfStksAnd [one Reg.PAI_STICKY])) ∧
  (Frame .splitClaimStuck nfParts nfRegs (nfStksAnd [one Reg.PAI_STICKY])) ∧
  (∀ (number : Nat) (r : MirrorRec), Frame (.mirrorRecord number r) (nfPartsAnd [.ing, .crp, .tim, .ref, .mach, .pst, .dsp,
    .tsk]) (nfRegsAnd [recordRegs r, one Reg.CHT_ORIGIN_HI, one Reg.CHT_ORIGIN_LO, dspCnt, one Reg.DSP_HELD_MAX, allNetCnt,
    paiCnt, one Reg.TIM_STEP_AT_S, one Reg.TIM_STEP_NS]) (nfStksAnd [one Reg.CHT_STICKY, one Reg.DSP_STICKY, netSticky, one
    Reg.PAI_STICKY, one Reg.TIM_STICKY, one Reg.UPD_STICKY])) ∧
  (∀ (number : Nat), Frame (.mirrorAck number) [.ing, .io, .crp, .acq, .ref, .net, .pst, .cht, .dsp, .nfl, .pai] [] (andRaised
    [one Reg.NFL_STICKY, one Reg.PAI_STICKY])) ∧
  (Frame .mirrorAckTimeout [.bank, .io, .cht, .pai] [paiCnt] (andRaised [one Reg.PAI_STICKY])) ∧
  (Frame .mirrorSyncComplete [.bank, .io, .upd, .net, .nfl, .pai] [paiCnt] (andRaised [one Reg.PAI_STICKY])) ∧
  (Frame .handoverAckTimeout [.io, .pai] [] (andRaised [one Reg.PAI_STICKY])) ∧
  (Frame .yield [.io, .pai] [] (andRaised [one Reg.PAI_STICKY])) ∧
  (Frame .resync [.io, .pai] [] raised) ∧
  (Frame .peerWaitExpiry (nfPartsAnd [.ing, .crp, .tim, .ref, .mach, .dsp]) (nfRegsAnd [dspCnt, one Reg.DSP_HELD_MAX, paiCnt])
    (nfStksAnd [one Reg.DSP_STICKY, one Reg.PAI_STICKY, one Reg.TIM_STICKY]))

/-- R396 to R400, R412, R419: what the commands of clocks, resets, modes, power and configuration leave. What a reset of
a region or of the device keeps is log entries 37, 49 and 91. -/
def Obligations.DeviceFrames : Prop :=
  (∀ (die : Nat), Frame (.zenithLock die) [.ing, .crp, .nfl] [] []) ∧
  (Frame .refLost (nfPartsAnd [.crp]) nfRegs (nfStksAnd [one Reg.CRP_STICKY])) ∧
  (Frame .flUnlock (nfPartsAnd [.crp]) nfRegs (nfStksAnd [one Reg.CRP_STICKY])) ∧
  (ResetFrame .bbUnlock [.bank, .io, .recorder, .crp, .ing, .cor, .acq, .tim] (allCorrRegs ++ [between 0x300000 0x400000])
    [recCnt] (andRaised [one Reg.CRP_STICKY, one Reg.REC_STICKY])) ∧
  (Frame .bbRelock [.crp, .ing] [] []) ∧
  (∀ (which : Nat), Frame (.auxUnlock which) [.io, .recorder, .crp, .net] [] (andRaised [one Reg.CRP_STICKY, netSticky, one
    Reg.REC_STICKY])) ∧
  (∀ (primary : Bool) (bootSel : Nat) (x : Supply), ResetFrame (.powerOn primary bootSel x) (nfPartsAnd [.free, .crp, .ing,
    .cor, .acq, .tim, .ref, .mach, .pst, .dsp, .tsk, .key]) [allBut []] nfRegs (nfStksAnd [one Reg.KEY_STICKY, one
    Reg.PAI_STICKY])) ∧
  (Frame .bootComplete (nfPartsAnd [.crp, .ing, .acq, .ref, .pst, .dsp, .key]) (nfRegsAnd startRegs) (nfStksAnd [one
    Reg.CRP_PWR_STICKY, one Reg.KEY_STICKY, one Reg.PAI_STICKY, one Reg.UPD_STICKY])) ∧
  (∀ (lowNs : Nat), ResetFrame (.resetN lowNs) (nfPartsAnd [.free, .crp, .ing, .cor, .acq, .tim, .ref, .mach, .pst, .dsp,
    .tsk, .key]) [allBut [Reg.KEY_TAMP_CFG, Reg.KEY_TAMP_TIMING]] nfRegs (nfStksAnd [one Reg.KEY_STICKY, one Reg.PAI_STICKY])) ∧
  (∀ (lowNs : Nat), ResetFrame (.brownOut lowNs) (nfPartsAnd [.free, .crp, .ing, .cor, .acq, .tim, .ref, .mach, .pst, .dsp,
    .tsk, .key]) [allBut [Reg.KEY_TAMP_CFG, Reg.KEY_TAMP_TIMING]] nfRegs (nfStksAnd [one Reg.KEY_STICKY, one Reg.PAI_STICKY])) ∧
  (∀ (w : Word), ResetFrame (.deviceReset w) (nfPartsAnd [.free, .crp, .ing, .cor, .acq, .tim, .ref, .mach, .pst, .dsp, .tsk,
    .key]) [allBut [Reg.KEY_TAMP_CFG, Reg.KEY_TAMP_TIMING]] nfRegs (nfStksAnd [one Reg.CRP_STICKY, one Reg.KEY_STICKY, one
    Reg.PAI_STICKY])) ∧
  (∀ (w : Word), ResetFrame (.corrReset w) [.bank, .crp, .cor, .acq] [corrRegs w] [] []) ∧
  (∀ (w : Word), ResetFrame (.acqReset w) [.bank, .io, .crp, .acq] [acqRegs] [] []) ∧
  (∀ (w : Word), ResetFrame (.fixReset w) [.bank, .io, .crp, .pst, .dsp] [block 0xA00000 0xC00000 [Reg.PST_MISMATCH_CNT]] []
    (andRaised [one Reg.CRP_STICKY])) ∧
  (∀ (w : Word), ResetFrame (.chartReset w) [.bank, .io, .crp, .cht, .dsp] [block 0xC00000 0xE00000 []] [] (andRaised [one
    Reg.CRP_STICKY])) ∧
  (∀ (w : Word), ResetFrame (.netReset w) (nfPartsAnd [.ing, .crp, .tim, .ref, .mach, .dsp]) [portRegs] (nfRegsAnd [dspCnt,
    one Reg.DSP_HELD_MAX, paiCnt]) (nfStksAnd [one Reg.DSP_STICKY, one Reg.PAI_STICKY, one Reg.TIM_STICKY])) ∧
  (∀ (region : Nat), Frame (.regionResetDone region) [.crp] [] []) ∧
  (∀ (w : Word), Frame (.crpNetRst w) [.bank, .io, .crp, .net, .cht] [nflCnt] (andRaised [one Reg.CRP_STICKY, netSticky])) ∧
  (∀ (k : Nat) (w : Word), Frame (.fifoDrop k w) [.bank, .io, .crp, .net, .cht] [netCnt k, nflCnt] raised) ∧
  (∀ (k : Nat), Frame (.fifoUe k) [.bank, .io, .recorder, .crp, .net, .cht] [netCnt k, nflCnt, recCnt] (andRaised [one
    Reg.CRP_STICKY, one Reg.REC_STICKY])) ∧
  (∀ (w : Word), Frame (.targetDormant w) [.bank, .io, .recorder, .crp] [recCnt] (andRaised [one Reg.CRP_PWR_STICKY, one
    Reg.REC_STICKY])) ∧
  (∀ (w : Word), Frame (.targetSurvey w) [.ing, .io, .crp, .acq, .ref, .net, .pst, .cht, .dsp, .nfl, .pai] [] (andRaised [one
    Reg.CRP_PWR_STICKY, one Reg.PAI_STICKY])) ∧
  (∀ (w : Word), Frame (.targetServe w) [.ing, .io, .crp, .acq, .ref, .net, .pst, .cht, .dsp, .nfl, .pai] [] (andRaised [one
    Reg.CRP_PWR_STICKY, one Reg.PAI_STICKY])) ∧
  (∀ (w : Word), Frame (.targetSnapshot w) (nfPartsAnd [.ing, .crp, .acq, .ref]) nfRegs (nfStksAnd [one Reg.CRP_PWR_STICKY])) ∧
  (∀ (w : Word), Frame (.targetMaintain w) (nfPartsAnd [.ing, .crp, .tim, .ref]) nfRegs (nfStksAnd [one Reg.CRP_PWR_STICKY,
    one Reg.TIM_STICKY])) ∧
  (ResetFrame .snapshotPowerDown (nfPartsAnd [.crp, .cor, .acq, .ref, .mach, .pst, .dsp, .tsk]) [notInSnapshot] [recCnt]
    (andRaised [one Reg.REC_STICKY])) ∧
  (ResetFrame .snapshotWake (nfPartsAnd [.crp, .cor, .acq, .ref, .mach, .pst, .dsp, .tsk, .key]) [notInSnapshot] nfRegs
    (nfStksAnd [one Reg.KEY_STICKY, one Reg.PAI_STICKY])) ∧
  (Frame .wakeN [.io, .crp] [] []) ∧
  (Frame .rtcAlarm [.io, .crp] [] []) ∧
  (ResetFrame .mainRailsLost (nfPartsAnd [.free, .crp, .ing, .cor, .acq, .tim, .ref, .mach, .pst, .dsp, .tsk, .key]) [allBut
    [Reg.KEY_TAMP_CFG, Reg.KEY_TAMP_TIMING]] [] []) ∧
  (∀ (w : Word), ResetFrame (.powerRequest w) (nfPartsAnd [.ing, .crp, .cor, .acq, .tim, .ref, .mach, .dsp]) (allCorrRegs ++
    [acqRegs, portRegs]) (nfRegsAnd [one Reg.CRP_PWR_REQ, dspCnt, one Reg.DSP_HELD_MAX, paiCnt]) (nfStksAnd [one
    Reg.CRP_PWR_STICKY, one Reg.DSP_STICKY, one Reg.PAI_STICKY, one Reg.TIM_STICKY])) ∧
  (∀ (w : Word), Frame (.cfgSwap w) (nfPartsAnd [.crp, .tim, .ref, .dsp]) (nfRegsAnd [ofSets (BitVec.ofNat 8 (bits w 7 0)),
    dspCnt, one Reg.DSP_HELD_MAX, allNetCnt]) (nfStksAnd [one Reg.CRP_STICKY, one Reg.DSP_STICKY, netSticky, one
    Reg.PST_STICKY, one Reg.PAI_STICKY, one Reg.TIM_STICKY])) ∧
  (Frame .refInRestored [.crp, .nfl] [] []) ∧
  (∀ (pd : Nat), ResetFrame (.powerRampDone pd) [.bank, .io, .crp, .cor, .acq, .net, .cht] (allCorrRegs ++ [acqRegs,
    portRegs]) [nflCnt] raised) ∧
  (Frame .brownOutEnd [.crp] [] [])

/-- What the commands of images, keys, the recorder and the performance counters leave. -/
def Obligations.StoreFrames : Prop :=
  (∀ (w : Word), Frame (.confirm w) [.upd] [] []) ∧
  (∀ (w : Word), Frame (.raiseFloor w) [.io, .upd] [] (andRaised [one Reg.UPD_STICKY])) ∧
  (∀ (w : Word), Frame (.pushPeer w) [.io, .upd] [] (andRaised [one Reg.UPD_STICKY])) ∧
  (∀ (w : Word), Frame (.cfgSave w) [.upd] [] []) ∧
  (Frame .stageOpen [.bank, .io, .upd, .dsp] [dspCnt] raised) ∧
  (∀ (totalLen : Nat), Frame (.peerOpenRecord totalLen) [.crp, .io, .upd] [] []) ∧
  (∀ (data : List Byte), Frame (.stageBlock data) [.bank, .io, .upd, .dsp] [dspCnt] raised) ∧
  (∀ (session : Nat), Frame (.stageCommit session) [.bank, .io, .upd, .dsp] [dspCnt] raised) ∧
  (Frame .stageAbort [.bank, .io, .upd, .dsp] [dspCnt] raised) ∧
  (Frame .sessionTimeout [.io, .upd] [] (andRaised [one Reg.UPD_STICKY])) ∧
  (∀ (w : Word) (verified : Bool), Frame (.otpProgram w verified) [.io, .upd] [] (andRaised [one Reg.OTP_STICKY])) ∧
  (∀ (w : Word), Frame (.provision w) (nfPartsAnd [.key]) nfRegs (nfStksAnd [one Reg.KEY_STICKY, one Reg.PAI_STICKY])) ∧
  (∀ (w : Word), Frame (.retire w) (nfPartsAnd [.key]) nfRegs (nfStksAnd [one Reg.KEY_STICKY, one Reg.PAI_STICKY])) ∧
  (Frame .keyWrite (nfPartsAnd [.dsp, .key]) (nfRegsAnd [dspCnt]) (nfStksAnd [one Reg.KEY_STICKY, one Reg.PAI_STICKY])) ∧
  (Frame .keyDerive (nfPartsAnd [.dsp, .key]) (nfRegsAnd [dspCnt]) (nfStksAnd [one Reg.KEY_STICKY, one Reg.PAI_STICKY])) ∧
  (Frame .keyZeroise (nfPartsAnd [.dsp, .key]) (nfRegsAnd [dspCnt]) (nfStksAnd [one Reg.KEY_STICKY, one Reg.PAI_STICKY])) ∧
  (Frame .setLc (nfPartsAnd [.dsp, .key]) (nfRegsAnd [dspCnt]) (nfStksAnd [one Reg.KEY_STICKY, one Reg.PAI_STICKY])) ∧
  (Frame .replaceOwner (nfPartsAnd [.dsp, .key]) (nfRegsAnd [dspCnt]) (nfStksAnd [one Reg.KEY_STICKY, one Reg.PAI_STICKY])) ∧
  (Frame .attest [.bank, .io, .dsp] [dspCnt] raised) ∧
  (∀ (src : Nat) (under : Bool), ResetFrame (.tamperEvent src under) (nfPartsAnd [.free, .ing, .crp, .cor, .acq, .tim, .ref,
    .mach, .pst, .dsp, .tsk, .key]) [notInSnapshot] (nfRegsAnd startRegs) (nfStksAnd [one Reg.CHT_STICKY, one
    Reg.CRP_PWR_STICKY, one Reg.KEY_STICKY, one Reg.PAI_STICKY, one Reg.TIM_STICKY, one Reg.UPD_STICKY])) ∧
  (∀ (slot : Nat), Frame (.keyRamUe slot) (nfPartsAnd [.key]) nfRegs (nfStksAnd [one Reg.KEY_STICKY, one Reg.PAI_STICKY])) ∧
  (∀ (slot : Nat), Frame (.keyRestore slot) (nfPartsAnd [.key]) nfRegs (nfStksAnd [one Reg.PAI_STICKY])) ∧
  (Frame .vbatLow (nfPartsAnd [.key]) nfRegs (nfStksAnd [one Reg.KEY_STICKY, one Reg.PAI_STICKY])) ∧
  (∀ (instr : Nat), Frame (.debugAccess instr) [.bank, .io, .recorder] [recCnt] (andRaised [one Reg.KEY_STICKY, one
    Reg.REC_STICKY])) ∧
  (Frame .rtcCapture [.key] [] []) ∧
  (Frame .recordCommit [.bank, .io, .recorder] [recCnt] (andRaised [one Reg.REC_STICKY])) ∧
  (Frame .foldWriteBack [.recorder] [] []) ∧
  (∀ (phys : Nat) (x : SegCopy), Frame (.segmentRetired phys x) [.bank, .io, .recorder] [recCnt] (andRaised [one
    Reg.REC_STICKY])) ∧
  (∀ (cause : Nat), Frame (.lifeboat cause) [.io, .recorder] [] (andRaised [one Reg.REC_STICKY])) ∧
  (∀ (w : Word), Frame (.recReadSeq w) [.io, .recorder] [] (andRaised [one Reg.REC_STICKY])) ∧
  (Frame .recNonce [.bank, .io, .recorder, .dsp, .free] [dspCnt] raised) ∧
  (Frame .recClear [.bank, .io, .recorder, .dsp] [dspCnt, recCnt] (andRaised [one Reg.REC_STICKY])) ∧
  (∀ (k : Nat), Frame (.counterOverflow k) [.io] [] raised) ∧
  (∀ (k : Nat) (w : CtrWrite), Frame (.prfHiWrite k w) [.io] [] raised) ∧
  (∀ (w : Word), Frame (.freeze w) [.io] [] []) ∧
  (∀ (k : Nat), Frame (.prfPairCapture k) [.io] [] []) ∧
  (∀ (block : Option Nat) (crc : Nat) (data : List Byte), Frame (.peerStageRecord block crc data) [.crp, .io, .upd] [] [])
end

