-- ==== Sys2Proof/Laws/Crypto.lean ====
section
/-! SUPPORT. The lengths of what the cryptographic functions answer, and a tag that a receiver takes. -/
namespace Sys2Proof.Machine

@[simp] theorem leBytes_length : ∀ n v : Nat, (leBytes n v).length = n
  | 0, _ => rfl
  | n + 1, v => by simp [leBytes, leBytes_length n]

@[simp] theorem beBytes_length (n v : Nat) : (beBytes n v).length = n := by simp [beBytes]

/-- The working variables of a hash stay eight. -/
theorem shaRounds_length (k : ShaKind) : ∀ (l : List (Nat × Nat)) (v : List Nat), v.length = 8 → (l.foldl (shaRound k) v).length = 8
  | [], _, h => h
  | x :: l, v, _ => shaRounds_length k l (shaRound k v x) (by simp [shaRound])

/-- So do the words of a hash value. -/
theorem shaBlocks_length (k : ShaKind) : ∀ (n : Nat) (h : List Nat) (m : List Byte), h.length = 8 → (shaBlocks k n h m).length = 8
  | 0, _, _, e => e
  | n + 1, h, m, e => shaBlocks_length k n _ _ (by simp [shaBlock, e, shaRounds_length])

theorem length_flatMap_const {α β : Type} (f : α → List β) (w : Nat) (h : ∀ a, (f a).length = w) :
    ∀ l : List α, (l.flatMap f).length = w * l.length
  | [] => rfl
  | a :: l => by simp [h, length_flatMap_const f w h l, Nat.mul_succ, Nat.add_comm]

/-- SHA-256 answers 32 octets. -/
@[simp] theorem sha256_length (m : List Byte) : (sha256 m).length = 32 := by
  simp [sha256, sha, length_flatMap_const _ 4 (beBytes_length 4), shaBlocks_length, sha256Kind, shaH256]

/-- SHA-384 answers 48. -/
@[simp] theorem sha384_length (m : List Byte) : (sha384 m).length = 48 := by
  simp [sha384, sha, length_flatMap_const _ 8 (beBytes_length 8), shaBlocks_length, sha512Kind, shaH384]

/-- HMAC-SHA-256 answers 32. -/
@[simp] theorem hmacSha256_length (k m : List Byte) : (hmacSha256 k m).length = 32 := by simp [hmacSha256]

@[simp] theorem aesMix_length : ∀ s, (aesMix s).length = s.length
  | [] => rfl
  | [_] => rfl
  | [_, _] => rfl
  | [_, _, _] => rfl
  | _ :: _ :: _ :: _ :: s => by simp [aesMix, aesMixCol, aesMix_length s]

/-- The rounds keep sixteen octets. -/
theorem aesRounds_length : ∀ (ks : List (List Nat)) (s : List Nat), (∀ k ∈ ks, k.length = 16) → s.length = 16 →
    (aesRounds ks s).length = 16
  | [], _, _, h => h
  | [k], s, hk, _ => by simp [aesRounds, natXor, aesShift, hk k (by simp)]
  | k :: k' :: ks, s, hk, _ => by
    rw [aesRounds]
    · exact aesRounds_length (k' :: ks) _ (fun x hx => hk x (List.mem_cons_of_mem _ hx)) (by simp [natXor, aesShift, hk k (by simp)])
    · simp

/-- A block, with round keys of sixteen octets, has sixteen octets. -/
theorem aesBlock_length (key b : List Byte) (hk : ∀ k ∈ aesKeys key, k.length = 16) (hn : aesKeys key ≠ []) (hb : b.length = 16) :
    (aesBlock key b).length = 16 := by
  obtain ⟨k, ks, h⟩ := List.exists_cons_of_ne_nil hn
  rw [h] at hk
  simp only [aesBlock, aesEnc, h, List.length_map, List.drop_succ_cons, List.drop_zero, List.headD_cons]
  exact aesRounds_length ks _ (fun x hx => hk x (List.mem_cons_of_mem _ hx)) (by simp [natXor, hb, hk k (by simp)])

@[simp] theorem padTo_length (n : Nat) (b : List Byte) : (padTo n b).length = n := by simp [padTo, zeros]

/-- The chain of a CMAC keeps sixteen octets. -/
theorem cmacChain_length (key k1 k2 : List Byte) (hk : ∀ k ∈ aesKeys key, k.length = 16) (hn : aesKeys key ≠ []) (h1 : k1.length = 16)
    (h2 : k2.length = 16) : ∀ (n : Nat) (x m : List Byte), x.length = 16 → (cmacChain key k1 k2 n x m).length = 16
  | 0, _, _, hx => hx
  | n + 1, x, m, hx => by
    have hb (b : List Byte) := aesBlock_length key b hk hn
    simp only [cmacChain]
    split
    · exact hb _ (by simp [byteXor, hx, h2])
    · split
      · exact hb _ (by simp [byteXor, *])
      · exact cmacChain_length key k1 k2 hk hn h1 h2 n _ _ (hb _ (by simp [byteXor, hx]; omega))

/-- AES-CMAC answers sixteen octets. -/
theorem aesCmac_length (key m : List Byte) (hk : ∀ k ∈ aesKeys key, k.length = 16) (hn : aesKeys key ≠ []) :
    (aesCmac key m).length = 16 :=
  cmacChain_length key _ _ hk hn (by simp [cmacDouble]) (by simp [cmacDouble]) _ _ _ (by simp [zeros])

/-- A frame that ends in the tag of what stands before it passes the tag's check (R154). -/
theorem tagOk_tagged (key b : List Byte) (hk : ∀ k ∈ aesKeys key, k.length = 16) (hn : aesKeys key ≠ []) :
    tagOk key (b ++ tag key b 8) = true := by
  have h : (tag key b 8).length = 8 := by simp [tag, aesCmac_length key b hk hn]
  simp [tagOk, h]

end Sys2Proof.Machine
end

