-- ==== Sys2Proof/Laws/Ops.lean ====
section
/-! SUPPORT. What each shared operation leaves as it was: every part of the state that it can never change. -/
namespace Sys2Proof.Machine
@[simp] theorem sticky_keeps (a : Nat) (bit : Nat) (s : State) :
    (sticky a bit s).bank = s.bank ∧ (sticky a bit s).recorder = s.recorder ∧ (sticky a bit s).crp = s.crp ∧
    (sticky a bit s).upd = s.upd ∧ (sticky a bit s).ing = s.ing ∧ (sticky a bit s).cor = s.cor ∧
    (sticky a bit s).acq = s.acq ∧ (sticky a bit s).tim = s.tim ∧ (sticky a bit s).ref = s.ref ∧
    (sticky a bit s).net = s.net ∧ (sticky a bit s).mach = s.mach ∧ (sticky a bit s).pst = s.pst ∧
    (sticky a bit s).cht = s.cht ∧ (sticky a bit s).dsp = s.dsp ∧ (sticky a bit s).tsk = s.tsk ∧
    (sticky a bit s).nfl = s.nfl ∧ (sticky a bit s).pai = s.pai ∧ (sticky a bit s).key = s.key ∧
    (sticky a bit s).grade = s.grade ∧ (sticky a bit s).free = s.free ∧ (sticky a bit s).pending = s.pending := by and_intros <;> rfl

@[simp] theorem stickyIf_keeps (c : Bool) (a : Nat) (bit : Nat) (s : State) :
    (stickyIf c a bit s).bank = s.bank ∧ (stickyIf c a bit s).recorder = s.recorder ∧
    (stickyIf c a bit s).crp = s.crp ∧ (stickyIf c a bit s).upd = s.upd ∧ (stickyIf c a bit s).ing = s.ing ∧
    (stickyIf c a bit s).cor = s.cor ∧ (stickyIf c a bit s).acq = s.acq ∧ (stickyIf c a bit s).tim = s.tim ∧
    (stickyIf c a bit s).ref = s.ref ∧ (stickyIf c a bit s).net = s.net ∧ (stickyIf c a bit s).mach = s.mach ∧
    (stickyIf c a bit s).pst = s.pst ∧ (stickyIf c a bit s).cht = s.cht ∧ (stickyIf c a bit s).dsp = s.dsp ∧
    (stickyIf c a bit s).tsk = s.tsk ∧ (stickyIf c a bit s).nfl = s.nfl ∧ (stickyIf c a bit s).pai = s.pai ∧
    (stickyIf c a bit s).key = s.key ∧ (stickyIf c a bit s).grade = s.grade ∧ (stickyIf c a bit s).free = s.free ∧
    (stickyIf c a bit s).pending = s.pending := by and_intros <;> unfold stickyIf <;> split <;> simp

@[simp] theorem raise_keeps (src : Nat) (s : State) :
    (raise src s).bank = s.bank ∧ (raise src s).recorder = s.recorder ∧ (raise src s).crp = s.crp ∧
    (raise src s).upd = s.upd ∧ (raise src s).ing = s.ing ∧ (raise src s).cor = s.cor ∧ (raise src s).acq = s.acq ∧
    (raise src s).tim = s.tim ∧ (raise src s).ref = s.ref ∧ (raise src s).net = s.net ∧ (raise src s).mach = s.mach ∧
    (raise src s).pst = s.pst ∧ (raise src s).cht = s.cht ∧ (raise src s).dsp = s.dsp ∧ (raise src s).tsk = s.tsk ∧
    (raise src s).nfl = s.nfl ∧ (raise src s).pai = s.pai ∧ (raise src s).key = s.key ∧
    (raise src s).grade = s.grade ∧ (raise src s).free = s.free ∧ (raise src s).pending = s.pending := by and_intros <;> rfl

@[simp] theorem notice_keeps (g : Nat) (s : State) :
    (notice g s).bank = s.bank ∧ (notice g s).recorder = s.recorder ∧ (notice g s).crp = s.crp ∧
    (notice g s).upd = s.upd ∧ (notice g s).ing = s.ing ∧ (notice g s).cor = s.cor ∧ (notice g s).acq = s.acq ∧
    (notice g s).tim = s.tim ∧ (notice g s).ref = s.ref ∧ (notice g s).net = s.net ∧ (notice g s).mach = s.mach ∧
    (notice g s).pst = s.pst ∧ (notice g s).cht = s.cht ∧ (notice g s).dsp = s.dsp ∧ (notice g s).tsk = s.tsk ∧
    (notice g s).nfl = s.nfl ∧ (notice g s).pai = s.pai ∧ (notice g s).key = s.key ∧ (notice g s).grade = s.grade ∧
    (notice g s).free = s.free ∧ (notice g s).pending = s.pending := by and_intros <;> rfl

@[simp] theorem perf_keeps (ev : Nat) (n : Nat) (s : State) :
    (perf ev n s).bank = s.bank ∧ (perf ev n s).recorder = s.recorder ∧ (perf ev n s).crp = s.crp ∧
    (perf ev n s).upd = s.upd ∧ (perf ev n s).ing = s.ing ∧ (perf ev n s).cor = s.cor ∧ (perf ev n s).acq = s.acq ∧
    (perf ev n s).tim = s.tim ∧ (perf ev n s).ref = s.ref ∧ (perf ev n s).net = s.net ∧ (perf ev n s).mach = s.mach ∧
    (perf ev n s).pst = s.pst ∧ (perf ev n s).cht = s.cht ∧ (perf ev n s).dsp = s.dsp ∧ (perf ev n s).tsk = s.tsk ∧
    (perf ev n s).nfl = s.nfl ∧ (perf ev n s).pai = s.pai ∧ (perf ev n s).key = s.key ∧
    (perf ev n s).grade = s.grade ∧ (perf ev n s).free = s.free ∧ (perf ev n s).pending = s.pending := by and_intros <;> rfl

@[simp] theorem emit_keeps (o : Output) (s : State) :
    (emit o s).bank = s.bank ∧ (emit o s).recorder = s.recorder ∧ (emit o s).crp = s.crp ∧ (emit o s).upd = s.upd ∧
    (emit o s).ing = s.ing ∧ (emit o s).cor = s.cor ∧ (emit o s).acq = s.acq ∧ (emit o s).tim = s.tim ∧
    (emit o s).ref = s.ref ∧ (emit o s).net = s.net ∧ (emit o s).mach = s.mach ∧ (emit o s).pst = s.pst ∧
    (emit o s).cht = s.cht ∧ (emit o s).dsp = s.dsp ∧ (emit o s).tsk = s.tsk ∧ (emit o s).nfl = s.nfl ∧
    (emit o s).pai = s.pai ∧ (emit o s).key = s.key ∧ (emit o s).grade = s.grade ∧ (emit o s).free = s.free ∧
    (emit o s).pending = s.pending := by and_intros <;> rfl

@[simp] theorem unstick_keeps (a : Nat) (bit : Nat) (s : State) :
    (unstick a bit s).bank = s.bank ∧ (unstick a bit s).recorder = s.recorder ∧ (unstick a bit s).crp = s.crp ∧
    (unstick a bit s).upd = s.upd ∧ (unstick a bit s).ing = s.ing ∧ (unstick a bit s).cor = s.cor ∧
    (unstick a bit s).acq = s.acq ∧ (unstick a bit s).tim = s.tim ∧ (unstick a bit s).ref = s.ref ∧
    (unstick a bit s).net = s.net ∧ (unstick a bit s).mach = s.mach ∧ (unstick a bit s).pst = s.pst ∧
    (unstick a bit s).cht = s.cht ∧ (unstick a bit s).dsp = s.dsp ∧ (unstick a bit s).tsk = s.tsk ∧
    (unstick a bit s).nfl = s.nfl ∧ (unstick a bit s).pai = s.pai ∧ (unstick a bit s).key = s.key ∧
    (unstick a bit s).grade = s.grade ∧ (unstick a bit s).free = s.free ∧ (unstick a bit s).pending = s.pending := by and_intros <;> rfl

@[simp] theorem wr_keeps (a : Nat) (w : Word) (s : State) :
    (wr a w s).io = s.io ∧ (wr a w s).recorder = s.recorder ∧ (wr a w s).crp = s.crp ∧ (wr a w s).upd = s.upd ∧
    (wr a w s).ing = s.ing ∧ (wr a w s).cor = s.cor ∧ (wr a w s).acq = s.acq ∧ (wr a w s).tim = s.tim ∧
    (wr a w s).ref = s.ref ∧ (wr a w s).net = s.net ∧ (wr a w s).mach = s.mach ∧ (wr a w s).pst = s.pst ∧
    (wr a w s).cht = s.cht ∧ (wr a w s).dsp = s.dsp ∧ (wr a w s).tsk = s.tsk ∧ (wr a w s).nfl = s.nfl ∧
    (wr a w s).pai = s.pai ∧ (wr a w s).key = s.key ∧ (wr a w s).grade = s.grade ∧ (wr a w s).free = s.free ∧
    (wr a w s).pending = s.pending := by and_intros <;> rfl

@[simp] theorem wrShadow_keeps (a : Nat) (w : Word) (s : State) :
    (wrShadow a w s).io = s.io ∧ (wrShadow a w s).recorder = s.recorder ∧ (wrShadow a w s).crp = s.crp ∧
    (wrShadow a w s).upd = s.upd ∧ (wrShadow a w s).ing = s.ing ∧ (wrShadow a w s).cor = s.cor ∧
    (wrShadow a w s).acq = s.acq ∧ (wrShadow a w s).tim = s.tim ∧ (wrShadow a w s).ref = s.ref ∧
    (wrShadow a w s).net = s.net ∧ (wrShadow a w s).mach = s.mach ∧ (wrShadow a w s).pst = s.pst ∧
    (wrShadow a w s).cht = s.cht ∧ (wrShadow a w s).dsp = s.dsp ∧ (wrShadow a w s).tsk = s.tsk ∧
    (wrShadow a w s).nfl = s.nfl ∧ (wrShadow a w s).pai = s.pai ∧ (wrShadow a w s).key = s.key ∧
    (wrShadow a w s).grade = s.grade ∧ (wrShadow a w s).free = s.free ∧ (wrShadow a w s).pending = s.pending := by and_intros <;> rfl

@[simp] theorem wrBoth_keeps (a : Nat) (w : Word) (s : State) :
    (wrBoth a w s).io = s.io ∧ (wrBoth a w s).recorder = s.recorder ∧ (wrBoth a w s).crp = s.crp ∧
    (wrBoth a w s).upd = s.upd ∧ (wrBoth a w s).ing = s.ing ∧ (wrBoth a w s).cor = s.cor ∧
    (wrBoth a w s).acq = s.acq ∧ (wrBoth a w s).tim = s.tim ∧ (wrBoth a w s).ref = s.ref ∧
    (wrBoth a w s).net = s.net ∧ (wrBoth a w s).mach = s.mach ∧ (wrBoth a w s).pst = s.pst ∧
    (wrBoth a w s).cht = s.cht ∧ (wrBoth a w s).dsp = s.dsp ∧ (wrBoth a w s).tsk = s.tsk ∧
    (wrBoth a w s).nfl = s.nfl ∧ (wrBoth a w s).pai = s.pai ∧ (wrBoth a w s).key = s.key ∧
    (wrBoth a w s).grade = s.grade ∧ (wrBoth a w s).free = s.free ∧ (wrBoth a w s).pending = s.pending := by and_intros <;> rfl

@[simp] theorem inc_keeps (a : Nat) (n : Nat) (s : State) :
    (inc a n s).io = s.io ∧ (inc a n s).recorder = s.recorder ∧ (inc a n s).crp = s.crp ∧ (inc a n s).upd = s.upd ∧
    (inc a n s).ing = s.ing ∧ (inc a n s).cor = s.cor ∧ (inc a n s).acq = s.acq ∧ (inc a n s).tim = s.tim ∧
    (inc a n s).ref = s.ref ∧ (inc a n s).net = s.net ∧ (inc a n s).mach = s.mach ∧ (inc a n s).pst = s.pst ∧
    (inc a n s).cht = s.cht ∧ (inc a n s).dsp = s.dsp ∧ (inc a n s).tsk = s.tsk ∧ (inc a n s).nfl = s.nfl ∧
    (inc a n s).pai = s.pai ∧ (inc a n s).key = s.key ∧ (inc a n s).grade = s.grade ∧ (inc a n s).free = s.free ∧
    (inc a n s).pending = s.pending := by and_intros <;> rfl

@[simp] theorem stickyCount_keeps (a : Nat) (bit : Nat) (cnt : Nat) (s : State) :
    (stickyCount a bit cnt s).recorder = s.recorder ∧ (stickyCount a bit cnt s).crp = s.crp ∧
    (stickyCount a bit cnt s).upd = s.upd ∧ (stickyCount a bit cnt s).ing = s.ing ∧
    (stickyCount a bit cnt s).cor = s.cor ∧ (stickyCount a bit cnt s).acq = s.acq ∧
    (stickyCount a bit cnt s).tim = s.tim ∧ (stickyCount a bit cnt s).ref = s.ref ∧
    (stickyCount a bit cnt s).net = s.net ∧ (stickyCount a bit cnt s).mach = s.mach ∧
    (stickyCount a bit cnt s).pst = s.pst ∧ (stickyCount a bit cnt s).cht = s.cht ∧
    (stickyCount a bit cnt s).dsp = s.dsp ∧ (stickyCount a bit cnt s).tsk = s.tsk ∧
    (stickyCount a bit cnt s).nfl = s.nfl ∧ (stickyCount a bit cnt s).pai = s.pai ∧
    (stickyCount a bit cnt s).key = s.key ∧ (stickyCount a bit cnt s).grade = s.grade ∧
    (stickyCount a bit cnt s).free = s.free ∧ (stickyCount a bit cnt s).pending = s.pending := by and_intros <;> rfl

@[simp] theorem freeNext_keeps (s : State) :
    (freeNext s).bank = s.bank ∧ (freeNext s).io = s.io ∧ (freeNext s).recorder = s.recorder ∧
    (freeNext s).crp = s.crp ∧ (freeNext s).upd = s.upd ∧ (freeNext s).ing = s.ing ∧ (freeNext s).cor = s.cor ∧
    (freeNext s).acq = s.acq ∧ (freeNext s).tim = s.tim ∧ (freeNext s).ref = s.ref ∧ (freeNext s).net = s.net ∧
    (freeNext s).mach = s.mach ∧ (freeNext s).pst = s.pst ∧ (freeNext s).cht = s.cht ∧ (freeNext s).dsp = s.dsp ∧
    (freeNext s).tsk = s.tsk ∧ (freeNext s).nfl = s.nfl ∧ (freeNext s).pai = s.pai ∧ (freeNext s).key = s.key ∧
    (freeNext s).grade = s.grade ∧ (freeNext s).pending = s.pending := by and_intros <;> rfl

@[simp] theorem record_keeps (type : Nat) (key : Nat) (payload : List Byte) (s : State) :
    (record type key payload s).crp = s.crp ∧ (record type key payload s).upd = s.upd ∧
    (record type key payload s).ing = s.ing ∧ (record type key payload s).cor = s.cor ∧
    (record type key payload s).acq = s.acq ∧ (record type key payload s).tim = s.tim ∧
    (record type key payload s).ref = s.ref ∧ (record type key payload s).net = s.net ∧
    (record type key payload s).mach = s.mach ∧ (record type key payload s).pst = s.pst ∧
    (record type key payload s).cht = s.cht ∧ (record type key payload s).dsp = s.dsp ∧
    (record type key payload s).tsk = s.tsk ∧ (record type key payload s).nfl = s.nfl ∧
    (record type key payload s).pai = s.pai ∧ (record type key payload s).key = s.key ∧
    (record type key payload s).grade = s.grade ∧ (record type key payload s).free = s.free ∧
    (record type key payload s).pending = s.pending := by
  unfold record
  and_intros <;> dsimp only <;> (repeat' split) <;> rfl

@[simp] theorem cplWrite_keeps (q : Nat) (entry : List Byte) (s : State) :
    (cplWrite q entry s).bank = s.bank ∧ (cplWrite q entry s).recorder = s.recorder ∧
    (cplWrite q entry s).crp = s.crp ∧ (cplWrite q entry s).upd = s.upd ∧ (cplWrite q entry s).ing = s.ing ∧
    (cplWrite q entry s).cor = s.cor ∧ (cplWrite q entry s).acq = s.acq ∧ (cplWrite q entry s).tim = s.tim ∧
    (cplWrite q entry s).ref = s.ref ∧ (cplWrite q entry s).net = s.net ∧ (cplWrite q entry s).mach = s.mach ∧
    (cplWrite q entry s).pst = s.pst ∧ (cplWrite q entry s).cht = s.cht ∧ (cplWrite q entry s).dsp = s.dsp ∧
    (cplWrite q entry s).tsk = s.tsk ∧ (cplWrite q entry s).nfl = s.nfl ∧ (cplWrite q entry s).pai = s.pai ∧
    (cplWrite q entry s).key = s.key ∧ (cplWrite q entry s).grade = s.grade ∧ (cplWrite q entry s).free = s.free ∧
    (cplWrite q entry s).pending = s.pending := by
  and_intros <;> unfold cplWrite <;> dsimp only <;> (repeat' split) <;> simp

@[simp] theorem complete_keeps (c : Cmd) (code : Nat) (detail : List Byte) (s : State) :
    (complete c code detail s).bank = s.bank ∧ (complete c code detail s).recorder = s.recorder ∧
    (complete c code detail s).crp = s.crp ∧ (complete c code detail s).upd = s.upd ∧
    (complete c code detail s).ing = s.ing ∧ (complete c code detail s).cor = s.cor ∧
    (complete c code detail s).acq = s.acq ∧ (complete c code detail s).tim = s.tim ∧
    (complete c code detail s).ref = s.ref ∧ (complete c code detail s).net = s.net ∧
    (complete c code detail s).mach = s.mach ∧ (complete c code detail s).pst = s.pst ∧
    (complete c code detail s).cht = s.cht ∧ (complete c code detail s).dsp = s.dsp ∧
    (complete c code detail s).tsk = s.tsk ∧ (complete c code detail s).nfl = s.nfl ∧
    (complete c code detail s).pai = s.pai ∧ (complete c code detail s).key = s.key ∧
    (complete c code detail s).grade = s.grade ∧ (complete c code detail s).free = s.free ∧
    (complete c code detail s).pending = s.pending := by
  unfold complete
  and_intros <;> dsimp only <;> (repeat' split) <;> first | rfl | simp

@[simp] theorem completeOpt_keeps (c : Option Cmd) (code : Nat) (detail : List Byte) (s : State) :
    (completeOpt c code detail s).bank = s.bank ∧ (completeOpt c code detail s).recorder = s.recorder ∧
    (completeOpt c code detail s).crp = s.crp ∧ (completeOpt c code detail s).upd = s.upd ∧
    (completeOpt c code detail s).ing = s.ing ∧ (completeOpt c code detail s).cor = s.cor ∧
    (completeOpt c code detail s).acq = s.acq ∧ (completeOpt c code detail s).tim = s.tim ∧
    (completeOpt c code detail s).ref = s.ref ∧ (completeOpt c code detail s).net = s.net ∧
    (completeOpt c code detail s).mach = s.mach ∧ (completeOpt c code detail s).pst = s.pst ∧
    (completeOpt c code detail s).cht = s.cht ∧ (completeOpt c code detail s).dsp = s.dsp ∧
    (completeOpt c code detail s).tsk = s.tsk ∧ (completeOpt c code detail s).nfl = s.nfl ∧
    (completeOpt c code detail s).pai = s.pai ∧ (completeOpt c code detail s).key = s.key ∧
    (completeOpt c code detail s).grade = s.grade ∧ (completeOpt c code detail s).free = s.free ∧
    (completeOpt c code detail s).pending = s.pending := by and_intros <;> unfold completeOpt <;> split <;> simp

@[simp] theorem rxRecord_keeps (ring : Nat) (kind : Nat) (source : Nat) (tns : Nat) (data : List Byte) (s : State) :
    (rxRecord ring kind source tns data s).1.bank = s.bank ∧
    (rxRecord ring kind source tns data s).1.recorder = s.recorder ∧
    (rxRecord ring kind source tns data s).1.crp = s.crp ∧ (rxRecord ring kind source tns data s).1.upd = s.upd ∧
    (rxRecord ring kind source tns data s).1.ing = s.ing ∧ (rxRecord ring kind source tns data s).1.cor = s.cor ∧
    (rxRecord ring kind source tns data s).1.acq = s.acq ∧ (rxRecord ring kind source tns data s).1.tim = s.tim ∧
    (rxRecord ring kind source tns data s).1.ref = s.ref ∧ (rxRecord ring kind source tns data s).1.net = s.net ∧
    (rxRecord ring kind source tns data s).1.mach = s.mach ∧ (rxRecord ring kind source tns data s).1.pst = s.pst ∧
    (rxRecord ring kind source tns data s).1.cht = s.cht ∧ (rxRecord ring kind source tns data s).1.dsp = s.dsp ∧
    (rxRecord ring kind source tns data s).1.tsk = s.tsk ∧ (rxRecord ring kind source tns data s).1.nfl = s.nfl ∧
    (rxRecord ring kind source tns data s).1.pai = s.pai ∧ (rxRecord ring kind source tns data s).1.key = s.key ∧
    (rxRecord ring kind source tns data s).1.grade = s.grade ∧
    (rxRecord ring kind source tns data s).1.free = s.free ∧
    (rxRecord ring kind source tns data s).1.pending = s.pending := by
  unfold rxRecord
  and_intros <;> dsimp only <;> (repeat' split) <;> rfl

@[simp] theorem dmaOut_keeps (addr : Nat) (bytes : List Byte) (s : State) :
    (dmaOut addr bytes s).bank = s.bank ∧ (dmaOut addr bytes s).recorder = s.recorder ∧
    (dmaOut addr bytes s).crp = s.crp ∧ (dmaOut addr bytes s).upd = s.upd ∧ (dmaOut addr bytes s).ing = s.ing ∧
    (dmaOut addr bytes s).cor = s.cor ∧ (dmaOut addr bytes s).acq = s.acq ∧ (dmaOut addr bytes s).tim = s.tim ∧
    (dmaOut addr bytes s).ref = s.ref ∧ (dmaOut addr bytes s).net = s.net ∧ (dmaOut addr bytes s).mach = s.mach ∧
    (dmaOut addr bytes s).pst = s.pst ∧ (dmaOut addr bytes s).cht = s.cht ∧ (dmaOut addr bytes s).dsp = s.dsp ∧
    (dmaOut addr bytes s).tsk = s.tsk ∧ (dmaOut addr bytes s).nfl = s.nfl ∧ (dmaOut addr bytes s).pai = s.pai ∧
    (dmaOut addr bytes s).key = s.key ∧ (dmaOut addr bytes s).grade = s.grade ∧ (dmaOut addr bytes s).free = s.free ∧
    (dmaOut addr bytes s).pending = s.pending := by and_intros <;> unfold dmaOut <;> (repeat' split) <;> rfl

@[simp] theorem mirror_keeps (r : MirrorRec) (s : State) :
    (mirror r s).bank = s.bank ∧ (mirror r s).recorder = s.recorder ∧ (mirror r s).crp = s.crp ∧
    (mirror r s).upd = s.upd ∧ (mirror r s).ing = s.ing ∧ (mirror r s).cor = s.cor ∧ (mirror r s).acq = s.acq ∧
    (mirror r s).tim = s.tim ∧ (mirror r s).ref = s.ref ∧ (mirror r s).net = s.net ∧ (mirror r s).mach = s.mach ∧
    (mirror r s).pst = s.pst ∧ (mirror r s).cht = s.cht ∧ (mirror r s).dsp = s.dsp ∧ (mirror r s).tsk = s.tsk ∧
    (mirror r s).nfl = s.nfl ∧ (mirror r s).key = s.key ∧ (mirror r s).grade = s.grade ∧ (mirror r s).free = s.free ∧
    (mirror r s).pending = s.pending := by and_intros <;> unfold mirror <;> split <;> simp

@[simp] theorem setMach_keeps (m : Nat) (v : Mach) (s : State) :
    (setMach m v s).bank = s.bank ∧ (setMach m v s).io = s.io ∧ (setMach m v s).recorder = s.recorder ∧
    (setMach m v s).crp = s.crp ∧ (setMach m v s).upd = s.upd ∧ (setMach m v s).ing = s.ing ∧
    (setMach m v s).cor = s.cor ∧ (setMach m v s).acq = s.acq ∧ (setMach m v s).tim = s.tim ∧
    (setMach m v s).ref = s.ref ∧ (setMach m v s).net = s.net ∧ (setMach m v s).pst = s.pst ∧
    (setMach m v s).cht = s.cht ∧ (setMach m v s).dsp = s.dsp ∧ (setMach m v s).tsk = s.tsk ∧
    (setMach m v s).nfl = s.nfl ∧ (setMach m v s).pai = s.pai ∧ (setMach m v s).key = s.key ∧
    (setMach m v s).grade = s.grade ∧ (setMach m v s).free = s.free ∧ (setMach m v s).pending = s.pending := by and_intros <;> rfl

@[simp] theorem putMach_keeps (m : Nat) (v : Mach) (s : State) :
    (putMach m v s).bank = s.bank ∧ (putMach m v s).recorder = s.recorder ∧ (putMach m v s).crp = s.crp ∧
    (putMach m v s).upd = s.upd ∧ (putMach m v s).ing = s.ing ∧ (putMach m v s).cor = s.cor ∧
    (putMach m v s).acq = s.acq ∧ (putMach m v s).tim = s.tim ∧ (putMach m v s).ref = s.ref ∧
    (putMach m v s).net = s.net ∧ (putMach m v s).pst = s.pst ∧ (putMach m v s).cht = s.cht ∧
    (putMach m v s).dsp = s.dsp ∧ (putMach m v s).tsk = s.tsk ∧ (putMach m v s).nfl = s.nfl ∧
    (putMach m v s).key = s.key ∧ (putMach m v s).grade = s.grade ∧ (putMach m v s).free = s.free ∧
    (putMach m v s).pending = s.pending := by and_intros <;> simp [putMach]

@[simp] theorem setChtMach_keeps (m : Nat) (v : ChtMach) (s : State) :
    (setChtMach m v s).bank = s.bank ∧ (setChtMach m v s).io = s.io ∧ (setChtMach m v s).recorder = s.recorder ∧
    (setChtMach m v s).crp = s.crp ∧ (setChtMach m v s).upd = s.upd ∧ (setChtMach m v s).ing = s.ing ∧
    (setChtMach m v s).cor = s.cor ∧ (setChtMach m v s).acq = s.acq ∧ (setChtMach m v s).tim = s.tim ∧
    (setChtMach m v s).ref = s.ref ∧ (setChtMach m v s).net = s.net ∧ (setChtMach m v s).mach = s.mach ∧
    (setChtMach m v s).pst = s.pst ∧ (setChtMach m v s).dsp = s.dsp ∧ (setChtMach m v s).tsk = s.tsk ∧
    (setChtMach m v s).nfl = s.nfl ∧ (setChtMach m v s).pai = s.pai ∧ (setChtMach m v s).key = s.key ∧
    (setChtMach m v s).grade = s.grade ∧ (setChtMach m v s).free = s.free ∧ (setChtMach m v s).pending = s.pending := by and_intros <;> rfl

@[simp] theorem putChtMach_keeps (m : Nat) (v : ChtMach) (s : State) :
    (putChtMach m v s).bank = s.bank ∧ (putChtMach m v s).recorder = s.recorder ∧ (putChtMach m v s).crp = s.crp ∧
    (putChtMach m v s).upd = s.upd ∧ (putChtMach m v s).ing = s.ing ∧ (putChtMach m v s).cor = s.cor ∧
    (putChtMach m v s).acq = s.acq ∧ (putChtMach m v s).tim = s.tim ∧ (putChtMach m v s).ref = s.ref ∧
    (putChtMach m v s).net = s.net ∧ (putChtMach m v s).mach = s.mach ∧ (putChtMach m v s).pst = s.pst ∧
    (putChtMach m v s).dsp = s.dsp ∧ (putChtMach m v s).tsk = s.tsk ∧ (putChtMach m v s).nfl = s.nfl ∧
    (putChtMach m v s).key = s.key ∧ (putChtMach m v s).grade = s.grade ∧ (putChtMach m v s).free = s.free ∧
    (putChtMach m v s).pending = s.pending := by and_intros <;> simp [putChtMach]

@[simp] theorem putIvals_keeps (l : List Ival) (s : State) :
    (putIvals l s).bank = s.bank ∧ (putIvals l s).recorder = s.recorder ∧ (putIvals l s).crp = s.crp ∧
    (putIvals l s).upd = s.upd ∧ (putIvals l s).ing = s.ing ∧ (putIvals l s).cor = s.cor ∧
    (putIvals l s).acq = s.acq ∧ (putIvals l s).tim = s.tim ∧ (putIvals l s).ref = s.ref ∧
    (putIvals l s).net = s.net ∧ (putIvals l s).mach = s.mach ∧ (putIvals l s).pst = s.pst ∧
    (putIvals l s).dsp = s.dsp ∧ (putIvals l s).tsk = s.tsk ∧ (putIvals l s).nfl = s.nfl ∧
    (putIvals l s).key = s.key ∧ (putIvals l s).grade = s.grade ∧ (putIvals l s).free = s.free ∧
    (putIvals l s).pending = s.pending := by
  unfold putIvals
  and_intros <;> dsimp only <;> (repeat' split) <;> first | rfl | simp

@[simp] theorem putTasks_keeps (l : List Task) (s : State) :
    (putTasks l s).bank = s.bank ∧ (putTasks l s).recorder = s.recorder ∧ (putTasks l s).crp = s.crp ∧
    (putTasks l s).upd = s.upd ∧ (putTasks l s).ing = s.ing ∧ (putTasks l s).cor = s.cor ∧
    (putTasks l s).acq = s.acq ∧ (putTasks l s).tim = s.tim ∧ (putTasks l s).ref = s.ref ∧
    (putTasks l s).net = s.net ∧ (putTasks l s).mach = s.mach ∧ (putTasks l s).pst = s.pst ∧
    (putTasks l s).cht = s.cht ∧ (putTasks l s).dsp = s.dsp ∧ (putTasks l s).nfl = s.nfl ∧
    (putTasks l s).key = s.key ∧ (putTasks l s).grade = s.grade ∧ (putTasks l s).free = s.free ∧
    (putTasks l s).pending = s.pending := by and_intros <;> simp [putTasks]

@[simp] theorem putSlot_keeps (k : Nat) (v : Slot) (s : State) :
    (putSlot k v s).bank = s.bank ∧ (putSlot k v s).recorder = s.recorder ∧ (putSlot k v s).crp = s.crp ∧
    (putSlot k v s).upd = s.upd ∧ (putSlot k v s).ing = s.ing ∧ (putSlot k v s).cor = s.cor ∧
    (putSlot k v s).acq = s.acq ∧ (putSlot k v s).tim = s.tim ∧ (putSlot k v s).ref = s.ref ∧
    (putSlot k v s).net = s.net ∧ (putSlot k v s).mach = s.mach ∧ (putSlot k v s).cht = s.cht ∧
    (putSlot k v s).dsp = s.dsp ∧ (putSlot k v s).tsk = s.tsk ∧ (putSlot k v s).nfl = s.nfl ∧
    (putSlot k v s).key = s.key ∧ (putSlot k v s).grade = s.grade ∧ (putSlot k v s).free = s.free ∧
    (putSlot k v s).pending = s.pending := by and_intros <;> simp [putSlot]

@[simp] theorem mirrorKeys_keeps (s : State) :
    (mirrorKeys s).bank = s.bank ∧ (mirrorKeys s).recorder = s.recorder ∧ (mirrorKeys s).crp = s.crp ∧
    (mirrorKeys s).upd = s.upd ∧ (mirrorKeys s).ing = s.ing ∧ (mirrorKeys s).cor = s.cor ∧
    (mirrorKeys s).acq = s.acq ∧ (mirrorKeys s).tim = s.tim ∧ (mirrorKeys s).ref = s.ref ∧
    (mirrorKeys s).net = s.net ∧ (mirrorKeys s).mach = s.mach ∧ (mirrorKeys s).pst = s.pst ∧
    (mirrorKeys s).cht = s.cht ∧ (mirrorKeys s).dsp = s.dsp ∧ (mirrorKeys s).tsk = s.tsk ∧
    (mirrorKeys s).nfl = s.nfl ∧ (mirrorKeys s).key = s.key ∧ (mirrorKeys s).grade = s.grade ∧
    (mirrorKeys s).free = s.free ∧ (mirrorKeys s).pending = s.pending := by and_intros <;> simp [mirrorKeys]

@[simp] theorem setPort_keeps (n : Nat) (p : NetPort) (s : State) :
    (setPort n p s).bank = s.bank ∧ (setPort n p s).io = s.io ∧ (setPort n p s).recorder = s.recorder ∧
    (setPort n p s).crp = s.crp ∧ (setPort n p s).upd = s.upd ∧ (setPort n p s).ing = s.ing ∧
    (setPort n p s).cor = s.cor ∧ (setPort n p s).acq = s.acq ∧ (setPort n p s).tim = s.tim ∧
    (setPort n p s).ref = s.ref ∧ (setPort n p s).mach = s.mach ∧ (setPort n p s).pst = s.pst ∧
    (setPort n p s).cht = s.cht ∧ (setPort n p s).dsp = s.dsp ∧ (setPort n p s).tsk = s.tsk ∧
    (setPort n p s).nfl = s.nfl ∧ (setPort n p s).pai = s.pai ∧ (setPort n p s).key = s.key ∧
    (setPort n p s).grade = s.grade ∧ (setPort n p s).free = s.free ∧ (setPort n p s).pending = s.pending := by and_intros <;> rfl

@[simp] theorem enqueue_keeps (n : Nat) (q : Nat) (f : TxFrame) (s : State) :
    (enqueue n q f s).1.bank = s.bank ∧ (enqueue n q f s).1.recorder = s.recorder ∧ (enqueue n q f s).1.crp = s.crp ∧
    (enqueue n q f s).1.upd = s.upd ∧ (enqueue n q f s).1.ing = s.ing ∧ (enqueue n q f s).1.cor = s.cor ∧
    (enqueue n q f s).1.acq = s.acq ∧ (enqueue n q f s).1.tim = s.tim ∧ (enqueue n q f s).1.ref = s.ref ∧
    (enqueue n q f s).1.mach = s.mach ∧ (enqueue n q f s).1.pst = s.pst ∧ (enqueue n q f s).1.cht = s.cht ∧
    (enqueue n q f s).1.dsp = s.dsp ∧ (enqueue n q f s).1.tsk = s.tsk ∧ (enqueue n q f s).1.nfl = s.nfl ∧
    (enqueue n q f s).1.pai = s.pai ∧ (enqueue n q f s).1.key = s.key ∧ (enqueue n q f s).1.grade = s.grade ∧
    (enqueue n q f s).1.free = s.free ∧ (enqueue n q f s).1.pending = s.pending := by
  unfold enqueue
  and_intros <;> dsimp only <;> (repeat' split) <;> rfl

@[simp] theorem missNightfall_keeps (n : Nat) (s : State) :
    (missNightfall n s).io = s.io ∧ (missNightfall n s).recorder = s.recorder ∧ (missNightfall n s).crp = s.crp ∧
    (missNightfall n s).upd = s.upd ∧ (missNightfall n s).ing = s.ing ∧ (missNightfall n s).cor = s.cor ∧
    (missNightfall n s).acq = s.acq ∧ (missNightfall n s).tim = s.tim ∧ (missNightfall n s).ref = s.ref ∧
    (missNightfall n s).mach = s.mach ∧ (missNightfall n s).pst = s.pst ∧ (missNightfall n s).cht = s.cht ∧
    (missNightfall n s).dsp = s.dsp ∧ (missNightfall n s).tsk = s.tsk ∧ (missNightfall n s).nfl = s.nfl ∧
    (missNightfall n s).pai = s.pai ∧ (missNightfall n s).key = s.key ∧ (missNightfall n s).grade = s.grade ∧
    (missNightfall n s).free = s.free ∧ (missNightfall n s).pending = s.pending := by
  unfold missNightfall
  and_intros <;> dsimp only <;> (repeat' split) <;> rfl

@[simp] theorem keyGone_keeps (n : Nat) (s : State) :
    (keyGone n s).bank = s.bank ∧ (keyGone n s).recorder = s.recorder ∧ (keyGone n s).crp = s.crp ∧
    (keyGone n s).upd = s.upd ∧ (keyGone n s).ing = s.ing ∧ (keyGone n s).cor = s.cor ∧ (keyGone n s).acq = s.acq ∧
    (keyGone n s).tim = s.tim ∧ (keyGone n s).ref = s.ref ∧ (keyGone n s).net = s.net ∧ (keyGone n s).mach = s.mach ∧
    (keyGone n s).pst = s.pst ∧ (keyGone n s).cht = s.cht ∧ (keyGone n s).dsp = s.dsp ∧ (keyGone n s).tsk = s.tsk ∧
    (keyGone n s).nfl = s.nfl ∧ (keyGone n s).pai = s.pai ∧ (keyGone n s).key = s.key ∧
    (keyGone n s).grade = s.grade ∧ (keyGone n s).free = s.free ∧ (keyGone n s).pending = s.pending := by and_intros <;> simp [keyGone]

@[simp] theorem buildMach_keeps (m gen type es ens : Nat) (kind : TxKind) (number : Nat) (cmd : Option Cmd) (body : List Byte) (s : State) :
    (buildMach m gen type es ens kind number cmd body s).2.bank = s.bank ∧
    (buildMach m gen type es ens kind number cmd body s).2.recorder = s.recorder ∧
    (buildMach m gen type es ens kind number cmd body s).2.crp = s.crp ∧
    (buildMach m gen type es ens kind number cmd body s).2.upd = s.upd ∧
    (buildMach m gen type es ens kind number cmd body s).2.ing = s.ing ∧
    (buildMach m gen type es ens kind number cmd body s).2.cor = s.cor ∧
    (buildMach m gen type es ens kind number cmd body s).2.acq = s.acq ∧
    (buildMach m gen type es ens kind number cmd body s).2.tim = s.tim ∧
    (buildMach m gen type es ens kind number cmd body s).2.ref = s.ref ∧
    (buildMach m gen type es ens kind number cmd body s).2.net = s.net ∧
    (buildMach m gen type es ens kind number cmd body s).2.pst = s.pst ∧
    (buildMach m gen type es ens kind number cmd body s).2.dsp = s.dsp ∧
    (buildMach m gen type es ens kind number cmd body s).2.tsk = s.tsk ∧
    (buildMach m gen type es ens kind number cmd body s).2.nfl = s.nfl ∧
    (buildMach m gen type es ens kind number cmd body s).2.key = s.key ∧
    (buildMach m gen type es ens kind number cmd body s).2.grade = s.grade ∧
    (buildMach m gen type es ens kind number cmd body s).2.free = s.free ∧
    (buildMach m gen type es ens kind number cmd body s).2.pending = s.pending ∧
    (buildMach m gen type es ens kind number cmd body s).2.cht = s.cht := by
  unfold buildMach
  and_intros <;> dsimp only <;> simp

@[simp] theorem buildAll_keeps (n type es ens : Nat) (kind : TxKind) (number : Nat) (launch : Option Int) (body : List Byte) (s : State) :
    (buildAll n type es ens kind number launch body s).2.bank = s.bank ∧
    (buildAll n type es ens kind number launch body s).2.recorder = s.recorder ∧
    (buildAll n type es ens kind number launch body s).2.crp = s.crp ∧
    (buildAll n type es ens kind number launch body s).2.upd = s.upd ∧
    (buildAll n type es ens kind number launch body s).2.ing = s.ing ∧
    (buildAll n type es ens kind number launch body s).2.cor = s.cor ∧
    (buildAll n type es ens kind number launch body s).2.acq = s.acq ∧
    (buildAll n type es ens kind number launch body s).2.tim = s.tim ∧
    (buildAll n type es ens kind number launch body s).2.ref = s.ref ∧
    (buildAll n type es ens kind number launch body s).2.mach = s.mach ∧
    (buildAll n type es ens kind number launch body s).2.pst = s.pst ∧
    (buildAll n type es ens kind number launch body s).2.dsp = s.dsp ∧
    (buildAll n type es ens kind number launch body s).2.tsk = s.tsk ∧
    (buildAll n type es ens kind number launch body s).2.nfl = s.nfl ∧
    (buildAll n type es ens kind number launch body s).2.pai = s.pai ∧
    (buildAll n type es ens kind number launch body s).2.key = s.key ∧
    (buildAll n type es ens kind number launch body s).2.grade = s.grade ∧
    (buildAll n type es ens kind number launch body s).2.free = s.free ∧
    (buildAll n type es ens kind number launch body s).2.pending = s.pending ∧
    (buildAll n type es ens kind number launch body s).2.cht = s.cht := by
  unfold buildAll
  and_intros <;> dsimp only <;> (repeat' split) <;> rfl

@[simp] theorem sendMachGen_keeps (m : Nat) (gen : Nat) (q : Nat) (type : Nat) (es : Nat) (ens : Nat) (kind : TxKind) (number : Nat) (body : List Byte) (s : State) :
    (sendMachGen m gen q type es ens kind number body s).1.bank = s.bank ∧
    (sendMachGen m gen q type es ens kind number body s).1.recorder = s.recorder ∧
    (sendMachGen m gen q type es ens kind number body s).1.crp = s.crp ∧
    (sendMachGen m gen q type es ens kind number body s).1.upd = s.upd ∧
    (sendMachGen m gen q type es ens kind number body s).1.ing = s.ing ∧
    (sendMachGen m gen q type es ens kind number body s).1.cor = s.cor ∧
    (sendMachGen m gen q type es ens kind number body s).1.acq = s.acq ∧
    (sendMachGen m gen q type es ens kind number body s).1.tim = s.tim ∧
    (sendMachGen m gen q type es ens kind number body s).1.ref = s.ref ∧
    (sendMachGen m gen q type es ens kind number body s).1.pst = s.pst ∧
    (sendMachGen m gen q type es ens kind number body s).1.cht = s.cht ∧
    (sendMachGen m gen q type es ens kind number body s).1.dsp = s.dsp ∧
    (sendMachGen m gen q type es ens kind number body s).1.tsk = s.tsk ∧
    (sendMachGen m gen q type es ens kind number body s).1.nfl = s.nfl ∧
    (sendMachGen m gen q type es ens kind number body s).1.key = s.key ∧
    (sendMachGen m gen q type es ens kind number body s).1.grade = s.grade ∧
    (sendMachGen m gen q type es ens kind number body s).1.free = s.free ∧
    (sendMachGen m gen q type es ens kind number body s).1.pending = s.pending := by and_intros <;> unfold sendMachGen <;> split <;> simp

@[simp] theorem sendMach_keeps (m : Nat) (q : Nat) (type : Nat) (es : Nat) (ens : Nat) (kind : TxKind) (number : Nat) (body : List Byte) (s : State) :
    (sendMach m q type es ens kind number body s).1.bank = s.bank ∧
    (sendMach m q type es ens kind number body s).1.recorder = s.recorder ∧
    (sendMach m q type es ens kind number body s).1.crp = s.crp ∧
    (sendMach m q type es ens kind number body s).1.upd = s.upd ∧
    (sendMach m q type es ens kind number body s).1.ing = s.ing ∧
    (sendMach m q type es ens kind number body s).1.cor = s.cor ∧
    (sendMach m q type es ens kind number body s).1.acq = s.acq ∧
    (sendMach m q type es ens kind number body s).1.tim = s.tim ∧
    (sendMach m q type es ens kind number body s).1.ref = s.ref ∧
    (sendMach m q type es ens kind number body s).1.pst = s.pst ∧
    (sendMach m q type es ens kind number body s).1.cht = s.cht ∧
    (sendMach m q type es ens kind number body s).1.dsp = s.dsp ∧
    (sendMach m q type es ens kind number body s).1.tsk = s.tsk ∧
    (sendMach m q type es ens kind number body s).1.nfl = s.nfl ∧
    (sendMach m q type es ens kind number body s).1.key = s.key ∧
    (sendMach m q type es ens kind number body s).1.grade = s.grade ∧
    (sendMach m q type es ens kind number body s).1.free = s.free ∧
    (sendMach m q type es ens kind number body s).1.pending = s.pending := by and_intros <;> simp [sendMach]

@[simp] theorem sendAckGen_keeps (m : Nat) (gen : Nat) (ackType : Nat) (status : Nat) (ackSeq : Nat) (detail : Nat) (s : State) :
    (sendAckGen m gen ackType status ackSeq detail s).bank = s.bank ∧
    (sendAckGen m gen ackType status ackSeq detail s).recorder = s.recorder ∧
    (sendAckGen m gen ackType status ackSeq detail s).crp = s.crp ∧
    (sendAckGen m gen ackType status ackSeq detail s).upd = s.upd ∧
    (sendAckGen m gen ackType status ackSeq detail s).ing = s.ing ∧
    (sendAckGen m gen ackType status ackSeq detail s).cor = s.cor ∧
    (sendAckGen m gen ackType status ackSeq detail s).acq = s.acq ∧
    (sendAckGen m gen ackType status ackSeq detail s).tim = s.tim ∧
    (sendAckGen m gen ackType status ackSeq detail s).ref = s.ref ∧
    (sendAckGen m gen ackType status ackSeq detail s).pst = s.pst ∧
    (sendAckGen m gen ackType status ackSeq detail s).cht = s.cht ∧
    (sendAckGen m gen ackType status ackSeq detail s).dsp = s.dsp ∧
    (sendAckGen m gen ackType status ackSeq detail s).tsk = s.tsk ∧
    (sendAckGen m gen ackType status ackSeq detail s).nfl = s.nfl ∧
    (sendAckGen m gen ackType status ackSeq detail s).key = s.key ∧
    (sendAckGen m gen ackType status ackSeq detail s).grade = s.grade ∧
    (sendAckGen m gen ackType status ackSeq detail s).free = s.free ∧
    (sendAckGen m gen ackType status ackSeq detail s).pending = s.pending := by and_intros <;> simp [sendAckGen]

@[simp] theorem sendAck_keeps (m : Nat) (ackType : Nat) (status : Nat) (ackSeq : Nat) (detail : Nat) (s : State) :
    (sendAck m ackType status ackSeq detail s).bank = s.bank ∧
    (sendAck m ackType status ackSeq detail s).recorder = s.recorder ∧
    (sendAck m ackType status ackSeq detail s).crp = s.crp ∧ (sendAck m ackType status ackSeq detail s).upd = s.upd ∧
    (sendAck m ackType status ackSeq detail s).ing = s.ing ∧ (sendAck m ackType status ackSeq detail s).cor = s.cor ∧
    (sendAck m ackType status ackSeq detail s).acq = s.acq ∧ (sendAck m ackType status ackSeq detail s).tim = s.tim ∧
    (sendAck m ackType status ackSeq detail s).ref = s.ref ∧ (sendAck m ackType status ackSeq detail s).pst = s.pst ∧
    (sendAck m ackType status ackSeq detail s).cht = s.cht ∧ (sendAck m ackType status ackSeq detail s).dsp = s.dsp ∧
    (sendAck m ackType status ackSeq detail s).tsk = s.tsk ∧ (sendAck m ackType status ackSeq detail s).nfl = s.nfl ∧
    (sendAck m ackType status ackSeq detail s).key = s.key ∧
    (sendAck m ackType status ackSeq detail s).grade = s.grade ∧
    (sendAck m ackType status ackSeq detail s).free = s.free ∧
    (sendAck m ackType status ackSeq detail s).pending = s.pending := by and_intros <;> simp [sendAck]

@[simp] theorem setTim_keeps (t : Tim) (s : State) :
    (setTim t s).bank = s.bank ∧ (setTim t s).io = s.io ∧ (setTim t s).recorder = s.recorder ∧
    (setTim t s).crp = s.crp ∧ (setTim t s).upd = s.upd ∧ (setTim t s).ing = s.ing ∧ (setTim t s).cor = s.cor ∧
    (setTim t s).acq = s.acq ∧ (setTim t s).ref = s.ref ∧ (setTim t s).net = s.net ∧ (setTim t s).mach = s.mach ∧
    (setTim t s).pst = s.pst ∧ (setTim t s).cht = s.cht ∧ (setTim t s).dsp = s.dsp ∧ (setTim t s).tsk = s.tsk ∧
    (setTim t s).nfl = s.nfl ∧ (setTim t s).pai = s.pai ∧ (setTim t s).key = s.key ∧ (setTim t s).grade = s.grade ∧
    (setTim t s).free = s.free ∧ (setTim t s).pending = s.pending ∧ (setTim t s).tim = t := by and_intros <;> rfl

@[simp] theorem ptpHand_keeps (n : Nat) (s : State) (p : PtpSend) :
    (ptpHand n s p).bank = s.bank ∧ (ptpHand n s p).recorder = s.recorder ∧ (ptpHand n s p).crp = s.crp ∧
    (ptpHand n s p).upd = s.upd ∧ (ptpHand n s p).ing = s.ing ∧ (ptpHand n s p).cor = s.cor ∧
    (ptpHand n s p).acq = s.acq ∧ (ptpHand n s p).tim = s.tim ∧ (ptpHand n s p).ref = s.ref ∧
    (ptpHand n s p).mach = s.mach ∧ (ptpHand n s p).pst = s.pst ∧ (ptpHand n s p).cht = s.cht ∧
    (ptpHand n s p).dsp = s.dsp ∧ (ptpHand n s p).tsk = s.tsk ∧ (ptpHand n s p).nfl = s.nfl ∧
    (ptpHand n s p).pai = s.pai ∧ (ptpHand n s p).key = s.key ∧ (ptpHand n s p).grade = s.grade ∧
    (ptpHand n s p).free = s.free ∧ (ptpHand n s p).pending = s.pending := by
  unfold ptpHand
  and_intros <;> dsimp only <;> (repeat' split) <;> first | rfl | simp

@[simp] theorem setNfl_keeps (n : Nfl) (s : State) :
    (setNfl n s).bank = s.bank ∧ (setNfl n s).io = s.io ∧ (setNfl n s).recorder = s.recorder ∧
    (setNfl n s).crp = s.crp ∧ (setNfl n s).upd = s.upd ∧ (setNfl n s).ing = s.ing ∧ (setNfl n s).cor = s.cor ∧
    (setNfl n s).acq = s.acq ∧ (setNfl n s).tim = s.tim ∧ (setNfl n s).ref = s.ref ∧ (setNfl n s).net = s.net ∧
    (setNfl n s).mach = s.mach ∧ (setNfl n s).pst = s.pst ∧ (setNfl n s).cht = s.cht ∧ (setNfl n s).dsp = s.dsp ∧
    (setNfl n s).tsk = s.tsk ∧ (setNfl n s).pai = s.pai ∧ (setNfl n s).key = s.key ∧ (setNfl n s).grade = s.grade ∧
    (setNfl n s).free = s.free ∧ (setNfl n s).pending = s.pending ∧ (setNfl n s).nfl = n := by and_intros <;> rfl

@[simp] theorem mirrorNfl_keeps (s : State) :
    (mirrorNfl s).bank = s.bank ∧ (mirrorNfl s).recorder = s.recorder ∧ (mirrorNfl s).crp = s.crp ∧
    (mirrorNfl s).upd = s.upd ∧ (mirrorNfl s).ing = s.ing ∧ (mirrorNfl s).cor = s.cor ∧ (mirrorNfl s).acq = s.acq ∧
    (mirrorNfl s).tim = s.tim ∧ (mirrorNfl s).ref = s.ref ∧ (mirrorNfl s).net = s.net ∧ (mirrorNfl s).mach = s.mach ∧
    (mirrorNfl s).pst = s.pst ∧ (mirrorNfl s).cht = s.cht ∧ (mirrorNfl s).dsp = s.dsp ∧ (mirrorNfl s).tsk = s.tsk ∧
    (mirrorNfl s).nfl = s.nfl ∧ (mirrorNfl s).key = s.key ∧ (mirrorNfl s).grade = s.grade ∧
    (mirrorNfl s).free = s.free ∧ (mirrorNfl s).pending = s.pending := by and_intros <;> unfold mirrorNfl <;> split <;> simp

@[simp] theorem nfRefuse_keeps (command : Nat) (reason : Nat) (machine : Nat) (s : State) :
    (nfRefuse command reason machine s).recorder = s.recorder ∧ (nfRefuse command reason machine s).crp = s.crp ∧
    (nfRefuse command reason machine s).upd = s.upd ∧ (nfRefuse command reason machine s).ing = s.ing ∧
    (nfRefuse command reason machine s).cor = s.cor ∧ (nfRefuse command reason machine s).acq = s.acq ∧
    (nfRefuse command reason machine s).tim = s.tim ∧ (nfRefuse command reason machine s).ref = s.ref ∧
    (nfRefuse command reason machine s).net = s.net ∧ (nfRefuse command reason machine s).mach = s.mach ∧
    (nfRefuse command reason machine s).pst = s.pst ∧ (nfRefuse command reason machine s).cht = s.cht ∧
    (nfRefuse command reason machine s).dsp = s.dsp ∧ (nfRefuse command reason machine s).tsk = s.tsk ∧
    (nfRefuse command reason machine s).nfl = s.nfl ∧ (nfRefuse command reason machine s).pai = s.pai ∧
    (nfRefuse command reason machine s).key = s.key ∧ (nfRefuse command reason machine s).grade = s.grade ∧
    (nfRefuse command reason machine s).free = s.free ∧ (nfRefuse command reason machine s).pending = s.pending := by and_intros <;> rfl

@[simp] theorem setReason_keeps (m : Nat) (code : Nat) (s : State) :
    (setReason m code s).bank = s.bank ∧ (setReason m code s).io = s.io ∧
    (setReason m code s).recorder = s.recorder ∧ (setReason m code s).crp = s.crp ∧
    (setReason m code s).upd = s.upd ∧ (setReason m code s).ing = s.ing ∧ (setReason m code s).cor = s.cor ∧
    (setReason m code s).acq = s.acq ∧ (setReason m code s).tim = s.tim ∧ (setReason m code s).ref = s.ref ∧
    (setReason m code s).net = s.net ∧ (setReason m code s).mach = s.mach ∧ (setReason m code s).pst = s.pst ∧
    (setReason m code s).dsp = s.dsp ∧ (setReason m code s).tsk = s.tsk ∧ (setReason m code s).nfl = s.nfl ∧
    (setReason m code s).pai = s.pai ∧ (setReason m code s).key = s.key ∧ (setReason m code s).grade = s.grade ∧
    (setReason m code s).free = s.free ∧ (setReason m code s).pending = s.pending := by and_intros <;> rfl

@[simp] theorem foldReason_keeps {α : Type} (k : α → Nat) (c : Nat) (l : List α) (s : State) :
    (l.foldl (fun s f => setReason (k f) c s) s).bank = s.bank ∧
    (l.foldl (fun s f => setReason (k f) c s) s).io = s.io ∧
    (l.foldl (fun s f => setReason (k f) c s) s).recorder = s.recorder ∧
    (l.foldl (fun s f => setReason (k f) c s) s).crp = s.crp ∧
    (l.foldl (fun s f => setReason (k f) c s) s).upd = s.upd ∧
    (l.foldl (fun s f => setReason (k f) c s) s).ing = s.ing ∧
    (l.foldl (fun s f => setReason (k f) c s) s).cor = s.cor ∧
    (l.foldl (fun s f => setReason (k f) c s) s).acq = s.acq ∧
    (l.foldl (fun s f => setReason (k f) c s) s).tim = s.tim ∧
    (l.foldl (fun s f => setReason (k f) c s) s).ref = s.ref ∧
    (l.foldl (fun s f => setReason (k f) c s) s).net = s.net ∧
    (l.foldl (fun s f => setReason (k f) c s) s).mach = s.mach ∧
    (l.foldl (fun s f => setReason (k f) c s) s).pst = s.pst ∧
    (l.foldl (fun s f => setReason (k f) c s) s).dsp = s.dsp ∧
    (l.foldl (fun s f => setReason (k f) c s) s).tsk = s.tsk ∧
    (l.foldl (fun s f => setReason (k f) c s) s).nfl = s.nfl ∧
    (l.foldl (fun s f => setReason (k f) c s) s).pai = s.pai ∧
    (l.foldl (fun s f => setReason (k f) c s) s).key = s.key ∧
    (l.foldl (fun s f => setReason (k f) c s) s).grade = s.grade ∧
    (l.foldl (fun s f => setReason (k f) c s) s).free = s.free ∧
    (l.foldl (fun s f => setReason (k f) c s) s).pending = s.pending := by
  induction l generalizing s with
  | nil => simp
  | cons a l ih => simpa using ih (setReason (k a) c s)

@[simp] theorem dropGrants_keeps (n : Nat) (s : State) :
    (dropGrants n s).bank = s.bank ∧ (dropGrants n s).recorder = s.recorder ∧ (dropGrants n s).crp = s.crp ∧
    (dropGrants n s).upd = s.upd ∧ (dropGrants n s).ing = s.ing ∧ (dropGrants n s).cor = s.cor ∧
    (dropGrants n s).acq = s.acq ∧ (dropGrants n s).tim = s.tim ∧ (dropGrants n s).ref = s.ref ∧
    (dropGrants n s).mach = s.mach ∧ (dropGrants n s).pst = s.pst ∧ (dropGrants n s).dsp = s.dsp ∧
    (dropGrants n s).tsk = s.tsk ∧ (dropGrants n s).nfl = s.nfl ∧ (dropGrants n s).pai = s.pai ∧
    (dropGrants n s).key = s.key ∧ (dropGrants n s).grade = s.grade ∧ (dropGrants n s).free = s.free ∧
    (dropGrants n s).pending = s.pending := by and_intros <;> simp [dropGrants]

@[simp] theorem dropHeldGrants_keeps (s : State) :
    (dropHeldGrants s).bank = s.bank ∧ (dropHeldGrants s).recorder = s.recorder ∧ (dropHeldGrants s).crp = s.crp ∧
    (dropHeldGrants s).upd = s.upd ∧ (dropHeldGrants s).ing = s.ing ∧ (dropHeldGrants s).cor = s.cor ∧
    (dropHeldGrants s).acq = s.acq ∧ (dropHeldGrants s).tim = s.tim ∧ (dropHeldGrants s).ref = s.ref ∧
    (dropHeldGrants s).net = s.net ∧ (dropHeldGrants s).mach = s.mach ∧ (dropHeldGrants s).pst = s.pst ∧
    (dropHeldGrants s).dsp = s.dsp ∧ (dropHeldGrants s).tsk = s.tsk ∧ (dropHeldGrants s).nfl = s.nfl ∧
    (dropHeldGrants s).key = s.key ∧ (dropHeldGrants s).grade = s.grade ∧ (dropHeldGrants s).free = s.free ∧
    (dropHeldGrants s).pending = s.pending :=
  by and_intros <;> simp [dropHeldGrants]

@[simp] theorem nfLatch_keeps (cause : Nat) (extra : List Byte) (s : State) :
    (nfLatch cause extra s).crp = s.crp ∧ (nfLatch cause extra s).ing = s.ing ∧ (nfLatch cause extra s).cor = s.cor ∧
    (nfLatch cause extra s).acq = s.acq ∧ (nfLatch cause extra s).tim = s.tim ∧ (nfLatch cause extra s).ref = s.ref ∧
    (nfLatch cause extra s).mach = s.mach ∧ (nfLatch cause extra s).pst = s.pst ∧
    (nfLatch cause extra s).dsp = s.dsp ∧ (nfLatch cause extra s).tsk = s.tsk ∧ (nfLatch cause extra s).key = s.key ∧
    (nfLatch cause extra s).grade = s.grade ∧ (nfLatch cause extra s).free = s.free ∧
    (nfLatch cause extra s).pending = s.pending :=
  by and_intros <;> simp [nfLatch, List.range_succ]

@[simp] theorem dropReleases_keeps (ok : TxFrame → Bool) (n : Nat) (s : State) :
    (dropReleases ok n s).bank = s.bank ∧ (dropReleases ok n s).io = s.io ∧
    (dropReleases ok n s).recorder = s.recorder ∧ (dropReleases ok n s).crp = s.crp ∧
    (dropReleases ok n s).upd = s.upd ∧ (dropReleases ok n s).ing = s.ing ∧ (dropReleases ok n s).cor = s.cor ∧
    (dropReleases ok n s).acq = s.acq ∧ (dropReleases ok n s).tim = s.tim ∧ (dropReleases ok n s).ref = s.ref ∧
    (dropReleases ok n s).mach = s.mach ∧ (dropReleases ok n s).pst = s.pst ∧ (dropReleases ok n s).cht = s.cht ∧
    (dropReleases ok n s).dsp = s.dsp ∧ (dropReleases ok n s).tsk = s.tsk ∧ (dropReleases ok n s).nfl = s.nfl ∧
    (dropReleases ok n s).pai = s.pai ∧ (dropReleases ok n s).key = s.key ∧ (dropReleases ok n s).grade = s.grade ∧
    (dropReleases ok n s).free = s.free ∧ (dropReleases ok n s).pending = s.pending := by and_intros <;> rfl

@[simp] theorem dropAllGrants_keeps (s : State) :
    (dropAllGrants s).bank = s.bank ∧ (dropAllGrants s).recorder = s.recorder ∧ (dropAllGrants s).crp = s.crp ∧
    (dropAllGrants s).upd = s.upd ∧ (dropAllGrants s).ing = s.ing ∧ (dropAllGrants s).cor = s.cor ∧
    (dropAllGrants s).acq = s.acq ∧ (dropAllGrants s).tim = s.tim ∧ (dropAllGrants s).ref = s.ref ∧
    (dropAllGrants s).mach = s.mach ∧ (dropAllGrants s).pst = s.pst ∧ (dropAllGrants s).dsp = s.dsp ∧
    (dropAllGrants s).tsk = s.tsk ∧ (dropAllGrants s).nfl = s.nfl ∧ (dropAllGrants s).key = s.key ∧
    (dropAllGrants s).grade = s.grade ∧ (dropAllGrants s).free = s.free ∧ (dropAllGrants s).pending = s.pending := by and_intros <;> simp [dropAllGrants, List.range_succ]

/-- What a trigger's handling of the commands of its SAFE cycle never changes (R284): all but the latch, queues, grants, the recorder and indications. -/
def cmdSame (a b : State) : Prop :=
  b.crp = a.crp ∧ b.upd = a.upd ∧ b.ing = a.ing ∧ b.cor = a.cor ∧ b.acq = a.acq ∧ b.tim =
  a.tim ∧ b.ref = a.ref ∧ b.mach = a.mach ∧ b.pst = a.pst ∧ b.dsp = a.dsp ∧ b.tsk = a.tsk ∧ b.key = a.key ∧ b.grade
  = a.grade ∧ b.free = a.free ∧ b.pending = a.pending

theorem cmdSame.trans {a b c : State} (h : cmdSame a b) (g : cmdSame b c) : cmdSame a c := by simp_all [cmdSame]

/-- A fold of steps that keep these parts keeps them. -/
theorem cmdSame_fold {α : Type} (f : State → α → State) (h : ∀ s x, cmdSame s (f s x)) (l : List α) :
    ∀ s, cmdSame s (l.foldl f s) := by
  induction l with
  | nil => intro s; simp [cmdSame]
  | cons x l ih => intro s; exact (h s x).trans (ih _)

theorem undoRow_same (s : State) (c : NflCmd) : cmdSame s (undoRow s c) := by
  unfold undoRow
  dsimp only
  split <;> (repeat' split) <;> simp [cmdSame, List.range_succ, unstick]

theorem refuseRow_same (s : State) (c : NflCmd) : cmdSame s (refuseRow s c) := by
  unfold refuseRow
  split <;> simp [cmdSame]

theorem refuseByTrigger_same (s : State) : cmdSame s (refuseByTrigger s) := by
  unfold refuseByTrigger
  dsimp only
  refine .trans ?_ (cmdSame_fold _ refuseRow_same _ _)
  refine .trans (b := if s.nfl.confirm.isSome then nfRefuse 2 6 0 (setNfl { s.nfl with confirm := none } s) else s) ?_
    (.trans (cmdSame_fold _ undoRow_same (rowsNow s) _) ?_)
  · split <;> simp [cmdSame]
  · simp [cmdSame]

@[simp] theorem refuseByTrigger_keeps (s : State) :
    (refuseByTrigger s).crp = s.crp ∧ (refuseByTrigger s).upd = s.upd ∧
    (refuseByTrigger s).ing = s.ing ∧ (refuseByTrigger s).cor = s.cor ∧ (refuseByTrigger s).acq = s.acq ∧
    (refuseByTrigger s).tim = s.tim ∧ (refuseByTrigger s).ref = s.ref ∧ (refuseByTrigger s).mach = s.mach ∧
    (refuseByTrigger s).pst = s.pst ∧ (refuseByTrigger s).dsp = s.dsp ∧ (refuseByTrigger s).tsk = s.tsk ∧
    (refuseByTrigger s).key = s.key ∧ (refuseByTrigger s).grade = s.grade ∧ (refuseByTrigger s).free = s.free ∧
    (refuseByTrigger s).pending = s.pending := by
  have h := refuseByTrigger_same s
  simpa [cmdSame] using h

@[simp] theorem amendLatch_keeps (cause : Nat) (extra : List Byte) (s : State) :
    (amendLatch cause extra s).bank = s.bank ∧ (amendLatch cause extra s).io = s.io ∧
    (amendLatch cause extra s).crp = s.crp ∧ (amendLatch cause extra s).upd = s.upd ∧
    (amendLatch cause extra s).ing = s.ing ∧ (amendLatch cause extra s).cor = s.cor ∧
    (amendLatch cause extra s).acq = s.acq ∧ (amendLatch cause extra s).tim = s.tim ∧
    (amendLatch cause extra s).ref = s.ref ∧ (amendLatch cause extra s).net = s.net ∧
    (amendLatch cause extra s).mach = s.mach ∧ (amendLatch cause extra s).pst = s.pst ∧
    (amendLatch cause extra s).cht = s.cht ∧ (amendLatch cause extra s).dsp = s.dsp ∧
    (amendLatch cause extra s).tsk = s.tsk ∧ (amendLatch cause extra s).nfl = s.nfl ∧
    (amendLatch cause extra s).pai = s.pai ∧ (amendLatch cause extra s).key = s.key ∧
    (amendLatch cause extra s).grade = s.grade ∧ (amendLatch cause extra s).free = s.free ∧
    (amendLatch cause extra s).pending = s.pending := by and_intros <;> rfl

@[simp] theorem nfAgain_keeps (cause : Nat) (extra : List Byte) (s : State) :
    (nfAgain cause extra s).crp = s.crp ∧ (nfAgain cause extra s).ing = s.ing ∧ (nfAgain cause extra s).cor = s.cor ∧
    (nfAgain cause extra s).acq = s.acq ∧ (nfAgain cause extra s).tim = s.tim ∧ (nfAgain cause extra s).ref = s.ref ∧
    (nfAgain cause extra s).net = s.net ∧ (nfAgain cause extra s).mach = s.mach ∧ (nfAgain cause extra s).pst = s.pst ∧
    (nfAgain cause extra s).cht = s.cht ∧ (nfAgain cause extra s).dsp = s.dsp ∧ (nfAgain cause extra s).tsk = s.tsk ∧
    (nfAgain cause extra s).pai = s.pai ∧ (nfAgain cause extra s).key = s.key ∧
    (nfAgain cause extra s).grade = s.grade ∧ (nfAgain cause extra s).free = s.free ∧
    (nfAgain cause extra s).pending = s.pending := by
  unfold nfAgain
  and_intros <;> dsimp only <;> split <;> simp

@[simp] theorem nfTriggerWith_keeps (cause : Nat) (extra : List Byte) (s : State) :
    (nfTriggerWith cause extra s).crp = s.crp ∧ (nfTriggerWith cause extra s).ing = s.ing ∧
    (nfTriggerWith cause extra s).cor = s.cor ∧ (nfTriggerWith cause extra s).acq = s.acq ∧
    (nfTriggerWith cause extra s).tim = s.tim ∧ (nfTriggerWith cause extra s).ref = s.ref ∧
    (nfTriggerWith cause extra s).mach = s.mach ∧ (nfTriggerWith cause extra s).pst = s.pst ∧
    (nfTriggerWith cause extra s).dsp = s.dsp ∧ (nfTriggerWith cause extra s).tsk = s.tsk ∧
    (nfTriggerWith cause extra s).key = s.key ∧ (nfTriggerWith cause extra s).grade = s.grade ∧
    (nfTriggerWith cause extra s).free = s.free ∧ (nfTriggerWith cause extra s).pending = s.pending :=
  by
  unfold nfTriggerWith
  and_intros <;> dsimp only <;> (repeat' split) <;> simp

@[simp] theorem nfTellPeer_keeps (cause : Nat) (s : State) :
    (nfTellPeer cause s).bank = s.bank ∧ (nfTellPeer cause s).recorder = s.recorder ∧
    (nfTellPeer cause s).crp = s.crp ∧ (nfTellPeer cause s).upd = s.upd ∧ (nfTellPeer cause s).ing = s.ing ∧
    (nfTellPeer cause s).cor = s.cor ∧ (nfTellPeer cause s).acq = s.acq ∧ (nfTellPeer cause s).tim = s.tim ∧
    (nfTellPeer cause s).ref = s.ref ∧ (nfTellPeer cause s).net = s.net ∧ (nfTellPeer cause s).mach = s.mach ∧
    (nfTellPeer cause s).pst = s.pst ∧ (nfTellPeer cause s).cht = s.cht ∧ (nfTellPeer cause s).dsp = s.dsp ∧
    (nfTellPeer cause s).tsk = s.tsk ∧ (nfTellPeer cause s).nfl = s.nfl ∧ (nfTellPeer cause s).pai = s.pai ∧
    (nfTellPeer cause s).key = s.key ∧ (nfTellPeer cause s).grade = s.grade ∧ (nfTellPeer cause s).free = s.free ∧
    (nfTellPeer cause s).pending = s.pending := by and_intros <;> unfold nfTellPeer <;> split <;> simp

@[simp] theorem tellActive_keeps (s : State) :
    (tellActive s).bank = s.bank ∧ (tellActive s).recorder = s.recorder ∧ (tellActive s).crp = s.crp ∧
    (tellActive s).upd = s.upd ∧ (tellActive s).ing = s.ing ∧ (tellActive s).cor = s.cor ∧
    (tellActive s).acq = s.acq ∧ (tellActive s).tim = s.tim ∧ (tellActive s).ref = s.ref ∧
    (tellActive s).net = s.net ∧ (tellActive s).mach = s.mach ∧ (tellActive s).pst = s.pst ∧
    (tellActive s).cht = s.cht ∧ (tellActive s).dsp = s.dsp ∧ (tellActive s).tsk = s.tsk ∧
    (tellActive s).nfl = s.nfl ∧ (tellActive s).key = s.key ∧ (tellActive s).grade = s.grade ∧
    (tellActive s).free = s.free ∧ (tellActive s).pending = s.pending := by
  unfold tellActive
  and_intros <;> dsimp only <;> (repeat' split) <;> first | rfl | simp

@[simp] theorem nfTrigger_keeps (cause : Nat) (s : State) :
    (nfTrigger cause s).crp = s.crp ∧ (nfTrigger cause s).ing = s.ing ∧ (nfTrigger cause s).cor = s.cor ∧
    (nfTrigger cause s).acq = s.acq ∧ (nfTrigger cause s).tim = s.tim ∧ (nfTrigger cause s).ref = s.ref ∧
    (nfTrigger cause s).mach = s.mach ∧ (nfTrigger cause s).pst = s.pst ∧ (nfTrigger cause s).dsp = s.dsp ∧
    (nfTrigger cause s).tsk = s.tsk ∧ (nfTrigger cause s).key = s.key ∧ (nfTrigger cause s).grade = s.grade ∧
    (nfTrigger cause s).free = s.free ∧ (nfTrigger cause s).pending = s.pending := by and_intros <;> simp [nfTrigger]

@[simp] theorem timCheckBound_keeps (s : State) :
    (timCheckBound s).crp = s.crp ∧ (timCheckBound s).ing = s.ing ∧ (timCheckBound s).cor = s.cor ∧
    (timCheckBound s).acq = s.acq ∧ (timCheckBound s).ref = s.ref ∧ (timCheckBound s).mach = s.mach ∧
    (timCheckBound s).pst = s.pst ∧ (timCheckBound s).dsp = s.dsp ∧ (timCheckBound s).tsk = s.tsk ∧
    (timCheckBound s).key = s.key ∧ (timCheckBound s).grade = s.grade ∧ (timCheckBound s).free = s.free ∧
    (timCheckBound s).pending = s.pending := by
  unfold timCheckBound
  and_intros <;> dsimp only <;> (repeat' split) <;> first | rfl | simp

@[simp] theorem keyGrace_keeps (s : State) :
    (keyGrace s).crp = s.crp ∧ (keyGrace s).ing = s.ing ∧ (keyGrace s).cor = s.cor ∧ (keyGrace s).acq = s.acq ∧
    (keyGrace s).tim = s.tim ∧ (keyGrace s).ref = s.ref ∧ (keyGrace s).mach = s.mach ∧ (keyGrace s).pst = s.pst ∧
    (keyGrace s).dsp = s.dsp ∧ (keyGrace s).tsk = s.tsk ∧ (keyGrace s).key = s.key ∧ (keyGrace s).grade = s.grade ∧
    (keyGrace s).free = s.free ∧ (keyGrace s).pending = s.pending := by and_intros <;> unfold keyGrace <;> split <;> simp

@[simp] theorem keyLossCheck_keeps (s : State) :
    (keyLossCheck s).crp = s.crp ∧ (keyLossCheck s).ing = s.ing ∧ (keyLossCheck s).cor = s.cor ∧
    (keyLossCheck s).acq = s.acq ∧ (keyLossCheck s).tim = s.tim ∧ (keyLossCheck s).ref = s.ref ∧
    (keyLossCheck s).mach = s.mach ∧ (keyLossCheck s).pst = s.pst ∧ (keyLossCheck s).dsp = s.dsp ∧
    (keyLossCheck s).tsk = s.tsk ∧ (keyLossCheck s).key = s.key ∧ (keyLossCheck s).grade = s.grade ∧
    (keyLossCheck s).free = s.free ∧ (keyLossCheck s).pending = s.pending := by
  unfold keyLossCheck
  and_intros <;> dsimp only <;> (repeat' split) <;> simp

@[simp] theorem setCrp_keeps (c : Crp) (s : State) :
    (setCrp c s).bank = s.bank ∧ (setCrp c s).io = s.io ∧ (setCrp c s).recorder = s.recorder ∧
    (setCrp c s).upd = s.upd ∧ (setCrp c s).ing = s.ing ∧ (setCrp c s).cor = s.cor ∧ (setCrp c s).acq = s.acq ∧
    (setCrp c s).tim = s.tim ∧ (setCrp c s).ref = s.ref ∧ (setCrp c s).net = s.net ∧ (setCrp c s).mach = s.mach ∧
    (setCrp c s).pst = s.pst ∧ (setCrp c s).cht = s.cht ∧ (setCrp c s).dsp = s.dsp ∧ (setCrp c s).tsk = s.tsk ∧
    (setCrp c s).nfl = s.nfl ∧ (setCrp c s).pai = s.pai ∧ (setCrp c s).key = s.key ∧ (setCrp c s).grade = s.grade ∧
    (setCrp c s).free = s.free ∧ (setCrp c s).pending = s.pending ∧ (setCrp c s).crp = c := by and_intros <;> rfl

@[simp] theorem leaveSurvey_keeps (m : Mode) (s : State) :
    (leaveSurvey m s).bank = s.bank ∧ (leaveSurvey m s).io = s.io ∧ (leaveSurvey m s).recorder = s.recorder ∧
    (leaveSurvey m s).crp = s.crp ∧ (leaveSurvey m s).upd = s.upd ∧ (leaveSurvey m s).ing = s.ing ∧
    (leaveSurvey m s).cor = s.cor ∧ (leaveSurvey m s).acq = s.acq ∧ (leaveSurvey m s).tim = s.tim ∧
    (leaveSurvey m s).net = s.net ∧ (leaveSurvey m s).mach = s.mach ∧ (leaveSurvey m s).pst = s.pst ∧
    (leaveSurvey m s).cht = s.cht ∧ (leaveSurvey m s).dsp = s.dsp ∧ (leaveSurvey m s).tsk = s.tsk ∧
    (leaveSurvey m s).nfl = s.nfl ∧ (leaveSurvey m s).pai = s.pai ∧ (leaveSurvey m s).key = s.key ∧
    (leaveSurvey m s).grade = s.grade ∧ (leaveSurvey m s).free = s.free ∧ (leaveSurvey m s).pending = s.pending := by and_intros <;> unfold leaveSurvey <;> split <;> simp

@[simp] theorem leaveSubclass0_keeps (m : Mode) (s : State) :
    (leaveSubclass0 m s).bank = s.bank ∧ (leaveSubclass0 m s).io = s.io ∧ (leaveSubclass0 m s).recorder = s.recorder ∧
    (leaveSubclass0 m s).crp = s.crp ∧ (leaveSubclass0 m s).upd = s.upd ∧ (leaveSubclass0 m s).cor = s.cor ∧
    (leaveSubclass0 m s).acq = s.acq ∧ (leaveSubclass0 m s).tim = s.tim ∧ (leaveSubclass0 m s).ref = s.ref ∧
    (leaveSubclass0 m s).net = s.net ∧ (leaveSubclass0 m s).mach = s.mach ∧ (leaveSubclass0 m s).pst = s.pst ∧
    (leaveSubclass0 m s).cht = s.cht ∧ (leaveSubclass0 m s).dsp = s.dsp ∧ (leaveSubclass0 m s).tsk = s.tsk ∧
    (leaveSubclass0 m s).nfl = s.nfl ∧ (leaveSubclass0 m s).pai = s.pai ∧ (leaveSubclass0 m s).key = s.key ∧
    (leaveSubclass0 m s).grade = s.grade ∧ (leaveSubclass0 m s).free = s.free ∧
    (leaveSubclass0 m s).pending = s.pending := by and_intros <;> unfold leaveSubclass0 <;> split <;> rfl

@[simp] theorem setMode_keeps (m : Mode) (s : State) :
    (setMode m s).bank = s.bank ∧ (setMode m s).io = s.io ∧ (setMode m s).recorder = s.recorder ∧
    (setMode m s).upd = s.upd ∧ (setMode m s).cor = s.cor ∧ (setMode m s).acq = s.acq ∧
    (setMode m s).tim = s.tim ∧ (setMode m s).net = s.net ∧ (setMode m s).mach = s.mach ∧ (setMode m s).pst = s.pst ∧
    (setMode m s).cht = s.cht ∧ (setMode m s).dsp = s.dsp ∧ (setMode m s).tsk = s.tsk ∧ (setMode m s).nfl = s.nfl ∧
    (setMode m s).pai = s.pai ∧ (setMode m s).key = s.key ∧ (setMode m s).grade = s.grade ∧
    (setMode m s).free = s.free ∧ (setMode m s).pending = s.pending := by and_intros <;> simp [setMode]

@[simp] theorem toHoldover_keeps (s : State) :
    (toHoldover s).bank = s.bank ∧ (toHoldover s).io = s.io ∧ (toHoldover s).recorder = s.recorder ∧
    (toHoldover s).upd = s.upd ∧ (toHoldover s).cor = s.cor ∧
    (toHoldover s).acq = s.acq ∧ (toHoldover s).tim = s.tim ∧ (toHoldover s).net = s.net ∧
    (toHoldover s).mach = s.mach ∧ (toHoldover s).pst = s.pst ∧ (toHoldover s).cht = s.cht ∧
    (toHoldover s).dsp = s.dsp ∧ (toHoldover s).tsk = s.tsk ∧ (toHoldover s).nfl = s.nfl ∧
    (toHoldover s).pai = s.pai ∧ (toHoldover s).key = s.key ∧ (toHoldover s).grade = s.grade ∧
    (toHoldover s).free = s.free ∧ (toHoldover s).pending = s.pending := by and_intros <;> unfold toHoldover <;> split <;> simp

@[simp] theorem fromHoldover_keeps (s : State) :
    (fromHoldover s).bank = s.bank ∧ (fromHoldover s).io = s.io ∧ (fromHoldover s).recorder = s.recorder ∧
    (fromHoldover s).upd = s.upd ∧ (fromHoldover s).cor = s.cor ∧
    (fromHoldover s).acq = s.acq ∧ (fromHoldover s).tim = s.tim ∧ (fromHoldover s).net = s.net ∧
    (fromHoldover s).mach = s.mach ∧ (fromHoldover s).pst = s.pst ∧ (fromHoldover s).cht = s.cht ∧
    (fromHoldover s).dsp = s.dsp ∧ (fromHoldover s).tsk = s.tsk ∧ (fromHoldover s).nfl = s.nfl ∧
    (fromHoldover s).pai = s.pai ∧ (fromHoldover s).key = s.key ∧ (fromHoldover s).grade = s.grade ∧
    (fromHoldover s).free = s.free ∧ (fromHoldover s).pending = s.pending := by and_intros <;> unfold fromHoldover <;> split <;> simp

@[simp] theorem setDsp_keeps (d : Dsp) (s : State) :
    (setDsp d s).bank = s.bank ∧ (setDsp d s).io = s.io ∧ (setDsp d s).recorder = s.recorder ∧
    (setDsp d s).crp = s.crp ∧ (setDsp d s).upd = s.upd ∧ (setDsp d s).ing = s.ing ∧ (setDsp d s).cor = s.cor ∧
    (setDsp d s).acq = s.acq ∧ (setDsp d s).tim = s.tim ∧ (setDsp d s).ref = s.ref ∧ (setDsp d s).net = s.net ∧
    (setDsp d s).mach = s.mach ∧ (setDsp d s).pst = s.pst ∧ (setDsp d s).cht = s.cht ∧ (setDsp d s).tsk = s.tsk ∧
    (setDsp d s).nfl = s.nfl ∧ (setDsp d s).pai = s.pai ∧ (setDsp d s).key = s.key ∧ (setDsp d s).grade = s.grade ∧
    (setDsp d s).free = s.free ∧ (setDsp d s).pending = s.pending ∧ (setDsp d s).dsp = d := by and_intros <;> rfl

@[simp] theorem heldChanged_keeps (s : State) :
    (heldChanged s).recorder = s.recorder ∧ (heldChanged s).crp = s.crp ∧ (heldChanged s).upd = s.upd ∧
    (heldChanged s).ing = s.ing ∧ (heldChanged s).cor = s.cor ∧ (heldChanged s).acq = s.acq ∧
    (heldChanged s).tim = s.tim ∧ (heldChanged s).ref = s.ref ∧ (heldChanged s).net = s.net ∧
    (heldChanged s).mach = s.mach ∧ (heldChanged s).pst = s.pst ∧ (heldChanged s).cht = s.cht ∧
    (heldChanged s).tsk = s.tsk ∧ (heldChanged s).nfl = s.nfl ∧ (heldChanged s).pai = s.pai ∧
    (heldChanged s).key = s.key ∧ (heldChanged s).grade = s.grade ∧ (heldChanged s).free = s.free ∧
    (heldChanged s).pending = s.pending := by
  unfold heldChanged
  and_intros <;> dsimp only <;> (repeat' split) <;> rfl

@[simp] theorem addJob_keeps (kind : JobKind) (flow : Nat) (level : Nat) (stamp : Int) (tRx : Int) (gate : Option Int) (work : JobWork) (cmd : Option Cmd) (s : State) :
    (addJob kind flow level stamp tRx gate work cmd s).recorder = s.recorder ∧
    (addJob kind flow level stamp tRx gate work cmd s).crp = s.crp ∧
    (addJob kind flow level stamp tRx gate work cmd s).upd = s.upd ∧
    (addJob kind flow level stamp tRx gate work cmd s).ing = s.ing ∧
    (addJob kind flow level stamp tRx gate work cmd s).cor = s.cor ∧
    (addJob kind flow level stamp tRx gate work cmd s).acq = s.acq ∧
    (addJob kind flow level stamp tRx gate work cmd s).tim = s.tim ∧
    (addJob kind flow level stamp tRx gate work cmd s).ref = s.ref ∧
    (addJob kind flow level stamp tRx gate work cmd s).net = s.net ∧
    (addJob kind flow level stamp tRx gate work cmd s).mach = s.mach ∧
    (addJob kind flow level stamp tRx gate work cmd s).pst = s.pst ∧
    (addJob kind flow level stamp tRx gate work cmd s).cht = s.cht ∧
    (addJob kind flow level stamp tRx gate work cmd s).tsk = s.tsk ∧
    (addJob kind flow level stamp tRx gate work cmd s).nfl = s.nfl ∧
    (addJob kind flow level stamp tRx gate work cmd s).pai = s.pai ∧
    (addJob kind flow level stamp tRx gate work cmd s).key = s.key ∧
    (addJob kind flow level stamp tRx gate work cmd s).grade = s.grade ∧
    (addJob kind flow level stamp tRx gate work cmd s).free = s.free ∧
    (addJob kind flow level stamp tRx gate work cmd s).pending = s.pending := by and_intros <;> simp [addJob]

@[simp] theorem updJob_keeps (id : Nat) (f : Job → Job) (s : State) :
    (updJob id f s).bank = s.bank ∧ (updJob id f s).io = s.io ∧ (updJob id f s).recorder = s.recorder ∧
    (updJob id f s).crp = s.crp ∧ (updJob id f s).upd = s.upd ∧ (updJob id f s).ing = s.ing ∧
    (updJob id f s).cor = s.cor ∧ (updJob id f s).acq = s.acq ∧ (updJob id f s).tim = s.tim ∧
    (updJob id f s).ref = s.ref ∧ (updJob id f s).net = s.net ∧ (updJob id f s).mach = s.mach ∧
    (updJob id f s).pst = s.pst ∧ (updJob id f s).cht = s.cht ∧ (updJob id f s).tsk = s.tsk ∧
    (updJob id f s).nfl = s.nfl ∧ (updJob id f s).pai = s.pai ∧ (updJob id f s).key = s.key ∧
    (updJob id f s).grade = s.grade ∧ (updJob id f s).free = s.free ∧ (updJob id f s).pending = s.pending := by and_intros <;> rfl

@[simp] theorem succeed_keeps (id : Nat) (kind : JobKind) (gate : Option Int) (excluded : Option Nat) (work : JobWork) (s : State) :
    (succeed id kind gate excluded work s).recorder = s.recorder ∧
    (succeed id kind gate excluded work s).crp = s.crp ∧ (succeed id kind gate excluded work s).upd = s.upd ∧
    (succeed id kind gate excluded work s).ing = s.ing ∧ (succeed id kind gate excluded work s).cor = s.cor ∧
    (succeed id kind gate excluded work s).acq = s.acq ∧ (succeed id kind gate excluded work s).tim = s.tim ∧
    (succeed id kind gate excluded work s).ref = s.ref ∧ (succeed id kind gate excluded work s).net = s.net ∧
    (succeed id kind gate excluded work s).mach = s.mach ∧ (succeed id kind gate excluded work s).pst = s.pst ∧
    (succeed id kind gate excluded work s).cht = s.cht ∧ (succeed id kind gate excluded work s).tsk = s.tsk ∧
    (succeed id kind gate excluded work s).nfl = s.nfl ∧ (succeed id kind gate excluded work s).pai = s.pai ∧
    (succeed id kind gate excluded work s).key = s.key ∧ (succeed id kind gate excluded work s).grade = s.grade ∧
    (succeed id kind gate excluded work s).free = s.free ∧
    (succeed id kind gate excluded work s).pending = s.pending := by and_intros <;> rfl

/-- Completing many commands in turn. -/
@[simp] theorem foldComplete_keeps {α : Type} (g : α → Cmd) (c : α → Nat) (d : α → List Byte) (l : List α) (s : State) :
    (l.foldl (fun s x => complete (g x) (c x) (d x) s) s).bank = s.bank ∧
    (l.foldl (fun s x => complete (g x) (c x) (d x) s) s).recorder = s.recorder ∧
    (l.foldl (fun s x => complete (g x) (c x) (d x) s) s).crp = s.crp ∧
    (l.foldl (fun s x => complete (g x) (c x) (d x) s) s).upd = s.upd ∧
    (l.foldl (fun s x => complete (g x) (c x) (d x) s) s).ing = s.ing ∧
    (l.foldl (fun s x => complete (g x) (c x) (d x) s) s).cor = s.cor ∧
    (l.foldl (fun s x => complete (g x) (c x) (d x) s) s).acq = s.acq ∧
    (l.foldl (fun s x => complete (g x) (c x) (d x) s) s).tim = s.tim ∧
    (l.foldl (fun s x => complete (g x) (c x) (d x) s) s).ref = s.ref ∧
    (l.foldl (fun s x => complete (g x) (c x) (d x) s) s).net = s.net ∧
    (l.foldl (fun s x => complete (g x) (c x) (d x) s) s).mach = s.mach ∧
    (l.foldl (fun s x => complete (g x) (c x) (d x) s) s).pst = s.pst ∧
    (l.foldl (fun s x => complete (g x) (c x) (d x) s) s).cht = s.cht ∧
    (l.foldl (fun s x => complete (g x) (c x) (d x) s) s).tsk = s.tsk ∧
    (l.foldl (fun s x => complete (g x) (c x) (d x) s) s).nfl = s.nfl ∧
    (l.foldl (fun s x => complete (g x) (c x) (d x) s) s).pai = s.pai ∧
    (l.foldl (fun s x => complete (g x) (c x) (d x) s) s).key = s.key ∧
    (l.foldl (fun s x => complete (g x) (c x) (d x) s) s).grade = s.grade ∧
    (l.foldl (fun s x => complete (g x) (c x) (d x) s) s).free = s.free ∧
    (l.foldl (fun s x => complete (g x) (c x) (d x) s) s).pending = s.pending ∧
    (l.foldl (fun s x => complete (g x) (c x) (d x) s) s).dsp = s.dsp := by
  induction l generalizing s with
  | nil => simp
  | cons a l ih => simpa using ih (complete (g a) (c a) (d a) s)

@[simp] theorem flushLate_keeps (s : State) :
    (flushLate s).bank = s.bank ∧ (flushLate s).recorder = s.recorder ∧ (flushLate s).crp = s.crp ∧
    (flushLate s).upd = s.upd ∧ (flushLate s).ing = s.ing ∧ (flushLate s).cor = s.cor ∧ (flushLate s).acq = s.acq ∧
    (flushLate s).tim = s.tim ∧ (flushLate s).ref = s.ref ∧ (flushLate s).net = s.net ∧ (flushLate s).mach = s.mach ∧
    (flushLate s).pst = s.pst ∧ (flushLate s).cht = s.cht ∧ (flushLate s).tsk = s.tsk ∧ (flushLate s).nfl = s.nfl ∧
    (flushLate s).pai = s.pai ∧ (flushLate s).key = s.key ∧ (flushLate s).grade = s.grade ∧
    (flushLate s).free = s.free ∧ (flushLate s).pending = s.pending := by
  and_intros <;> simp [flushLate]

@[simp] theorem endJob_keeps (id : Nat) (s : State) :
    (endJob id s).recorder = s.recorder ∧ (endJob id s).crp = s.crp ∧ (endJob id s).upd = s.upd ∧
    (endJob id s).ing = s.ing ∧ (endJob id s).cor = s.cor ∧ (endJob id s).acq = s.acq ∧ (endJob id s).tim = s.tim ∧
    (endJob id s).ref = s.ref ∧ (endJob id s).net = s.net ∧ (endJob id s).mach = s.mach ∧ (endJob id s).pst = s.pst ∧
    (endJob id s).cht = s.cht ∧ (endJob id s).tsk = s.tsk ∧ (endJob id s).nfl = s.nfl ∧ (endJob id s).pai = s.pai ∧
    (endJob id s).key = s.key ∧ (endJob id s).grade = s.grade ∧ (endJob id s).free = s.free ∧
    (endJob id s).pending = s.pending := by and_intros <;> simp [endJob]

@[simp] theorem countInherited_keeps (j : Job) (s : State) :
    (countInherited j s).io = s.io ∧ (countInherited j s).recorder = s.recorder ∧ (countInherited j s).crp = s.crp ∧
    (countInherited j s).upd = s.upd ∧ (countInherited j s).ing = s.ing ∧ (countInherited j s).cor = s.cor ∧
    (countInherited j s).acq = s.acq ∧ (countInherited j s).tim = s.tim ∧ (countInherited j s).ref = s.ref ∧
    (countInherited j s).net = s.net ∧ (countInherited j s).mach = s.mach ∧ (countInherited j s).pst = s.pst ∧
    (countInherited j s).cht = s.cht ∧ (countInherited j s).dsp = s.dsp ∧ (countInherited j s).tsk = s.tsk ∧
    (countInherited j s).nfl = s.nfl ∧ (countInherited j s).pai = s.pai ∧ (countInherited j s).key = s.key ∧
    (countInherited j s).grade = s.grade ∧ (countInherited j s).free = s.free ∧
    (countInherited j s).pending = s.pending := by and_intros <;> unfold countInherited <;> split <;> simp

@[simp] theorem intakeServed_keeps (src : Nat) (s : State) :
    (intakeServed src s).bank = s.bank ∧ (intakeServed src s).io = s.io ∧
    (intakeServed src s).recorder = s.recorder ∧ (intakeServed src s).crp = s.crp ∧
    (intakeServed src s).upd = s.upd ∧ (intakeServed src s).ing = s.ing ∧ (intakeServed src s).cor = s.cor ∧
    (intakeServed src s).acq = s.acq ∧ (intakeServed src s).tim = s.tim ∧ (intakeServed src s).ref = s.ref ∧
    (intakeServed src s).net = s.net ∧ (intakeServed src s).mach = s.mach ∧ (intakeServed src s).pst = s.pst ∧
    (intakeServed src s).cht = s.cht ∧ (intakeServed src s).tsk = s.tsk ∧ (intakeServed src s).nfl = s.nfl ∧
    (intakeServed src s).pai = s.pai ∧ (intakeServed src s).key = s.key ∧ (intakeServed src s).grade = s.grade ∧
    (intakeServed src s).free = s.free ∧ (intakeServed src s).pending = s.pending := by and_intros <;> rfl

@[simp] theorem swapRegs_keeps (sets : BitVec 8) (s : State) :
    (swapRegs sets s).io = s.io ∧ (swapRegs sets s).recorder = s.recorder ∧ (swapRegs sets s).crp = s.crp ∧
    (swapRegs sets s).upd = s.upd ∧ (swapRegs sets s).ing = s.ing ∧ (swapRegs sets s).cor = s.cor ∧
    (swapRegs sets s).acq = s.acq ∧ (swapRegs sets s).tim = s.tim ∧ (swapRegs sets s).ref = s.ref ∧
    (swapRegs sets s).net = s.net ∧ (swapRegs sets s).mach = s.mach ∧ (swapRegs sets s).pst = s.pst ∧
    (swapRegs sets s).cht = s.cht ∧ (swapRegs sets s).dsp = s.dsp ∧ (swapRegs sets s).tsk = s.tsk ∧
    (swapRegs sets s).nfl = s.nfl ∧ (swapRegs sets s).pai = s.pai ∧ (swapRegs sets s).key = s.key ∧
    (swapRegs sets s).grade = s.grade ∧ (swapRegs sets s).free = s.free ∧ (swapRegs sets s).pending = s.pending := by and_intros <;> rfl

@[simp] theorem setRef_keeps (r : Ref) (s : State) :
    (setRef r s).bank = s.bank ∧ (setRef r s).io = s.io ∧ (setRef r s).recorder = s.recorder ∧
    (setRef r s).crp = s.crp ∧ (setRef r s).upd = s.upd ∧ (setRef r s).ing = s.ing ∧ (setRef r s).cor = s.cor ∧
    (setRef r s).acq = s.acq ∧ (setRef r s).tim = s.tim ∧ (setRef r s).net = s.net ∧ (setRef r s).mach = s.mach ∧
    (setRef r s).pst = s.pst ∧ (setRef r s).cht = s.cht ∧ (setRef r s).dsp = s.dsp ∧ (setRef r s).tsk = s.tsk ∧
    (setRef r s).nfl = s.nfl ∧ (setRef r s).pai = s.pai ∧ (setRef r s).key = s.key ∧ (setRef r s).grade = s.grade ∧
    (setRef r s).free = s.free ∧ (setRef r s).pending = s.pending ∧ (setRef r s).ref = r := by and_intros <;> rfl

@[simp] theorem crpReject_keeps (s : State) :
    (crpReject s).bank = s.bank ∧ (crpReject s).recorder = s.recorder ∧ (crpReject s).crp = s.crp ∧
    (crpReject s).upd = s.upd ∧ (crpReject s).ing = s.ing ∧ (crpReject s).cor = s.cor ∧ (crpReject s).acq = s.acq ∧
    (crpReject s).tim = s.tim ∧ (crpReject s).ref = s.ref ∧ (crpReject s).net = s.net ∧ (crpReject s).mach = s.mach ∧
    (crpReject s).pst = s.pst ∧ (crpReject s).cht = s.cht ∧ (crpReject s).dsp = s.dsp ∧ (crpReject s).tsk = s.tsk ∧
    (crpReject s).nfl = s.nfl ∧ (crpReject s).pai = s.pai ∧ (crpReject s).key = s.key ∧
    (crpReject s).grade = s.grade ∧ (crpReject s).free = s.free ∧ (crpReject s).pending = s.pending := by and_intros <;> rfl

@[simp] theorem clearRegs_keeps (lo : Nat) (hi : Nat) (s : State) :
    (clearRegs lo hi s).io = s.io ∧ (clearRegs lo hi s).recorder = s.recorder ∧ (clearRegs lo hi s).crp = s.crp ∧
    (clearRegs lo hi s).upd = s.upd ∧ (clearRegs lo hi s).ing = s.ing ∧ (clearRegs lo hi s).cor = s.cor ∧
    (clearRegs lo hi s).acq = s.acq ∧ (clearRegs lo hi s).tim = s.tim ∧ (clearRegs lo hi s).ref = s.ref ∧
    (clearRegs lo hi s).net = s.net ∧ (clearRegs lo hi s).mach = s.mach ∧ (clearRegs lo hi s).pst = s.pst ∧
    (clearRegs lo hi s).cht = s.cht ∧ (clearRegs lo hi s).dsp = s.dsp ∧ (clearRegs lo hi s).tsk = s.tsk ∧
    (clearRegs lo hi s).nfl = s.nfl ∧ (clearRegs lo hi s).pai = s.pai ∧ (clearRegs lo hi s).key = s.key ∧
    (clearRegs lo hi s).grade = s.grade ∧ (clearRegs lo hi s).free = s.free ∧
    (clearRegs lo hi s).pending = s.pending := by and_intros <;> rfl

@[simp] theorem clearStk_keeps (lo : Nat) (hi : Nat) (s : State) :
    (clearStk lo hi s).bank = s.bank ∧ (clearStk lo hi s).recorder = s.recorder ∧ (clearStk lo hi s).crp = s.crp ∧
    (clearStk lo hi s).upd = s.upd ∧ (clearStk lo hi s).ing = s.ing ∧ (clearStk lo hi s).cor = s.cor ∧
    (clearStk lo hi s).acq = s.acq ∧ (clearStk lo hi s).tim = s.tim ∧ (clearStk lo hi s).ref = s.ref ∧
    (clearStk lo hi s).net = s.net ∧ (clearStk lo hi s).mach = s.mach ∧ (clearStk lo hi s).pst = s.pst ∧
    (clearStk lo hi s).cht = s.cht ∧ (clearStk lo hi s).dsp = s.dsp ∧ (clearStk lo hi s).tsk = s.tsk ∧
    (clearStk lo hi s).nfl = s.nfl ∧ (clearStk lo hi s).pai = s.pai ∧ (clearStk lo hi s).key = s.key ∧
    (clearStk lo hi s).grade = s.grade ∧ (clearStk lo hi s).free = s.free ∧ (clearStk lo hi s).pending = s.pending := by and_intros <;> rfl

@[simp] theorem setPd_keeps (k : Nat) (v : PdState) (s : State) :
    (setPd k v s).bank = s.bank ∧ (setPd k v s).io = s.io ∧ (setPd k v s).recorder = s.recorder ∧
    (setPd k v s).upd = s.upd ∧ (setPd k v s).ing = s.ing ∧ (setPd k v s).cor = s.cor ∧ (setPd k v s).acq = s.acq ∧
    (setPd k v s).tim = s.tim ∧ (setPd k v s).ref = s.ref ∧ (setPd k v s).net = s.net ∧ (setPd k v s).mach = s.mach ∧
    (setPd k v s).pst = s.pst ∧ (setPd k v s).cht = s.cht ∧ (setPd k v s).dsp = s.dsp ∧ (setPd k v s).tsk = s.tsk ∧
    (setPd k v s).nfl = s.nfl ∧ (setPd k v s).pai = s.pai ∧ (setPd k v s).key = s.key ∧
    (setPd k v s).grade = s.grade ∧ (setPd k v s).free = s.free ∧ (setPd k v s).pending = s.pending := by and_intros <;> rfl

@[simp] theorem setCtx_keeps (ch : Nat) (c : Ctx) (s : State) :
    (setCtx ch c s).bank = s.bank ∧ (setCtx ch c s).io = s.io ∧ (setCtx ch c s).recorder = s.recorder ∧
    (setCtx ch c s).crp = s.crp ∧ (setCtx ch c s).upd = s.upd ∧ (setCtx ch c s).ing = s.ing ∧
    (setCtx ch c s).acq = s.acq ∧ (setCtx ch c s).tim = s.tim ∧ (setCtx ch c s).ref = s.ref ∧
    (setCtx ch c s).net = s.net ∧ (setCtx ch c s).mach = s.mach ∧ (setCtx ch c s).pst = s.pst ∧
    (setCtx ch c s).cht = s.cht ∧ (setCtx ch c s).dsp = s.dsp ∧ (setCtx ch c s).tsk = s.tsk ∧
    (setCtx ch c s).nfl = s.nfl ∧ (setCtx ch c s).pai = s.pai ∧ (setCtx ch c s).key = s.key ∧
    (setCtx ch c s).grade = s.grade ∧ (setCtx ch c s).free = s.free ∧ (setCtx ch c s).pending = s.pending := by and_intros <;> rfl

@[simp] theorem setUnit_keeps (u : Nat) (x : CorUnit) (s : State) :
    (setUnit u x s).bank = s.bank ∧ (setUnit u x s).io = s.io ∧ (setUnit u x s).recorder = s.recorder ∧
    (setUnit u x s).crp = s.crp ∧ (setUnit u x s).upd = s.upd ∧ (setUnit u x s).ing = s.ing ∧
    (setUnit u x s).acq = s.acq ∧ (setUnit u x s).tim = s.tim ∧ (setUnit u x s).ref = s.ref ∧
    (setUnit u x s).net = s.net ∧ (setUnit u x s).mach = s.mach ∧ (setUnit u x s).pst = s.pst ∧
    (setUnit u x s).cht = s.cht ∧ (setUnit u x s).dsp = s.dsp ∧ (setUnit u x s).tsk = s.tsk ∧
    (setUnit u x s).nfl = s.nfl ∧ (setUnit u x s).pai = s.pai ∧ (setUnit u x s).key = s.key ∧
    (setUnit u x s).grade = s.grade ∧ (setUnit u x s).free = s.free ∧ (setUnit u x s).pending = s.pending := by and_intros <;> rfl

@[simp] theorem setCapture_keeps (id : Nat) (c : Capture) (s : State) :
    (setCapture id c s).bank = s.bank ∧ (setCapture id c s).io = s.io ∧ (setCapture id c s).recorder = s.recorder ∧
    (setCapture id c s).crp = s.crp ∧ (setCapture id c s).upd = s.upd ∧ (setCapture id c s).ing = s.ing ∧
    (setCapture id c s).cor = s.cor ∧ (setCapture id c s).tim = s.tim ∧ (setCapture id c s).ref = s.ref ∧
    (setCapture id c s).net = s.net ∧ (setCapture id c s).mach = s.mach ∧ (setCapture id c s).pst = s.pst ∧
    (setCapture id c s).cht = s.cht ∧ (setCapture id c s).dsp = s.dsp ∧ (setCapture id c s).tsk = s.tsk ∧
    (setCapture id c s).nfl = s.nfl ∧ (setCapture id c s).pai = s.pai ∧ (setCapture id c s).key = s.key ∧
    (setCapture id c s).grade = s.grade ∧ (setCapture id c s).free = s.free ∧
    (setCapture id c s).pending = s.pending := by and_intros <;> rfl

@[simp] theorem releaseDue_keeps (s : State) :
    (releaseDue s).bank = s.bank ∧ (releaseDue s).io = s.io ∧ (releaseDue s).recorder = s.recorder ∧
    (releaseDue s).crp = s.crp ∧ (releaseDue s).upd = s.upd ∧ (releaseDue s).ing = s.ing ∧
    (releaseDue s).cor = s.cor ∧ (releaseDue s).tim = s.tim ∧ (releaseDue s).ref = s.ref ∧
    (releaseDue s).net = s.net ∧ (releaseDue s).mach = s.mach ∧ (releaseDue s).pst = s.pst ∧
    (releaseDue s).cht = s.cht ∧ (releaseDue s).dsp = s.dsp ∧ (releaseDue s).tsk = s.tsk ∧
    (releaseDue s).nfl = s.nfl ∧ (releaseDue s).pai = s.pai ∧ (releaseDue s).key = s.key ∧
    (releaseDue s).grade = s.grade ∧ (releaseDue s).free = s.free ∧ (releaseDue s).pending = s.pending := by and_intros <;> rfl

@[simp] theorem ctxIdle_keeps (ch : Nat) (c : Ctx) (s : State) :
    (ctxIdle ch c s).bank = s.bank ∧ (ctxIdle ch c s).io = s.io ∧ (ctxIdle ch c s).recorder = s.recorder ∧
    (ctxIdle ch c s).crp = s.crp ∧ (ctxIdle ch c s).upd = s.upd ∧ (ctxIdle ch c s).ing = s.ing ∧
    (ctxIdle ch c s).tim = s.tim ∧ (ctxIdle ch c s).ref = s.ref ∧ (ctxIdle ch c s).net = s.net ∧
    (ctxIdle ch c s).mach = s.mach ∧ (ctxIdle ch c s).pst = s.pst ∧ (ctxIdle ch c s).cht = s.cht ∧
    (ctxIdle ch c s).dsp = s.dsp ∧ (ctxIdle ch c s).tsk = s.tsk ∧ (ctxIdle ch c s).nfl = s.nfl ∧
    (ctxIdle ch c s).pai = s.pai ∧ (ctxIdle ch c s).key = s.key ∧ (ctxIdle ch c s).grade = s.grade ∧
    (ctxIdle ch c s).free = s.free ∧ (ctxIdle ch c s).pending = s.pending := by and_intros <;> rfl

@[simp] theorem resetCorr_keeps (r : Nat) (s : State) :
    (resetCorr r s).io = s.io ∧ (resetCorr r s).recorder = s.recorder ∧ (resetCorr r s).crp = s.crp ∧
    (resetCorr r s).upd = s.upd ∧ (resetCorr r s).ing = s.ing ∧ (resetCorr r s).tim = s.tim ∧
    (resetCorr r s).ref = s.ref ∧ (resetCorr r s).net = s.net ∧ (resetCorr r s).mach = s.mach ∧
    (resetCorr r s).pst = s.pst ∧ (resetCorr r s).cht = s.cht ∧ (resetCorr r s).dsp = s.dsp ∧
    (resetCorr r s).tsk = s.tsk ∧ (resetCorr r s).nfl = s.nfl ∧ (resetCorr r s).pai = s.pai ∧
    (resetCorr r s).key = s.key ∧ (resetCorr r s).grade = s.grade ∧ (resetCorr r s).free = s.free ∧
    (resetCorr r s).pending = s.pending := by and_intros <;> rfl

@[simp] theorem resetAcq_keeps (s : State) :
    (resetAcq s).recorder = s.recorder ∧ (resetAcq s).crp = s.crp ∧ (resetAcq s).upd = s.upd ∧
    (resetAcq s).ing = s.ing ∧ (resetAcq s).cor = s.cor ∧ (resetAcq s).tim = s.tim ∧ (resetAcq s).ref = s.ref ∧
    (resetAcq s).net = s.net ∧ (resetAcq s).mach = s.mach ∧ (resetAcq s).pst = s.pst ∧ (resetAcq s).cht = s.cht ∧
    (resetAcq s).dsp = s.dsp ∧ (resetAcq s).tsk = s.tsk ∧ (resetAcq s).nfl = s.nfl ∧ (resetAcq s).pai = s.pai ∧
    (resetAcq s).key = s.key ∧ (resetAcq s).grade = s.grade ∧ (resetAcq s).free = s.free ∧
    (resetAcq s).pending = s.pending := by and_intros <;> rfl

end Sys2Proof.Machine
end

