-- ==== Sys2Proof/Laws/Tab.lean ====
section
/-! SUPPORT. Laws of the sparse tables: reading after a write, and the canonical form. -/
namespace Sys2Proof.Machine

variable {α : Type}

@[simp] theorem Tab.get_nil (d : Nat → α) (k : Nat) : Tab.get d [] k = d k := rfl

theorem Tab.get_del_same (d : Nat → α) (t : Tab α) (k : Nat) : Tab.get d (Tab.del t k) k = d k := by
  induction t with
  | nil => rfl
  | cons e t ih =>
    by_cases h : e.1 = k
    · simp [Tab.del, h, ih]
    · simp [Tab.del, h, Tab.get, ih]

theorem Tab.get_del_ne (d : Nat → α) (t : Tab α) {k j : Nat} (n : j ≠ k) : Tab.get d (Tab.del t k) j = Tab.get d t j := by
  induction t with
  | nil => rfl
  | cons e t ih =>
    by_cases h : e.1 = k
    · have : e.1 ≠ j := fun c => n (c.symm.trans h)
      simp [Tab.del, h, Tab.get, ih]
      intro c; exact absurd (h.trans c) this
    · simp [Tab.del, h, Tab.get, ih]

theorem Tab.get_ins_same (d : Nat → α) (t : Tab α) (k : Nat) (v : α) : Tab.get d (Tab.ins t k v) k = v := by
  induction t with
  | nil => simp [Tab.ins, Tab.get]
  | cons e t ih =>
    unfold Tab.ins
    split
    · simp [Tab.get]
    · split
      · simp [Tab.get]
      · rename_i h; simp [Tab.get, h, ih]

theorem Tab.get_ins_ne (d : Nat → α) (t : Tab α) {k j : Nat} (v : α) (n : j ≠ k) :
    Tab.get d (Tab.ins t k v) j = Tab.get d t j := by
  have n' : k ≠ j := fun c => n c.symm
  induction t with
  | nil => simp [Tab.ins, Tab.get, n']
  | cons e t ih =>
    unfold Tab.ins
    split
    · simp [Tab.get, n']
    · split
      · rename_i h; subst h; simp [Tab.get, n']
      · simp [Tab.get, ih]

/-- Reading the index written gives the value written. -/
@[simp] theorem Tab.get_put_same [DecidableEq α] (d : Nat → α) (t : Tab α) (k : Nat) (v : α) :
    Tab.get d (Tab.put d t k v) k = v := by
  unfold Tab.put
  split
  · rename_i h; rw [Tab.get_del_same, h]
  · exact Tab.get_ins_same d t k v

/-- Reading another index gives what it gave. -/
theorem Tab.get_put_ne [DecidableEq α] (d : Nat → α) (t : Tab α) {k j : Nat} (v : α) (n : j ≠ k) :
    Tab.get d (Tab.put d t k v) j = Tab.get d t j := by
  unfold Tab.put
  split
  · exact Tab.get_del_ne d t n
  · exact Tab.get_ins_ne d t v n

theorem Tab.above_weaken [DecidableEq α] (d : Nat → α) {lo : Option Nat} {k : Nat} {t : Tab α}
    (h : Tab.above d (some k) t = true) (m : ∀ l, lo = some l → l ≤ k) : Tab.above d lo t = true := by
  cases t with
  | nil => rfl
  | cons e t =>
    simp only [Tab.above, Bool.and_eq_true, decide_eq_true_eq] at h ⊢
    refine ⟨⟨?_, h.1.2⟩, h.2⟩
    cases lo with
    | none => rfl
    | some l => have := m l rfl; simpa using Nat.lt_of_le_of_lt this h.1.1

theorem Tab.above_del [DecidableEq α] (d : Nat → α) (k : Nat) :
    ∀ (t : Tab α) (lo : Option Nat), Tab.above d lo t = true → Tab.above d lo (Tab.del t k) = true := by
  intro t
  induction t with
  | nil => intro lo h; exact h
  | cons e t ih =>
    intro lo h
    simp only [Tab.above, Bool.and_eq_true] at h
    unfold Tab.del
    split
    · refine Tab.above_weaken (k := e.1) d (ih _ h.2) ?_
      intro l hl; subst hl
      have h1 := h.1.1
      simp only [decide_eq_true_eq] at h1
      exact Nat.le_of_lt h1
    · simp only [Tab.above, Bool.and_eq_true]
      exact ⟨h.1, ih _ h.2⟩

theorem Tab.above_ins [DecidableEq α] (d : Nat → α) (k : Nat) (v : α) (n : v ≠ d k) :
    ∀ (t : Tab α) (lo : Option Nat), (∀ l, lo = some l → l < k) → Tab.above d lo t = true →
      Tab.above d lo (Tab.ins t k v) = true := by
  intro t
  induction t with
  | nil =>
    intro lo m _
    cases lo with
    | none => simp [Tab.ins, Tab.above, n]
    | some l => simp [Tab.ins, Tab.above, n, m l rfl]
  | cons e t ih =>
    intro lo m h
    simp only [Tab.above, Bool.and_eq_true] at h
    unfold Tab.ins
    split
    · rename_i lt
      simp only [Tab.above, Bool.and_eq_true]
      refine ⟨⟨?_, by simpa using n⟩, ⟨by simpa using lt, h.1.2⟩, h.2⟩
      cases lo with
      | none => rfl
      | some l => simpa using m l rfl
    · split
      · rename_i eq
        simp only [Tab.above, Bool.and_eq_true]
        refine ⟨⟨?_, by simpa using n⟩, by rw [eq] at h; exact h.2⟩
        cases lo with
        | none => rfl
        | some l => simpa using m l rfl
      · rename_i lt ne
        simp only [Tab.above, Bool.and_eq_true]
        refine ⟨h.1, ih _ ?_ h.2⟩
        intro l hl
        have : e.1 = l := Option.some.inj hl
        omega

/-- A write keeps the canonical form. -/
theorem Tab.wf_put [DecidableEq α] (d : Nat → α) (t : Tab α) (k : Nat) (v : α) (h : Tab.wf d t = true) :
    Tab.wf d (Tab.put d t k v) = true := by
  unfold Tab.put
  split
  · exact Tab.above_del d k t none h
  · rename_i n
    exact Tab.above_ins d k v n t none (fun l hl => by cases hl) h

end Sys2Proof.Machine
end

