-- ==== Sys2Proof/Laws/Indications.lean ====
section
/-! SUPPORT. Laws of the indications: what a sticky word reads after each primitive, and that no primitive but a clear
ever clears a sticky bit. -/
namespace Sys2Proof.Machine
open Sys2Proof.Safety

/-- Every sticky bit of `io` is set in `io'`. -/
def ioStkLe (io io' : Io) : Prop := ∀ a b, bitAt (ioStk io a) b = true → bitAt (ioStk io' a) b = true

theorem ioStkLe.refl (io : Io) : ioStkLe io io := fun _ _ h => h
theorem ioStkLe.trans {a b c : Io} (h : ioStkLe a b) (g : ioStkLe b c) : ioStkLe a c := fun x y z => g x y (h x y z)

theorem ioStkLe.of_eq {io io' : Io} (h : io'.stk = io.stk) : ioStkLe io io' := by
  intro a b k; unfold ioStk at *; rw [h]; exact k

theorem ev_le (io : Io) (g : Nat) (e : EvGroup) : ioStkLe io (ioSetEv io g e) := .of_eq rfl
theorem ring_le (io : Io) (r : Nat) (x : Ring) : ioStkLe io (ioSetRing io r x) := .of_eq rfl
theorem vec_le (io : Io) (v : Nat) (x : Vec) : ioStkLe io (ioSetVec io v x) := .of_eq rfl
theorem ctr_le (io : Io) (k : Nat) (x : PCtr) : ioStkLe io (ioSetCtr io k x) := .of_eq rfl
theorem out_le (io : Io) (o : Output) : ioStkLe io (ioOut io o) := .of_eq rfl

@[simp] theorem ioStk_set_same (io : Io) (a : Nat) (w : Word) : ioStk (ioSetStk io a w) a = w := by
  simp [ioStk, ioSetStk]

theorem ioStk_set_ne (io : Io) (w : Word) {a b : Nat} (n : b ≠ a) : ioStk (ioSetStk io a w) b = ioStk io b := by
  simp [ioStk, ioSetStk, Tab.get_put_ne _ _ _ n]

theorem bitAt_or (w v : Word) (i : Nat) : bitAt (w ||| v) i = (bitAt w i || bitAt v i) := by simp [bitAt]

theorem bitAt_oneHot {i : Nat} (h : i < 32) : bitAt (oneHot i) i = true := by
  have : 2 ^ i < 4294967296 := Nat.pow_lt_pow_right (a := 2) (n := 32) (by decide) h
  simp [bitAt, oneHot, BitVec.getLsbD, Nat.mod_eq_of_lt this, Nat.testBit_two_pow_self]

theorem ioStkLe_or (io : Io) (a : Nat) (w : Word) : ioStkLe io (ioSetStk io a (ioStk io a ||| w)) := by
  intro x b h
  by_cases e : x = a
  · subst e; simp [bitAt_or, h]
  · rw [ioStk_set_ne _ _ e]; exact h

theorem ctrAddOne_le (c : Bool) (k n : Nat) (io : Io) : ioStkLe io (ctrAddOne c k n io).1 := by
  unfold ctrAddOne
  dsimp only
  split
  · exact ctr_le _ _ _
  · split
    · exact ctr_le _ _ _
    · split
      · split
        · exact ((ctr_le _ _ _).trans (ioStkLe_or _ _ _)).trans (out_le _ _)
        · exact ((ctr_le _ _ _).trans (ioStkLe_or _ _ _)).trans (ioStkLe_or _ _ _)
      · exact (ctr_le _ _ _).trans (ioStkLe_or _ _ _)

theorem ctrAdd_le (c : Bool) (k n : Nat) (io : Io) : ioStkLe io (ctrAdd c k n io).1 := by
  unfold ctrAdd
  dsimp only
  split
  · exact ctrAddOne_le c k n io
  · exact (ctrAddOne_le c k n io).trans (ctrAddOne_le _ _ _ _)

theorem ctrFold_le (c : Bool) (n : Nat) : ∀ (l : List Nat) (p : Io × List Nat),
    ioStkLe p.1 (l.foldl (fun p k => ((ctrAdd c k n p.1).1, p.2 ++ (ctrAdd c k n p.1).2)) p).1 := by
  intro l
  induction l with
  | nil => intro p; exact .refl _
  | cons a l ih =>
    intro p
    rw [List.foldl_cons]
    exact (ctrAdd_le c a n p.1).trans (ih ((ctrAdd c a n p.1).1, p.2 ++ (ctrAdd c a n p.1).2))

theorem ctrEvent_le (c : Bool) (ev n : Nat) (io : Io) : ioStkLe io (ctrEvent c ev n io).1 := by
  unfold ctrEvent
  split
  · exact .refl _
  · exact ctrFold_le c n _ (io, [])

theorem vecTrigger_le (now : Nat) (c : Bool) (v : Nat) (io : Io) : ioStkLe io (vecTrigger now c v io).1 := by
  unfold vecTrigger
  dsimp only
  split
  · exact vec_le _ _ _
  · split
    · exact vec_le _ _ _
    · exact ((vec_le _ _ _).trans (out_le _ _)).trans (ctrEvent_le _ _ _ _)

theorem ringFail_le (r : Nat) (io : Io) : ioStkLe io (ringFail r io).1 :=
  (ring_le io r { ioRing io r with state := .error, err := 4 }).trans (ioStkLe_or _ Reg.HIF_STICKY _)

theorem ringAdvance_le (now : Nat) (c : Bool) (r : Nat) (irq : Bool) (io : Io) : ioStkLe io (ringAdvance now c r irq io).1 := by
  unfold ringAdvance
  dsimp only
  split
  · exact ringFail_le _ _
  · split
    · exact ((ring_le _ _ _).trans (out_le _ _)).trans (vecTrigger_le _ _ _ _)
    · exact (ring_le _ _ _).trans (out_le _ _)

theorem ringWrite_le (now : Nat) (c : Bool) (kind r : Nat) (e : List Byte) (io : Io) (q : Io × List Nat)
    (h : ringWrite now c kind r e io = some q) : ioStkLe io q.1 := by
  unfold ringWrite at h
  dsimp only at h
  split at h
  · have := Option.some.inj h
    rw [← this]
    refine .trans ?_ (ringAdvance_le _ _ _ _ _)
    split
    · exact .refl _
    · exact out_le _ _
  · exact absurd h (by simp)

theorem deliver_le (now : Nat) (at_ : Nat × Word) (c : Bool) (src : Nat) (io : Io) : ioStkLe io (deliver now at_ c src io).1 := by
  have key : ∀ p : Io × List Nat, ioStkLe io p.1 → ∀ (b : Bool) (v : Nat),
      ioStkLe io (if b = true then ((vecTrigger now c v p.1).1, p.2 ++ (vecTrigger now c v p.1).2) else p).1 := by
    intro p h b v
    split
    · exact h.trans (vecTrigger_le _ _ _ _)
    · exact h
  unfold deliver
  dsimp only
  refine key _ ?_ _ _
  split
  · split
    · rename_i q hq
      exact (ring_le _ _ _).trans (ringWrite_le _ _ _ _ _ _ _ hq)
    · exact ((ring_le _ _ _).trans (ring_le _ _ _)).trans (ioStkLe_or _ _ _)
  · exact .refl _

theorem raiseOne_le (now : Nat) (c : Bool) (src : Nat) (io : Io) : ioStkLe io (raiseOne now c src io).1 := by
  unfold raiseOne
  dsimp only
  split
  · exact (ev_le _ _ _).trans (deliver_le _ _ _ _ _)
  · exact ev_le _ _ _

theorem raiseAll_le (now : Nat) (c : Bool) : ∀ (n : Nat) (l : List Nat) (io : Io), ioStkLe io (raiseAll now c n l io) := by
  intro n
  induction n with
  | zero => intro l io; exact .refl _
  | succ n ih =>
    intro l io
    cases l with
    | nil => exact .refl _
    | cons a l => exact (raiseOne_le now c a io).trans (ih _ _)

theorem ioRaise_le (now : Nat) (c : Bool) (l : List Nat) (io : Io) : ioStkLe io (ioRaise now c l io) := raiseAll_le _ _ _ _ _

/-! ### Over the whole state -/

theorem stkHolds_refl (s : State) : stkHolds s s := fun _ _ h => h
theorem stkHolds_trans {s t u : State} (h : stkHolds s t) (g : stkHolds t u) : stkHolds s u := fun a b k => g a b (h a b k)

/-- A state with the same indications. -/
theorem stkHolds_of_io {s t : State} (h : t.io = s.io) : stkHolds s t := by
  intro a b k; unfold stkSet stk at *; rw [h]; exact k

theorem stkHolds_of_le {s t : State} (h : ioStkLe s.io t.io) : stkHolds s t := h

/-- A sticky bit that hardware sets reads 1, and no other is cleared. -/
theorem sticky_holds (a bit : Nat) (s : State) : stkHolds s (sticky a bit s) :=
  stkHolds_of_le ((ioStkLe_or _ _ _).trans (ioRaise_le _ _ _ _))

theorem sticky_sets (a : Nat) {bit : Nat} (h : bit < 32) (s : State) : stkSet (sticky a bit s) a bit := by
  refine ioRaise_le _ _ _ _ a bit ?_
  simp [bitAt_or, bitAt_oneHot h]

theorem stickyIf_holds (c : Bool) (a bit : Nat) (s : State) : stkHolds s (stickyIf c a bit s) := by
  unfold stickyIf; split
  · exact sticky_holds _ _ _
  · exact stkHolds_refl _

theorem raise_holds (src : Nat) (s : State) : stkHolds s (raise src s) := stkHolds_of_le (ioRaise_le _ _ _ _)
theorem notice_holds (g : Nat) (s : State) : stkHolds s (notice g s) := stkHolds_of_le (ioRaise_le _ _ _ _)
theorem perf_holds (ev n : Nat) (s : State) : stkHolds s (perf ev n s) :=
  stkHolds_of_le ((ctrEvent_le _ _ _ _).trans (ioRaise_le _ _ _ _))
theorem emit_holds (o : Output) (s : State) : stkHolds s (emit o s) := stkHolds_of_le (.of_eq rfl)
theorem inc_holds (a n : Nat) (s : State) : stkHolds s (inc a n s) := stkHolds_of_io rfl
theorem wr_holds (a : Nat) (w : Word) (s : State) : stkHolds s (wr a w s) := stkHolds_of_io rfl
theorem stickyCount_holds (a bit c : Nat) (s : State) : stkHolds s (stickyCount a bit c s) :=
  stkHolds_trans (sticky_holds _ _ _) (inc_holds _ _ _)
theorem record_holds (type key : Nat) (p : List Byte) (s : State) : stkHolds s (record type key p s) := by
  unfold record
  dsimp only
  have h1 : ∀ (x : State) (b : Bool), stkHolds s x → stkHolds s (if b = true then perf 0x189 1 (inc (Reg.REC_CNT 1) 1 x) else x) := by
    intro x b h
    split
    · exact stkHolds_trans h (stkHolds_trans (inc_holds _ _ _) (perf_holds _ _ _))
    · exact h
  have h2 : ∀ (x : State) (b : Bool), stkHolds s x → stkHolds s (if b = true then stickyCount Reg.REC_STICKY 0 (Reg.REC_CNT 2) x else x) := by
    intro x b h
    split
    · exact stkHolds_trans h (stickyCount_holds _ _ _ _)
    · exact h
  exact h2 _ _ (h1 _ _ (stkHolds_of_io rfl))
theorem mirror_holds (r : MirrorRec) (s : State) : stkHolds s (mirror r s) := by
  unfold mirror
  split
  · exact stkHolds_trans (stkHolds_trans (stkHolds_of_io rfl) (emit_holds _ _)) (perf_holds _ _ _)
  · exact stkHolds_refl _

/-- Hardware that clears a bit leaves it 0. -/
theorem unstick_clears (a : Nat) {bit : Nat} (h : bit < 32) (s : State) : ¬ stkSet (unstick a bit s) a bit := by
  have := bitAt_oneHot h
  simp [stkSet, stk, unstick, bitAt] at *
  simp [this]

/-! ### Plain registers -/

@[simp] theorem rd_wr_same (a : Nat) (w : Word) (s : State) : rd (wr a w s) a = w := by simp [rd, wr]
theorem rd_wr_ne (w : Word) (s : State) {a b : Nat} (n : b ≠ a) : rd (wr a w s) b = rd s b := by
  simp [rd, wr, Tab.get_put_ne _ _ _ n]
theorem rd_inc_ne (k : Nat) (s : State) {a b : Nat} (n : b ≠ a) : rd (inc a k s) b = rd s b := rd_wr_ne _ _ n
@[simp] theorem rd_inc_same (a k : Nat) (s : State) : rd (inc a k s) a = satAdd (rd s a) k := rd_wr_same _ _ _
theorem rd_of_bank {s t : State} (h : t.bank = s.bank) (a : Nat) : rd t a = rd s a := by unfold rd; rw [h]

end Sys2Proof.Machine
end

