-- ==== Sys2Proof/Laws/Parts.lean ====
section
/-! SUPPORT. Which fields of a part the shared operations of time and Nightfall can change. -/
namespace Sys2Proof.Machine

/-- A test of the bound changes one field of the time unit: what it last found. -/
@[simp] theorem timCheckBound_tim (s : State) : (timCheckBound s).tim = { s.tim with above := aboveBound s } := by
  simp only [timCheckBound]
  split <;> simp

@[simp] theorem stickyCount_nfl (a b c : Nat) (s : State) : (stickyCount a b c s).nfl = s.nfl := by simp

/-- A latch: the fields that a trigger from IDLE or SELECTIVE sets (R280). -/
theorem nfLatch_nfl (cause : Nat) (extra : List Byte) (s : State) :
    (nfLatch cause extra s).nfl = { nfDrive false false s.nfl with
      latch := .latched, latchId := (s.nfl.latchId + 1) % 2 ^ 32, first := cause, seen := oneHot cause, trig := s.tim.now, nextK := 0,
      held := BitVec.allOnes 1024, relAt := [], idleCycle := if s.nfl.latch = .idle then some (safeCycle s) else none } := by
  simp [nfLatch, List.range_succ, nfDrive]

/-- What a trigger never changes of the SAFE island: inputs, monitors and the watchdog. -/
def sameInputs (a b : Nfl) : Prop :=
  b.inA = a.inA ∧ b.inB = a.inB ∧ b.disc = a.disc ∧ b.bothOpen = a.bothOpen ∧ b.changedAt = a.changedAt ∧ b.fbFault = a.fbFault ∧
  b.latchFault = a.latchFault ∧ b.clockFault = a.clockFault ∧ b.supplyOk = a.supplyOk ∧ b.wdgStarted = a.wdgStarted ∧
  b.wdgExpired = a.wdgExpired ∧ b.wdgRun = a.wdgRun ∧ b.wdgOdd = a.wdgOdd ∧ b.keyLossAt = a.keyLossAt ∧
  b.keyLossFired = a.keyLossFired

/-- A refusal counts and tells; the SAFE island is as it was. -/
@[simp] theorem nfRefuse_nfl (a b c : Nat) (s : State) : (nfRefuse a b c s).nfl = s.nfl := by simp [nfRefuse]

theorem sameInputs.trans {a b c : Nfl} (h : sameInputs a b) (g : sameInputs b c) : sameInputs a c := by
  simp_all [sameInputs]

/-- A fold of steps that each leave the inputs leaves them. -/
theorem sameInputs_fold {α : Type} (f : State → α → State) (h : ∀ s x, sameInputs s.nfl (f s x).nfl) (l : List α) :
    ∀ s, sameInputs s.nfl (l.foldl f s).nfl := by
  induction l with
  | nil => intro s; simp [sameInputs]
  | cons x l ih => intro s; exact (h s x).trans (ih _)

/-- Undoing what a row did leaves the inputs (R284). -/
theorem undoRow_inputs (s : State) (c : NflCmd) : sameInputs s.nfl (undoRow s c).nfl := by
  unfold undoRow
  dsimp only
  split <;> (repeat' split) <;> simp [sameInputs, nfDrive, List.range_succ]

/-- Refusing a row leaves the inputs. -/
theorem refuseRow_inputs (s : State) (c : NflCmd) : sameInputs s.nfl (refuseRow s c).nfl := by
  unfold refuseRow
  split <;> simp [sameInputs]

/-- What a trigger undoes or refuses leaves the inputs (R284). -/
theorem refuseByTrigger_inputs (s : State) : sameInputs s.nfl (refuseByTrigger s).nfl := by
  unfold refuseByTrigger
  dsimp only
  refine .trans ?_ (sameInputs_fold _ refuseRow_inputs _ _)
  refine .trans (b := (if s.nfl.confirm.isSome then nfRefuse 2 6 0 (setNfl { s.nfl with confirm := none } s) else s).nfl) ?_
    (.trans (sameInputs_fold _ undoRow_inputs (rowsNow s) _) ?_)
  · split <;> simp [sameInputs]
  · simp [sameInputs]

/-- A later trigger while LATCHED: what it says of the first cause and of the causes seen. -/
theorem nfAgain_inputs (cause : Nat) (extra : List Byte) (s : State) : sameInputs s.nfl (nfAgain cause extra s).nfl := by
  unfold nfAgain
  dsimp only
  split <;> simp [sameInputs]

theorem nfAgain_latch (cause : Nat) (extra : List Byte) (s : State) : (nfAgain cause extra s).nfl.latch = s.nfl.latch := by
  unfold nfAgain
  dsimp only
  split <;> simp

/-- A trigger leaves the latch set (Table 9.4). -/
theorem nfTriggerWith_latched (cause : Nat) (extra : List Byte) (s : State) :
    (nfTriggerWith cause extra s).nfl.latch = .latched := by
  unfold nfTriggerWith
  dsimp only
  split <;> simp_all [nfLatch_nfl, nfAgain_latch]

theorem nfTrigger_latched (cause : Nat) (s : State) : (nfTrigger cause s).nfl.latch = .latched := by
  simp [nfTrigger, nfTriggerWith_latched]

/-- A trigger leaves the inputs, the monitors and the watchdog of the SAFE island. -/
theorem nfTriggerWith_inputs (cause : Nat) (extra : List Byte) (s : State) : sameInputs s.nfl (nfTriggerWith cause extra s).nfl := by
  have h := refuseByTrigger_inputs s
  unfold nfTriggerWith
  dsimp only
  generalize refuseByTrigger s = r at h ⊢
  have g : sameInputs s.nfl { r.nfl with trigCycle := some (safeCycle r) } := by simpa [sameInputs] using h
  split
  · simpa [nfLatch_nfl, nfDrive, sameInputs] using h
  · simpa [nfLatch_nfl, nfDrive, sameInputs] using h
  · have k := nfAgain_inputs cause extra (setNfl { r.nfl with trigCycle := some (safeCycle r) } r)
    exact (g.trans (by simpa using k)).trans (by simp [sameInputs])
  · simpa [sameInputs] using h

/-- A mirror record changes two fields of the pair: the records on their way and their number. -/
theorem mirror_pai (r : MirrorRec) (s : State) : ∃ l n, (mirror r s).pai = { s.pai with sentRecs := l, nextRec := n } := by
  unfold mirror
  split
  · exact ⟨s.pai.sentRecs ++ [(s.pai.nextRec, r, s.tim.now)], s.pai.nextRec + 1, by simp⟩
  · exact ⟨s.pai.sentRecs, s.pai.nextRec, rfl⟩

end Sys2Proof.Machine
end

