-- ==== Sys2Proof/Laws/State.lean ====
section
/-! SUPPORT. Updates of the state: what each one sets, and the parts that it leaves. The updates that Laws/Ops lists have the second
kind there. -/
namespace Sys2Proof.Machine

/-! ### What an update sets -/

@[simp] theorem setIo_io (x : Io) (s : State) : (setIo x s).io = x := rfl
@[simp] theorem setIng_ing (x : Ing) (s : State) : (setIng x s).ing = x := rfl
@[simp] theorem setAcq_acq (x : Acq) (s : State) : (setAcq x s).acq = x := rfl
@[simp] theorem setCht_cht (x : Cht) (s : State) : (setCht x s).cht = x := rfl
@[simp] theorem setPai_pai (x : Pai) (s : State) : (setPai x s).pai = x := rfl
@[simp] theorem setKey_key (x : Key) (s : State) : (setKey x s).key = x := rfl
@[simp] theorem setRec_recorder (x : Rec) (s : State) : (setRec x s).recorder = x := rfl
@[simp] theorem setUpd_upd (x : Upd) (s : State) : (setUpd x s).upd = x := rfl
@[simp] theorem setTim_tim (x : Tim) (s : State) : (setTim x s).tim = x := rfl
@[simp] theorem setNfl_nfl (x : Nfl) (s : State) : (setNfl x s).nfl = x := rfl
@[simp] theorem setCrp_crp (x : Crp) (s : State) : (setCrp x s).crp = x := rfl
@[simp] theorem setDsp_dsp (x : Dsp) (s : State) : (setDsp x s).dsp = x := rfl
@[simp] theorem setRef_ref (x : Ref) (s : State) : (setRef x s).ref = x := rfl

@[simp] theorem setAnt_same (k : Nat) (x : Ant) (s : State) : ant (setAnt k x s) k = x := Tab.get_put_same _ _ k x
@[simp] theorem setCtx_same (k : Nat) (x : Ctx) (s : State) : ctx (setCtx k x s) k = x := Tab.get_put_same _ _ k x
@[simp] theorem setUnit_same (k : Nat) (x : CorUnit) (s : State) : corUnit (setUnit k x s) k = x := Tab.get_put_same _ _ k x
@[simp] theorem setCapture_same (k : Nat) (x : Capture) (s : State) : capture (setCapture k x s) k = x := Tab.get_put_same _ _ k x
@[simp] theorem setPort_same (k : Nat) (x : NetPort) (s : State) : netPort (setPort k x s) k = x := Tab.get_put_same _ _ k x
@[simp] theorem setMach_same (k : Nat) (x : Mach) (s : State) : mach (setMach k x s) k = x := Tab.get_put_same _ _ k x
@[simp] theorem setChtMach_same (k : Nat) (x : ChtMach) (s : State) : chtMach (setChtMach k x s) k = x := Tab.get_put_same _ _ k x
@[simp] theorem setRefAnt_same (k : Nat) (x : RefAnt) (s : State) : refAnt (setRefAnt k x s) k = x := Tab.get_put_same _ _ k x
@[simp] theorem setStream_same (k : Nat) (x : Stream) (s : State) : stream (setStream k x s) k = x := Tab.get_put_same _ _ k x
@[simp] theorem setEngine_same (k : Nat) (x : FixEngine) (s : State) : engine (setEngine k x s) k = x := Tab.get_put_same _ _ k x
@[simp] theorem setTp_same (k : Nat) (x : TpOut) (s : State) : tpOut (setTp k x s) k = x := Tab.get_put_same _ _ k x
@[simp] theorem setTimPort_same (k : Nat) (x : TimPort) (s : State) : timPort (setTimPort k x s) k = x := Tab.get_put_same _ _ k x
@[simp] theorem setPd_same (k : Nat) (x : PdState) (s : State) : pdState (setPd k x s) k = x := Tab.get_put_same _ _ k x

/-! ### What an update leaves -/

@[simp] theorem setIo_keeps (x : Io) (s : State) :
    (setIo x s).bank = s.bank ∧ (setIo x s).recorder = s.recorder ∧ (setIo x s).crp = s.crp ∧ (setIo x s).upd = s.upd ∧
    (setIo x s).ing = s.ing ∧ (setIo x s).cor = s.cor ∧ (setIo x s).acq = s.acq ∧ (setIo x s).tim = s.tim ∧
    (setIo x s).ref = s.ref ∧ (setIo x s).net = s.net ∧ (setIo x s).mach = s.mach ∧ (setIo x s).pst = s.pst ∧
    (setIo x s).cht = s.cht ∧ (setIo x s).dsp = s.dsp ∧ (setIo x s).tsk = s.tsk ∧ (setIo x s).nfl = s.nfl ∧
    (setIo x s).pai = s.pai ∧ (setIo x s).key = s.key ∧ (setIo x s).grade = s.grade ∧ (setIo x s).free = s.free ∧
    (setIo x s).pending = s.pending := by and_intros <;> rfl

@[simp] theorem setIng_keeps (x : Ing) (s : State) :
    (setIng x s).bank = s.bank ∧ (setIng x s).recorder = s.recorder ∧ (setIng x s).crp = s.crp ∧ (setIng x s).upd = s.upd ∧
    (setIng x s).cor = s.cor ∧ (setIng x s).acq = s.acq ∧ (setIng x s).tim = s.tim ∧ (setIng x s).ref = s.ref ∧
    (setIng x s).net = s.net ∧ (setIng x s).mach = s.mach ∧ (setIng x s).pst = s.pst ∧ (setIng x s).cht = s.cht ∧
    (setIng x s).dsp = s.dsp ∧ (setIng x s).tsk = s.tsk ∧ (setIng x s).nfl = s.nfl ∧ (setIng x s).pai = s.pai ∧
    (setIng x s).key = s.key ∧ (setIng x s).grade = s.grade ∧ (setIng x s).free = s.free ∧ (setIng x s).pending = s.pending ∧
    (setIng x s).io = s.io := by and_intros <;> rfl

@[simp] theorem setAcq_keeps (x : Acq) (s : State) :
    (setAcq x s).bank = s.bank ∧ (setAcq x s).recorder = s.recorder ∧ (setAcq x s).crp = s.crp ∧ (setAcq x s).upd = s.upd ∧
    (setAcq x s).ing = s.ing ∧ (setAcq x s).cor = s.cor ∧ (setAcq x s).tim = s.tim ∧ (setAcq x s).ref = s.ref ∧
    (setAcq x s).net = s.net ∧ (setAcq x s).mach = s.mach ∧ (setAcq x s).pst = s.pst ∧ (setAcq x s).cht = s.cht ∧
    (setAcq x s).dsp = s.dsp ∧ (setAcq x s).tsk = s.tsk ∧ (setAcq x s).nfl = s.nfl ∧ (setAcq x s).pai = s.pai ∧
    (setAcq x s).key = s.key ∧ (setAcq x s).grade = s.grade ∧ (setAcq x s).free = s.free ∧ (setAcq x s).pending = s.pending ∧
    (setAcq x s).io = s.io := by and_intros <;> rfl

@[simp] theorem setCht_keeps (x : Cht) (s : State) :
    (setCht x s).bank = s.bank ∧ (setCht x s).recorder = s.recorder ∧ (setCht x s).crp = s.crp ∧ (setCht x s).upd = s.upd ∧
    (setCht x s).ing = s.ing ∧ (setCht x s).cor = s.cor ∧ (setCht x s).acq = s.acq ∧ (setCht x s).tim = s.tim ∧
    (setCht x s).ref = s.ref ∧ (setCht x s).net = s.net ∧ (setCht x s).mach = s.mach ∧ (setCht x s).pst = s.pst ∧
    (setCht x s).dsp = s.dsp ∧ (setCht x s).tsk = s.tsk ∧ (setCht x s).nfl = s.nfl ∧ (setCht x s).pai = s.pai ∧
    (setCht x s).key = s.key ∧ (setCht x s).grade = s.grade ∧ (setCht x s).free = s.free ∧ (setCht x s).pending = s.pending ∧
    (setCht x s).io = s.io := by and_intros <;> rfl

@[simp] theorem setPai_keeps (x : Pai) (s : State) :
    (setPai x s).bank = s.bank ∧ (setPai x s).recorder = s.recorder ∧ (setPai x s).crp = s.crp ∧ (setPai x s).upd = s.upd ∧
    (setPai x s).ing = s.ing ∧ (setPai x s).cor = s.cor ∧ (setPai x s).acq = s.acq ∧ (setPai x s).tim = s.tim ∧
    (setPai x s).ref = s.ref ∧ (setPai x s).net = s.net ∧ (setPai x s).mach = s.mach ∧ (setPai x s).pst = s.pst ∧
    (setPai x s).cht = s.cht ∧ (setPai x s).dsp = s.dsp ∧ (setPai x s).tsk = s.tsk ∧ (setPai x s).nfl = s.nfl ∧
    (setPai x s).key = s.key ∧ (setPai x s).grade = s.grade ∧ (setPai x s).free = s.free ∧ (setPai x s).pending = s.pending ∧
    (setPai x s).io = s.io := by and_intros <;> rfl

@[simp] theorem setKey_keeps (x : Key) (s : State) :
    (setKey x s).bank = s.bank ∧ (setKey x s).recorder = s.recorder ∧ (setKey x s).crp = s.crp ∧ (setKey x s).upd = s.upd ∧
    (setKey x s).ing = s.ing ∧ (setKey x s).cor = s.cor ∧ (setKey x s).acq = s.acq ∧ (setKey x s).tim = s.tim ∧
    (setKey x s).ref = s.ref ∧ (setKey x s).net = s.net ∧ (setKey x s).mach = s.mach ∧ (setKey x s).pst = s.pst ∧
    (setKey x s).cht = s.cht ∧ (setKey x s).dsp = s.dsp ∧ (setKey x s).tsk = s.tsk ∧ (setKey x s).nfl = s.nfl ∧
    (setKey x s).pai = s.pai ∧ (setKey x s).grade = s.grade ∧ (setKey x s).free = s.free ∧ (setKey x s).pending = s.pending ∧
    (setKey x s).io = s.io := by and_intros <;> rfl

@[simp] theorem setRec_keeps (x : Rec) (s : State) :
    (setRec x s).bank = s.bank ∧ (setRec x s).crp = s.crp ∧ (setRec x s).upd = s.upd ∧ (setRec x s).ing = s.ing ∧
    (setRec x s).cor = s.cor ∧ (setRec x s).acq = s.acq ∧ (setRec x s).tim = s.tim ∧ (setRec x s).ref = s.ref ∧
    (setRec x s).net = s.net ∧ (setRec x s).mach = s.mach ∧ (setRec x s).pst = s.pst ∧ (setRec x s).cht = s.cht ∧
    (setRec x s).dsp = s.dsp ∧ (setRec x s).tsk = s.tsk ∧ (setRec x s).nfl = s.nfl ∧ (setRec x s).pai = s.pai ∧
    (setRec x s).key = s.key ∧ (setRec x s).grade = s.grade ∧ (setRec x s).free = s.free ∧ (setRec x s).pending = s.pending ∧
    (setRec x s).io = s.io := by and_intros <;> rfl

@[simp] theorem setUpd_keeps (x : Upd) (s : State) :
    (setUpd x s).bank = s.bank ∧ (setUpd x s).recorder = s.recorder ∧ (setUpd x s).crp = s.crp ∧ (setUpd x s).ing = s.ing ∧
    (setUpd x s).cor = s.cor ∧ (setUpd x s).acq = s.acq ∧ (setUpd x s).tim = s.tim ∧ (setUpd x s).ref = s.ref ∧
    (setUpd x s).net = s.net ∧ (setUpd x s).mach = s.mach ∧ (setUpd x s).pst = s.pst ∧ (setUpd x s).cht = s.cht ∧
    (setUpd x s).dsp = s.dsp ∧ (setUpd x s).tsk = s.tsk ∧ (setUpd x s).nfl = s.nfl ∧ (setUpd x s).pai = s.pai ∧
    (setUpd x s).key = s.key ∧ (setUpd x s).grade = s.grade ∧ (setUpd x s).free = s.free ∧ (setUpd x s).pending = s.pending ∧
    (setUpd x s).io = s.io := by and_intros <;> rfl

@[simp] theorem setRing_keeps (k : Nat) (x : Ring) (s : State) :
    (setRing k x s).bank = s.bank ∧ (setRing k x s).recorder = s.recorder ∧ (setRing k x s).crp = s.crp ∧
    (setRing k x s).upd = s.upd ∧ (setRing k x s).ing = s.ing ∧ (setRing k x s).cor = s.cor ∧ (setRing k x s).acq = s.acq ∧
    (setRing k x s).tim = s.tim ∧ (setRing k x s).ref = s.ref ∧ (setRing k x s).net = s.net ∧ (setRing k x s).mach = s.mach ∧
    (setRing k x s).pst = s.pst ∧ (setRing k x s).cht = s.cht ∧ (setRing k x s).dsp = s.dsp ∧ (setRing k x s).tsk = s.tsk ∧
    (setRing k x s).nfl = s.nfl ∧ (setRing k x s).pai = s.pai ∧ (setRing k x s).key = s.key ∧
    (setRing k x s).grade = s.grade ∧ (setRing k x s).free = s.free ∧ (setRing k x s).pending = s.pending := by and_intros <;> rfl

@[simp] theorem setAnt_keeps (k : Nat) (x : Ant) (s : State) :
    (setAnt k x s).bank = s.bank ∧ (setAnt k x s).recorder = s.recorder ∧ (setAnt k x s).crp = s.crp ∧
    (setAnt k x s).upd = s.upd ∧ (setAnt k x s).cor = s.cor ∧ (setAnt k x s).acq = s.acq ∧ (setAnt k x s).tim = s.tim ∧
    (setAnt k x s).ref = s.ref ∧ (setAnt k x s).net = s.net ∧ (setAnt k x s).mach = s.mach ∧ (setAnt k x s).pst = s.pst ∧
    (setAnt k x s).cht = s.cht ∧ (setAnt k x s).dsp = s.dsp ∧ (setAnt k x s).tsk = s.tsk ∧ (setAnt k x s).nfl = s.nfl ∧
    (setAnt k x s).pai = s.pai ∧ (setAnt k x s).key = s.key ∧ (setAnt k x s).grade = s.grade ∧ (setAnt k x s).free = s.free ∧
    (setAnt k x s).pending = s.pending ∧ (setAnt k x s).io = s.io := by and_intros <;> rfl

@[simp] theorem setRefAnt_keeps (k : Nat) (x : RefAnt) (s : State) :
    (setRefAnt k x s).bank = s.bank ∧ (setRefAnt k x s).recorder = s.recorder ∧ (setRefAnt k x s).crp = s.crp ∧
    (setRefAnt k x s).upd = s.upd ∧ (setRefAnt k x s).ing = s.ing ∧ (setRefAnt k x s).cor = s.cor ∧
    (setRefAnt k x s).acq = s.acq ∧ (setRefAnt k x s).tim = s.tim ∧ (setRefAnt k x s).net = s.net ∧
    (setRefAnt k x s).mach = s.mach ∧ (setRefAnt k x s).pst = s.pst ∧ (setRefAnt k x s).cht = s.cht ∧
    (setRefAnt k x s).dsp = s.dsp ∧ (setRefAnt k x s).tsk = s.tsk ∧ (setRefAnt k x s).nfl = s.nfl ∧
    (setRefAnt k x s).pai = s.pai ∧ (setRefAnt k x s).key = s.key ∧ (setRefAnt k x s).grade = s.grade ∧
    (setRefAnt k x s).free = s.free ∧ (setRefAnt k x s).pending = s.pending ∧ (setRefAnt k x s).io = s.io := by and_intros <;> rfl

@[simp] theorem setStream_keeps (k : Nat) (x : Stream) (s : State) :
    (setStream k x s).bank = s.bank ∧ (setStream k x s).recorder = s.recorder ∧ (setStream k x s).crp = s.crp ∧
    (setStream k x s).upd = s.upd ∧ (setStream k x s).ing = s.ing ∧ (setStream k x s).cor = s.cor ∧
    (setStream k x s).acq = s.acq ∧ (setStream k x s).tim = s.tim ∧ (setStream k x s).net = s.net ∧
    (setStream k x s).mach = s.mach ∧ (setStream k x s).pst = s.pst ∧ (setStream k x s).cht = s.cht ∧
    (setStream k x s).dsp = s.dsp ∧ (setStream k x s).tsk = s.tsk ∧ (setStream k x s).nfl = s.nfl ∧
    (setStream k x s).pai = s.pai ∧ (setStream k x s).key = s.key ∧ (setStream k x s).grade = s.grade ∧
    (setStream k x s).free = s.free ∧ (setStream k x s).pending = s.pending ∧ (setStream k x s).io = s.io := by and_intros <;> rfl

@[simp] theorem setEngine_keeps (k : Nat) (x : FixEngine) (s : State) :
    (setEngine k x s).bank = s.bank ∧ (setEngine k x s).recorder = s.recorder ∧ (setEngine k x s).crp = s.crp ∧
    (setEngine k x s).upd = s.upd ∧ (setEngine k x s).ing = s.ing ∧ (setEngine k x s).cor = s.cor ∧
    (setEngine k x s).acq = s.acq ∧ (setEngine k x s).tim = s.tim ∧ (setEngine k x s).ref = s.ref ∧
    (setEngine k x s).net = s.net ∧ (setEngine k x s).mach = s.mach ∧ (setEngine k x s).cht = s.cht ∧
    (setEngine k x s).dsp = s.dsp ∧ (setEngine k x s).tsk = s.tsk ∧ (setEngine k x s).nfl = s.nfl ∧
    (setEngine k x s).pai = s.pai ∧ (setEngine k x s).key = s.key ∧ (setEngine k x s).grade = s.grade ∧
    (setEngine k x s).free = s.free ∧ (setEngine k x s).pending = s.pending ∧ (setEngine k x s).io = s.io := by and_intros <;> rfl

@[simp] theorem setFifo_keeps (k : Nat) (x : Fifo) (s : State) :
    (setFifo k x s).bank = s.bank ∧ (setFifo k x s).recorder = s.recorder ∧ (setFifo k x s).upd = s.upd ∧
    (setFifo k x s).ing = s.ing ∧ (setFifo k x s).cor = s.cor ∧ (setFifo k x s).acq = s.acq ∧ (setFifo k x s).tim = s.tim ∧
    (setFifo k x s).ref = s.ref ∧ (setFifo k x s).net = s.net ∧ (setFifo k x s).mach = s.mach ∧ (setFifo k x s).pst = s.pst ∧
    (setFifo k x s).cht = s.cht ∧ (setFifo k x s).dsp = s.dsp ∧ (setFifo k x s).tsk = s.tsk ∧ (setFifo k x s).nfl = s.nfl ∧
    (setFifo k x s).pai = s.pai ∧ (setFifo k x s).key = s.key ∧ (setFifo k x s).grade = s.grade ∧
    (setFifo k x s).free = s.free ∧ (setFifo k x s).pending = s.pending ∧ (setFifo k x s).io = s.io := by and_intros <;> rfl

@[simp] theorem setTp_keeps (k : Nat) (x : TpOut) (s : State) :
    (setTp k x s).bank = s.bank ∧ (setTp k x s).recorder = s.recorder ∧ (setTp k x s).crp = s.crp ∧
    (setTp k x s).upd = s.upd ∧ (setTp k x s).ing = s.ing ∧ (setTp k x s).cor = s.cor ∧ (setTp k x s).acq = s.acq ∧
    (setTp k x s).ref = s.ref ∧ (setTp k x s).net = s.net ∧ (setTp k x s).mach = s.mach ∧ (setTp k x s).pst = s.pst ∧
    (setTp k x s).cht = s.cht ∧ (setTp k x s).dsp = s.dsp ∧ (setTp k x s).tsk = s.tsk ∧ (setTp k x s).nfl = s.nfl ∧
    (setTp k x s).pai = s.pai ∧ (setTp k x s).key = s.key ∧ (setTp k x s).grade = s.grade ∧ (setTp k x s).free = s.free ∧
    (setTp k x s).pending = s.pending ∧ (setTp k x s).io = s.io := by and_intros <;> rfl

@[simp] theorem setTimPort_keeps (k : Nat) (x : TimPort) (s : State) :
    (setTimPort k x s).bank = s.bank ∧ (setTimPort k x s).recorder = s.recorder ∧ (setTimPort k x s).crp = s.crp ∧
    (setTimPort k x s).upd = s.upd ∧ (setTimPort k x s).ing = s.ing ∧ (setTimPort k x s).cor = s.cor ∧
    (setTimPort k x s).acq = s.acq ∧ (setTimPort k x s).ref = s.ref ∧ (setTimPort k x s).net = s.net ∧
    (setTimPort k x s).mach = s.mach ∧ (setTimPort k x s).pst = s.pst ∧ (setTimPort k x s).cht = s.cht ∧
    (setTimPort k x s).dsp = s.dsp ∧ (setTimPort k x s).tsk = s.tsk ∧ (setTimPort k x s).nfl = s.nfl ∧
    (setTimPort k x s).pai = s.pai ∧ (setTimPort k x s).key = s.key ∧ (setTimPort k x s).grade = s.grade ∧
    (setTimPort k x s).free = s.free ∧ (setTimPort k x s).pending = s.pending ∧ (setTimPort k x s).io = s.io := by and_intros <;> rfl

/-- A swap refused whole changes nothing but indications (R419). -/
@[simp] theorem refuseSwap_keeps (l : List (Nat × Nat)) (s : State) :
    (refuseSwap l s).bank = s.bank ∧ (refuseSwap l s).recorder = s.recorder ∧ (refuseSwap l s).crp = s.crp ∧
    (refuseSwap l s).upd = s.upd ∧ (refuseSwap l s).ing = s.ing ∧ (refuseSwap l s).cor = s.cor ∧
    (refuseSwap l s).acq = s.acq ∧ (refuseSwap l s).tim = s.tim ∧ (refuseSwap l s).ref = s.ref ∧
    (refuseSwap l s).net = s.net ∧ (refuseSwap l s).mach = s.mach ∧ (refuseSwap l s).pst = s.pst ∧
    (refuseSwap l s).cht = s.cht ∧ (refuseSwap l s).dsp = s.dsp ∧ (refuseSwap l s).tsk = s.tsk ∧
    (refuseSwap l s).nfl = s.nfl ∧ (refuseSwap l s).pai = s.pai ∧ (refuseSwap l s).key = s.key ∧
    (refuseSwap l s).grade = s.grade ∧ (refuseSwap l s).free = s.free ∧ (refuseSwap l s).pending = s.pending := by
  have h (l : List (Nat × Nat)) : ∀ t : State,
      { l.foldl (fun s b => stickyIf (blockUp s b.1) b.1 b.2 s) t with io := t.io } = t := by
    induction l with
    | nil => intro t; rfl
    | cons b l ih =>
      intro t
      have := ih (stickyIf (blockUp t b.1) b.1 b.2 t)
      simp only [List.foldl_cons]
      rw [State.mk.injEq] at this ⊢
      simp_all
  have e := h l (crpReject s)
  rw [State.mk.injEq] at e
  simp_all [refuseSwap]

end Sys2Proof.Machine
end

