-- ==== Sys2Proof/Machine/Operands.lean ====
section
/-! DEFINITION. The ranges of the commands' operands: how many of each unit the device has (Table 0.1, Table 1.1).
A command carries an index, a written word, a frame or a measured value; it has no other operand form. -/
namespace Sys2Proof.Machine.Operand

/-- Units of the LTX-960L; the LTX-960S has a part of them, and a command on a unit that its grade lacks does nothing. -/
def ants : Nat := 4
def channels : Nat := 2048
def corUnits : Nat := 128
def ports : Nat := 4
def machines : Nat := 1024
def streams : Nat := 16
def engines : Nat := 16
def shards : Nat := 32
def rings : Nat := 256
def vectors : Nat := 64
def groups : Nat := 16
def captures : Nat := 256
def pipes : Nat := 4
def fifos : Nat := 20
def keySlots : Nat := 64
def counters : Nat := 256
def timedPulses : Nat := 16
def ppsOuts : Nat := 2
/-- PD_0 to PD_14, then the sub-domains NET_0 to NET_3 at 16 and PAIR at 20. -/
def domain (k : Nat) : Bool := decide (k < 15) || (decide (16 ≤ k) && decide (k ≤ 20))
/-- BAR0 spans 64 MiB (Table 12.2). -/
def barSize : Nat := 0x04000000
/-- Segments of the recorder's MRAM, spares among them (R459). -/
def segments : Nat := 72
/-- A segment of 256 KiB in words of 512 bits (R459, R471). -/
def segmentWords : Nat := 4096
/-- ILAS carries 14 configuration octets (R48). -/
def ilasOctets : Nat := 14
/-- A ring entry is 64 bytes (R352). -/
def entryBytes : Nat := 64
/-- A PTP message has its 34-byte header and fits a frame; a destination address has 16 bytes. -/
def ptpMessage (p : PtpSend) : Bool := decide (34 ≤ p.message.length) && decide (p.message.length ≤ 1400) && decide (p.dst.length = 16)

end Sys2Proof.Machine.Operand
end

