-- ==== Sys2Proof/WellFormed.lean ====
section
/-! DEFINITION. Well-formed commands: every index names a unit that the larger grade has, every fixed-length list has its
length. -/
namespace Sys2Proof
open Sys2Proof.Machine

/-- The operands lie in their ranges. -/
def Instr.wf : Instr → Bool
  | .registerWrite addr _ x => decide (addr < Operand.barSize) && decide (x.be < 16)
  | .lowWordCapture addr => decide (addr < Operand.barSize)
  | .bridgeLaneFail => true
  | .bbSyncLost => true
  | .bridgeSilent => true
  | .thermalSample _ _ _ => true
  | .thermalTripClear _ => true
  | .antEn _ => true
  | .codeGroupSync ant => decide (ant < Operand.ants)
  | .sysrefPulse phases => decide (phases.length = 4)
  | .ilasReceived ant octets => decide (ant < Operand.ants) && decide (octets.length = Operand.ilasOctets)
  | .codeErr ant => decide (ant < Operand.ants)
  | .linkLoss ant _ => decide (ant < Operand.ants)
  | .ingClipLoad ant clipped => decide (ant < Operand.ants) && decide (clipped.length = 4)
  | .ingLatencyWrite ant _ => decide (ant < Operand.ants)
  | .latencyStep ant => decide (ant < Operand.ants)
  | .start ch => decide (ch < Operand.channels)
  | .stopAt ch => decide (ch < Operand.channels)
  | .abort ch => decide (ch < Operand.channels)
  | .contextRun ch => decide (ch < Operand.channels)
  | .integrationBoundary ch _ => decide (ch < Operand.channels)
  | .replayCaptureEnd ch id => decide (ch < Operand.channels) && decide (id < Operand.captures)
  | .dumpDelivery unit => decide (unit < Operand.corUnits)
  | .rateMessage ch _ _ => decide (ch < Operand.channels)
  | .codeRateHi ch _ => decide (ch < Operand.channels)
  | .carrRateHi ch _ => decide (ch < Operand.channels)
  | .corrMismatchEvent unit context => decide (unit < Operand.corUnits) && decide (context < 16)
  | .corCodeData _ => true
  | .corInject _ => true
  | .capture => true
  | .captureRelease id => decide (id < Operand.captures)
  | .captureWindowStart id => decide (id < Operand.captures)
  | .captureWindowEnd w => decide (w.id < Operand.captures) && decide (w.frames.length = 4)
  | .snapshotScheduledCapture => true
  | .acqJob _ => true
  | .searchStart pipe => decide (pipe < Operand.pipes)
  | .searchComplete pipe => decide (pipe < Operand.pipes)
  | .snapFrame port => decide (port < Operand.ports)
  | .snapReassemblyTimeout m => decide (m < Operand.machines)
  | .snapSolve => true
  | .baseEpoch obs => obs.all (fun o => decide (o.chan < Operand.channels)) && decide ((obs.map (·.chan)).Nodup)
  | .basePublish _ _ => true
  | .baseDiscard => true
  | .readmit ant _ => decide (ant < Operand.ants)
  | .exclude ant _ => decide (ant < Operand.ants)
  | .surveyStart _ => true
  | .surveyAbort _ => true
  | .surveyEnd => true
  | .leapApply => true
  | .streamEpochDue n => decide (n < Operand.streams)
  | .encode => true
  | .frameReceive port _ _ => decide (port < Operand.ports)
  | .xoffRefresh port => decide (port < Operand.ports)
  | .pauseExpiry port => decide (port < Operand.ports)
  | .pauseBypass port => decide (port < Operand.ports)
  | .linkUp port => decide (port < Operand.ports)
  | .linkDown port => decide (port < Operand.ports)
  | .transmitStart t => decide (t.port < Operand.ports) && t.handed.all Operand.ptpMessage
  | .transmitEnd port => decide (port < Operand.ports)
  | .obsFrame port => decide (port < Operand.ports)
  | .obsEpochTimeout m => decide (m < Operand.machines)
  | .posFrame port => decide (port < Operand.ports)
  | .statusFrame port => decide (port < Operand.ports)
  | .ackFrame port => decide (port < Operand.ports)
  | .wrongGenFrame port => decide (port < Operand.ports)
  | .opstopFrame port => decide (port < Operand.ports)
  | .obsParse => true
  | .posParse => true
  | .statusParse => true
  | .ackParse => true
  | .fixJob e => decide (e < Operand.engines)
  | .fixGateOpen => true
  | .fixJobComplete e => decide (e < Operand.engines)
  | .fixMismatchEvent e => decide (e < Operand.engines)
  | .pstSlotReset _ => true
  | .pstClearLat => true
  | .pstInject _ => true
  | .graphLoad => true
  | .graphVerified _ => true
  | .graphActivate => true
  | .rebase => true
  | .rebaseWindowEnd => true
  | .chtClearLat => true
  | .originWrite _ => true
  | .tickNearWrap => true
  | .tickWrap => true
  | .intervalReclaim => true
  | .grantPeriodBoundary => true
  | .ledger => true
  | .ledgerDecision => true
  | .routeSet => true
  | .halo => true
  | .lapse => true
  | .sramEccCorrected shard => decide (shard < Operand.shards)
  | .ledgerUe shard _ => decide (shard < Operand.shards)
  | .commandFetch ring entry _ _ _ => decide (ring < Operand.rings) && decide (entry.length = Operand.entryBytes)
  | .intakeResume => true
  | .taskEnqueue => true
  | .taskCancel => true
  | .taskRequeue => true
  | .allot => true
  | .dspClearMax => true
  | .stopInDebounce ch => decide (ch < 2)
  | .discrepancy => true
  | .fbFault ch => decide (ch < 2)
  | .nflTrigger _ => true
  | .latchMismatch => true
  | .clockCrossCheck => true
  | .safeSupplyMonitor => true
  | .nflWdgKick _ => true
  | .watchdogExpiry => true
  | .keyGraceExpiry => true
  | .nightfallFrameDue => true
  | .nflArm _ => true
  | .nflConfirm _ => true
  | .releaseAcknowledged => true
  | .confirmAckTimeout => true
  | .armWindowEnd => true
  | .nflMrel _ => true
  | .releaseResend => true
  | .timIncrInt _ => true
  | .incrApply => true
  | .timAdjCtrl _ => true
  | .adjustmentEnd => true
  | .timSetNs _ => true
  | .timLockReport _ => true
  | .timLossNs _ => true
  | .timReturn _ => true
  | .holdoverEntry => true
  | .sigTimeout => true
  | .stepInstant => true
  | .stepHoldEnd => true
  | .boundExceeded => true
  | .timeSyncSymbol _ => true
  | .ppsEdge n => decide (n < Operand.ppsOuts)
  | .tpEn k _ => decide (k < Operand.timedPulses)
  | .tpPulse k => decide (k < Operand.timedPulses)
  | .pulseWidthEnd out => decide (out < Operand.ppsOuts + Operand.timedPulses)
  | .peerDelayExchange port _ _ _ _ => decide (port < Operand.ports)
  | .pathAsymClear port => decide (port < Operand.ports)
  | .timNowCapture => true
  | .rtcLoad => true
  | .heartbeatSend => true
  | .heartbeatReceive _ _ => true
  | .pulseBurstSend => true
  | .pulseBurstReceive _ => true
  | .pathAFail => true
  | .pathBFail => true
  | .claimSample _ => true
  | .claimNRelease => true
  | .splitClaimLow => true
  | .splitClaimStuck => true
  | .mirrorRecord _ _ => true
  | .mirrorAck _ => true
  | .mirrorAckTimeout => true
  | .mirrorSyncComplete => true
  | .handoverAckTimeout => true
  | .yield => true
  | .resync => true
  | .peerWaitExpiry => true
  | .pcieReset => true
  | .dmaHold => true
  | .dmaResume => true
  | .doorbell ring _ => decide (ring < Operand.rings)
  | .ringEnable ring _ => decide (ring < Operand.rings)
  | .ringDisable ring => decide (ring < Operand.rings)
  | .nop => true
  | .machineSet => true
  | .machineGet => true
  | .acqSearch => true
  | .netTx ring entry _ _ _ _ _ => decide (ring < Operand.rings) && decide (entry.length = Operand.entryBytes)
  | .eventEnable g _ => decide (g < Operand.groups)
  | .vectorModerationEnd v => decide (v < Operand.vectors)
  | .zenithLock die => decide (die < 2)
  | .refLost => true
  | .flUnlock => true
  | .bbUnlock => true
  | .bbRelock => true
  | .auxUnlock which => decide (which < 10)
  | .powerOn _ bootSel _ => decide (bootSel < 8)
  | .bootComplete => true
  | .resetN _ => true
  | .brownOut _ => true
  | .deviceReset _ => true
  | .corrReset _ => true
  | .acqReset _ => true
  | .fixReset _ => true
  | .chartReset _ => true
  | .netReset _ => true
  | .regionResetDone region => decide (1 ≤ region) && decide (region ≤ 8)
  | .crpNetRst _ => true
  | .fifoDrop k _ => decide (k < Operand.fifos)
  | .fifoUe k => decide (k < Operand.fifos)
  | .targetDormant _ => true
  | .targetSurvey _ => true
  | .targetServe _ => true
  | .targetSnapshot _ => true
  | .targetMaintain _ => true
  | .snapshotPowerDown => true
  | .snapshotWake => true
  | .wakeN => true
  | .rtcAlarm => true
  | .mainRailsLost => true
  | .powerRequest _ => true
  | .cfgSwap _ => true
  | .confirm _ => true
  | .raiseFloor _ => true
  | .pushPeer _ => true
  | .cfgSave _ => true
  | .stageOpen => true
  | .peerOpenRecord _ => true
  | .stageBlock _ => true
  | .stageCommit _ => true
  | .stageAbort => true
  | .sessionTimeout => true
  | .otpProgram _ _ => true
  | .provision _ => true
  | .retire _ => true
  | .keyWrite => true
  | .keyDerive => true
  | .keyZeroise => true
  | .setLc => true
  | .replaceOwner => true
  | .attest => true
  | .tamperEvent src _ => decide (src < 8)
  | .keyRamUe slot => decide (slot < Operand.keySlots)
  | .keyRestore slot => decide (slot < Operand.keySlots)
  | .vbatLow => true
  | .debugAccess _ => true
  | .rtcCapture => true
  | .recordCommit => true
  | .foldWriteBack => true
  | .segmentRetired phys x => decide (phys < Operand.segments) && (match x with | .begins => true | .ends _ bad => bad.all (fun w => decide (w < Operand.segmentWords)))
  | .lifeboat cause => decide (cause = 1) || decide (cause = 2)
  | .recReadSeq _ => true
  | .recNonce => true
  | .recClear => true
  | .counterOverflow k => decide (k < Operand.counters)
  | .prfHiWrite k _ => decide (k < Operand.counters)
  | .freeze _ => true
  | .prfPairCapture k => decide (k < Operand.counters)
  | .stopInHealthy ch => decide (ch < 2)
  | .refInRestored => true
  | .safeSupplyRestored => true
  | .msixUnmask x => (match x with | .vector v => decide (v < Operand.vectors) | .function _ => true)
  | .powerRampDone pd => Operand.domain pd
  | .peerStageRecord _ _ _ => true
  | .brownOutEnd => true

end Sys2Proof
end

