-- ==== Sys2Proof/Tests/Slice0.lean ====
section
/-! SUPPORT. Ill-formed commands refused, a witness for every statement that has hypotheses, and values that the spec works
out. Every expected value is the spec's. -/
namespace Sys2Proof.Tests
set_option Elab.async false
open Sys2Proof.Machine Sys2Proof.Safety

/-! ### Well-formedness: for each check a term that only it refuses -/

theorem test_ill_formed_0 :
    ([.registerWrite 67108864 0 ⟨15, 0, false⟩,
      .registerWrite 0 0 ⟨16, 0, false⟩,
      .lowWordCapture 67108864,
      .codeGroupSync 4,
      .sysrefPulse ([0, 0, 0]),
      .ilasReceived 4 (zeros 14),
      .ilasReceived 0 (zeros 13),
      .codeErr 4,
      .linkLoss 4 false,
      .ingClipLoad 4 ([0, 0, 0, 0]),
      .ingClipLoad 0 ([0, 0, 0]),
      .ingLatencyWrite 4 0] : List Instr).all (fun c => !c.wf) = true := by
  decide +kernel
theorem test_ill_formed_1 :
    ([.latencyStep 4,
      .start 2048,
      .stopAt 2048,
      .abort 2048,
      .contextRun 2048,
      .integrationBoundary 2048 [],
      .replayCaptureEnd 2048 0,
      .replayCaptureEnd 0 256,
      .dumpDelivery 128,
      .rateMessage 2048 0 0,
      .codeRateHi 2048 0,
      .carrRateHi 2048 0] : List Instr).all (fun c => !c.wf) = true := by
  decide +kernel
theorem test_ill_formed_2 :
    ([.corrMismatchEvent 128 0,
      .corrMismatchEvent 0 16,
      .captureRelease 256,
      .captureWindowStart 256,
      .captureWindowEnd ⟨256, [[], [], [], []]⟩,
      .captureWindowEnd ⟨0, [[], [], []]⟩,
      .searchStart 4,
      .searchComplete 4,
      .snapFrame 4,
      .snapReassemblyTimeout 1024,
      .baseEpoch [⟨2048, 0, 0, 0, true, none, true, none, 0, 0, 0, 0, 0⟩],
      .baseEpoch [⟨5, 0, 0, 0, true, none, true, none, 0, 0, 0, 0, 0⟩, ⟨5, 1, 0, 0, true, none, true, none, 0, 0, 0, 0, 0⟩]] : List Instr).all (fun c => !c.wf) = true := by
  decide +kernel
theorem test_ill_formed_3 :
    ([.readmit 4 0,
      .exclude 4 0,
      .streamEpochDue 16,
      .frameReceive 4 [] false,
      .xoffRefresh 4,
      .pauseExpiry 4,
      .pauseBypass 4,
      .linkUp 4,
      .linkDown 4,
      .transmitStart ⟨0, [⟨.ethernet, zeros 16, true, true, zeros 33⟩]⟩,
      .transmitStart ⟨0, [⟨.ethernet, zeros 15, true, true, zeros 34⟩]⟩,
      .transmitStart ⟨0, [⟨.ethernet, zeros 16, true, true, zeros 1401⟩]⟩] : List Instr).all (fun c => !c.wf) = true := by
  decide +kernel
theorem test_ill_formed_4 :
    ([.transmitStart ⟨4, []⟩,
      .transmitEnd 4,
      .obsFrame 4,
      .obsEpochTimeout 1024,
      .posFrame 4,
      .statusFrame 4,
      .ackFrame 4,
      .wrongGenFrame 4,
      .opstopFrame 4,
      .fixJob 16,
      .fixJobComplete 16,
      .fixMismatchEvent 16] : List Instr).all (fun c => !c.wf) = true := by
  decide +kernel
theorem test_ill_formed_5 :
    ([.sramEccCorrected 32,
      .ledgerUe 32 0,
      .commandFetch 256 (zeros 64) [] false false,
      .commandFetch 0 (zeros 63) [] false false,
      .stopInDebounce 2,
      .fbFault 2,
      .ppsEdge 2,
      .tpEn 16 0,
      .tpPulse 16,
      .pulseWidthEnd 18,
      .peerDelayExchange 4 0 0 0 0,
      .pathAsymClear 4] : List Instr).all (fun c => !c.wf) = true := by
  decide +kernel
theorem test_ill_formed_6 :
    ([.doorbell 256 0,
      .ringEnable 256 0,
      .ringDisable 256,
      .netTx 256 (zeros 64) [] [] false false false,
      .netTx 0 (zeros 63) [] [] false false false,
      .eventEnable 16 0,
      .vectorModerationEnd 64,
      .zenithLock 2,
      .auxUnlock 10,
      .powerOn false 8 (⟨true, true⟩),
      .regionResetDone 0,
      .regionResetDone 9] : List Instr).all (fun c => !c.wf) = true := by
  decide +kernel
theorem test_ill_formed_7 :
    ([.fifoDrop 20 0,
      .fifoUe 20,
      .tamperEvent 8 false,
      .keyRamUe 64,
      .keyRestore 64,
      .segmentRetired 72 .begins,
      .segmentRetired 0 (.ends 0 [4096]),
      .lifeboat 3,
      .counterOverflow 256,
      .prfHiWrite 256 (⟨0, false⟩),
      .prfPairCapture 256,
      .stopInHealthy 2] : List Instr).all (fun c => !c.wf) = true := by
  decide +kernel
theorem test_ill_formed_8 :
    ([.msixUnmask (.vector 64),
      .powerRampDone 15,
      .powerRampDone 21] : List Instr).all (fun c => !c.wf) = true := by
  decide +kernel

/-- The greatest index of a kind, or its least, passes. -/
theorem test_well_formed_taken :
    ([.start 2047, .codeErr 3, .doorbell 255 0, .regionResetDone 1, .powerRampDone 20, .counterOverflow 255, .segmentRetired 71 (.ends 0 [])] :
      List Instr).all Instr.wf = true := by
  decide +kernel

/-! ### States for the witnesses -/

/-- Every power domain on. -/
def allOn : Tab PdState := (List.range 21).filterMap (fun k => if k = 15 then none else some (k, .on))

/-- A started LTX-960L in SERVE, clocks locked, Nightfall idle, provisioned. -/
def up : State :=
  { State.reset with
    crp := { Crp.reset with
      mode := .serve, booting := false, refOk := true, flLock := true, bbLock := true, pcieLock := true, memLock := true, nvLock := true,
      netLock := 15, pd := allOn }
    ing := { Ing.reset with held := false }
    tim := { Tim.reset (100 * tSec) with state := .locked, bbValid := true, cycles := 40920000000 }
    recorder := { Rec.reset with store := .mram }
    nfl := { Nfl.reset 1 0 with latch := .idle, outA := true, outB := true, held := 0 }
    upd := { Upd.reset with lcField := 1 } }

/-- A state with one register changed. -/
def withReg (a : Nat) (w : Word) (s : State) : State :=
  { s with bank := { s.bank with regs := Tab.put RegMap.reset s.bank.regs a w } }

/-- A state in another mode. -/
def inMode (m : Mode) (s : State) : State := { s with crp := { s.crp with mode := m } }

/-- A state whose sticky register holds a word. -/
def withStk (a : Nat) (w : Word) (s : State) : State := { s with io := { s.io with stk := Tab.put wordDef s.io.stk a w } }

/-- The state after a command. -/
def after (i : Instr) (s : State) : State :=
  match exec i s with
  | .next t => t
  | _ => s

/-- A host command by opcode, on ring 0, its completion ring 1. -/
def cmd (op : Nat) : Cmd := ⟨op, 0, 1, 7, 3, false, 1088, false⟩

/-- A job of a kind and flow with its work, alone in the dispatcher. -/
def job (k : JobKind) (flow : Nat) (w : JobWork) (c : Option Cmd) : Job :=
  ⟨0, k, flow, 2, 0, false, none, none, none, 0, w, c⟩

/-- The job of a host command with its body. -/
def hostJob (k : JobKind) (op : Nat) (b : List Byte) : Job := job k 1088 (.body b) (some (cmd op))

def withJob (j : Job) (s : State) : State := { s with dsp := { s.dsp with jobs := [j], nextId := 1 } }

/-- A state with a running command ring 0 (kind `k`), one entry waiting in it, and a running completion ring 1. -/
def withRings (k : Nat) (s : State) : State :=
  { s with io := { s.io with ring :=
    [(0, { ringDef 0 with cfg := BitVec.ofNat 32 (0x101 + 2 * k), state := .run, host := 1 }),
     (1, { ringDef 1 with cfg := 5, state := .run })] } }

/-- A state with port 0 enabled and as given. -/
def withPort (p : NetPort) (s : State) : State := withReg (Reg.NET_CTRL 0) 0x1C1 { s with net := [(0, p)] }

/-- A port whose link is up. -/
def linked : NetPort := { portDef 0 with link := true }

def mPos (gen : Nat) (s : State) : State := { s with mach := [(5, { machDef 5 with entry := { entryDef with gen := gen, key0 := 1, slot := 3, slotValid := true, cls := 2 } })], key := { s.key with slot := [(1, ⟨.valid, 0, 7, false, 0, 0, zeros 16⟩)] } }
def plp (type gen m : Nat) (body : List Byte) : List Byte :=
  let b : List Byte := [0x50, 0x4C] ++ leBytes 1 (type + 16 * gen) ++ [1] ++ leBytes 2 m ++ leBytes 2 (32 + body.length) ++ leBytes 4 7 ++ leBytes 4 100 ++ zeros 8 ++ body
  b ++ tag (zeros 16) b 8
def rx (b : List Byte) : RxFrame := ⟨zeros 16, 0, b, 0, 0, b.length + 66⟩
def rxIn (gen : Nat) (b : List Byte) : State := mPos gen (withPort { linked with fifo := [rx b] } up)
def posB : List Byte := plp 2 1 5 (zeros 52)
def statB : List Byte := plp 8 2 5 (zeros 20)
def ackB : List Byte := plp 10 2 5 ([7] ++ zeros 11)
def obsB : List Byte := plp 1 2 5 ([0x10, 1] ++ zeros 8 ++ [2] ++ zeros 25)
def snapB : List Byte := plp 9 2 5 (zeros 13 ++ [2, 0, 2] ++ zeros 4 ++ [8] ++ zeros 11)
def badGenB : List Byte := plp 2 1 5 (zeros 52)
def opB : List Byte := [0x50, 0x4C, 11, 0] ++ leBytes 2 5 ++ leBytes 2 40 ++ leBytes 4 7 ++ leBytes 4 100 ++ zeros 24
theorem taggedByZeros (s : State) (k : Nat) (b : List Byte) (h : keyOf s k = zeros 16) :
    tagOk (keyOf s k) (b ++ tag (zeros 16) b 8) = true := by
  rw [h]
  exact tagOk_tagged _ _ (by decide +kernel) (by decide +kernel)
theorem plpCheck_tagged (s : State) (n : Nat) (f : RxFrame) (v : Verdict)
    (ht : tagOk (keyOf s (linkSlot (mach s (plpMachine f.plp)).entry (plpKeySel f.plp))) f.plp = true)
    (h : (let b := f.plp
  let m := plpMachine b
  let x := mach s m
  let k := linkSlot x.entry (plpKeySel b)
  let d := (plpSeq b + 2 ^ 32 - x.seqLast) % 2 ^ 32
  if b.length < 32 ∨ b.take 2 ≠ [0x50, 0x4C] ∨ plpLength b ≠ b.length ∨ plpType b < 1 ∨ 11 < plpType b ∨ 1 < plpKeySel b then
    Verdict.drop 1 false
  else if plpType b = 11 then .opstop
  else if gradeMachines s ≤ m ∨ x.entry.gen = 0 ∨
      (x.entry.strict = true ∧ (n ≠ x.entry.port ∨ f.srcAddr ≠ x.entry.addr ∨ f.srcPort ≠ x.entry.udpPort)) then .drop 2 false
  else if !keyUsable s k 2 then .drop 3 false
  else if !plpTagged b then .drop 4 false
  else if !x.resetSeq && !(decide (1 ≤ d) && decide (d < 2 ^ 31)) then .drop 5 true
  else if plpGen b ≠ x.entry.gen ∨ plpFromBase b = true ∨ typeAllowed x.entry.gen (plpType b) = false then .answer 0x48
  else if bodyOk b = false ∨ 999999999 < plpEpochNs b then .answer 0x49
  else .accept) = v) : plpCheck s n f = v := by
  rw [← h]
  unfold plpCheck
  simp only [ht, Bool.not_true, Bool.false_eq_true, if_false]

def caps (l : Tab Capture) (s : State) : State := { s with acq := { s.acq with caps := l } }
def cap0 : Capture := ⟨0xFFFF, 24, 100000, 0, 1, false, false, 0, []⟩
def q0 : Search := { searchOf (zeros 64) none with nc := 1, nbins := 1 }
def sbody : List Byte := zeros 3 ++ [0x80] ++ zeros 26 ++ [1, 0, 1] ++ zeros 31
def ep (p : Bool) : BaseEp := ⟨100000000000, [], p, false, [], [], 0, 0, 0, 0, []⟩
def refSrv (s : State) : State := withReg (Reg.REF_STREAM_CFG 15) 1 { s with ref := { s.ref with ant := [(0, { refAntDef 0 with state := .inService })], epochs := [ep true] } }
def frame0 : List Byte := zeros 12 ++ [8, 0, 0x45, 0, 0, 52, 0, 0, 0, 0, 0x40, 0x11, 0x7A, 0xBA] ++ zeros 8 ++ [0x12, 0x34, 0xB8, 0x6A, 0, 32, 0, 0] ++ zeros 24
def tx0 (k : TxKind) : TxFrame := ⟨k, zeros 60, none, 5, 1, none, 0, none⟩
def task0 : Task := ⟨9, 1, 0, 1, [], .assigned, some 5, 0⟩
def seg0 : Seg := ⟨0, 0, 0, 10000, 0, 0, 10000, 5000, 0⟩

def noReg : RegDesc := ⟨0, 1, 1, 1, 1, 1, 0, none, []⟩
def ant0 (a : Ant) (s : State) : State := { s with ing := { s.ing with ant := [(0, a)] } }
def dataAnt (s : State) : State := ant0 { antDef 0 with link := .data, cdrLock := true, aligned := true } s
def ctx3 (c : Ctx) (s : State) : State := { s with cor := { s.cor with ctx := [(3, c)] } }
def running : Ctx := { ctxDef 3 with state := .run, chipsPerMs := 1023, aLen := 1023, codeRate := 2 ^ 40 }
def g0 : Graph := ⟨7, 2000, 0, 0, 0, 8, 1, 1, [seg0], [[]], [[]]⟩
def graphKey : List Byte :=
  leBytes 48 0x2ca8c560f92280756d4d4e5903043a370532b246669e6110b033f9ab150d51863208e24bd70ce3738d027638bbd54cd2 ++
  leBytes 48 0x1fc91a81a4cd7ea2ab6c205986767e830926c1bbf7eff71c25a2245d787dd8cc01731db7c2d9b1f4ab7ce1959c83624f
def img0 : List Byte :=
  [0x4C, 0x47, 0x52, 0x46, 1, 0, 0, 0] ++ leBytes 4 7 ++ leBytes 4 1 ++ zeros 4 ++ leBytes 4 2000 ++ zeros 24 ++ leBytes 4 8 ++ [1, 0, 1, 0] ++
  zeros 8 ++ leBytes 8 256 ++ leBytes 8 288 ++ leBytes 8 304 ++ leBytes 8 296 ++ leBytes 8 304 ++ leBytes 4 0xa6284c3d ++ zeros 52 ++
  leBytes 48 0xfda859f82bfaaa0596e6bbe14024460e3c2e19c03abb26bd9a93a5a461ccd76b5f4f718b51658e3914225cd060531523 ++
  leBytes 48 0x0bc68d8af84fffc5008f97c69b2c93ba566abec6e8fa5c2b1c375a7daef3eb20701d57b04c3e96d12530e2df0db02420 ++
  zeros 12 ++ leBytes 4 10000 ++ zeros 8 ++ leBytes 4 10000 ++ leBytes 2 5000 ++ zeros 18
def chart (f : Cht → Cht) (s : State) : State := { s with cht := f s.cht }
def halo0 : HaloIn := ⟨0, 0, 0, 99990 * tMs, 3, 100, 0, 0, true, false, 0, 100 * tSec, 2⟩
def cm0 : ChtMach := { chtMachDef 5 with route := [0], matched := some 0 }
def haloSt : State := withReg Reg.CHT_CTRL 0x8004B064 (withReg (Reg.CHT_CLASS_TIME 2) 0x07D000C8 (withReg (Reg.CHT_CLASS_BRAKE_01 2) 0x03E803E8 (withReg (Reg.CHT_CLASS_SIZE 2) 0x006401F4 (withReg (Reg.CHT_CLASS_LIMITS 2) 0x07D003E8 (chart (fun c => { c with active := some g0, mach := [(5, cm0)] }) (withJob (job .halo 5 (.halo halo0) none) (mPos 2 up)))))))
def plan0 : GrantPlan := match haloRows haloSt 5 halo0 g0 false (some ⟨0, Frac.ofInt 0, Frac.ofInt 0⟩) [0] 0 none with | .go p => p | _ => ⟨0, 0, 0, 0, 0, 0, [], 0⟩
def item0 : Item := ⟨0, 0, 0, 100000, 100100, 5, 0, false, false⟩
def reqSt (q : Request) : State := chart (fun c => { c with reqs := [q] }) haloSt
def hostReq : Request := ⟨3, [item0], .host, 0, 0⟩
def haloReq : Request := ⟨3, haloItems haloSt 5 plan0, .halo 5 plan0, 0, 0⟩
def pathSt : State := chart (fun c => { c with ivals := [⟨0, 0, 5, 0, 200000⟩] }) (reqSt haloReq)
def lapseSt : State := chart (fun c => { c with mach := [(5, { cm0 with live := true, grantNo := 4, expiry := 100 * tSec })] }) (mPos 2 up)
def lapseJob : Job := (pickJob (lapseDue lapseSt) 2 (fun _ => true)).getD (job .lapse 0 (.lapse 0) none)
def fs0 : FixStart := ⟨3, { slotDef 3 with run := true, owner := 5, epoch := 99999000000 }, 5, 99999000000, (mach (mPos 2 up) 5).entry, [], some (ep true), some 0, [], []⟩
def fjob (b : Option (Option Nat)) : Job := job .fix 5 (.obs 99999000000 [] b) none
def fixSt (f : FixStart) : State := { withJob { fjob (some none) with inService := true, engine := some 15 } (mPos 2 up) with pst := { Pst.reset with engine := [(15, ⟨some (0, f), none⟩)] } }
def fj0 : Job := { fjob (some none) with inService := true, engine := some 15 }
def snap0 : Snap := ⟨1, 5, 1, 2, [0, 1], [], 98 * tSec, 0, 0, 0, 0, true, false, 2, 0, 0, (0, 0, 0), [], [], 0, 0, zeros 16, 0⟩
def cmdSt (j : Job) (s : State) : State := withJob j (withRings 1 s)
def tbody : List Byte := [9, 0, 0, 0, 255, 15, 7, 0, 4, 0, 0, 0, 1, 0, 0, 0, 0xAB]
theorem haloMatch : bestMatch g0 (planePos g0 0 0 0) (candidates [0] (some 0)) = some ⟨0, Frac.ofInt 0, Frac.ofInt 0⟩ := by
  have h : candidates [0] (some 0) = [(0, 0)] := by decide +kernel
  have hp : planePos g0 0 0 0 = planePoint g0 0 0 0 := by simp [planePos, planePoint, g0]
  rw [h, hp]
  simp [bestMatch, segAt, g0, seg0, footOf]
def paired (f : Pai → Pai) : State := { up with pai := f { Pai.reset with pair := true, active := true } }
def okPath : Path := { pathDown with ok := true }
def standbyUnit : State := inMode .standby (paired (fun p => { p with active := false, sync := 2, applied := 41 }))
def withKey (k : Nat) (t e : Nat) (s : State) : State := { s with key := { s.key with slot := [(k, ⟨.valid, t, e, false, 0, 0, zeros (keyLen t)⟩)] } }
def ku (a ctr slot type parent target engines : Nat) : List Byte :=
  [0x4B, 0x55, 0x50, 0x44, 1, 0] ++ leBytes 1 a ++ zeros 17 ++ leBytes 8 ctr ++ leBytes 1 slot ++ leBytes 1 type ++ leBytes 1 parent ++ leBytes 1 target ++ leBytes 1 engines ++ zeros 347
def hj (op : Nat) (b : List Byte) : Job := hostJob .hostCmd op b
def session0 (bs : List (Nat × List Byte)) (src : Nat) : Session := ⟨1, src, 65537, bs, 90 * tSec⟩
def staging (bs : List (Nat × List Byte)) (src : Nat) (s : State) : State := { s with upd := { s.upd with session := some (session0 bs src), staging := .receiving } }
def rec0 : Record := ⟨5, 1, 2, zeros 4, 0, 0, 0, false, false, false⟩
def recording : State := { up with recorder := { Rec.reset with store := .mram, inProgress := some rec0, slots := [(0, ⟨0, 1, 0, [], true, []⟩)] } }
def clearBody : List Byte := [63, 0, 0, 0, 1, 2, 3, 4] ++ hmacSha256 (zeros 32) (nonceBytes 9 ++ [1, 2, 3, 4])
def clearSt : State := withJob (hj 0x39 clearBody) (withKey 63 2 8 { up with recorder := { up.recorder with nonce := some (9, 41 * tSec) } })
theorem clearOk : clearStatus (cmdBody (hj 0x39 clearBody)) clearSt = 0 := by
  have hn : validNonce clearSt = some 9 := by decide +kernel
  have hk : ¬(64 ≤ leAt (cmdBody (hj 0x39 clearBody)) 0 1 ∨ keyUsable clearSt (leAt (cmdBody (hj 0x39 clearBody)) 0 1) 3 = false) := by
    decide +kernel
  have hl : ¬ lc clearSt = 3 := by decide +kernel
  have hb : (cmdBody (hj 0x39 clearBody)).drop 8 = hmacSha256 (zeros 32) (nonceBytes 9 ++ [1, 2, 3, 4]) := by
    have h : cmdBody (hj 0x39 clearBody) = clearBody := rfl
    rw [h]
    simp only [clearBody, List.cons_append, List.nil_append, List.drop_succ_cons, List.drop_zero]
  have h4 : ((cmdBody (hj 0x39 clearBody)).drop 4).take 4 = [1, 2, 3, 4] := by
    have h : cmdBody (hj 0x39 clearBody) = clearBody := rfl
    rw [h]
    simp only [clearBody, List.cons_append, List.nil_append, List.drop_succ_cons, List.drop_zero, List.take_succ_cons, List.take_zero]
  have hm : keyOf clearSt (leAt (cmdBody (hj 0x39 clearBody)) 0 1) = zeros 32 := by decide +kernel
  unfold clearStatus
  simp only [hl, hk, hn, hb, h4, hm, if_false]
  exact if_pos (List.take_of_length_le (by simp))
def lane (g : Ant → Ant) (s : State) : State := ant0 (g { antDef 0 with link := .codeGroup, cdrLock := true }) s
/-- The frame of a lane whose four octets are 0x10. -/
def good : BitVec 37 := BitVec.ofNat 37 (0x10 + 0x10 * 2 ^ 9 + 0x10 * 2 ^ 18 + 0x10 * 2 ^ 27)
def image0 : List Byte :=
  [0x4C, 0x54, 0x58, 0x49, 1, 0, 3, 0] ++ leBytes 4 7 ++ [0, 0, 7, 0] ++ leBytes 4 512 ++ zeros 12 ++ graphKey ++
  (List.range 7).flatMap (fun k => leBytes 16 k) ++ zeros 144 ++
  leBytes 48 0xfda859f82bfaaa0596e6bbe14024460e3c2e19c03abb26bd9a93a5a461ccd76b5f4f718b51658e3914225cd060531523 ++
  leBytes 48 0x5464caf8f9c914e652838ecf291a96426653bfd16176c414e273769531cac97bf1fdb4d48fe3535e2eb8c856b2e97e2f ++ zeros 32
def whole (src : Nat) : Session := ⟨1, src, 512, [(0, image0)], 90 * tSec⟩
def withSession (x : Session) (s : State) : State :=
  { s with upd := { s.upd with session := some x, staging := .receiving, imageKey := digest384 graphKey } }
def signedSt : State :=
  chart (fun c => { c with stage := 1, loadLen := 304, loadKey := some graphKey })
    { up with key := { up.key with slot := [(0, ⟨.valid, 3, 16, false, 0, 0, graphKey⟩)] } }
/-- The 64 jobs that fill a machine's flow. -/
def fullFlow (s : State) : State :=
  { s with dsp := { s.dsp with jobs := List.replicate 64 (job .parse 5 (.frame 0 []) none), nextId := 64 } }
def chan0 : ChanObs := ⟨3, 7, 0, 0, true, none, true, none, 200, 0, 0, 0, 0⟩
def tracking : State :=
  withReg (Reg.REF_ANT_CFG 0) 3 (dataAnt (ctx3 { running with marks := [⟨99999000000, some 0, 0, 0, 0, 0, 0, 2 ^ 40, 0⟩], locks := [5] } up))
def sig0 : BaseSig := (formOne tracking tracking.bank.regs 100000000000 chan0).getD ⟨0, 0, 0, 0, 0, 0, 0, false, 0, 0, 0, 0, 0, 0⟩
/-- A PTP frame over Ethernet (EtherType 0x88F7). -/
def ptpFrame : List Byte := zeros 12 ++ [0x88, 0xF7] ++ zeros 46
def ptpTx : TxFrame := ⟨.ptp, ptpFrame, none, 0, 0, none, 0, some ⟨.ethernet, true, true, 14, 44⟩⟩
def tripping (s : State) : State := withReg Reg.GLB_TEMP 0x01000069 s
def eph0 : SnapEph := ⟨0, 5, 0, 0, 2 ^ 32, [], 0, 1, 0, 1023, 0, 0, 100, 1, 1, 0⟩
def snapJob (k : JobKind) (b : Bool) : Job := { job k 5 (.snap 1) none with inService := b }
def snapSt (j : Job) : State := { withJob j up with acq := { Acq.reset with snaps := [(1, snap0)] } }
def booting : State := { State.reset with crp := { Crp.reset with refOk := true, flLock := true, pcieLock := true, memLock := true, nvLock := true } }
def snapWit : State := { snapSt (snapJob .snapSolve false) with ref := { Ref.reset with ephs := [eph0] } }
def encSt : State :=
  withPort linked (withReg (Reg.REF_STREAM_CFG 15) 0x101 (withReg (Reg.REF_STREAM_MSG_MASK 15) 0x1000
    (withJob (job .encode 1039 (.stream 15 100000000000) none)
      (refSrv { up with ref := { up.ref with stream := [(15, { streamDef 15 with force := true })] } }))))
theorem snapWit_signals : snapSignals snapWit snap0 = [] ∨ ∃ d, snapSignals snapWit snap0 = [(eph0, d)] := by
  have h : snapWit.ref.ephs.filter (ephFits snap0) = [eph0] := by decide +kernel
  simp only [snapSignals, h, List.filterMap_cons, List.filterMap_nil]
  cases Config.snapPredict eph0 _ _ _ _ <;> simp
theorem snapFit : (List.zip (List.range (snapSignals snapWit snap0).length) (snapSignals snapWit snap0)).all
    (fun x => !searchBad (snapSearch snap0 x.1 x.2.1 x.2.2)) = true := by
  rcases snapWit_signals with h | ⟨d, h⟩ <;> rw [h]
  · rfl
  · exact (rfl : (!searchBad (snapSearch snap0 0 eph0 0) && true) = true)
theorem snapRoom : queued snapWit +
    (List.zip (List.range (snapSignals snapWit snap0).length) (snapSignals snapWit snap0)).length ≤ 256 := by
  have hq : queued snapWit = 0 := by decide +kernel
  rw [hq]
  rcases snapWit_signals with h | ⟨d, h⟩ <;> rw [h] <;> simp
def fifoWaits (k : Nat) (s : State) : State := after (.fifoUe k) s

/-! ### Values that the spec works out -/

/-- Chapter 0 and R81: channel 1,337 has its registers at 0x0045_4E40; a LTX-960S has none there. -/
theorem test_channel_1337 :
    Reg.COR_CFG 1337 = 0x00454E40 ∧ (regAt up 0x00454E40).isSome = true ∧ (regAt { up with grade := .s } 0x00454E40).isNone = true := by
  decide +kernel

/-- Chapter 2, an L5 channel: the two words of CARR_RATE together. -/
theorem test_l5_carrier_rate :
    (ctx (after (.carrRateHi 7 0xD001) { up with bank := { up.bank with low := [(Reg.COR_CARR_RATE_LO 7, 0xE0D93495)] } }) 7).pendCarr =
      some 0xD001E0D93495 := by
  decide +kernel

/-- Chapter 12, indices across the wrap: a ring of 1,024 entries takes 192 entries and then stops with code 1. -/
def wrapRing : State :=
  { up with io := { up.io with ring := [(5, { ringDef 5 with cfg := 0x143, state := .run, dev := 0xFFFFFF80, host := 0xFFFFFF80 })] } }
theorem test_doorbell_across_wrap :
    (ring (after (.doorbell 5 0x40) wrapRing) 5).state = .run ∧ ringFill (ring (after (.doorbell 5 0x40) wrapRing) 5) = 192 ∧
    (ring (after (.doorbell 5 0x440) (after (.doorbell 5 0x40) wrapRing)) 5).err = 1 := by
  decide +kernel

/-- Chapter 10, steering the increment: -180 ns over 10,000 ms is taken, over 4,092,000,000 cycles. -/
theorem test_adjustment_taken :
    (after (.timAdjCtrl 10000) (withReg Reg.TIM_ADJ_OFFSET 0xFFFFFF4C up)).tim.adjCycles = 4092000000 ∧
    (after (.timAdjCtrl 10000) (withReg Reg.TIM_ADJ_OFFSET 0xFFFFFF4C up)).tim.adjRemain = -180 * 2 ^ 32 := by
  decide +kernel

/-- Table 10.3: U 2 s and 1,800 s after a loss at 20 ns. -/
def lost (ms : Nat) : State :=
  { up with tim := { up.tim with state := .holdover, now := ms * tMs, tLoss := some ((5000020 * tMs : Nat) : Int), u0 := 20 } }
theorem test_holdover_uncertainty : timUnc (lost 5002020) = some 23 ∧ timUnc (lost 6800020) = some 1830 := by
  decide +kernel

/-- Table 10.3: a return with e = -730 ns at 6,812.4 s announces a step at 6,815 s, which then moves the counter. -/
def returned : State :=
  after (.timReturn 0xFFFFFD26)
    { lost 6812400 with tim := { (lost 6812400).tim with reports := [(6812000 * tMs, 20)], lastUnc := 20 } }
theorem test_return_announces_step :
    returned.tim.state = .stepPending ∧ returned.tim.step = some ⟨730, 6815⟩ ∧ timUnc returned = some 750 := by
  decide +kernel
theorem test_step_moves_counter :
    (after .stepInstant { returned with tim := { returned.tim with now := 6815 * tSec } }).tim.now = 6815000000730 * tNs ∧
    (after .stepInstant { returned with tim := { returned.tim with now := 6815 * tSec } }).tim.state = .locked := by
  decide +kernel

/-- Chapter 10, an asymmetric re-route: the path delay of the first exchange is 4,220 ns. -/
theorem test_peer_delay :
    (timPort (after (.peerDelayExchange 2 123456312000 123460642000 123470642000 123474752000) up) 2).delay = 4220000 := by
  decide +kernel

/-- Table 9.5: frames 0, 1 and 99 of a latch set at 400.000001 s. -/
theorem test_nightfall_schedule :
    launchOf (400000001000 * tNs) 0 = 400000101000 * tNs ∧ launchOf (400000001000 * tNs) 1 = 400010101000 * tNs ∧
    launchOf (400000001000 * tNs) 99 = 400990101000 * tNs := by
  decide +kernel

/-- Table 8.6: machine 210 is allotted task 8,001, machine 211 then 7,001, and machine 305 task 9,001. -/
def tasks : List Task :=
  [⟨7001, 7, 2, 8, [], .queued, none, 0⟩, ⟨7002, 7, 2, 8, [], .queued, none, 0⟩, ⟨8001, 8, 1, 40, [], .queued, none, 0⟩,
   ⟨9001, 9, 0, 32, [], .queued, none, 0⟩]
def board (l : List Task) : State := { up with tsk := ⟨l, 0⟩ }
theorem test_allotment :
    ((bestTask (tasks.filter (allottable (board tasks) 3))).map (·.id) = some 8001) ∧
    (let busy := tasks.map (fun k => if k.id = 8001 then { k with state := .assigned, holder := some 210 } else k)
     (bestTask (busy.filter (allottable (board busy) 3))).map (·.id) = some 7001 ∧
     (bestTask (busy.filter (allottable (board busy) 5))).map (·.id) = some 9001) := by
  decide +kernel

/-- Table 14.11: 192 blocks of an image of 12,582,912 bytes. -/
theorem test_image_blocks : blockCount ⟨1, 1, 12582912, [], 0⟩ = 192 := by decide +kernel

/-- Table 7.8: t_stop of the orchard platform is 1.502 s, of the haul truck 3.702 s. -/
def classState (time brake size : Word) (cls : Nat) : State :=
  withReg Reg.CHT_CTRL 0x8004B064 (withReg (Reg.CHT_CLASS_TIME cls) time (withReg (Reg.CHT_CLASS_BRAKE_01 cls) brake
    (withReg (Reg.CHT_CLASS_SIZE cls) size up)))
def farm (surface : Nat) : Graph :=
  ⟨7, 3000, 0, 0, 0, 8, 1, 1, (List.range 4).map (fun i => ⟨25000 * i, 0, 0, 25000 * (i + 1), 0, 0, 25000, 10000, surface⟩),
   [[], [], [], []], [[]]⟩
def update (ve : Int) (pl : Nat) : HaloIn := ⟨0, 0, 0, 100 * tSec, 3, pl, ve, 0, true, false, 0, 100 * tSec, 2⟩
theorem test_t_stop :
    (haloCompute (classState 0x09C400FA 0x07D0 0x00960384 6) 5 6 (update 2500 45) (farm 0) [0, 1, 2, 3] 0 0 (Frac.ofInt 0) 2000000).map
      (·.tStop) = some (1502 * tMs) ∧
    (haloCompute (classState 0x1F4001F4 0x09C40000 0x03E80960 6) 5 6 (update 8000 130) (farm 1) [0, 1, 2, 3] 0 0 (Frac.ofInt 0) 2000000).map
      (·.tStop) = some (3702 * tMs) := by
  decide +kernel

/-- Table 15.1, row by row. -/
theorem test_life_cycle_codes :
    [lcCode 0, lcCode 1, lcCode 3, lcCode 7, lcCode (7 + 2 ^ 63), lcCode (2 ^ 127)] = [0, 1, 2, 3, 2, 4] := by
  decide +kernel

/-- R12: the low word of a pair waits for the high word. -/
theorem test_low_word_waits :
    rd (after (.registerWrite Reg.CHT_GRAPH_ADDR_LO 0x1000 ⟨15, 0, false⟩) up) Reg.CHT_GRAPH_ADDR_LO = 0 ∧
    rd (after (.registerWrite Reg.CHT_GRAPH_ADDR_HI 7 ⟨15, 0, false⟩) (after (.registerWrite Reg.CHT_GRAPH_ADDR_LO 0x1000 ⟨15, 0, false⟩) up))
      Reg.CHT_GRAPH_ADDR_LO = 0x1000 := by
  decide +kernel

/-- R418: a host write of a configuration set changes the shadow, and a swap brings it into force. -/
theorem test_swap :
    rd (after (.registerWrite Reg.DSP_LEVEL 0x55555 ⟨15, 0, false⟩) up) Reg.DSP_LEVEL = 0x14321 ∧
    rd (after (.cfgSwap 0x80000020) (after (.registerWrite Reg.DSP_LEVEL 0x55555 ⟨15, 0, false⟩) up)) Reg.DSP_LEVEL = 0x55555 := by
  decide +kernel

/-- R370: a second trigger of a vector within its interval is held. -/
theorem test_vector_held :
    (vecTrigger 0 true 3 (vecTrigger 0 true 3 { Io.reset with vec := [(3, { vecDef 3 with masked := false, minUs := 5 })] }).1).1.out =
      [.msix 3] := by
  decide +kernel

/-- R476, R477: in SERVE, 2^48 events on a chained pair leave one in its odd counter. -/
theorem test_chained_pair :
    pairCount (ctrAdd true 192 (2 ^ 48 + 5) Io.reset).1 96 = 2 ^ 48 + 5 := by
  decide +kernel

/-- R140: a frame that fails its FCS is dropped without a source. -/
theorem test_bad_fcs : classify up 0 (zeros 60) false = .drop false := by decide +kernel

/-- R482, Table 13.1: FABRIC runs at twice the TIME clock. -/
theorem test_fabric_cycles :
    (ioCtr (tick { up with io := { up.io with ctr := [(192, { ctrDef 192 with event := 0x190 })] } }).io 192).count = 2 := by
  decide +kernel

/-- The check values of the standards that the spec names: CRC-32C of "123456789", SHA-256 and SHA-384 of "abc" (FIPS 180-4),
AES-CMAC of the empty message (NIST SP 800-38B). -/
theorem test_standard_vectors :
    crc32c [0x31, 0x32, 0x33, 0x34, 0x35, 0x36, 0x37, 0x38, 0x39] = 0xE3069283 ∧
    (sha256 [0x61, 0x62, 0x63]).take 4 = [0xBA, 0x78, 0x16, 0xBF] ∧ (sha384 [0x61, 0x62, 0x63]).take 4 = [0xCB, 0x00, 0x75, 0x3F] ∧
    (aesCmac [0x2B, 0x7E, 0x15, 0x16, 0x28, 0xAE, 0xD2, 0xA6, 0xAB, 0xF7, 0x15, 0x88, 0x09, 0xCF, 0x4F, 0x3C] []).take 4 =
      [0xBB, 0x1D, 0x69, 0x29] := by
  decide +kernel

/-- Chapter 6, heading and pitch: a baseline of 0.6000, −1.0392 and 0.0419 m has heading 150.00° and pitch 2.00°. -/
theorem test_heading_pitch : headingOf ⟨⟨[], []⟩, 600000, -1039200, 41900⟩ = 15000 ∧ pitchOf ⟨⟨[], []⟩, 600000, -1039200, 41900⟩ = 200 := by
  decide +kernel

/-- Chapter 6, a horizontal protection level: K_md 5.79 and K_fa 4.93 for 12 groups of a fixed solution. -/
theorem test_k_factors : (kMd fs0 true 12 + 5000000) / 10000000 = 579 ∧ (kFa fs0 12 + 5000000) / 10000000 = 493 := by
  decide +kernel

/-- Chapter 4, one pseudorange, two generations: 22,345,678.912 m in 1004 (DF014, DF011) and 1077 (DF397, DF398, DF405). -/
def range0 : BaseSig := ⟨0, 3, 0, 7, 0, 0, 2, false, 0, fp64.ofFrac ⟨22345678912, 1000⟩, 0, 0, 200, 0⟩
theorem test_pseudorange_fields :
    (24, 8051851) ∈ legacySat legacyGps range0 none ∧ (8, 74) ∈ legacySat legacyGps range0 none ∧
    (8, 74) ∈ msmBody true [range0] ∧ (10, 550) ∈ msmBody true [range0] ∧ (20, 28080) ∈ msmBody true [range0] := by
  decide +kernel

/-- R41: frame octet k is band B_k, I above Q, two's complement. -/
theorem test_lane_sample :
    (laneRun false [0, 0, BitVec.ofNat 37 (0x8F + 0x71 * 2 ^ 9)]).map (·.map (fun w => (sampleOf (bandOctet 0 w), sampleOf (bandOctet 1 w)))) =
      [some ((-8, -1), (7, 1))] := by
  decide +kernel


/-- R9: an event in the cycle of the write keeps its bit. -/
theorem test_w1c_event_stays :
    stk (after (.registerWrite Reg.DSP_STICKY 5 ⟨15, 4, false⟩) (withStk Reg.DSP_STICKY 5 up)) Reg.DSP_STICKY = 4 := by
  decide +kernel

/-- R27: a reading above what a byte holds trips. -/
theorem test_trip_above_a_byte :
    stkSet (after (.thermalSample 130 0 0) up) Reg.GLB_ERR 1 ∧ (after (.thermalSample 130 0 0) up).crp.tripStop = true := by
  decide +kernel

/-- R39: leaving MAINTAIN with the time unit in HOLDOVER takes a subclass-0 link down. -/
theorem test_subclass0_leaves_maintain :
    (ant (after (.targetServe 0x4D000003)
      (inMode .maintain (ant0 { antDef 0 with link := .data, cdrLock := true, aligned := true, nondet := true }
        { up with tim := { up.tim with state := .holdover } }))) 0).link ≠ .data := by
  decide +kernel

/-- R471: the uncorrectable words of a copy are kept as written zero, and the spare takes the segment's place. -/
theorem test_copy_zeroes :
    (recSlot (after (.segmentRetired 5 (.ends 0 [3])) (after (.segmentRetired 5 .begins) up)).recorder 5).zeroed = [3] := by
  decide +kernel

/-! ### Witnesses: for every statement, values that meet the hypotheses of each of its clauses -/

theorem inv_up : Safety.Inv up := by
  refine ⟨by decide +kernel, by decide +kernel, fun u => ?_, fun ch => ?_, by decide +kernel, by decide +kernel⟩
  · show (unitDef u).dumps.length ≤ 4
    simp [unitDef]
  · intro v hv
    have h : (ctx up ch).acc = [] := rfl
    rw [h] at hv
    simp at hv

theorem witness_StepRunsTheFrontCommand :
    ∃ (s : State), s.pending = [] :=
  ⟨State.reset, by decide +kernel⟩
theorem witness_EveryStepKeepsInv :
    ∃ (s : State) (t : State), Safety.Inv s ∧ step s = .next t :=
  ⟨up, tick up, inv_up, rfl⟩
theorem witness_OtpOnlyGrows :
    ∃ (c : Instr) (s : State) (t : State), exec c s = .next t :=
  ⟨.confirm 1, up, after (.confirm 1) up, rfl⟩
theorem witness_OnlyResetsAndWakesEnterBoot :
    ∃ (c : Instr) (s : State) (t : State), Safety.Inv s ∧ s.crp.mode ≠ .boot ∧ exec c s = .next t ∧ t.crp.mode = .boot :=
  ⟨.deviceReset 0xA5000001, up, after (.deviceReset 0xA5000001) up, inv_up, by decide +kernel, rfl, by decide +kernel⟩
theorem witness_ChainedPairsCountAsOne :
    (∃ (io : Io) (e : Nat) (k : Nat), k ∈ ctrsOf true e io) ∧
    (∃ (io : Io) (j : Nat) (n : Nat), j < 128 ∧ 2 ^ 96 ≤ pairCount io j + n) :=
  ⟨⟨{ Io.reset with ctr := [(192, { ctrDef 192 with event := 7 })] }, 7, 192, by decide +kernel⟩,
   ⟨{ Io.reset with ctr := [(192, { ctrDef 192 with event := 7, count := BitVec.allOnes 48 }), (193, { ctrDef 193 with count := BitVec.allOnes 48 })] },
     96, 1, by decide +kernel⟩⟩
theorem witness_StandbyAcceptsMaintainOnly :
    (∃ (s : State) (w : Word) (x : WriteCycle), x.be = 15 ∧ hostUp s = true ∧ s.crp.mode = .standby) ∧
    (∃ (s : State), s.crp.mode = .maintain) ∧
    (∃ (s : State) (w : Word) (x : WriteCycle), x.be = 15 ∧ hostUp s = true ∧ s.crp.mode = .maintain ∧
     s.crp.recovery = false ∧ s.pai.pair = true ∧ ((bits w 2 0 = 2 ∨ bits w 2 0 = 3)) ∧ bits w 31 24 = 0x4D) :=
  ⟨⟨inMode .standby up, 0x4D000007, ⟨15, 0, false⟩, by decide +kernel⟩,
   ⟨inMode .maintain up, by decide +kernel⟩,
   ⟨inMode .maintain { up with pai := { Pai.reset with pair := true } }, 0x4D000002, ⟨15, 0, false⟩, by decide +kernel⟩⟩
theorem witness_RegisterAccessCompletes :
    (∃ (s : State) (d : RegDesc) (a : Nat) (w : Word) (x : WriteCycle), x.be = 15 ∧ a % 4 = 0 ∧ doorbellOf a = none ∧
     reached s a = some d ∧
     ((hasEffect d.base = false ∨ d.base = Reg.DSP_CTRL ∨ (idleOnly d.base = true ∧ (ctx s (RegMap.index d a)).state = .idle))) ∧
     ((isMirroredReg a = true → s.crp.mode ≠ .standby)) ∧ d.flds.any (fun f => decide (f.acc = .w1c)) = false ∧
     fieldsOk d w = true ∧ accMask d .rw ||| accMask d .wo ≠ 0) ∧
    (∃ (s : State) (d : RegDesc) (a : Nat) (w : Word) (x : WriteCycle), x.be = 15 ∧ a % 4 = 0 ∧ doorbellOf a = none ∧
     reached s a = some d ∧ hasEffect d.base = false ∧ ((isMirroredReg a = true → s.crp.mode ≠ .standby)) ∧
     d.flds.any (fun f => decide (f.acc = .w1c)) = true) ∧
    (∃ (s : State) (d : RegDesc) (a : Nat) (w : Word) (x : WriteCycle) (r : Instr), x.be = 15 ∧ x.set = 0 ∧ a % 4 = 0 ∧
     doorbellOf a = none ∧ reached s a = some d ∧ ((isMirroredReg a = true → s.crp.mode ≠ .standby)) ∧
     (d.base, r) ∈ rowWrites (RegMap.index d a) w x.carry) ∧
    (∃ (s : State) (a : Nat) (w : Word) (x : WriteCycle), hostUp s = true ∧ ((x.be % 16 ≠ 15 ∨ a % 4 ≠ 0))) ∧
    (∃ (s : State) (a : Nat) (w : Word) (x : WriteCycle), x.be = 15 ∧ a % 4 = 0 ∧ doorbellOf a = none ∧
     reached s a = none) ∧
    (∃ (s : State) (a : Nat) (r : Nat) (w : Word) (x : WriteCycle), x.be = 15 ∧ hostUp s = true ∧ a % 4 = 0 ∧
     doorbellOf a = some r) ∧
    (∃ (s : State) (w : Word) (x : WriteCycle), x.be = 15 ∧ hostUp s = true) ∧
    (∃ (s : State) (w : Word) (x : WriteCycle), x.be = 15 ∧ hostUp s = true) ∧
    (∃ (s : State) (d : RegDesc) (a : Nat), reached s a = some d ∧
     lowOfPair d ((a - d.base) % d.stride / d.step) = true) :=
  ⟨⟨up, (RegMap.find Reg.DSP_CTRL).getD noReg, Reg.DSP_CTRL, 0x00010400, ⟨15, 0, false⟩, by decide +kernel⟩,
   ⟨up, (RegMap.find Reg.DSP_STICKY).getD noReg, Reg.DSP_STICKY, 5, ⟨15, 4, false⟩, by decide +kernel⟩,
   ⟨up, (RegMap.find Reg.NFL_ARM).getD noReg, Reg.NFL_ARM, 5, ⟨15, 0, false⟩, .nflArm 5, by decide +kernel⟩,
   ⟨up, 0, 3, ⟨1, 0, false⟩, by decide +kernel⟩,
   ⟨up, 0x70000, 1, ⟨15, 0, false⟩, by decide +kernel⟩,
   ⟨up, 0x02003000, 3, 1, ⟨15, 0, false⟩, by decide +kernel⟩,
   ⟨up, 1, ⟨15, 0, false⟩, by decide +kernel⟩,
   ⟨up, 1, ⟨15, 0, false⟩, by decide +kernel⟩,
   ⟨up, (RegMap.find Reg.TIM_INCR_FRAC).getD noReg, Reg.TIM_INCR_FRAC, by decide +kernel⟩⟩
theorem witness_BridgeAndThermalComplete :
    (∃ (s : State), s.ing.silent = false ∧ timState s = .locked ∧ lossTiming s = false ∧ s.tim.tLoss = none) ∧
    (∃ (s : State) (b : Int) (f : Int) (n : Int), -128 ≤ b ∧ b ≤ 127 ∧ -128 ≤ f ∧ f ≤ 127 ∧ -128 ≤ n ∧ n ≤ 127) ∧
    (∃ (s : State) (b : Int) (f : Int) (n : Int), tempAt (rd s Reg.GLB_TEMP) 0 < 115 ∧ 115 ≤ b ∧ b ≤ 127) ∧
    (∃ (s : State) (w : Word), bitAt w 1 = true ∧ s.crp.tripStop = true ∧ tempMax (rd s Reg.GLB_TEMP) < 100) :=
  ⟨⟨{ up with tim := { up.tim with reports := [(99 * tSec, 5)] } }, by decide +kernel⟩,
   ⟨up, 100, -128, 0, by decide +kernel⟩,
   ⟨up, 115, 0, 0, by decide +kernel⟩,
   ⟨{ withStk Reg.GLB_ERR 2 up with crp := { up.crp with tripStop := true } }, 2, by decide +kernel⟩⟩
theorem witness_LinkBringUpCompletes :
    (∃ (s : State) (w : Word) (n : Nat), antUp s n = true ∧ bitAt w n = true ∧ (ant s n).link = .down) ∧
    (∃ (s : State) (w : Word) (n : Nat), antUp s n = true ∧ bitAt w n = false) ∧
    (∃ (s : State) (n : Nat), antUp s n = true ∧ (ant s n).link = .codeGroup ∧ subclass0 s n = false) ∧
    (∃ (s : State) (n : Nat), antUp s n = true ∧ (ant s n).link = .codeGroup ∧ subclass0 s n = true) ∧
    (∃ (s : State) (n : Nat), s.crp.mode ≠ .maintain) ∧
    (∃ (s : State) (phases : List (BitVec 5)) (n : Nat), antUp s n = true ∧ sysrefDue s = true ∧
     (ant s n).link = .codeGroup ∧ (ant s n).waitSysref = true ∧ (ant s n).aligned = false ∧ subclass0 s n = false ∧
     (ant s n).nondet = false) ∧
    (∃ (s : State) (phases : List (BitVec 5)) (n : Nat), antUp s n = true ∧ sysrefDue s = true ∧
     (ant s n).link = .data ∧ (ant s n).waitSysref = false ∧ (ant s n).aligned = true ∧ subclass0 s n = false ∧
     (ant s n).nondet = false ∧ ((phases.drop n).headD 0).toNat ≠ (ant s n).lmfc) ∧
    (∃ (s : State) (n : Nat) (o : List Byte), antUp s n = true ∧ (ant s n).link = .lane ∧ ilasOk s n o = true) ∧
    (∃ (s : State) (n : Nat) (cdr : Bool), antUp s n = true ∧ (ant s n).link ≠ .down) ∧
    (∃ (s : State) (n : Nat) (o : List Byte), antUp s n = true ∧ (ant s n).link = .lane ∧ ilasOk s n o = false) :=
  ⟨⟨up, 1, 0, by decide +kernel⟩,
   ⟨up, 0, 3, by decide +kernel⟩,
   ⟨lane id (withReg (Reg.ING_CFG 0) 1 up), 0, by decide +kernel⟩,
   ⟨lane id (withReg (Reg.ING_CFG 0) 3 (inMode .maintain up)), 0, by decide +kernel⟩,
   ⟨withReg (Reg.ING_CFG 0) 3 up, 0, by decide +kernel⟩,
   ⟨lane (fun a => { a with waitSysref := true }) (withReg Reg.ING_SYSREF_CTL 0x10002 (withReg (Reg.ING_CFG 0) 0x1F01 up)),
     [29, 1], 0, by decide +kernel⟩,
   ⟨lane (fun a => { a with link := .data, aligned := true }) (withReg Reg.ING_SYSREF_CTL 0x10002 (withReg (Reg.ING_CFG 0) 5 up)),
     [29, 1], 0, by decide +kernel⟩,
   ⟨lane (fun a => { a with link := .lane, aligned := true }) (withReg (Reg.ING_CFG 0) 1 up), 0,
     [0, 0, 0, 0x80, 3, 31, 7, 3, 0x23, 0x20, 0, 0, 0, 0], by decide +kernel⟩,
   ⟨lane (fun a => { a with link := .data, aligned := true }) up, 0, true, by decide +kernel⟩,
   ⟨lane (fun a => { a with link := .lane, aligned := true }) up, 0, [0, 0, 0, 0x80, 3, 31, 7, 3, 0x03, 0x20, 0, 0, 0, 0],
     by decide +kernel⟩⟩
theorem witness_IngressSamplesComplete :
    (∃ (s : State) (n : Nat) (ch : Nat), antUp s n = true ∧ (ant s n).link = .data ∧ (ctx s ch).state = .run ∧
     bits (ctx s ch).cfg 1 0 = n ∧ bitAt (ctx s ch).cfg 13 = false) ∧
    (∃ (s : State) (n : Nat), antUp s n = true ∧ (ant s n).link = .data ∧ (ant s n).errMf = multiframe s n ∧
     15 ≤ (ant s n).errs) ∧
    (∃ (s : State) (n : Nat) (l : List Nat), antUp s n = true ∧ Tab.get natDef s.ing.clipMs n < msIdx s.tim.now) ∧
    (∃ (s : State) (n : Nat) (w : Word), antUp s n = true) ∧
    (∃ (s : State) (n : Nat) (ch : Nat) (m : Nat) (w : Word), antUp s n = true ∧ (ant s n).pendLatency = some (w, m) ∧
     m < msIdx s.tim.now ∧ (ctx s ch).state = .run ∧ bits (ctx s ch).cfg 1 0 = n ∧ bitAt (ctx s ch).cfg 13 = false) :=
  ⟨⟨dataAnt (ctx3 running up), 0, 3, by decide +kernel⟩,
   ⟨ant0 { antDef 0 with link := .data, cdrLock := true, errs := 15, errMf := multiframe up 0 } up, 0, by decide +kernel⟩,
   ⟨up, 3, [81840, 0, 0, 0], by decide +kernel⟩,
   ⟨up, 2, 77, by decide +kernel⟩,
   ⟨ant0 { antDef 0 with link := .data, cdrLock := true, latency := 4, pendLatency := some (9, 5) } (ctx3 running up), 0,
     3, 5, 9, by decide +kernel⟩⟩
theorem witness_ContextCommandsComplete :
    (∃ (s : State) (ch : Nat), chUp s ch = true ∧ (ctx s ch).state = .idle) ∧
    (∃ (s : State) (ch : Nat), chUp s ch = true ∧ (ctx s ch).state ≠ .idle) ∧
    (∃ (s : State) (ch : Nat), chUp s ch = true ∧ (ctx s ch).state = .run) ∧
    (∃ (s : State) (ch : Nat), chUp s ch = true ∧ (ctx s ch).state = .armed) ∧
    (∃ (s : State) (ch : Nat), chUp s ch = true ∧ (((ctx s ch).state = .armed ∨ (ctx s ch).state = .run))) ∧
    (∃ (s : State) (ch : Nat), chUp s ch = true ∧ (ctx s ch).state = .armed ∧ cfgReplay (ctx s ch) = false ∧
     (ctx s ch).at_ * (tNs : Int) ≤ (liveTime s (cfgAnt (ctx s ch)) : Int) ∧ 0 < (ctx s ch).aLen) :=
  ⟨⟨up, 2047, by decide +kernel⟩,
   ⟨ctx3 running up, 3, by decide +kernel⟩,
   ⟨ctx3 running up, 3, by decide +kernel⟩,
   ⟨ctx3 { running with state := .armed } up, 3, by decide +kernel⟩,
   ⟨ctx3 running up, 3, by decide +kernel⟩,
   ⟨ctx3 { running with state := .armed } up, 3, by decide +kernel⟩⟩
theorem witness_IntegrationCompletes :
    (∃ (s : State) (ch : Nat) (e : LaneFrame) (f : LaneFrame) (g : LaneFrame), chUp s ch = true ∧
     cfgReplay (ctx s ch) = false ∧ (ctx s ch).state = .run ∧ (ctx s ch).fresh = false ∧
     (ctx s ch).codeNco + (ctx s ch).codeRate < 2 ^ 48) ∧
    (∃ (s : State) (ch : Nat) (e : LaneFrame) (f : LaneFrame) (g : LaneFrame), chUp s ch = true ∧
     cfgReplay (ctx s ch) = false ∧ (ctx s ch).state = .run ∧ (ctx s ch).fresh = false ∧ (ctx s ch).stopAt = none ∧
     2 ^ 48 ≤ (ctx s ch).codeNco + (ctx s ch).codeRate ∧ (ctx s ch).codeNco + (ctx s ch).codeRate < 2 ^ 49 ∧
     (ctx s ch).count + 1 = intChips (ctx s ch) ∧ (corUnit s (ch / 16)).dumps.length < 4) ∧
    (∃ (s : State) (ch : Nat) (e : LaneFrame) (f : LaneFrame) (g : LaneFrame), chUp s ch = true ∧
     cfgReplay (ctx s ch) = false ∧ (ctx s ch).state = .run ∧ (ctx s ch).fresh = false ∧ (ctx s ch).stopAt = none ∧
     2 ^ 48 ≤ (ctx s ch).codeNco + (ctx s ch).codeRate ∧ (ctx s ch).codeNco + (ctx s ch).codeRate < 2 ^ 49 ∧
     (ctx s ch).count + 1 = intChips (ctx s ch) ∧ 4 ≤ (corUnit s (ch / 16)).dumps.length) ∧
    (∃ (s : State) (ch : Nat) (id : Nat), chUp s ch = true ∧ cfgReplay (ctx s ch) = true ∧ (ctx s ch).state = .run ∧
     (ctx s ch).stopAt = none ∧ (ctx s ch).cap = some id ∧ (capture s id).state = 3) ∧
    (∃ (s : State) (u : Nat) (ch : Nat) (core : Nat) (b : List Byte) (l : List (Nat × Nat × List Byte)), (corUnit s u).dumps = (ch, core, b) :: l ∧
     dropsNext s 16 = false ∧ (Tab.get queueDef s.cor.queue core).length < 2048) ∧
    (∃ (s : State) (u : Nat) (ch : Nat) (core : Nat) (b : List Byte) (l : List (Nat × Nat × List Byte)), (corUnit s u).dumps = (ch, core, b) :: l ∧
     dropsNext s 16 = false ∧ 2048 ≤ (Tab.get queueDef s.cor.queue core).length) :=
  ⟨⟨dataAnt (ctx3 running up), 3, good, good, good, by decide +kernel⟩,
   ⟨dataAnt (ctx3 { running with codeNco := 2 ^ 48 - 1, codeRate := 2 ^ 48 - 1, count := 1022, cfg := 0x10 } up), 3, good,
     good, good, by decide +kernel⟩,
   ⟨{ dataAnt (ctx3 { running with codeNco := 2 ^ 48 - 1, codeRate := 2 ^ 48 - 1, count := 1022 } up) with cor := { (ctx3 { running with codeNco := 2 ^ 48 - 1, codeRate := 2 ^ 48 - 1, count := 1022 } up).cor with unit := [(0, ⟨none, [(1, 0, []), (1, 0, []), (1, 0, []), (1, 0, [])]⟩)] } },
     3, good, good, good, by decide +kernel⟩,
   ⟨{ dataAnt (ctx3 { running with cfg := 0x2000, cap := some 0, nsamp := 81838 } up) with acq := { Acq.reset with caps := [(0, { cap0 with state := 3, lenMs := 1 })] } },
     3, 0, by decide +kernel⟩,
   ⟨{ up with cor := { up.cor with unit := [(127, ⟨none, [(2047, 5, zeros 64)]⟩)] } }, 127, 2047, 5, zeros 64, [],
     by decide +kernel⟩,
   ⟨{ up with cor := { up.cor with unit := [(127, ⟨none, [(2047, 5, zeros 64)]⟩)], queue := [(5, List.replicate 2048 (0, []))] } },
     127, 2047, 5, zeros 64, [], by decide +kernel⟩⟩
theorem witness_RatesAndResidueComplete :
    (∃ (s : State) (ch : Nat) (code : BitVec 64) (carr : BitVec 64), chUp s ch = true ∧
     (ctx s ch).state ≠ .quarantined) ∧
    (∃ (s : State) (ch : Nat) (w : Word), chUp s ch = true ∧ (ctx s ch).state ≠ .quarantined) ∧
    (∃ (s : State) (ch : Nat) (w : Word), chUp s ch = true ∧ (ctx s ch).state ≠ .quarantined) ∧
    (∃ (s : State) (ch : Nat) (w : Word), chUp s ch = true ∧ (ctx s ch).state = .quarantined) ∧
    (∃ (s : State) (u : Nat) (k : Nat), u < gradeChannels s / 16 ∧ corrUp s (u / 32) = true ∧
     unitQuarantined s u = false ∧ (corUnit s u).lastMismatch = none) ∧
    (∃ (s : State) (u : Nat) (k : Nat) (p : Nat), u < gradeChannels s / 16 ∧ corrUp s (u / 32) = true ∧
     unitQuarantined s u = false ∧ (corUnit s u).lastMismatch = some p ∧ p < s.tim.now ∧ s.tim.now ≤ p + tSec) ∧
    (∃ (s : State) (w : Word), s.crp.mode = .maintain ∧ bitAt w 31 = true ∧ bits w 8 7 ≠ 3 ∧
     bits w 6 0 < gradeChannels s / 16 ∧ corrUp s (bits w 6 0 / 32) = true ∧ unitQuarantined s (bits w 6 0) = false) ∧
    (∃ (s : State) (w : Word) (k : Nat), k < 8 ∧ bitAt (rd s Reg.COR_CODE_SEL) k = true ∧
     512 * (k / 2) < gradeChannels s ∧ corrUp s (k / 2) = true ∧ (rd s Reg.COR_CODE_ADDR).toNat < 2 ^ 24) :=
  ⟨⟨up, 2047, 2 ^ 48 + 5, 7, by decide +kernel⟩,
   ⟨up, 0, 0xFFFF, by decide +kernel⟩,
   ⟨up, 0, 0xFFFF, by decide +kernel⟩,
   ⟨ctx3 { running with state := .quarantined } up, 3, 1, by decide +kernel⟩,
   ⟨up, 127, 0, by decide +kernel⟩,
   ⟨{ up with cor := { up.cor with unit := [(0, ⟨some (99 * tSec), []⟩)] } }, 0, 1, 99 * tSec, by decide +kernel⟩,
   ⟨inMode .maintain up, 0x8000007F, by decide +kernel⟩,
   ⟨withReg Reg.COR_CODE_SEL 0x80 (withReg Reg.COR_CODE_ADDR 0xFFFFFF up), 7, 7, by decide +kernel⟩⟩
theorem witness_CapturesComplete :
    (∃ (s : State), let id := ((unusedIds s).getD (freeVal s % (unusedIds s).length) 0); acqUp s = true ∧
     1 ≤ fld s Reg.ACQ_CAP_CFG 20 16 ∧ fld s Reg.ACQ_CAP_CFG 20 16 ≤ 24 ∧
     granules (fld s Reg.ACQ_CAP_CFG 15 0) (fld s Reg.ACQ_CAP_CFG 20 16) ≤ freeGranules s ∧ unusedIds s ≠ []) ∧
    (∃ (s : State), acqUp s = true ∧ 1 ≤ fld s Reg.ACQ_CAP_CFG 20 16 ∧ fld s Reg.ACQ_CAP_CFG 20 16 ≤ 24 ∧
     freeGranules s < granules (fld s Reg.ACQ_CAP_CFG 15 0) (fld s Reg.ACQ_CAP_CFG 20 16)) ∧
    (∃ (s : State) (id : Nat), acqUp s = true ∧ s.acq.caps.any (fun e => e.1 = id) = true ∧ pins s id = 0) ∧
    (∃ (s : State) (id : Nat), acqUp s = true ∧ s.acq.caps.any (fun e => e.1 = id) = true ∧ pins s id ≠ 0) ∧
    (∃ (s : State) (id : Nat), (capture s id).state = 1 ∧ (capture s id).startMs * tMs ≤ s.tim.now) ∧
    (∃ (s : State) (id : Nat) (frames : List (List LaneFrame)), (capture s id).state = 2 ∧
     ((capture s id).startMs + (capture s id).lenMs) * tMs ≤ s.tim.now) ∧
    (∃ (s : State), s.crp.mode = .snapshot ∧ bbUp s = true ∧ s.acq.nextSnapS * tSec ≤ s.tim.now ∧ s.acq.caps = [] ∧
     granules (fld s Reg.ACQ_SNAP_MASK 15 0) (fld s Reg.ACQ_SNAP_CFG 19 15) ≤ 384) :=
  ⟨⟨withReg Reg.ACQ_CAP_CFG 0x0018FFFF up, by decide +kernel⟩,
   ⟨caps [(0, { cap0 with state := 3 })] (withReg Reg.ACQ_CAP_CFG 0x00010001 up), by decide +kernel⟩,
   ⟨caps [(255, { cap0 with state := 3 })] up, 255, by decide +kernel⟩,
   ⟨(fun s => { s with acq := { s.acq with fifo0 := [q0] } }) (caps [(0, { cap0 with state := 3 })] up), 0,
     by decide +kernel⟩,
   ⟨caps [(9, cap0)] up, 9, by decide +kernel⟩,
   ⟨caps [(9, { cap0 with state := 2, startMs := 99976, stored := 1 })] up, 9, [[good, good]], by decide +kernel⟩,
   ⟨withReg Reg.ACQ_SNAP_MASK 0xFFFF (withReg Reg.ACQ_SNAP_CFG 0xC0001 (inMode .snapshot { up with acq := { Acq.reset with nextSnapS := 100 } })),
     by decide +kernel⟩⟩
theorem witness_SearchesAndSnapshotsComplete :
    (∃ (s : State) (w : Word), let q := (searchOf (((List.range 15).flatMap (fun i => leBytes 4 (rd s (Reg.ACQ_JOB i)).toNat)) ++ leBytes 4 w.toNat) none);
     acqUp s = true ∧ searchBad q = false ∧ queued s < 256 ∧ q.sel / 128 % 2 = 0) ∧
    (∃ (s : State) (j : Job) (c : Cmd), pickJob s 6 (fun _ => true) = some j ∧ j.cmd = some c ∧ c.opcode = 0x18 ∧
     searchBad (searchOf (cmdBody j) j.cmd) = false ∧ queued s < 256 ∧ (searchOf (cmdBody j) j.cmd).sel / 128 % 2 = 1) ∧
    (∃ (s : State) (p : Nat) (q : Search) (l : List Search), dropExpired s = none ∧ acqUp s = true ∧
     s.crp.acqDownWaits = false ∧ p < 4 ∧ flag s Reg.ACQ_CTRL p = true ∧ hot s = false ∧
     s.acq.pipe.any (fun e => e.1 = p) = false ∧ s.acq.fifo0 = q :: l) ∧
    (∃ (s : State) (p : Nat) (q : Search), s.acq.fifo0.find? (searchExpired s) = some q) ∧
    (∃ (s : State) (p : Nat) (q : Search), bridgeCut s = false ∧ s.acq.pipe.find? (fun e => e.1 = p) = some (p, q)) ∧
    (∃ (s : State) (n : Nat) (f : RxFrame), headFrame s n = some f ∧ portServes s n = true ∧ s.crp.mode ≠ .standby ∧
     plpCheck s n f = .accept ∧ plpType f.plp = 9 ∧ flowFull s (plpMachine f.plp) = false ∧
     Tab.get natDef s.acq.refused (plpMachine f.plp) ≠ leAt f.plp 24 4 + 1 ∧ s.acq.snaps = [] ∧ 2 ≤ leAt f.plp 39 1 ∧
     leAt f.plp 38 1 < leAt f.plp 39 1) ∧
    (∃ (s : State) (n : Nat) (f : RxFrame), headFrame s n = some f ∧ portServes s n = true ∧ s.crp.mode ≠ .standby ∧
     plpCheck s n f = .accept ∧ plpType f.plp = 9 ∧ flowFull s (plpMachine f.plp) = true) ∧
    (∃ (s : State) (m : Nat) (x : Snap), snapOpen s m = some x ∧ x.firstAt + 2 * tSec ≤ s.tim.now) :=
  ⟨⟨withReg (Reg.ACQ_JOB 7) 0x10000 (withReg (Reg.ACQ_JOB 8) 1 up), 0, by decide +kernel⟩,
   ⟨withJob (hostJob .hostCmd 0x18 sbody) up, hostJob .hostCmd 0x18 sbody, cmd 0x18, by decide +kernel⟩,
   ⟨{ up with acq := { Acq.reset with fifo0 := [q0] } }, 3, q0, [], by decide +kernel⟩,
   ⟨{ up with acq := { Acq.reset with fifo0 := [{ q0 with notAfter := 100 }] } }, 0, { q0 with notAfter := 100 },
     by decide +kernel⟩,
   ⟨{ up with acq := { Acq.reset with pipe := [(3, q0)] } }, 3, q0, by decide +kernel⟩,
   ⟨rxIn 2 snapB, 0, rx snapB, rfl, by decide +kernel, by decide +kernel,
     plpCheck_tagged _ _ _ _ (taggedByZeros _ _ _ (by decide +kernel)) (by decide +kernel), by decide +kernel,
     by decide +kernel, by decide +kernel, by decide +kernel, by decide +kernel, by decide +kernel⟩,
   ⟨fullFlow (rxIn 2 snapB), 0, rx snapB, rfl, by decide +kernel, by decide +kernel,
     plpCheck_tagged _ _ _ _ (taggedByZeros _ _ _ (by decide +kernel)) (by decide +kernel), by decide +kernel,
     by decide +kernel⟩,
   ⟨{ up with acq := { Acq.reset with snaps := [(1, ⟨1, 5, 1, 2, [0], [], 98 * tSec, 0, 0, 0, 0, false, false, 2, 0, 0, (0, 0, 0), [], [], 0, 0, zeros 16, 0⟩)] } },
     5, ⟨1, 5, 1, 2, [0], [], 98 * tSec, 0, 0, 0, 0, false, false, 2, 0, 0, (0, 0, 0), [], [], 0, 0, zeros 16, 0⟩,
     by decide +kernel⟩⟩
theorem witness_BaseStationCompletes :
    (∃ (s : State) (l : List ChanObs), formMode s = true ∧ s.ref.gridAt < formPoint s) ∧
    (∃ (s : State) (regs : Tab Word) (e : Nat) (l : List ChanObs) (o : BaseSig), o ∈ formSigs s regs e l) ∧
    (∃ (s : State) (p : BaseEp) (l : List SatPos) (eph : List SnapEph), s.ref.epochs.find? (fun q => !q.published) = some p) ∧
    (∃ (s : State) (n : Nat) (w : Word), n < gradeAnts s ∧ bitAt w 0 = true ∧ bitAt w 1 = false) ∧
    (∃ (s : State) (n : Nat) (w : Word), n < gradeAnts s ∧ bitAt w 1 = true) ∧
    (∃ (s : State) (w : Word), s.crp.mode = .survey ∧ bitAt w 0 = true ∧ s.ref.survey = none) ∧
    (∃ (s : State) (v : Survey) (w : Word), bitAt w 1 = true ∧ s.ref.survey = some v) ∧
    (∃ (s : State) (v : Survey), s.ref.survey = some v ∧ v.fin ≤ s.tim.now ∧ s.crp.mode = .survey) ∧
    (∃ (s : State), (rd s Reg.REF_LEAP_AT).toNat ≠ 0 ∧
     near32 s.tim.now (rd s Reg.REF_LEAP_AT).toNat 0 ≤ (s.tim.now : Int)) :=
  ⟨⟨up, [], by decide +kernel⟩,
   ⟨tracking, [(Reg.REF_ANT_CFG 0, 3), (Reg.COR_CFG 3, 0)], 100000000000, [chan0], sig0, by decide +kernel⟩,
   ⟨{ up with ref := { Ref.reset with epochs := [ep false] } }, ep false, [], [eph0], by decide +kernel⟩,
   ⟨up, 3, 1, by decide +kernel⟩,
   ⟨up, 3, 3, by decide +kernel⟩,
   ⟨inMode .survey up, 1, by decide +kernel⟩,
   ⟨{ up with ref := { Ref.reset with survey := some ⟨0, 15, false, 0, none, []⟩ } }, ⟨0, 15, false, 0, none, []⟩, 2,
     by decide +kernel⟩,
   ⟨inMode .survey { up with ref := { Ref.reset with survey := some ⟨100 * tSec, 0, false, 0, none, []⟩ } },
     ⟨100 * tSec, 0, false, 0, none, []⟩, by decide +kernel⟩,
   ⟨withReg Reg.REF_LEAP_AT 100 up, by decide +kernel⟩⟩
theorem witness_StreamsComplete :
    (∃ (s : State) (k : Nat) (e : Nat), streamOn s k = true ∧ streamDue s k = some e ∧ srcState s k = .inService ∧
     s.crp.mode ≠ .standby ∧ flowJobs s (1024 + k) = []) ∧
    (∃ (s : State) (k : Nat) (e : Nat), streamOn s k = true ∧ streamDue s k = some e ∧ srcState s k = .inService ∧
     s.crp.mode ≠ .standby ∧ flowJobs s (1024 + k) ≠ []) ∧
    (∃ (s : State) (j : Job) (k : Nat) (e : Nat), k < 16 ∧ pickJob s 3 (fun _ => true) = some j ∧ j.kind = .encode ∧
     j.work = .stream k e ∧ ((streamOn s k = false ∨ streamMsgs s k e (stream s k).force = []))) ∧
    (∃ (s : State) (j : Job) (k : Nat) (e : Nat), let n := (fld s (Reg.REF_STREAM_ROUTE k) 1 0);
     let msgs := (streamMsgs s k e (stream s k).force); k < 16 ∧ pickJob s 3 (fun _ => true) = some j ∧
     j.kind = .encode ∧ j.work = .stream k e ∧ streamOn s k = true ∧ msgs ≠ [] ∧ s.crp.mode ≠ .standby ∧
     flag s (Reg.REF_STREAM_CFG k) 7 = false ∧ flag s (Reg.REF_STREAM_CFG k) 8 = true ∧
     flag s (Reg.REF_STREAM_CFG k) 9 = false ∧ portServes s n = true ∧ (netPort s n).link = true ∧
     (netPort s n).q4.length + (datagrams s k (stream s k).seq (msgs.map rtcmFrame)).length ≤ 256) ∧
    (∃ (s : State) (j : Job) (k : Nat) (e : Nat), k < 16 ∧ pickJob s 3 (fun _ => true) = some j ∧ j.kind = .encode ∧
     j.work = .stream k e ∧ streamOn s k = true ∧ srcState s k = .inService ∧ flag s Reg.REF_TIME_CFG 16 = false ∧
     msgOn s k 1 = true) :=
  ⟨⟨refSrv up, 15, 100000000000, by decide +kernel⟩,
   ⟨withJob (job .encode 1039 (.stream 15 99000000000) none) (refSrv up), 15, 100000000000, by decide +kernel⟩,
   ⟨withJob (job .encode 1039 (.stream 15 100000000000) none) up, job .encode 1039 (.stream 15 100000000000) none, 15,
     100000000000, by decide +kernel⟩,
   ⟨encSt, job .encode 1039 (.stream 15 100000000000) none, 15, 100000000000, by decide +kernel⟩,
   ⟨withReg (Reg.REF_STREAM_MSG_MASK 15) 2 (withJob (job .encode 1039 (.stream 15 100000000000) none) (refSrv up)),
     job .encode 1039 (.stream 15 100000000000) none, 15, 100000000000, by decide +kernel⟩⟩
theorem witness_ReceiveCompletes :
    (∃ (s : State) (n : Nat) (p : Nat) (frame : List Byte) (src : List Byte) (pl : List Byte), portRuns s n = true ∧
     (netPort s n).link = true ∧ (Tab.get fifoDef s.crp.fifo n).dropNext = false ∧
     classify s n frame true = .plp src p pl ∧ rxFill (netPort s n) + frame.length ≤ 262144) ∧
    (∃ (s : State) (n : Nat) (frame : List Byte) (ok : Bool), portRuns s n = true ∧ (netPort s n).link = true ∧
     (Tab.get fifoDef s.crp.fifo n).dropNext = false ∧ classify s n frame ok = .oversize) ∧
    (∃ (s : State) (n : Nat) (frame : List Byte), portRuns s n = true ∧ (netPort s n).link = true ∧
     (Tab.get fifoDef s.crp.fifo n).dropNext = false ∧ classify s n frame true = .timeCore ∧
     rxFill (netPort s n) + frame.length ≤ 262144) ∧
    (∃ (s : State) (n : Nat), portRuns s n = true ∧ (netPort s n).xoff = true ∧ flag s (Reg.NET_CTRL n) 8 = true ∧
     (netPort s n).xoffAt + tMs ≤ s.tim.now) ∧
    (∃ (s : State) (n : Nat) (a : Nat), (netPort s n).pauseSince = some a ∧ (netPort s n).pauseEnd ≤ s.tim.now) ∧
    (∃ (s : State) (n : Nat) (a : Nat), (netPort s n).pauseSince = some a ∧ (netPort s n).bypass = false ∧
     flag s (Reg.NET_CTRL n) 7 = true ∧ a + fld s (Reg.NET_PAUSE_CFG n) 31 16 * tUs ≤ s.tim.now) :=
  ⟨⟨withReg (Reg.NET_IP 0 2) 0xFFFF0000 (withPort linked up), 0, 0x1234, frame0, zeros 10 ++ [0xFF, 0xFF] ++ zeros 4,
     zeros 24, by decide +kernel⟩,
   ⟨withPort linked up, 0, zeros 1515, true, by decide +kernel⟩,
   ⟨withPort linked up, 0, ptpFrame, by decide +kernel⟩,
   ⟨withReg (Reg.NET_CTRL 0) 0x1C1 (withPort { linked with xoff := true, xoffAt := 100 * tSec - tMs } up), 0,
     by decide +kernel⟩,
   ⟨withPort { linked with pauseSince := some 5, pauseEnd := 100 * tSec } up, 0, 5, by decide +kernel⟩,
   ⟨withPort { linked with pauseSince := some (100 * tSec - 2000 * tUs), pauseEnd := 101 * tSec } up, 0,
     100 * tSec - 2000 * tUs, by decide +kernel⟩⟩
theorem witness_TransmitCompletes :
    (∃ (s : State) (n : Nat), n < 4 ∧ portRuns s n = true ∧ (netPort s n).link = false) ∧
    (∃ (s : State) (n : Nat), n < gradePorts s ∧ (netPort s n).link = true) ∧
    (∃ (s : State) (n : Nat) (q : Nat) (f : TxFrame) (l : List TxFrame), portRuns s n = true ∧
     (netPort s n).link = true ∧ (netPort s n).tx = none ∧ (Tab.get fifoDef s.crp.fifo (n + 4)).dropNext = false ∧
     (List.range 6).find? (mayStart s n) = some q ∧ getQ (netPort s n) q = f :: l) ∧
    (∃ (s : State) (n : Nat) (f : TxFrame) (k : PtpMark), f.ptp = some k ∧ k.oneStep = true ∧ k.transport = .ethernet) ∧
    (∃ (s : State) (n : Nat) (f : TxFrame), portHeld s n = false ∧ (netPort s n).tx = some f) :=
  ⟨⟨withPort (portDef 0) up, 0, by decide +kernel⟩,
   ⟨withPort linked up, 0, by decide +kernel⟩,
   ⟨withPort { linked with q5 := [tx0 .host] } up, 0, 5, tx0 .host, [], by decide +kernel⟩,
   ⟨withReg (Reg.NET_CTRL 0) 0x1D1 (withPort linked up), 0, ptpTx, ⟨.ethernet, true, true, 14, 44⟩, by decide +kernel⟩,
   ⟨withPort { linked with tx := some (tx0 .grant) } up, 0, tx0 .grant, by decide +kernel⟩⟩
theorem witness_PlpFramesComplete :
    (∃ (s : State) (n : Nat) (f : RxFrame), headFrame s n = some f ∧ portServes s n = true ∧ s.crp.mode ≠ .standby ∧
     plpCheck s n f = .accept ∧ plpType f.plp = 2 ∧ intakeOpen s = true ∧ intakeTurn s n = true ∧
     flowFull s (plpMachine f.plp) = false) ∧
    (∃ (s : State) (n : Nat) (f : RxFrame), headFrame s n = some f ∧ portServes s n = true ∧ s.crp.mode ≠ .standby ∧
     plpCheck s n f = .accept ∧ plpType f.plp = 8 ∧ intakeOpen s = true ∧ intakeTurn s n = true ∧
     flowFull s (plpMachine f.plp) = false) ∧
    (∃ (s : State) (n : Nat) (f : RxFrame), headFrame s n = some f ∧ portServes s n = true ∧ s.crp.mode ≠ .standby ∧
     plpCheck s n f = .accept ∧ plpType f.plp = 10 ∧ intakeOpen s = true ∧ intakeTurn s n = true ∧
     flowFull s (plpMachine f.plp) = false) ∧
    (∃ (s : State) (n : Nat) (f : RxFrame), headFrame s n = some f ∧ portServes s n = true ∧ s.crp.mode ≠ .standby ∧
     plpCheck s n f = .accept ∧ plpType f.plp = 1 ∧ (mach s (plpMachine f.plp)).entry.slotValid = true ∧
     (mach s (plpMachine f.plp)).entry.slot < gradeSlots s ∧ (mach s (plpMachine f.plp)).obs = none ∧
     (mach s (plpMachine f.plp)).lastDiscarded = none ∧ leAt f.plp 24 1 / 16 = 1 ∧ intakeOpen s = true ∧
     intakeTurn s n = true ∧ flowFull s (plpMachine f.plp) = false) ∧
    (∃ (s : State) (m : Nat) (a : ObsAsm), (mach s m).obs = some a ∧ a.firstAt + 200 * tMs ≤ s.tim.now) ∧
    (∃ (s : State) (n : Nat) (f : RxFrame), headFrame s n = some f ∧ portServes s n = true ∧ s.crp.mode ≠ .standby ∧
     plpCheck s n f = .answer 0x48) ∧
    (∃ (s : State) (n : Nat) (f : RxFrame), headFrame s n = some f ∧ portServes s n = true ∧ s.crp.mode ≠ .standby ∧
     plpCheck s n f = .opstop ∧ opstopOk s f = true ∧ s.nfl.latch = .idle ∧ rowsNow s = []) :=
  ⟨⟨rxIn 1 posB, 0, rx posB, rfl, by decide +kernel, by decide +kernel,
     plpCheck_tagged _ _ _ _ (taggedByZeros _ _ _ (by decide +kernel)) (by decide +kernel), by decide +kernel,
     by decide +kernel, by decide +kernel, by decide +kernel⟩,
   ⟨rxIn 2 statB, 0, rx statB, rfl, by decide +kernel, by decide +kernel,
     plpCheck_tagged _ _ _ _ (taggedByZeros _ _ _ (by decide +kernel)) (by decide +kernel), by decide +kernel,
     by decide +kernel, by decide +kernel, by decide +kernel⟩,
   ⟨rxIn 2 ackB, 0, rx ackB, rfl, by decide +kernel, by decide +kernel,
     plpCheck_tagged _ _ _ _ (taggedByZeros _ _ _ (by decide +kernel)) (by decide +kernel), by decide +kernel,
     by decide +kernel, by decide +kernel, by decide +kernel⟩,
   ⟨rxIn 2 obsB, 0, rx obsB, rfl, by decide +kernel, by decide +kernel,
     plpCheck_tagged _ _ _ _ (taggedByZeros _ _ _ (by decide +kernel)) (by decide +kernel), by decide +kernel,
     by decide +kernel, by decide +kernel, by decide +kernel, by decide +kernel, by decide +kernel, by decide +kernel,
     by decide +kernel, by decide +kernel⟩,
   ⟨{ up with mach := [(5, { machDef 5 with obs := some ⟨3, 2, [], 0, 100 * tSec - 200 * tMs⟩ })] }, 5,
     ⟨3, 2, [], 0, 100 * tSec - 200 * tMs⟩, by decide +kernel⟩,
   ⟨rxIn 2 badGenB, 0, rx badGenB, rfl, by decide +kernel, by decide +kernel,
     plpCheck_tagged _ _ _ _ (taggedByZeros _ _ _ (by decide +kernel)) (by decide +kernel)⟩,
   ⟨withReg Reg.NFL_CFG 0x1000000 (rxIn 2 opB), 0, rx opB, by decide +kernel, by decide +kernel, by decide +kernel,
     by decide +kernel, by decide +kernel, by decide +kernel, by decide +kernel⟩⟩
theorem witness_ParseJobsComplete :
    (∃ (s : State) (j : Job) (e : Nat) (p : List (Nat × List Byte)) (b : Option (Option Nat)), pickJob s 0 (fun _ => true) = some j ∧
     j.work = .obs e p b ∧ j.kind = .parse ∧ obsRefused s j.flow e j.stamp = none) ∧
    (∃ (s : State) (j : Job) (n : Nat) (b : List Byte), let e := (near32 s.tim.now (plpEpochS b) (plpEpochNs b));
     pickJob s 0 (fun _ => true) = some j ∧ j.work = .frame n b ∧ plpType b = 2 ∧ e < j.tRx ∧
     plpGen b = machGen s j.flow ∧ j.tRx - e < ((fld s Reg.CHT_POS_CFG 10 0 * tMs : Nat) : Int)) ∧
    (∃ (s : State) (j : Job) (n : Nat) (b : List Byte), pickJob s 0 (fun _ => true) = some j ∧ j.work = .frame n b ∧
     plpType b = 8) ∧
    (∃ (s : State) (j : Job) (n : Nat) (b : List Byte) (k : Task), pickJob s 0 (fun _ => true) = some j ∧
     j.work = .frame n b ∧ plpType b = 10 ∧ leAt b 24 1 = 7 ∧ leAt b 25 1 = 0 ∧ taskOf s (leAt b 32 4) = some k ∧
     k.state = .assigned ∧ k.holder = some j.flow) :=
  ⟨⟨withJob { job .parse 5 (.obs 99999000000 [(0, zeros 68)] none) none with stamp := 100 * tSec } (mPos 2 up),
     { job .parse 5 (.obs 99999000000 [(0, zeros 68)] none) none with stamp := 100 * tSec }, 99999000000,
     [(0, zeros 68)], none, by decide +kernel⟩,
   ⟨withJob { job .parse 5 (.frame 0 ([0x50, 0x4C, 0x12, 0] ++ zeros 8 ++ leBytes 4 99 ++ leBytes 4 999000000 ++ zeros 64)) none with tRx := 100 * tSec } (mPos 1 up),
     { job .parse 5 (.frame 0 ([0x50, 0x4C, 0x12, 0] ++ zeros 8 ++ leBytes 4 99 ++ leBytes 4 999000000 ++ zeros 64)) none with tRx := 100 * tSec },
     0, [0x50, 0x4C, 0x12, 0] ++ zeros 8 ++ leBytes 4 99 ++ leBytes 4 999000000 ++ zeros 64, by decide +kernel⟩,
   ⟨withJob { job .parse 5 (.frame 0 ([0x50, 0x4C, 8, 0] ++ zeros 8 ++ leBytes 4 99 ++ zeros 8 ++ [1] ++ zeros 27)) none with tRx := 100 * tSec } (mPos 2 up),
     { job .parse 5 (.frame 0 ([0x50, 0x4C, 8, 0] ++ zeros 8 ++ leBytes 4 99 ++ zeros 8 ++ [1] ++ zeros 27)) none with tRx := 100 * tSec },
     0, [0x50, 0x4C, 8, 0] ++ zeros 8 ++ leBytes 4 99 ++ zeros 8 ++ [1] ++ zeros 27, by decide +kernel⟩,
   ⟨withJob { job .parse 5 (.frame 0 ([0x50, 0x4C, 10, 0] ++ zeros 8 ++ leBytes 4 99 ++ zeros 8 ++ [7, 0] ++ zeros 6 ++ [9] ++ zeros 11)) none with tRx := 100 * tSec } { mPos 2 up with tsk := ⟨[task0], 0⟩ },
     { job .parse 5 (.frame 0 ([0x50, 0x4C, 10, 0] ++ zeros 8 ++ leBytes 4 99 ++ zeros 8 ++ [7, 0] ++ zeros 6 ++ [9] ++ zeros 11)) none with tRx := 100 * tSec },
     0, [0x50, 0x4C, 10, 0] ++ zeros 8 ++ leBytes 4 99 ++ zeros 8 ++ [7, 0] ++ zeros 6 ++ [9] ++ zeros 11, task0,
     by decide +kernel⟩⟩
theorem witness_FixJobsComplete :
    (∃ (s : State) (e : Nat) (er : Nat) (j : Job) (p : List (Nat × List Byte)) (b : Option (Option Nat)), engineFree s e = true ∧
     pickJob s 1 (fun j => decide (j.excluded ≠ some e)) = some j ∧ j.work = .obs er p b) ∧
    (∃ (s : State) (e : Nat) (id : Nat) (er : Nat) (f : FixStart) (j : Job) (p : List (Nat × List Byte)) (b : Option (Option Nat)), (engine s e).job = some (id, f) ∧
     s.dsp.jobs.find? (fun k => k.id = id) = some j ∧ j.work = .obs er p b ∧ (fixSlot s f.slot).resetWaits = false ∧
     (mach s f.machine).entry.gen = 2 ∧ (mach s f.machine).entry.slotValid = true) ∧
    (∃ (s : State) (e : Nat) (id : Nat) (er : Nat) (f : FixStart) (j : Job) (p : List (Nat × List Byte)) (b : Option (Option Nat)), (engine s e).job = some (id, f) ∧
     s.dsp.jobs.find? (fun k => k.id = id) = some j ∧ j.work = .obs er p b ∧ (fixSlot s f.slot).resetWaits = true) ∧
    (∃ (s : State), fixUp s = true) ∧
    (∃ (s : State) (w : Word), fixUp s = true ∧ s.crp.mode ≠ .standby ∧ bitAt w 8 = true ∧ bits w 7 0 < gradeSlots s ∧
     slotInService s (bits w 7 0) = false) ∧
    (∃ (s : State) (w : Word), fixUp s = true ∧ s.crp.mode ≠ .standby ∧ bitAt w 8 = true ∧ bits w 7 0 < gradeSlots s ∧
     slotInService s (bits w 7 0) = true) ∧
    (∃ (s : State) (w : Word), fixUp s = true ∧ paiRuns s = true ∧ s.crp.mode = .standby ∧ bitAt w 8 = true ∧
     bits w 7 0 < gradeSlots s) ∧
    (∃ (s : State) (e : Nat) (id : Nat) (f : FixStart) (j : Job), fixUp s = true ∧ e < gradeEngines s ∧
     (engine s e).job = some (id, f) ∧ s.dsp.jobs.find? (fun k => k.id = id) = some j ∧ j.kind = .fix) ∧
    (∃ (s : State) (w : Word) (id : Nat) (f : FixStart) (j : Job), fixUp s = true ∧ s.crp.mode = .maintain ∧
     bitAt w 31 = true ∧ bits w 5 4 = 0 ∧ bits w 3 0 < gradeEngines s ∧ (engine s (bits w 3 0)).job = some (id, f) ∧
     s.dsp.jobs.find? (fun k => k.id = id) = some j ∧ j.kind = .fix) ∧
    (∃ (s : State) (j : Job) (v : Snap) (h : Nat), hot s = true ∧ s.dsp.jobs.find? (snapReady s) = none ∧
     pickJob s 0 (fun _ => true) = some j ∧ j.work = .snap h ∧ jobSnap s j = some v) ∧
    (∃ (s : State) (j : Job) (v : Snap), let l := (List.zip (List.range (snapSignals s v).length) (snapSignals s v));
     hot s = false ∧ s.dsp.jobs.find? (snapReady s) = none ∧ pickJob s 0 (fun _ => true) = none ∧
     pickJob s 4 (fun _ => true) = some j ∧ j.kind = .snapSolve ∧ jobSnap s j = some v ∧ j.work = .snap v.handle ∧
     l.all (fun x => !searchBad (snapSearch v x.1 x.2.1 x.2.2)) = true ∧ queued s + l.length ≤ 256) ∧
    (∃ (s : State) (j : Job) (v : Snap), hot s = true ∧ pickJob s 0 (fun _ => true) = none ∧
     s.dsp.jobs.find? (snapReady s) = some j ∧ jobSnap s j = some v ∧ v.results = []) :=
  ⟨⟨withReg Reg.PST_CTRL 0xFFFF (withJob (fjob none) (mPos 2 up)), 15, 99999000000, fjob none, [], none, by decide +kernel⟩,
   ⟨fixSt fs0, 15, 0, 99999000000, fs0, fj0, [], some none, by decide +kernel⟩,
   ⟨{ fixSt fs0 with pst := { (fixSt fs0).pst with slot := [(3, { slotDef 3 with resetWaits := true })] } }, 15, 0,
     99999000000, fs0, fj0, [], some none, by decide +kernel⟩,
   ⟨up, by decide +kernel⟩,
   ⟨up, 0x1FF, by decide +kernel⟩,
   ⟨fixSt fs0, 0x103, by decide +kernel⟩,
   ⟨inMode .standby (paired (fun p => p)), 0x1FF, by decide +kernel⟩,
   ⟨fixSt fs0, 15, 0, fs0, fj0, by decide +kernel⟩,
   ⟨inMode .maintain (fixSt fs0), 0x8000000F, 0, fs0, fj0, by decide +kernel⟩,
   ⟨tripping (snapSt (snapJob .parse false)), snapJob .parse false, snap0, 1, by decide +kernel⟩,
   ⟨{ snapSt (snapJob .snapSolve false) with ref := { Ref.reset with ephs := [eph0] } }, snapJob .snapSolve false, snap0,
     by decide +kernel, by decide +kernel, by decide +kernel, by decide +kernel, rfl, by decide +kernel, rfl, snapFit,
     snapRoom⟩,
   ⟨tripping (snapSt (snapJob .snapSolve true)), snapJob .snapSolve true, snap0, by decide +kernel⟩⟩
theorem witness_GraphsAndTicksComplete :
    (∃ (s : State), chartUp s = true ∧ s.cht.stage ≠ 1 ∧ s.cht.activateWaits = false) ∧
    (∃ (s : State) (image : List Byte), chartUp s = true ∧ s.cht.stage = 1 ∧ s.cht.loadHeld = false ∧
     imageFail s s.cht.loadLen image = 0) ∧
    (∃ (s : State) (image : List Byte), chartUp s = true ∧ s.cht.stage = 1 ∧ s.cht.loadHeld = false ∧
     imageFail s s.cht.loadLen image ≠ 0) ∧
    (∃ (s : State) (g : Graph), chartUp s = true ∧ s.cht.stage = 2 ∧ s.cht.activateWaits = false ∧
     s.cht.staging = some g ∧ nfSet s = true) ∧
    (∃ (s : State) (g : Graph), periodOf s ≠ s.cht.period ∧ s.crp.swapWait = 0 ∧ chartUp s = true ∧
     s.cht.rebase = none ∧ s.crp.mode ≠ .standby ∧ s.cht.activateWaits = true ∧ s.cht.staging = some g ∧
     s.cht.reqs = []) ∧
    (∃ (s : State) (w : Word), chartUp s = true ∧ s.crp.mode ≠ .standby ∧ s.cht.ivals = []) ∧
    (∃ (s : State) (w : Word), chartUp s = true ∧ s.crp.mode ≠ .standby ∧ s.cht.ivals ≠ []) ∧
    (∃ (s : State), chartUp s = true ∧ s.crp.mode ≠ .standby ∧ (rd s Reg.CHT_REBASE_DELTA).toNat ≤ nowTick s ∧
     s.cht.rebase = none) ∧
    (∃ (s : State) (d : Nat), periodOf s ≠ s.cht.period ∧ s.crp.swapWait = 0 ∧ chartUp s = true ∧
     s.cht.rebase = some d ∧ s.cht.activateWaits = false ∧ s.cht.reqs = []) ∧
    (∃ (s : State) (e : Nat), s.cht.rebaseEnd = some e ∧ e ≤ s.tim.now) ∧
    (∃ (s : State), chartUp s = true ∧ s.cht.nearTold = false ∧ 0xF0000000 ≤ nowTick s) ∧
    (∃ (s : State), chartUp s = true ∧ 0xFFFF0000 ≤ nowTick s) ∧
    (∃ (s : State), chartUp s = true) ∧
    (∃ (s : State), chartUp s = true) :=
  ⟨⟨up, by decide +kernel⟩,
   ⟨signedSt, img0, by decide +kernel⟩,
   ⟨chart (fun c => { c with stage := 1, loadLen := 304 }) up, img0, by decide +kernel⟩,
   ⟨chart (fun c => { c with stage := 2, staging := some g0 }) { up with nfl := { up.nfl with latch := .latched } }, g0,
     by decide +kernel⟩,
   ⟨chart (fun c => { c with stage := 2, staging := some g0, activateWaits := true }) up, g0, by decide +kernel⟩,
   ⟨up, 7, by decide +kernel⟩,
   ⟨chart (fun c => { c with ivals := [⟨0, 0, 5, 1, 2⟩] }) up, 7, by decide +kernel⟩,
   ⟨withReg Reg.CHT_REBASE_DELTA 100000 up, by decide +kernel⟩,
   ⟨chart (fun c => { c with rebase := some 5, ivals := [⟨0, 0, 5, 1, 5⟩, ⟨0, 0, 5, 3, 9⟩] }) up, 5, by decide +kernel⟩,
   ⟨chart (fun c => { c with rebaseEnd := some (100 * tSec) }) up, 100 * tSec, by decide +kernel⟩,
   ⟨{ up with tim := { up.tim with now := 0xF0000000 * tMs } }, by decide +kernel⟩,
   ⟨{ up with tim := { up.tim with now := 0xFFFF0000 * tMs } }, by decide +kernel⟩,
   ⟨chart (fun c => { c with ivals := [⟨0, 0, 5, 1, 100000⟩] }) up, by decide +kernel⟩,
   ⟨up, by decide +kernel⟩⟩
theorem witness_LedgerRequestsComplete :
    (∃ (s : State) (j : Job) (c : Cmd), chartUp s = true ∧ pickJob s 2 (fun _ => true) = some j ∧ j.cmd = some c ∧
     c.opcode = 8 ∧
     ((s.crp.mode ≠ .standby ∨ (decodeItems 64 (cmdBody j)).all (fun it => decide (it.op = 2)) = true))) ∧
    (∃ (s : State) (j : Job) (c : Cmd), let v := (judge s ⟨0, decodeItems 64 (cmdBody j), .host, s.tim.now, j.id⟩);
     chartUp s = true ∧ pickJob s 2 (fun _ => true) = some j ∧ j.cmd = some c ∧ c.opcode = 8 ∧ s.crp.mode = .standby ∧
     (decodeItems 64 (cmdBody j)).all (fun it => decide (it.op = 2)) = false ∧ paiRuns s = true ∧
     standbyCode v.1 = 0x70) ∧
    (∃ (s : State) (q : Request) (l : List Request) (v : List Ival), chartUp s = true ∧ s.cht.rebaseEnd = none ∧
     s.cht.reqs = q :: l ∧ q.purpose = .host ∧ judge s q = (0, none, v)) ∧
    (∃ (s : State) (q : Request) (l : List Request), chartUp s = true ∧ s.cht.rebaseEnd = none ∧ s.cht.reqs = q :: l ∧
     (judge s q).1 ≠ 0) ∧
    (∃ (s : State) (q : Request) (l : List Request) (v : List Ival) (m : Nat) (p : GrantPlan), chartUp s = true ∧
     s.cht.rebaseEnd = none ∧ s.cht.reqs = q :: l ∧ q.purpose = .halo m p ∧ judge s q = (0, none, v) ∧
     (mach s m).entry.port < 4 ∧ stopCause s m p.epoch = none) ∧
    (∃ (s : State) (k : Nat), chartUp s = true) ∧
    (∃ (s : State) (k : Nat) (a : Nat), chartUp s = true) :=
  ⟨⟨withJob (hostJob .ledger 8 (zeros 16)) up, hostJob .ledger 8 (zeros 16), cmd 8, by decide +kernel⟩,
   ⟨inMode .standby (withJob (hostJob .ledger 8 (zeros 4 ++ leBytes 4 100000 ++ leBytes 4 100100 ++ [5, 0, 0, 0])) { haloSt with pai := { Pai.reset with pair := true } }),
     hostJob .ledger 8 (zeros 4 ++ leBytes 4 100000 ++ leBytes 4 100100 ++ [5, 0, 0, 0]), cmd 8, by decide +kernel⟩,
   ⟨reqSt hostReq, hostReq, [], (judge (reqSt hostReq) hostReq).2.2, by decide +kernel⟩,
   ⟨chart (fun c => { c with reqs := [hostReq] }) up, hostReq, [], by decide +kernel⟩,
   ⟨pathSt, haloReq, [], (judge pathSt haloReq).2.2, 5, plan0, by decide +kernel⟩,
   ⟨up, 0, by decide +kernel⟩,
   ⟨up, 0, 5, by decide +kernel⟩⟩
theorem witness_HalosComplete :
    (∃ (s : State) (j : Job) (c : Cmd) (g : Graph), let b := (cmdBody j);
     let ids := (decodeIds (leAt b 6 2) (b.drop 8)); chartUp s = true ∧ pickJob s 6 (fun _ => true) = some j ∧
     j.cmd = some c ∧ c.opcode = 9 ∧ s.crp.mode ≠ .standby ∧ s.cht.active = some g ∧ leAt b 2 1 % 2 = 1 ∧
     leAt b 0 2 < gradeMachines s ∧ 1 ≤ leAt b 6 2 ∧ leAt b 6 2 ≤ 256 ∧ b.length = 8 + 4 * leAt b 6 2 ∧
     ids.any (fun k => decide (g.segs.length ≤ k)) = false ∧ routeJoined g ids = true) ∧
    (∃ (s : State) (j : Job) (h : HaloIn) (g : Graph) (x : RouteMatch) (p : GrantPlan), let v := (chtMach s j.flow);
     chartUp s = true ∧ pickJob s 2 (fun _ => true) = some j ∧ j.kind = .halo ∧ j.work = .halo h ∧
     (mach s j.flow).entry.port < 4 ∧ (mach s j.flow).entry.cls < 32 ∧ stopCause s j.flow h.tRx = none ∧
     s.cht.active = some g ∧ bestMatch g (planePos g h.x h.y h.z) (candidates v.route v.matched) = some x ∧
     offRoute s (mach s j.flow).entry.cls x = false ∧ v.matched = some x.place ∧ x.place ≤ 64 ∧
     haloRows s j.flow h g false (some x) v.route v.cap v.epoch = .go p) ∧
    (∃ (s : State) (j : Job) (h : HaloIn) (n : Nat), chartUp s = true ∧ pickJob s 2 (fun _ => true) = some j ∧
     j.kind = .halo ∧ j.work = .halo h ∧ (mach s j.flow).entry.port < 4 ∧ (mach s j.flow).entry.cls < 32 ∧
     stopCause s j.flow h.tRx = some n) ∧
    (∃ (s : State) (j : Job) (n : Nat), let x := (chtMach s j.flow); chartUp s = true ∧
     pickJob (lapseDue s) 2 (fun _ => true) = some j ∧ j.kind = .lapse ∧ j.work = .lapse n ∧ x.live = true ∧
     x.grantNo = n ∧ x.expiry ≤ s.tim.now) :=
  ⟨⟨withJob (hostJob .hostCmd 9 ([5, 0, 1, 0, 0, 0, 1, 0, 0, 0, 0, 0])) haloSt,
     hostJob .hostCmd 9 ([5, 0, 1, 0, 0, 0, 1, 0, 0, 0, 0, 0]), cmd 9, g0, by decide +kernel⟩,
   ⟨haloSt, job .halo 5 (.halo halo0) none, halo0, g0, ⟨0, Frac.ofInt 0, Frac.ofInt 0⟩, plan0, by decide +kernel,
     by decide +kernel, rfl, rfl, by decide +kernel, by decide +kernel, by decide +kernel, by decide +kernel,
     haloMatch, by decide +kernel, by decide +kernel, by decide +kernel, by decide +kernel⟩,
   ⟨withJob (job .halo 5 (.halo halo0) none) (mPos 2 up), job .halo 5 (.halo halo0) none, halo0, 0, by decide +kernel⟩,
   ⟨lapseSt, lapseJob, 4, by decide +kernel⟩⟩
theorem witness_RingsComplete :
    (∃ (s : State) (r : Nat) (h : Word), r < 256 ∧ (ring s r).state = .run ∧ ringHostProduced (ring s r) = true ∧
     (h.toNat + 2 ^ 32 - (ring s r).host) % 2 ^ 32 < 2 ^ 31 ∧
     (h.toNat + 2 ^ 32 - (ring s r).dev) % 2 ^ 32 ≤ ringSize (ring s r)) ∧
    (∃ (s : State) (r : Nat) (h : Word), r < 256 ∧ (ring s r).state = .run ∧
     2 ^ 31 ≤ (h.toNat + 2 ^ 32 - (ring s r).host) % 2 ^ 32) ∧
    (∃ (s : State) (r : Nat) (w : Word), r < 256 ∧ bitAt w 0 = true ∧ ringEn (ring s r) = false ∧
     ringCfgReserved s (w &&& ringCfgMask) = false ∧ bits (w &&& ringCfgMask) 3 1 ≠ 1 ∧
     bits (w &&& ringCfgMask) 3 1 ≠ 5) ∧
    (∃ (s : State) (r : Nat) (w : Word), let c := (ring s (bits (w &&& ringCfgMask) 15 8)); r < 256 ∧
     bitAt w 0 = true ∧ ringEn (ring s r) = false ∧ ringCfgReserved s (w &&& ringCfgMask) = false ∧ ringEn c = true ∧
     ringKind c = 2) ∧
    (∃ (s : State) (r : Nat), r < 256 ∧ ringEn (ring s r) = true) :=
  ⟨⟨withRings 1 up, 0, 64, by decide +kernel⟩,
   ⟨withRings 1 up, 0, 0, by decide +kernel⟩,
   ⟨up, 255, 5, by decide +kernel⟩,
   ⟨withRings 1 up, 7, 0x103, by decide +kernel⟩,
   ⟨withRings 1 up, 1, by decide +kernel⟩⟩
theorem witness_HostCommandsComplete :
    (∃ (s : State) (r : Nat) (e : List Byte) (b : List Byte), ringReady s r = true ∧ s.io.lost = false ∧
     intakeOpen s = true ∧ intakeTurn s (4 + r) = true ∧
     envelope (opcodeOk s (entOpcode (padTo 64 e))) (padTo 64 e) false = 0) ∧
    (∃ (s : State) (r : Nat) (e : List Byte) (b : List Byte) (err : Bool), ringReady s r = true ∧ s.io.lost = false ∧
     intakeOpen s = true ∧ intakeTurn s (4 + r) = true ∧
     envelope (opcodeOk s (entOpcode (padTo 64 e))) (padTo 64 e) err ≠ 0) ∧
    (∃ (s : State) (j : Job) (c : Cmd), let x := (ring s c.cpl); pickJob s 6 (fun _ => true) = some j ∧
     j.cmd = some c ∧ c.opcode = 0 ∧ c.quiet = false ∧ c.dead = false ∧ s.io.dmaHeld = false ∧ s.io.lost = false ∧
     ringRuns 2 x = true ∧ ringFill x < ringSize x) ∧
    (∃ (s : State), s.dsp.intakeOff = true ∧ held s < intakeMax s) ∧
    (∃ (s : State) (j : Job) (c : Cmd), let m := (leAt (cmdBody j) 0 2 % 1024); pickJob s 6 (fun _ => true) = some j ∧
     j.cmd = some c ∧ c.opcode = 1 ∧ s.crp.mode ≠ .standby ∧ m < gradeMachines s ∧
     entryOk s ((cmdBody j).drop 4) = true) ∧
    (∃ (s : State) (j : Job) (c : Cmd), let m := (leAt (cmdBody j) 0 2 % 1024); pickJob s 6 (fun _ => true) = some j ∧
     j.cmd = some c ∧ c.opcode = 1 ∧ s.crp.mode = .standby ∧ paiRuns s = true) ∧
    (∃ (s : State) (j : Job) (c : Cmd), pickJob s 6 (fun _ => true) = some j ∧ j.cmd = some c ∧ c.opcode = 2) ∧
    (∃ (s : State) (r : Nat) (e : List Byte) (b : List Byte) (f : List Byte), let x := (padTo 64 e);
     netTxReady s r = true ∧ s.io.lost = false ∧ entOpcode x = 0x20 ∧ envelope (!s.crp.recovery) x false = 0 ∧
     14 ≤ leAt (entBody x b) 10 2 ∧ leAt (entBody x b) 10 2 ≤ 1514) ∧
    (∃ (s : State) (r : Nat) (e : List Byte) (b : List Byte) (f : List Byte), let x := (padTo 64 e);
     let y := (ring s (ringCpl (ring s r))); netTxReady s r = true ∧ s.io.lost = false ∧ s.crp.recovery = true ∧
     ringRuns 2 y = true ∧ netTxBusy s r = false ∧ entOpcode x = 0x20) :=
  ⟨⟨withRings 1 up, 0, zeros 64, [], by decide +kernel⟩,
   ⟨withRings 1 up, 0, [0xFF] ++ zeros 63, [], false, by decide +kernel⟩,
   ⟨cmdSt (hostJob .hostCmd 0 []) up, hostJob .hostCmd 0 [], cmd 0, by decide +kernel⟩,
   ⟨{ up with dsp := { up.dsp with intakeOff := true } }, by decide +kernel⟩,
   ⟨cmdSt (hostJob .hostCmd 1 ([5, 0, 0, 0, 2] ++ zeros 31)) up, hostJob .hostCmd 1 ([5, 0, 0, 0, 2] ++ zeros 31), cmd 1,
     by decide +kernel⟩,
   ⟨inMode .standby (cmdSt (hostJob .hostCmd 1 ([5, 0, 0, 0, 2] ++ zeros 31)) (paired (fun p => p))),
     hostJob .hostCmd 1 ([5, 0, 0, 0, 2] ++ zeros 31), cmd 1, by decide +kernel⟩,
   ⟨cmdSt (hostJob .hostCmd 2 (zeros 4)) up, hostJob .hostCmd 2 (zeros 4), cmd 2, by decide +kernel⟩,
   ⟨withPort linked (withRings 5 up), 0, [0x20, 0, 24, 0, 0, 0, 0, 0] ++ zeros 10 ++ [0xEA, 5] ++ zeros 44, [],
     zeros 1514, by decide +kernel⟩,
   ⟨withPort linked (withRings 5 { up with crp := { up.crp with recovery := true } }), 0, [0x20] ++ zeros 63, [], [],
     by decide +kernel⟩⟩
theorem witness_TaskBoardCompletes :
    (∃ (s : State) (j : Job) (c : Cmd), let b := (cmdBody j); pickJob s 5 (fun _ => true) = some j ∧ j.cmd = some c ∧
     c.opcode = 0x10 ∧ s.crp.mode ≠ .standby ∧ s.tsk.tasks.length < 65536 ∧ leAt b 0 4 ≠ 0xFFFFFFFF ∧
     leAt b 4 2 ≤ 4095 ∧ leAt b 6 1 ≤ 7 ∧ leAt b 12 2 ≤ 64 ∧ taskOf s (leAt b 0 4) = none) ∧
    (∃ (s : State) (j : Job) (c : Cmd) (k : Task), pickJob s 5 (fun _ => true) = some j ∧ j.cmd = some c ∧
     c.opcode = 0x11 ∧ s.crp.mode ≠ .standby ∧ leAt (cmdBody j) 4 1 = 0 ∧ taskOf s (leAt (cmdBody j) 0 4) = some k) ∧
    (∃ (s : State) (j : Job) (c : Cmd) (k : Task), pickJob s 5 (fun _ => true) = some j ∧ j.cmd = some c ∧
     c.opcode = 0x11 ∧ s.crp.mode ≠ .standby ∧ leAt (cmdBody j) 4 1 = 1 ∧ taskOf s (leAt (cmdBody j) 0 4) = some k ∧
     k.state = .assigned) ∧
    (∃ (s : State) (j : Job) (id : Nat) (e : Nat) (g : Nat) (k : Task), pickJob s 5 (fun _ => true) = some j ∧
     j.kind = .allot ∧ j.work = .allot id e g ∧ flag s Reg.TSK_CTRL 0 = true ∧ taskHeld s j.flow = none ∧
     bestTask (s.tsk.tasks.filter (allottable s (mach s j.flow).entry.cls)) = some k) :=
  ⟨⟨cmdSt (hostJob .taskCmd 0x10 tbody) up, hostJob .taskCmd 0x10 tbody, cmd 0x10, by decide +kernel⟩,
   ⟨cmdSt (hostJob .taskCmd 0x11 [9]) { mPos 2 up with tsk := ⟨[task0], 0⟩ }, hostJob .taskCmd 0x11 [9], cmd 0x11, task0,
     by decide +kernel⟩,
   ⟨cmdSt (hostJob .taskCmd 0x11 [9, 0, 0, 0, 1]) { mPos 2 up with tsk := ⟨[task0], 0⟩ },
     hostJob .taskCmd 0x11 [9, 0, 0, 0, 1], cmd 0x11, task0, by decide +kernel⟩,
   ⟨withReg Reg.TSK_CTRL 1 (withJob (job .allot 5 (.allot 0 0 2) none) { mPos 2 up with tsk := ⟨[{ task0 with state := .queued, holder := none, mask := 4 }], 0⟩ }),
     job .allot 5 (.allot 0 0 2) none, 0, 0, 2, { task0 with state := .queued, holder := none, mask := 4 },
     by decide +kernel⟩⟩
theorem witness_EventsComplete :
    (∃ (s : State) (g : Nat) (w : Word), g < 16) ∧
    (∃ (s : State) (v : Nat), (ioVec s.io v).holding = true ∧ vecDue s v = true ∧ (ioVec s.io v).again = false) ∧
    (∃ (s : State) (v : Nat), (ioVec s.io v).holding = true ∧ vecDue s v = true ∧ (ioVec s.io v).again = true ∧
     (ioVec s.io v).masked = false ∧ s.io.fnMask = false ∧ s.io.dmaHeld = false ∧ s.io.lost = false) ∧
    (∃ (s : State) (v : Nat), v < 64 ∧ (ioVec s.io v).masked = true ∧ (ioVec s.io v).pba = true ∧
     (ioVec s.io v).holding = false ∧ s.io.fnMask = false ∧ s.io.dmaHeld = false ∧ s.io.lost = false) ∧
    (∃ (s : State) (v : Nat), v < 64 ∧ s.io.fnMask = true) ∧
    (∃ (s : State) (v : Nat) (x : Vec), s.io.dmaHeld = false ∧ s.io.lost = false ∧ s.io.vec = [(v, x)] ∧ x.pba = true ∧
     x.masked = false ∧ x.holding = false) ∧
    (∃ (s : State), s.io.dmaHeld = false) ∧
    (∃ (s : State), s.io.dmaHeld = true) :=
  ⟨⟨up, 15, 0xFFFFFFFF, by decide +kernel⟩,
   ⟨{ up with io := { up.io with vec := [(63, { vecDef 63 with holding := true })] } }, 63, by decide +kernel⟩,
   ⟨{ up with io := { up.io with vec := [(63, { vecDef 63 with masked := false, holding := true, again := true })] } },
     63, by decide +kernel⟩,
   ⟨{ up with io := { up.io with vec := [(63, { vecDef 63 with pba := true })] } }, 63, by decide +kernel⟩,
   ⟨{ up with io := { up.io with fnMask := true } }, 63, by decide +kernel⟩,
   ⟨{ up with io := { up.io with vec := [(63, { vecDef 63 with masked := false, pba := true })] } }, 63,
     { vecDef 63 with masked := false, pba := true }, by decide +kernel⟩,
   ⟨up, by decide +kernel⟩,
   ⟨{ up with io := { up.io with dmaHeld := true, dmaWait := [(7, [1])] } }, by decide +kernel⟩⟩
theorem witness_NightfallInputsComplete :
    (∃ (s : State), s.nfl.tripA = false) ∧
    (∃ (s : State), s.nfl.tripB = false) ∧
    (∃ (s : State), s.nfl.inA = false) ∧
    (∃ (s : State), s.nfl.inB = false) ∧
    (∃ (s : State), s.nfl.inA ≠ s.nfl.inB ∧ s.nfl.disc = false ∧
     s.nfl.changedAt + cycMs (fld s Reg.NFL_CFG 23 16) ≤ s.tim.cycles) ∧
    (∃ (s : State) (ch : Nat), ch < 2) :=
  ⟨⟨up, by decide +kernel⟩,
   ⟨up, by decide +kernel⟩,
   ⟨{ up with nfl := { up.nfl with inA := false } }, by decide +kernel⟩,
   ⟨{ up with nfl := { up.nfl with inB := false } }, by decide +kernel⟩,
   ⟨{ up with nfl := { up.nfl with inB := false, changedAt := 0 } }, by decide +kernel⟩,
   ⟨up, 1, by decide +kernel⟩⟩
theorem witness_NightfallTriggersComplete :
    (∃ (s : State) (w : Word), w ≠ (if s.nfl.wdgOdd = true then 0xA5A55A5A else 0x5A5AA5A5)) ∧
    (∃ (s : State), s.nfl.wdgStarted = true ∧ s.crp.mode ≠ .snapshot ∧
     s.nfl.wdgLast + cycMs (fld s Reg.NFL_TIMING 17 8) ≤ s.tim.cycles) ∧
    (∃ (s : State) (a : Nat), s.nfl.keyLossAt = some a ∧ s.nfl.keyLossFired = false ∧
     a + cycMs (10 * fld s Reg.NFL_TIMING 31 18) ≤ s.tim.cycles) ∧
    (∃ (s : State) (w : Word), bitAt w 0 = true ∧ s.nfl.latch = .idle ∧ rowsNow s = []) ∧
    (∃ (s : State) (w : Word), bitAt w 0 = true ∧ s.nfl.latch = .armed ∧ rowsNow s = []) ∧
    (∃ (s : State) (w : Word) (c : NflCmd), bitAt w 0 = true ∧ s.nfl.latch = .armed ∧ s.nfl.confirm = none ∧
     rowsNow s = [c] ∧ c.row = .arm) ∧
    (∃ (s : State) (w : Word) (c : NflCmd), bitAt w 0 = true ∧ s.nfl.latch = .idle ∧ s.nfl.confirm = none ∧
     rowsNow s = [c] ∧ c.row = .confirm) ∧
    (∃ (s : State), nfSet s = true ∧ launchOf s.nfl.trig s.nfl.nextK ≤ s.tim.now + 100 * tUs) :=
  ⟨⟨up, 0xA5A55A5A, by decide +kernel⟩,
   ⟨{ up with nfl := { up.nfl with wdgStarted := true } }, by decide +kernel⟩,
   ⟨{ up with nfl := { up.nfl with keyLossAt := some 0 } }, 0, by decide +kernel⟩,
   ⟨up, 1, by decide +kernel⟩,
   ⟨{ up with nfl := { up.nfl with latch := .armed } }, 1, by decide +kernel⟩,
   ⟨{ up with nfl := { up.nfl with latch := .armed, cmds := [⟨safeCycle up, .arm, 0⟩] } }, 1, ⟨safeCycle up, .arm, 0⟩,
     by decide +kernel⟩,
   ⟨{ up with nfl := { up.nfl with cmds := [⟨safeCycle up, .confirm, 0⟩] } }, 1, ⟨safeCycle up, .confirm, 0⟩,
     by decide +kernel⟩,
   ⟨{ up with nfl := { up.nfl with latch := .latched, trig := 0 } }, by decide +kernel⟩⟩
theorem witness_NightfallReleaseCompletes :
    (∃ (s : State) (w : Word), triggerNow s = false ∧ s.nfl.latch = .latched ∧ endedNow s = false ∧
     nfUnitActive s = true ∧ latchLo s w = true) ∧
    (∃ (s : State) (w : Word), triggerNow s = false ∧ isActive s = true ∧ s.nfl.latch = .armed ∧
     confirmReason w s = 0 ∧ peerServes s = false ∧ bitAt w 16 = true) ∧
    (∃ (s : State) (w : Word), triggerNow s = false ∧ isActive s = true ∧ s.nfl.latch = .armed ∧
     confirmReason w s = 0 ∧ peerServes s = false ∧ bitAt w 16 = false) ∧
    (∃ (s : State) (w : Word), triggerNow s = false ∧ isActive s = true ∧ s.nfl.latch = .armed ∧
     confirmReason w s = 0 ∧ peerServes s = true) ∧
    (∃ (s : State) (w : Word), triggerNow s = true) ∧
    (∃ (s : State) (w : Word), triggerNow s = false ∧ isActive s = true ∧ s.nfl.latch = .armed ∧
     confirmReason w s ≠ 0) ∧
    (∃ (s : State) (w : Word), triggerNow s = false ∧ isActive s = false ∧ s.nfl.latch = .armed) ∧
    (∃ (s : State) (a : Nat), s.nfl.confirm = some (true, a) ∧ s.tim.now ≤ a + 2 * tMs) ∧
    (∃ (s : State) (a : Nat), s.nfl.confirm = some (false, a) ∧ s.tim.now ≤ a + 2 * tMs) ∧
    (∃ (s : State) (f : Bool) (a : Nat), s.nfl.confirm = some (f, a) ∧ a + 2 * tMs ≤ s.tim.now) ∧
    (∃ (s : State), s.nfl.latch = .armed ∧ s.nfl.confirm = none ∧ s.nfl.armAt + 10 * tSec ≤ s.tim.now) ∧
    (∃ (s : State) (w : Word), let m := (bits w 9 0); bitAt w 31 = true ∧ triggerNow s = false ∧
     s.nfl.latch = .selective ∧ nfUnitActive s = true ∧ m < gradeMachines s ∧ (mach s m).entry.gen ≠ 0 ∧
     nfHeld s m = true ∧ keyUsable s (txSlot (mach s m).entry) 0 = true) ∧
    (∃ (s : State) (w : Word), let m := (bits w 9 0); bitAt w 31 = true ∧ triggerNow s = false ∧
     s.nfl.latch = .selective ∧ nfUnitActive s = true ∧ m < gradeMachines s ∧ (mach s m).entry.gen = 0) ∧
    (∃ (s : State) (r : RelRun), s.nfl.fleetRel = some r ∧ r.next ≤ s.tim.now ∧ r.sent < 9 ∧ s.nfl.machRel = []) ∧
    (∃ (s : State) (r : RelRun), s.nfl.fleetRel = some r ∧ r.next ≤ s.tim.now ∧ 9 ≤ r.sent ∧ s.nfl.machRel = []) :=
  ⟨⟨{ up with nfl := { up.nfl with latch := .latched } }, 1, by decide +kernel⟩,
   ⟨{ ({ up with nfl := { up.nfl with latch := .armed, armAt := 95 * tSec } }) with key := { up.key with slot := [(0, ⟨.valid, 0, 1, false, 0, 0, zeros 16⟩)] } },
     0x10001, by decide +kernel⟩,
   ⟨{ up with nfl := { up.nfl with latch := .armed, armAt := 95 * tSec } }, 1, by decide +kernel⟩,
   ⟨{ ({ up with nfl := { up.nfl with latch := .armed, armAt := 95 * tSec } }) with pai := { Pai.reset with pair := true, active := true, pathA := { pathDown with ok := true }, peer := some ⟨4, 0, 0, 0, 0, 0, 0⟩ } },
     1, by decide +kernel⟩,
   ⟨{ up with nfl := { up.nfl with latch := .latched, trigCycle := some (safeCycle up) } }, 1, by decide +kernel⟩,
   ⟨{ up with nfl := { up.nfl with latch := .armed, armAt := 90 * tSec } }, 1, by decide +kernel⟩,
   ⟨{ ({ up with nfl := { up.nfl with latch := .armed, armAt := 95 * tSec } }) with pai := { Pai.reset with pair := true } },
     1, by decide +kernel⟩,
   ⟨{ up with nfl := { up.nfl with confirm := some (true, 100 * tSec - 2 * tMs) } }, 100 * tSec - 2 * tMs,
     by decide +kernel⟩,
   ⟨{ up with nfl := { up.nfl with confirm := some (false, 100 * tSec - 2 * tMs) } }, 100 * tSec - 2 * tMs,
     by decide +kernel⟩,
   ⟨{ up with nfl := { up.nfl with confirm := some (false, 100 * tSec - 2 * tMs) } }, false, 100 * tSec - 2 * tMs,
     by decide +kernel⟩,
   ⟨{ up with nfl := { up.nfl with latch := .armed, armAt := 90 * tSec } }, by decide +kernel⟩,
   ⟨(fun s => { s with nfl := { s.nfl with latch := .selective, held := BitVec.allOnes 1024 } }) (mPos 2 up), 0x80000005,
     by decide +kernel⟩,
   ⟨{ up with nfl := { up.nfl with latch := .selective } }, 0x80000005, by decide +kernel⟩,
   ⟨{ up with nfl := { up.nfl with fleetRel := some ⟨1, 8, 100 * tSec⟩ } }, ⟨1, 8, 100 * tSec⟩, by decide +kernel⟩,
   ⟨{ up with nfl := { up.nfl with fleetRel := some ⟨1, 9, 100 * tSec⟩ } }, ⟨1, 9, 100 * tSec⟩, by decide +kernel⟩⟩
theorem witness_TimeSteeringCompletes :
    (∃ (s : State) (w : Word), let v := (bits w 7 0 * 2 ^ 32 + (lowWord s Reg.TIM_INCR_FRAC).toNat);
     incrInRange v = true ∧ timState s ≠ .holdover) ∧
    (∃ (s : State) (v : Nat) (m : Nat), s.tim.pendIncr = some (v, m) ∧ m < msIdx s.tim.now) ∧
    (∃ (s : State) (w : Word), let total := (signed 32 (rd s Reg.TIM_ADJ_OFFSET).toNat * (tNs : Int) + s.tim.adjRemain);
     bits w 15 0 ≠ 0 ∧
     ((timState s = .free ∨ s.crp.mode = .maintain ∨ total.natAbs * 1000 ≤ fld s Reg.TIM_HOLD_CFG 7 0 * bits w 15 0 * tNs))) ∧
    (∃ (s : State), s.tim.adjCycles = 0) ∧
    (∃ (s : State) (w : Word), bits w 29 0 ≤ 999999999 ∧ ((timState s = .free ∨ s.crp.mode = .maintain))) ∧
    (∃ (s : State) (w : Word), timState s ≠ .free ∧ s.crp.mode ≠ .maintain) :=
  ⟨⟨withReg Reg.TIM_INCR_FRAC 0x719C671A up, 2, by decide +kernel⟩,
   ⟨{ up with tim := { up.tim with pendIncr := some (5, 99999) } }, 5, 99999, by decide +kernel⟩,
   ⟨withReg Reg.TIM_ADJ_OFFSET 100 { up with tim := { up.tim with state := .free } }, 1, by decide +kernel⟩,
   ⟨up, by decide +kernel⟩,
   ⟨withReg Reg.TIM_SET_S_LO 5 { up with tim := { up.tim with state := .free } }, 999999999, by decide +kernel⟩,
   ⟨up, 1, by decide +kernel⟩⟩
theorem witness_TimeStateCompletes :
    (∃ (s : State) (w : Word), bitAt w 31 = true ∧ timState s = .free ∧ s.tim.mirror = none) ∧
    (∃ (s : State) (w : Word), bitAt w 31 = true ∧ ((timState s ≠ .free ∨ s.tim.mirror.isSome = true))) ∧
    (∃ (s : State) (w : Word), ((timState s = .locked ∨ timState s = .stepPending)) ∧ s.tim.tLoss = none ∧
     lossTiming s = false) ∧
    (∃ (s : State), s.tim.mirror = none ∧ s.tim.state = .locked ∧ lossOver s = true) ∧
    (∃ (s : State) (r : Nat), s.tim.mirror = none ∧ s.tim.state = .locked ∧ lastOk s = some r ∧
     r + 2 * tSec ≤ s.tim.now) ∧
    (∃ (s : State), aboveBound s = true ∧ s.tim.above = false) ∧
    (∃ (s : State), ((aboveBound s = false ∨ s.tim.above = true))) ∧
    (∃ (s : State) (w : Word), ((timState s = .locked ∨ timState s = .holdover)) ∧
     s.tim.reports.any (fun r => decide (r.1 < s.tim.now) && decide (s.tim.now ≤ r.1 + tSec)) = true ∧
     (signed 32 w.toNat).natAbs ≤ 500) ∧
    (∃ (s : State) (w : Word), ((timState s = .locked ∨ timState s = .holdover)) ∧
     s.tim.reports.any (fun r => decide (r.1 < s.tim.now) && decide (s.tim.now ≤ r.1 + tSec)) = true ∧
     500 < (signed 32 w.toNat).natAbs) ∧
    (∃ (s : State) (w : Word), ((timState s = .free ∨ timState s = .stepPending))) ∧
    (∃ (s : State) (p : StepPlan), timState s = .stepPending ∧ s.tim.step = some p ∧ p.s * tSec ≤ s.tim.now) ∧
    (∃ (s : State) (e : Nat), s.tim.termEnd = some e ∧ e * tSec ≤ s.tim.now) :=
  ⟨⟨{ up with tim := { up.tim with state := .free } }, 0x80000005, by decide +kernel⟩,
   ⟨up, 0x80000005, by decide +kernel⟩,
   ⟨withReg Reg.TIM_LOSS_S 99 { up with tim := { up.tim with reports := [(98 * tSec, 5)] } }, 5, by decide +kernel⟩,
   ⟨{ up with tim := { up.tim with tLoss := some (98 * tSec : Nat) } }, by decide +kernel⟩,
   ⟨{ up with tim := { up.tim with reports := [(98 * tSec, 5)] } }, 98 * tSec, by decide +kernel⟩,
   ⟨withReg Reg.TIM_BOUND 3 ({ up with tim := { up.tim with state := .holdover, tLoss := some (98 * tSec : Nat), u0 := 5, above := false } }),
     by decide +kernel⟩,
   ⟨up, by decide +kernel⟩,
   ⟨{ up with tim := { up.tim with state := .holdover, reports := [(99 * tSec, 5)] } }, 0xFFFFFE0C, by decide +kernel⟩,
   ⟨{ up with tim := { up.tim with state := .holdover, reports := [(99 * tSec, 5)] } }, 501, by decide +kernel⟩,
   ⟨{ up with tim := { up.tim with state := .free } }, 1, by decide +kernel⟩,
   ⟨{ up with tim := { up.tim with state := .stepPending, step := some ⟨-7, 100⟩ } }, ⟨-7, 100⟩, by decide +kernel⟩,
   ⟨{ up with tim := { up.tim with termEnd := some 100 } }, 100, by decide +kernel⟩⟩
theorem witness_TimeCounterCompletes :
    (∃ (s : State) (d : Int), let bb := (((s.tim.bb : Int) + psUnits d).toNat); let mark := (msIdx s.tim.now * tMs);
     let lat := ((rd s Reg.TIM_BB_LAT).toNat * tNs / 1000); let diff := ((bb : Int) - (lat : Int) - (mark : Int));
     s.ing.held = false ∧ s.tim.syncLost = false ∧ s.tim.bbValid = true ∧ diff.natAbs ≤ 16 * tNs) ∧
    (∃ (s : State) (d : Int), let mark := (msIdx s.tim.now * tMs);
     let lat := ((rd s Reg.TIM_BB_LAT).toNat * tNs / 1000); s.ing.held = false ∧ s.tim.syncLost = false ∧
     s.tim.bbValid = true ∧
     16 * tNs < ((((s.tim.bb : Int) + psUnits d).toNat : Int) - (lat : Int) - (mark : Int)).natAbs) ∧
    (∃ (s : State) (d : Int), s.ing.held = false ∧ ((s.tim.syncLost = true ∨ s.tim.bbValid = false))) ∧
    (∃ (s : State), s.tim.missing = 99 ∧ s.tim.syncLost = false) ∧
    (∃ (s : State), s.tim.missing + 1 < 100) ∧
    (∃ (s : State), timState s = .locked ∧ s.tim.rtcSec < secOf s.tim.now) :=
  ⟨⟨{ up with tim := { up.tim with bb := up.tim.now, missing := 3 } }, -16000, by decide +kernel⟩,
   ⟨{ up with tim := { up.tim with bb := up.tim.now } }, 16001, by decide +kernel⟩,
   ⟨{ up with tim := { up.tim with syncLost := true } }, 0, by decide +kernel⟩,
   ⟨{ up with tim := { up.tim with missing := 99 } }, by decide +kernel⟩,
   ⟨{ up with tim := { up.tim with missing := 98 } }, by decide +kernel⟩,
   ⟨up, by decide +kernel⟩⟩
theorem witness_TimePulsesComplete :
    (∃ (s : State) (n : Nat), n < 2 ∧ outputsOn s = true ∧ flag s (Reg.TIM_PPS_CFG n) 0 = true ∧
     Tab.get natDef s.tim.ppsLast n < ppsSecond s n) ∧
    (∃ (s : State) (k : Nat) (w : Word), tpExists s k = true ∧ outputsOn s = true ∧ bitAt w 0 = true ∧
     bitAt w 1 = false ∧ flag s (Reg.TIM_TP_CFG k) 0 = false ∧
     (s.tim.now : Int) ≤ near32 s.tim.now (rd s (Reg.TIM_TP_AT_S k)).toNat (fld s (Reg.TIM_TP_AT_NS k) 29 0)) ∧
    (∃ (s : State) (k : Nat), tpDue s k = true ∧ outputsOn s = true ∧ flag s (Reg.TIM_TP_CFG k) 1 = false) ∧
    (∃ (s : State) (k : Nat), tpDue s k = true ∧ outputsOn s = true ∧ flag s (Reg.TIM_TP_CFG k) 1 = true) ∧
    (∃ (s : State) (k : Nat) (e : Nat), (tpOut s k).ending = some e ∧ e ≤ s.tim.cycles) ∧
    (∃ (s : State) (n : Nat) (t1 : Int) (t2 : Int) (t3 : Int) (t4 : Int), portPowered s n = true ∧
     bitAt (stk s (Reg.TIM_PORT_STICKY n)) 0 = false ∧ (timPort s n).run = [] ∧ (timPort s n).entered < 8) ∧
    (∃ (s : State) (n : Nat), n < gradePorts s ∧ bitAt (stk s (Reg.TIM_PORT_STICKY n)) 0 = true) :=
  ⟨⟨withReg (Reg.TIM_PPS_CFG 1) 1 up, 1, by decide +kernel⟩,
   ⟨withReg (Reg.TIM_TP_AT_S 15) 100 up, 15, 1, by decide +kernel⟩,
   ⟨withReg (Reg.TIM_TP_CFG 15) 1 { up with tim := { up.tim with tp := [(15, ⟨100 * tSec, none⟩)] } }, 15,
     by decide +kernel⟩,
   ⟨withReg (Reg.TIM_TP_CFG 15) 3 { up with tim := { up.tim with tp := [(15, ⟨100 * tSec, none⟩)] } }, 15,
     by decide +kernel⟩,
   ⟨{ up with tim := { up.tim with tp := [(0, ⟨0, some 5⟩)] } }, 0, 5, by decide +kernel⟩,
   ⟨up, 3, 0, 1000, 2000, 3100, by decide +kernel⟩,
   ⟨withStk (Reg.TIM_PORT_STICKY 3) 1 up, 3, by decide +kernel⟩⟩
theorem witness_PulsarCompletes :
    (∃ (s : State), pulsarSends s = true ∧ flag s Reg.PAI_CTRL 1 = false) ∧
    (∃ (s : State) (f : List Byte), pairUp s = true ∧ dropsNext s 10 = false ∧ hbValid s f true = true ∧
     s.pai.starting = false) ∧
    (∃ (s : State) (f : List Byte) (c : Bool), pairUp s = true ∧ dropsNext s 10 = false ∧ hbValid s f c = false) ∧
    (∃ (s : State), pulsarSends s = true) ∧
    (∃ (s : State) (c : BitVec 6), pairUp s = true ∧ burstValid s c.toNat = true) ∧
    (∃ (s : State) (c : BitVec 6), pairUp s = true ∧ burstValid s c.toNat = false) :=
  ⟨⟨paired (fun p => { p with hbSeq := 0xFFFFFFFF }), by decide +kernel⟩,
   ⟨paired (fun p => { p with pathA := pathDown }), [0x44, 0x50, 1, 0] ++ zeros 44, by decide +kernel⟩,
   ⟨paired (fun p => { p with pathA := pathDown }), zeros 47, true, by decide +kernel⟩,
   ⟨paired (fun p => { p with burst := 15 }), by decide +kernel⟩,
   ⟨paired (fun p => { p with pathB := ⟨true, 0, 0, 100 * tSec - 80 * tUs, some 0⟩ }), 3, by decide +kernel⟩,
   ⟨paired (fun p => { p with pathB := ⟨true, 0, 0, 100 * tSec - 79 * tUs, some 1⟩ }), 5, by decide +kernel⟩⟩
theorem witness_ClaimsComplete :
    (∃ (s : State), pairUp s = true ∧ s.pai.pathA.ok = true ∧ 4 ≤ s.pai.pathA.missing ∧ s.pai.pathB.ok = true) ∧
    (∃ (s : State), pairUp s = true ∧ s.pai.pathB.ok = true ∧ s.pai.pathB.last + tMs ≤ s.tim.now ∧
     s.pai.pathA.ok = true) ∧
    (∃ (s : State), pairUp s = true ∧ s.pai.pathB.ok = true ∧ s.pai.pathB.last + tMs ≤ s.tim.now ∧
     s.pai.pathA.ok = false ∧ s.pai.peerFailed = false ∧ s.crp.primary = true ∧ s.pai.active = true) ∧
    (∃ (s : State) (c : Nat), s.pai.pair = true ∧ s.pai.claimAt = some c ∧ c + 500 * tUs ≤ s.tim.now ∧
     s.pai.active = true) ∧
    (∃ (s : State) (c : Nat), pairUp s = true ∧ s.pai.claimAt = some c ∧ c + 500 * tUs ≤ s.tim.now) ∧
    (∃ (s : State) (r : Nat), s.pai.peerReadySince = some r ∧ s.pai.pair = true ∧ s.pai.active = true ∧
     s.pai.claimDrive = true ∧ r + tSec ≤ s.tim.now) ∧
    (∃ (s : State), pairUp s = true ∧ s.pai.claimDrive = false ∧ peerDrives s = false ∧ s.pai.splitLine = false) ∧
    (∃ (s : State) (r : Nat) (p : PeerView), pairUp s = true ∧ s.pai.claimDrive = false ∧ peerDrives s = false ∧
     s.pai.splitLine = false ∧ s.pai.releasedAt = some r ∧ s.pai.peer = some p ∧ r + 100 * tUs ≤ s.tim.now ∧
     r < p.at_) ∧
    (∃ (s : State), s.pai.pair = true ∧ s.pai.starting = true ∧ s.pai.claimAt = none ∧ heardB s = false ∧
     s.pai.startAt + 100 * fld s Reg.PAI_CTRL 15 8 * tMs ≤ s.tim.now ∧ s.crp.primary = false) :=
  ⟨⟨paired (fun p => { p with pathA := { okPath with missing := 4 }, pathB := okPath }), by decide +kernel⟩,
   ⟨paired (fun p => { p with pathA := okPath, pathB := { okPath with last := 100 * tSec - tMs } }), by decide +kernel⟩,
   ⟨paired (fun p => { p with pathB := { okPath with last := 100 * tSec - tMs } }), by decide +kernel⟩,
   ⟨paired (fun p => { p with claimAt := some (100 * tSec - 500 * tUs) }), 100 * tSec - 500 * tUs, by decide +kernel⟩,
   ⟨paired (fun p => { p with claimAt := some (100 * tSec - 500 * tUs) }), 100 * tSec - 500 * tUs, by decide +kernel⟩,
   ⟨paired (fun p => { p with peerReadySince := some (99 * tSec), claimDrive := true }), 99 * tSec, by decide +kernel⟩,
   ⟨paired (fun p => { p with claimDrive := false }), by decide +kernel⟩,
   ⟨paired (fun p => { p with releasedAt := some (100 * tSec - 100 * tUs), peer := some ⟨0, 0, 0, 0, 0, 0, 100 * tSec⟩ }),
     100 * tSec - 100 * tUs, ⟨0, 0, 0, 0, 0, 0, 100 * tSec⟩, by decide +kernel⟩,
   ⟨(fun s => { s with crp := { s.crp with primary := false } }) (paired (fun p => { p with starting := true, startAt := 90 * tSec })),
     by decide +kernel⟩⟩
theorem witness_MirroringCompletes :
    (∃ (s : State) (n : Nat) (l : List Task), pairUp s = true ∧ dropsNext s 10 = false ∧ s.pai.active = false ∧
     s.crp.mode = .standby ∧ recInOrder s n (.tasks l) = true) ∧
    (∃ (s : State) (n : Nat) (k : Nat) (v : Slot), pairUp s = true ∧ dropsNext s 10 = false ∧ s.pai.active = false ∧
     s.crp.mode = .standby ∧ recInOrder s n (.slot k v) = true) ∧
    (∃ (s : State) (n : Nat), pairUp s = true ∧ dropsNext s 10 = false ∧ s.pai.active = true ∧ s.pai.handover = .none ∧
     s.pai.grants.filter (fun g => decide (g.number ≤ n)) = []) ∧
    (∃ (s : State) (n : Nat) (b : Nat), pairUp s = true ∧ dropsNext s 10 = false ∧ s.pai.active = true ∧
     s.pai.handover = .sent b ∧
     (s.pai.sentRecs.filter (fun e => decide (e.1 ≤ n))).any (fun e => decide (e.2.1 = .handover)) = true) ∧
    (∃ (s : State), (s.pai.grants.filter (grantWaited s)).isEmpty = false ∧ paiRuns s = true) ∧
    (∃ (s : State), pairUp s = true ∧ s.pai.sync = 1 ∧ s.pai.pathA.ok = true) ∧
    (∃ (s : State) (b : Nat), s.pai.handover = .sent b ∧ b + 200 * tUs ≤ s.tim.now ∧ paiRuns s = true) ∧
    (∃ (s : State), pairUp s = true ∧ s.pai.active = true ∧ peerServes s = true ∧ s.pai.handover = .none) ∧
    (∃ (s : State), pairUp s = true ∧ (s.pai.active && peerServes s) = false) ∧
    (∃ (s : State), pairUp s = true ∧ s.pai.pathA.ok = true ∧ s.pai.active = true) ∧
    (∃ (s : State), pairUp s = true ∧ s.pai.pathA.ok = true ∧ s.pai.active = false) :=
  ⟨⟨standbyUnit, 42, [task0], by decide +kernel⟩,
   ⟨standbyUnit, 42, 255, { slotDef 255 with owner := 5 }, by decide +kernel⟩,
   ⟨paired (fun p => { p with sentRecs := [(5, .sync, 0), (6, .handover, 0)] }), 5, by decide +kernel⟩,
   ⟨paired (fun p => { p with handover := .sent 7, sentRecs := [(6, .handover, 0)] }), 6, 7, by decide +kernel⟩,
   ⟨paired (fun p => { p with grants := [⟨5, 5, 0, tx0 .grant, ⟨0, 0, 0, 0, 0, 0, [], 0⟩, 100 * tSec - 150 * tUs⟩] }),
     by decide +kernel⟩,
   ⟨paired (fun p => { p with sync := 1, pathA := okPath }), by decide +kernel⟩,
   ⟨paired (fun p => { p with handover := .sent (100 * tSec - 200 * tUs) }), 100 * tSec - 200 * tUs, by decide +kernel⟩,
   ⟨paired (fun p => { p with pathA := okPath, peer := some ⟨4, 0, 0, 0, 0, 0, 0⟩ }), by decide +kernel⟩,
   ⟨paired (fun p => p), by decide +kernel⟩,
   ⟨paired (fun p => { p with pathA := okPath }), by decide +kernel⟩,
   ⟨paired (fun p => { p with pathA := okPath, active := false }), by decide +kernel⟩⟩
theorem witness_ClocksComplete :
    (∃ (s : State), pd1Runs s = true ∧ s.crp.refOk = true) ∧
    (∃ (s : State), pd1Runs s = true ∧ s.crp.refOk = true ∧ pdState s 3 = .on) ∧
    (∃ (s : State), pd1Runs s = false) ∧
    (∃ (s : State), pd1Runs s = true) ∧
    (∃ (s : State), pd1Runs s = true ∧ s.crp.flLock = true) ∧
    (∃ (s : State), pd1Runs s = true ∧ s.crp.bbLock = true) ∧
    (∃ (s : State), s.ing.held = true ∧ s.crp.refOk = true ∧ pd1Runs s = true) ∧
    (∃ (s : State), pd1Runs s = true) ∧
    (∃ (s : State), pd1Runs s = true ∧ s.recorder.store = .mram) :=
  ⟨⟨up, by decide +kernel⟩,
   ⟨up, by decide +kernel⟩,
   ⟨inMode .dormant up, by decide +kernel⟩,
   ⟨up, by decide +kernel⟩,
   ⟨up, by decide +kernel⟩,
   ⟨up, by decide +kernel⟩,
   ⟨{ up with ing := { up.ing with held := true } }, by decide +kernel⟩,
   ⟨up, by decide +kernel⟩,
   ⟨up, by decide +kernel⟩⟩
theorem witness_DeviceResetsComplete :
    (∃ (s : State) (p : Bool) (b : Nat) (x : Supply), s.crp.mode = .dormant ∧ x.vbatHeld = true) ∧
    (∃ (s : State) (p : Bool) (b : Nat) (x : Supply), ((s.crp.mode ≠ .dormant ∨ x.vbatHeld = false))) ∧
    (∃ (s : State) (n : Nat), s.crp.mode ≠ .dormant ∧ 1000 ≤ n) ∧
    (∃ (s : State) (n : Nat), (s.crp.mode = .dormant ∨ n < 100)) ∧
    (∃ (s : State) (n : Nat), s.crp.mode ≠ .dormant ∧ 100 ≤ n ∧ n < 1000) ∧
    (∃ (s : State) (n : Nat), s.crp.mode ≠ .dormant ∧ 10 < n) ∧
    (∃ (s : State) (w : Word), s.crp.mode ≠ .dormant ∧ bitAt w 0 = true ∧ bits w 31 24 = 0xA5) ∧
    (∃ (s : State) (w : Word), s.crp.mode ≠ .dormant ∧ bitAt w 0 = true ∧ bits w 31 24 ≠ 0xA5) ∧
    (∃ (s : State) (w : Word), s.crp.mode = .dormant) ∧
    (∃ (s : State), bootRuns s = true) ∧
    (∃ (s : State), s.crp.mode ≠ .dormant) ∧
    (∃ (s : State), (s.crp.mode = .dormant ∨ s.crp.pmuEn = false)) ∧
    (∃ (s : State), (s.crp.mode = .dormant ∨ s.crp.pmuEn = false) ∧ s.key.alarm ≠ 0 ∧
     s.key.alarm.toNat ≤ s.key.rtcSec.toNat % 2 ^ 32) :=
  ⟨⟨inMode .dormant up, true, 0, ⟨true, true⟩, by decide +kernel⟩,
   ⟨withKey 1 0 7 up, true, 0, ⟨true, false⟩, by decide +kernel⟩,
   ⟨up, 1000, by decide +kernel⟩,
   ⟨up, 99, by decide +kernel⟩,
   ⟨up, 100, by decide +kernel⟩,
   ⟨up, 11, by decide +kernel⟩,
   ⟨up, 0xA5000001, by decide +kernel⟩,
   ⟨up, 1, by decide +kernel⟩,
   ⟨inMode .dormant up, 0xA5000001, by decide +kernel⟩,
   ⟨booting, by decide +kernel⟩,
   ⟨withKey 1 0 7 up, by decide +kernel⟩,
   ⟨inMode .dormant up, by decide +kernel⟩,
   ⟨(fun s => { s with key := { s.key with alarm := 1, rtcSec := 1 } }) (inMode .dormant up), by decide +kernel⟩⟩
theorem witness_RegionResetsComplete :
    (∃ (s : State) (w : Word) (r : Nat), r < 4 ∧ rstAsks w (1 + r) = true ∧ rstRefused w s = false ∧
     pdState s (4 + r) = .on) ∧
    (∃ (s : State) (w : Word), rstAsks w 5 = true ∧ rstRefused w s = false ∧ pdState s 8 = .on ∧
     s.crp.acqDownWaits = true) ∧
    (∃ (s : State) (w : Word), rstAsks w 5 = true ∧ rstRefused w s = false ∧ pdState s 8 = .on) ∧
    (∃ (s : State) (w : Word), rstAsks w 6 = true ∧ s.crp.mode = .maintain ∧ pdState s 9 = .on) ∧
    (∃ (s : State) (w : Word), rstAsks w 6 = true ∧ s.crp.mode ≠ .maintain) ∧
    (∃ (s : State) (w : Word), rstAsks w 7 = true ∧ s.crp.mode = .maintain ∧ pdState s 10 = .on) ∧
    (∃ (s : State) (w : Word), rstAsks w 8 = true ∧ rstRefused w s = false ∧ pdState s 12 = .on ∧ s.pai.pair = false) ∧
    (∃ (s : State) (b : Nat), 1 ≤ b ∧ b ≤ 8) ∧
    (∃ (s : State) (w : Word) (k : Nat), k < 4 ∧ fifoExists s k = true ∧ bitAt w 0 = true ∧ s.crp.mode = .maintain ∧
     (netPort s k).fifo ≠ []) ∧
    (∃ (s : State) (w : Word) (n : Nat) (f : TxFrame), n < 4 ∧ fifoExists s (n + 4) = true ∧ bitAt w 0 = true ∧
     s.crp.mode = .maintain ∧ (netPort s n).tx = some f) ∧
    (∃ (s : State) (w : Word) (k : Nat), fifoExists s k = true ∧ bitAt w 0 = true ∧ s.crp.mode = .maintain ∧
     ((k < 4 → (netPort s k).fifo = [])) ∧ ((4 ≤ k → k < 8 → (netPort s (k - 4)).tx = none)) ∧
     ((8 ≤ k → fifo s k = fifoDef k))) ∧
    (∃ (s : State) (w : Word) (k : Nat), s.crp.mode ≠ .maintain) ∧
    (∃ (s : State) (k : Nat), k < 4 ∧ fifoExists s k = true ∧ pd1Runs s = true ∧ (netPort s k).fifo ≠ []) ∧
    (∃ (s : State) (n : Nat) (f : TxFrame), n < 4 ∧ fifoExists s (n + 4) = true ∧ pd1Runs s = true ∧
     (netPort s n).tx = some f) ∧
    (∃ (s : State) (k : Nat), 8 ≤ k ∧ k < 20 ∧ pd1Runs s = true ∧ fifo s k = fifoDef k) ∧
    (∃ (s : State) (f : List Byte) (ok : Bool), pairUp s = true ∧ dropsNext s 10 = true) ∧
    (∃ (s : State) (u : Nat) (ch : Nat) (core : Nat) (b : List Byte) (l : List (Nat × Nat × List Byte)), (corUnit s u).dumps = (ch, core, b) :: l ∧
     dropsNext s 16 = true) :=
  ⟨⟨up, 0x10, 3, by decide +kernel⟩,
   ⟨{ up with crp := { up.crp with acqDownWaits := true } }, 0x20, by decide +kernel⟩,
   ⟨up, 0x20, by decide +kernel⟩,
   ⟨inMode .maintain up, 0x40, by decide +kernel⟩,
   ⟨up, 0x40, by decide +kernel⟩,
   ⟨inMode .maintain up, 0x80, by decide +kernel⟩,
   ⟨up, 0x100, by decide +kernel⟩,
   ⟨up, 8, by decide +kernel⟩,
   ⟨inMode .maintain { up with net := [(3, { linked with fifo := [rx posB] })] }, 1, 3, by decide +kernel⟩,
   ⟨inMode .maintain { up with net := [(3, { linked with tx := some (tx0 .nightfall) })] }, 1, 3, tx0 .nightfall,
     by decide +kernel⟩,
   ⟨inMode .maintain up, 1, 19, by decide +kernel⟩,
   ⟨up, 1, 5, by decide +kernel⟩,
   ⟨inMode .maintain { up with net := [(3, { linked with fifo := [rx posB] })] }, 3, by decide +kernel⟩,
   ⟨inMode .maintain { up with net := [(3, { linked with tx := some (tx0 .host) })] }, 3, tx0 .host, by decide +kernel⟩,
   ⟨up, 19, by decide +kernel⟩,
   ⟨fifoWaits 10 (paired (fun p => p)), zeros 48, true, by decide +kernel⟩,
   ⟨fifoWaits 16 { up with cor := { up.cor with unit := [(127, ⟨none, [(2047, 5, zeros 64)]⟩)] } }, 127, 2047, 5,
     zeros 64, [], by decide +kernel⟩⟩
theorem witness_ModeCommandsComplete :
    (∃ (s : State) (w : Word), bits w 2 0 = 0 ∧ bits w 31 24 = 0x4D ∧ s.crp.mode = .maintain) ∧
    (∃ (s : State) (w : Word), bits w 2 0 = 2 ∧ bits w 31 24 = 0x4D ∧ s.crp.mode = .serve ∧ nfSet s = true) ∧
    (∃ (s : State) (w : Word), bits w 2 0 = 3 ∧ bits w 31 24 = 0x4D ∧ s.crp.mode = .survey) ∧
    (∃ (s : State) (w : Word), bits w 2 0 = 3 ∧ bits w 31 24 = 0x4D ∧ s.crp.mode = .maintain ∧ s.crp.recovery = false ∧
     s.pai.pair = false ∧ s.tim.state ≠ .holdover) ∧
    (∃ (s : State) (w : Word), bits w 2 0 = 6 ∧ bits w 31 24 = 0x4D ∧
     modeIn s [.serve, .survey, .holdover, .maintain] = true) ∧
    (∃ (s : State) (w : Word), bits w 2 0 = 7 ∧ bits w 31 24 = 0x4D ∧
     modeIn s [.serve, .survey, .holdover, .standby] = true) ∧
    (∃ (s : State) (w : Word), bits w 2 0 = 7 ∧ bits w 31 24 ≠ 0x4D) ∧
    (∃ (s : State) (a : Nat), s.crp.mode = .snapshot ∧ s.crp.snapAt = some a ∧ s.crp.snapDown = false ∧
     a + 20 * tMs ≤ s.tim.now) ∧
    (∃ (s : State), s.crp.mode = .snapshot) :=
  ⟨⟨inMode .maintain up, 0x4D000000, by decide +kernel⟩,
   ⟨{ up with nfl := { up.nfl with latch := .latched } }, 0x4D000002, by decide +kernel⟩,
   ⟨inMode .survey up, 0x4D000003, by decide +kernel⟩,
   ⟨inMode .maintain up, 0x4D000003, by decide +kernel⟩,
   ⟨up, 0x4D000006, by decide +kernel⟩,
   ⟨up, 0x4D000007, by decide +kernel⟩,
   ⟨up, 7, by decide +kernel⟩,
   ⟨inMode .snapshot ({ up with crp := { up.crp with snapAt := some (100 * tSec - 20 * tMs) } }), 100 * tSec - 20 * tMs,
     by decide +kernel⟩,
   ⟨inMode .snapshot up, by decide +kernel⟩⟩
theorem witness_PowerAndSwapsComplete :
    (∃ (s : State) (w : Word) (b : Nat), let old := (rd s Reg.CRP_PWR_REQ); b < 10 ∧ bitAt old b = true ∧
     w &&& pwrMask s = old &&& ~~~(oneHot b) ∧ pwrRefused s b = false ∧ pdState s (pwrDomain b) = .on ∧
     ((b = 4 → s.acq.pipe = []))) ∧
    (∃ (s : State) (w : Word) (b : Nat), let old := (rd s Reg.CRP_PWR_REQ); b < 10 ∧ bitAt old b = true ∧
     w &&& pwrMask s = old &&& ~~~(oneHot b) ∧ pwrRefused s b = true) ∧
    (∃ (s : State) (w : Word) (b : Nat), let old := (rd s Reg.CRP_PWR_REQ); b < 10 ∧ bitAt old b = false ∧
     w &&& pwrMask s = old ||| oneHot b ∧ s.crp.mode ≠ .boot ∧ pdState s (pwrDomain b) = .off) ∧
    (∃ (s : State) (k : Nat), pdState s k = .isolated) ∧
    (∃ (s : State) (k : Nat), pdState s k = .ramping) ∧
    (∃ (s : State) (w : Word) (a : Nat), let sets := (BitVec.ofNat 8 (bits w 7 0)); bitAt w 31 = true ∧
     s.crp.mode ≠ .standby ∧ s.crp.swapWait = 0 ∧ forbiddenIn sets s = [] ∧ bitAt w 8 = false ∧
     sets.getLsbD 2 = false ∧ inSets sets a = true ∧ Tab.wf RegMap.reset s.bank.shadow = true) ∧
    (∃ (s : State) (w : Word), let sets := (BitVec.ofNat 8 (bits w 7 0)); bitAt w 31 = true ∧ s.crp.mode ≠ .standby ∧
     s.crp.swapWait = 0 ∧ forbiddenIn sets s = [] ∧ bitAt w 8 = true) ∧
    (∃ (s : State) (w : Word), bitAt w 31 = true ∧ s.crp.swapWait ≠ 0) ∧
    (∃ (s : State) (w : Word), let sets := (BitVec.ofNat 8 (bits w 7 0)); bitAt w 31 = true ∧ s.crp.mode ≠ .standby ∧
     s.crp.swapWait = 0 ∧ forbiddenIn sets s ≠ []) :=
  ⟨⟨up, 0x1FF, 9, by decide +kernel⟩,
   ⟨ctx3 running up, 0x3FE, 0, by decide +kernel⟩,
   ⟨withReg Reg.CRP_PWR_REQ 0x1FF (setPd 20 .off up), 0x3FF, 9, by decide +kernel⟩,
   ⟨setPd 20 .isolated up, 20, by decide +kernel⟩,
   ⟨setPd 4 .ramping up, 4, by decide +kernel⟩,
   ⟨{ up with bank := { up.bank with shadow := [(Reg.DSP_LEVEL, 0x11111)] } }, 0x80000020, Reg.DSP_LEVEL,
     by decide +kernel⟩,
   ⟨up, 0x800001FF, by decide +kernel⟩,
   ⟨{ up with crp := { up.crp with swapWait := 1 } }, 0x80000001, by decide +kernel⟩,
   ⟨{ up with bank := { up.bank with shadow := [(Reg.NET_CTRL 0, 0x1C8)] } }, 0x80000080, by decide +kernel⟩⟩
theorem witness_StoresComplete :
    (∃ (s : State) (w : Word), bitAt w 0 = true ∧ s.upd.confirmed = true) ∧
    (∃ (s : State) (w : Word), bitAt w 0 = true ∧ s.upd.confirmed = false) ∧
    (∃ (s : State) (w : Word) (i : Image), bitAt w 0 = true ∧ bitAt w 1 = true ∧ lc s ≠ 4 ∧ s.upd.active = some i) ∧
    (∃ (s : State) (w : Word), bitAt w 3 = true) ∧
    (∃ (s : State) (w : Word), bitAt w 0 = true ∧ bits w 31 24 = 0x5C ∧ s.crp.mode = .maintain ∧ lc s ≠ 4 ∧
     s.upd.gens.length < 5) ∧
    (∃ (s : State) (w : Word), bitAt w 0 = true ∧ bits w 31 24 = 0x5C ∧ s.crp.mode = .maintain ∧ lc s ≠ 4 ∧
     s.upd.gens.length < 5) ∧
    (∃ (s : State) (w : Word) (v : Bool), bitAt w 0 = true ∧
     ((bits w 31 24 ≠ 0x5C ∨ s.crp.mode ≠ .maintain ∨ lc s = 4))) ∧
    (∃ (s : State) (w : Word), bits w 1 0 = 1 ∧ lcCmdOk w s = true) ∧
    (∃ (s : State) (w : Word), bits w 1 0 = 2 ∧ lcCmdOk w s = true) ∧
    (∃ (s : State) (w : Word), bits w 1 0 = 2 ∧ lcCmdOk w s = false) :=
  ⟨⟨up, 1, by decide +kernel⟩,
   ⟨{ up with upd := { up.upd with confirmed := false } }, 1, by decide +kernel⟩,
   ⟨{ up with upd := { up.upd with active := some { Upd.image with svn := 1024 } } }, 3, { Upd.image with svn := 1024 },
     by decide +kernel⟩,
   ⟨withReg Reg.DSP_LEVEL 5 up, 8, by decide +kernel⟩,
   ⟨inMode .maintain { up with upd := { up.upd with gens := [0, 0, 0, 0] } }, 0x5C000001, by decide +kernel⟩,
   ⟨inMode .maintain up, 0x5C000001, by decide +kernel⟩,
   ⟨up, 0x5C000001, true, by decide +kernel⟩,
   ⟨inMode .maintain { up with upd := { up.upd with lcField := 0 } }, 0xC3000001, by decide +kernel⟩,
   ⟨inMode .maintain { up with upd := { up.upd with lcField := 0 } }, 0xC3000002, by decide +kernel⟩,
   ⟨up, 0xC3000002, by decide +kernel⟩⟩
theorem witness_StagingCompletes :
    (∃ (s : State) (j : Job) (c : Cmd), pickJob s 6 (fun _ => true) = some j ∧ j.cmd = some c ∧ c.opcode = 0x28 ∧
     s.upd.session = none ∧ lenOk (leAt (cmdBody j) 0 4) = true) ∧
    (∃ (s : State) (j : Job) (c : Cmd) (x : Session) (d : List Byte), let k := (leAt (cmdBody j) 4 2);
     pickJob s 6 (fun _ => true) = some j ∧ j.cmd = some c ∧ c.opcode = 0x29 ∧ s.io.dmaHeld = false ∧
     hostSession s (leAt (cmdBody j) 0 4) = some x ∧ k < blockCount x ∧ leAt (cmdBody j) 8 4 = blockLen x k) ∧
    (∃ (s : State) (j : Job) (c : Cmd) (x : Session) (n : Nat), pickJob s 6 (fun _ => true) = some j ∧ j.cmd = some c ∧
     c.opcode = 0x2A ∧ leAt (cmdBody j) 0 4 = n ∧ hostSession s n = some x ∧ blockCount x ≤ x.blocks.length ∧
     imageStatus s (stagedImage x) = 0) ∧
    (∃ (s : State) (j : Job) (c : Cmd) (x : Session) (n : Nat), pickJob s 6 (fun _ => true) = some j ∧ j.cmd = some c ∧
     c.opcode = 0x2A ∧ leAt (cmdBody j) 0 4 = n ∧ hostSession s n = some x ∧
     ((x.blocks.length < blockCount x ∨ imageStatus s (stagedImage x) ≠ 0))) ∧
    (∃ (s : State) (j : Job) (c : Cmd) (x : Session), pickJob s 6 (fun _ => true) = some j ∧ j.cmd = some c ∧
     c.opcode = 0x2B ∧ hostSession s (leAt (cmdBody j) 0 4) = some x) ∧
    (∃ (s : State) (x : Session), s.upd.session = some x ∧ x.last + fld s Reg.UPD_CFG 7 0 * tSec ≤ s.tim.now) ∧
    (∃ (s : State) (n : Nat), pairUp s = true ∧ dropsNext s 10 = false ∧ s.upd.session = none ∧ lenOk n = true) ∧
    (∃ (s : State) (x : Session) (k : Nat) (crc : Nat) (d : List Byte), pairUp s = true ∧ dropsNext s 10 = false ∧
     s.upd.session = some x ∧ x.source = 2 ∧ k < blockCount x) ∧
    (∃ (s : State) (x : Session) (crc : Nat) (d : List Byte), pairUp s = true ∧ dropsNext s 10 = false ∧
     s.upd.session = some x ∧ x.source = 2 ∧ blockCount x ≤ x.blocks.length ∧ imageStatus s (stagedImage x) = 0) ∧
    (∃ (s : State) (w : Word) (i : Image), bitAt w 2 = true ∧ pairUp s = true ∧ s.pai.pathA.ok = true ∧
     pushImage s = some i) ∧
    (∃ (s : State) (w : Word), bitAt w 2 = true ∧ s.pai.pair = false) :=
  ⟨⟨cmdSt (hj 0x28 (leBytes 4 12582912)) up, hj 0x28 (leBytes 4 12582912), cmd 0x28, by decide +kernel⟩,
   ⟨cmdSt (hj 0x29 ([1, 0, 0, 0, 1, 0, 0, 0, 1])) (staging [] 1 up), hj 0x29 ([1, 0, 0, 0, 1, 0, 0, 0, 1]), cmd 0x29,
     session0 [] 1, [0], by decide +kernel⟩,
   ⟨cmdSt (hj 0x2A [1]) (withSession (whole 1) up), hj 0x2A [1], cmd 0x2A, whole 1, 1, by decide +kernel⟩,
   ⟨cmdSt (hj 0x2A [1]) (staging [] 1 up), hj 0x2A [1], cmd 0x2A, session0 [] 1, 1, by decide +kernel⟩,
   ⟨cmdSt (hj 0x2B [1]) (staging [] 1 up), hj 0x2B [1], cmd 0x2B, session0 [] 1, by decide +kernel⟩,
   ⟨staging [] 1 up, session0 [] 1, by decide +kernel⟩,
   ⟨paired (fun p => p), 512, by decide +kernel⟩,
   ⟨staging [] 2 (paired (fun p => p)), session0 [] 2, 1, 0x527D5351, [0], by decide +kernel⟩,
   ⟨withSession (whole 2) (paired (fun p => p)), whole 2, 0, [], by decide +kernel⟩,
   ⟨paired (fun p => { p with pathA := okPath }), 4, Upd.image, by decide +kernel⟩,
   ⟨up, 4, by decide +kernel⟩⟩
theorem witness_KeyUpdatesComplete :
    (∃ (s : State) (j : Job) (c : Cmd), pickJob s 6 (fun _ => true) = some j ∧ j.cmd = some c ∧ c.opcode = 0x30 ∧
     kuAction (cmdBody j) = 1 ∧ kuStatus s (cmdBody j) = 0) ∧
    (∃ (s : State) (j : Job) (c : Cmd), pickJob s 6 (fun _ => true) = some j ∧ j.cmd = some c ∧ c.opcode = 0x30 ∧
     kuAction (cmdBody j) = 2 ∧ kuStatus s (cmdBody j) = 0) ∧
    (∃ (s : State) (j : Job) (c : Cmd), pickJob s 6 (fun _ => true) = some j ∧ j.cmd = some c ∧ c.opcode = 0x30 ∧
     kuAction (cmdBody j) = 3 ∧ kuStatus s (cmdBody j) = 0) ∧
    (∃ (s : State) (j : Job) (c : Cmd) (f : BitVec 128), pickJob s 6 (fun _ => true) = some j ∧ j.cmd = some c ∧
     c.opcode = 0x30 ∧ kuAction (cmdBody j) = 4 ∧ kuStatus s (cmdBody j) = 0 ∧
     setLcBits s (kuTarget (cmdBody j)) = some f) ∧
    (∃ (s : State) (j : Job) (c : Cmd), pickJob s 6 (fun _ => true) = some j ∧ j.cmd = some c ∧ c.opcode = 0x30 ∧
     kuAction (cmdBody j) = 5 ∧ kuStatus s (cmdBody j) = 0) ∧
    (∃ (s : State) (j : Job) (c : Cmd), pickJob s 6 (fun _ => true) = some j ∧ j.cmd = some c ∧ c.opcode = 0x30 ∧
     kuAction (cmdBody j) = 3 ∧ kuStatus s (cmdBody j) ≠ 0) ∧
    (∃ (s : State) (j : Job) (c : Cmd), let k := (leAt (cmdBody j) 32 1); let x := (ring s c.cpl);
     pickJob s 6 (fun _ => true) = some j ∧ j.cmd = some c ∧ c.opcode = 0x31 ∧ c.quiet = false ∧ c.dead = false ∧
     s.io.dmaHeld = false ∧ s.io.lost = false ∧ ringRuns 2 x = true ∧ ringFill x < ringSize x ∧ lc s ≠ 3 ∧ k < 64 ∧
     keyUsable s k 5 = true) :=
  ⟨⟨cmdSt (hj 0x30 (ku 1 1 63 3 0 0 16)) (up), hj 0x30 (ku 1 1 63 3 0 0 16), cmd 0x30, by decide +kernel⟩,
   ⟨cmdSt (hj 0x30 (ku 2 1 63 0 4 0 7)) (withKey 4 1 0 up), hj 0x30 (ku 2 1 63 0 4 0 7), cmd 0x30, by decide +kernel⟩,
   ⟨cmdSt (hj 0x30 (ku 3 1 4 0 0 0 0)) (withKey 4 1 0 up), hj 0x30 (ku 3 1 4 0 0 0 0), cmd 0x30, by decide +kernel⟩,
   ⟨cmdSt (hj 0x30 (ku 4 1 0 0 0 2 0)) (inMode .maintain up), hj 0x30 (ku 4 1 0 0 0 2 0), cmd 0x30, 3, by decide +kernel⟩,
   ⟨cmdSt (hj 0x30 (ku 5 1 0 0 0 0 0)) (up), hj 0x30 (ku 5 1 0 0 0 0 0), cmd 0x30, by decide +kernel⟩,
   ⟨cmdSt (hj 0x30 (ku 3 0 4 0 0 0 0)) (up), hj 0x30 (ku 3 0 4 0 0 0 0), cmd 0x30, by decide +kernel⟩,
   ⟨cmdSt (hj 0x31 (zeros 32 ++ [63])) (withKey 63 2 32 up), hj 0x31 (zeros 32 ++ [63]), cmd 0x31, by decide +kernel⟩⟩
theorem witness_TamperAndKeyRamComplete :
    (∃ (s : State) (n : Nat) (u : Bool), n < 8 ∧ tampEnabled s n = true ∧ ((n = 5 → u = true → s.crp.brown = false)) ∧
     modeIn s [.serve, .survey, .holdover, .standby] = true) ∧
    (∃ (s : State) (n : Nat) (u : Bool), n < 8 ∧ tampEnabled s n = true ∧ ((n = 5 → u = true → s.crp.brown = false)) ∧
     s.crp.mode = .dormant) ∧
    (∃ (s : State) (k : Nat), k < 64 ∧ (keySlot s k).state = .valid) ∧
    (∃ (s : State) (k : Nat), k < 64 ∧ s.key.nvOk = true) ∧
    (∃ (s : State), s.crp.mode ≠ .dormant) ∧
    (∃ (s : State) (n : Nat), lc s = 1) :=
  ⟨⟨withReg Reg.KEY_TAMP_CFG 0xFFF (withKey 63 2 32 up), 7, false, by decide +kernel⟩,
   ⟨withReg Reg.KEY_TAMP_CFG 0xFFF (inMode .dormant up), 0, false, by decide +kernel⟩,
   ⟨withKey 63 2 32 up, 63, by decide +kernel⟩,
   ⟨up, 63, by decide +kernel⟩,
   ⟨up, by decide +kernel⟩,
   ⟨up, 3, by decide +kernel⟩⟩
theorem witness_RecorderCompletes :
    (∃ (s : State) (x : Record), let c := (recCur s.recorder); s.recorder.store = .mram ∧
     s.recorder.inProgress = some x ∧ slotUsed c + recSize x ≤ segBytes s.recorder ∧ c.fillNo ≠ 0 ∧
     s.recorder.staging = [] ∧ s.recorder.resume = none ∧ s.recorder.copying = none) ∧
    (∃ (s : State), s.recorder.foldDirty = true ∧ s.recorder.copying = none ∧
     s.recorder.lastWriteBack + tMs ≤ s.tim.now) ∧
    (∃ (s : State) (p : Nat) (k : Nat), s.recorder.store = .mram ∧ s.recorder.copying = none ∧ s.recorder.spares ≠ 0 ∧
     (List.range 64).find? (fun k => (recSlot s.recorder k).inRing && decide ((recSlot s.recorder k).phys = p)) = some k) ∧
    (∃ (s : State) (p : Nat) (v : Nat) (k : Nat) (bad : List Nat), s.recorder.store = .mram ∧
     s.recorder.copying = some p ∧ s.recorder.spares ≠ 0 ∧
     (List.range 64).find? (fun k => (recSlot s.recorder k).inRing && decide ((recSlot s.recorder k).phys = p)) = some k) ∧
    (∃ (s : State), s.recorder.store = .mram) ∧
    (∃ (s : State), s.recorder.store = .mram ∧ goodSlots s.recorder = 0) ∧
    (∃ (s : State), s.recorder.store = .notUp ∧ s.crp.mode = .boot) ∧
    (∃ (s : State) (w : Word), let r := (s.recorder); r.store ≠ .notUp ∧
     (w.toNat + 2 ^ 32 - recOldest r) % 2 ^ 32 ≤ (recNewestSeq r + 1 + 2 ^ 32 - recOldest r) % 2 ^ 32) ∧
    (∃ (s : State) (w : Word), let r := (s.recorder); r.store ≠ .notUp ∧
     (recNewestSeq r + 1 + 2 ^ 32 - recOldest r) % 2 ^ 32 < (w.toNat + 2 ^ 32 - recOldest r) % 2 ^ 32) ∧
    (∃ (s : State) (j : Job) (c : Cmd), pickJob s 6 (fun _ => true) = some j ∧ j.cmd = some c ∧ c.opcode = 0x38) ∧
    (∃ (s : State) (j : Job) (c : Cmd), s.recorder.store ≠ .notUp ∧ s.recorder.copying = none ∧
     pickJob s 6 (fun _ => true) = some j ∧ j.cmd = some c ∧ c.opcode = 0x39 ∧ clearStatus (cmdBody j) s = 0) ∧
    (∃ (s : State) (j : Job) (c : Cmd), s.recorder.store ≠ .notUp ∧ s.recorder.copying = none ∧
     pickJob s 6 (fun _ => true) = some j ∧ j.cmd = some c ∧ c.opcode = 0x39 ∧ clearStatus (cmdBody j) s ≠ 0) :=
  ⟨⟨recording, rec0, by decide +kernel⟩,
   ⟨{ up with recorder := { up.recorder with foldDirty := true } }, by decide +kernel⟩,
   ⟨up, 63, 63, by decide +kernel⟩,
   ⟨{ up with recorder := { up.recorder with copying := some 63 } }, 63, 1, 63, [4, 7], by decide +kernel⟩,
   ⟨up, by decide +kernel⟩,
   ⟨{ up with recorder := { up.recorder with slots := (List.range 64).map (fun k => (k, ⟨k, 0, 0, [], false, []⟩)) } },
     by decide +kernel⟩,
   ⟨inMode .boot { up with recorder := Rec.reset }, by decide +kernel⟩,
   ⟨up, 0, by decide +kernel⟩,
   ⟨up, 1, by decide +kernel⟩,
   ⟨withJob (hj 0x38 []) up, hj 0x38 [], cmd 0x38, by decide +kernel⟩,
   ⟨clearSt, hj 0x39 clearBody, cmd 0x39, by decide +kernel, by decide +kernel, rfl, rfl, by decide +kernel, clearOk⟩,
   ⟨withJob (hj 0x39 []) up, hj 0x39 [], cmd 0x39, by decide +kernel⟩⟩
theorem witness_CountersComplete :
    (∃ (s : State) (k : Nat), ctrExists s k = true ∧ s.io.frozen = false ∧ (ioCtr s.io k).event ≠ 0 ∧
     ((chained s = false ∨ k % 2 = 1))) ∧
    (∃ (s : State) (k : Nat), ctrExists s k = true ∧ s.io.frozen = false ∧ (ioCtr s.io k).event ≠ 0 ∧
     chained s = true ∧ k % 2 = 0) ∧
    (∃ (s : State) (k : Nat) (w : CtrWrite), ctrExists s k = true) ∧
    (∃ (s : State) (core : Nat) (n : Nat), 3 ≤ n ∧ n < 19 ∧ core < 12) ∧
    (∃ (s : State) (k : Nat), ctrExists s k = true ∧ k % 2 = 0) :=
  ⟨⟨{ up with io := { up.io with ctr := [(255, { ctrDef 0 with event := 7 })] } }, 255, by decide +kernel⟩,
   ⟨{ up with io := { up.io with ctr := [(254, { ctrDef 0 with event := 7 })] } }, 254, by decide +kernel⟩,
   ⟨up, 255, ⟨0xFFFF, true⟩, by decide +kernel⟩,
   ⟨up, 11, 5, by decide +kernel⟩,
   ⟨up, 254, by decide +kernel⟩⟩
theorem witness_SignalFrames : ∃ t, exec .bridgeLaneFail up = .next t := ⟨_, rfl⟩
theorem witness_LinkFrames : ∃ t, exec (.posFrame 0) up = .next t := ⟨_, rfl⟩
theorem witness_JobFrames : ∃ t, exec .halo up = .next t := ⟨_, rfl⟩
theorem witness_NightfallFrames : ∃ t, exec (.nflTrigger 1) up = .next t := ⟨_, rfl⟩
theorem witness_TimeFrames : ∃ t, exec .holdoverEntry up = .next t := ⟨_, rfl⟩
theorem witness_PairFrames : ∃ t, exec .heartbeatSend up = .next t := ⟨_, rfl⟩
theorem witness_DeviceFrames : ∃ t, exec (.powerRequest 0) up = .next t := ⟨_, rfl⟩
theorem witness_StoreFrames : ∃ t, exec (.cfgSave 8) up = .next t := ⟨_, rfl⟩

end Sys2Proof.Tests
end

section
/-! SUPPORT. What each operation and each command leaves of the clock, reset and power unit: `f_crp` says that `f` leaves all of it,
`f_modes` that it leaves the mode and the recorded mode, `f_outOfBoot` that it does not lead into BOOT (R410). In the order of the
model's files. -/
namespace Sys2Proof.Machine

/-! ### Reading the CRP through the model's control structure -/

@[simp] theorem ran_next (t u : State) : ran (.next t) u = t := rfl

@[simp] theorem crp_ite (c : Prop) [Decidable c] (a b : State) :
    (if c then a else b).crp = if c then a.crp else b.crp := apply_ite State.crp c a b

@[simp] theorem crp_fst_ite {α : Type} (c : Prop) [Decidable c] (a b : State × α) :
    (if c then a else b).1.crp = if c then a.1.crp else b.1.crp := apply_ite (·.1.crp) c a b

/-- A fold of steps that each leave the CRP leaves it. -/
@[simp] theorem foldl_crp {α : Type} {f : State → α → State} (h : ∀ s a, (f s a).crp = s.crp) (l : List α) (s : State) :
    (l.foldl f s).crp = s.crp :=
  List.foldlRecOn (motive := fun t : State => t.crp = s.crp) l f rfl fun t ht a _ => (h t a).trans ht

/-- A fold of steps that each leave the mode and the recorded mode leaves them. -/
@[simp] theorem foldl_modes {α : Type} {f : State → α → State}
    (h : ∀ s a, (f s a).crp.mode = s.crp.mode ∧ (f s a).crp.prev = s.crp.prev) (l : List α) (s : State) :
    (l.foldl f s).crp.mode = s.crp.mode ∧ (l.foldl f s).crp.prev = s.crp.prev :=
  List.foldlRecOn (motive := fun t : State => t.crp.mode = s.crp.mode ∧ t.crp.prev = s.crp.prev) l f ⟨rfl, rfl⟩
    fun t ht a _ => ⟨(h t a).1.trans ht.1, (h t a).2.trans ht.2⟩

/-- The device is out of BOOT, and leaving HOLDOVER does not lead there (Table 14.1). -/
def OutOfBoot (c : Crp) : Prop := c.mode ≠ .boot ∧ (c.mode = .holdover → c.prev = .serve ∨ c.prev = .survey)

/-- Only the mode and the recorded mode count. -/
theorem OutOfBoot.of_eq {c d : Crp} (h : OutOfBoot c) (e : d.mode = c.mode ∧ d.prev = c.prev) : OutOfBoot d := by
  simpa [OutOfBoot, e] using h

/-! ### Ops -/

@[simp] theorem setFifo_modes (k : Nat) (f : Fifo) (s : State) :
    (setFifo k f s).crp.mode = s.crp.mode ∧ (setFifo k f s).crp.prev = s.crp.prev := ⟨rfl, rfl⟩
@[simp] theorem dropTaken_modes (k : Nat) (s : State) :
    (dropTaken k s).crp.mode = s.crp.mode ∧ (dropTaken k s).crp.prev = s.crp.prev := ⟨rfl, rfl⟩

/-! ### NetOps -/

@[simp] theorem paiSticky_crp (bit : Nat) (s : State) : (paiSticky bit s).crp = s.crp := by simp [paiSticky]

@[simp] theorem paiCount_crp (k n : Nat) (s : State) : (paiCount k n s).crp = s.crp := by simp [paiCount]

@[simp] theorem mismatchCheck_crp (old s : State) : (mismatchCheck old s).crp = s.crp := by simp [mismatchCheck]

@[simp] theorem mismatchesShown_crp (s : State) : (mismatchesShown s).crp = s.crp := by simp [mismatchesShown]

/-! ### NightOps -/

@[simp] theorem grantLost_crp (m code : Nat) (s : State) : (grantLost m code s).crp = s.crp := by simp [grantLost]

@[simp] theorem noteRow_crp (row : NflRow) (m : Nat) (s : State) : (noteRow row m s).crp = s.crp := by simp [noteRow]

/-! ### ModeOps -/

@[simp] theorem setMode_crp (m : Mode) (s : State) : (setMode m s).crp = { s.crp with mode := m } := by
  simp [setMode]
theorem setMode_outOfBoot {m : Mode} (hb : m ≠ .boot) (hh : m ≠ .holdover) (s : State) : OutOfBoot (setMode m s).crp := by
  simp [OutOfBoot, hb, hh]

theorem toHoldover_outOfBoot {s : State} (h : OutOfBoot s.crp) : OutOfBoot (toHoldover s).crp := by
  unfold toHoldover; split
  · simp_all [OutOfBoot]
  · simp_all [OutOfBoot]
  · exact h

theorem fromHoldover_outOfBoot {s : State} (h : OutOfBoot s.crp) : OutOfBoot (fromHoldover s).crp := by
  unfold fromHoldover; split
  · rcases h.2 ‹_› with e | e <;> simp [OutOfBoot, e]
  · exact h

/-! ### Time -/

@[simp] theorem timReject_crp (s : State) : (timReject s).crp = s.crp := by simp [timReject]

@[simp] theorem rearmNear_crp (s : State) : (rearmNear s).crp = s.crp := by simp [rearmNear]

@[simp] theorem ppsFire_crp (n : Nat) (s : State) : (ppsFire n s).crp = s.crp := by simp [ppsFire]

@[simp] theorem tpFire_crp (k : Nat) (s : State) : (tpFire k s).crp = s.crp := by simp [tpFire]

@[simp] theorem tpStepOver_crp (k : Nat) (s : State) : (tpStepOver k s).crp = s.crp := by simp [tpStepOver]

@[simp] theorem ppsStepOver_crp (n : Nat) (s : State) : (ppsStepOver n s).crp = s.crp := by simp [ppsStepOver]

@[simp] theorem edgesDue_crp (s : State) : (edgesDue s).crp = s.crp := by simp [edgesDue]

@[simp] theorem moveTime_crp (t : Nat) (s : State) : (moveTime t s).crp = s.crp := by
  unfold moveTime
  extract_lets
  rw [crp_ite, foldl_crp (fun s k => tpStepOver_crp k s), ppsStepOver_crp, ppsStepOver_crp, ite_self]
  rfl

@[simp] theorem execTimIncrInt_crp (w : Word) (s u : State) : (ran (execTimIncrInt w s) u).crp = s.crp := by
  unfold execTimIncrInt
  extract_lets
  rw [ran_next]
  split <;> simp

@[simp] theorem execIncrApply_crp (s u : State) : (ran (execIncrApply s) u).crp = s.crp := by
  dsimp only [execIncrApply, ran]
  split <;> simp

@[simp] theorem startAdj_crp (total : Int) (cycles : Nat) (s : State) : (startAdj total cycles s).crp = s.crp := by simp [startAdj]

@[simp] theorem execTimAdjCtrl_crp (w : Word) (s u : State) : (ran (execTimAdjCtrl w s) u).crp = s.crp := by simp [execTimAdjCtrl]

@[simp] theorem execAdjustmentEnd_crp (s u : State) : (ran (execAdjustmentEnd s) u).crp = s.crp := by simp [execAdjustmentEnd]

@[simp] theorem execTimSetNs_crp (w : Word) (s u : State) : (ran (execTimSetNs w s) u).crp = s.crp := by simp [execTimSetNs]

@[simp] theorem setLoss_crp (t : Int) (s : State) : (setLoss t s).crp = s.crp := by
  unfold setLoss
  split <;> simp

@[simp] theorem reportLoss_crp (t : Int) (s : State) : (reportLoss t s).crp = s.crp := by
  unfold reportLoss
  split <;> simp

@[simp] theorem recHoldover_crp (s : State) : (recHoldover s).crp = s.crp := by simp [recHoldover]

theorem enterHoldover_outOfBoot {s : State} (h : OutOfBoot s.crp) : OutOfBoot (enterHoldover s).crp := by
  simp only [enterHoldover, timCheckBound_keeps]
  exact toHoldover_outOfBoot (by simpa using h)

@[simp] theorem execTimLockReport_crp (w : Word) (s u : State) : (ran (execTimLockReport w s) u).crp = s.crp := by
  dsimp only [execTimLockReport, ran]
  (repeat' split) <;> simp

@[simp] theorem execTimLossNs_crp (w : Word) (s u : State) : (ran (execTimLossNs w s) u).crp = s.crp := by simp [execTimLossNs]

theorem execTimReturn_outOfBoot (w : Word) {s : State} (u : State) (h : OutOfBoot s.crp) : OutOfBoot (ran (execTimReturn w s) u).crp := by
  dsimp only [execTimReturn, ran]
  split
  · simpa using h
  split
  · simp only [timCheckBound_keeps]
    exact fromHoldover_outOfBoot (by simpa using h)
  · simp only [timCheckBound_keeps]
    exact fromHoldover_outOfBoot (by simpa using h)

theorem execHoldoverEntry_outOfBoot {s : State} (u : State) (h : OutOfBoot s.crp) : OutOfBoot (ran (execHoldoverEntry s) u).crp := by
  dsimp only [execHoldoverEntry, ran]
  split
  · exact enterHoldover_outOfBoot h
  · exact h

theorem execSigTimeout_outOfBoot {s : State} (u : State) (h : OutOfBoot s.crp) : OutOfBoot (ran (execSigTimeout s) u).crp := by
  dsimp only [execSigTimeout, ran]
  (repeat' split)
  · exact h
  · exact enterHoldover_outOfBoot (h.of_eq (by simp))
  all_goals exact h.of_eq (by simp)

@[simp] theorem execPpsEdge_crp (n : Nat) (s u : State) : (ran (execPpsEdge n s) u).crp = s.crp := by simp [execPpsEdge]

@[simp] theorem execTpEn_crp (k : Nat) (w : Word) (s u : State) : (ran (execTpEn k w s) u).crp = s.crp := by simp [execTpEn]

@[simp] theorem execTpPulse_crp (k : Nat) (s u : State) : (ran (execTpPulse k s) u).crp = s.crp := by simp [execTpPulse]

@[simp] theorem execPulseWidthEnd_crp (out : Nat) (s u : State) : (ran (execPulseWidthEnd out s) u).crp = s.crp := by
  dsimp only [execPulseWidthEnd, ran]
  (repeat' split) <;> simp

theorem execStepInstant_outOfBoot {s : State} (u : State) (h : OutOfBoot s.crp) : OutOfBoot (ran (execStepInstant s) u).crp := by
  unfold execStepInstant
  rw [ran_next]
  split
  · split
    · extract_lets s₁ late d tim s₂ s₃ s₄
      have e : s₄.crp = s.crp := by
        simp only [s₄, s₃, s₂, s₁, record_keeps, sticky_keeps, moveTime_crp, setTim_keeps, edgesDue_crp]
      split
      · exact enterHoldover_outOfBoot (e ▸ h)
      · simp only [timCheckBound_keeps, setTim_keeps, e]
        exact h
    · exact h
  · exact h

@[simp] theorem execStepHoldEnd_crp (s u : State) : (ran (execStepHoldEnd s) u).crp = s.crp := by
  dsimp only [execStepHoldEnd, ran]
  split <;> simp

@[simp] theorem execBoundExceeded_crp (s u : State) : (ran (execBoundExceeded s) u).crp = s.crp := by simp [execBoundExceeded]

@[simp] theorem bridgeHeard_crp (s : State) : (bridgeHeard s).crp = s.crp := by simp [bridgeHeard]

@[simp] theorem markBbInvalid_crp (s : State) : (markBbInvalid s).crp = s.crp := by simp [markBbInvalid]

@[simp] theorem bbLoad_crp (mark lat : Nat) (s : State) : (bbLoad mark lat s).crp = s.crp := by simp [bbLoad]

@[simp] theorem execTimeSyncSymbol_crp (driftPs : Int) (s u : State) : (ran (execTimeSyncSymbol driftPs s) u).crp = s.crp := by
  simp [execTimeSyncSymbol]

@[simp] theorem execBbSyncLost_crp (s u : State) : (ran (execBbSyncLost s) u).crp = s.crp := by simp [execBbSyncLost]

@[simp] theorem execPeerDelayExchange_crp (n : Nat) (t1 t2 t3 t4 : Int) (s u : State) :
    (ran (execPeerDelayExchange n t1 t2 t3 t4 s) u).crp = s.crp := by
  dsimp only [execPeerDelayExchange, ran]
  (repeat' split) <;> simp

@[simp] theorem execPathAsymClear_crp (n : Nat) (s u : State) : (ran (execPathAsymClear n s) u).crp = s.crp := by simp [execPathAsymClear]

@[simp] theorem execTimNowCapture_crp (s u : State) : (ran (execTimNowCapture s) u).crp = s.crp := by simp [execTimNowCapture]

@[simp] theorem execRtcLoad_crp (s u : State) : (ran (execRtcLoad s) u).crp = s.crp := by simp [execRtcLoad]

/-! ### Nightfall -/

@[simp] theorem execStopInDebounce_crp (ch : Nat) (s u : State) : (ran (execStopInDebounce ch s) u).crp = s.crp := by
  simp [execStopInDebounce]

@[simp] theorem execStopInHealthy_crp (ch : Nat) (s u : State) : (ran (execStopInHealthy ch s) u).crp = s.crp := by simp [execStopInHealthy]

@[simp] theorem execDiscrepancy_crp (s u : State) : (ran (execDiscrepancy s) u).crp = s.crp := by simp [execDiscrepancy]

@[simp] theorem execFbFault_crp (ch : Nat) (s u : State) : (ran (execFbFault ch s) u).crp = s.crp := by simp [execFbFault]

@[simp] theorem execLatchMismatch_crp (s u : State) : (ran (execLatchMismatch s) u).crp = s.crp := by simp [execLatchMismatch]

@[simp] theorem execClockCrossCheck_crp (s u : State) : (ran (execClockCrossCheck s) u).crp = s.crp := by simp [execClockCrossCheck]

@[simp] theorem execSafeSupplyMonitor_crp (s u : State) : (ran (execSafeSupplyMonitor s) u).crp = s.crp := by simp [execSafeSupplyMonitor]

@[simp] theorem execSafeSupplyRestored_crp (s u : State) : (ran (execSafeSupplyRestored s) u).crp = s.crp := by
  simp [execSafeSupplyRestored]

@[simp] theorem execNflWdgKick_crp (w : Word) (s u : State) : (ran (execNflWdgKick w s) u).crp = s.crp := by simp [execNflWdgKick]

@[simp] theorem execWatchdogExpiry_crp (s u : State) : (ran (execWatchdogExpiry s) u).crp = s.crp := by simp [execWatchdogExpiry]

@[simp] theorem execKeyGraceExpiry_crp (s u : State) : (ran (execKeyGraceExpiry s) u).crp = s.crp := by simp [execKeyGraceExpiry]

@[simp] theorem execNflTrigger_crp (w : Word) (s u : State) : (ran (execNflTrigger w s) u).crp = s.crp := by simp [execNflTrigger]

@[simp] theorem nfQueue_crp (k : Nat) (s : State) (n : Nat) : (nfQueue k s n).crp = s.crp := by simp [nfQueue]

@[simp] theorem execNightfallFrameDue_crp (s u : State) : (ran (execNightfallFrameDue s) u).crp = s.crp := by simp [execNightfallFrameDue]

@[simp] theorem refuseNoted_crp (command reason machine : Nat) (s : State) : (refuseNoted command reason machine s).crp = s.crp := by
  simp [refuseNoted]

@[simp] theorem execNflArm_crp (w : Word) (s u : State) : (ran (execNflArm w s) u).crp = s.crp := by simp [execNflArm]

@[simp] theorem fleetRelease_crp (id : Nat) (s : State) (n : Nat) : (fleetRelease id s n).crp = s.crp := by simp [fleetRelease]

@[simp] theorem machRelease_crp (m id : Nat) (s : State) : (machRelease m id s).crp = s.crp := by simp [machRelease]

@[simp] theorem endSchedule_crp (s : State) : (endSchedule s).crp = s.crp := by simp [endSchedule]

@[simp] theorem releaseFleet_crp (keep : Bool) (s : State) : (releaseFleet keep s).crp = s.crp := by simp [releaseFleet]

@[simp] theorem confirmEffect_crp (fleet : Bool) (s : State) : (confirmEffect fleet s).crp = s.crp := by simp [confirmEffect]

@[simp] theorem confirmFails_crp (r : Nat) (s : State) : (confirmFails r s).crp = s.crp := by simp [confirmFails]

@[simp] theorem execNflConfirm_crp (w : Word) (s u : State) : (ran (execNflConfirm w s) u).crp = s.crp := by
  dsimp only [execNflConfirm, ran]
  (repeat' split) <;> simp

@[simp] theorem execReleaseAcknowledged_crp (s u : State) : (ran (execReleaseAcknowledged s) u).crp = s.crp := by
  dsimp only [execReleaseAcknowledged, ran]
  split <;> simp

@[simp] theorem execConfirmAckTimeout_crp (s u : State) : (ran (execConfirmAckTimeout s) u).crp = s.crp := by
  dsimp only [execConfirmAckTimeout, ran]
  split <;> simp

@[simp] theorem execArmWindowEnd_crp (s u : State) : (ran (execArmWindowEnd s) u).crp = s.crp := by simp [execArmWindowEnd]

@[simp] theorem execNflMrel_crp (w : Word) (s u : State) : (ran (execNflMrel w s) u).crp = s.crp := by simp [execNflMrel]

@[simp] theorem resendMach_crp (s : State) (e : Nat × RelRun) : (resendMach s e).crp = s.crp := by simp [resendMach]

@[simp] theorem execReleaseResend_crp (s u : State) : (ran (execReleaseResend s) u).crp = s.crp := by
  dsimp only [execReleaseResend, ran]
  split <;> simp

@[simp] theorem releaseAcked_crp (m id : Nat) (s : State) : (releaseAcked m id s).crp = s.crp := by
  unfold releaseAcked
  split <;> simp

@[simp] theorem seenRelease_crp (m : Nat) (seen : Bool) (s : State) : (seenRelease m seen s).crp = s.crp := by
  unfold seenRelease
  (repeat' split) <;> simp

/-! ### JobOps -/

@[simp] theorem withJob_crp (e : Nat) (is : Job → Bool) {body : Job → State → State} (h : ∀ j s, (body j s).crp = s.crp) (s : State) :
    (withJob e is body s).crp = s.crp := by
  unfold withJob; split <;> simp [h]

/-! ### FieldLink -/

@[simp] theorem sendPause_crp (n quanta : Nat) (s : State) : (sendPause n quanta s).crp = s.crp := by simp [sendPause]

@[simp] theorem pauseCheck_crp (n : Nat) (s : State) : (pauseCheck n s).crp = s.crp := by simp [pauseCheck]

@[simp] theorem popHead_crp (n : Nat) (s : State) : (popHead n s).crp = s.crp := by simp [popHead]

@[simp] theorem timeCoreTake_crp (n : Nat) (frame : List Byte) (s : State) : (timeCoreTake n frame s).crp = s.crp := by simp [timeCoreTake]

@[simp] theorem execFrameReceive_modes (n : Nat) (frame : List Byte) (fcsOk : Bool) (s u : State) :
    (ran (execFrameReceive n frame fcsOk s) u).crp.mode = s.crp.mode ∧
    (ran (execFrameReceive n frame fcsOk s) u).crp.prev = s.crp.prev := by
  dsimp only [execFrameReceive, ran]; (repeat' split) <;> simp

@[simp] theorem execXoffRefresh_crp (n : Nat) (s u : State) : (ran (execXoffRefresh n s) u).crp = s.crp := by simp [execXoffRefresh]

@[simp] theorem execPauseExpiry_crp (n : Nat) (s u : State) : (ran (execPauseExpiry n s) u).crp = s.crp := by simp [execPauseExpiry]

@[simp] theorem execPauseBypass_crp (n : Nat) (s u : State) : (ran (execPauseBypass n s) u).crp = s.crp := by
  dsimp only [execPauseBypass, ran]
  split <;> simp

@[simp] theorem execLinkUp_modes (n : Nat) (s u : State) :
    (ran (execLinkUp n s) u).crp.mode = s.crp.mode ∧ (ran (execLinkUp n s) u).crp.prev = s.crp.prev := by
  dsimp only [execLinkUp, ran]; split <;> simp

@[simp] theorem linkLost_crp (n : Nat) (s : State) : (linkLost n s).crp = s.crp := by simp [linkLost]

@[simp] theorem execLinkDown_crp (n : Nat) (s u : State) : (ran (execLinkDown n s) u).crp = s.crp := by simp [execLinkDown]

@[simp] theorem discardFrame_crp (f : TxFrame) (s : State) : (discardFrame f s).crp = s.crp := by
  unfold discardFrame
  split <;> simp

@[simp] theorem execTransmitStart_modes (turn : PortTurn) (s u : State) :
    (ran (execTransmitStart turn s) u).crp.mode = s.crp.mode ∧ (ran (execTransmitStart turn s) u).crp.prev = s.crp.prev := by
  dsimp only [execTransmitStart, ran]; (repeat' split) <;> simp

@[simp] theorem execTransmitEnd_crp (n : Nat) (s u : State) : (ran (execTransmitEnd n s) u).crp = s.crp := by
  dsimp only [execTransmitEnd, ran]
  (repeat' split) <;> simp

@[simp] theorem seqTaken_crp (f : RxFrame) (s : State) : (seqTaken f s).crp = s.crp := by simp [seqTaken]

@[simp] theorem learn_crp (n : Nat) (f : RxFrame) (s : State) : (learn n f s).crp = s.crp := by simp [learn]

@[simp] theorem takeAccepted_crp (n : Nat) (f : RxFrame) (s : State) : (takeAccepted n f s).crp = s.crp := by simp [takeAccepted]

@[simp] theorem takeDropped_crp (n bit : Nat) (tagTried : Bool) (s : State) : (takeDropped n bit tagTried s).crp = s.crp := by
  simp [takeDropped]

@[simp] theorem takeAnswered_crp (n : Nat) (f : RxFrame) (code : Nat) (s : State) : (takeAnswered n f code s).crp = s.crp := by
  simp [takeAnswered]

@[simp] theorem withHead_crp (n type : Nat) {accepted : RxFrame → State → State} (h : ∀ f s, (accepted f s).crp = s.crp) (s : State) :
    (withHead n type accepted s).crp = s.crp := by
  unfold withHead; (repeat' split) <;> simp [h]

@[simp] theorem formParse_crp (n : Nat) (f : RxFrame) (work : JobWork) {after : State → State} (h : ∀ s, (after s).crp = s.crp)
    (s : State) :
    (formParse n f work after s).crp = s.crp := by
  simp [formParse, h]

@[simp] theorem execPosFrame_crp (n : Nat) (s u : State) : (ran (execPosFrame n s) u).crp = s.crp := by simp [execPosFrame]

@[simp] theorem execStatusFrame_crp (n : Nat) (s u : State) : (ran (execStatusFrame n s) u).crp = s.crp := by simp [execStatusFrame]

@[simp] theorem execAckFrame_crp (n : Nat) (s u : State) : (ran (execAckFrame n s) u).crp = s.crp := by simp [execAckFrame]

@[simp] theorem execWrongGenFrame_crp (n : Nat) (s u : State) : (ran (execWrongGenFrame n s) u).crp = s.crp := by
  dsimp only [execWrongGenFrame, ran]
  (repeat' split) <;> simp

@[simp] theorem discardObs_crp (m n : Nat) (s : State) : (discardObs m n s).crp = s.crp := by
  unfold discardObs
  dsimp only
  split <;> simp

@[simp] theorem joinObs_crp (n : Nat) (f : RxFrame) (a : ObsAsm) (s : State) : (joinObs n f a s).crp = s.crp := by simp [joinObs]

@[simp] theorem obsPart_crp (n : Nat) (f : RxFrame) (s : State) : (obsPart n f s).crp = s.crp := by
  unfold obsPart
  dsimp only
  (repeat' split) <;> simp

@[simp] theorem execObsFrame_crp (n : Nat) (s u : State) : (ran (execObsFrame n s) u).crp = s.crp := by simp [execObsFrame]

@[simp] theorem execObsEpochTimeout_crp (m : Nat) (s u : State) : (ran (execObsEpochTimeout m s) u).crp = s.crp := by
  dsimp only [execObsEpochTimeout, ran]
  split <;> simp

@[simp] theorem execOpstopFrame_crp (n : Nat) (s u : State) : (ran (execOpstopFrame n s) u).crp = s.crp := by
  dsimp only [execOpstopFrame, ran]
  (repeat' split) <;> simp

/-! ### Tasks -/

@[simp] theorem withCmd_crp (ex op : Nat) {f : List Byte → State → State × Nat × List Byte} (h : ∀ b s, (f b s).1.crp = s.crp) (s : State) :
    (withCmd ex op f s).crp = s.crp := by
  unfold withCmd; simp [h]

@[simp] theorem activeOnly_crp {f : List Byte → State → State × Nat × List Byte} (h : ∀ b s, (f b s).1.crp = s.crp) (b : List Byte)
    (s : State) :
    (activeOnly f b s).1.crp = s.crp := by
  simp [activeOnly, h]

@[simp] theorem setTask_crp (id : Nat) (st : TaskState) (h : Option Nat) (s : State) : (setTask id st h s).crp = s.crp := by simp [setTask]

@[simp] theorem dropTask_crp (id : Nat) (s : State) : (dropTask id s).crp = s.crp := by simp [dropTask]

@[simp] theorem taskRecord_crp (t : Task) (ev status : Nat) (s : State) : (taskRecord t ev status s).crp = s.crp := by simp [taskRecord]

@[simp] theorem sendTask_crp (m gen : Nat) (t : Task) (s : State) : (sendTask m gen t s).crp = s.crp := by simp [sendTask]

@[simp] theorem taskEnqueue_crp (b : List Byte) (s : State) : (taskEnqueue b s).1.crp = s.crp := by simp [taskEnqueue]

@[simp] theorem execTaskEnqueue_crp (s u : State) : (ran (execTaskEnqueue s) u).crp = s.crp := by simp [execTaskEnqueue]

@[simp] theorem taskCancel_crp (b : List Byte) (s : State) : (taskCancel b s).1.crp = s.crp := by
  unfold taskCancel
  (repeat' split) <;> simp

@[simp] theorem taskRequeue_crp (b : List Byte) (s : State) : (taskRequeue b s).1.crp = s.crp := by
  unfold taskRequeue
  (repeat' split) <;> simp

@[simp] theorem execTaskCancel_crp (s u : State) : (ran (execTaskCancel s) u).crp = s.crp := by simp [execTaskCancel]

@[simp] theorem execTaskRequeue_crp (s u : State) : (ran (execTaskRequeue s) u).crp = s.crp := by simp [execTaskRequeue]

@[simp] theorem taskAccepted_crp (t : Task) (s : State) : (taskAccepted t s).crp = s.crp := by simp [taskAccepted]

@[simp] theorem ackIgnored_crp (s : State) : (ackIgnored s).crp = s.crp := by simp [ackIgnored]

@[simp] theorem taskAck_crp (m id status : Nat) (s : State) : (taskAck m id status s).crp = s.crp := by
  unfold taskAck
  split <;> simp

@[simp] theorem taskReturn_crp (m : Nat) (s : State) : (taskReturn m s).crp = s.crp := by
  unfold taskReturn
  split <;> simp

@[simp] theorem taskSettle_crp (m gen reported : Nat) (s : State) : (taskSettle m gen reported s).crp = s.crp := by
  unfold taskSettle
  (repeat' split) <;> simp

@[simp] theorem assignTask_crp (id m : Nat) (s : State) : (assignTask id m s).crp = s.crp := by simp [assignTask]

@[simp] theorem allot_crp (m gen reported : Nat) (s : State) : (allot m gen reported s).crp = s.crp := by
  unfold allot
  dsimp only
  (repeat' split) <;> simp

@[simp] theorem execAllot_crp (s u : State) : (ran (execAllot s) u).crp = s.crp := by
  dsimp only [execAllot, ran]
  refine withJob_crp 5 _ (fun j s => ?_) s
  split <;> simp

@[simp] theorem execIntakeResume_crp (s u : State) : (ran (execIntakeResume s) u).crp = s.crp := by simp [execIntakeResume]

@[simp] theorem execDspClearMax_crp (s u : State) : (ran (execDspClearMax s) u).crp = s.crp := by simp [execDspClearMax]

/-! ### HostRings -/

@[simp] theorem withIo_crp (f : Io → Io × List Nat) (s : State) : (withIo f s).crp = s.crp := by simp [withIo]

@[simp] theorem hifReject_crp (s : State) : (hifReject s).crp = s.crp := by simp [hifReject]

@[simp] theorem ringError_crp (r code : Nat) (s : State) : (ringError r code s).crp = s.crp := by simp [ringError]

@[simp] theorem execDoorbell_crp (r : Nat) (h : Word) (s u : State) : (ran (execDoorbell r h s) u).crp = s.crp := by simp [execDoorbell]

@[simp] theorem execRingEnable_crp (r : Nat) (w : Word) (s u : State) : (ran (execRingEnable r w s) u).crp = s.crp := by
  simp [execRingEnable]

@[simp] theorem execRingDisable_crp (r : Nat) (s u : State) : (ran (execRingDisable r s) u).crp = s.crp := by simp [execRingDisable]

@[simp] theorem takeEntry_crp (r : Nat) (s : State) : (takeEntry r s).crp = s.crp := by simp [takeEntry]

@[simp] theorem fetchEntry_crp (x : Ring) (e : List Byte) (opOk entryErr : Bool) (s : State) :
    (fetchEntry x e opOk entryErr s).crp = s.crp := by
  simp [fetchEntry]

@[simp] theorem execCommandFetch_crp (r : Nat) (entry body : List Byte) (entryErr bodyErr : Bool) (s u : State) :
    (ran (execCommandFetch r entry body entryErr bodyErr s) u).crp = s.crp := by
  simp [execCommandFetch]

@[simp] theorem execNop_crp (s u : State) : (ran (execNop s) u).crp = s.crp := by simp [execNop]

@[simp] theorem emptySlot_crp (k : Nat) (waits : Bool) (s : State) : (emptySlot k waits s).crp = s.crp := by simp [emptySlot]

@[simp] theorem resetSlot_crp (k : Nat) (s : State) : (resetSlot k s).crp = s.crp := by simp [resetSlot]

@[simp] theorem slotAfterSet_crp (m : Nat) (old new : MachEntry) (s : State) : (slotAfterSet m old new s).crp = s.crp := by
  simp [slotAfterSet]

@[simp] theorem slotSettle_crp (m : Nat) (s : State) : (slotSettle m s).crp = s.crp := by simp [slotSettle]

@[simp] theorem machineSet_crp (b : List Byte) (s : State) : (machineSet b s).1.crp = s.crp := by simp [machineSet]

@[simp] theorem execMachineSet_crp (s u : State) : (ran (execMachineSet s) u).crp = s.crp := by simp [execMachineSet]

@[simp] theorem machineGet_crp (b : List Byte) (s : State) : (machineGet b s).1.crp = s.crp := by simp [machineGet]

@[simp] theorem execMachineGet_crp (s u : State) : (ran (execMachineGet s) u).crp = s.crp := by simp [execMachineGet]

@[simp] theorem execNetTx_crp (r : Nat) (entry body frame : List Byte) (entryErr bodyErr frameErr : Bool) (s u : State) :
    (ran (execNetTx r entry body frame entryErr bodyErr frameErr s) u).crp = s.crp := by
  simp [execNetTx]

@[simp] theorem deliverMask_crp (g : Nat) (w : Word) (s : State) : (deliverMask g w s).crp = s.crp := by simp [deliverMask]

@[simp] theorem execEventEnable_crp (g : Nat) (w : Word) (s u : State) : (ran (execEventEnable g w s) u).crp = s.crp := by
  simp [execEventEnable]

@[simp] theorem execVectorModerationEnd_crp (v : Nat) (s u : State) : (ran (execVectorModerationEnd v s) u).crp = s.crp := by
  simp [execVectorModerationEnd]

@[simp] theorem sendPending_crp (s : State) : (sendPending s).crp = s.crp := by simp [sendPending]

@[simp] theorem execMsixUnmask_crp (x : MsixWrite) (s u : State) : (ran (execMsixUnmask x s) u).crp = s.crp := by
  dsimp only [execMsixUnmask, ran]
  split <;> simp

@[simp] theorem dmaFlush_crp (s : State) : (dmaFlush s).crp = s.crp := by simp [dmaFlush]

@[simp] theorem execPcieReset_modes (s u : State) :
    (ran (execPcieReset s) u).crp.mode = s.crp.mode ∧ (ran (execPcieReset s) u).crp.prev = s.crp.prev := by
  simp [execPcieReset]

@[simp] theorem execDmaHold_crp (s u : State) : (ran (execDmaHold s) u).crp = s.crp := by simp [execDmaHold]

@[simp] theorem flushRing_crp (s : State) (r : Nat) : (flushRing s r).crp = s.crp := by simp [flushRing]

@[simp] theorem execDmaResume_crp (s u : State) : (ran (execDmaResume s) u).crp = s.crp := by simp [execDmaResume]

/-! ### Regions -/

@[simp] theorem setPd_modes (k : Nat) (v : PdState) (s : State) :
    (setPd k v s).crp.mode = s.crp.mode ∧ (setPd k v s).crp.prev = s.crp.prev := ⟨rfl, rfl⟩

@[simp] theorem runEnds_crp (ch : Nat) (c : Ctx) (st : CtxState) (s : State) : (runEnds ch c st s).crp = s.crp := by simp [runEnds]

@[simp] theorem acqLost_crp (s : State) : (acqLost s).crp = s.crp := by simp [acqLost]

/-! ### Ingress -/

@[simp] theorem execBridgeLaneFail_crp (s u : State) : (ran (execBridgeLaneFail s) u).crp = s.crp := by simp [execBridgeLaneFail]

@[simp] theorem execBridgeSilent_crp (s u : State) : (ran (execBridgeSilent s) u).crp = s.crp := by simp [execBridgeSilent]

@[simp] theorem tripCheck_modes (s : State) :
    (tripCheck s).crp.mode = s.crp.mode ∧ (tripCheck s).crp.prev = s.crp.prev := by
  unfold tripCheck; split <;> simp

@[simp] theorem tripDie_modes (old new : Word) (s : State) (k : Nat) :
    (tripDie old new s k).crp.mode = s.crp.mode ∧ (tripDie old new s k).crp.prev = s.crp.prev := by
  unfold tripDie; split <;> simp

@[simp] theorem execThermalSample_modes (bb fl nv : Int) (s u : State) :
    (ran (execThermalSample bb fl nv s) u).crp.mode = s.crp.mode ∧ (ran (execThermalSample bb fl nv s) u).crp.prev = s.crp.prev := by
  simp [execThermalSample]

@[simp] theorem execThermalTripClear_modes (w : Word) (s u : State) :
    (ran (execThermalTripClear w s) u).crp.mode = s.crp.mode ∧ (ran (execThermalTripClear w s) u).crp.prev = s.crp.prev := by
  simp [execThermalTripClear]

@[simp] theorem antSwitch_crp (w : Word) (s : State) (n : Nat) : (antSwitch w s n).crp = s.crp := by simp [antSwitch]

@[simp] theorem execAntEn_crp (w : Word) (s u : State) : (ran (execAntEn w s) u).crp = s.crp := by simp [execAntEn]

@[simp] theorem execCodeGroupSync_crp (n : Nat) (s u : State) : (ran (execCodeGroupSync n s) u).crp = s.crp := by simp [execCodeGroupSync]

@[simp] theorem sysrefTake_crp (phases : List (BitVec 5)) (s : State) (n : Nat) : (sysrefTake phases s n).crp = s.crp := by
  simp [sysrefTake]

@[simp] theorem execSysrefPulse_crp (phases : List (BitVec 5)) (s u : State) : (ran (execSysrefPulse phases s) u).crp = s.crp := by
  simp [execSysrefPulse]

@[simp] theorem execIlasReceived_crp (n : Nat) (octets : List Byte) (s u : State) : (ran (execIlasReceived n octets s) u).crp = s.crp := by
  simp [execIlasReceived]

@[simp] theorem markAnt_crp (n : Nat) (f : Ctx → Ctx) (s : State) : (markAnt n f s).crp = s.crp := by simp [markAnt]

@[simp] theorem linkLoss_crp (n : Nat) (cdrLost : Bool) (s : State) : (linkLoss n cdrLost s).crp = s.crp := by simp [linkLoss]

@[simp] theorem execCodeErr_crp (n : Nat) (s u : State) : (ran (execCodeErr n s) u).crp = s.crp := by simp [execCodeErr]

@[simp] theorem execLinkLoss_crp (n : Nat) (cdrLost : Bool) (s u : State) : (ran (execLinkLoss n cdrLost s) u).crp = s.crp := by
  simp [execLinkLoss]

@[simp] theorem execIngClipLoad_crp (n : Nat) (clipped : List Nat) (s u : State) : (ran (execIngClipLoad n clipped s) u).crp = s.crp := by
  simp [execIngClipLoad]

@[simp] theorem execIngLatencyWrite_crp (n : Nat) (w : Word) (s u : State) : (ran (execIngLatencyWrite n w s) u).crp = s.crp := by
  simp [execIngLatencyWrite]

@[simp] theorem execLatencyStep_crp (n : Nat) (s u : State) : (ran (execLatencyStep n s) u).crp = s.crp := by
  dsimp only [execLatencyStep, ran]
  split <;> simp

/-! ### Tracking -/

@[simp] theorem boundary_crp (ch : Nat) (last : Bool) (c : Ctx) (s : State) : (boundary ch last c s).crp = s.crp := by simp [boundary]

@[simp] theorem takeSample_crp (ch : Nat) (x : Option (Int × Int)) (s : State) : (takeSample ch x s).crp = s.crp := by
  unfold takeSample
  dsimp only
  (repeat' split) <;> simp

theorem toBoundary_crp (ch : Nat) : ∀ (l : List (Option (Int × Int))) (s t : State), toBoundary ch l s = some t → t.crp = s.crp
  | [], _, _, h => by simp [toBoundary] at h
  | x :: l, s, t, h => by
    simp only [toBoundary] at h
    split at h
    · simp [← Option.some.inj h]
    · simp [toBoundary_crp ch l _ t h]

@[simp] theorem execIntegrationBoundary_crp (ch : Nat) (frames : List LaneFrame) (s u : State) :
    (ran (execIntegrationBoundary ch frames s) u).crp = s.crp := by
  dsimp only [execIntegrationBoundary, ran]
  (repeat' split)
  · rfl
  · cases h : toBoundary ch (replaySamples s (ctx s ch)) s with
    | none => rfl
    | some t => exact toBoundary_crp ch _ s t h
  · simp

@[simp] theorem execReplayCaptureEnd_crp (ch id : Nat) (s u : State) : (ran (execReplayCaptureEnd ch id s) u).crp = s.crp := by
  simp [execReplayCaptureEnd]

@[simp] theorem dumpLost_crp (ch : Nat) (b : List Byte) (s : State) : (dumpLost ch b s).crp = s.crp := by simp [dumpLost]

@[simp] theorem execDumpDelivery_modes (unit : Nat) (s u : State) :
    (ran (execDumpDelivery unit s) u).crp.mode = s.crp.mode ∧ (ran (execDumpDelivery unit s) u).crp.prev = s.crp.prev := by
  dsimp only [execDumpDelivery, ran]; (repeat' split) <;> simp

@[simp] theorem ctxRefuse_crp (s : State) : (ctxRefuse s).crp = s.crp := by simp [ctxRefuse]

@[simp] theorem execStart_crp (ch : Nat) (s u : State) : (ran (execStart ch s) u).crp = s.crp := by simp [execStart]

@[simp] theorem execStopAt_crp (ch : Nat) (s u : State) : (ran (execStopAt ch s) u).crp = s.crp := by
  dsimp only [execStopAt, ran]
  (repeat' split) <;> simp

@[simp] theorem execAbort_crp (ch : Nat) (s u : State) : (ran (execAbort ch s) u).crp = s.crp := by
  dsimp only [execAbort, ran]
  (repeat' split) <;> simp

@[simp] theorem execContextRun_crp (ch : Nat) (s u : State) : (ran (execContextRun ch s) u).crp = s.crp := by simp [execContextRun]

@[simp] theorem corePerf_crp (core ev : Nat) (s : State) : (corePerf core ev s).crp = s.crp := by simp [corePerf]

@[simp] theorem execRateMessage_crp (ch : Nat) (code carr : BitVec 64) (s u : State) :
    (ran (execRateMessage ch code carr s) u).crp = s.crp := by
  simp [execRateMessage]

@[simp] theorem execCodeRateHi_crp (ch : Nat) (w : Word) (s u : State) : (ran (execCodeRateHi ch w s) u).crp = s.crp := by
  simp [execCodeRateHi]

@[simp] theorem execCarrRateHi_crp (ch : Nat) (w : Word) (s u : State) : (ran (execCarrRateHi ch w s) u).crp = s.crp := by
  simp [execCarrRateHi]

@[simp] theorem stopUnit_crp (u : Nat) (s : State) : (stopUnit u s).crp = s.crp := by simp [stopUnit]

@[simp] theorem corrMismatch_crp (u k : Nat) (s : State) : (corrMismatch u k s).crp = s.crp := by
  unfold corrMismatch
  dsimp only
  (repeat' split) <;> simp

@[simp] theorem execCorrMismatchEvent_crp (unit k : Nat) (s u : State) : (ran (execCorrMismatchEvent unit k s) u).crp = s.crp := by
  simp [execCorrMismatchEvent]

@[simp] theorem execCorInject_crp (w : Word) (s u : State) : (ran (execCorInject w s) u).crp = s.crp := by simp [execCorInject]

@[simp] theorem execCorCodeData_crp (w : Word) (s u : State) : (ran (execCorCodeData w s) u).crp = s.crp := by simp [execCorCodeData]

/-! ### Observables -/

@[simp] theorem lockObs_crp (e : Nat) (s : State) (o : ChanObs) : (lockObs e s o).crp = s.crp := by simp [lockObs]

/-! ### Acquisition -/

@[simp] theorem allocCapture_crp (mask len startMs state stored : Nat) (late : Bool) (s : State) :
    (allocCapture mask len startMs state stored late s).crp = s.crp := by
  simp [allocCapture]

@[simp] theorem execCapture_crp (s u : State) : (ran (execCapture s) u).crp = s.crp := by simp [execCapture]

@[simp] theorem execCaptureRelease_crp (id : Nat) (s u : State) : (ran (execCaptureRelease id s) u).crp = s.crp := by
  simp [execCaptureRelease]

@[simp] theorem execCaptureWindowStart_crp (id : Nat) (s u : State) : (ran (execCaptureWindowStart id s) u).crp = s.crp := by
  simp [execCaptureWindowStart]

@[simp] theorem execCaptureWindowEnd_crp (w : WindowFrames) (s u : State) : (ran (execCaptureWindowEnd w s) u).crp = s.crp := by
  simp [execCaptureWindowEnd]

@[simp] theorem incHalf_crp (a lo : Nat) (s : State) : (incHalf a lo s).crp = s.crp := by simp [incHalf]

@[simp] theorem makeRoom_crp (need : Nat) : ∀ (n : Nat) (s : State), (makeRoom need n s).crp = s.crp
  | 0, _ => rfl
  | n + 1, s => by
    unfold makeRoom
    (repeat' split)
    · rfl
    · rfl
    · simp [makeRoom_crp need n]

@[simp] theorem execSnapshotScheduledCapture_crp (s u : State) : (ran (execSnapshotScheduledCapture s) u).crp = s.crp := by
  simp [execSnapshotScheduledCapture]

@[simp] theorem snapGets_crp (q : Search) (bytes : List Byte) (s : State) : (snapGets q bytes s).crp = s.crp := by simp [snapGets]

@[simp] theorem endSearch_crp (q : Search) (status blocks : Nat) (noise : Option Nat) (peaks : List Peak) (s : State) :
    (endSearch q status blocks noise peaks s).crp = s.crp := by
  simp [endSearch]

@[simp] theorem enqueueSearch_crp (q : Search) (s : State) : (enqueueSearch q s).crp = s.crp := by simp [enqueueSearch]

@[simp] theorem execAcqJob_crp (w : Word) (s u : State) : (ran (execAcqJob w s) u).crp = s.crp := by simp [execAcqJob]

@[simp] theorem execAcqSearch_crp (s u : State) : (ran (execAcqSearch s) u).crp = s.crp := by simp [execAcqSearch]

theorem dropExpired_crp {s : State} {p : Search × State} (h : dropExpired s = some p) : p.2.crp = s.crp := by
  unfold dropExpired at h
  split at h
  · simp [← Option.some.inj h]
  · split at h
    · simp [← Option.some.inj h]
    · cases h

@[simp] theorem execSearchStart_crp (pipe : Nat) (s u : State) : (ran (execSearchStart pipe s) u).crp = s.crp := by
  dsimp only [execSearchStart, ran]
  split
  case h_1 q t h => simpa using dropExpired_crp h
  · (repeat' split) <;> simp

@[simp] theorem acqDownCheck_modes (s : State) :
    (acqDownCheck s).crp.mode = s.crp.mode ∧ (acqDownCheck s).crp.prev = s.crp.prev := by
  unfold acqDownCheck; split <;> simp

@[simp] theorem execSearchComplete_modes (pipe : Nat) (s u : State) :
    (ran (execSearchComplete pipe s) u).crp.mode = s.crp.mode ∧ (ran (execSearchComplete pipe s) u).crp.prev = s.crp.prev := by
  dsimp only [execSearchComplete, ran]; split <;> simp

@[simp] theorem putSnap_crp (x : Snap) (s : State) : (putSnap x s).crp = s.crp := by simp [putSnap]

@[simp] theorem endSnap_crp (x : Snap) (status : Nat) (s : State) : (endSnap x status s).crp = s.crp := by simp [endSnap]

@[simp] theorem dropSnapJob_crp (handle : Nat) (s : State) : (dropSnapJob handle s).crp = s.crp := by
  unfold dropSnapJob
  split <;> simp

@[simp] theorem snapComplete_crp (n : Nat) (f : RxFrame) (x : Snap) (s : State) : (snapComplete n f x s).crp = s.crp := by
  unfold snapComplete
  dsimp only
  (repeat' split) <;> simp

@[simp] theorem snapJoin_crp (n : Nat) (f : RxFrame) (x : Snap) (s : State) : (snapJoin n f x s).crp = s.crp := by simp [snapJoin]

@[simp] theorem snapNew_crp (n : Nat) (f : RxFrame) (s : State) : (snapNew n f s).crp = s.crp := by simp [snapNew]

@[simp] theorem snapPart_crp (n : Nat) (f : RxFrame) (s : State) : (snapPart n f s).crp = s.crp := by
  unfold snapPart
  dsimp only
  (repeat' split) <;> simp

@[simp] theorem execSnapFrame_crp (n : Nat) (s u : State) : (ran (execSnapFrame n s) u).crp = s.crp := by simp [execSnapFrame]

@[simp] theorem execSnapReassemblyTimeout_crp (m : Nat) (s u : State) : (ran (execSnapReassemblyTimeout m s) u).crp = s.crp := by
  dsimp only [execSnapReassemblyTimeout, ran]
  split <;> simp

/-! ### SwapOps -/

@[simp] theorem netCtrlChanged_crp (old s : State) (n : Nat) : (netCtrlChanged old s n).crp = s.crp := by simp [netCtrlChanged]

@[simp] theorem streamsOn_crp (old s : State) : (streamsOn old s).crp = s.crp := by simp [streamsOn]

@[simp] theorem afterSwap_crp (old s : State) : (afterSwap old s).crp = s.crp := by simp [afterSwap]

@[simp] theorem swapSets_modes (sets : BitVec 8) (s : State) :
    (swapSets sets s).crp.mode = s.crp.mode ∧ (swapSets sets s).crp.prev = s.crp.prev := by
  unfold swapSets; dsimp only; split <;> simp

@[simp] theorem swapWaiting_modes (s : State) :
    (swapWaiting s).crp.mode = s.crp.mode ∧ (swapWaiting s).crp.prev = s.crp.prev := by
  unfold swapWaiting; dsimp only; split <;> simp

@[simp] theorem execCfgSwap_modes (w : Word) (s u : State) :
    (ran (execCfgSwap w s) u).crp.mode = s.crp.mode ∧ (ran (execCfgSwap w s) u).crp.prev = s.crp.prev := by
  dsimp only [execCfgSwap, ran]; (repeat' split) <;> simp

/-! ### Ledger -/

@[simp] theorem chtReject_crp (s : State) : (chtReject s).crp = s.crp := by simp [chtReject]

@[simp] theorem rebasedTick_crp (s : State) : (rebasedTick s).crp = s.crp := by simp [rebasedTick]

@[simp] theorem fillCheck_crp (s : State) : (fillCheck s).crp = s.crp := by simp [fillCheck]

@[simp] theorem lapsedCheck_crp (s : State) : (lapsedCheck s).crp = s.crp := by simp [lapsedCheck]

@[simp] theorem commitIvals_crp (l : List Ival) (s : State) : (commitIvals l s).crp = s.crp := by simp [commitIvals]

@[simp] theorem sendRequest_crp (items : List Item) (purpose : ReqFor) (job : Nat) (s : State) :
    (sendRequest items purpose job s).crp = s.crp := by
  simp [sendRequest]

@[simp] theorem issueGrant_crp (m : Nat) (g : GrantPlan) (s : State) : (issueGrant m g s).crp = s.crp := by
  unfold issueGrant
  dsimp only
  split <;> simp

@[simp] theorem commitRequest_crp (q : Request) (new : List Ival) (s : State) : (commitRequest q new s).crp = s.crp := by
  unfold commitRequest
  dsimp only
  (repeat' split) <;> simp

@[simp] theorem endSnapJob_crp (j : Option Job) (code : Nat) (s : State) : (endSnapJob j code s).crp = s.crp := by
  unfold endSnapJob
  (repeat' split) <;> simp

@[simp] theorem answerRequest_crp (q : Request) (code : Nat) (f : Option ItemFail) (s : State) :
    (answerRequest q code f s).crp = s.crp := by
  unfold answerRequest
  split <;> simp

@[simp] theorem latencySeen_crp (q : Request) (s : State) : (latencySeen q s).crp = s.crp := by simp [latencySeen]

@[simp] theorem decide1_crp (s : State) : (decide1 s).crp = s.crp := by
  unfold decide1
  dsimp only
  (repeat' split) <;> simp

@[simp] theorem drainRequests_crp : ∀ (n : Nat) (s : State), (drainRequests n s).crp = s.crp
  | 0, _ => rfl
  | n + 1, s => by
    unfold drainRequests
    split
    · rfl
    · simp [drainRequests_crp n]

/-! ### Chart -/

@[simp] theorem graphReject_crp (code : Nat) (s : State) : (graphReject code s).crp = s.crp := by simp [graphReject]

@[simp] theorem execGraphLoad_crp (s u : State) : (ran (execGraphLoad s) u).crp = s.crp := by simp [execGraphLoad]

@[simp] theorem execGraphVerified_crp (image : List Byte) (s u : State) : (ran (execGraphVerified image s) u).crp = s.crp := by
  simp [execGraphVerified]

@[simp] theorem execGraphActivate_crp (s u : State) : (ran (execGraphActivate s) u).crp = s.crp := by
  dsimp only [execGraphActivate, ran]
  (repeat' split) <;> simp

@[simp] theorem execOriginWrite_crp (w : Word) (s u : State) : (ran (execOriginWrite w s) u).crp = s.crp := by simp [execOriginWrite]

@[simp] theorem execRebase_crp (s u : State) : (ran (execRebase s) u).crp = s.crp := by simp [execRebase]

@[simp] theorem execRebaseWindowEnd_crp (s u : State) : (ran (execRebaseWindowEnd s) u).crp = s.crp := by
  dsimp only [execRebaseWindowEnd, ran]
  split <;> simp

@[simp] theorem tickNear_crp (s : State) : (tickNear s).crp = s.crp := by simp [tickNear]

@[simp] theorem tickWrapped_crp (s : State) : (tickWrapped s).crp = s.crp := by simp [tickWrapped]

@[simp] theorem execTickNearWrap_crp (s u : State) : (ran (execTickNearWrap s) u).crp = s.crp := by simp [execTickNearWrap]

@[simp] theorem execTickWrap_crp (s u : State) : (ran (execTickWrap s) u).crp = s.crp := by simp [execTickWrap]

@[simp] theorem execIntervalReclaim_crp (s u : State) : (ran (execIntervalReclaim s) u).crp = s.crp := by simp [execIntervalReclaim]

@[simp] theorem execChtClearLat_crp (s u : State) : (ran (execChtClearLat s) u).crp = s.crp := by simp [execChtClearLat]

@[simp] theorem doRebase_crp (d : Nat) (s : State) : (doRebase d s).crp = s.crp := by simp [doRebase]

@[simp] theorem activateLedger_crp (s : State) : (activateLedger s).crp = s.crp := by simp [activateLedger]

@[simp] theorem doActivate_crp (s : State) : (doActivate s).crp = s.crp := by
  unfold doActivate
  split <;> simp

@[simp] theorem handoverAt_crp (s : State) : (handoverAt s).crp = s.crp := by simp [handoverAt]

@[simp] theorem grantBoundary_modes (s : State) :
    (grantBoundary s).crp.mode = s.crp.mode ∧ (grantBoundary s).crp.prev = s.crp.prev := by
  unfold grantBoundary; dsimp only; (repeat' split) <;> simp

@[simp] theorem execGrantPeriodBoundary_modes (s u : State) :
    (ran (execGrantPeriodBoundary s) u).crp.mode = s.crp.mode ∧ (ran (execGrantPeriodBoundary s) u).crp.prev = s.crp.prev := by
  unfold execGrantPeriodBoundary
  rw [ran_next]
  split
  · exact ⟨rfl, rfl⟩
  · exact grantBoundary_modes s

@[simp] theorem standbyLedger_crp (j : Job) (s : State) : (standbyLedger j s).crp = s.crp := by simp [standbyLedger]

@[simp] theorem execLedger_crp (s u : State) : (ran (execLedger s) u).crp = s.crp := by simp [execLedger]

@[simp] theorem execLedgerDecision_crp (s u : State) : (ran (execLedgerDecision s) u).crp = s.crp := by simp [execLedgerDecision]

@[simp] theorem routeSet_crp (b : List Byte) (s : State) : (routeSet b s).1.crp = s.crp := by
  unfold routeSet
  split <;> simp

@[simp] theorem execRouteSet_crp (s u : State) : (ran (execRouteSet s) u).crp = s.crp := by simp [execRouteSet]

@[simp] theorem execSramEccCorrected_crp (_shard : Nat) (s u : State) : (ran (execSramEccCorrected _shard s) u).crp = s.crp := by
  simp [execSramEccCorrected]

@[simp] theorem execLedgerUe_crp (shard sram : Nat) (s u : State) : (ran (execLedgerUe shard sram s) u).crp = s.crp := by
  simp [execLedgerUe]

/-! ### Halo -/

@[simp] theorem recordMatch_crp (m : Nat) (hit : Option RouteMatch) (s : State) : (recordMatch m hit s).1.crp = s.crp := by
  unfold recordMatch
  split <;> simp

@[simp] theorem haloStop_crp (m reason : Nat) (stickyBit counter : Option Nat) (s : State) :
    (haloStop m reason stickyBit counter s).crp = s.crp := by
  unfold haloStop
  (repeat' split) <;> simp

@[simp] theorem haloUpdate_crp (m : Nat) (h : HaloIn) (id : Nat) (s : State) : (haloUpdate m h id s).crp = s.crp := by
  unfold haloUpdate
  dsimp only
  (repeat' split) <;> simp

@[simp] theorem execHalo_crp (s u : State) : (ran (execHalo s) u).crp = s.crp := by
  dsimp only [execHalo, ran]
  split
  · rfl
  · exact withJob_crp 2 _ (fun j s => by split <;> simp) s

@[simp] theorem lapseDue_crp (s : State) : (lapseDue s).crp = s.crp := by simp [lapseDue]

@[simp] theorem lapseRun_crp (j : Job) (s : State) : (lapseRun j s).crp = s.crp := by
  unfold lapseRun
  split <;> simp

@[simp] theorem execLapse_crp (s u : State) : (ran (execLapse s) u).crp = s.crp := by simp [execLapse]

/-! ### Reference -/

@[simp] theorem refReject_crp (s : State) : (refReject s).crp = s.crp := by simp [refReject]

@[simp] theorem refRefused_crp (s : State) : (refRefused s).crp = s.crp := by simp [refRefused]

@[simp] theorem execBaseEpoch_crp (obs : List ChanObs) (s u : State) : (ran (execBaseEpoch obs s) u).crp = s.crp := by simp [execBaseEpoch]

@[simp] theorem execReadmit_crp (n : Nat) (w : Word) (s u : State) : (ran (execReadmit n w s) u).crp = s.crp := by simp [execReadmit]

@[simp] theorem execExclude_crp (n : Nat) (w : Word) (s u : State) : (ran (execExclude n w s) u).crp = s.crp := by simp [execExclude]

@[simp] theorem excluded_crp (n cause : Nat) (s : State) : (excluded n cause s).crp = s.crp := by simp [excluded]

@[simp] theorem antEpoch_crp (p : BaseEp) (c : Checks) (old s : State) (n : Nat) : (antEpoch p c old s n).crp = s.crp := by simp [antEpoch]

@[simp] theorem refChange_crp (altered : BitVec 4) (primaryMoved : Bool) (s : State) : (refChange altered primaryMoved s).crp = s.crp := by
  simp [refChange]

@[simp] theorem openGates_crp (e : Nat) (s : State) : (openGates e s).crp = s.crp := by simp [openGates]

@[simp] theorem surveyEngine_crp (s : State) : (surveyEngine s).crp = s.crp := by
  unfold surveyEngine
  split <;> simp

@[simp] theorem execSurveyStart_crp (w : Word) (s u : State) : (ran (execSurveyStart w s) u).crp = s.crp := by simp [execSurveyStart]

@[simp] theorem execSurveyAbort_crp (w : Word) (s u : State) : (ran (execSurveyAbort w s) u).crp = s.crp := by simp [execSurveyAbort]

@[simp] theorem surveyEpoch_crp (p : BaseEp) (sats : List SatPos) (s : State) : (surveyEpoch p sats s).crp = s.crp := by
  unfold surveyEpoch
  split <;> simp

@[simp] theorem surveyWrite_crp (n : Nat) (x : SurveyEst) (s : State) : (surveyWrite n x s).crp = s.crp := by simp [surveyWrite]

@[simp] theorem surveyAnt_crp (v : Survey) (p : State × Bool) (x : SurveyAnt) : (surveyAnt v p x).1.crp = p.1.crp := by
  unfold surveyAnt; dsimp only; split <;> simp
theorem surveyAnts_crp (v : Survey) : ∀ (l : List SurveyAnt) (p : State × Bool), (l.foldl (surveyAnt v) p).1.crp = p.1.crp
  | [], _ => rfl
  | x :: l, p => by rw [List.foldl_cons, surveyAnts_crp v l, surveyAnt_crp]

@[simp] theorem execSurveyEnd_crp (s u : State) : (ran (execSurveyEnd s) u).crp = s.crp := by
  dsimp only [execSurveyEnd, ran]; (repeat' split) <;> simp [surveyAnts_crp]

@[simp] theorem keepEphs_crp (eph : List SnapEph) (s : State) : (keepEphs eph s).crp = s.crp := by simp [keepEphs]

@[simp] theorem execBasePublish_crp (sats : List SatPos) (eph : List SnapEph) (s u : State) :
    (ran (execBasePublish sats eph s) u).crp = s.crp := by
  dsimp only [execBasePublish, ran]
  split <;> simp

@[simp] theorem execBaseDiscard_crp (s u : State) : (ran (execBaseDiscard s) u).crp = s.crp := by simp [execBaseDiscard]

@[simp] theorem execLeapApply_crp (s u : State) : (ran (execLeapApply s) u).crp = s.crp := by simp [execLeapApply]

@[simp] theorem streamCount_crp (k lo : Nat) (s : State) : (streamCount k lo s).crp = s.crp := by simp [streamCount]

@[simp] theorem deliverUdp_crp (k : Nat) (frames : List (List Byte)) (s : State) : (deliverUdp k frames s).1.crp = s.crp := by
  simp [deliverUdp]

@[simp] theorem deliverRing_crp (k e : Nat) (frames : List (List Byte)) (s : State) : (deliverRing k e frames s).1.crp = s.crp := by
  simp [deliverRing]

@[simp] theorem encodeStream_crp (k e : Nat) (s : State) : (encodeStream k e s).crp = s.crp := by simp [encodeStream]

@[simp] theorem execStreamEpochDue_crp (k : Nat) (s u : State) : (ran (execStreamEpochDue k s) u).crp = s.crp := by
  dsimp only [execStreamEpochDue, ran]
  (repeat' split) <;> simp

@[simp] theorem execEncode_crp (s u : State) : (ran (execEncode s) u).crp = s.crp := by
  dsimp only [execEncode, ran]
  refine withJob_crp 3 _ (fun j s => ?_) s
  split <;> simp

/-! ### Polestar -/

@[simp] theorem withParse_crp (type : Nat) {body : Job → List Byte → State → State} (h : ∀ j b s, (body j b s).crp = s.crp) (s : State) :
    (withParse type body s).crp = s.crp :=
  withJob_crp 0 _ (fun j s => by split <;> simp [h]) s

@[simp] theorem execObsParse_crp (s u : State) : (ran (execObsParse s) u).crp = s.crp := by
  dsimp only [execObsParse, ran]
  refine withJob_crp 0 _ (fun j s => ?_) s
  (repeat' split) <;> simp

@[simp] theorem setLastPos_crp (m : Nat) (p : Int × Int × Int) (s : State) : (setLastPos m p s).crp = s.crp := by simp [setLastPos]

@[simp] theorem execPosParse_crp (s u : State) : (ran (execPosParse s) u).crp = s.crp := by simp [execPosParse]

@[simp] theorem execStatusParse_crp (s u : State) : (ran (execStatusParse s) u).crp = s.crp := by simp [execStatusParse]

@[simp] theorem execAckParse_crp (s u : State) : (ran (execAckParse s) u).crp = s.crp := by simp [execAckParse]

@[simp] theorem execFixJob_crp (e : Nat) (s u : State) : (ran (execFixJob e s) u).crp = s.crp := by
  dsimp only [execFixJob, ran]
  (repeat' split) <;> simp

@[simp] theorem execFixGateOpen_crp (s u : State) : (ran (execFixGateOpen s) u).crp = s.crp := by simp [execFixGateOpen]

@[simp] theorem sendFix_crp (m gen e : Nat) (r : FixResult) (late snapshot : Bool) (s : State) :
    (sendFix m gen e r late snapshot s).crp = s.crp := by
  simp [sendFix]

@[simp] theorem fixCounted_crp (r : FixResult) (late : Bool) (tRx : Int) (s : State) : (fixCounted r late tRx s).crp = s.crp := by
  simp [fixCounted]

@[simp] theorem fixWriteBack_crp (f : FixStart) (x : Slot) (s : State) : (fixWriteBack f x s).crp = s.crp := by simp [fixWriteBack]

@[simp] theorem execFixJobComplete_crp (e : Nat) (s u : State) : (ran (execFixJobComplete e s) u).crp = s.crp := by
  dsimp only [execFixJobComplete, ran]
  (repeat' split) <;> simp

@[simp] theorem fixQuarantine_crp (e : Nat) (s : State) : (fixQuarantine e s).crp = s.crp := by simp [fixQuarantine]

@[simp] theorem fixMismatch_crp (e : Nat) (s : State) : (fixMismatch e s).crp = s.crp := by
  unfold fixMismatch
  dsimp only
  (repeat' split) <;> simp

@[simp] theorem execFixMismatchEvent_crp (e : Nat) (s u : State) : (ran (execFixMismatchEvent e s) u).crp = s.crp := by
  simp [execFixMismatchEvent]

@[simp] theorem execPstInject_crp (w : Word) (s u : State) : (ran (execPstInject w s) u).crp = s.crp := by simp [execPstInject]

@[simp] theorem execPstSlotReset_crp (w : Word) (s u : State) : (ran (execPstSlotReset w s) u).crp = s.crp := by simp [execPstSlotReset]

@[simp] theorem execPstClearLat_crp (s u : State) : (ran (execPstClearLat s) u).crp = s.crp := by simp [execPstClearLat]

@[simp] theorem snapPark_crp (j : Job) (v : Snap) (r : FixResult) (s : State) : (snapPark j v r s).crp = s.crp := by
  unfold snapPark
  split <;> simp

@[simp] theorem snapParse_crp (s : State) : (snapParse s).crp = s.crp :=
  withJob_crp 0 _ (fun j s => by split <;> simp) s

@[simp] theorem snapStart_crp (s : State) : (snapStart s).crp = s.crp := by
  unfold snapStart
  split
  · rfl
  · exact withJob_crp 4 _ (fun j s => by split <;> simp) s

@[simp] theorem snapFinish_crp (s : State) : (snapFinish s).crp = s.crp := by
  unfold snapFinish
  (repeat' split) <;> simp

@[simp] theorem execSnapSolve_crp (s u : State) : (ran (execSnapSolve s) u).crp = s.crp := by simp [execSnapSolve]

/-! ### Pair -/

@[simp] theorem startSync_crp (s : State) : (startSync s).crp = s.crp := by simp [startSync]

theorem servingMode_outOfBoot (s : State) : OutOfBoot (servingMode s).crp := by
  unfold servingMode; dsimp only; split
  · split <;> simp [OutOfBoot]
  · exact setMode_outOfBoot (by split <;> decide) (by split <;> decide) s

@[simp] theorem claimDrive_crp (s : State) : (claimDrive s).crp = s.crp := by simp [claimDrive]

@[simp] theorem claimRelease_crp (s : State) : (claimRelease s).crp = s.crp := by simp [claimRelease]

@[simp] theorem adoptTime_crp (s : State) : (adoptTime s).crp = s.crp := by
  unfold adoptTime
  (repeat' split) <;> simp

@[simp] theorem continueLatch_crp (s : State) : (continueLatch s).crp = s.crp := by simp [continueLatch]

theorem takeover_outOfBoot (cause : Nat) (s : State) : OutOfBoot (takeover cause s).crp := by
  simp only [takeover, startSync_crp, timCheckBound_keeps, record_keeps, setPai_keeps, continueLatch_crp, crp_ite, lapseDue_crp, ite_self]
  exact servingMode_outOfBoot _

theorem toStandby_outOfBoot {s : State} (h : OutOfBoot s.crp) : OutOfBoot (toStandby s).crp := by
  simp only [toStandby, mismatchesShown_crp, setNfl_keeps, setAcq_keeps, setCht_keeps, setDsp_keeps]
  split
  · exact setMode_outOfBoot (by decide) (by decide) _
  · exact setMode_outOfBoot (by decide) (by decide) _
  · exact setMode_outOfBoot (by decide) (by decide) _
  · simpa using h

@[simp] theorem startListening_mode (s : State) : (startListening s).crp.mode = .standby := by simp [startListening]
theorem startListening_outOfBoot (s : State) : OutOfBoot (startListening s).crp := by simp [OutOfBoot]

@[simp] theorem pairDegraded_crp (s : State) : (pairDegraded s).crp = s.crp := by simp [pairDegraded]

theorem claimProcedure_outOfBoot {s : State} (h : OutOfBoot s.crp) : OutOfBoot (claimProcedure s).crp := by
  unfold claimProcedure
  (repeat' split)
  · exact h.of_eq (by simp)
  · exact takeover_outOfBoot 2 _
  · exact takeover_outOfBoot 1 _
  · exact h.of_eq (by simp)
  · exact h.of_eq (by simp)

theorem peerFail_outOfBoot {s : State} (h : OutOfBoot s.crp) : OutOfBoot (peerFail s).crp := by
  unfold peerFail
  split
  · exact h
  · exact claimProcedure_outOfBoot (h.of_eq (by simp))

theorem execClaimSample_outOfBoot (high : Bool) {s : State} (u : State) (h : OutOfBoot s.crp) :
    OutOfBoot (ran (execClaimSample high s) u).crp := by
  dsimp only [execClaimSample, ran]
  (repeat' split)
  · exact h
  · exact h
  · exact h
  · rw [pairDegraded_crp]
    exact toStandby_outOfBoot h
  · simpa using h
  · exact takeover_outOfBoot 2 _
  · exact takeover_outOfBoot 1 _
  · simpa using h

@[simp] theorem execClaimNRelease_crp (s u : State) : (ran (execClaimNRelease s) u).crp = s.crp := by
  dsimp only [execClaimNRelease, ran]
  split <;> simp

theorem execPeerWaitExpiry_outOfBoot {s : State} (u : State) (h : OutOfBoot s.crp) : OutOfBoot (ran (execPeerWaitExpiry s) u).crp := by
  dsimp only [execPeerWaitExpiry, ran]
  split
  · exact claimProcedure_outOfBoot h
  · exact h

@[simp] theorem splitLine_crp (s : State) : (splitLine s).crp = s.crp := by simp [splitLine]

@[simp] theorem execSplitClaimLow_crp (s u : State) : (ran (execSplitClaimLow s) u).crp = s.crp := by simp [execSplitClaimLow]

@[simp] theorem execSplitClaimStuck_crp (s u : State) : (ran (execSplitClaimStuck s) u).crp = s.crp := by
  dsimp only [execSplitClaimStuck, ran]
  split <;> simp

@[simp] theorem splitTest_crp (s : State) : (splitTest s).crp = s.crp := by
  unfold splitTest
  split <;> simp

@[simp] theorem execHeartbeatSend_crp (s u : State) : (ran (execHeartbeatSend s) u).crp = s.crp := by simp [execHeartbeatSend]

@[simp] theorem hbMissed_crp (n : Nat) (s : State) : (hbMissed n s).crp = s.crp := by simp [hbMissed]

@[simp] theorem bothHealthy_crp (s : State) : (bothHealthy s).crp = s.crp := by simp [bothHealthy]

@[simp] theorem pathAGood_crp (seq : Nat) (s : State) : (pathAGood seq s).crp = s.crp := by simp [pathAGood]

@[simp] theorem steer_crp (f : List Byte) (s : State) : (steer f s).crp = s.crp := by
  unfold steer
  (repeat' split) <;> simp

theorem heardPeer_outOfBoot {s : State} (h : OutOfBoot s.crp) : OutOfBoot (heardPeer s).crp := by
  unfold heardPeer; dsimp only
  (repeat' split)
  · exact h.of_eq (by simp)
  · exact takeover_outOfBoot 2 _
  · exact h

@[simp] theorem returnCheck_crp (s : State) : (returnCheck s).crp = s.crp := by simp [returnCheck]

@[simp] theorem lagCheck_crp (s : State) : (lagCheck s).crp = s.crp := by
  unfold lagCheck
  split <;> simp

@[simp] theorem peerView_crp (f : List Byte) (s : State) : (peerView f s).crp = s.crp := by simp [peerView]

theorem execHeartbeatReceive_outOfBoot (f : List Byte) (crcOk : Bool) {s : State} (u : State) (h : OutOfBoot s.crp) :
    OutOfBoot (ran (execHeartbeatReceive f crcOk s) u).crp := by
  unfold execHeartbeatReceive
  rw [ran_next]
  split
  · exact h
  split
  · exact h.of_eq (by dsimp only; split <;> simp)
  · simp only [mismatchCheck_crp, wr_keeps, lagCheck_crp, returnCheck_crp]
    exact heardPeer_outOfBoot (by simpa using h)

theorem execPathAFail_outOfBoot {s : State} (u : State) (h : OutOfBoot s.crp) : OutOfBoot (ran (execPathAFail s) u).crp := by
  dsimp only [execPathAFail, ran]
  split
  · exact peerFail_outOfBoot (h.of_eq (by simp))
  · exact h

@[simp] theorem execPulseBurstSend_crp (s u : State) : (ran (execPulseBurstSend s) u).crp = s.crp := by simp [execPulseBurstSend]

@[simp] theorem execPulseBurstReceive_crp (cells : BitVec 6) (s u : State) : (ran (execPulseBurstReceive cells s) u).crp = s.crp := by
  simp [execPulseBurstReceive]

theorem execPathBFail_outOfBoot {s : State} (u : State) (h : OutOfBoot s.crp) : OutOfBoot (ran (execPathBFail s) u).crp := by
  dsimp only [execPathBFail, ran]
  split
  · exact peerFail_outOfBoot (h.of_eq (by simp))
  · exact h

@[simp] theorem applyNfl_crp (r : MirrorRec) (s : State) : (applyNfl r s).crp = s.crp := by
  unfold applyNfl
  split <;> simp

@[simp] theorem clearMirrored_crp (s : State) : (clearMirrored s).crp = s.crp := by simp [clearMirrored]

@[simp] theorem applyGraph_crp (id : Nat) (s : State) : (applyGraph id s).crp = s.crp := by
  unfold applyGraph
  split <;> simp

@[simp] theorem applyOrigin_crp (gen o : Nat) (fin : Option Nat) (s : State) : (applyOrigin gen o fin s).crp = s.crp := by
  simp [applyOrigin]

@[simp] theorem applyStep_crp (step : Option StepPlan) (s : State) : (applyStep step s).crp = s.crp := by
  unfold applyStep
  split <;> simp

@[simp] theorem applyRec_crp (r : MirrorRec) (s : State) : (applyRec r s).crp = s.crp := by
  unfold applyRec
  split <;> simp

@[simp] theorem pushOutcome_crp (o : Nat) (s : State) : (pushOutcome o s).crp = s.crp := by simp [pushOutcome]

theorem returnTakeover_outOfBoot (s : State) : OutOfBoot (returnTakeover s).crp :=
  (takeover_outOfBoot 3 s).of_eq (by simp [returnTakeover])

theorem execMirrorRecord_outOfBoot (number : Nat) (r : MirrorRec) {s : State} (u : State) (h : OutOfBoot s.crp) :
    OutOfBoot (ran (execMirrorRecord number r s) u).crp := by
  unfold execMirrorRecord
  rw [ran_next]
  split
  · exact h
  split
  · exact h.of_eq (by simp)
  split
  · simpa using h
  split
  · split <;> simpa using h
  split
  · exact h
  extract_lets t p t'
  have ht : OutOfBoot t'.crp := by simpa [t', t] using h
  split
  · exact ht
  split
  · exact returnTakeover_outOfBoot _
  · exact ht

@[simp] theorem releaseGrant_crp (g : HeldGrant) (s : State) : (releaseGrant g s).crp = s.crp := by simp [releaseGrant]

theorem execMirrorAck_outOfBoot (number : Nat) {s : State} (u : State) (h : OutOfBoot s.crp) :
    OutOfBoot (ran (execMirrorAck number s) u).crp := by
  unfold execMirrorAck
  rw [ran_next]
  split
  · exact h
  split
  · exact h.of_eq (by simp)
  extract_lets done us due s₁ p s₂ s₃
  have h₃ : OutOfBoot s₃.crp := h.of_eq (by dsimp only [s₃, s₂, s₁]; split <;> simp)
  (repeat' split)
  · exact toStandby_outOfBoot h₃
  · exact h₃
  · exact h₃

@[simp] theorem execMirrorAckTimeout_crp (s u : State) : (ran (execMirrorAckTimeout s) u).crp = s.crp := by simp [execMirrorAckTimeout]

@[simp] theorem execMirrorSyncComplete_crp (s u : State) : (ran (execMirrorSyncComplete s) u).crp = s.crp := by
  dsimp only [execMirrorSyncComplete, ran]
  (repeat' split) <;> simp

@[simp] theorem execHandoverAckTimeout_crp (s u : State) : (ran (execHandoverAckTimeout s) u).crp = s.crp := by
  dsimp only [execHandoverAckTimeout, ran]
  split <;> simp

@[simp] theorem execYield_crp (s u : State) : (ran (execYield s) u).crp = s.crp := by
  dsimp only [execYield, ran]
  (repeat' split) <;> simp

@[simp] theorem execResync_crp (s u : State) : (ran (execResync s) u).crp = s.crp := by simp [execResync]

/-! ### Recorder -/

@[simp] theorem fillHigh_crp (s : State) : (fillHigh s).crp = s.crp := by simp [fillHigh]

@[simp] theorem openSlot_crp (k : Nat) (s : State) : (openSlot k s).crp = s.crp := by simp [openSlot]

@[simp] theorem takeStaged_crp : ∀ (n : Nat) (s : State), (takeStaged n s).crp = s.crp
  | 0, _ => rfl
  | n + 1, s => by
    unfold takeStaged
    (repeat' split) <;> simp [takeStaged_crp n]

@[simp] theorem commitRecord_crp (s : State) : (commitRecord s).crp = s.crp := by
  unfold commitRecord
  (repeat' split) <;> simp

@[simp] theorem commitAll_crp : ∀ (n : Nat) (s : State), (commitAll n s).crp = s.crp
  | 0, _ => rfl
  | n + 1, s => by
    unfold commitAll
    split
    · rfl
    · simp [commitAll_crp n]

@[simp] theorem execRecordCommit_crp (s u : State) : (ran (execRecordCommit s) u).crp = s.crp := by simp [execRecordCommit]

@[simp] theorem execFoldWriteBack_crp (s u : State) : (ran (execFoldWriteBack s) u).crp = s.crp := by simp [execFoldWriteBack]

@[simp] theorem toLifeboat_crp (cause : Nat) (s : State) : (toLifeboat cause s).crp = s.crp := by simp [toLifeboat]

@[simp] theorem nvFailed_crp (s : State) : (nvFailed s).crp = s.crp := by
  unfold nvFailed
  split <;> simp

@[simp] theorem execLifeboat_crp (cause : Nat) (s u : State) : (ran (execLifeboat cause s) u).crp = s.crp := by simp [execLifeboat]

@[simp] theorem dropSlot_crp (k : Nat) (x : RecSlot) (s : State) : (dropSlot k x s).crp = s.crp := by
  unfold dropSlot
  dsimp only
  (repeat' split) <;> simp

@[simp] theorem copyEnds_crp (k phys worst : Nat) (bad : List Nat) (s : State) : (copyEnds k phys worst bad s).crp = s.crp := by
  simp [copyEnds]

@[simp] theorem execSegmentRetired_crp (phys : Nat) (x : SegCopy) (s u : State) : (ran (execSegmentRetired phys x s) u).crp = s.crp := by
  dsimp only [execSegmentRetired, ran]
  (repeat' split) <;> simp

@[simp] theorem recReject_crp (s : State) : (recReject s).crp = s.crp := by simp [recReject]

@[simp] theorem execRecReadSeq_crp (w : Word) (s u : State) : (ran (execRecReadSeq w s) u).crp = s.crp := by simp [execRecReadSeq]

@[simp] theorem recNonce_crp (b : List Byte) (s : State) : (recNonce b s).1.crp = s.crp := by simp [recNonce]

@[simp] theorem execRecNonce_crp (s u : State) : (ran (execRecNonce s) u).crp = s.crp := by simp [execRecNonce]

@[simp] theorem clearAll_crp (b : List Byte) (s : State) : (clearAll b s).crp = s.crp := by simp [clearAll]

@[simp] theorem recClear_crp (b : List Byte) (s : State) : (recClear b s).1.crp = s.crp := by simp [recClear]

@[simp] theorem execRecClear_crp (s u : State) : (ran (execRecClear s) u).crp = s.crp := by simp [execRecClear]

@[simp] theorem execCounterOverflow_crp (k : Nat) (s u : State) : (ran (execCounterOverflow k s) u).crp = s.crp := by
  simp [execCounterOverflow]

@[simp] theorem carryDropped_crp (k : Nat) (carry : Bool) (s : State) : (carryDropped k carry s).crp = s.crp := by simp [carryDropped]

@[simp] theorem execPrfHiWrite_crp (k : Nat) (w : CtrWrite) (s u : State) : (ran (execPrfHiWrite k w s) u).crp = s.crp := by
  simp [execPrfHiWrite]

@[simp] theorem execFreeze_crp (w : Word) (s u : State) : (ran (execFreeze w s) u).crp = s.crp := by simp [execFreeze]

@[simp] theorem execPrfPairCapture_crp (k : Nat) (s u : State) : (ran (execPrfPairCapture k s) u).crp = s.crp := by
  simp [execPrfPairCapture]

/-! ### Keys -/

@[simp] theorem keyReject_crp (s : State) : (keyReject s).crp = s.crp := by simp [keyReject]

@[simp] theorem keysChanged_crp (old s : State) : (keysChanged old s).crp = s.crp := by simp [keysChanged]

@[simp] theorem lcChange_crp (f : BitVec 128) (s : State) : (lcChange f s).crp = s.crp := by simp [lcChange]

@[simp] theorem lcTamper_crp (s : State) : (lcTamper s).crp = s.crp := by simp [lcTamper]

@[simp] theorem setLcRun_crp (target : Nat) (s : State) : (setLcRun target s).crp = s.crp := by
  unfold setLcRun
  split <;> simp

@[simp] theorem execProvision_crp (w : Word) (s u : State) : (ran (execProvision w s) u).crp = s.crp := by simp [execProvision]

@[simp] theorem execRetire_crp (w : Word) (s u : State) : (ran (execRetire w s) u).crp = s.crp := by simp [execRetire]

@[simp] theorem putKey_crp (k : Nat) (x : KeySlot) (s : State) : (putKey k x s).crp = s.crp := by simp [putKey]

@[simp] theorem invalidateBelow_crp (k : Nat) (s : State) : (invalidateBelow k s).crp = s.crp := by simp [invalidateBelow]

@[simp] theorem kuCommit_crp (b : List Byte) (s : State) : (kuCommit b s).crp = s.crp := by
  unfold kuCommit
  split <;> simp

@[simp] theorem keyUpdate_crp (b : List Byte) (s : State) : (keyUpdate b s).1.crp = s.crp := by simp [keyUpdate]

@[simp] theorem runKeyUpdate_crp (ok : Nat → Bool) (s u : State) : (ran (runKeyUpdate ok s) u).crp = s.crp := by simp [runKeyUpdate]

@[simp] theorem execKeyWrite_crp (s u : State) : (ran (execKeyWrite s) u).crp = s.crp := by simp [execKeyWrite]

@[simp] theorem execKeyDerive_crp (s u : State) : (ran (execKeyDerive s) u).crp = s.crp := by simp [execKeyDerive]

@[simp] theorem execKeyZeroise_crp (s u : State) : (ran (execKeyZeroise s) u).crp = s.crp := by simp [execKeyZeroise]

@[simp] theorem execSetLc_crp (s u : State) : (ran (execSetLc s) u).crp = s.crp := by simp [execSetLc]

@[simp] theorem execReplaceOwner_crp (s u : State) : (ran (execReplaceOwner s) u).crp = s.crp := by simp [execReplaceOwner]

@[simp] theorem attest_crp (b : List Byte) (s : State) : (attest b s).1.crp = s.crp := by simp [attest]

@[simp] theorem execAttest_crp (s u : State) : (ran (execAttest s) u).crp = s.crp := by simp [execAttest]

@[simp] theorem execKeyRamUe_crp (k : Nat) (s u : State) : (ran (execKeyRamUe k s) u).crp = s.crp := by simp [execKeyRamUe]

@[simp] theorem restoreKey_crp (k : Nat) (s : State) : (restoreKey k s).crp = s.crp := by simp [restoreKey]

@[simp] theorem execKeyRestore_crp (k : Nat) (s u : State) : (ran (execKeyRestore k s) u).crp = s.crp := by simp [execKeyRestore]

@[simp] theorem execVbatLow_crp (s u : State) : (ran (execVbatLow s) u).crp = s.crp := by simp [execVbatLow]

@[simp] theorem execDebugAccess_crp (tap : Nat) (s u : State) : (ran (execDebugAccess tap s) u).crp = s.crp := by simp [execDebugAccess]

@[simp] theorem execRtcCapture_crp (s u : State) : (ran (execRtcCapture s) u).crp = s.crp := by simp [execRtcCapture]

/-! ### Update -/

@[simp] theorem updReject_crp (s : State) : (updReject s).crp = s.crp := by simp [updReject]

@[simp] theorem otpReject_crp (s : State) : (otpReject s).crp = s.crp := by simp [otpReject]

@[simp] theorem execOtpProgram_crp (w : Word) (verified : Bool) (s u : State) : (ran (execOtpProgram w verified s) u).crp = s.crp := by
  simp [execOtpProgram]

@[simp] theorem openSession_crp (source len : Nat) (s : State) : (openSession source len s).crp = s.crp := by simp [openSession]

@[simp] theorem failSession_crp (s : State) : (failSession s).crp = s.crp := by simp [failSession]

@[simp] theorem commitSession_crp (i : Image) (s : State) : (commitSession i s).crp = s.crp := by simp [commitSession]

@[simp] theorem takeBlock_crp (x : Session) (k crc : Nat) (data : List Byte) (s : State) : (takeBlock x k crc data s).crp = s.crp := by
  simp [takeBlock]

@[simp] theorem commitOf_crp (x : Session) (s : State) : (commitOf x s).1.crp = s.crp := by simp [commitOf]

@[simp] theorem stageOpen_crp (b : List Byte) (s : State) : (stageOpen b s).1.crp = s.crp := by simp [stageOpen]

@[simp] theorem execStageOpen_crp (s u : State) : (ran (execStageOpen s) u).crp = s.crp := by simp [execStageOpen]

@[simp] theorem stageBlock_crp (data b : List Byte) (s : State) : (stageBlock data b s).1.crp = s.crp := by
  unfold stageBlock
  split <;> simp

@[simp] theorem execStageBlock_crp (data : List Byte) (s u : State) : (ran (execStageBlock data s) u).crp = s.crp := by
  simp [execStageBlock]

@[simp] theorem stageCommit_crp (b : List Byte) (s : State) : (stageCommit b s).1.crp = s.crp := by
  unfold stageCommit
  split <;> simp

@[simp] theorem execStageCommit_crp (n : Nat) (s u : State) : (ran (execStageCommit n s) u).crp = s.crp := by simp [execStageCommit]

@[simp] theorem stageAbort_crp (b : List Byte) (s : State) : (stageAbort b s).1.crp = s.crp := by
  unfold stageAbort
  split <;> simp

@[simp] theorem execStageAbort_crp (s u : State) : (ran (execStageAbort s) u).crp = s.crp := by simp [execStageAbort]

@[simp] theorem execSessionTimeout_crp (s u : State) : (ran (execSessionTimeout s) u).crp = s.crp := by
  dsimp only [execSessionTimeout, ran]
  split <;> simp

@[simp] theorem execPeerOpenRecord_modes (totalLen : Nat) (s u : State) :
    (ran (execPeerOpenRecord totalLen s) u).crp.mode = s.crp.mode ∧ (ran (execPeerOpenRecord totalLen s) u).crp.prev = s.crp.prev := by
  dsimp only [execPeerOpenRecord, ran]; (repeat' split) <;> simp

@[simp] theorem execPeerStageRecord_modes (block : Option Nat) (crc : Nat) (data : List Byte) (s u : State) :
    (ran (execPeerStageRecord block crc data s) u).crp.mode = s.crp.mode ∧
    (ran (execPeerStageRecord block crc data s) u).crp.prev = s.crp.prev := by
  dsimp only [execPeerStageRecord, ran]; (repeat' split) <;> simp

@[simp] theorem sendPush_crp (i : Image) (s : State) : (sendPush i s).crp = s.crp := by simp [sendPush]

@[simp] theorem execPushPeer_crp (w : Word) (s u : State) : (ran (execPushPeer w s) u).crp = s.crp := by
  dsimp only [execPushPeer, ran]
  (repeat' split) <;> simp

@[simp] theorem execConfirm_crp (w : Word) (s u : State) : (ran (execConfirm w s) u).crp = s.crp := by simp [execConfirm]

@[simp] theorem execRaiseFloor_crp (w : Word) (s u : State) : (ran (execRaiseFloor w s) u).crp = s.crp := by
  dsimp only [execRaiseFloor, ran]
  (repeat' split) <;> simp

@[simp] theorem execCfgSave_crp (w : Word) (s u : State) : (ran (execCfgSave w s) u).crp = s.crp := by simp [execCfgSave]

/-! ### Resets -/

@[simp] theorem clockFault_crp (k : Nat) (s : State) : (clockFault k s).crp = s.crp := by simp [clockFault]

@[simp] theorem clockRestored_crp (s : State) : (clockRestored s).crp = s.crp := by simp [clockRestored]

@[simp] theorem execZenithLock_modes (die : Nat) (s u : State) :
    (ran (execZenithLock die s) u).crp.mode = s.crp.mode ∧ (ran (execZenithLock die s) u).crp.prev = s.crp.prev := by
  dsimp only [execZenithLock, ran]; (repeat' split) <;> simp

@[simp] theorem execRefLost_modes (s u : State) :
    (ran (execRefLost s) u).crp.mode = s.crp.mode ∧ (ran (execRefLost s) u).crp.prev = s.crp.prev := by
  dsimp only [execRefLost, ran]; split <;> simp

@[simp] theorem execFlUnlock_modes (s u : State) :
    (ran (execFlUnlock s) u).crp.mode = s.crp.mode ∧ (ran (execFlUnlock s) u).crp.prev = s.crp.prev := by
  dsimp only [execFlUnlock, ran]; split <;> simp

@[simp] theorem execRefInRestored_modes (s u : State) :
    (ran (execRefInRestored s) u).crp.mode = s.crp.mode ∧ (ran (execRefInRestored s) u).crp.prev = s.crp.prev := by
  simp [execRefInRestored]

@[simp] theorem resetCrossings_modes (l : List Nat) (s : State) :
    (resetCrossings l s).crp.mode = s.crp.mode ∧ (resetCrossings l s).crp.prev = s.crp.prev := ⟨rfl, rfl⟩

@[simp] theorem resetIngress_crp (s : State) : (resetIngress s).crp = s.crp := by simp [resetIngress]

@[simp] theorem execBbUnlock_modes (s u : State) :
    (ran (execBbUnlock s) u).crp.mode = s.crp.mode ∧ (ran (execBbUnlock s) u).crp.prev = s.crp.prev := by
  dsimp only [execBbUnlock, ran]; split <;> simp

@[simp] theorem execBbRelock_modes (s u : State) :
    (ran (execBbRelock s) u).crp.mode = s.crp.mode ∧ (ran (execBbRelock s) u).crp.prev = s.crp.prev := by
  dsimp only [execBbRelock, ran]; split <;> simp

@[simp] theorem pllLost_modes (k : Nat) (s : State) :
    (pllLost k s).crp.mode = s.crp.mode ∧ (pllLost k s).crp.prev = s.crp.prev := by
  unfold pllLost; dsimp only; split <;> simp

@[simp] theorem execAuxUnlock_modes (k : Nat) (s u : State) :
    (ran (execAuxUnlock k s) u).crp.mode = s.crp.mode ∧ (ran (execAuxUnlock k s) u).crp.prev = s.crp.prev := by
  dsimp only [execAuxUnlock, ran]; (repeat' split) <;> simp

@[simp] theorem clearPlain_crp (lo hi : Nat) (s : State) : (clearPlain lo hi s).crp = s.crp := by simp [clearPlain]

@[simp] theorem emptyPort_modes (n : Nat) (s : State) :
    (emptyPort n s).crp.mode = s.crp.mode ∧ (emptyPort n s).crp.prev = s.crp.prev := by simp [emptyPort]

@[simp] theorem resetPort_modes (n : Nat) (s : State) :
    (resetPort n s).crp.mode = s.crp.mode ∧ (resetPort n s).crp.prev = s.crp.prev := by simp [resetPort]

theorem resetPairLink_outOfBoot {s : State} (h : OutOfBoot s.crp) : OutOfBoot (resetPairLink s).crp :=
  peerFail_outOfBoot (h.of_eq (by simp))

@[simp] theorem netSides_modes (old s : State) (n : Nat) :
    (netSides old s n).crp.mode = s.crp.mode ∧ (netSides old s n).crp.prev = s.crp.prev := by
  unfold netSides; dsimp only; (repeat' split) <;> simp

@[simp] theorem execCrpNetRst_modes (w : Word) (s u : State) :
    (ran (execCrpNetRst w s) u).crp.mode = s.crp.mode ∧ (ran (execCrpNetRst w s) u).crp.prev = s.crp.prev := by
  simp [execCrpNetRst]

@[simp] theorem fifoDrop_modes (k : Nat) (s : State) :
    (fifoDrop k s).crp.mode = s.crp.mode ∧ (fifoDrop k s).crp.prev = s.crp.prev := by
  unfold fifoDrop; dsimp only; (repeat' split) <;> simp

@[simp] theorem execFifoDrop_modes (k : Nat) (w : Word) (s u : State) :
    (ran (execFifoDrop k w s) u).crp.mode = s.crp.mode ∧ (ran (execFifoDrop k w s) u).crp.prev = s.crp.prev := by
  dsimp only [execFifoDrop, ran]; split <;> simp

@[simp] theorem execFifoUe_modes (k : Nat) (s u : State) :
    (ran (execFifoUe k s) u).crp.mode = s.crp.mode ∧ (ran (execFifoUe k s) u).crp.prev = s.crp.prev := by
  dsimp only [execFifoUe, ran]; (repeat' split) <;> simp

@[simp] theorem inResetSet_modes (b : Nat) (s : State) :
    (inResetSet b s).crp.mode = s.crp.mode ∧ (inResetSet b s).crp.prev = s.crp.prev := ⟨rfl, rfl⟩

@[simp] theorem inResetEnd_modes (b : Nat) (s : State) :
    (inResetEnd b s).crp.mode = s.crp.mode ∧ (inResetEnd b s).crp.prev = s.crp.prev := ⟨rfl, rfl⟩

@[simp] theorem requeueJobs_crp (e : Nat) (s : State) : (requeueJobs e s).crp = s.crp := by simp [requeueJobs]

@[simp] theorem resetFix_crp (s : State) : (resetFix s).crp = s.crp := by simp [resetFix]

@[simp] theorem resetChart_crp (s : State) : (resetChart s).crp = s.crp := by simp [resetChart]

@[simp] theorem execCorrReset_modes (w : Word) (s u : State) :
    (ran (execCorrReset w s) u).crp.mode = s.crp.mode ∧ (ran (execCorrReset w s) u).crp.prev = s.crp.prev :=
  foldl_modes (fun s r => by split <;> simp) _ s

@[simp] theorem execAcqReset_modes (w : Word) (s u : State) :
    (ran (execAcqReset w s) u).crp.mode = s.crp.mode ∧ (ran (execAcqReset w s) u).crp.prev = s.crp.prev := by
  dsimp only [execAcqReset, ran]; split <;> simp

@[simp] theorem execFixReset_modes (w : Word) (s u : State) :
    (ran (execFixReset w s) u).crp.mode = s.crp.mode ∧ (ran (execFixReset w s) u).crp.prev = s.crp.prev := by
  dsimp only [execFixReset, ran]; (repeat' split) <;> simp

@[simp] theorem execChartReset_modes (w : Word) (s u : State) :
    (ran (execChartReset w s) u).crp.mode = s.crp.mode ∧ (ran (execChartReset w s) u).crp.prev = s.crp.prev := by
  dsimp only [execChartReset, ran]; (repeat' split) <;> simp

theorem execNetReset_outOfBoot (w : Word) {s : State} (u : State) (h : OutOfBoot s.crp) : OutOfBoot (ran (execNetReset w s) u).crp := by
  dsimp only [execNetReset, ran]
  (repeat' split)
  · exact resetPairLink_outOfBoot (h.of_eq (by simp))
  · exact h.of_eq (by simp)
  · exact h

@[simp] theorem execRegionResetDone_modes (b : Nat) (s u : State) :
    (ran (execRegionResetDone b s) u).crp.mode = s.crp.mode ∧ (ran (execRegionResetDone b s) u).crp.prev = s.crp.prev := by
  dsimp only [execRegionResetDone, ran]; split <;> simp

theorem domainLost_outOfBoot (b : Nat) {s : State} (h : OutOfBoot s.crp) : OutOfBoot (domainLost b s).crp := by
  unfold domainLost
  (repeat' split)
  · exact h.of_eq (by simp)
  · exact h.of_eq (by simp)
  · exact h.of_eq (by simp)
  · exact resetPairLink_outOfBoot h
  · exact h

theorem powerDown_outOfBoot (b : Nat) {s : State} (h : OutOfBoot s.crp) : OutOfBoot (powerDown b s).crp :=
  (domainLost_outOfBoot b h).of_eq (by simp [powerDown])

theorem pwrBit_outOfBoot (old new : Word) {s : State} (b : Nat) (h : OutOfBoot s.crp) : OutOfBoot (pwrBit old new s b).crp := by
  unfold pwrBit; dsimp only
  (repeat' split)
  case isTrue.isFalse.isFalse.isFalse => exact powerDown_outOfBoot b h
  all_goals exact h.of_eq (by simp)

theorem execPowerRequest_outOfBoot (w : Word) {s : State} (u : State) (h : OutOfBoot s.crp) :
    OutOfBoot (ran (execPowerRequest w s) u).crp := by
  dsimp only [execPowerRequest, ran]
  exact List.foldlRecOn (motive := fun t : State => OutOfBoot t.crp) _ _ (by simpa using h) (fun t ht b _ => pwrBit_outOfBoot _ _ b ht)

@[simp] theorem domainReset_modes (k : Nat) (s : State) :
    (domainReset k s).crp.mode = s.crp.mode ∧ (domainReset k s).crp.prev = s.crp.prev := by
  unfold domainReset; (repeat' split) <;> simp

@[simp] theorem execPowerRampDone_modes (k : Nat) (s u : State) :
    (ran (execPowerRampDone k s) u).crp.mode = s.crp.mode ∧ (ran (execPowerRampDone k s) u).crp.prev = s.crp.prev := by
  dsimp only [execPowerRampDone, ran]; split <;> simp

/-! ### StartUp -/

theorem bootRuns_eq_false {s : State} (h : OutOfBoot s.crp) : bootRuns s = false := by simp [bootRuns, h.1]

@[simp] theorem resetPins_crp (claim : Bool) (high : List Nat) (s : State) : (resetPins claim high s).crp = s.crp := by simp [resetPins]

@[simp] theorem startKeys_crp (s : State) : (startKeys s).crp = s.crp := by simp [startKeys]

theorem deviceReset_rstCause_wake (cause wake : Nat) (s : State) :
    (deviceReset cause wake s).crp.rstCause = oneHot cause ∧ (deviceReset cause wake s).crp.wake = wake := by
  simp [deviceReset]

@[simp] theorem execBrownOutEnd_modes (s u : State) :
    (ran (execBrownOutEnd s) u).crp.mode = s.crp.mode ∧ (ran (execBrownOutEnd s) u).crp.prev = s.crp.prev := ⟨rfl, rfl⟩

/-! ### Modes -/

theorem execBootComplete_outOfBoot {s : State} (u : State) (h : OutOfBoot s.crp) : OutOfBoot (ran (execBootComplete s) u).crp := by
  simp [execBootComplete, bootRuns_eq_false h, h]

@[simp] theorem modeRefused_crp (s : State) : (modeRefused s).crp = s.crp := by simp [modeRefused]

theorem modeCmd_outOfBoot (t : Nat) (w : Word) (ok : Bool) {run : State → State} {s : State} (h : OutOfBoot s.crp)
    (hr : OutOfBoot (run s).crp) :
    OutOfBoot (modeCmd t w ok run s).crp := by
  unfold modeCmd
  (repeat' split)
  · exact h
  · exact hr
  · exact h.of_eq (by simp)

theorem leaveMaintain_outOfBoot (s : State) : OutOfBoot (leaveMaintain s).crp := by
  unfold leaveMaintain; split
  · exact startListening_outOfBoot s
  · exact servingMode_outOfBoot s

theorem execTargetSurvey_outOfBoot (w : Word) {s : State} (u : State) (h : OutOfBoot s.crp) :
    OutOfBoot (ran (execTargetSurvey w s) u).crp := by
  dsimp only [execTargetSurvey, ran]
  refine modeCmd_outOfBoot _ _ _ h ?_
  split
  · exact leaveMaintain_outOfBoot s
  · exact setMode_outOfBoot (by decide) (by decide) s

theorem execTargetServe_outOfBoot (w : Word) {s : State} (u : State) (h : OutOfBoot s.crp) :
    OutOfBoot (ran (execTargetServe w s) u).crp := by
  dsimp only [execTargetServe, ran]
  refine modeCmd_outOfBoot _ _ _ h ?_
  split
  · exact leaveMaintain_outOfBoot s
  · exact setMode_outOfBoot (by decide) (by decide) s

@[simp] theorem stopListening_crp (s : State) : (stopListening s).crp = s.crp := by simp [stopListening]

@[simp] theorem toMaintain_mode (s : State) : (toMaintain s).crp.mode = .maintain := by simp [toMaintain]
theorem toMaintain_outOfBoot (s : State) : OutOfBoot (toMaintain s).crp := by simp [OutOfBoot]

theorem execTargetMaintain_outOfBoot (w : Word) {s : State} (u : State) (h : OutOfBoot s.crp) :
    OutOfBoot (ran (execTargetMaintain w s) u).crp :=
  modeCmd_outOfBoot _ _ _ h (toMaintain_outOfBoot s)

theorem toSnapshot_outOfBoot (s : State) : OutOfBoot (toSnapshot s).crp := by simp [OutOfBoot, toSnapshot]

theorem execTargetSnapshot_outOfBoot (w : Word) {s : State} (u : State) (h : OutOfBoot s.crp) :
    OutOfBoot (ran (execTargetSnapshot w s) u).crp :=
  modeCmd_outOfBoot _ _ _ h (toSnapshot_outOfBoot s)

@[simp] theorem commitOpen_crp (s : State) : (commitOpen s).crp = s.crp := by simp [commitOpen]

@[simp] theorem toDormant_modes (s : State) : (toDormant s).crp.mode = s.crp.mode ∧ (toDormant s).crp.prev = s.crp.prev := by
  simp [toDormant]

theorem execTargetDormant_outOfBoot (w : Word) {s : State} (u : State) (h : OutOfBoot s.crp) :
    OutOfBoot (ran (execTargetDormant w s) u).crp :=
  modeCmd_outOfBoot _ _ _ h (h.of_eq (by simp))

@[simp] theorem snapPowerDown_modes (s : State) :
    (snapPowerDown s).crp.mode = s.crp.mode ∧ (snapPowerDown s).crp.prev = s.crp.prev := by
  simp [snapPowerDown]

@[simp] theorem execSnapshotPowerDown_modes (s u : State) :
    (ran (execSnapshotPowerDown s) u).crp.mode = s.crp.mode ∧ (ran (execSnapshotPowerDown s) u).crp.prev = s.crp.prev := by
  dsimp only [execSnapshotPowerDown, ran]; (repeat' split) <;> simp

theorem wakeStart_wake (s : State) : (wakeStart s).crp.wake = 2 ∨ (wakeStart s).crp.wake = 3 := by
  simp only [wakeStart, startKeys_crp, setCrp_crp]
  split <;> simp

@[simp] theorem pmuOn_modes (s : State) : (pmuOn s).crp.mode = s.crp.mode ∧ (pmuOn s).crp.prev = s.crp.prev := by
  simp [pmuOn]

@[simp] theorem execWakeN_modes (s u : State) :
    (ran (execWakeN s) u).crp.mode = s.crp.mode ∧ (ran (execWakeN s) u).crp.prev = s.crp.prev := by
  dsimp only [execWakeN, ran]; split <;> simp

@[simp] theorem execRtcAlarm_modes (s u : State) :
    (ran (execRtcAlarm s) u).crp.mode = s.crp.mode ∧ (ran (execRtcAlarm s) u).crp.prev = s.crp.prev := by
  dsimp only [execRtcAlarm, ran]; split <;> simp

theorem execMainRailsLost_outOfBoot {s : State} (u : State) (h : OutOfBoot s.crp) : OutOfBoot (ran (execMainRailsLost s) u).crp := by
  dsimp only [execMainRailsLost, ran]
  split
  · exact h
  · simp [OutOfBoot]

@[simp] theorem zeroiseRam_crp (s : State) : (zeroiseRam s).crp = s.crp := by simp [zeroiseRam]

@[simp] theorem abortKeyOps_crp (s : State) : (abortKeyOps s).crp = s.crp := by simp [abortKeyOps]

@[simp] theorem latchTamper_crp (src : Nat) (s : State) : (latchTamper src s).crp = s.crp := by simp [latchTamper]

@[simp] theorem tamperRecord_crp (s : State) : (tamperRecord s).crp = s.crp := by simp [tamperRecord]
@[simp] theorem tamperNote_crp (s : State) : (tamperNote s).crp = s.crp := by unfold tamperNote; split <;> simp

theorem tamperRespond_outOfBoot {s : State} (h : OutOfBoot s.crp) (hs : s.crp.mode ≠ .snapshot) : OutOfBoot (tamperRespond s).crp := by
  unfold tamperRespond
  split
  case h_1 => exact h.of_eq (by simp)
  case h_2 e => exact absurd e hs
  case h_3 e => exact absurd e h.1
  case h_4 => exact h.of_eq (by simp)
  all_goals exact (toMaintain_outOfBoot s).of_eq (by simp)

/-! ### RegisterRead -/

@[simp] theorem execLowWordCapture_crp (a : Nat) (s u : State) : (ran (execLowWordCapture a s) u).crp = s.crp := by
  dsimp only [execLowWordCapture, ran]
  split <;> simp

/-! ### RegisterWrite -/

@[simp] theorem blockReject_crp (a : Nat) (s : State) : (blockReject a s).crp = s.crp := by
  unfold blockReject
  split <;> simp

@[simp] theorem place_crp (d : RegDesc) (a : Nat) (v : Word) (s : State) : (place d a v s).crp = s.crp := by simp [place]

@[simp] theorem plainWrite_crp (d : RegDesc) (a : Nat) (w : Word) (s : State) : (plainWrite d a w s).crp = s.crp := by simp [plainWrite]

@[simp] theorem checkedWrite_crp (ok : Bool) (d : RegDesc) (a : Nat) (w : Word) (s : State) : (checkedWrite ok d a w s).crp = s.crp := by
  simp [checkedWrite]

@[simp] theorem stageLow_crp (d : RegDesc) (a : Nat) (w : Word) (s : State) : (stageLow d a w s).crp = s.crp := by simp [stageLow]

@[simp] theorem writeGlb_modes (d : RegDesc) (a : Nat) (w : Word) (s : State) :
    (writeGlb d a w s).crp.mode = s.crp.mode ∧ (writeGlb d a w s).crp.prev = s.crp.prev := by
  unfold writeGlb; split <;> simp

theorem writeMode_outOfBoot (w : Word) {s : State} (h : OutOfBoot s.crp) : OutOfBoot (writeMode w s).crp := by
  unfold writeMode
  split
  · exact execTargetDormant_outOfBoot w s h
  · exact execTargetSurvey_outOfBoot w s h
  · exact execTargetServe_outOfBoot w s h
  · exact execTargetSnapshot_outOfBoot w s h
  · exact execTargetMaintain_outOfBoot w s h
  · exact h.of_eq (by simp)

theorem writeCrp_outOfBoot (d : RegDesc) (n a : Nat) (w : Word) {s : State} (hd : d.base ≠ Reg.CRP_RST_CMD) (h : OutOfBoot s.crp) :
    OutOfBoot (writeCrp d n a w s).crp := by
  unfold writeCrp
  rw [if_neg hd]
  split
  · simpa using h
  split
  · exact h.of_eq (by simp)
  split
  · exact h.of_eq (by simp)
  split
  · exact writeMode_outOfBoot w h
  split
  · exact execPowerRequest_outOfBoot w s h
  split
  · exact h.of_eq (by simp)
  · simpa using h

@[simp] theorem writePps_crp (d : RegDesc) (n a : Nat) (w : Word) (s : State) : (writePps d n a w s).crp = s.crp := by simp [writePps]

@[simp] theorem writeTpCfg_crp (d : RegDesc) (n a : Nat) (w : Word) (s : State) : (writeTpCfg d n a w s).crp = s.crp := by simp [writeTpCfg]

@[simp] theorem writeTp_crp (d : RegDesc) (n a : Nat) (w : Word) (s : State) : (writeTp d n a w s).crp = s.crp := by simp [writeTp]

theorem writeTim_outOfBoot (d : RegDesc) (n a : Nat) (w : Word) {s : State} (h : OutOfBoot s.crp) : OutOfBoot (writeTim d n a w s).crp := by
  by_cases hb : d.base = Reg.TIM_RETURN
  · have e : writeTim d n a w s = ran (execTimReturn w s) s := by
      unfold writeTim; rw [hb]; rfl
    exact e ▸ execTimReturn_outOfBoot w s h
  · unfold writeTim
    rw [if_neg hb]
    simpa using h

@[simp] theorem writeSysref_crp (d : RegDesc) (a : Nat) (w : Word) (s : State) : (writeSysref d a w s).crp = s.crp := by simp [writeSysref]

@[simp] theorem relRelease_crp (n : Nat) (s : State) : (relRelease n s).crp = s.crp := by simp [relRelease]

@[simp] theorem writeIng_crp (d : RegDesc) (n a : Nat) (w : Word) (s : State) : (writeIng d n a w s).crp = s.crp := by simp [writeIng]

@[simp] theorem writeCtxCmd_crp (ch : Nat) (w : Word) (s : State) : (writeCtxCmd ch w s).crp = s.crp := by simp [writeCtxCmd]

@[simp] theorem writeCor_crp (d : RegDesc) (n a : Nat) (w : Word) (s : State) : (writeCor d n a w s).crp = s.crp := by simp [writeCor]

@[simp] theorem writeAcqCode_crp (w : Word) (s : State) : (writeAcqCode w s).crp = s.crp := by simp [writeAcqCode]

@[simp] theorem writeCapCmd_crp (w : Word) (s : State) : (writeCapCmd w s).crp = s.crp := by simp [writeCapCmd]

@[simp] theorem writeAcq_crp (d : RegDesc) (n a : Nat) (w : Word) (s : State) : (writeAcq d n a w s).crp = s.crp := by simp [writeAcq]

@[simp] theorem writeCoord_crp (d : RegDesc) (a : Nat) (w : Word) (s : State) : (writeCoord d a w s).crp = s.crp := by simp [writeCoord]

@[simp] theorem writeSurvey_crp (w : Word) (s : State) : (writeSurvey w s).crp = s.crp := by simp [writeSurvey]

@[simp] theorem writeAntCmd_crp (n : Nat) (w : Word) (s : State) : (writeAntCmd n w s).crp = s.crp := by simp [writeAntCmd]

@[simp] theorem writeRef_crp (d : RegDesc) (n a : Nat) (w : Word) (s : State) : (writeRef d n a w s).crp = s.crp := by simp [writeRef]

@[simp] theorem writePst_crp (d : RegDesc) (a : Nat) (w : Word) (s : State) : (writePst d a w s).crp = s.crp := by simp [writePst]

@[simp] theorem writeChtCmd_crp (w : Word) (s : State) : (writeChtCmd w s).crp = s.crp := by simp [writeChtCmd]

@[simp] theorem writeGraphAddr_crp (a : Nat) (w : Word) (s : State) : (writeGraphAddr a w s).crp = s.crp := by simp [writeGraphAddr]

@[simp] theorem writeCht_crp (d : RegDesc) (a : Nat) (w : Word) (s : State) : (writeCht d a w s).crp = s.crp := by simp [writeCht]

@[simp] theorem writeDsp_crp (d : RegDesc) (a : Nat) (w : Word) (s : State) : (writeDsp d a w s).crp = s.crp := by simp [writeDsp]

@[simp] theorem writeNfl_crp (d : RegDesc) (a : Nat) (w : Word) (s : State) : (writeNfl d a w s).crp = s.crp := by simp [writeNfl]

@[simp] theorem writeNet_crp (d : RegDesc) (n a : Nat) (w : Word) (s : State) : (writeNet d n a w s).crp = s.crp := by simp [writeNet]

@[simp] theorem writePaiCmd_crp (w : Word) (s : State) : (writePaiCmd w s).crp = s.crp := by simp [writePaiCmd]

@[simp] theorem writePai_crp (d : RegDesc) (a : Nat) (w : Word) (s : State) : (writePai d a w s).crp = s.crp := by simp [writePai]

@[simp] theorem writeRingCfg_crp (r : Nat) (w : Word) (s : State) : (writeRingCfg r w s).crp = s.crp := by simp [writeRingCfg]

@[simp] theorem writeRingReg_crp (d : RegDesc) (r a : Nat) (w : Word) (s : State) : (writeRingReg d r a w s).crp = s.crp := by
  simp [writeRingReg]

@[simp] theorem writeMsix_crp (d : RegDesc) (v : Nat) (w : Word) (s : State) : (writeMsix d v w s).crp = s.crp := by simp [writeMsix]

@[simp] theorem writeHif_crp (d : RegDesc) (n a : Nat) (w : Word) (s : State) : (writeHif d n a w s).crp = s.crp := by simp [writeHif]

@[simp] theorem writeKey_crp (d : RegDesc) (a : Nat) (w : Word) (s : State) : (writeKey d a w s).crp = s.crp := by simp [writeKey]

@[simp] theorem writeRec_crp (d : RegDesc) (a : Nat) (w : Word) (s : State) : (writeRec d a w s).crp = s.crp := by simp [writeRec]

@[simp] theorem writePrf_crp (d : RegDesc) (k a : Nat) (w : Word) (x : WriteCycle) (s : State) : (writePrf d k a w x s).crp = s.crp := by
  simp [writePrf]

@[simp] theorem writeUpdCmd_crp (w : Word) (s : State) : (writeUpdCmd w s).crp = s.crp := by simp [writeUpdCmd]

@[simp] theorem writeOtpCmd_crp (w : Word) (s : State) : (writeOtpCmd w s).crp = s.crp := by simp [writeOtpCmd]

@[simp] theorem writeUpd_crp (d : RegDesc) (a : Nat) (w : Word) (s : State) : (writeUpd d a w s).crp = s.crp := by simp [writeUpd]

@[simp] theorem redeliver_crp (g : Nat) (w : Word) (s : State) : (redeliver g w s).crp = s.crp := by simp [redeliver]

theorem writeReg_outOfBoot (d : RegDesc) (a : Nat) (w : Word) (x : WriteCycle) {s : State} (hd : a / 2 ^ 20 = 1 → d.base ≠ Reg.CRP_RST_CMD)
    (h : OutOfBoot s.crp) : OutOfBoot (writeReg d a w x s).crp := by
  unfold writeReg
  extract_lets n again w'
  split
  case h_1 => exact h.of_eq (by simp)
  case h_2 e => exact writeCrp_outOfBoot d n a w' (hd e) h
  case h_3 => exact writeTim_outOfBoot d n a w' h
  all_goals simpa using h

theorem find_of_regAt {s : State} {a : Nat} {d : RegDesc} (h : regAt s a = some d) : RegMap.find a = some d := by
  unfold regAt at h
  cases hf : RegMap.find a with
  | none => simp [hf] at h
  | some e =>
    simp only [hf, Option.ite_none_right_eq_some] at h
    exact h.2
theorem find_of_reached {s : State} {a : Nat} {d : RegDesc} (h : reached s a = some d) : RegMap.find a = some d := by
  unfold reached at h
  cases hr : regAt s a with
  | none => simp [hr] at h
  | some e =>
    simp only [hr, Option.ite_none_right_eq_some] at h
    exact find_of_regAt (h.2.2 ▸ hr)
theorem find_crpRstCmd {a : Nat} {d : RegDesc} (ha : a / 2 ^ 20 = 1) (hd : RegMap.find a = some d) (hb : d.base = Reg.CRP_RST_CMD) :
    a = Reg.CRP_RST_CMD := by
  have hblock : RegMap.block a = RegMap.crp := by
    simp only [RegMap.block, Nat.shiftRight_eq_div_pow, ha]
  unfold RegMap.find at hd
  rw [hblock] at hd
  have hmem := List.mem_of_find?_eq_some hd
  have hholds := List.find?_some hd
  have hshape : ∀ d ∈ RegMap.crp, d.base = Reg.CRP_RST_CMD → d.count = 1 ∧ d.stride = 4 ∧ d.step = 4 := by decide
  obtain ⟨hc, hs, hp⟩ := hshape d hmem hb
  simp only [RegMap.holds, hb, hc, hs, hp, decide_eq_true_eq] at hholds
  omega
theorem execRegisterWrite_outOfBoot (a : Nat) (w : Word) (x : WriteCycle) {s : State} (u : State) (ha : a ≠ Reg.CRP_RST_CMD)
    (h : OutOfBoot s.crp) :
    OutOfBoot (ran (execRegisterWrite a w x s) u).crp := by
  unfold execRegisterWrite
  rw [ran_next]
  split
  · exact h
  split
  · simpa using h
  split
  · simpa using h
  split
  · exact h
  case h_2 d hd =>
    split
    · simpa using h
    · exact writeReg_outOfBoot d a w x (fun e hb => ha (find_crpRstCmd e (find_of_reached hd) hb)) h

end Sys2Proof.Machine
end

section
/-! SUPPORT. Every way into BOOT (R396, R410, R411): a device reset, which records its cause, or a wake from SNAPSHOT. -/
namespace Sys2Proof.Machine
open Sys2Proof.Safety

/-! ### Device resets -/

/-- Of a device reset from `s`, state `t` holds the cause: POWER_WAKE and WAKE 1 from DORMANT, else one of the four others and WAKE 0
(R396, R410). -/
def ResetRecorded (s t : State) : Prop :=
  (s.crp.mode = .dormant ∧ t.crp.rstCause = 16 ∧ t.crp.wake = 1) ∨ (t.crp.rstCause ∈ ([1, 2, 4, 8] : List Word) ∧ t.crp.wake = 0)

theorem deviceReset_recorded {cause : Nat} (hc : cause < 4) (s t : State) : ResetRecorded s (deviceReset cause 0 t) := by
  obtain ⟨hcause, hwake⟩ := deviceReset_rstCause_wake cause 0 t
  refine .inr ⟨?_, hwake⟩
  rw [hcause]
  interval_cases cause <;> decide

theorem execPowerOn_recorded (primary : Bool) (bootSel : Nat) (x : Supply) (s u : State) :
    ResetRecorded s (ran (execPowerOn primary bootSel x s) u) := by
  unfold execPowerOn
  rw [ran_next]
  split
  case isTrue h =>
    obtain ⟨hcause, hwake⟩ := deviceReset_rstCause_wake 4 1 s
    exact .inl ⟨h.1, hcause, hwake⟩
  case isFalse => exact deviceReset_recorded (by decide) s _

theorem execResetN_outOfBoot_or_recorded (lowNs : Nat) {s : State} (u : State) (h : OutOfBoot s.crp) :
    OutOfBoot (ran (execResetN lowNs s) u).crp ∨ ResetRecorded s (ran (execResetN lowNs s) u) := by
  unfold execResetN
  rw [ran_next]
  (repeat' split)
  · exact .inl h
  · exact .inr (deviceReset_recorded (by decide) s s)
  · exact .inr (deviceReset_recorded (by decide) s _)
  · exact .inl h

theorem execBrownOut_outOfBoot_or_recorded (lowNs : Nat) {s : State} (u : State) (h : OutOfBoot s.crp) :
    OutOfBoot (ran (execBrownOut lowNs s) u).crp ∨ ResetRecorded s (ran (execBrownOut lowNs s) u) := by
  unfold execBrownOut
  rw [ran_next]
  split
  · exact .inl h
  · exact .inr (deviceReset_recorded (cause := 3) (by decide) s s)

theorem execDeviceReset_outOfBoot_or_recorded (w : Word) {s : State} (u : State) (h : OutOfBoot s.crp) :
    OutOfBoot (ran (execDeviceReset w s) u).crp ∨ ResetRecorded s (ran (execDeviceReset w s) u) := by
  unfold execDeviceReset
  rw [ran_next]
  (repeat' split)
  · exact .inl h
  · exact .inr (deviceReset_recorded (by decide) s s)
  · exact .inl (by simpa using h)

/-- Of the resets that CRP_RST_CMD commands, that of the device alone enters BOOT (R397). -/
theorem writeRst_outOfBoot_or_recorded (w : Word) {s : State} (h : OutOfBoot s.crp) :
    OutOfBoot (writeRst w s).crp ∨ ResetRecorded s (writeRst w s) := by
  unfold writeRst
  (repeat' split)
  · exact execDeviceReset_outOfBoot_or_recorded w s h
  · exact .inl (by simpa using h)
  · exact .inl (execNetReset_outOfBoot w _ (h.of_eq (by simp)))

/-- A write that reaches CRP_RST_CMD is what `writeRst` makes of the word less the W1C bits that hardware sets. -/
theorem writeReg_crpRstCmd {s : State} {d : RegDesc} (hd : reached s Reg.CRP_RST_CMD = some d) (w : Word) (x : WriteCycle) :
    writeReg d Reg.CRP_RST_CMD w x s = writeRst (w &&& ~~~(x.set &&& accMask d .w1c)) s := by
  have hbase : d.base = Reg.CRP_RST_CMD := by
    have h : (RegMap.find Reg.CRP_RST_CMD).map (·.base) = some Reg.CRP_RST_CMD := by decide
    simpa [find_of_reached hd] using h
  show writeCrp d _ _ _ s = _
  unfold writeCrp
  rw [hbase]
  rfl

theorem execRegisterWrite_outOfBoot_or_recorded (a : Nat) (w : Word) (x : WriteCycle) {s : State} (u : State) (h : OutOfBoot s.crp) :
    OutOfBoot (ran (execRegisterWrite a w x s) u).crp ∨
    (a = Reg.CRP_RST_CMD ∧ ResetRecorded s (ran (execRegisterWrite a w x s) u)) := by
  by_cases ha : a = Reg.CRP_RST_CMD
  case neg => exact .inl (execRegisterWrite_outOfBoot a w x u ha h)
  subst ha
  unfold execRegisterWrite
  rw [ran_next]
  (repeat' split)
  case h_2.isFalse d hd _ =>
    rw [writeReg_crpRstCmd hd]
    exact (writeRst_outOfBoot_or_recorded _ h).imp_right (⟨rfl, ·⟩)
  all_goals exact .inl (by simpa using h)

/-! ### Wakes from SNAPSHOT -/

theorem execSnapshotWake_outOfBoot_or_wake {s : State} (u : State) (h : OutOfBoot s.crp) :
    OutOfBoot (ran (execSnapshotWake s) u).crp ∨
    (s.crp.mode = .snapshot ∧ ((ran (execSnapshotWake s) u).crp.wake = 2 ∨ (ran (execSnapshotWake s) u).crp.wake = 3)) := by
  unfold execSnapshotWake
  rw [ran_next]
  split
  case isTrue hm => exact .inr ⟨hm, wakeStart_wake s⟩
  case isFalse => exact .inl h

/-- In SNAPSHOT a tamper event wakes the device (Table 15.10). -/
theorem tamperRespond_wake {s : State} (h : s.crp.mode = .snapshot) :
    (tamperRespond s).crp.wake = 2 ∨ (tamperRespond s).crp.wake = 3 := by
  unfold tamperRespond
  rw [h]
  exact wakeStart_wake _

theorem execTamperEvent_outOfBoot_or_wake (src : Nat) (under : Bool) {s : State} (u : State) (h : OutOfBoot s.crp) :
    OutOfBoot (ran (execTamperEvent src under s) u).crp ∨
    (s.crp.mode = .snapshot ∧
      ((ran (execTamperEvent src under s) u).crp.wake = 2 ∨ (ran (execTamperEvent src under s) u).crp.wake = 3)) := by
  unfold execTamperEvent
  rw [ran_next]
  split
  · exact .inl h
  extract_lets t
  have hcrp : (stickyIf (decide (t.crp.mode ≠ .dormant)) Reg.KEY_STICKY 0 t).crp = s.crp := by simp [t]
  by_cases hm : s.crp.mode = .snapshot
  · exact .inr ⟨hm, tamperRespond_wake (hcrp ▸ hm)⟩
  · exact .inl (tamperRespond_outOfBoot (hcrp ▸ h) (hcrp ▸ hm))

/-! ### Every command -/

/-- A command that neither resets the device nor wakes it from SNAPSHOT does not enter BOOT. The commands named change the mode, or can;
every other leaves it, as its own lemma says. -/
theorem exec_outOfBoot (c : Instr) {s : State} (u : State) (hr : ¬ resetsDevice c) (hw : ¬ wakesSnapshot c) (h : OutOfBoot s.crp) :
    OutOfBoot (ran (exec c s) u).crp := by
  cases c
  case powerOn | resetN | brownOut | deviceReset => exact absurd trivial hr
  case snapshotWake | tamperEvent => exact absurd trivial hw
  case registerWrite a w x => exact execRegisterWrite_outOfBoot a w x u hr h
  case timReturn w => exact execTimReturn_outOfBoot w u h
  case holdoverEntry => exact execHoldoverEntry_outOfBoot u h
  case sigTimeout => exact execSigTimeout_outOfBoot u h
  case stepInstant => exact execStepInstant_outOfBoot u h
  case heartbeatReceive f crcOk => exact execHeartbeatReceive_outOfBoot f crcOk u h
  case pathAFail => exact execPathAFail_outOfBoot u h
  case pathBFail => exact execPathBFail_outOfBoot u h
  case claimSample high => exact execClaimSample_outOfBoot high u h
  case peerWaitExpiry => exact execPeerWaitExpiry_outOfBoot u h
  case mirrorRecord n r => exact execMirrorRecord_outOfBoot n r u h
  case mirrorAck n => exact execMirrorAck_outOfBoot n u h
  case bootComplete => exact execBootComplete_outOfBoot u h
  case netReset w => exact execNetReset_outOfBoot w u h
  case powerRequest w => exact execPowerRequest_outOfBoot w u h
  case targetDormant w => exact execTargetDormant_outOfBoot w u h
  case targetSurvey w => exact execTargetSurvey_outOfBoot w u h
  case targetServe w => exact execTargetServe_outOfBoot w u h
  case targetSnapshot w => exact execTargetSnapshot_outOfBoot w u h
  case targetMaintain w => exact execTargetMaintain_outOfBoot w u h
  case mainRailsLost => exact execMainRailsLost_outOfBoot u h
  all_goals exact h.of_eq (by simp [exec])

/-- R410: a command leaves the device out of BOOT, or it is a device reset that records its cause, or a wake from SNAPSHOT. -/
theorem exec_outOfBoot_or_reset_or_wake (c : Instr) {s : State} (u : State) (h : OutOfBoot s.crp) :
    OutOfBoot (ran (exec c s) u).crp ∨ (resetsDevice c ∧ ResetRecorded s (ran (exec c s) u)) ∨
    (wakesSnapshot c ∧ s.crp.mode = .snapshot ∧ ((ran (exec c s) u).crp.wake = 2 ∨ (ran (exec c s) u).crp.wake = 3)) := by
  cases c
  case powerOn p b x => exact .inr (.inl ⟨trivial, execPowerOn_recorded p b x s u⟩)
  case resetN n => exact (execResetN_outOfBoot_or_recorded n u h).imp_right (.inl ⟨trivial, ·⟩)
  case brownOut n => exact (execBrownOut_outOfBoot_or_recorded n u h).imp_right (.inl ⟨trivial, ·⟩)
  case deviceReset w => exact (execDeviceReset_outOfBoot_or_recorded w u h).imp_right (.inl ⟨trivial, ·⟩)
  case registerWrite a w x => exact (execRegisterWrite_outOfBoot_or_recorded a w x u h).imp_right .inl
  case snapshotWake => exact (execSnapshotWake_outOfBoot_or_wake u h).imp_right (.inr ⟨trivial, ·⟩)
  case tamperEvent src under => exact (execTamperEvent_outOfBoot_or_wake src under u h).imp_right (.inr ⟨trivial, ·⟩)
  all_goals exact .inl (exec_outOfBoot _ u not_false not_false h)

/-- Settles O5: every command but a reset or a wake keeps the device out of BOOT, and those two record their reason. -/
theorem onlyResetsAndWakesEnterBoot : Obligations.OnlyResetsAndWakesEnterBoot := by
  unfold Obligations.OnlyResetsAndWakesEnterBoot
  intro c s t hinv hmode hexec hboot
  have ht : ran (exec c s) s = t := by rw [hexec, ran_next]
  have hcases := exec_outOfBoot_or_reset_or_wake c s (s := s) ⟨hmode, hinv.1⟩
  rw [ht] at hcases
  rcases hcases with hout | ⟨hc, hwake | hcause⟩ | hsnap
  · exact absurd hboot hout.1
  · exact .inl ⟨hc, hwake⟩
  · exact .inr (.inl ⟨hc, hcause⟩)
  · exact .inr (.inr hsnap)

end Sys2Proof.Machine
end

section
/-! SUPPORT. CRP_MODE_CMD (R404, R406): a write of it in STANDBY and in MAINTAIN, and the unit that listens for its peer (R337). -/
namespace Sys2Proof.Machine
open Sys2Proof.Safety

/-! ### A host write of CRP_MODE_CMD -/

/-- What the register map says of CRP_MODE_CMD: TARGET and KEY, both write only. -/
def modeCmdDesc : RegDesc := ⟨Reg.CRP_MODE_CMD, 4, 1, 1, 4, 1, 0, none, [⟨2, 0, .wo, 0, 7⟩, ⟨31, 24, .wo, 0, 255⟩]⟩

theorem find_crpModeCmd : RegMap.find Reg.CRP_MODE_CMD = some modeCmdDesc := by decide

theorem reached_crpModeCmd {s : State} (h : hostUp s = true) : reached s Reg.CRP_MODE_CMD = some modeCmdDesc := by
  have hreg : regAt s Reg.CRP_MODE_CMD = some modeCmdDesc := by
    unfold regAt
    rw [find_crpModeCmd]
    cases hg : s.grade <;> decide +revert
  unfold reached
  rw [if_pos h, hreg]
  rfl

/-- The register has no W1C bits, so that no bit of the word is lost to hardware. -/
theorem writeReg_crpModeCmd (w : Word) (x : WriteCycle) (s : State) :
    writeReg modeCmdDesc Reg.CRP_MODE_CMD w x s = writeMode w s := by
  have hw : w &&& ~~~(x.set &&& accMask modeCmdDesc .w1c) = w := by
    have hmask : accMask modeCmdDesc .w1c = 0 := by decide
    simp only [hmask, BitVec.ofNat_eq_ofNat, BitVec.and_zero, BitVec.not_zero, BitVec.and_allOnes]
  show writeCrp modeCmdDesc _ _ (w &&& ~~~(x.set &&& accMask modeCmdDesc .w1c)) s = writeMode w s
  rw [hw]
  rfl

theorem exec_write_crpModeCmd {s : State} (w : Word) {x : WriteCycle} (hx : x.be = 15) (h : hostUp s = true) :
    exec (.registerWrite Reg.CRP_MODE_CMD w x) s = .next (writeMode w s) := by
  have halign : ¬ (x.be % 16 ≠ 15 ∨ Reg.CRP_MODE_CMD % 4 ≠ 0) := by simp [hx, Reg.CRP_MODE_CMD]
  have hbell : doorbellOf Reg.CRP_MODE_CMD = none := by decide
  have hmirror : isMirroredReg Reg.CRP_MODE_CMD = false := by decide
  show execRegisterWrite _ _ _ _ = _
  unfold execRegisterWrite
  rw [h, if_neg (by decide), if_neg halign, hbell]
  simp only [reached_crpModeCmd h, hmirror, writeReg_crpModeCmd, Bool.false_and, Bool.false_eq_true, if_false]

/-! ### Mode commands accepted and refused (Table 14.2) -/

/-- A target that the mode does not allow changes no mode. -/
theorem modeCmd_notAllowed (t : Nat) (w : Word) (run : State → State) (s : State) : (modeCmd t w false run s).crp = s.crp := by
  unfold modeCmd
  split <;> simp

theorem modeCmd_wrongKey (t : Nat) {w : Word} (hk : bits w 31 24 ≠ 0x4D) (ok : Bool) (run : State → State) (s : State) :
    (modeCmd t w ok run s).crp = s.crp := by
  unfold modeCmd
  split <;> simp [hk]

theorem modeCmd_runs {t : Nat} {w : Word} (ht : bits w 2 0 = t) (hk : bits w 31 24 = 0x4D) (run : State → State) (s : State) :
    modeCmd t w true run s = run s := by
  simp [modeCmd, ht, hk]

/-- R406. -/
theorem writeMode_of_standby (w : Word) {s : State} (h : s.crp.mode = .standby) :
    (writeMode w s).crp.mode = if bits w 2 0 = 7 ∧ bits w 31 24 = 0x4D then .maintain else .standby := by
  unfold writeMode
  split
  case h_1 e => simp [e, execTargetDormant, modeCmd_notAllowed, h]
  case h_2 e => simp [e, execTargetSurvey, modeCmd_notAllowed, maintainEnds, h]
  case h_3 e => simp [e, execTargetServe, modeCmd_notAllowed, maintainEnds, h]
  case h_4 e => simp [e, execTargetSnapshot, modeCmd_notAllowed, modeIn, h]
  case h_5 e =>
    by_cases hk : bits w 31 24 = 0x4D
    · simp [e, execTargetMaintain, modeCmd_runs, modeIn, h, hk]
    · simp [e, execTargetMaintain, modeCmd_wrongKey _ hk, h, hk]
  case h_6 e => simp [show bits w 2 0 ≠ 7 from e, h]

/-- TARGET SURVEY and TARGET SERVE make a unit of a pair that is in MAINTAIN listen. -/
theorem writeMode_of_maintain {w : Word} {s : State} (hm : s.crp.mode = .maintain) (hr : s.crp.recovery = false) (hp : s.pai.pair = true)
    (ht : bits w 2 0 = 2 ∨ bits w 2 0 = 3) (hk : bits w 31 24 = 0x4D) : writeMode w s = startListening s := by
  have hends : maintainEnds s = true := by simp [maintainEnds, hm, hr]
  have hleave : leaveMaintain s = startListening s := by simp [leaveMaintain, hp]
  unfold writeMode
  rcases ht with e | e
  · simp [e, execTargetSurvey, hends, modeCmd_runs e hk, hm, hleave]
  · simp [e, execTargetServe, hends, modeCmd_runs e hk, hm, hleave]

/-! ### Readiness and listening -/

theorem paiReady_of_maintain {s : State} (h : s.crp.mode = .maintain) : paiReady s = false := by simp [paiReady, h]

@[simp] theorem mismatchCheck_pai_tim (old s : State) : (mismatchCheck old s).pai = s.pai ∧ (mismatchCheck old s).tim = s.tim := by
  unfold mismatchCheck
  split <;> simp

@[simp] theorem mismatchesShown_pai_tim (s : State) : (mismatchesShown s).pai = s.pai ∧ (mismatchesShown s).tim = s.tim :=
  mismatchCheck_pai_tim _ s

@[simp] theorem claimRelease_tim (s : State) : (claimRelease s).tim = s.tim := by
  unfold claimRelease
  split <;> simp

theorem toStandby_active_tim (s : State) : (toStandby s).pai.active = false ∧ (toStandby s).tim = s.tim := by
  simp only [toStandby, mismatchesShown_pai_tim, setNfl_keeps, setAcq_keeps, setCht_keeps, setDsp_keeps]
  split <;> simp

/-- R337: the unit is not active, and PEER_WAIT runs from now. -/
theorem startListening_pai (s : State) : (startListening s).pai.active = false ∧ (startListening s).pai.starting = true ∧
    (startListening s).pai.startAt = s.tim.now := by
  simp [startListening, toStandby_active_tim s]

/-- Settles O8: the write is `writeMode`, which in STANDBY enters MAINTAIN or nothing, and in MAINTAIN starts to listen. -/
theorem standbyAcceptsMaintainOnly : Obligations.StandbyAcceptsMaintainOnly := by
  unfold Obligations.StandbyAcceptsMaintainOnly
  refine ⟨fun s w x hx hup hmode => ?_, fun s => paiReady_of_maintain, fun s w x hx hup hmode hrec hpair htarget hkey => ?_⟩
  · exact ⟨_, exec_write_crpModeCmd w hx hup, writeMode_of_standby w hmode⟩
  · refine ⟨_, exec_write_crpModeCmd w hx hup, ?_⟩
    rw [writeMode_of_maintain hmode hrec hpair htarget hkey]
    exact ⟨startListening_mode s, startListening_pai s⟩

end Sys2Proof.Machine
end

section
/-! SUPPORT. The life-cycle state (R433): `popCount` counts the set bits of a range of OTP bits 128 to 255. -/
namespace Sys2Proof.Machine

theorem popCount_eq_countP_testBit (n v : Nat) : popCount n v = (List.range n).countP (fun i => v.testBit i) := by
  induction n generalizing v with
  | zero => rfl
  | succ n ih =>
    have hhead : v % 2 = if v.testBit 0 then 1 else 0 := by
      rcases Nat.mod_two_eq_zero_or_one v with h | h <;> simp [Nat.testBit_zero, h]
    have htail : (fun i => (v / 2).testBit i) = (fun i => v.testBit i) ∘ Nat.succ :=
      funext fun i => (Nat.testBit_succ v i).symm
    calc popCount (n + 1) v = v % 2 + popCount n (v / 2) := rfl
      _ = (if v.testBit 0 then 1 else 0) + (List.range n).countP ((fun i => v.testBit i) ∘ Nat.succ) := by
        rw [ih, htail, hhead]
      _ = (List.range (n + 1)).countP (fun i => v.testBit i) := by
        rw [List.range_succ_eq_map, List.countP_cons, List.countP_map, Nat.add_comm]

/-- The set bits among the `n` from bit `lo` of the field on. -/
theorem popCount_toNat_shiftRight (n lo : Nat) {w : Nat} (f : BitVec w) :
    popCount n (f.toNat >>> lo) = (List.range n).countP (fun i => f.getLsbD (lo + i)) := by
  simp only [popCount_eq_countP_testBit, Nat.testBit_shiftRight, BitVec.testBit_toNat]

/-- Settles O6: the rows are tested in the table's order, and row 2 compares the numbers of quarantine entries and exits. -/
theorem lifeCycleFromOtp : Obligations.LifeCycleFromOtp := by
  unfold Obligations.LifeCycleFromOtp
  intro s
  unfold lc lcCode
  rw [popCount_toNat_shiftRight, popCount_toNat_shiftRight]

end Sys2Proof.Machine
end

section
/-! SUPPORT. Chained counters (R477): what `ctrAddOne` leaves in each counter, and `ctrAdd` on the even counter of a pair. -/
namespace Sys2Proof.Machine
open Sys2Proof.Safety

@[simp] theorem ioCtr_set_same (io : Io) (k : Nat) (x : PCtr) : ioCtr (ioSetCtr io k x) k = x := by
  simp [ioCtr, ioSetCtr]

theorem ioCtr_set_ne (io : Io) (x : PCtr) {k i : Nat} (n : i ≠ k) : ioCtr (ioSetCtr io k x) i = ioCtr io i := by
  simp [ioCtr, ioSetCtr, Tab.get_put_ne _ _ _ n]

theorem chained_iff (s : State) : chained s = true ↔
    s.crp.mode = .serve ∨ s.crp.mode = .holdover ∨ s.crp.mode = .survey ∨ s.crp.mode = .standby := by
  unfold chained
  cases s.crp.mode <;> simp

theorem even_of_mem_ctrsOf {io : Io} {ev k : Nat} (h : k ∈ ctrsOf true ev io) : k % 2 = 0 := by
  simp only [ctrsOf, List.mem_map, List.mem_filter, Bool.and_eq_true] at h
  obtain ⟨e, ⟨_, _, hnotOdd⟩, rfl⟩ := h
  simpa using hnotOdd

/-- The overflow bit and the interrupt are not in the table of counters. -/
theorem ctrAddOne_ctr (c : Bool) (k n : Nat) (io : Io) : (ctrAddOne c k n io).1.ctr =
    (ioSetCtr io k { ioCtr io k with count := BitVec.ofNat 48 ((ioCtr io k).count.toNat + n) }).ctr := by
  unfold ctrAddOne
  dsimp only
  (repeat' split) <;> rfl

theorem ioCtr_ctrAddOne_same (c : Bool) (k n : Nat) (io : Io) :
    (ioCtr (ctrAddOne c k n io).1 k).count.toNat = ((ioCtr io k).count.toNat + n) % 2 ^ 48 := by
  rw [ioCtr, ctrAddOne_ctr, ← ioCtr, ioCtr_set_same, BitVec.toNat_ofNat]

theorem ioCtr_ctrAddOne_ne (c : Bool) (n : Nat) (io : Io) {k i : Nat} (h : i ≠ k) :
    ioCtr (ctrAddOne c k n io).1 i = ioCtr io i := by
  rw [ioCtr, ctrAddOne_ctr, ← ioCtr, ioCtr_set_ne _ _ h]

theorem ctrAddOne_carry_of_even {k : Nat} (h : k % 2 = 0) (n : Nat) (io : Io) :
    (ctrAddOne true k n io).2.1 = ((ioCtr io k).count.toNat + n) / 2 ^ 48 := by
  simp only [ctrAddOne, h]
  split
  next hz => exact hz.symm
  next => rfl

theorem ctrAddOne_ovf_of_odd {k : Nat} (h : k % 2 = 1) {n : Nat} {io : Io}
    (hwrap : 2 ^ 48 ≤ (ioCtr io k).count.toNat + n) :
    bitAt (ioStk (ctrAddOne true k n io).1 (Reg.PRF_OVF (k / 32))) (k % 32) = true := by
  have hcarry : ((ioCtr io k).count.toNat + n) / 2 ^ 48 ≠ 0 := by omega
  simp only [ctrAddOne, if_neg hcarry, h]
  simp [bitAt_or, bitAt_oneHot (Nat.mod_lt k (by decide : 0 < 32))]

/-- The even counter of a chained pair hands its carry to the odd one. -/
theorem ctrAdd_of_carry {io : Io} {j n q : Nat} (hq : ((ioCtr io (2 * j)).count.toNat + n) / 2 ^ 48 = q) (hne : q ≠ 0) :
    (ctrAdd true (2 * j) n io).1 = (ctrAddOne true (2 * j + 1) q (ctrAddOne true (2 * j) n io).1).1 := by
  simp only [ctrAdd, ctrAddOne_carry_of_even (Nat.mul_mod_right 2 j), hq, hne, if_false]

theorem ctrAdd_of_no_carry {io : Io} {j n : Nat} (hq : ((ioCtr io (2 * j)).count.toNat + n) / 2 ^ 48 = 0) :
    (ctrAdd true (2 * j) n io).1 = (ctrAddOne true (2 * j) n io).1 := by
  simp only [ctrAdd, ctrAddOne_carry_of_even (Nat.mul_mod_right 2 j), hq, if_true]

theorem pairCount_ctrAdd (io : Io) (j n : Nat) :
    pairCount (ctrAdd true (2 * j) n io).1 j = (pairCount io j + n) % 2 ^ 96 := by
  have hodd : 2 * j + 1 ≠ 2 * j := by omega
  have hlt := (ioCtr io (2 * j + 1)).count.isLt
  unfold pairCount
  by_cases hq : ((ioCtr io (2 * j)).count.toNat + n) / 2 ^ 48 = 0
  · rw [ctrAdd_of_no_carry hq, ioCtr_ctrAddOne_same, ioCtr_ctrAddOne_ne _ _ _ hodd]
    omega
  · rw [ctrAdd_of_carry rfl hq, ioCtr_ctrAddOne_ne _ _ _ hodd.symm, ioCtr_ctrAddOne_same, ioCtr_ctrAddOne_same,
      ioCtr_ctrAddOne_ne _ _ _ hodd]
    omega

/-- A pair that passes 96 bits carries out of its even counter, since its odd one holds less than 2⁴⁸. -/
theorem ctrAdd_ovf_of_pair_wraps {io : Io} {j n : Nat} (h : 2 ^ 96 ≤ pairCount io j + n) :
    bitAt (ioStk (ctrAdd true (2 * j) n io).1 (Reg.PRF_OVF ((2 * j + 1) / 32))) ((2 * j + 1) % 32) = true := by
  have hlt := (ioCtr io (2 * j + 1)).count.isLt
  unfold pairCount at h
  have hcarry : ((ioCtr io (2 * j)).count.toNat + n) / 2 ^ 48 ≠ 0 := by omega
  rw [ctrAdd_of_carry rfl hcarry]
  apply ctrAddOne_ovf_of_odd (by omega)
  rw [ioCtr_ctrAddOne_ne _ _ _ (by omega)]
  omega

/-- Settles O7: the even counter counts modulo 2⁴⁸ and the odd one counts its quotient, which are the digits of the sum. -/
theorem chainedPairsCountAsOne : Obligations.ChainedPairsCountAsOne := by
  unfold Obligations.ChainedPairsCountAsOne
  exact ⟨chained_iff, fun _ _ _ => even_of_mem_ctrsOf, pairCount_ctrAdd, fun _ _ _ _ => ctrAdd_ovf_of_pair_wraps⟩

end Sys2Proof.Machine
end

section
namespace Sys2Proof.Machine
open Sys2Proof.Safety

/-- Every command answers a next state. -/
theorem exec_next (c : Instr) (s : State) : ∃ t, exec c s = .next t := by
  cases c <;> exact ⟨_, rfl⟩

theorem step_cons (s : State) (c : Instr) (rest : List Instr) :
    step { s with pending := c :: rest } = exec c { s with pending := rest } := rfl

theorem step_nil {s : State} (h : s.pending = []) : step s = .next (tick s) := by simp [step, h]
end Sys2Proof.Machine
end
section
open Sys2Proof Sys2Proof.Machine Sys2Proof.Safety
/-- Settles O1: a step is the match on the queue, and `exec` answers a next state for every command. -/
theorem stepRunsTheFrontCommand : Obligations.StepRunsTheFrontCommand :=
  ⟨step_cons, fun _ => step_nil, fun s c => exec_next c s⟩

/-- Settles O2: the invariant of the state after power-on part by part, the rest by evaluation. -/
theorem resetState : Obligations.ResetState :=
  ⟨⟨nofun, by decide, fun u => Nat.zero_le 4, fun _ _ hv => absurd hv List.not_mem_nil, rfl, rfl⟩, rfl, rfl, rfl, rfl, rfl, rfl, rfl, rfl, rfl, rfl, rfl, rfl,
    fun _ => rfl, fun _ => rfl⟩
end

section
/-! SUPPORT. Frames. `Scope` says what an operation may change, and `seen F s` is the state seen without what `F` allows to change: the frame
of an operation `f` is one equation, `seen F (f s) = seen F s`, by which the frames of operations that follow one another rewrite. -/
namespace Sys2Proof.Machine
open Sys2Proof.Safety

/-- What an operation may change: parts of the state, plain registers, sticky words, the bits of OTP (`otp`), and the signal data (`signal`):
pending dumps, accumulators and code memories. -/
structure Scope where
  parts : List Part
  regs : List Fam := []
  stks : List Fam := []
  otp : Bool := false
  signal : Bool := false

/-- The one-time programmable bits and generations. -/
def otpOf (u : Upd) : BitVec 128 × BitVec 1024 × List (BitVec 1024) := (u.lcField, u.floorBits, u.gens)

@[simp] theorem otpOf_eq (u : Upd) : otpOf u = (u.lcField, u.floorBits, u.gens) := by simp only [otpOf]

/-- The pending dumps of each unit, the accumulators of each context, and the code memory of the correlators. -/
def corData (c : Cor) : (Nat → List (Nat × Nat × List Byte)) × (Nat → List Int) × Tab Word :=
  (fun u => (Tab.get unitDef c.unit u).dumps, fun ch => (Tab.get ctxDef c.ctx ch).acc, c.code)

@[simp] theorem corData_eq (c : Cor) :
    corData c = (fun u => (Tab.get unitDef c.unit u).dumps, fun ch => (Tab.get ctxDef c.ctx ch).acc, c.code) := by simp only [corData]

/-- Contexts changed alike, but for their accumulators. -/
theorem acc_get_map {g : Ctx → Ctx} (hg : ∀ c, (g c).acc = c.acc) (t : Tab Ctx) (ch : Nat) :
    (Tab.get ctxDef (t.map fun e => (e.1, g e.2)) ch).acc = (Tab.get ctxDef t ch).acc := by
  induction t with
  | nil => rfl
  | cons e t ih => by_cases he : e.1 = ch <;> simp [Tab.get, he, hg, ih]

/-- Two states that differ at most in what `F` allows to change. -/
structure Same (F : Scope) (s t : State) : Prop where
  pending : t.pending = s.pending
  parts : onlyTouches F.parts s t
  grade : t.grade = s.grade
  regs : ∀ a, among F.regs a = false → rd t a = rd s a ∧ shadow t a = shadow s a
  stks : ∀ a, among F.stks a = false → stk t a = stk s a
  otp : F.otp = false → otpOf t.upd = otpOf s.upd
  cor : F.signal = false → corData t.cor = corData s.cor
  acq : F.signal = false → t.acq.code = s.acq.code

theorem Part.same_refl (s : State) (p : Part) : p.same s s := by cases p <;> rfl
theorem Part.same_symm {s t : State} {p : Part} (h : p.same s t) : p.same t s := by cases p <;> exact Eq.symm h
theorem Part.same_trans {s t u : State} {p : Part} (h : p.same s t) (g : p.same t u) : p.same s u := by
  cases p <;> exact Eq.trans g h

theorem Same.refl (F : Scope) (s : State) : Same F s s :=
  ⟨rfl, fun _ _ => Part.same_refl s _, rfl, fun _ _ => ⟨rfl, rfl⟩, fun _ _ => rfl, fun _ => rfl, fun _ => rfl, fun _ => rfl⟩
theorem Same.symm {F : Scope} {s t : State} (h : Same F s t) : Same F t s :=
  ⟨h.pending.symm, fun p hp => Part.same_symm (h.parts p hp), h.grade.symm, fun a ha => ⟨(h.regs a ha).1.symm, (h.regs a ha).2.symm⟩,
    fun a ha => (h.stks a ha).symm, fun ho => (h.otp ho).symm, fun ho => (h.cor ho).symm, fun ho => (h.acq ho).symm⟩
theorem Same.trans {F : Scope} {s t u : State} (h : Same F s t) (g : Same F t u) : Same F s u :=
  ⟨g.pending.trans h.pending, fun p hp => Part.same_trans (h.parts p hp) (g.parts p hp), g.grade.trans h.grade,
    fun a ha => ⟨(g.regs a ha).1.trans (h.regs a ha).1, (g.regs a ha).2.trans (h.regs a ha).2⟩,
    fun a ha => (g.stks a ha).trans (h.stks a ha), fun ho => (g.otp ho).trans (h.otp ho),
    fun ho => (g.cor ho).trans (h.cor ho), fun ho => (g.acq ho).trans (h.acq ho)⟩

/-- The states that differ at most in what `F` allows to change, as one. -/
def Same.setoid (F : Scope) : Setoid State := ⟨Same F, Same.refl F, Same.symm, Same.trans⟩

/-- A state, seen without what `F` allows to change. -/
def seen (F : Scope) (s : State) : Quotient (Same.setoid F) := Quotient.mk _ s

theorem seen_eq_iff {F : Scope} {s t : State} : seen F t = seen F s ↔ Same F s t :=
  ⟨fun h => Same.symm (Quotient.exact h), fun h => Quotient.sound (s := Same.setoid F) h.symm⟩

/-! ### Scopes within scopes -/

/-- Every address of `f` belongs to `L`. -/
def Inside (L : List Fam) (f : Fam) : Prop := ∀ a, f a = true → among L a = true

/-- Every address of the families of `G` belongs to `L`. -/
def Covers (L G : List Fam) : Prop := ∀ a, among G a = true → among L a = true

@[simp] theorem among_nil (a : Nat) : among [] a = false := rfl
@[simp] theorem among_cons (f : Fam) (L : List Fam) (a : Nat) : among (f :: L) a = (f a || among L a) := rfl
@[simp] theorem among_append (L M : List Fam) (a : Nat) : among (L ++ M) a = (among L a || among M a) := List.any_append
@[simp] theorem between_apply (lo hi a : Nat) : between lo hi a = (decide (lo ≤ a) && decide (a < hi)) := rfl
@[simp] theorem one_apply (x a : Nat) : one x a = decide (a = x) := rfl
@[simp] theorem words_apply {k n : Nat} (h : k < n) (f : Nat → Nat) : words f n (f k) = true := by
  simp only [words, List.any_eq_true, List.mem_range, decide_eq_true_eq]
  exact ⟨k, h, rfl⟩

@[simp] theorem covers_nil (L : List Fam) : Covers L [] := fun _ h => absurd h (by simp)
@[simp] theorem covers_cons (L G : List Fam) (f : Fam) : Covers L (f :: G) ↔ Inside L f ∧ Covers L G := by
  simp only [Covers, Inside, among_cons, Bool.or_eq_true]
  exact ⟨fun h => ⟨fun a ha => h a (.inl ha), fun a ha => h a (.inr ha)⟩, fun h a ha => ha.elim (h.1 a) (h.2 a)⟩
@[simp] theorem covers_append (L G H : List Fam) : Covers L (G ++ H) ↔ Covers L G ∧ Covers L H := by
  simp only [Covers, among_append, Bool.or_eq_true]
  exact ⟨fun h => ⟨fun a ha => h a (.inl ha), fun a ha => h a (.inr ha)⟩, fun h a ha => ha.elim (h.1 a) (h.2 a)⟩
theorem inside_of_mem {L : List Fam} {f : Fam} (h : f ∈ L) : Inside L f := fun _ ha => List.any_eq_true.2 ⟨f, h, ha⟩
theorem inside_one (L : List Fam) (x : Nat) : Inside L (one x) ↔ among L x = true := by simp [Inside]
@[simp] theorem one_inj (x y : Nat) : one x = one y ↔ x = y :=
  ⟨fun h => by simpa [one] using congrFun h x, fun h => h ▸ rfl⟩
/-- So `simp` looks for the family itself. -/
@[simp] theorem inside_iff (L : List Fam) (f : Fam) : Inside L f ↔ f ∈ L ∨ ∀ a, f a = true → among L a = true :=
  ⟨.inr, fun h => h.elim inside_of_mem id⟩
@[simp] theorem among_raised (a : Nat) :
    among raised a = (decide (a = Reg.HIF_STICKY) || decide (a = Reg.PRF_STICKY) || words Reg.PRF_OVF 8 a) := by
  simp [raised, Bool.or_assoc]
@[simp] theorem mem_raised (f : Fam) : f ∈ raised ↔ f = one Reg.HIF_STICKY ∨ f = one Reg.PRF_STICKY ∨ f = words Reg.PRF_OVF 8 := by
  simp [raised]
@[simp] theorem covers_raised (L : List Fam) : Covers L raised ↔
    among L Reg.HIF_STICKY = true ∧ among L Reg.PRF_STICKY = true ∧ Inside L (words Reg.PRF_OVF 8) := by
  simp only [raised, covers_cons, covers_nil, inside_one, and_true]

@[simp] theorem netCnt_apply {k : Nat} (h : k < 8) (n : Nat) : netCnt n (Reg.NET_CNT n k) = true := words_apply h _
@[simp] theorem pstCnt_apply {k : Nat} (h : k < 8) : pstCnt (Reg.PST_CNT k) = true := words_apply h _
@[simp] theorem chtCnt_apply {k : Nat} (h : k < 12) : chtCnt (Reg.CHT_CNT k) = true := words_apply h _
@[simp] theorem dspCnt_apply {k : Nat} (h : k < 8) : dspCnt (Reg.DSP_CNT k) = true := words_apply h _
@[simp] theorem tskCnt_apply {k : Nat} (h : k < 8) : tskCnt (Reg.TSK_CNT k) = true := words_apply h _
@[simp] theorem nflCnt_apply {k : Nat} (h : k < 8) : nflCnt (Reg.NFL_CNT k) = true := words_apply h _
@[simp] theorem paiCnt_apply {k : Nat} (h : k < 8) : paiCnt (Reg.PAI_CNT k) = true := words_apply h _
@[simp] theorem recCnt_apply {k : Nat} (h : k < 8) : recCnt (Reg.REC_CNT k) = true := words_apply h _
theorem inside_netCnt {L : List Fam} {n : Nat} (h : n < 4) (hL : allNetCnt ∈ L) : Inside L (netCnt n) := fun a ha =>
  inside_of_mem hL a (List.any_eq_true.2 ⟨n, List.mem_range.2 h, ha⟩)
theorem ofSets_le_all (sets : BitVec 8) (a : Nat) (h : ofSets sets a = true) : ofSets 0xFF a = true := by
  unfold ofSets inSets at *
  split at h
  next k _ =>
    have hk : k < 8 := BitVec.lt_of_getLsbD h
    interval_cases k <;> rfl
  next => exact absurd h (by decide)
theorem inside_ofSets {L : List Fam} {sets : BitVec 8} (hL : ofSets 0xFF ∈ L) : Inside L (ofSets sets) := fun a ha =>
  inside_of_mem hL a (ofSets_le_all sets a ha)
@[simp] theorem allBut_nil (a : Nat) : allBut [] a = true := by simp [allBut]
@[simp] theorem netSticky_apply {n : Nat} (h : n < 4) : netSticky (Reg.NET_STICKY n) = true := words_apply h _

/-- Every part of `p` is one of `q`. -/
def PartsIn (p q : List Part) : Prop := ∀ x ∈ p, x ∈ q
@[simp] theorem partsIn_nil (q : List Part) : PartsIn [] q := fun _ h => absurd h List.not_mem_nil
@[simp] theorem partsIn_cons (x : Part) (p q : List Part) : PartsIn (x :: p) q ↔ x ∈ q ∧ PartsIn p q := List.forall_mem_cons
@[simp] theorem partsIn_append (p p' q : List Part) : PartsIn (p ++ p') q ↔ PartsIn p q ∧ PartsIn p' q := List.forall_mem_append

/-- What `G` allows to change, `F` allows too. -/
structure Scope.Le (G F : Scope) : Prop where
  parts : PartsIn G.parts F.parts
  regs : Covers F.regs G.regs
  stks : Covers F.stks G.stks
  otp : G.otp = true → F.otp = true
  signal : G.signal = true → F.signal = true

theorem Scope.Le.refl (F : Scope) : F.Le F := ⟨fun _ h => h, fun _ h => h, fun _ h => h, id, id⟩

theorem Scope.Le.trans {F G H : Scope} (h : F.Le G) (g : G.Le H) : F.Le H :=
  ⟨fun x hx => g.parts x (h.parts x hx), fun a ha => g.regs a (h.regs a ha), fun a ha => g.stks a (h.stks a ha), fun ho => g.otp (h.otp ho),
    fun ho => g.signal (h.signal ho)⟩

theorem Same.mono {G F : Scope} {s t : State} (h : G.Le F) (g : Same G s t) : Same F s t where
  pending := g.pending
  parts p hp := g.parts p fun hp' => hp (h.parts _ hp')
  grade := g.grade
  regs a ha := g.regs a (by by_contra hn; simp [h.regs a (by simpa using hn)] at ha)
  stks a ha := g.stks a (by by_contra hn; simp [h.stks a (by simpa using hn)] at ha)
  otp ho := g.otp (by by_contra hn; simp [h.otp (by simpa using hn)] at ho)
  cor ho := g.cor (by by_contra hn; simp [h.signal (by simpa using hn)] at ho)
  acq ho := g.acq (by by_contra hn; simp [h.signal (by simpa using hn)] at ho)

theorem seen_mono {G F : Scope} {s t : State} (h : G.Le F) (g : seen G t = seen G s) : seen F t = seen F s :=
  seen_eq_iff.2 ((seen_eq_iff.1 g).mono h)

@[simp] theorem le_mk (p q : List Part) (r r' k k' : List Fam) (o o' g g' : Bool) :
    Scope.Le ⟨p, r, k, o, g⟩ ⟨q, r', k', o', g'⟩ ↔ PartsIn p q ∧ Covers r' r ∧ Covers k' k ∧ (o = true → o' = true) ∧ (g = true → g' = true) :=
  ⟨fun h => ⟨h.parts, h.regs, h.stks, h.otp, h.signal⟩, fun ⟨hp, hr, hk, ho, hg⟩ => ⟨hp, hr, hk, ho, hg⟩⟩

/-! ### Through the model's control structure -/

@[simp] theorem seen_ite (F : Scope) (c : Prop) [Decidable c] (a b : State) :
    seen F (if c then a else b) = if c then seen F a else seen F b := apply_ite (seen F) c a b
@[simp] theorem seen_fst_ite {α : Type} (F : Scope) (c : Prop) [Decidable c] (a b : State × α) :
    seen F (if c then a else b).1 = if c then seen F a.1 else seen F b.1 := apply_ite (seen F ·.1) c a b
@[simp] theorem seen_snd_ite {α : Type} (F : Scope) (c : Prop) [Decidable c] (a b : α × State) :
    seen F (if c then a else b).2 = if c then seen F a.2 else seen F b.2 := apply_ite (seen F ·.2) c a b
@[simp] theorem ran_ite (c : Prop) [Decidable c] (a b : Out) (u : State) :
    ran (if c then a else b) u = if c then ran a u else ran b u := apply_ite (ran · u) c a b
@[simp] theorem seen_ran_ite (F : Scope) (c : Prop) [Decidable c] (a b : Out) (u : State) :
    seen F (ran (if c then a else b) u) = if c then seen F (ran a u) else seen F (ran b u) := apply_ite (seen F <| ran · u) c a b
@[simp] theorem seen_ran_next (F : Scope) (t u : State) : seen F (ran (.next t) u) = seen F t := by simp only [ran_next]

/-- A fold of steps that each stay within `F` stays within it. -/
@[simp] theorem seen_foldl {α : Type} {F : Scope} {f : State → α → State} (h : ∀ s a, seen F (f s a) = seen F s) (l : List α) (s : State) :
    seen F (l.foldl f s) = seen F s :=
  List.foldlRecOn (motive := fun t : State => seen F t = seen F s) l f rfl fun t ht a _ => (h t a).trans ht

theorem seen_foldl_mem {α : Type} {F : Scope} {f : State → α → State} {l : List α} (h : ∀ a ∈ l, ∀ s, seen F (f s a) = seen F s) (s : State) :
    seen F (l.foldl f s) = seen F s :=
  List.foldlRecOn (motive := fun t : State => seen F t = seen F s) l f rfl fun t ht a ha => (h a ha t).trans ht

/-- A fold over the first `n` numbers. -/
theorem seen_foldl_range {F : Scope} {f : State → Nat → State} {n : Nat} (h : ∀ k, k < n → ∀ s, seen F (f s k) = seen F s) (s : State) :
    seen F ((List.range n).foldl f s) = seen F s :=
  seen_foldl_mem (fun k hk => h k (List.mem_range.1 hk)) s

/-! ### Updates of the parts -/

section
variable {F : Scope} {s : State}

/-- An update of one part that holds no register, no sticky word, no OTP and no signal data. -/
theorem seen_of_part {t : State} {p : Part} (hp : p ∈ F.parts) (hs : ∀ q : Part, q ≠ p → q.same s t) (hpend : t.pending = s.pending)
    (hgrade : t.grade = s.grade) (hbank : t.bank = s.bank) (hio : t.io = s.io) (hupd : t.upd = s.upd)
    (hcor : t.cor = s.cor) (hacq : t.acq = s.acq) : seen F t = seen F s :=
  seen_eq_iff.2 ⟨hpend, fun q hq => hs q fun e => hq (e ▸ hp), hgrade, fun a _ => by simp [rd, shadow, hbank], fun a _ => by simp [stk, hio],
    fun _ => by rw [hupd], fun _ => by rw [hcor], fun _ => by rw [hacq]⟩

@[simp] theorem seen_with_recorder (h : Part.recorder ∈ F.parts) (x : Rec) : seen F { s with recorder := x } = seen F s :=
  seen_of_part h (by rintro (_ | _) hq <;> first | rfl | exact absurd rfl hq) rfl rfl rfl rfl rfl rfl rfl
@[simp] theorem seen_with_crp (h : Part.crp ∈ F.parts) (x : Crp) : seen F { s with crp := x } = seen F s :=
  seen_of_part h (by rintro (_ | _) hq <;> first | rfl | exact absurd rfl hq) rfl rfl rfl rfl rfl rfl rfl
@[simp] theorem seen_with_ing (h : Part.ing ∈ F.parts) (x : Ing) : seen F { s with ing := x } = seen F s :=
  seen_of_part h (by rintro (_ | _) hq <;> first | rfl | exact absurd rfl hq) rfl rfl rfl rfl rfl rfl rfl
@[simp] theorem seen_with_cor (h : Part.cor ∈ F.parts) (x : Cor) (hs : corData x = corData s.cor ∨ F.signal = true) :
    seen F { s with cor := x } = seen F s :=
  seen_eq_iff.2 ⟨rfl, fun q hq => by cases q <;> first | rfl | exact absurd h hq, rfl, fun _ _ => ⟨rfl, rfl⟩, fun _ _ => rfl,
    fun _ => rfl, fun hn => hs.resolve_right (by simp [hn]), fun _ => rfl⟩
@[simp] theorem seen_with_acq (h : Part.acq ∈ F.parts) (x : Acq) (hs : x.code = s.acq.code ∨ F.signal = true) :
    seen F { s with acq := x } = seen F s :=
  seen_eq_iff.2 ⟨rfl, fun q hq => by cases q <;> first | rfl | exact absurd h hq, rfl, fun _ _ => ⟨rfl, rfl⟩, fun _ _ => rfl,
    fun _ => rfl, fun _ => rfl, fun hn => hs.resolve_right (by simp [hn])⟩
@[simp] theorem seen_with_tim (h : Part.tim ∈ F.parts) (x : Tim) : seen F { s with tim := x } = seen F s :=
  seen_of_part h (by rintro (_ | _) hq <;> first | rfl | exact absurd rfl hq) rfl rfl rfl rfl rfl rfl rfl
@[simp] theorem seen_with_ref (h : Part.ref ∈ F.parts) (x : Ref) : seen F { s with ref := x } = seen F s :=
  seen_of_part h (by rintro (_ | _) hq <;> first | rfl | exact absurd rfl hq) rfl rfl rfl rfl rfl rfl rfl
@[simp] theorem seen_with_net (h : Part.net ∈ F.parts) (x : Tab NetPort) : seen F { s with net := x } = seen F s :=
  seen_of_part h (by rintro (_ | _) hq <;> first | rfl | exact absurd rfl hq) rfl rfl rfl rfl rfl rfl rfl
@[simp] theorem seen_with_mach (h : Part.mach ∈ F.parts) (x : Tab Mach) : seen F { s with mach := x } = seen F s :=
  seen_of_part h (by rintro (_ | _) hq <;> first | rfl | exact absurd rfl hq) rfl rfl rfl rfl rfl rfl rfl
@[simp] theorem seen_with_pst (h : Part.pst ∈ F.parts) (x : Pst) : seen F { s with pst := x } = seen F s :=
  seen_of_part h (by rintro (_ | _) hq <;> first | rfl | exact absurd rfl hq) rfl rfl rfl rfl rfl rfl rfl
@[simp] theorem seen_with_cht (h : Part.cht ∈ F.parts) (x : Cht) : seen F { s with cht := x } = seen F s :=
  seen_of_part h (by rintro (_ | _) hq <;> first | rfl | exact absurd rfl hq) rfl rfl rfl rfl rfl rfl rfl
@[simp] theorem seen_with_dsp (h : Part.dsp ∈ F.parts) (x : Dsp) : seen F { s with dsp := x } = seen F s :=
  seen_of_part h (by rintro (_ | _) hq <;> first | rfl | exact absurd rfl hq) rfl rfl rfl rfl rfl rfl rfl
@[simp] theorem seen_with_tsk (h : Part.tsk ∈ F.parts) (x : Tsk) : seen F { s with tsk := x } = seen F s :=
  seen_of_part h (by rintro (_ | _) hq <;> first | rfl | exact absurd rfl hq) rfl rfl rfl rfl rfl rfl rfl
@[simp] theorem seen_with_nfl (h : Part.nfl ∈ F.parts) (x : Nfl) : seen F { s with nfl := x } = seen F s :=
  seen_of_part h (by rintro (_ | _) hq <;> first | rfl | exact absurd rfl hq) rfl rfl rfl rfl rfl rfl rfl
@[simp] theorem seen_with_pai (h : Part.pai ∈ F.parts) (x : Pai) : seen F { s with pai := x } = seen F s :=
  seen_of_part h (by rintro (_ | _) hq <;> first | rfl | exact absurd rfl hq) rfl rfl rfl rfl rfl rfl rfl
@[simp] theorem seen_with_key (h : Part.key ∈ F.parts) (x : Key) : seen F { s with key := x } = seen F s :=
  seen_of_part h (by rintro (_ | _) hq <;> first | rfl | exact absurd rfl hq) rfl rfl rfl rfl rfl rfl rfl
@[simp] theorem seen_with_free (h : Part.free ∈ F.parts) (x : Nat) : seen F { s with free := x } = seen F s :=
  seen_of_part h (by rintro (_ | _) hq <;> first | rfl | exact absurd rfl hq) rfl rfl rfl rfl rfl rfl rfl
@[simp] theorem seen_with_upd (h : Part.upd ∈ F.parts) (x : Upd) (ho : otpOf x = otpOf s.upd ∨ F.otp = true) :
    seen F { s with upd := x } = seen F s :=
  seen_eq_iff.2 ⟨rfl, fun q hq => by cases q <;> first | rfl | exact absurd h hq, rfl, fun _ _ => ⟨rfl, rfl⟩, fun _ _ => rfl,
    fun hn => ho.resolve_right (by simp [hn]), fun _ => rfl, fun _ => rfl⟩

/-- The sticky words of a table that `L` does not name. -/
def stkSeen (L : List Fam) (t : Tab Word) (a : Nat) : Word := if among L a then 0 else Tab.get wordDef t a

theorem stkSeen_eq_iff {L : List Fam} {t u : Tab Word} :
    stkSeen L t = stkSeen L u ↔ ∀ a, among L a = false → Tab.get wordDef t a = Tab.get wordDef u a := by
  refine ⟨fun h a ha => by simpa [stkSeen, ha] using congrFun h a, fun h => funext fun a => ?_⟩
  unfold stkSeen
  split
  · rfl
  next hn => exact h a (by simpa using hn)

@[simp] theorem seen_with_io (h : Part.io ∈ F.parts) (x : Io) (hs : stkSeen F.stks x.stk = stkSeen F.stks s.io.stk) :
    seen F { s with io := x } = seen F s :=
  seen_eq_iff.2 ⟨rfl, fun q hq => by cases q <;> first | rfl | exact absurd h hq, rfl, fun _ _ => ⟨rfl, rfl⟩, stkSeen_eq_iff.1 hs,
    fun _ => rfl, fun _ => rfl, fun _ => rfl⟩

/-- The active and shadow values of the registers of a bank that `L` does not name. -/
def regSeen (L : List Fam) (b : Bank) (a : Nat) : Word × Word :=
  if among L a then (0, 0) else (Tab.get RegMap.reset b.regs a, Tab.get RegMap.reset b.shadow a)

theorem regSeen_eq_iff {L : List Fam} {b c : Bank} :
    regSeen L b = regSeen L c ↔ ∀ a, among L a = false →
      Tab.get RegMap.reset b.regs a = Tab.get RegMap.reset c.regs a ∧ Tab.get RegMap.reset b.shadow a = Tab.get RegMap.reset c.shadow a := by
  refine ⟨fun h a ha => by simpa [regSeen, ha] using congrFun h a, fun h => funext fun a => ?_⟩
  unfold regSeen
  split
  · rfl
  next hn => simp [h a (by simpa using hn)]

@[simp] theorem seen_with_bank (h : Part.bank ∈ F.parts) (x : Bank) (hs : regSeen F.regs x = regSeen F.regs s.bank) :
    seen F { s with bank := x } = seen F s :=
  seen_eq_iff.2 ⟨rfl, fun q hq => by cases q <;> first | rfl | exact absurd h hq, rfl, regSeen_eq_iff.1 hs, fun _ _ => rfl,
    fun _ => rfl, fun _ => rfl, fun _ => rfl⟩

/-- An update of several parts at once. -/
theorem seen_mk {bank : Bank} {io : Io} {recorder : Rec} {crp : Crp} {upd : Upd} {ing : Ing} {cor : Cor} {acq : Acq} {tim : Tim} {ref : Ref}
    {net : Tab NetPort} {mach : Tab Mach} {pst : Pst} {cht : Cht} {dsp : Dsp} {tsk : Tsk} {nfl : Nfl} {pai : Pai} {key : Key} {free : Nat}
    (hbank : bank = s.bank ∨ (Part.bank ∈ F.parts ∧ regSeen F.regs bank = regSeen F.regs s.bank))
    (hio : io = s.io ∨ (Part.io ∈ F.parts ∧ stkSeen F.stks io.stk = stkSeen F.stks s.io.stk))
    (hupd : upd = s.upd ∨ (Part.upd ∈ F.parts ∧ (otpOf upd = otpOf s.upd ∨ F.otp = true)))
    (hrecorder : recorder = s.recorder ∨ Part.recorder ∈ F.parts) (hcrp : crp = s.crp ∨ Part.crp ∈ F.parts)
    (hing : ing = s.ing ∨ Part.ing ∈ F.parts) (hcor : cor = s.cor ∨ (Part.cor ∈ F.parts ∧ (corData cor = corData s.cor ∨ F.signal = true)))
    (hacq : acq = s.acq ∨ (Part.acq ∈ F.parts ∧ (acq.code = s.acq.code ∨ F.signal = true)))
    (htim : tim = s.tim ∨ Part.tim ∈ F.parts) (href : ref = s.ref ∨ Part.ref ∈ F.parts) (hnet : net = s.net ∨ Part.net ∈ F.parts)
    (hmach : mach = s.mach ∨ Part.mach ∈ F.parts) (hpst : pst = s.pst ∨ Part.pst ∈ F.parts) (hcht : cht = s.cht ∨ Part.cht ∈ F.parts)
    (hdsp : dsp = s.dsp ∨ Part.dsp ∈ F.parts) (htsk : tsk = s.tsk ∨ Part.tsk ∈ F.parts) (hnfl : nfl = s.nfl ∨ Part.nfl ∈ F.parts)
    (hpai : pai = s.pai ∨ Part.pai ∈ F.parts) (hkey : key = s.key ∨ Part.key ∈ F.parts) (hfree : free = s.free ∨ Part.free ∈ F.parts) :
    seen F ⟨s.grade, bank, io, recorder, crp, upd, ing, cor, acq, tim, ref, net, mach, pst, cht, dsp, tsk, nfl, pai, key, free, s.pending⟩ =
      seen F s := by
  refine seen_eq_iff.2 ⟨rfl, fun q hq => ?_, rfl, fun a ha => ?_, fun a ha => ?_, fun ho => ?_, fun hg => ?_, fun hg => ?_⟩
  · cases q
    case grade => rfl
    case bank => exact hbank.resolve_right fun h => hq h.1
    case io => exact hio.resolve_right fun h => hq h.1
    case upd => exact hupd.resolve_right fun h => hq h.1
    case recorder => exact hrecorder.resolve_right hq
    case crp => exact hcrp.resolve_right hq
    case ing => exact hing.resolve_right hq
    case cor => exact hcor.resolve_right fun h => hq h.1
    case acq => exact hacq.resolve_right fun h => hq h.1
    case tim => exact htim.resolve_right hq
    case ref => exact href.resolve_right hq
    case net => exact hnet.resolve_right hq
    case mach => exact hmach.resolve_right hq
    case pst => exact hpst.resolve_right hq
    case cht => exact hcht.resolve_right hq
    case dsp => exact hdsp.resolve_right hq
    case tsk => exact htsk.resolve_right hq
    case nfl => exact hnfl.resolve_right hq
    case pai => exact hpai.resolve_right hq
    case key => exact hkey.resolve_right hq
    case free => exact hfree.resolve_right hq
  · exact hbank.elim (fun h => by simp [rd, shadow, h]) fun h => regSeen_eq_iff.1 h.2 a ha
  · exact hio.elim (fun h => by simp [stk, h]) fun h => stkSeen_eq_iff.1 h.2 a ha
  · exact hupd.elim (fun h => by rw [h]) fun h => h.2.resolve_right (by simp [ho])
  · exact hcor.elim (fun h => by rw [h]) fun h => h.2.resolve_right (by simp [hg])
  · exact hacq.elim (fun h => by rw [h]) fun h => h.2.resolve_right (by simp [hg])

theorem Tab.get_filter {α : Type} (d : Nat → α) (p : Nat → Bool) (t : Tab α) (a : Nat) :
    Tab.get d (t.filter (fun e => p e.1)) a = if p a then Tab.get d t a else d a := by
  induction t with
  | nil => simp
  | cons e t ih =>
    by_cases hp : p e.1 <;> by_cases he : e.1 = a
    · subst he; simp [hp, Tab.get]
    · simp [hp, Tab.get, he, ih]
    · subst he; simp [hp, ih]
    · simp [hp, Tab.get, he, ih]

/-- Registers that `L` names are dropped from a bank. -/
theorem regSeen_filter {L : List Fam} {p q : Nat → Bool} (hp : ∀ a, among L a = false → p a = true)
    (hq : ∀ a, among L a = false → q a = true) (b : Bank) (low capt : Tab Word) :
    regSeen L ⟨b.regs.filter (fun e => p e.1), b.shadow.filter (fun e => q e.1), low, capt⟩ = regSeen L b :=
  regSeen_eq_iff.2 fun a ha => by simp [Tab.get_filter, hp a ha, hq a ha]

theorem stkSeen_filter {L : List Fam} {p : Nat → Bool} (hp : ∀ a, among L a = false → p a = true) (t : Tab Word) :
    stkSeen L (t.filter (fun e => p e.1)) = stkSeen L t :=
  stkSeen_eq_iff.2 fun a ha => by simp [Tab.get_filter, hp a ha]

/-! ### Registers and sticky words -/

variable {L : List Fam}

@[simp] theorem regSeen_put_regs {a : Nat} (h : among L a = true) (b : Bank) (w : Word) :
    regSeen L { b with regs := Tab.put RegMap.reset b.regs a w } = regSeen L b :=
  regSeen_eq_iff.2 fun i hi => ⟨Tab.get_put_ne _ _ _ (by rintro rfl; simp [h] at hi), rfl⟩
@[simp] theorem regSeen_put_shadow {a : Nat} (h : among L a = true) (b : Bank) (w : Word) :
    regSeen L { b with shadow := Tab.put RegMap.reset b.shadow a w } = regSeen L b :=
  regSeen_eq_iff.2 fun i hi => ⟨rfl, Tab.get_put_ne _ _ _ (by rintro rfl; simp [h] at hi)⟩
@[simp] theorem regSeen_low (b : Bank) (x : Tab Word) : regSeen L { b with low := x } = regSeen L b := funext fun _ => rfl
@[simp] theorem regSeen_capt (b : Bank) (x : Tab Word) : regSeen L { b with capt := x } = regSeen L b := funext fun _ => rfl

@[simp] theorem stkSeen_put {a : Nat} (h : among L a = true) (t : Tab Word) (w : Word) :
    stkSeen L (Tab.put wordDef t a w) = stkSeen L t :=
  stkSeen_eq_iff.2 fun i hi => Tab.get_put_ne _ _ _ (by rintro rfl; simp [h] at hi)

@[simp] theorem seen_wr (hp : Part.bank ∈ F.parts) {a : Nat} (h : among F.regs a = true) (w : Word) (s : State) :
    seen F (wr a w s) = seen F s := seen_with_bank hp _ (regSeen_put_regs h _ _)
@[simp] theorem seen_wrShadow (hp : Part.bank ∈ F.parts) {a : Nat} (h : among F.regs a = true) (w : Word) (s : State) :
    seen F (wrShadow a w s) = seen F s := seen_with_bank hp _ (regSeen_put_shadow h _ _)
@[simp] theorem seen_wrBoth (hp : Part.bank ∈ F.parts) {a : Nat} (h : among F.regs a = true) (w : Word) (s : State) :
    seen F (wrBoth a w s) = seen F s := by simp [wrBoth, hp, h]
@[simp] theorem seen_inc (hp : Part.bank ∈ F.parts) {a : Nat} (h : among F.regs a = true) (n : Nat) (s : State) :
    seen F (inc a n s) = seen F s := seen_wr hp h _ _
end

/-! ### Indications: a raise of any source can set the words of `raised` -/

section
variable {L : List Fam}

@[simp] theorem ioSetEv_stk (io : Io) (g : Nat) (e : EvGroup) : (ioSetEv io g e).stk = io.stk := by simp only [ioSetEv]
@[simp] theorem ioSetRing_stk (io : Io) (r : Nat) (x : Ring) : (ioSetRing io r x).stk = io.stk := by simp only [ioSetRing]
@[simp] theorem ioSetVec_stk (io : Io) (v : Nat) (x : Vec) : (ioSetVec io v x).stk = io.stk := by simp only [ioSetVec]
@[simp] theorem ioSetCtr_stk (io : Io) (k : Nat) (x : PCtr) : (ioSetCtr io k x).stk = io.stk := by simp only [ioSetCtr]
@[simp] theorem ioOut_stk (io : Io) (o : Output) : (ioOut io o).stk = io.stk := by simp only [ioOut]
@[simp] theorem stkSeen_set {a : Nat} (h : among L a = true) (io : Io) (w : Word) : stkSeen L (ioSetStk io a w).stk = stkSeen L io.stk :=
  stkSeen_put h _ _
@[simp] theorem stkSeen_ite (c : Prop) [Decidable c] (a b : Io) :
    stkSeen L (if c then a else b).stk = if c then stkSeen L a.stk else stkSeen L b.stk := apply_ite (stkSeen L ·.stk) c a b
@[simp] theorem stkSeen_fst_ite {α : Type} (c : Prop) [Decidable c] (a b : Io × α) :
    stkSeen L (if c then a else b).1.stk = if c then stkSeen L a.1.stk else stkSeen L b.1.stk := apply_ite (stkSeen L ·.1.stk) c a b

/-- `L` names the words that a raise can set. -/
def Raises (L : List Fam) : Prop := Covers L raised

@[simp] theorem raises_iff : Raises L ↔ among L Reg.HIF_STICKY = true ∧ among L Reg.PRF_STICKY = true ∧ Inside L (words Reg.PRF_OVF 8) := by
  simp [Raises]

theorem Raises.hif (h : Raises L) : among L Reg.HIF_STICKY = true := (raises_iff.1 h).1
theorem Raises.prf (h : Raises L) : among L Reg.PRF_STICKY = true := (raises_iff.1 h).2.1
theorem Raises.ovf (h : Raises L) {k : Nat} (hk : k < 256) : among L (Reg.PRF_OVF (k / 32)) = true :=
  (raises_iff.1 h).2.2 _ (words_apply (by omega) _)

theorem ctrAddOne_stkSeen (h : Raises L) (c : Bool) {k : Nat} (hk : k < 256) (n : Nat) (io : Io) :
    stkSeen L (ctrAddOne c k n io).1.stk = stkSeen L io.stk := by
  unfold ctrAddOne
  dsimp only
  (repeat' split) <;> simp [h.ovf hk, h.prf]

/-- The carry of a counter that is not chained to the next is 0. -/
theorem ctrAddOne_carry (c : Bool) {k : Nat} (n : Nat) (io : Io) (h : (ctrAddOne c k n io).2.1 ≠ 0) : k % 2 = 0 := by
  unfold ctrAddOne at h
  dsimp only at h
  revert h
  (repeat' split) <;> simp_all

theorem ctrAdd_stkSeen (h : Raises L) (c : Bool) {k : Nat} (hk : k < 256) (n : Nat) (io : Io) :
    stkSeen L (ctrAdd c k n io).1.stk = stkSeen L io.stk := by
  unfold ctrAdd
  dsimp only
  split
  · exact ctrAddOne_stkSeen h c hk n io
  · have := ctrAddOne_carry c n io ‹_›
    exact (ctrAddOne_stkSeen h c (by omega) _ _).trans (ctrAddOne_stkSeen h c hk n io)

theorem lt_of_mem_ctrsOf {c : Bool} {ev k : Nat} {io : Io} (h : k ∈ ctrsOf c ev io) : k < 256 := by
  simp only [ctrsOf, List.mem_map, List.mem_filter, Bool.and_eq_true, decide_eq_true_eq] at h
  obtain ⟨e, ⟨_, ⟨⟨_, he⟩, _⟩, _⟩, rfl⟩ := h
  exact he

theorem ctrEvent_stkSeen (h : Raises L) (c : Bool) (ev n : Nat) (io : Io) :
    stkSeen L (ctrEvent c ev n io).1.stk = stkSeen L io.stk := by
  unfold ctrEvent
  split
  · rfl
  · exact List.foldlRecOn (motive := fun p : Io × List Nat => stkSeen L p.1.stk = stkSeen L io.stk) _ _ rfl
      fun p hp k hk => (ctrAdd_stkSeen h c (lt_of_mem_ctrsOf hk) n p.1).trans hp

theorem vecTrigger_stkSeen (h : Raises L) (now : Nat) (c : Bool) (v : Nat) (io : Io) :
    stkSeen L (vecTrigger now c v io).1.stk = stkSeen L io.stk := by
  unfold vecTrigger
  dsimp only
  (repeat' split) <;> simp [ctrEvent_stkSeen h]

theorem ringFail_stkSeen (h : Raises L) (r : Nat) (io : Io) : stkSeen L (ringFail r io).1.stk = stkSeen L io.stk := by
  simp [ringFail, h.hif]

theorem ringAdvance_stkSeen (h : Raises L) (now : Nat) (c : Bool) (r : Nat) (irq : Bool) (io : Io) :
    stkSeen L (ringAdvance now c r irq io).1.stk = stkSeen L io.stk := by
  simp [ringAdvance, ringFail_stkSeen h, vecTrigger_stkSeen h]

theorem ringWrite_stkSeen (h : Raises L) {now : Nat} {c : Bool} {kind r : Nat} {entry : List Byte} {io : Io} {p : Io × List Nat}
    (hw : ringWrite now c kind r entry io = some p) : stkSeen L p.1.stk = stkSeen L io.stk := by
  simp only [ringWrite, Option.ite_none_right_eq_some, Option.some.injEq] at hw
  obtain ⟨_, rfl⟩ := hw
  simp [ringAdvance_stkSeen h]

theorem deliver_stkSeen (h : Raises L) (now : Nat) (at_ : Nat × Word) (c : Bool) (src : Nat) (io : Io) :
    stkSeen L (deliver now at_ c src io).1.stk = stkSeen L io.stk := by
  have vector (p : Io × List Nat) (hp : stkSeen L p.1.stk = stkSeen L io.stk) (b : Bool) (v : Nat) :
      stkSeen L (if b = true then ((vecTrigger now c v p.1).1, p.2 ++ (vecTrigger now c v p.1).2) else p).1.stk = stkSeen L io.stk := by
    split
    · exact (vecTrigger_stkSeen h _ _ _ _).trans hp
    · exact hp
  unfold deliver
  dsimp only
  refine vector _ ?_ _ _
  split
  · split
    next hw => rw [ringWrite_stkSeen h hw, ioSetRing_stk]
    next => exact stkSeen_set h.hif _ _
  · rfl

theorem raiseOne_stkSeen (h : Raises L) (now : Nat) (c : Bool) (src : Nat) (io : Io) :
    stkSeen L (raiseOne now c src io).1.stk = stkSeen L io.stk := by
  unfold raiseOne
  dsimp only
  split
  · exact deliver_stkSeen h _ _ _ _ _
  · rfl

theorem raiseAll_stkSeen (h : Raises L) (now : Nat) (c : Bool) (n : Nat) (l : List Nat) (io : Io) :
    stkSeen L (raiseAll now c n l io).stk = stkSeen L io.stk := by
  induction n generalizing l io with
  | zero => rfl
  | succ n ih =>
    cases l with
    | nil => rfl
    | cons s ss => exact (ih _ _).trans (raiseOne_stkSeen h now c s io)

@[simp] theorem ioRaise_stkSeen (h : Raises L) (now : Nat) (c : Bool) (l : List Nat) (io : Io) :
    stkSeen L (ioRaise now c l io).stk = stkSeen L io.stk := raiseAll_stkSeen h _ _ _ _ _

@[simp] theorem ioSticky_stkSeen (h : Raises L) {a : Nat} (ha : among L a = true) (now : Nat) (c : Bool) (bit : Nat) (io : Io) :
    stkSeen L (ioSticky now c a bit io).stk = stkSeen L io.stk :=
  (ioRaise_stkSeen h _ _ _ _).trans (stkSeen_set ha _ _)

@[simp] theorem ioCount_stkSeen (h : Raises L) (now : Nat) (c : Bool) (ev n : Nat) (io : Io) :
    stkSeen L (ioCount now c ev n io).stk = stkSeen L io.stk :=
  (ioRaise_stkSeen h _ _ _ _).trans (ctrEvent_stkSeen h _ _ _ _)

@[simp] theorem ioNotice_stkSeen (h : Raises L) (now : Nat) (c : Bool) (g : Nat) (io : Io) :
    stkSeen L (ioNotice now c g io).stk = stkSeen L io.stk := ioRaise_stkSeen h _ _ _ _

end

/-- `F` allows what a raise of a source changes. -/
structure Scope.Raises (F : Scope) : Prop where
  io : Part.io ∈ F.parts
  stks : Machine.Raises F.stks

@[simp] theorem scope_raises_iff (p : List Part) (r k : List Fam) (o g : Bool) :
    Scope.Raises ⟨p, r, k, o, g⟩ ↔ Part.io ∈ p ∧ Covers k raised := ⟨fun h => ⟨h.io, h.stks⟩, fun h => ⟨h.1, h.2⟩⟩

section
variable {F : Scope}

@[simp] theorem seen_sticky (h : F.Raises) {a : Nat} (ha : among F.stks a = true) (bit : Nat) (s : State) :
    seen F (sticky a bit s) = seen F s := seen_with_io h.io _ (ioSticky_stkSeen h.stks ha _ _ _ _)
@[simp] theorem seen_stickyIf (h : F.Raises) {a : Nat} (ha : among F.stks a = true) (c : Bool) (bit : Nat) (s : State) :
    seen F (stickyIf c a bit s) = seen F s := by simp [stickyIf, h, ha]
@[simp] theorem seen_raise (h : F.Raises) (src : Nat) (s : State) : seen F (raise src s) = seen F s :=
  seen_with_io h.io _ (ioRaise_stkSeen h.stks _ _ _ _)
@[simp] theorem seen_notice (h : F.Raises) (g : Nat) (s : State) : seen F (notice g s) = seen F s :=
  seen_with_io h.io _ (ioNotice_stkSeen h.stks _ _ _ _)
@[simp] theorem seen_perf (h : F.Raises) (ev n : Nat) (s : State) : seen F (perf ev n s) = seen F s :=
  seen_with_io h.io _ (ioCount_stkSeen h.stks _ _ _ _ _)
@[simp] theorem seen_emit (h : Part.io ∈ F.parts) (o : Output) (s : State) : seen F (emit o s) = seen F s :=
  seen_with_io h _ rfl
@[simp] theorem seen_unstick (h : Part.io ∈ F.parts) {a : Nat} (ha : among F.stks a = true) (bit : Nat) (s : State) :
    seen F (unstick a bit s) = seen F s := seen_with_io h _ (stkSeen_put ha _ _)
@[simp] theorem seen_freeNext (h : Part.free ∈ F.parts) (s : State) : seen F (freeNext s) = seen F s := seen_with_free h _
@[simp] theorem seen_setFifo (h : Part.crp ∈ F.parts) (k : Nat) (f : Fifo) (s : State) : seen F (setFifo k f s) = seen F s :=
  seen_with_crp h _
@[simp] theorem seen_emitAll (h : Part.io ∈ F.parts) (l : List Output) (s : State) : seen F (emitAll l s) = seen F s := by
  induction l generalizing s with
  | nil => rfl
  | cons o l ih => exact (ih _).trans (seen_emit h o s)
@[simp] theorem seen_stickyCount (h : F.Raises) (hb : Part.bank ∈ F.parts) {a c : Nat} (ha : among F.stks a = true)
    (hc : among F.regs c = true) (bit : Nat) (s : State) : seen F (stickyCount a bit c s) = seen F s := by
  simp [stickyCount, h, hb, ha, hc]
end
end Sys2Proof.Machine
end

section
/-! SUPPORT. What each operation of the model may change: for every scope that allows it, the state seen is the same. -/
namespace Sys2Proof.Machine
open Sys2Proof.Safety
variable {F : Scope}

@[simp] theorem record_seen (type key : Nat) (payload : List Byte) (s : State) (hF : Scope.Le ⟨[.bank, .io, .recorder], [recCnt], (one Reg.REC_STICKY :: raised), false, false⟩ F) :
    seen F (record type key payload s) = seen F s := seen_mono hF (by unfold record; simp)

@[simp] theorem cplWrite_seen (q : Nat) (entry : List Byte) (s : State) (hF : Scope.Le ⟨[.io], [], raised, false, false⟩ F) :
    seen F (cplWrite q entry s) = seen F s := by
  refine seen_mono hF ?_
  unfold cplWrite
  split
  next p hp =>
    have hstk := ringWrite_stkSeen (L := raised) (fun _ h => h) hp
    split <;> simp [hstk]
  next => simp

@[simp] theorem complete_seen (c : Cmd) (code : Nat) (detail : List Byte) (s : State) (hF : Scope.Le ⟨[.io], [], raised, false, false⟩ F) :
    seen F (complete c code detail s) = seen F s := by
  refine seen_mono hF ?_
  conv_lhs => unfold complete; zeta
  (repeat' split) <;> simp

@[simp] theorem completeOpt_seen (c : Option Cmd) (code : Nat) (detail : List Byte) (s : State) (hF : Scope.Le ⟨[.io], [], raised, false, false⟩ F) :
    seen F (completeOpt c code detail s) = seen F s := by
  refine seen_mono hF ?_
  unfold completeOpt
  split <;> simp

@[simp] theorem rxRecord_seen (ring kind source tns : Nat) (data : List Byte) (s : State) (hF : Scope.Le ⟨[.io], [], raised, false, false⟩ F) :
    seen F (rxRecord ring kind source tns data s).1 = seen F s := by
  refine seen_mono hF ?_
  have hraises : Scope.Raises ⟨[.io], [], raised, false, false⟩ := ⟨by simp, fun _ h => h⟩
  have hring (t : State) (x : Ring) : seen ⟨[.io], [], raised, false, false⟩ { t with io := ioSetRing t.io ring x } = seen _ t :=
    seen_with_io (by simp) _ rfl
  unfold rxRecord
  extract_lets x seq t drop isInline cut entry io
  have hdrop : seen ⟨[.io], [], raised, false, false⟩ (drop t).1 = seen _ s :=
    ((seen_sticky hraises (by simp) _ _).trans (hring _ _)).trans (hring _ _)
  have hio : stkSeen raised io.stk = stkSeen raised t.io.stk := by
    unfold io
    split <;> rfl
  split
  · exact hdrop
  split
  next p hp =>
    have hstk := (ioRaise_stkSeen (fun _ h => h) t.tim.now (chained t) p.2 p.1).trans ((ringWrite_stkSeen (fun _ h => h) hp).trans hio)
    exact (seen_with_io (by simp) _ hstk).trans (hring _ _)
  · exact hdrop

@[simp] theorem dmaOut_seen (addr : Nat) (bytes : List Byte) (s : State) (hF : Scope.Le ⟨[.io], [], raised, false, false⟩ F) :
    seen F (dmaOut addr bytes s) = seen F s := seen_mono hF (by unfold dmaOut; simp)

@[simp] theorem dropTaken_seen (k : Nat) (s : State) (hF : Scope.Le ⟨[.crp], [], [], false, false⟩ F) :
    seen F (dropTaken k s) = seen F s := seen_mono hF (by unfold dropTaken; simp)

@[simp] theorem mirror_seen (r : MirrorRec) (s : State) (hF : Scope.Le ⟨[.io, .pai], [], raised, false, false⟩ F) :
    seen F (mirror r s) = seen F s := seen_mono hF (by unfold mirror; simp)

@[simp] theorem setMach_seen (m : Nat) (v : Mach) (s : State) (hF : Scope.Le ⟨[.mach], [], [], false, false⟩ F) :
    seen F (setMach m v s) = seen F s := seen_mono hF (by unfold setMach; simp)

@[simp] theorem putMach_seen (m : Nat) (v : Mach) (s : State) (hF : Scope.Le ⟨[.io, .mach, .pai], [], raised, false, false⟩ F) :
    seen F (putMach m v s) = seen F s := seen_mono hF (by unfold putMach; simp)

@[simp] theorem setChtMach_seen (m : Nat) (v : ChtMach) (s : State) (hF : Scope.Le ⟨[.cht], [], [], false, false⟩ F) :
    seen F (setChtMach m v s) = seen F s := seen_mono hF (by unfold setChtMach; simp)

@[simp] theorem putChtMach_seen (m : Nat) (v : ChtMach) (s : State) (hF : Scope.Le ⟨[.io, .cht, .pai], [], raised, false, false⟩ F) :
    seen F (putChtMach m v s) = seen F s := seen_mono hF (by unfold putChtMach; simp)

@[simp] theorem putIvals_seen (l : List Ival) (s : State) (hF : Scope.Le ⟨[.io, .cht, .pai], [], raised, false, false⟩ F) :
    seen F (putIvals l s) = seen F s := seen_mono hF (by unfold putIvals; simp)

@[simp] theorem putTasks_seen (l : List Task) (s : State) (hF : Scope.Le ⟨[.io, .tsk, .pai], [], raised, false, false⟩ F) :
    seen F (putTasks l s) = seen F s := seen_mono hF (by unfold putTasks; simp)

@[simp] theorem putSlot_seen (k : Nat) (v : Slot) (s : State) (hF : Scope.Le ⟨[.io, .pst, .pai], [], raised, false, false⟩ F) :
    seen F (putSlot k v s) = seen F s := seen_mono hF (by unfold putSlot; simp)

@[simp] theorem mirrorKeys_seen (s : State) (hF : Scope.Le ⟨[.io, .pai], [], raised, false, false⟩ F) :
    seen F (mirrorKeys s) = seen F s := seen_mono hF (by unfold mirrorKeys; simp)

@[simp] theorem setPort_seen (n : Nat) (p : NetPort) (s : State) (hF : Scope.Le ⟨[.net], [], [], false, false⟩ F) :
    seen F (setPort n p s) = seen F s := seen_mono hF (by unfold setPort; simp)

@[simp] theorem enqueue_seen (n q : Nat) (f : TxFrame) (s : State) (hF : Scope.Le ⟨[.io, .net], [], (one Reg.NFL_STICKY :: raised), false, false⟩ F) :
    seen F (enqueue n q f s).1 = seen F s := seen_mono hF (by unfold enqueue; simp)

@[simp] theorem missNightfall_seen (n : Nat) (s : State) (hF : Scope.Le ⟨[.bank, .net], [nflCnt], [], false, false⟩ F) :
    seen F (missNightfall n s) = seen F s := seen_mono hF (by unfold missNightfall; simp)

@[simp] theorem buildMach_seen (m gen type es ens : Nat) (kind : TxKind) (number : Nat) (cmd : Option Cmd) (body : List Byte) (s : State) (hF : Scope.Le ⟨[.io, .mach, .pai], [], raised, false, false⟩ F) :
    seen F (buildMach m gen type es ens kind number cmd body s).2 = seen F s := seen_mono hF (by unfold buildMach; simp)

theorem lt_of_portUp {s : State} {n : Nat} (h : portUp s n = true) : n < 4 := by
  have hports : gradePorts s ≤ 4 := by unfold gradePorts; split <;> decide
  simp only [portUp, portPowered, Bool.and_eq_true, decide_eq_true_eq] at h
  omega

@[simp] theorem keyGone_seen (n : Nat) (s : State) (hF : Scope.Le ⟨[.io], [], netSticky :: raised, false, false⟩ F) :
    seen F (keyGone n s) = seen F s := by
  refine seen_mono hF ?_
  unfold keyGone stickyIf
  split
  next h => simp [lt_of_portUp h]
  next => rfl

@[simp] theorem sendMachGen_seen (m gen q type es ens : Nat) (kind : TxKind) (number : Nat) (body : List Byte) (s : State) (hF : Scope.Le ⟨[.io, .net, .mach, .pai], [], (one Reg.NFL_STICKY :: netSticky :: raised), false, false⟩ F) :
    seen F (sendMachGen m gen q type es ens kind number body s).1 = seen F s := by
  refine seen_mono hF ?_
  conv_lhs => unfold sendMachGen; zeta
  (repeat' split) <;> simp

@[simp] theorem sendMach_seen (m q type es ens : Nat) (kind : TxKind) (number : Nat) (body : List Byte) (s : State) (hF : Scope.Le ⟨[.io, .net, .mach, .pai], [], (one Reg.NFL_STICKY :: netSticky :: raised), false, false⟩ F) :
    seen F (sendMach m q type es ens kind number body s).1 = seen F s := seen_mono hF (by unfold sendMach; simp)

@[simp] theorem sendAckGen_seen (m gen ackType status ackSeq detail : Nat) (s : State) (hF : Scope.Le ⟨[.io, .net, .mach, .pai], [], (one Reg.NFL_STICKY :: netSticky :: raised), false, false⟩ F) :
    seen F (sendAckGen m gen ackType status ackSeq detail s) = seen F s := seen_mono hF (by unfold sendAckGen; simp)

@[simp] theorem sendAck_seen (m ackType status ackSeq detail : Nat) (s : State) (hF : Scope.Le ⟨[.io, .net, .mach, .pai], [], (one Reg.NFL_STICKY :: netSticky :: raised), false, false⟩ F) :
    seen F (sendAck m ackType status ackSeq detail s) = seen F s := seen_mono hF (by unfold sendAck; simp)

@[simp] theorem buildAll_seen (n type es ens : Nat) (kind : TxKind) (number : Nat) (launch : Option Int) (body : List Byte) (s : State) (hF : Scope.Le ⟨[.io, .net], [], raised, false, false⟩ F) :
    seen F (buildAll n type es ens kind number launch body s).2 = seen F s := seen_mono hF (by unfold buildAll; simp)

@[simp] theorem paiSticky_seen (bit : Nat) (s : State) (hF : Scope.Le ⟨[.io], [], (one Reg.PAI_STICKY :: raised), false, false⟩ F) :
    seen F (paiSticky bit s) = seen F s := seen_mono hF (by unfold paiSticky; simp)

@[simp] theorem paiCount_seen {k : Nat} (hk : k < 8) (n : Nat) (s : State) (hF : Scope.Le ⟨[.bank], [paiCnt], [], false, false⟩ F) :
    seen F (paiCount k n s) = seen F s := seen_mono hF (by unfold paiCount; simp [hk])

@[simp] theorem mismatchCheck_seen (old s : State) (hF : Scope.Le ⟨[.io], [], (one Reg.PAI_STICKY :: raised), false, false⟩ F) :
    seen F (mismatchCheck old s) = seen F s := seen_mono hF (by unfold mismatchCheck; simp)

@[simp] theorem mismatchesShown_seen (s : State) (hF : Scope.Le ⟨[.io, .pai], [], (one Reg.PAI_STICKY :: raised), false, false⟩ F) :
    seen F (mismatchesShown s) = seen F s := seen_mono hF (by unfold mismatchesShown; simp)

@[simp] theorem setTim_seen (t : Tim) (s : State) (hF : Scope.Le ⟨[.tim], [], [], false, false⟩ F) :
    seen F (setTim t s) = seen F s := seen_mono hF (by unfold setTim; simp)

@[simp] theorem setNfl_seen (n : Nfl) (s : State) (hF : Scope.Le ⟨[.nfl], [], [], false, false⟩ F) :
    seen F (setNfl n s) = seen F s := seen_mono hF (by unfold setNfl; simp)

@[simp] theorem mirrorNfl_seen (s : State) (hF : Scope.Le ⟨[.io, .pai], [], raised, false, false⟩ F) :
    seen F (mirrorNfl s) = seen F s := seen_mono hF (by unfold mirrorNfl; simp)

@[simp] theorem nfRefuse_seen (command reason machine : Nat) (s : State) (hF : Scope.Le ⟨[.bank, .io], [one Reg.NFL_REFUSE], (one Reg.NFL_STICKY :: raised), false, false⟩ F) :
    seen F (nfRefuse command reason machine s) = seen F s := seen_mono hF (by unfold nfRefuse; simp)

@[simp] theorem setReason_seen (m code : Nat) (s : State) (hF : Scope.Le ⟨[.cht], [], [], false, false⟩ F) :
    seen F (setReason m code s) = seen F s := seen_mono hF (by unfold setReason; simp)

@[simp] theorem grantLost_seen (m code : Nat) (s : State) (hF : Scope.Le ⟨[.io, .cht], [], raised, false, false⟩ F) :
    seen F (grantLost m code s) = seen F s := seen_mono hF (by unfold grantLost; simp)

@[simp] theorem dropGrants_seen (n : Nat) (s : State) (hF : Scope.Le ⟨[.io, .net, .cht], [], raised, false, false⟩ F) :
    seen F (dropGrants n s) = seen F s := seen_mono hF (by unfold dropGrants; simp)

@[simp] theorem dropHeldGrants_seen (s : State) (hF : Scope.Le ⟨[.io, .cht, .pai], [], raised, false, false⟩ F) :
    seen F (dropHeldGrants s) = seen F s := seen_mono hF (by unfold dropHeldGrants; simp)

@[simp] theorem nfLatch_seen (cause : Nat) (extra : List Byte) (s : State) (hF : Scope.Le ⟨[.bank, .io, .recorder, .upd, .net, .cht, .nfl, .pai], [nflCnt, recCnt], (one Reg.NFL_STICKY :: one Reg.REC_STICKY :: raised), false, false⟩ F) :
    seen F (nfLatch cause extra s) = seen F s := by
  refine seen_mono hF ?_
  conv_lhs => unfold nfLatch; zeta
  simp [↓dropGrants_seen, ↓dropHeldGrants_seen, ↓mirrorNfl_seen, ↓record_seen, ↓seen_foldl, ↓seen_perf, ↓seen_stickyCount, ↓seen_with_upd, ↓setNfl_seen]

@[simp] theorem dropReleases_seen (ok : TxFrame → Bool) (n : Nat) (s : State) (hF : Scope.Le ⟨[.net], [], [], false, false⟩ F) :
    seen F (dropReleases ok n s) = seen F s := seen_mono hF (by unfold dropReleases; simp)

@[simp] theorem dropAllGrants_seen (s : State) (hF : Scope.Le ⟨[.io, .net, .cht, .pai], [], raised, false, false⟩ F) :
    seen F (dropAllGrants s) = seen F s := seen_mono hF (by unfold dropAllGrants; simp)

@[simp] theorem undoRow_seen (s : State) (c : NflCmd) (hF : Scope.Le ⟨[.io, .recorder, .net, .cht, .nfl, .pai], [], (one Reg.NFL_STICKY :: raised), false, false⟩ F) :
    seen F (undoRow s c) = seen F s := by
  refine seen_mono hF ?_
  conv_lhs => unfold undoRow; zeta
  split <;> simp

@[simp] theorem refuseRow_seen (s : State) (c : NflCmd) (hF : Scope.Le ⟨[.bank, .io], [one Reg.NFL_REFUSE], (one Reg.NFL_STICKY :: raised), false, false⟩ F) :
    seen F (refuseRow s c) = seen F s := by
  refine seen_mono hF ?_
  unfold refuseRow
  split <;> simp

@[simp] theorem noteRow_seen (row : NflRow) (m : Nat) (s : State) (hF : Scope.Le ⟨[.nfl], [], [], false, false⟩ F) :
    seen F (noteRow row m s) = seen F s := seen_mono hF (by unfold noteRow; simp)

@[simp] theorem refuseByTrigger_seen (s : State) (hF : Scope.Le ⟨[.bank, .io, .recorder, .net, .cht, .nfl, .pai], [one Reg.NFL_REFUSE], (one Reg.NFL_STICKY :: raised), false, false⟩ F) :
    seen F (refuseByTrigger s) = seen F s := by
  refine seen_mono hF ?_
  conv_lhs => unfold refuseByTrigger; zeta
  simp [↓nfRefuse_seen, ↓refuseRow_seen, ↓seen_foldl, ↓seen_ite, ↓setNfl_seen, ↓undoRow_seen]

@[simp] theorem amendLatch_seen (cause : Nat) (extra : List Byte) (s : State) (hF : Scope.Le ⟨[.recorder], [], [], false, false⟩ F) :
    seen F (amendLatch cause extra s) = seen F s := seen_mono hF (by unfold amendLatch; simp)

@[simp] theorem nfAgain_seen (cause : Nat) (extra : List Byte) (s : State) (hF : Scope.Le ⟨[.bank, .io, .recorder, .nfl], [recCnt], (one Reg.REC_STICKY :: raised), false, false⟩ F) :
    seen F (nfAgain cause extra s) = seen F s := seen_mono hF (by unfold nfAgain; simp)

@[simp] theorem nfTriggerWith_seen (cause : Nat) (extra : List Byte) (s : State) (hF : Scope.Le ⟨[.bank, .io, .recorder, .upd, .net, .cht, .nfl, .pai], [one Reg.NFL_REFUSE, nflCnt, recCnt], (one Reg.NFL_STICKY :: one Reg.REC_STICKY :: raised), false, false⟩ F) :
    seen F (nfTriggerWith cause extra s) = seen F s := by
  refine seen_mono hF ?_
  conv_lhs => unfold nfTriggerWith; zeta
  split <;> simp

@[simp] theorem nfTellPeer_seen (cause : Nat) (s : State) (hF : Scope.Le ⟨[.io], [], [], false, false⟩ F) :
    seen F (nfTellPeer cause s) = seen F s := seen_mono hF (by unfold nfTellPeer; simp)

@[simp] theorem tellActive_seen (s : State) (hF : Scope.Le ⟨[.io, .pai], [], raised, false, false⟩ F) :
    seen F (tellActive s) = seen F s := seen_mono hF (by unfold tellActive; simp)

@[simp] theorem nfTrigger_seen (cause : Nat) (s : State) (hF : Scope.Le ⟨[.bank, .io, .recorder, .upd, .net, .cht, .nfl, .pai], [one Reg.NFL_REFUSE, nflCnt, recCnt], (one Reg.NFL_STICKY :: one Reg.REC_STICKY :: raised), false, false⟩ F) :
    seen F (nfTrigger cause s) = seen F s := seen_mono hF (by unfold nfTrigger; simp)

@[simp] theorem timCheckBound_seen (s : State) (hF : Scope.Le ⟨[.bank, .io, .recorder, .upd, .tim, .net, .cht, .nfl, .pai], [one Reg.NFL_REFUSE, nflCnt, recCnt], (one Reg.NFL_STICKY :: one Reg.REC_STICKY :: one Reg.TIM_STICKY :: raised), false, false⟩ F) :
    seen F (timCheckBound s) = seen F s := seen_mono hF (by unfold timCheckBound; simp)

@[simp] theorem keyGrace_seen (s : State) (hF : Scope.Le ⟨[.bank, .io, .recorder, .upd, .net, .cht, .nfl, .pai], [one Reg.NFL_REFUSE, nflCnt, recCnt], (one Reg.NFL_STICKY :: one Reg.REC_STICKY :: raised), false, false⟩ F) :
    seen F (keyGrace s) = seen F s := seen_mono hF (by unfold keyGrace; simp)

@[simp] theorem keyLossCheck_seen (s : State) (hF : Scope.Le ⟨[.bank, .io, .recorder, .upd, .net, .cht, .nfl, .pai], [one Reg.NFL_REFUSE, nflCnt, recCnt], (one Reg.NFL_STICKY :: one Reg.REC_STICKY :: raised), false, false⟩ F) :
    seen F (keyLossCheck s) = seen F s := seen_mono hF (by unfold keyLossCheck; simp)

@[simp] theorem setCrp_seen (c : Crp) (s : State) (hF : Scope.Le ⟨[.crp], [], [], false, false⟩ F) :
    seen F (setCrp c s) = seen F s := seen_mono hF (by unfold setCrp; simp)

@[simp] theorem leaveSurvey_seen (m : Mode) (s : State) (hF : Scope.Le ⟨[.ref], [], [], false, false⟩ F) :
    seen F (leaveSurvey m s) = seen F s := seen_mono hF (by unfold leaveSurvey; simp)

@[simp] theorem leaveSubclass0_seen (m : Mode) (s : State) (hF : Scope.Le ⟨[.ing], [], [], false, false⟩ F) :
    seen F (leaveSubclass0 m s) = seen F s := seen_mono hF (by unfold leaveSubclass0; simp)

@[simp] theorem setMode_seen (m : Mode) (s : State) (hF : Scope.Le ⟨[.crp, .ing, .ref], [], [], false, false⟩ F) :
    seen F (setMode m s) = seen F s := seen_mono hF (by unfold setMode; simp)

@[simp] theorem toHoldover_seen (s : State) (hF : Scope.Le ⟨[.crp, .ing, .ref], [], [], false, false⟩ F) :
    seen F (toHoldover s) = seen F s := by
  refine seen_mono hF ?_
  unfold toHoldover
  split <;> simp

@[simp] theorem fromHoldover_seen (s : State) (hF : Scope.Le ⟨[.crp, .ing, .ref], [], [], false, false⟩ F) :
    seen F (fromHoldover s) = seen F s := by
  refine seen_mono hF ?_
  unfold fromHoldover
  split <;> simp

@[simp] theorem timReject_seen (s : State) (hF : Scope.Le ⟨[.io], [], (one Reg.TIM_STICKY :: raised), false, false⟩ F) :
    seen F (timReject s) = seen F s := seen_mono hF (by unfold timReject; simp)

@[simp] theorem rearmNear_seen (s : State) (hF : Scope.Le ⟨[.cht], [], [], false, false⟩ F) :
    seen F (rearmNear s) = seen F s := seen_mono hF (by unfold rearmNear; simp)

@[simp] theorem ppsFire_seen (n : Nat) (s : State) (hF : Scope.Le ⟨[.io, .tim], [], [], false, false⟩ F) :
    seen F (ppsFire n s) = seen F s := seen_mono hF (by unfold ppsFire; simp)

@[simp] theorem setTp_seen (k : Nat) (t : TpOut) (s : State) (hF : Scope.Le ⟨[.tim], [], [], false, false⟩ F) :
    seen F (setTp k t s) = seen F s := seen_mono hF (by unfold setTp; simp)

@[simp] theorem tpFire_seen (k : Nat) (s : State) (hF : Scope.Le ⟨[.bank, .io, .tim], [one (Reg.TIM_TP_CFG k)], [], false, false⟩ F) :
    seen F (tpFire k s) = seen F s := seen_mono hF (by unfold tpFire; simp)

@[simp] theorem tpStepOver_seen (k : Nat) (s : State) (hF : Scope.Le ⟨[.bank, .io, .tim], [one (Reg.TIM_TP_CFG k)], (one Reg.TIM_TP_STICKY :: raised), false, false⟩ F) :
    seen F (tpStepOver k s) = seen F s := seen_mono hF (by unfold tpStepOver; simp)

@[simp] theorem ppsStepOver_seen (n : Nat) (s : State) (hF : Scope.Le ⟨[.tim], [], [], false, false⟩ F) :
    seen F (ppsStepOver n s) = seen F s := seen_mono hF (by unfold ppsStepOver; simp)

@[simp] theorem edgesDue_seen (s : State) (hF : Scope.Le ⟨[.bank, .io, .tim], [words Reg.TIM_TP_CFG 16], [], false, false⟩ F) :
    seen F (edgesDue s) = seen F s := by
  refine seen_mono hF ?_
  conv_lhs => unfold edgesDue; zeta
  rw [seen_foldl_range fun k hk t => by simp [hk]]
  simp

@[simp] theorem refMoved_seen (t : Nat) (s : State) (hF : Scope.Le ⟨[.cor, .ref], [], [], false, false⟩ F) :
    seen F (refMoved t s) = seen F s := seen_mono hF (by unfold refMoved; simp [↓seen_with_cor, ↓seen_with_ref])

@[simp] theorem moveTime_seen (t : Nat) (s : State)
    (hF : Scope.Le ⟨[.bank, .io, .ing, .cor, .tim, .ref, .net, .cht], [words Reg.TIM_TP_CFG 16], one Reg.TIM_TP_STICKY :: raised, false, false⟩ F) :
    seen F (moveTime t s) = seen F s := by
  refine seen_mono hF ?_
  conv_lhs => unfold moveTime; zeta
  have hsteps (x : State) (hx : seen ⟨[.bank, .io, .ing, .cor, .tim, .ref, .net, .cht], [words Reg.TIM_TP_CFG 16],
      one Reg.TIM_TP_STICKY :: raised, false, false⟩ x = seen _ s) :
      seen ⟨[.bank, .io, .ing, .cor, .tim, .ref, .net, .cht], [words Reg.TIM_TP_CFG 16], one Reg.TIM_TP_STICKY :: raised, false, false⟩
        (if s.tim.now < t then (List.range 16).foldl (fun s k => tpStepOver k s) (ppsStepOver 1 (ppsStepOver 0 x)) else x) = seen _ s := by
    split
    · rw [seen_foldl_range fun k hk t => by simp [hk], ppsStepOver_seen _ _ (by simp), ppsStepOver_seen _ _ (by simp)]
      exact hx
    · exact hx
  refine hsteps _ ?_
  rw [seen_with_net (by simp), rearmNear_seen _ (by simp), refMoved_seen _ _ (by simp)]
  exact seen_mk (.inl rfl) (.inl rfl) (.inl rfl) (.inl rfl) (.inl rfl) (.inr (by simp)) (.inl rfl) (.inl rfl) (.inr (by simp)) (.inl rfl)
    (.inl rfl) (.inl rfl) (.inl rfl) (.inl rfl) (.inl rfl) (.inl rfl) (.inl rfl) (.inl rfl) (.inl rfl) (.inl rfl)

@[simp] theorem execTimIncrInt_seen (w : Word) (s u : State) (hF : Scope.Le ⟨[.bank, .io, .tim], [one Reg.TIM_INCR_FRAC, one Reg.TIM_INCR_INT], (one Reg.TIM_STICKY :: raised), false, false⟩ F) :
    seen F (ran (execTimIncrInt w s) u) = seen F s := by
  refine seen_mono hF ?_
  conv_lhs => unfold execTimIncrInt; zeta
  split <;> simp

@[simp] theorem execIncrApply_seen (s u : State) (hF : Scope.Le ⟨[.tim], [], [], false, false⟩ F) :
    seen F (ran (execIncrApply s) u) = seen F s := by
  refine seen_mono hF ?_
  unfold execIncrApply
  split <;> simp

@[simp] theorem startAdj_seen (total : Int) (cycles : Nat) (s : State) (hF : Scope.Le ⟨[.tim], [], [], false, false⟩ F) :
    seen F (startAdj total cycles s) = seen F s := seen_mono hF (by unfold startAdj; simp)

@[simp] theorem execTimAdjCtrl_seen (w : Word) (s u : State) (hF : Scope.Le ⟨[.bank, .io, .recorder, .upd, .tim, .net, .cht, .nfl, .pai], [one Reg.NFL_REFUSE, nflCnt, recCnt], (one Reg.TIM_STICKY :: one Reg.NFL_STICKY :: one Reg.REC_STICKY :: raised), false, false⟩ F) :
    seen F (ran (execTimAdjCtrl w s) u) = seen F s := seen_mono hF (by unfold execTimAdjCtrl; simp)

@[simp] theorem execAdjustmentEnd_seen (s u : State) (hF : Scope.Le ⟨[.tim], [], [], false, false⟩ F) :
    seen F (ran (execAdjustmentEnd s) u) = seen F s := seen_mono hF (by unfold execAdjustmentEnd; simp)

@[simp] theorem execTimSetNs_seen (w : Word) (s u : State) (hF : Scope.Le ⟨[.bank, .io, .recorder, .upd, .ing, .cor, .tim, .ref, .net, .cht, .nfl, .pai], [one Reg.NFL_REFUSE, nflCnt, recCnt, words Reg.TIM_TP_CFG 16], (one Reg.TIM_STICKY :: one Reg.NFL_STICKY :: one Reg.REC_STICKY :: one Reg.TIM_TP_STICKY :: raised), false, false⟩ F) :
    seen F (ran (execTimSetNs w s) u) = seen F s := seen_mono hF (by unfold execTimSetNs; simp)

@[simp] theorem setLoss_seen (t : Int) (s : State) (hF : Scope.Le ⟨[.tim, .free], [], [], false, false⟩ F) :
    seen F (setLoss t s) = seen F s := by
  refine seen_mono hF ?_
  unfold setLoss
  split <;> simp

@[simp] theorem reportLoss_seen (t : Int) (s : State) (hF : Scope.Le ⟨[.bank, .io, .recorder, .upd, .tim, .net, .cht, .nfl, .pai, .free], [one Reg.NFL_REFUSE, nflCnt, recCnt], (one Reg.NFL_STICKY :: one Reg.REC_STICKY :: one Reg.TIM_STICKY :: raised), false, false⟩ F) :
    seen F (reportLoss t s) = seen F s := by
  refine seen_mono hF ?_
  unfold reportLoss
  split <;> simp

@[simp] theorem recHoldover_seen (s : State) (hF : Scope.Le ⟨[.bank, .io, .recorder], [recCnt], (one Reg.REC_STICKY :: raised), false, false⟩ F) :
    seen F (recHoldover s) = seen F s := seen_mono hF (by unfold recHoldover; simp)

@[simp] theorem enterHoldover_seen (s : State) (hF : Scope.Le ⟨[.bank, .io, .recorder, .crp, .upd, .ing, .tim, .ref, .net, .cht, .nfl, .pai], [recCnt, one Reg.NFL_REFUSE, nflCnt], (one Reg.REC_STICKY :: one Reg.TIM_STICKY :: one Reg.NFL_STICKY :: raised), false, false⟩ F) :
    seen F (enterHoldover s) = seen F s := seen_mono hF (by unfold enterHoldover; simp)

@[simp] theorem execTimLockReport_seen (w : Word) (s u : State) (hF : Scope.Le ⟨[.bank, .io, .recorder, .upd, .tim, .net, .cht, .nfl, .pai], [one Reg.NFL_REFUSE, nflCnt, recCnt], (one Reg.NFL_STICKY :: one Reg.REC_STICKY :: one Reg.TIM_STICKY :: raised), false, false⟩ F) :
    seen F (ran (execTimLockReport w s) u) = seen F s := by
  refine seen_mono hF ?_
  conv_lhs => unfold execTimLockReport; zeta
  (repeat' split) <;> simp

@[simp] theorem execTimLossNs_seen (w : Word) (s u : State) (hF : Scope.Le ⟨[.bank, .io, .recorder, .upd, .tim, .net, .cht, .nfl, .pai, .free], [one Reg.NFL_REFUSE, nflCnt, recCnt], (one Reg.NFL_STICKY :: one Reg.REC_STICKY :: one Reg.TIM_STICKY :: raised), false, false⟩ F) :
    seen F (ran (execTimLossNs w s) u) = seen F s := seen_mono hF (by unfold execTimLossNs; simp)

@[simp] theorem execTimReturn_seen (w : Word) (s u : State) (hF : Scope.Le ⟨[.bank, .io, .recorder, .crp, .upd, .ing, .tim, .ref, .net, .cht, .nfl, .pai], [one Reg.NFL_REFUSE, nflCnt, recCnt, one Reg.TIM_STEP_NS, one Reg.TIM_STEP_AT_S], (one Reg.TIM_STICKY :: one Reg.NFL_STICKY :: one Reg.REC_STICKY :: raised), false, false⟩ F) :
    seen F (ran (execTimReturn w s) u) = seen F s := seen_mono hF (by unfold execTimReturn; simp)

@[simp] theorem execHoldoverEntry_seen (s u : State) (hF : Scope.Le ⟨[.bank, .io, .recorder, .crp, .upd, .ing, .tim, .ref, .net, .cht, .nfl, .pai], [recCnt, one Reg.NFL_REFUSE, nflCnt], (one Reg.REC_STICKY :: one Reg.TIM_STICKY :: one Reg.NFL_STICKY :: raised), false, false⟩ F) :
    seen F (ran (execHoldoverEntry s) u) = seen F s := seen_mono hF (by unfold execHoldoverEntry; simp)

@[simp] theorem execSigTimeout_seen (s u : State) (hF : Scope.Le ⟨[.bank, .io, .recorder, .crp, .upd, .ing, .tim, .ref, .net, .cht, .nfl, .pai], [recCnt, one Reg.NFL_REFUSE, nflCnt], (one Reg.REC_STICKY :: one Reg.TIM_STICKY :: one Reg.NFL_STICKY :: raised), false, false⟩ F) :
    seen F (ran (execSigTimeout s) u) = seen F s := by
  refine seen_mono hF ?_
  conv_lhs => unfold execSigTimeout; zeta
  (repeat' split) <;> simp

@[simp] theorem execPpsEdge_seen (n : Nat) (s u : State) (hF : Scope.Le ⟨[.io, .tim], [], [], false, false⟩ F) :
    seen F (ran (execPpsEdge n s) u) = seen F s := seen_mono hF (by unfold execPpsEdge; simp)

@[simp] theorem execTpEn_seen (k : Nat) (w : Word) (s u : State) (hF : Scope.Le ⟨[.bank, .io, .tim], [one (Reg.TIM_TP_CFG k)], (one Reg.TIM_STICKY :: one Reg.TIM_TP_STICKY :: raised), false, false⟩ F) :
    seen F (ran (execTpEn k w s) u) = seen F s := seen_mono hF (by unfold execTpEn; simp)

@[simp] theorem execTpPulse_seen (k : Nat) (s u : State) (hF : Scope.Le ⟨[.bank, .io, .tim], [one (Reg.TIM_TP_CFG k)], [], false, false⟩ F) :
    seen F (ran (execTpPulse k s) u) = seen F s := seen_mono hF (by unfold execTpPulse; simp)

@[simp] theorem execPulseWidthEnd_seen (out : Nat) (s u : State) (hF : Scope.Le ⟨[.io, .tim], [], [], false, false⟩ F) :
    seen F (ran (execPulseWidthEnd out s) u) = seen F s := by
  refine seen_mono hF ?_
  conv_lhs => unfold execPulseWidthEnd; zeta
  (repeat' split) <;> simp

@[simp] theorem execStepInstant_seen (s u : State)
    (hF : Scope.Le ⟨[.bank, .io, .recorder, .crp, .upd, .ing, .cor, .tim, .ref, .net, .cht, .nfl, .pai], [words Reg.TIM_TP_CFG 16, recCnt, one Reg.NFL_REFUSE, nflCnt], (one Reg.TIM_TP_STICKY :: one Reg.REC_STICKY :: one Reg.TIM_STICKY :: one Reg.NFL_STICKY :: raised), false, false⟩ F) :
    seen F (ran (execStepInstant s) u) = seen F s := by
  refine seen_mono hF ?_
  conv_lhs => unfold execStepInstant; zeta
  dsimp only [ran]
  split
  next => split <;> [split; skip] <;> simp [↓edgesDue_seen, ↓enterHoldover_seen, ↓moveTime_seen, ↓record_seen, ↓seen_sticky, ↓setTim_seen, ↓timCheckBound_seen]
  next => rfl

@[simp] theorem execStepHoldEnd_seen (s u : State) (hF : Scope.Le ⟨[.bank, .io, .recorder, .upd, .tim, .net, .cht, .nfl, .pai], [one Reg.NFL_REFUSE, nflCnt, recCnt], (one Reg.NFL_STICKY :: one Reg.REC_STICKY :: one Reg.TIM_STICKY :: raised), false, false⟩ F) :
    seen F (ran (execStepHoldEnd s) u) = seen F s := by
  refine seen_mono hF ?_
  conv_lhs => unfold execStepHoldEnd; zeta
  (repeat' split) <;> simp

@[simp] theorem execBoundExceeded_seen (s u : State) (hF : Scope.Le ⟨[.bank, .io, .recorder, .upd, .tim, .net, .cht, .nfl, .pai], [one Reg.NFL_REFUSE, nflCnt, recCnt], (one Reg.NFL_STICKY :: one Reg.REC_STICKY :: one Reg.TIM_STICKY :: raised), false, false⟩ F) :
    seen F (ran (execBoundExceeded s) u) = seen F s := seen_mono hF (by unfold execBoundExceeded; simp)

@[simp] theorem bridgeHeard_seen (s : State) (hF : Scope.Le ⟨[.ing], [], [], false, false⟩ F) :
    seen F (bridgeHeard s) = seen F s := seen_mono hF (by unfold bridgeHeard; simp)

@[simp] theorem markBbInvalid_seen (s : State) (hF : Scope.Le ⟨[.cor], [], [], false, false⟩ F) : seen F (markBbInvalid s) = seen F s := by
  refine seen_with_cor (hF.parts _ (by simp)) _ (.inl ?_)
  have hg (c : Ctx) : (if c.state = .run then { c with bbInvalid := true } else c).acc = c.acc := by split <;> rfl
  simp only [corData_eq, acc_get_map hg]

@[simp] theorem bbLoad_seen (mark lat : Nat) (s : State) (hF : Scope.Le ⟨[.bank, .cor, .tim], [one Reg.TIM_SYNC_MISS], [], false, false⟩ F) :
    seen F (bbLoad mark lat s) = seen F s := seen_mono hF (by unfold bbLoad; simp)

@[simp] theorem execTimeSyncSymbol_seen (driftPs : Int) (s u : State) (hF : Scope.Le ⟨[.bank, .io, .ing, .cor, .tim], [one Reg.TIM_BB_ERR, one Reg.TIM_SYNC_MISS], (one Reg.TIM_STICKY :: raised), false, false⟩ F) :
    seen F (ran (execTimeSyncSymbol driftPs s) u) = seen F s := seen_mono hF (by unfold execTimeSyncSymbol; simp)

@[simp] theorem execBbSyncLost_seen (s u : State) (hF : Scope.Le ⟨[.bank, .io, .cor, .tim], [one Reg.TIM_SYNC_MISS], (one Reg.TIM_STICKY :: raised), false, false⟩ F) :
    seen F (ran (execBbSyncLost s) u) = seen F s := seen_mono hF (by unfold execBbSyncLost; simp)

@[simp] theorem setTimPort_seen (n : Nat) (p : TimPort) (s : State) (hF : Scope.Le ⟨[.tim], [], [], false, false⟩ F) :
    seen F (setTimPort n p s) = seen F s := seen_mono hF (by unfold setTimPort; simp)

@[simp] theorem execPeerDelayExchange_seen (n : Nat) (t1 t2 t3 t4 : Int) (s u : State) (hF : Scope.Le ⟨[.bank, .io, .recorder, .tim], [recCnt], (one Reg.REC_STICKY :: one (Reg.TIM_PORT_STICKY n) :: raised), false, false⟩ F) :
    seen F (ran (execPeerDelayExchange n t1 t2 t3 t4 s) u) = seen F s := by
  refine seen_mono hF ?_
  conv_lhs => unfold execPeerDelayExchange; zeta
  (repeat' split) <;> simp

@[simp] theorem execPathAsymClear_seen (n : Nat) (s u : State) (hF : Scope.Le ⟨[.io, .tim], [], [one (Reg.TIM_PORT_STICKY n)], false, false⟩ F) :
    seen F (ran (execPathAsymClear n s) u) = seen F s := seen_mono hF (by unfold execPathAsymClear; simp)

@[simp] theorem execTimNowCapture_seen (s u : State) (hF : Scope.Le ⟨[.bank], [], [], false, false⟩ F) :
    seen F (ran (execTimNowCapture s) u) = seen F s :=
  seen_mono hF (seen_with_bank (by simp) _ (regSeen_capt _ _))

@[simp] theorem execRtcLoad_seen (s u : State) (hF : Scope.Le ⟨[.tim, .key], [], [], false, false⟩ F) :
    seen F (ran (execRtcLoad s) u) = seen F s := by
  refine seen_mono hF ?_
  dsimp only [execRtcLoad, ran]
  split
  · simp [seen_mk]
  · rfl

@[simp] theorem execStopInDebounce_seen (ch : Nat) (s u : State) (hF : Scope.Le ⟨[.bank, .io, .recorder, .upd, .net, .cht, .nfl, .pai], [one Reg.NFL_REFUSE, nflCnt, recCnt], (one Reg.NFL_STICKY :: one Reg.REC_STICKY :: raised), false, false⟩ F) :
    seen F (ran (execStopInDebounce ch s) u) = seen F s := seen_mono hF (by unfold execStopInDebounce; simp)

@[simp] theorem execStopInHealthy_seen (ch : Nat) (s u : State) (hF : Scope.Le ⟨[.nfl], [], [], false, false⟩ F) :
    seen F (ran (execStopInHealthy ch s) u) = seen F s := seen_mono hF (by unfold execStopInHealthy; simp)

@[simp] theorem execDiscrepancy_seen (s u : State) (hF : Scope.Le ⟨[.io, .nfl], [], (one Reg.NFL_STICKY :: raised), false, false⟩ F) :
    seen F (ran (execDiscrepancy s) u) = seen F s := seen_mono hF (by unfold execDiscrepancy; simp)

@[simp] theorem execFbFault_seen (ch : Nat) (s u : State) (hF : Scope.Le ⟨[.bank, .io, .recorder, .upd, .net, .cht, .nfl, .pai], [one Reg.NFL_REFUSE, nflCnt, recCnt], (one Reg.NFL_STICKY :: one Reg.REC_STICKY :: raised), false, false⟩ F) :
    seen F (ran (execFbFault ch s) u) = seen F s := seen_mono hF (by unfold execFbFault; simp)

@[simp] theorem execLatchMismatch_seen (s u : State) (hF : Scope.Le ⟨[.bank, .io, .recorder, .upd, .net, .cht, .nfl, .pai], [one Reg.NFL_REFUSE, nflCnt, recCnt], (one Reg.NFL_STICKY :: one Reg.REC_STICKY :: raised), false, false⟩ F) :
    seen F (ran (execLatchMismatch s) u) = seen F s := seen_mono hF (by unfold execLatchMismatch; simp)

@[simp] theorem execClockCrossCheck_seen (s u : State) (hF : Scope.Le ⟨[.bank, .io, .recorder, .upd, .net, .cht, .nfl, .pai], [one Reg.NFL_REFUSE, nflCnt, recCnt], (one Reg.NFL_STICKY :: one Reg.REC_STICKY :: raised), false, false⟩ F) :
    seen F (ran (execClockCrossCheck s) u) = seen F s := seen_mono hF (by unfold execClockCrossCheck; simp)

@[simp] theorem execSafeSupplyMonitor_seen (s u : State) (hF : Scope.Le ⟨[.nfl], [], [], false, false⟩ F) :
    seen F (ran (execSafeSupplyMonitor s) u) = seen F s := seen_mono hF (by unfold execSafeSupplyMonitor; simp)

@[simp] theorem execSafeSupplyRestored_seen (s u : State) (hF : Scope.Le ⟨[.nfl], [], [], false, false⟩ F) :
    seen F (ran (execSafeSupplyRestored s) u) = seen F s := seen_mono hF (by unfold execSafeSupplyRestored; simp)

@[simp] theorem execNflWdgKick_seen (w : Word) (s u : State) (hF : Scope.Le ⟨[.nfl], [], [], false, false⟩ F) :
    seen F (ran (execNflWdgKick w s) u) = seen F s := seen_mono hF (by unfold execNflWdgKick; simp)

@[simp] theorem execWatchdogExpiry_seen (s u : State) (hF : Scope.Le ⟨[.bank, .io, .recorder, .upd, .net, .cht, .nfl, .pai], [one Reg.NFL_REFUSE, nflCnt, recCnt], (one Reg.NFL_STICKY :: one Reg.REC_STICKY :: raised), false, false⟩ F) :
    seen F (ran (execWatchdogExpiry s) u) = seen F s := seen_mono hF (by unfold execWatchdogExpiry; simp)

@[simp] theorem execKeyGraceExpiry_seen (s u : State) (hF : Scope.Le ⟨[.bank, .io, .recorder, .upd, .net, .cht, .nfl, .pai], [one Reg.NFL_REFUSE, nflCnt, recCnt], (one Reg.NFL_STICKY :: one Reg.REC_STICKY :: raised), false, false⟩ F) :
    seen F (ran (execKeyGraceExpiry s) u) = seen F s := seen_mono hF (by unfold execKeyGraceExpiry; simp)

@[simp] theorem execNflTrigger_seen (w : Word) (s u : State) (hF : Scope.Le ⟨[.bank, .io, .recorder, .upd, .net, .cht, .nfl, .pai], [one Reg.NFL_REFUSE, nflCnt, recCnt], (one Reg.NFL_STICKY :: one Reg.REC_STICKY :: raised), false, false⟩ F) :
    seen F (ran (execNflTrigger w s) u) = seen F s := seen_mono hF (by unfold execNflTrigger; simp)

@[simp] theorem nfQueue_seen (k : Nat) (s : State) (n : Nat) (hF : Scope.Le ⟨[.bank, .io, .net], [nflCnt], (one Reg.NFL_STICKY :: raised), false, false⟩ F) :
    seen F (nfQueue k s n) = seen F s := seen_mono hF (by unfold nfQueue; simp)

@[simp] theorem execNightfallFrameDue_seen (s u : State) (hF : Scope.Le ⟨[.bank, .io, .net, .nfl, .pai], [nflCnt], (one Reg.NFL_STICKY :: raised), false, false⟩ F) :
    seen F (ran (execNightfallFrameDue s) u) = seen F s := seen_mono hF (by unfold execNightfallFrameDue; simp)

@[simp] theorem refuseNoted_seen (command reason machine : Nat) (s : State) (hF : Scope.Le ⟨[.bank, .io, .nfl], [one Reg.NFL_REFUSE], (one Reg.NFL_STICKY :: raised), false, false⟩ F) :
    seen F (refuseNoted command reason machine s) = seen F s := seen_mono hF (by unfold refuseNoted; simp)

@[simp] theorem execNflArm_seen (w : Word) (s u : State) (hF : Scope.Le ⟨[.bank, .io, .nfl, .pai], [one Reg.NFL_REFUSE], (one Reg.NFL_STICKY :: raised), false, false⟩ F) :
    seen F (ran (execNflArm w s) u) = seen F s := seen_mono hF (by unfold execNflArm; simp)

@[simp] theorem fleetRelease_seen (id : Nat) (s : State) {n : Nat} (hn : n < 4)
    (hF : Scope.Le ⟨[.io, .net], [], netSticky :: one Reg.NFL_STICKY :: raised, false, false⟩ F) :
    seen F (fleetRelease id s n) = seen F s := by
  refine seen_mono hF ?_
  conv_lhs => unfold fleetRelease; zeta
  simp [hn]

@[simp] theorem machRelease_seen (m id : Nat) (s : State) (hF : Scope.Le ⟨[.io, .net, .mach, .pai], [], (one Reg.NFL_STICKY :: netSticky :: raised), false, false⟩ F) :
    seen F (machRelease m id s) = seen F s := seen_mono hF (by unfold machRelease; simp)

@[simp] theorem endSchedule_seen (s : State) (hF : Scope.Le ⟨[.net], [], [], false, false⟩ F) :
    seen F (endSchedule s) = seen F s := seen_mono hF (by unfold endSchedule; simp)

@[simp] theorem releaseFleet_seen (keep : Bool) (s : State) (hF : Scope.Le ⟨[.bank, .io, .recorder, .net, .nfl, .pai], [recCnt], (one Reg.REC_STICKY :: netSticky :: one Reg.NFL_STICKY :: raised), false, false⟩ F) :
    seen F (releaseFleet keep s) = seen F s := by
  refine seen_mono hF ?_
  conv_lhs => unfold releaseFleet; zeta
  rw [mirrorNfl_seen _ (by simp), seen_foldl_range fun n hn t => by simp [hn]]
  simp

@[simp] theorem confirmEffect_seen (fleet : Bool) (s : State) (hF : Scope.Le ⟨[.bank, .io, .recorder, .net, .nfl, .pai], [recCnt], (one Reg.REC_STICKY :: netSticky :: one Reg.NFL_STICKY :: raised), false, false⟩ F) :
    seen F (confirmEffect fleet s) = seen F s := seen_mono hF (by unfold confirmEffect; simp)

@[simp] theorem confirmFails_seen (r : Nat) (s : State) (hF : Scope.Le ⟨[.bank, .io, .nfl, .pai], [one Reg.NFL_REFUSE], (one Reg.NFL_STICKY :: raised), false, false⟩ F) :
    seen F (confirmFails r s) = seen F s := seen_mono hF (by unfold confirmFails; simp)

@[simp] theorem execNflConfirm_seen (w : Word) (s u : State) (hF : Scope.Le ⟨[.bank, .io, .recorder, .net, .nfl, .pai], [one Reg.NFL_REFUSE, recCnt], (one Reg.NFL_STICKY :: one Reg.REC_STICKY :: netSticky :: raised), false, false⟩ F) :
    seen F (ran (execNflConfirm w s) u) = seen F s := by
  refine seen_mono hF ?_
  conv_lhs => unfold execNflConfirm; zeta
  dsimp only [ran]
  (repeat' split) <;> simp

@[simp] theorem execReleaseAcknowledged_seen (s u : State) (hF : Scope.Le ⟨[.bank, .io, .recorder, .net, .nfl, .pai], [recCnt], (one Reg.REC_STICKY :: netSticky :: one Reg.NFL_STICKY :: raised), false, false⟩ F) :
    seen F (ran (execReleaseAcknowledged s) u) = seen F s := by
  refine seen_mono hF ?_
  unfold execReleaseAcknowledged
  split <;> simp

@[simp] theorem execConfirmAckTimeout_seen (s u : State) (hF : Scope.Le ⟨[.bank, .io, .nfl, .pai], [one Reg.NFL_REFUSE], (one Reg.NFL_STICKY :: raised), false, false⟩ F) :
    seen F (ran (execConfirmAckTimeout s) u) = seen F s := by
  refine seen_mono hF ?_
  conv_lhs => unfold execConfirmAckTimeout; zeta
  (repeat' split) <;> simp

@[simp] theorem execArmWindowEnd_seen (s u : State) (hF : Scope.Le ⟨[.io, .nfl, .pai], [], (one Reg.NFL_STICKY :: raised), false, false⟩ F) :
    seen F (ran (execArmWindowEnd s) u) = seen F s := seen_mono hF (by unfold execArmWindowEnd; simp)

@[simp] theorem execNflMrel_seen (w : Word) (s u : State) (hF : Scope.Le ⟨[.bank, .io, .net, .mach, .nfl, .pai], [one Reg.NFL_REFUSE], (one Reg.NFL_STICKY :: netSticky :: raised), false, false⟩ F) :
    seen F (ran (execNflMrel w s) u) = seen F s := seen_mono hF (by unfold execNflMrel; simp)

@[simp] theorem resendMach_seen (s : State) (e : Nat × RelRun) (hF : Scope.Le ⟨[.bank, .io, .net, .mach, .nfl, .pai], [nflCnt], (one Reg.NFL_STICKY :: netSticky :: raised), false, false⟩ F) :
    seen F (resendMach s e) = seen F s := seen_mono hF (by unfold resendMach; simp)

@[simp] theorem execReleaseResend_seen (s u : State) (hF : Scope.Le ⟨[.bank, .io, .net, .mach, .nfl, .pai], [nflCnt], (netSticky :: one Reg.NFL_STICKY :: raised), false, false⟩ F) :
    seen F (ran (execReleaseResend s) u) = seen F s := by
  refine seen_mono hF ?_
  conv_lhs => unfold execReleaseResend; zeta
  dsimp only [ran]
  rw [seen_foldl fun s x => by simp]
  split
  · split
    · rfl
    · rw [mirrorNfl_seen _ (by simp), seen_foldl_range fun n hn s => by simp [hn]]
      simp
  · rfl

@[simp] theorem releaseAcked_seen (m id : Nat) (s : State) (hF : Scope.Le ⟨[.nfl], [], [], false, false⟩ F) :
    seen F (releaseAcked m id s) = seen F s := by
  refine seen_mono hF ?_
  unfold releaseAcked
  split <;> simp

@[simp] theorem seenRelease_seen (m : Nat) (wasSeen : Bool) (s : State) (hF : Scope.Le ⟨[.io, .net, .mach, .nfl, .pai], [], (one Reg.NFL_STICKY :: netSticky :: raised), false, false⟩ F) :
    seen F (seenRelease m wasSeen s) = seen F s := by
  refine seen_mono hF ?_
  conv_lhs => unfold seenRelease; zeta
  (repeat' split) <;> simp

@[simp] theorem setDsp_seen (d : Dsp) (s : State) (hF : Scope.Le ⟨[.dsp], [], [], false, false⟩ F) :
    seen F (setDsp d s) = seen F s := seen_mono hF (by unfold setDsp; simp)

@[simp] theorem heldChanged_seen (s : State) (hF : Scope.Le ⟨[.bank, .io, .dsp], [one Reg.DSP_HELD_MAX, dspCnt], (one Reg.DSP_STICKY :: raised), false, false⟩ F) :
    seen F (heldChanged s) = seen F s := seen_mono hF (by unfold heldChanged; simp)

@[simp] theorem addJob_seen (kind : JobKind) (flow level : Nat) (stamp tRx : Int) (gate : Option Int) (work : JobWork) (cmd : Option Cmd) (s : State) (hF : Scope.Le ⟨[.bank, .io, .dsp], [dspCnt, one Reg.DSP_HELD_MAX], (one Reg.DSP_STICKY :: raised), false, false⟩ F) :
    seen F (addJob kind flow level stamp tRx gate work cmd s) = seen F s := seen_mono hF (by unfold addJob; simp)

@[simp] theorem updJob_seen (id : Nat) (f : Job → Job) (s : State) (hF : Scope.Le ⟨[.dsp], [], [], false, false⟩ F) :
    seen F (updJob id f s) = seen F s := seen_mono hF (by unfold updJob; simp)

@[simp] theorem succeed_seen (id : Nat) (kind : JobKind) (gate : Option Int) (excluded : Option Nat) (work : JobWork) (s : State) (hF : Scope.Le ⟨[.bank, .io, .dsp], [dspCnt], raised, false, false⟩ F) :
    seen F (succeed id kind gate excluded work s) = seen F s := seen_mono hF (by unfold succeed; simp)

@[simp] theorem flushLate_seen (s : State) (hF : Scope.Le ⟨[.io, .dsp], [], raised, false, false⟩ F) :
    seen F (flushLate s) = seen F s := seen_mono hF (by unfold flushLate; simp)

@[simp] theorem endJob_seen (id : Nat) (s : State) (hF : Scope.Le ⟨[.bank, .io, .dsp], [dspCnt], raised, false, false⟩ F) :
    seen F (endJob id s) = seen F s := seen_mono hF (by unfold endJob; simp)

@[simp] theorem countInherited_seen (j : Job) (s : State) (hF : Scope.Le ⟨[.bank], [dspCnt], [], false, false⟩ F) :
    seen F (countInherited j s) = seen F s := seen_mono hF (by unfold countInherited; simp)

@[simp] theorem withJob_seen (e : Nat) (is : Job → Bool) {body : Job → State → State} (s : State)
    (hbody : ∀ j s, seen F (body j s) = seen F s) (hF : Scope.Le ⟨[.bank], [dspCnt], [], false, false⟩ F) :
    seen F (withJob e is body s) = seen F s := by
  unfold withJob
  split
  · split
    · rw [hbody, countInherited_seen _ _ hF]
    · rfl
  · rfl

@[simp] theorem intakeServed_seen (src : Nat) (s : State) (hF : Scope.Le ⟨[.dsp], [], [], false, false⟩ F) :
    seen F (intakeServed src s) = seen F s := seen_mono hF (by unfold intakeServed; simp)

@[simp] theorem ptpHand_seen (n : Nat) (s : State) (p : PtpSend) (hF : Scope.Le ⟨[.io, .net], [], (one Reg.NFL_STICKY :: raised), false, false⟩ F) :
    seen F (ptpHand n s p) = seen F s := seen_mono hF (by unfold ptpHand; simp)

@[simp] theorem sendPause_seen (n quanta : Nat) (s : State) (hF : Scope.Le ⟨[.bank, .io], [netCnt n], [], false, false⟩ F) :
    seen F (sendPause n quanta s) = seen F s := seen_mono hF (by unfold sendPause; simp)

@[simp] theorem pauseCheck_seen (n : Nat) (s : State) (hF : Scope.Le ⟨[.bank, .io, .net], [netCnt n], raised, false, false⟩ F) :
    seen F (pauseCheck n s) = seen F s := seen_mono hF (by unfold pauseCheck; simp)

@[simp] theorem popHead_seen (n : Nat) (s : State) (hF : Scope.Le ⟨[.bank, .io, .net], [netCnt n], raised, false, false⟩ F) :
    seen F (popHead n s) = seen F s := seen_mono hF (by unfold popHead; simp)

@[simp] theorem timeCoreTake_seen (n : Nat) (frame : List Byte) (s : State) (hF : Scope.Le ⟨[.bank, .io, .free], [netCnt n], [], false, false⟩ F) :
    seen F (timeCoreTake n frame s) = seen F s := seen_mono hF (by unfold timeCoreTake; simp)

@[simp] theorem execFrameReceive_seen (n : Nat) (frame : List Byte) (fcsOk : Bool) (s u : State) (hF : Scope.Le ⟨[.bank, .io, .crp, .net, .free], [netCnt n], (one (Reg.NET_STICKY n) :: raised), false, false⟩ F) :
    seen F (ran (execFrameReceive n frame fcsOk s) u) = seen F s := by
  refine seen_mono hF ?_
  conv_lhs => unfold execFrameReceive; zeta
  (repeat' split) <;> simp

@[simp] theorem execXoffRefresh_seen (n : Nat) (s u : State) (hF : Scope.Le ⟨[.bank, .io, .net], [netCnt n], raised, false, false⟩ F) :
    seen F (ran (execXoffRefresh n s) u) = seen F s := seen_mono hF (by unfold execXoffRefresh; simp)

@[simp] theorem execPauseExpiry_seen (n : Nat) (s u : State) (hF : Scope.Le ⟨[.net], [], [], false, false⟩ F) :
    seen F (ran (execPauseExpiry n s) u) = seen F s := seen_mono hF (by unfold execPauseExpiry; simp)

@[simp] theorem execPauseBypass_seen (n : Nat) (s u : State) (hF : Scope.Le ⟨[.io, .net], [], (one (Reg.NET_STICKY n) :: raised), false, false⟩ F) :
    seen F (ran (execPauseBypass n s) u) = seen F s := by
  refine seen_mono hF ?_
  conv_lhs => unfold execPauseBypass; zeta
  split <;> simp

@[simp] theorem execLinkUp_seen (n : Nat) (s u : State) (hF : Scope.Le ⟨[.bank, .io, .crp, .net], [nflCnt], [], false, false⟩ F) :
    seen F (ran (execLinkUp n s) u) = seen F s := seen_mono hF (by unfold execLinkUp; simp)

@[simp] theorem linkLost_seen (n : Nat) (s : State) (hF : Scope.Le ⟨[.io, .net], [], (one (Reg.NET_STICKY n) :: raised), false, false⟩ F) :
    seen F (linkLost n s) = seen F s := seen_mono hF (by unfold linkLost; simp)

@[simp] theorem execLinkDown_seen (n : Nat) (s u : State) (hF : Scope.Le ⟨[.io, .net], [], (one (Reg.NET_STICKY n) :: raised), false, false⟩ F) :
    seen F (ran (execLinkDown n s) u) = seen F s := seen_mono hF (by unfold execLinkDown; simp)

@[simp] theorem discardFrame_seen (f : TxFrame) (s : State) (hF : Scope.Le ⟨[.bank, .io, .cht], [nflCnt], raised, false, false⟩ F) :
    seen F (discardFrame f s) = seen F s := by
  refine seen_mono hF ?_
  unfold discardFrame
  split <;> simp

@[simp] theorem execTransmitStart_seen (turn : PortTurn) (s u : State) (hF : Scope.Le ⟨[.bank, .io, .crp, .net, .cht], [nflCnt], (one Reg.NFL_STICKY :: raised), false, false⟩ F) :
    seen F (ran (execTransmitStart turn s) u) = seen F s := by
  refine seen_mono hF ?_
  conv_lhs => unfold execTransmitStart; zeta
  (repeat' split) <;> simp

@[simp] theorem execTransmitEnd_seen (n : Nat) (s u : State) (hF : Scope.Le ⟨[.bank, .io, .net], [netCnt n, nflCnt], raised, false, false⟩ F) :
    seen F (ran (execTransmitEnd n s) u) = seen F s := by
  refine seen_mono hF ?_
  conv_lhs => unfold execTransmitEnd; zeta
  (repeat' split) <;> simp

@[simp] theorem seqTaken_seen (f : RxFrame) (s : State) (hF : Scope.Le ⟨[.io, .mach, .pai], [], raised, false, false⟩ F) :
    seen F (seqTaken f s) = seen F s := seen_mono hF (by unfold seqTaken; simp)

@[simp] theorem learn_seen (n : Nat) (f : RxFrame) (s : State) (hF : Scope.Le ⟨[.io, .mach, .pai], [], raised, false, false⟩ F) :
    seen F (learn n f s) = seen F s := seen_mono hF (by unfold learn; simp)

@[simp] theorem takeAccepted_seen (n : Nat) (f : RxFrame) (s : State) (hF : Scope.Le ⟨[.bank, .io, .net, .mach, .pai], [netCnt n], raised, false, false⟩ F) :
    seen F (takeAccepted n f s) = seen F s := seen_mono hF (by unfold takeAccepted; simp)

@[simp] theorem takeDropped_seen (n bit : Nat) (tagTried : Bool) (s : State) (hF : Scope.Le ⟨[.bank, .io, .net], [netCnt n], (one (Reg.NET_STICKY n) :: raised), false, false⟩ F) :
    seen F (takeDropped n bit tagTried s) = seen F s := seen_mono hF (by unfold takeDropped; simp)

@[simp] theorem takeAnswered_seen (n : Nat) (f : RxFrame) (code : Nat) (s : State) (hF : Scope.Le ⟨[.bank, .io, .net, .mach, .pai], [netCnt n], (one Reg.NFL_STICKY :: netSticky :: raised), false, false⟩ F) :
    seen F (takeAnswered n f code s) = seen F s := seen_mono hF (by unfold takeAnswered; simp)

theorem lt_of_portServes {s : State} {n : Nat} (h : portServes s n = true) : n < 4 := by
  have hports : gradePorts s ≤ 4 := by unfold gradePorts; split <;> decide
  simp only [portServes, portInService, portPowered, Bool.and_eq_true, decide_eq_true_eq] at h
  omega

@[simp] theorem withHead_seen (n type : Nat) {accepted : RxFrame → State → State} (s : State)
    (haccepted : ∀ f s, seen F (accepted f s) = seen F s) (hF : Scope.Le ⟨[.bank, .io, .net, .mach, .pai], [paiCnt, netCnt n, dspCnt], (one Reg.NFL_STICKY :: netSticky :: one Reg.DSP_STICKY :: raised), false, false⟩ F) :
    seen F (withHead n type accepted s) = seen F s := by
  unfold withHead
  split
  · rfl
  split
  · rfl
  next hserves =>
    have hn := lt_of_portServes (by simpa using hserves)
    split
    · exact seen_mono hF (by simp)
    split
    · exact seen_mono hF (by simp [hn])
    · rfl
    · split
      · exact seen_mono hF (by simp)
      · rfl
    · split
      · rfl
      split
      · exact seen_mono hF (by simp)
      · exact haccepted _ _

@[simp] theorem formParse_seen {n : Nat} (f : RxFrame) (work : JobWork) {after : State → State} (s : State)
    (hafter : ∀ s, seen F (after s) = seen F s) (hF : Scope.Le ⟨[.bank, .io, .net, .mach, .dsp, .pai], [dspCnt, one Reg.DSP_HELD_MAX, netCnt n], (one Reg.DSP_STICKY :: raised), false, false⟩ F) :
    seen F (formParse n f work after s) = seen F s := by
  conv_lhs => unfold formParse; zeta
  split
  · rfl
  · rw [addJob_seen _ _ _ _ _ _ _ _ _ (.trans (by simp) hF), intakeServed_seen _ _ (.trans (by simp) hF), hafter,
      takeAccepted_seen _ _ _ (.trans (by simp) hF)]

@[simp] theorem execPosFrame_seen (n : Nat) (s u : State) (hF : Scope.Le ⟨[.bank, .io, .net, .mach, .dsp, .pai], [paiCnt, netCnt n, dspCnt, one Reg.DSP_HELD_MAX], (one Reg.NFL_STICKY :: netSticky :: one Reg.DSP_STICKY :: raised), false, false⟩ F) :
    seen F (ran (execPosFrame n s) u) = seen F s := seen_mono hF (by unfold execPosFrame; simp)

@[simp] theorem execStatusFrame_seen (n : Nat) (s u : State) (hF : Scope.Le ⟨[.bank, .io, .net, .mach, .dsp, .pai], [paiCnt, netCnt n, dspCnt, one Reg.DSP_HELD_MAX], (one Reg.NFL_STICKY :: netSticky :: one Reg.DSP_STICKY :: raised), false, false⟩ F) :
    seen F (ran (execStatusFrame n s) u) = seen F s := seen_mono hF (by unfold execStatusFrame; simp)

@[simp] theorem execAckFrame_seen (n : Nat) (s u : State) (hF : Scope.Le ⟨[.bank, .io, .net, .mach, .dsp, .pai], [paiCnt, netCnt n, dspCnt, one Reg.DSP_HELD_MAX], (one Reg.NFL_STICKY :: netSticky :: one Reg.DSP_STICKY :: raised), false, false⟩ F) :
    seen F (ran (execAckFrame n s) u) = seen F s := seen_mono hF (by unfold execAckFrame; simp)

@[simp] theorem execWrongGenFrame_seen (n : Nat) (s u : State) (hF : Scope.Le ⟨[.bank, .io, .net, .mach, .pai], [paiCnt, netCnt n], (one Reg.NFL_STICKY :: netSticky :: raised), false, false⟩ F) :
    seen F (ran (execWrongGenFrame n s) u) = seen F s := by
  refine seen_mono hF ?_
  rw [execWrongGenFrame, ran_next]
  split
  · rfl
  split
  · rfl
  next hserves =>
    have hn := lt_of_portServes (by simpa using hserves)
    split
    · simp
    split
    · simp [hn]
    · simp
    · rfl

@[simp] theorem discardObs_seen (m n : Nat) (s : State) (hF : Scope.Le ⟨[.io, .mach], [], netSticky :: raised, false, false⟩ F) :
    seen F (discardObs m n s) = seen F s := by
  refine seen_mono hF ?_
  conv_lhs => unfold discardObs; zeta
  split
  · unfold stickyIf
    split
    next h => simp [lt_of_portUp h]
    next => simp
  · rfl

@[simp] theorem joinObs_seen (n : Nat) (f : RxFrame) (a : ObsAsm) (s : State) (hF : Scope.Le ⟨[.bank, .io, .net, .mach, .dsp, .pai], [netCnt n, dspCnt, one Reg.DSP_HELD_MAX], (one Reg.DSP_STICKY :: raised), false, false⟩ F) :
    seen F (joinObs n f a s) = seen F s := seen_mono hF (by unfold joinObs; simp)

@[simp] theorem obsPart_seen (n : Nat) (f : RxFrame) (s : State) (hF : Scope.Le ⟨[.bank, .io, .net, .mach, .dsp, .pai], [netCnt n, dspCnt, one Reg.DSP_HELD_MAX], (one Reg.NFL_STICKY :: netSticky :: one Reg.DSP_STICKY :: raised), false, false⟩ F) :
    seen F (obsPart n f s) = seen F s := by
  refine seen_mono hF ?_
  conv_lhs => unfold obsPart; zeta
  (repeat' split) <;> simp

@[simp] theorem execObsFrame_seen (n : Nat) (s u : State) (hF : Scope.Le ⟨[.bank, .io, .net, .mach, .dsp, .pai], [paiCnt, netCnt n, dspCnt, one Reg.DSP_HELD_MAX], (one Reg.NFL_STICKY :: netSticky :: one Reg.DSP_STICKY :: raised), false, false⟩ F) :
    seen F (ran (execObsFrame n s) u) = seen F s := seen_mono hF (by unfold execObsFrame; simp)

@[simp] theorem execObsEpochTimeout_seen (m : Nat) (s u : State) (hF : Scope.Le ⟨[.io, .mach], [], netSticky :: raised, false, false⟩ F) :
    seen F (ran (execObsEpochTimeout m s) u) = seen F s := by
  refine seen_mono hF ?_
  dsimp only [execObsEpochTimeout, ran]
  split
  · split <;> simp
  · rfl

@[simp] theorem execOpstopFrame_seen (n : Nat) (s u : State) (hF : Scope.Le ⟨[.bank, .io, .recorder, .upd, .net, .cht, .nfl, .pai], [paiCnt, netCnt n, one Reg.NFL_REFUSE, nflCnt, recCnt], (netSticky :: one Reg.NFL_STICKY :: one Reg.REC_STICKY :: raised), false, false⟩ F) :
    seen F (ran (execOpstopFrame n s) u) = seen F s := by
  refine seen_mono hF ?_
  rw [execOpstopFrame, ran_next]
  split
  · rfl
  split
  · rfl
  next hserves =>
    have hn := lt_of_portServes (by simpa using hserves)
    split
    · simp
    split
    · simp [hn]
    · simp
    · rfl

@[simp] theorem withCmd_seen (ex op : Nat) {f : List Byte → State → State × Nat × List Byte} (s : State)
    (hf : ∀ b s, seen F (f b s).1 = seen F s) (hF : Scope.Le ⟨[.bank, .io, .dsp], [dspCnt], raised, false, false⟩ F) : seen F (withCmd ex op f s) = seen F s :=
  withJob_seen _ _ _ (fun j t => by
    rw [endJob_seen _ _ (.trans (by simp) hF), completeOpt_seen _ _ _ _ (.trans (by simp) hF), hf]) (.trans (by simp) hF)

@[simp] theorem activeOnly_seen {f : List Byte → State → State × Nat × List Byte} (b : List Byte) (s : State)
    (hf : seen F (f b s).1 = seen F s) (hF : Scope.Le ⟨[.bank], [paiCnt], [], false, false⟩ F) :
    seen F (activeOnly f b s).1 = seen F s := by
  conv_lhs => unfold activeOnly; zeta
  split
  · exact paiCount_seen (by decide) 1 s hF
  · exact hf

@[simp] theorem withCmd_activeOnly_seen (ex op : Nat) {f : List Byte → State → State × Nat × List Byte} (s : State)
    (hf : ∀ b s, seen F (f b s).1 = seen F s) (hF : Scope.Le ⟨[.bank, .io, .dsp], [dspCnt, paiCnt], raised, false, false⟩ F) :
    seen F (withCmd ex op (activeOnly f) s) = seen F s :=
  withCmd_seen _ _ _ (fun b t => activeOnly_seen b t (hf b t) (.trans (by simp) hF)) (.trans (by simp) hF)

@[simp] theorem setTask_seen (id : Nat) (st : TaskState) (h : Option Nat) (s : State) (hF : Scope.Le ⟨[.io, .tsk, .pai], [], raised, false, false⟩ F) :
    seen F (setTask id st h s) = seen F s := by
  refine seen_mono hF ?_
  unfold setTask
  simp

@[simp] theorem dropTask_seen (id : Nat) (s : State) (hF : Scope.Le ⟨[.io, .tsk, .pai], [], raised, false, false⟩ F) :
    seen F (dropTask id s) = seen F s := seen_mono hF (by unfold dropTask; simp)

@[simp] theorem taskRecord_seen (t : Task) (ev status : Nat) (s : State) (hF : Scope.Le ⟨[.io], [], (one Reg.TSK_STICKY :: raised), false, false⟩ F) :
    seen F (taskRecord t ev status s) = seen F s := seen_mono hF (by unfold taskRecord; simp)

@[simp] theorem sendTask_seen (m gen : Nat) (t : Task) (s : State) (hF : Scope.Le ⟨[.io, .net, .mach, .pai], [], (one Reg.NFL_STICKY :: netSticky :: raised), false, false⟩ F) :
    seen F (sendTask m gen t s) = seen F s := seen_mono hF (by unfold sendTask; simp)

@[simp] theorem taskEnqueue_seen (b : List Byte) (s : State) (hF : Scope.Le ⟨[.bank, .io, .tsk, .pai], [tskCnt], (one Reg.TSK_STICKY :: raised), false, false⟩ F) :
    seen F (taskEnqueue b s).1 = seen F s := seen_mono hF (by unfold taskEnqueue; simp)

@[simp] theorem execTaskEnqueue_seen (s u : State) (hF : Scope.Le ⟨[.bank, .io, .dsp, .tsk, .pai], [dspCnt, paiCnt, tskCnt], (one Reg.TSK_STICKY :: raised), false, false⟩ F) :
    seen F (ran (execTaskEnqueue s) u) = seen F s := seen_mono hF (by unfold execTaskEnqueue; simp)

@[simp] theorem taskCancel_seen (b : List Byte) (s : State) (hF : Scope.Le ⟨[.bank, .io, .tsk, .pai], [tskCnt], (one Reg.TSK_STICKY :: raised), false, false⟩ F) :
    seen F (taskCancel b s).1 = seen F s := by
  refine seen_mono hF ?_
  unfold taskCancel
  (repeat' split) <;> simp

@[simp] theorem taskRequeue_seen (b : List Byte) (s : State) (hF : Scope.Le ⟨[.bank, .io, .tsk, .pai], [tskCnt], (one Reg.TSK_STICKY :: raised), false, false⟩ F) :
    seen F (taskRequeue b s).1 = seen F s := by
  refine seen_mono hF ?_
  unfold taskRequeue
  (repeat' split) <;> simp

@[simp] theorem execTaskCancel_seen (s u : State) (hF : Scope.Le ⟨[.bank, .io, .dsp, .tsk, .pai], [dspCnt, paiCnt, tskCnt], (one Reg.TSK_STICKY :: raised), false, false⟩ F) :
    seen F (ran (execTaskCancel s) u) = seen F s := seen_mono hF (by unfold execTaskCancel; simp)

@[simp] theorem execTaskRequeue_seen (s u : State) (hF : Scope.Le ⟨[.bank, .io, .dsp, .tsk, .pai], [dspCnt, paiCnt, tskCnt], (one Reg.TSK_STICKY :: raised), false, false⟩ F) :
    seen F (ran (execTaskRequeue s) u) = seen F s := seen_mono hF (by unfold execTaskRequeue; simp)

@[simp] theorem taskAccepted_seen (t : Task) (s : State) (hF : Scope.Le ⟨[.io, .tsk, .pai], [], (one Reg.TSK_STICKY :: raised), false, false⟩ F) :
    seen F (taskAccepted t s) = seen F s := by
  refine seen_mono hF ?_
  unfold taskAccepted
  simp

@[simp] theorem ackIgnored_seen (s : State) (hF : Scope.Le ⟨[.tsk], [], [], false, false⟩ F) :
    seen F (ackIgnored s) = seen F s := seen_mono hF (by unfold ackIgnored; simp)

@[simp] theorem taskAck_seen (m id status : Nat) (s : State) (hF : Scope.Le ⟨[.bank, .io, .tsk, .pai], [tskCnt], (one Reg.TSK_STICKY :: raised), false, false⟩ F) :
    seen F (taskAck m id status s) = seen F s := by
  refine seen_mono hF ?_
  unfold taskAck
  (repeat' split) <;> simp

@[simp] theorem taskReturn_seen (m : Nat) (s : State) (hF : Scope.Le ⟨[.bank, .io, .tsk, .pai], [tskCnt], (one Reg.TSK_STICKY :: raised), false, false⟩ F) :
    seen F (taskReturn m s) = seen F s := by
  refine seen_mono hF ?_
  unfold taskReturn
  (repeat' split) <;> simp

@[simp] theorem taskSettle_seen (m gen reported : Nat) (s : State) (hF : Scope.Le ⟨[.bank, .io, .net, .mach, .tsk, .pai], [tskCnt], (one Reg.TSK_STICKY :: one Reg.NFL_STICKY :: netSticky :: raised), false, false⟩ F) :
    seen F (taskSettle m gen reported s) = seen F s := by
  refine seen_mono hF ?_
  unfold taskSettle
  (repeat' split) <;> simp

@[simp] theorem assignTask_seen (id m : Nat) (s : State) (hF : Scope.Le ⟨[.io, .tsk, .pai], [], raised, false, false⟩ F) :
    seen F (assignTask id m s) = seen F s := seen_mono hF (by unfold assignTask; simp)

@[simp] theorem allot_seen (m gen reported : Nat) (s : State) (hF : Scope.Le ⟨[.bank, .io, .net, .mach, .tsk, .pai], [tskCnt], (one Reg.TSK_STICKY :: one Reg.NFL_STICKY :: netSticky :: raised), false, false⟩ F) :
    seen F (allot m gen reported s) = seen F s := by
  refine seen_mono hF ?_
  conv_lhs => unfold allot; zeta
  (repeat' split) <;> simp

@[simp] theorem execAllot_seen (s u : State) (hF : Scope.Le ⟨[.bank, .io, .net, .mach, .dsp, .tsk, .pai], [dspCnt, tskCnt], (one Reg.TSK_STICKY :: one Reg.NFL_STICKY :: netSticky :: raised), false, false⟩ F) :
    seen F (ran (execAllot s) u) = seen F s := by
  refine seen_mono hF ?_
  unfold execAllot
  dsimp only [ran]
  refine withJob_seen _ _ _ (fun j t => ?_) (by simp)
  split <;> simp

@[simp] theorem execIntakeResume_seen (s u : State) (hF : Scope.Le ⟨[.dsp], [], [], false, false⟩ F) :
    seen F (ran (execIntakeResume s) u) = seen F s := seen_mono hF (by unfold execIntakeResume; simp)

@[simp] theorem execDspClearMax_seen (s u : State) (hF : Scope.Le ⟨[.bank], [one Reg.DSP_HELD_MAX], [], false, false⟩ F) :
    seen F (ran (execDspClearMax s) u) = seen F s := seen_mono hF (by unfold execDspClearMax; simp)

@[simp] theorem setIo_seen {io : Io} (s : State) (hstk : stkSeen F.stks io.stk = stkSeen F.stks s.io.stk)
    (hF : Scope.Le ⟨[.io], [], [], false, false⟩ F) : seen F (setIo io s) = seen F s := seen_with_io (hF.parts _ (by simp)) _ hstk

@[simp] theorem setRing_seen (r : Nat) (x : Ring) (s : State) (hF : Scope.Le ⟨[.io], [], [], false, false⟩ F) :
    seen F (setRing r x s) = seen F s := seen_with_io (hF.parts _ (by simp)) _ rfl

theorem withIo_seen {f : Io → Io × List Nat} (s : State) (hf : ∀ io, stkSeen F.stks (f io).1.stk = stkSeen F.stks io.stk)
    (hF : Scope.Le ⟨[.io], [], raised, false, false⟩ F) : seen F (withIo f s) = seen F s :=
  seen_with_io (hF.parts _ (by simp)) _ ((ioRaise_stkSeen hF.stks _ _ _ _).trans (hf _))

@[simp] theorem hifReject_seen (s : State) (hF : Scope.Le ⟨[.io], [], raised, false, false⟩ F) :
    seen F (hifReject s) = seen F s := seen_mono hF (by unfold hifReject; simp)

@[simp] theorem ringError_seen (r code : Nat) (s : State) (hF : Scope.Le ⟨[.io], [], raised, false, false⟩ F) :
    seen F (ringError r code s) = seen F s := seen_mono hF (by unfold ringError; simp)

@[simp] theorem execDoorbell_seen (r : Nat) (h : Word) (s u : State) (hF : Scope.Le ⟨[.io], [], raised, false, false⟩ F) :
    seen F (ran (execDoorbell r h s) u) = seen F s := by
  refine seen_mono hF ?_
  conv_lhs => unfold execDoorbell; zeta
  (repeat' split) <;> simp

@[simp] theorem execRingEnable_seen (r : Nat) (w : Word) (s u : State) (hF : Scope.Le ⟨[.io], [], raised, false, false⟩ F) :
    seen F (ran (execRingEnable r w s) u) = seen F s := seen_mono hF (by unfold execRingEnable; simp)

@[simp] theorem execRingDisable_seen (r : Nat) (s u : State) (hF : Scope.Le ⟨[.io], [], [], false, false⟩ F) :
    seen F (ran (execRingDisable r s) u) = seen F s := seen_mono hF (by unfold execRingDisable; simp)

@[simp] theorem takeEntry_seen (r : Nat) (s : State) (hF : Scope.Le ⟨[.io], [], raised, false, false⟩ F) :
    seen F (takeEntry r s) = seen F s := by
  refine seen_mono hF ?_
  unfold takeEntry
  dsimp only
  rw [withIo_seen _ (fun io => ringAdvance_stkSeen (fun _ h => h) _ _ _ _ io) (by simp)]
  simp

@[simp] theorem fetchEntry_seen (x : Ring) (e : List Byte) (opOk entryErr : Bool) (s : State) (hF : Scope.Le ⟨[.io], [], [], false, false⟩ F) :
    seen F (fetchEntry x e opOk entryErr s) = seen F s := seen_mono hF (by unfold fetchEntry; simp)

@[simp] theorem execCommandFetch_seen (r : Nat) (entry body : List Byte) (entryErr bodyErr : Bool) (s u : State) (hF : Scope.Le ⟨[.bank, .io, .dsp], [dspCnt, one Reg.DSP_HELD_MAX], (one Reg.DSP_STICKY :: raised), false, false⟩ F) :
    seen F (ran (execCommandFetch r entry body entryErr bodyErr s) u) = seen F s := seen_mono hF (by unfold execCommandFetch; simp)

@[simp] theorem execNop_seen (s u : State) (hF : Scope.Le ⟨[.bank, .io, .dsp], [dspCnt], raised, false, false⟩ F) :
    seen F (ran (execNop s) u) = seen F s := seen_mono hF (by unfold execNop; simp)

@[simp] theorem emptySlot_seen (k : Nat) (waits : Bool) (s : State) (hF : Scope.Le ⟨[.io, .pst, .pai], [], raised, false, false⟩ F) :
    seen F (emptySlot k waits s) = seen F s := seen_mono hF (by unfold emptySlot; simp)

@[simp] theorem resetSlot_seen (k : Nat) (s : State) (hF : Scope.Le ⟨[.io, .pst, .pai], [], raised, false, false⟩ F) :
    seen F (resetSlot k s) = seen F s := seen_mono hF (by unfold resetSlot; simp)

@[simp] theorem slotAfterSet_seen (m : Nat) (old new : MachEntry) (s : State) (hF : Scope.Le ⟨[.io, .pst, .pai], [], raised, false, false⟩ F) :
    seen F (slotAfterSet m old new s) = seen F s := seen_mono hF (by unfold slotAfterSet; simp)

@[simp] theorem slotSettle_seen (m : Nat) (s : State) (hF : Scope.Le ⟨[.io, .pst, .pai], [], raised, false, false⟩ F) :
    seen F (slotSettle m s) = seen F s := seen_mono hF (by unfold slotSettle; simp)

@[simp] theorem machineSet_seen (b : List Byte) (s : State) (hF : Scope.Le ⟨[.bank, .io, .recorder, .upd, .net, .mach, .pst, .cht, .tsk, .nfl, .pai], [one Reg.NFL_REFUSE, nflCnt, recCnt, tskCnt], (one Reg.NFL_STICKY :: one Reg.REC_STICKY :: one Reg.TSK_STICKY :: raised), false, false⟩ F) :
    seen F (machineSet b s).1 = seen F s := seen_mono hF (by unfold machineSet; simp)

@[simp] theorem execMachineSet_seen (s u : State) (hF : Scope.Le ⟨[.bank, .io, .recorder, .upd, .net, .mach, .pst, .cht, .dsp, .tsk, .nfl, .pai], [dspCnt, paiCnt, one Reg.NFL_REFUSE, nflCnt, recCnt, tskCnt], (one Reg.NFL_STICKY :: one Reg.REC_STICKY :: one Reg.TSK_STICKY :: raised), false, false⟩ F) :
    seen F (ran (execMachineSet s) u) = seen F s := seen_mono hF (by unfold execMachineSet; simp)

@[simp] theorem machineGet_seen (b : List Byte) (s : State) (hF : Scope.Le ⟨[], [], [], false, false⟩ F) :
    seen F (machineGet b s).1 = seen F s := seen_mono hF (by unfold machineGet; simp)

@[simp] theorem execMachineGet_seen (s u : State) (hF : Scope.Le ⟨[.bank, .io, .dsp], [dspCnt], raised, false, false⟩ F) :
    seen F (ran (execMachineGet s) u) = seen F s := seen_mono hF (by unfold execMachineGet; simp)

@[simp] theorem execNetTx_seen (r : Nat) (entry body frame : List Byte) (entryErr bodyErr frameErr : Bool) (s u : State) (hF : Scope.Le ⟨[.io, .net], [], (one Reg.NFL_STICKY :: raised), false, false⟩ F) :
    seen F (ran (execNetTx r entry body frame entryErr bodyErr frameErr s) u) = seen F s := seen_mono hF (by unfold execNetTx; simp)

@[simp] theorem deliverMask_seen (g : Nat) (w : Word) (s : State) (hF : Scope.Le ⟨[.io], [], raised, false, false⟩ F) :
    seen F (deliverMask g w s) = seen F s := by
  unfold deliverMask
  rw [seen_foldl fun s b => ?_]
  split
  · exact withIo_seen _ (fun io => deliver_stkSeen hF.stks _ _ _ _ io) hF
  · rfl

@[simp] theorem execEventEnable_seen (g : Nat) (w : Word) (s u : State) (hF : Scope.Le ⟨[.io], [], raised, false, false⟩ F) :
    seen F (ran (execEventEnable g w s) u) = seen F s := by
  refine seen_mono hF ?_
  dsimp only [execEventEnable, ran]
  split <;> simp

@[simp] theorem execVectorModerationEnd_seen (v : Nat) (s u : State) (hF : Scope.Le ⟨[.io], [], raised, false, false⟩ F) :
    seen F (ran (execVectorModerationEnd v s) u) = seen F s := by
  refine seen_mono hF ?_
  conv_lhs => unfold execVectorModerationEnd; zeta
  dsimp only [ran]
  (repeat' split)
  · rfl
  · rw [withIo_seen _ (fun io => vecTrigger_stkSeen (fun _ h => h) _ _ _ io) (by simp)]
    simp
  · simp

@[simp] theorem sendPending_seen (s : State) (hF : Scope.Le ⟨[.io], [], raised, false, false⟩ F) :
    seen F (sendPending s) = seen F s :=
  seen_foldl (fun t _ => withIo_seen t (fun io => vecTrigger_stkSeen hF.stks _ _ _ io) hF) _ s

@[simp] theorem execMsixUnmask_seen (x : MsixWrite) (s u : State) (hF : Scope.Le ⟨[.io], [], raised, false, false⟩ F) :
    seen F (ran (execMsixUnmask x s) u) = seen F s := by
  refine seen_mono hF ?_
  conv_lhs => unfold execMsixUnmask; zeta
  dsimp only [ran]
  (repeat' split)
  · rfl
  · rw [withIo_seen _ (fun io => vecTrigger_stkSeen (fun _ h => h) _ _ _ io) (by simp)]
    simp
  all_goals simp

@[simp] theorem dmaFlush_seen (s : State) (hF : Scope.Le ⟨[.io, .cht], [], raised, false, false⟩ F) :
    seen F (dmaFlush s) = seen F s := seen_mono hF (by unfold dmaFlush; simp [↓seen_emit, ↓seen_foldl, ↓seen_ite, ↓seen_stickyIf, ↓seen_with_cht, ↓seen_with_io])

@[simp] theorem execPcieReset_seen (s u : State) (hF : Scope.Le ⟨[.bank, .io, .crp, .acq, .net, .cht, .dsp], [], raised, false, false⟩ F) :
    seen F (ran (execPcieReset s) u) = seen F s := by
  refine seen_mono hF (.trans ?_ (dmaFlush_seen s (by simp)))
  refine seen_mk (s := dmaFlush s) (.inr ⟨by simp, funext fun _ => rfl⟩) (.inr ⟨by simp, ?_⟩) (.inl rfl) (.inl rfl) (.inr (by simp))
    (.inl rfl) (.inl rfl) (.inr (by simp)) (.inl rfl) (.inl rfl) (.inr (by simp)) (.inl rfl) (.inl rfl) (.inl rfl) (.inr (by simp))
    (.inl rfl) (.inl rfl) (.inl rfl) (.inl rfl) (.inl rfl)
  rw [stkSeen_set (by simp)]

@[simp] theorem execDmaHold_seen (s u : State) (hF : Scope.Le ⟨[.io], [], raised, false, false⟩ F) :
    seen F (ran (execDmaHold s) u) = seen F s := seen_mono hF (by unfold execDmaHold; simp)

@[simp] theorem flushRing_seen (s : State) (r : Nat) (hF : Scope.Le ⟨[.io], [], raised, false, false⟩ F) :
    seen F (flushRing s r) = seen F s := by
  refine seen_mono hF ?_
  conv_lhs => unfold flushRing; zeta
  split
  · rfl
  split
  · rw [withIo_seen _ (fun io => ringFail_stkSeen (fun _ h => h) _ io) (by simp)]
    simp [↓setRing_seen]
  · split <;> simp [↓seen_emit, ↓seen_foldl, ↓seen_ite, ↓seen_perf, ↓seen_sticky, ↓seen_with_io, ↓setRing_seen]

@[simp] theorem execDmaResume_seen (s u : State) (hF : Scope.Le ⟨[.io, .cht], [], raised, false, false⟩ F) :
    seen F (ran (execDmaResume s) u) = seen F s := by
  refine seen_mono hF ?_
  conv_lhs => unfold execDmaResume; zeta
  dsimp only [ran]
  (repeat' split) <;> simp [↓dmaFlush_seen, ↓flushRing_seen, ↓seen_emit, ↓seen_foldl, ↓seen_ite, ↓seen_with_io, ↓sendPending_seen]

@[simp] theorem clearRegs_seen (lo hi : Nat) (s : State) (hF : Scope.Le ⟨[.bank], [between lo hi], [], false, false⟩ F) :
    seen F (clearRegs lo hi s) = seen F s := by
  refine seen_mono hF (seen_with_bank (by simp) _ ?_)
  refine regSeen_filter (p := fun a => a < lo || decide (hi ≤ a)) (q := fun a => a < lo || decide (hi ≤ a)) ?_ ?_ _ _ _ <;>
  · intro a ha
    simp at ha ⊢
    omega

@[simp] theorem clearStk_seen (lo hi : Nat) (s : State) (hF : Scope.Le ⟨[.io], [], [between lo hi], false, false⟩ F) :
    seen F (clearStk lo hi s) = seen F s := by
  refine seen_mono hF (seen_with_io (by simp) _ ?_)
  refine stkSeen_filter (p := fun a => a < lo || decide (hi ≤ a)) ?_ _
  intro a ha
  simp at ha ⊢
  omega

@[simp] theorem setPd_seen (k : Nat) (v : PdState) (s : State) (hF : Scope.Le ⟨[.crp], [], [], false, false⟩ F) :
    seen F (setPd k v s) = seen F s := seen_mono hF (by unfold setPd; simp)

@[simp] theorem setCtx_seen (ch : Nat) (c : Ctx) (s : State) (hc : c.acc = (ctx s ch).acc ∨ F.signal = true)
    (hF : Scope.Le ⟨[.cor], [], [], false, false⟩ F) : seen F (setCtx ch c s) = seen F s := by
  refine seen_with_cor (hF.parts _ (by simp)) _ (hc.imp_left fun hc => ?_)
  simp only [corData_eq, Prod.mk.injEq, and_true, true_and]
  funext i
  by_cases hi : i = ch
  · rw [hi, Tab.get_put_same, hc, ctx]
  · rw [Tab.get_put_ne _ _ _ hi]

@[simp] theorem setUnit_seen (u : Nat) (x : CorUnit) (s : State) (hx : x.dumps = (corUnit s u).dumps ∨ F.signal = true)
    (hF : Scope.Le ⟨[.cor], [], [], false, false⟩ F) : seen F (setUnit u x s) = seen F s := by
  refine seen_with_cor (hF.parts _ (by simp)) _ (hx.imp_left fun hx => ?_)
  simp only [corData_eq, Prod.mk.injEq, and_true]
  funext i
  by_cases hi : i = u
  · rw [hi, Tab.get_put_same, hx, corUnit]
  · rw [Tab.get_put_ne _ _ _ hi]

@[simp] theorem setCapture_seen (id : Nat) (c : Capture) (s : State) (hF : Scope.Le ⟨[.acq], [], [], false, false⟩ F) :
    seen F (setCapture id c s) = seen F s := seen_mono hF (by unfold setCapture; simp)

@[simp] theorem releaseDue_seen (s : State) (hF : Scope.Le ⟨[.acq], [], [], false, false⟩ F) :
    seen F (releaseDue s) = seen F s := seen_mono hF (by unfold releaseDue; simp)

@[simp] theorem runEnds_seen (ch : Nat) (c : Ctx) (st : CtxState) (s : State) (hF : Scope.Le ⟨[.cor], [], [], false, false⟩ F) :
    seen F (runEnds ch c st s) = seen F s := seen_mono hF (by unfold runEnds; simp)

@[simp] theorem ctxIdle_seen (ch : Nat) (c : Ctx) (s : State) (hF : Scope.Le ⟨[.cor, .acq], [], [], false, true⟩ F) :
    seen F (ctxIdle ch c s) = seen F s := seen_mono hF (by unfold ctxIdle; simp)

@[simp] theorem resetCorr_seen (r : Nat) (s : State) (hF : Scope.Le ⟨[.bank, .cor, .acq], [one (Reg.COR_QUAR r), between (Reg.COR_CFG (512 * r)) (Reg.COR_CFG (512 * (r + 1)))], [], false, true⟩ F) :
    seen F (resetCorr r s) = seen F s := seen_mono hF (by unfold resetCorr; simp)

@[simp] theorem resetAcq_seen (s : State) (hF : Scope.Le ⟨[.bank, .io, .acq], [between 8388608 9437184], [between 8388608 9437184], false, false⟩ F) :
    seen F (resetAcq s) = seen F s := seen_mono hF (by unfold resetAcq; simp)

@[simp] theorem acqLost_seen (s : State) (hF : Scope.Le ⟨[.bank, .io, .acq], [between 8388608 9437184], [between 8388608 9437184], false, true⟩ F) :
    seen F (acqLost s) = seen F s := seen_mono hF (by unfold acqLost; simp [↓resetAcq_seen, ↓seen_with_acq])

@[simp] theorem setIng_seen (g : Ing) (s : State) (hF : Scope.Le ⟨[.ing], [], [], false, false⟩ F) :
    seen F (setIng g s) = seen F s := seen_mono hF (by unfold setIng; simp)

@[simp] theorem setAnt_seen (n : Nat) (a : Ant) (s : State) (hF : Scope.Le ⟨[.ing], [], [], false, false⟩ F) :
    seen F (setAnt n a s) = seen F s := seen_mono hF (by unfold setAnt; simp)

@[simp] theorem execBridgeLaneFail_seen (s u : State) (hF : Scope.Le ⟨[.io, .ing], [], (one Reg.GLB_ERR :: raised), false, false⟩ F) :
    seen F (ran (execBridgeLaneFail s) u) = seen F s := seen_mono hF (by unfold execBridgeLaneFail; simp)

@[simp] theorem execBridgeSilent_seen (s u : State) (hF : Scope.Le ⟨[.bank, .io, .recorder, .upd, .ing, .tim, .net, .cht, .nfl, .pai, .free], [one Reg.NFL_REFUSE, nflCnt, recCnt], (one Reg.NFL_STICKY :: one Reg.REC_STICKY :: one Reg.TIM_STICKY :: one Reg.GLB_ERR :: raised), false, false⟩ F) :
    seen F (ran (execBridgeSilent s) u) = seen F s := seen_mono hF (by unfold execBridgeSilent; simp)

@[simp] theorem tripCheck_seen (s : State) (hF : Scope.Le ⟨[.crp], [], [], false, false⟩ F) :
    seen F (tripCheck s) = seen F s := seen_mono hF (by unfold tripCheck; simp)

@[simp] theorem tripDie_seen (old new : Word) (s : State) (k : Nat) (hF : Scope.Le ⟨[.bank, .io, .recorder, .crp], [recCnt], (one Reg.REC_STICKY :: one Reg.GLB_ERR :: raised), false, false⟩ F) :
    seen F (tripDie old new s k) = seen F s := seen_mono hF (by unfold tripDie; simp)

@[simp] theorem execThermalSample_seen (bb fl nv : Int) (s u : State) (hF : Scope.Le ⟨[.bank, .io, .recorder, .crp], [one Reg.GLB_TEMP, recCnt], (one Reg.GLB_ERR :: one Reg.REC_STICKY :: raised), false, false⟩ F) :
    seen F (ran (execThermalSample bb fl nv s) u) = seen F s := seen_mono hF (by unfold execThermalSample; simp)

@[simp] theorem execThermalTripClear_seen (w : Word) (s u : State) (hF : Scope.Le ⟨[.io, .crp], [], [one Reg.GLB_ERR], false, false⟩ F) :
    seen F (ran (execThermalTripClear w s) u) = seen F s := seen_mono hF (by dsimp only [execThermalTripClear, ran]; simp)

@[simp] theorem antSwitch_seen (w : Word) (s : State) (n : Nat) (hF : Scope.Le ⟨[.ing], [], [], false, false⟩ F) :
    seen F (antSwitch w s n) = seen F s := seen_mono hF (by unfold antSwitch; simp)

@[simp] theorem execAntEn_seen (w : Word) (s u : State) (hF : Scope.Le ⟨[.bank, .ing], [one Reg.ING_CTRL], [], false, false⟩ F) :
    seen F (ran (execAntEn w s) u) = seen F s := seen_mono hF (by unfold execAntEn; simp)

@[simp] theorem execCodeGroupSync_seen (n : Nat) (s u : State) (hF : Scope.Le ⟨[.ing], [], [], false, false⟩ F) :
    seen F (ran (execCodeGroupSync n s) u) = seen F s := seen_mono hF (by unfold execCodeGroupSync; simp)

@[simp] theorem sysrefTake_seen (phases : List (BitVec 5)) (s : State) (n : Nat) (hF : Scope.Le ⟨[.io, .ing], [], (one Reg.ING_STICKY :: raised), false, false⟩ F) :
    seen F (sysrefTake phases s n) = seen F s := seen_mono hF (by unfold sysrefTake; simp)

@[simp] theorem execSysrefPulse_seen (phases : List (BitVec 5)) (s u : State) (hF : Scope.Le ⟨[.io, .ing], [], (one Reg.ING_STICKY :: raised), false, false⟩ F) :
    seen F (ran (execSysrefPulse phases s) u) = seen F s := seen_mono hF (by unfold execSysrefPulse; simp)

@[simp] theorem execIlasReceived_seen (n : Nat) (octets : List Byte) (s u : State) (hF : Scope.Le ⟨[.bank, .io, .ing], [words (Reg.ING_ILAS n) 4], (one Reg.ING_STICKY :: raised), false, false⟩ F) :
    seen F (ran (execIlasReceived n octets s) u) = seen F s := by
  refine seen_mono hF ?_
  conv_lhs => unfold execIlasReceived; zeta
  dsimp only [ran]
  split
  · split
    · simp
    · rw [seen_sticky (by simp) (by simp), setAnt_seen _ _ _ (by simp), seen_foldl_range fun i hi t => by simp [hi]]
  · rfl

@[simp] theorem markAnt_seen (n : Nat) {f : Ctx → Ctx} (s : State) (hf : ∀ c, (f c).acc = c.acc) (hF : Scope.Le ⟨[.cor], [], [], false, false⟩ F) :
    seen F (markAnt n f s) = seen F s := by
  refine seen_with_cor (hF.parts _ (by simp)) _ (.inl ?_)
  have hg (c : Ctx) : (if c.state = .run ∧ bits c.cfg 1 0 = n ∧ bitAt c.cfg 13 = false then f c else c).acc = c.acc := by
    split
    · exact hf c
    · rfl
  simp only [corData_eq, acc_get_map hg]

@[simp] theorem linkLoss_seen (n : Nat) (cdrLost : Bool) (s : State) (hF : Scope.Le ⟨[.bank, .io, .ing], [one (Reg.ING_ERRCNT n)], (one Reg.ING_STICKY :: raised), false, false⟩ F) :
    seen F (linkLoss n cdrLost s) = seen F s := seen_mono hF (by unfold linkLoss; simp)

@[simp] theorem execCodeErr_seen (n : Nat) (s u : State) (hF : Scope.Le ⟨[.bank, .io, .ing, .cor], [one (Reg.ING_ERRCNT n)], (one Reg.ING_STICKY :: raised), false, false⟩ F) :
    seen F (ran (execCodeErr n s) u) = seen F s := by
  refine seen_mono hF ?_
  conv_lhs => unfold execCodeErr; zeta
  (repeat' split) <;> simp

@[simp] theorem execLinkLoss_seen (n : Nat) (cdrLost : Bool) (s u : State) (hF : Scope.Le ⟨[.bank, .io, .ing], [one (Reg.ING_ERRCNT n)], (one Reg.ING_STICKY :: raised), false, false⟩ F) :
    seen F (ran (execLinkLoss n cdrLost s) u) = seen F s := seen_mono hF (by unfold execLinkLoss; simp)

@[simp] theorem execIngClipLoad_seen (n : Nat) (clipped : List Nat) (s u : State) (hF : Scope.Le ⟨[.bank, .ing], [one (Reg.ING_CLIP n)], [], false, false⟩ F) :
    seen F (ran (execIngClipLoad n clipped s) u) = seen F s := seen_mono hF (by unfold execIngClipLoad; simp)

@[simp] theorem execIngLatencyWrite_seen (n : Nat) (w : Word) (s u : State) (hF : Scope.Le ⟨[.bank, .ing], [one (Reg.ING_LATENCY n)], [], false, false⟩ F) :
    seen F (ran (execIngLatencyWrite n w s) u) = seen F s := seen_mono hF (by unfold execIngLatencyWrite; simp)

@[simp] theorem execLatencyStep_seen (n : Nat) (s u : State) (hF : Scope.Le ⟨[.ing, .cor], [], [], false, false⟩ F) :
    seen F (ran (execLatencyStep n s) u) = seen F s := by
  refine seen_mono hF ?_
  conv_lhs => unfold execLatencyStep; zeta
  split <;> simp

@[simp] theorem boundary_seen (ch : Nat) (last : Bool) (c : Ctx) (s : State) (hF : Scope.Le ⟨[.io, .cor, .acq], [], (one Reg.COR_STICKY :: raised), false, true⟩ F) :
    seen F (boundary ch last c s) = seen F s := seen_mono hF (by unfold boundary; simp)

@[simp] theorem takeSample_seen (ch : Nat) (x : Option (Int × Int)) (s : State) (hF : Scope.Le ⟨[.io, .cor, .acq], [], (one Reg.COR_STICKY :: raised), false, true⟩ F) :
    seen F (takeSample ch x s) = seen F s := by
  refine seen_mono hF ?_
  conv_lhs => unfold takeSample; zeta
  (repeat' split) <;> simp

theorem toBoundary_seen {ch : Nat} {l : List (Option (Int × Int))} {s t : State} (ht : toBoundary ch l s = some t)
    (hF : Scope.Le ⟨[.io, .cor, .acq], [], (one Reg.COR_STICKY :: raised), false, true⟩ F) : seen F t = seen F s := by
  induction l generalizing s with
  | nil => simp [toBoundary] at ht
  | cons x xs ih =>
    simp only [toBoundary] at ht
    split at ht
    · exact Option.some.inj ht ▸ takeSample_seen _ _ _ hF
    · exact (ih ht).trans (takeSample_seen _ _ _ hF)

@[simp] theorem execIntegrationBoundary_seen (ch : Nat) (frames : List LaneFrame) (s u : State) (hF : Scope.Le ⟨[.io, .cor, .acq], [], (one Reg.COR_STICKY :: raised), false, true⟩ F) :
    seen F (ran (execIntegrationBoundary ch frames s) u) = seen F s := by
  refine seen_mono hF ?_
  conv_lhs => unfold execIntegrationBoundary; zeta
  dsimp only [ran]
  split
  · rfl
  split
  · cases h : toBoundary ch (replaySamples s (ctx s ch)) s with
    | none => rfl
    | some t => exact toBoundary_seen h (by simp)
  · simp

@[simp] theorem execReplayCaptureEnd_seen (ch id : Nat) (s u : State) (hF : Scope.Le ⟨[.io, .cor, .acq], [], (one Reg.COR_STICKY :: raised), false, true⟩ F) :
    seen F (ran (execReplayCaptureEnd ch id s) u) = seen F s := seen_mono hF (by unfold execReplayCaptureEnd; simp)

@[simp] theorem dumpLost_seen (ch : Nat) (b : List Byte) (s : State) (hF : Scope.Le ⟨[.cor], [], [], false, true⟩ F) :
    seen F (dumpLost ch b s) = seen F s := seen_mono hF (by unfold dumpLost; simp)

@[simp] theorem execDumpDelivery_seen (u : Nat) (s s₀ : State) (hF : Scope.Le ⟨[.io, .crp, .ing, .cor], [], (one Reg.COR_STICKY :: raised), false, true⟩ F) :
    seen F (ran (execDumpDelivery u s) s₀) = seen F s := by
  refine seen_mono hF ?_
  conv_lhs => unfold execDumpDelivery; zeta
  dsimp only [ran]
  split <;> simp [↓bridgeHeard_seen, ↓dropTaken_seen, ↓dumpLost_seen, ↓seen_emit, ↓seen_ite, ↓seen_perf, ↓seen_sticky, ↓seen_with_cor, ↓setCtx_seen, ↓setUnit_seen]

@[simp] theorem ctxRefuse_seen (s : State) (hF : Scope.Le ⟨[.io], [], (one Reg.COR_STICKY :: raised), false, false⟩ F) :
    seen F (ctxRefuse s) = seen F s := seen_mono hF (by unfold ctxRefuse; simp)

@[simp] theorem execStart_seen (ch : Nat) (s u : State) (hF : Scope.Le ⟨[.io, .cor], [], (one Reg.COR_STICKY :: raised), false, true⟩ F) :
    seen F (ran (execStart ch s) u) = seen F s := by
  refine seen_mono hF ?_
  conv_lhs => unfold execStart; zeta
  (repeat' split) <;> simp

@[simp] theorem execStopAt_seen (ch : Nat) (s u : State) (hF : Scope.Le ⟨[.io, .cor, .acq], [], (one Reg.COR_STICKY :: raised), false, true⟩ F) :
    seen F (ran (execStopAt ch s) u) = seen F s := by
  refine seen_mono hF ?_
  conv_lhs => unfold execStopAt; zeta
  (repeat' split) <;> simp

@[simp] theorem execAbort_seen (ch : Nat) (s u : State) (hF : Scope.Le ⟨[.io, .cor, .acq], [], (one Reg.COR_STICKY :: raised), false, true⟩ F) :
    seen F (ran (execAbort ch s) u) = seen F s := by
  refine seen_mono hF ?_
  conv_lhs => unfold execAbort; zeta
  (repeat' split) <;> simp

@[simp] theorem execContextRun_seen (ch : Nat) (s u : State) (hF : Scope.Le ⟨[.cor], [], [], false, true⟩ F) :
    seen F (ran (execContextRun ch s) u) = seen F s := seen_mono hF (by unfold execContextRun; simp)

theorem cfgCore_lt (c : Ctx) : cfgCore c < 4 := by
  unfold cfgCore bits
  omega

@[simp] theorem corePerf_seen {core : Nat} (hcore : core < 16) (ev : Nat) (s : State) (hF : Scope.Le ⟨[.io], [], raised, false, false⟩ F) :
    seen F (corePerf core ev s) = seen F s := by
  conv_lhs => unfold corePerf; zeta
  split
  · rfl
  · refine seen_foldl_mem (fun k hk t => withIo_seen t (fun io => ctrAdd_stkSeen hF.stks _ ?_ _ io) hF) s
    simp only [List.mem_map, List.mem_filter, Bool.and_eq_true, decide_eq_true_eq] at hk
    obtain ⟨e, ⟨_, ⟨he, _⟩, _⟩, rfl⟩ := hk
    omega

@[simp] theorem execRateMessage_seen (ch : Nat) (code carr : BitVec 64) (s u : State) (hF : Scope.Le ⟨[.io, .ing, .cor], [], raised, false, true⟩ F) :
    seen F (ran (execRateMessage ch code carr s) u) = seen F s := by
  refine seen_mono hF ?_
  have hcore : 4 + cfgCore (ctx s ch) < 16 := by have := cfgCore_lt (ctx s ch); omega
  conv_lhs => unfold execRateMessage; zeta
  dsimp only [ran]
  simp [hcore, ↓bridgeHeard_seen, ↓corePerf_seen, ↓seen_ite, ↓seen_with_cor, ↓setCtx_seen]

@[simp] theorem execCodeRateHi_seen (ch : Nat) (w : Word) (s u : State) (hF : Scope.Le ⟨[.bank, .io, .cor], [one (Reg.COR_CODE_RATE_HI ch), one (Reg.COR_CODE_RATE_LO ch)], (one Reg.COR_STICKY :: raised), false, true⟩ F) :
    seen F (ran (execCodeRateHi ch w s) u) = seen F s := seen_mono hF (by unfold execCodeRateHi; simp)

@[simp] theorem execCarrRateHi_seen (ch : Nat) (w : Word) (s u : State) (hF : Scope.Le ⟨[.bank, .io, .cor], [one (Reg.COR_CARR_RATE_HI ch), one (Reg.COR_CARR_RATE_LO ch)], (one Reg.COR_STICKY :: raised), false, true⟩ F) :
    seen F (ran (execCarrRateHi ch w s) u) = seen F s := seen_mono hF (by unfold execCarrRateHi; simp)

@[simp] theorem stopUnit_seen (u : Nat) (s : State) (hF : Scope.Le ⟨[.cor, .acq], [], [], false, true⟩ F) :
    seen F (stopUnit u s) = seen F s := seen_mono hF (by unfold stopUnit; simp)

@[simp] theorem corrMismatch_seen (u k : Nat) (s : State) (hF : Scope.Le ⟨[.bank, .io, .recorder, .cor, .acq], [one Reg.COR_MISMATCH_CNT, recCnt, one (Reg.COR_QUAR (u / 32))], (one Reg.COR_STICKY :: one Reg.REC_STICKY :: raised), false, true⟩ F) :
    seen F (corrMismatch u k s) = seen F s := by
  refine seen_mono hF ?_
  conv_lhs => unfold corrMismatch; zeta
  (repeat' split) <;> simp

@[simp] theorem execCorrMismatchEvent_seen (u k : Nat) (s s₀ : State) (hF : Scope.Le ⟨[.bank, .io, .recorder, .cor, .acq], [one Reg.COR_MISMATCH_CNT, recCnt, one (Reg.COR_QUAR (u / 32))], (one Reg.COR_STICKY :: one Reg.REC_STICKY :: raised), false, true⟩ F) :
    seen F (ran (execCorrMismatchEvent u k s) s₀) = seen F s := by
  refine seen_mono hF ?_
  unfold execCorrMismatchEvent
  simp

@[simp] theorem execCorInject_seen (w : Word) (s u : State) (hF : Scope.Le ⟨[.bank, .io, .recorder, .cor, .acq, .free], [one Reg.COR_MISMATCH_CNT, recCnt, one (Reg.COR_QUAR (bits w 6 0 / 32))], (one Reg.COR_STICKY :: one Reg.REC_STICKY :: raised), false, true⟩ F) :
    seen F (ran (execCorInject w s) u) = seen F s := seen_mono hF (by unfold execCorInject; simp)

@[simp] theorem execCorCodeData_seen (w : Word) (s u : State) (hF : Scope.Le ⟨[.bank, .cor], [one Reg.COR_CODE_ADDR], [], false, true⟩ F) :
    seen F (ran (execCorCodeData w s) u) = seen F s := seen_mono hF (by unfold execCorCodeData; simp)

@[simp] theorem lockFrom_acc (ns : Nat) (c : Ctx) : (lockFrom ns c).acc = c.acc := by
  simp only [lockFrom]

@[simp] theorem lockJoin_acc (s : State) (e : Nat) (o : ChanObs) (c : Ctx) : (lockJoin s e o c).acc = c.acc := by
  unfold lockJoin
  extract_lets c1
  have h1 : c1.acc = c.acc := by
    unfold c1
    (repeat' split) <;> simp
  clear_value c1
  (repeat' split) <;> simp [h1]

@[simp] theorem lockObs_seen (e : Nat) (s : State) (o : ChanObs) (hF : Scope.Le ⟨[.cor], [], [], false, false⟩ F) :
    seen F (lockObs e s o) = seen F s := seen_mono hF (by unfold lockObs; simp)

@[simp] theorem setAcq_seen (a : Acq) (s : State) (ha : a.code = s.acq.code ∨ F.signal = true)
    (hF : Scope.Le ⟨[.acq], [], [], false, false⟩ F) : seen F (setAcq a s) = seen F s := seen_with_acq (hF.parts _ (by simp)) _ ha

@[simp] theorem allocCapture_seen (mask len startMs state stored : Nat) (late : Bool) (s : State) (hF : Scope.Le ⟨[.acq, .free], [], [], false, false⟩ F) :
    seen F (allocCapture mask len startMs state stored late s) = seen F s := seen_mono hF (by unfold allocCapture; simp)

@[simp] theorem execCapture_seen (s u : State) (hF : Scope.Le ⟨[.io, .acq, .free], [], (one Reg.ACQ_STICKY :: raised), false, false⟩ F) :
    seen F (ran (execCapture s) u) = seen F s := seen_mono hF (by unfold execCapture; simp)

@[simp] theorem execCaptureRelease_seen (id : Nat) (s u : State) (hF : Scope.Le ⟨[.acq], [], [], false, false⟩ F) :
    seen F (ran (execCaptureRelease id s) u) = seen F s := seen_mono hF (by unfold execCaptureRelease; simp)

@[simp] theorem execCaptureWindowStart_seen (id : Nat) (s u : State) (hF : Scope.Le ⟨[.acq], [], [], false, false⟩ F) :
    seen F (ran (execCaptureWindowStart id s) u) = seen F s := seen_mono hF (by unfold execCaptureWindowStart; simp)

@[simp] theorem execCaptureWindowEnd_seen (w : WindowFrames) (s u : State) (hF : Scope.Le ⟨[.acq], [], [], false, false⟩ F) :
    seen F (ran (execCaptureWindowEnd w s) u) = seen F s := seen_mono hF (by unfold execCaptureWindowEnd; simp)

@[simp] theorem incHalf_seen (a lo : Nat) (s : State) (hF : Scope.Le ⟨[.bank], [one a], [], false, false⟩ F) :
    seen F (incHalf a lo s) = seen F s := seen_mono hF (by unfold incHalf; simp)

@[simp] theorem makeRoom_seen (need n : Nat) (s : State) (hF : Scope.Le ⟨[.bank, .io, .acq], [one Reg.ACQ_SNAP_COUNT], one Reg.ACQ_STICKY :: raised, false, false⟩ F) :
    seen F (makeRoom need n s) = seen F s := by
  refine seen_mono hF ?_
  induction n generalizing s with
  | zero => rfl
  | succ n ih =>
    unfold makeRoom
    split
    · rfl
    split
    · rfl
    · rw [ih]
      simp

@[simp] theorem execSnapshotScheduledCapture_seen (s u : State) (hF : Scope.Le ⟨[.bank, .acq, .free, .io], [one Reg.ACQ_SNAP_COUNT], (one Reg.ACQ_STICKY :: raised), false, false⟩ F) :
    seen F (ran (execSnapshotScheduledCapture s) u) = seen F s := by
  refine seen_mono hF ?_
  conv_lhs => unfold execSnapshotScheduledCapture; zeta
  (repeat' split) <;> simp

@[simp] theorem snapGets_seen (q : Search) (bytes : List Byte) (s : State) (hF : Scope.Le ⟨[.acq], [], [], false, false⟩ F) :
    seen F (snapGets q bytes s) = seen F s := seen_mono hF (by unfold snapGets; simp)

@[simp] theorem endSearch_seen (q : Search) (status blocks : Nat) (noise : Option Nat) (peaks : List Peak) (s : State) (hF : Scope.Le ⟨[.io, .acq, .free], [], raised, false, false⟩ F) :
    seen F (endSearch q status blocks noise peaks s) = seen F s := seen_mono hF (by unfold endSearch; simp)

@[simp] theorem enqueueSearch_seen (q : Search) (s : State) (hF : Scope.Le ⟨[.io, .acq, .free], [], (one Reg.ACQ_STICKY :: raised), false, false⟩ F) :
    seen F (enqueueSearch q s) = seen F s := seen_mono hF (by unfold enqueueSearch; simp)

@[simp] theorem execAcqJob_seen (w : Word) (s u : State) (hF : Scope.Le ⟨[.io, .acq, .free], [], (one Reg.ACQ_STICKY :: raised), false, false⟩ F) :
    seen F (ran (execAcqJob w s) u) = seen F s := seen_mono hF (by unfold execAcqJob; simp)

@[simp] theorem execAcqSearch_seen (s u : State) (hF : Scope.Le ⟨[.bank, .io, .acq, .dsp, .free], [dspCnt], (one Reg.ACQ_STICKY :: raised), false, false⟩ F) :
    seen F (ran (execAcqSearch s) u) = seen F s := seen_mono hF (by unfold execAcqSearch; simp)

theorem dropExpired_seen {s t : State} {q : Search} (h : dropExpired s = some (q, t)) (hF : Scope.Le ⟨[.acq], [], [], false, false⟩ F) :
    seen F t = seen F s := by
  refine seen_mono hF ?_
  unfold dropExpired at h
  split at h
  · cases h
    simp
  · split at h <;> cases h
    simp

@[simp] theorem execSearchStart_seen (pipe : Nat) (s u : State) (hF : Scope.Le ⟨[.io, .acq, .free], [], raised, false, false⟩ F) :
    seen F (ran (execSearchStart pipe s) u) = seen F s := by
  refine seen_mono hF ?_
  unfold execSearchStart
  dsimp only [ran]
  split
  next q t h =>
    have ht := dropExpired_seen (F := ⟨[.io, .acq, .free], [], raised, false, false⟩) h (by simp)
    simp [ht]
  · split
    · rfl
    split <;> simp

@[simp] theorem acqDownCheck_seen (s : State) (hF : Scope.Le ⟨[.bank, .io, .crp, .acq], [between 8388608 9437184], [between 8388608 9437184], false, true⟩ F) :
    seen F (acqDownCheck s) = seen F s := seen_mono hF (by unfold acqDownCheck; simp)

@[simp] theorem execSearchComplete_seen (pipe : Nat) (s u : State) (hF : Scope.Le ⟨[.bank, .io, .crp, .acq, .free], [between 8388608 9437184], (between 8388608 9437184 :: raised), false, true⟩ F) :
    seen F (ran (execSearchComplete pipe s) u) = seen F s := by
  refine seen_mono hF ?_
  unfold execSearchComplete
  split <;> simp

@[simp] theorem putSnap_seen (x : Snap) (s : State) (hF : Scope.Le ⟨[.acq], [], [], false, false⟩ F) :
    seen F (putSnap x s) = seen F s := seen_mono hF (by unfold putSnap; simp)

@[simp] theorem endSnap_seen (x : Snap) (status : Nat) (s : State) (hF : Scope.Le ⟨[.bank, .io, .acq, .net, .mach, .pai], [one Reg.ACQ_RSNAP_COUNT], (one Reg.NFL_STICKY :: netSticky :: raised), false, false⟩ F) :
    seen F (endSnap x status s) = seen F s := seen_mono hF (by unfold endSnap; simp)

@[simp] theorem dropSnapJob_seen (handle : Nat) (s : State) (hF : Scope.Le ⟨[.bank, .io, .dsp], [dspCnt], raised, false, false⟩ F) :
    seen F (dropSnapJob handle s) = seen F s := by
  refine seen_mono hF ?_
  unfold dropSnapJob
  split <;> simp

@[simp] theorem snapComplete_seen (n : Nat) (f : RxFrame) (x : Snap) (s : State) (hF : Scope.Le ⟨[.bank, .io, .acq, .net, .mach, .dsp, .pai], [one Reg.ACQ_RSNAP_COUNT, netCnt n, dspCnt, one Reg.DSP_HELD_MAX], (one Reg.NFL_STICKY :: netSticky :: one Reg.DSP_STICKY :: raised), false, false⟩ F) :
    seen F (snapComplete n f x s) = seen F s := by
  refine seen_mono hF ?_
  conv_lhs => unfold snapComplete; zeta
  (repeat' split) <;> simp

@[simp] theorem snapJoin_seen (n : Nat) (f : RxFrame) (x : Snap) (s : State) (hF : Scope.Le ⟨[.bank, .io, .acq, .net, .mach, .dsp, .pai], [netCnt n, one Reg.ACQ_RSNAP_COUNT, dspCnt, one Reg.DSP_HELD_MAX], (one Reg.NFL_STICKY :: netSticky :: one Reg.DSP_STICKY :: raised), false, false⟩ F) :
    seen F (snapJoin n f x s) = seen F s := seen_mono hF (by unfold snapJoin; simp)

@[simp] theorem snapNew_seen (n : Nat) (f : RxFrame) (s : State) (hF : Scope.Le ⟨[.bank, .io, .acq, .net, .mach, .dsp, .pai], [netCnt n, one Reg.ACQ_RSNAP_COUNT, dspCnt, one Reg.DSP_HELD_MAX], (one Reg.NFL_STICKY :: netSticky :: one Reg.DSP_STICKY :: raised), false, false⟩ F) :
    seen F (snapNew n f s) = seen F s := seen_mono hF (by unfold snapNew; simp)

@[simp] theorem snapPart_seen (n : Nat) (f : RxFrame) (s : State) (hF : Scope.Le ⟨[.bank, .io, .acq, .net, .mach, .dsp, .pai], [netCnt n, one Reg.ACQ_RSNAP_COUNT, dspCnt, one Reg.DSP_HELD_MAX], (one Reg.NFL_STICKY :: netSticky :: one Reg.DSP_STICKY :: raised), false, false⟩ F) :
    seen F (snapPart n f s) = seen F s := by
  refine seen_mono hF ?_
  conv_lhs => unfold snapPart; zeta
  (repeat' split) <;> simp

@[simp] theorem execSnapFrame_seen (n : Nat) (s u : State) (hF : Scope.Le ⟨[.bank, .io, .acq, .net, .mach, .dsp, .pai], [paiCnt, netCnt n, dspCnt, one Reg.ACQ_RSNAP_COUNT, one Reg.DSP_HELD_MAX], (one Reg.NFL_STICKY :: netSticky :: one Reg.DSP_STICKY :: raised), false, false⟩ F) :
    seen F (ran (execSnapFrame n s) u) = seen F s := seen_mono hF (by unfold execSnapFrame; simp)

@[simp] theorem execSnapReassemblyTimeout_seen (m : Nat) (s u : State) (hF : Scope.Le ⟨[.bank, .io, .acq, .net, .mach, .pai], [one Reg.ACQ_RSNAP_COUNT], (one Reg.NFL_STICKY :: netSticky :: raised), false, false⟩ F) :
    seen F (ran (execSnapReassemblyTimeout m s) u) = seen F s := by
  refine seen_mono hF ?_
  unfold execSnapReassemblyTimeout
  (repeat' split) <;> simp

theorem Tab.get_foldl_put_of_not_mem {l : List (Nat × Word)} {a : Nat} (h : ∀ e ∈ l, e.1 ≠ a) (t : Tab Word) :
    Tab.get RegMap.reset (l.foldl (fun t e => Tab.put RegMap.reset t e.1 e.2) t) a = Tab.get RegMap.reset t a :=
  List.foldlRecOn (motive := fun u => Tab.get RegMap.reset u a = Tab.get RegMap.reset t a) l _ rfl
    fun _ hu e he => (Tab.get_put_ne _ _ _ (Ne.symm (h e he))).trans hu

@[simp] theorem swapRegs_seen (sets : BitVec 8) (s : State) (hF : Scope.Le ⟨[.bank], [ofSets sets], [], false, false⟩ F) :
    seen F (swapRegs sets s) = seen F s := by
  refine seen_mono hF (seen_with_bank (by simp) _ (regSeen_eq_iff.2 fun a ha => ⟨?_, rfl⟩))
  have hout : inSets sets a = false := by simpa [ofSets] using ha
  rw [Tab.get_foldl_put_of_not_mem, Tab.get_filter _ fun a => !inSets sets a]
  · simp [hout]
  · rintro e he rfl
    simp [hout] at he

@[simp] theorem setRef_seen (r : Ref) (s : State) (hF : Scope.Le ⟨[.ref], [], [], false, false⟩ F) :
    seen F (setRef r s) = seen F s := seen_mono hF (by unfold setRef; simp)

@[simp] theorem netCtrlChanged_seen (old s : State) (n : Nat) (hF : Scope.Le ⟨[.io, .net], [], (one (Reg.NET_STICKY n) :: raised), false, false⟩ F) :
    seen F (netCtrlChanged old s n) = seen F s := seen_mono hF (by unfold netCtrlChanged; simp)

@[simp] theorem streamsOn_seen (old s : State) (hF : Scope.Le ⟨[.ref], [], [], false, false⟩ F) :
    seen F (streamsOn old s) = seen F s := seen_mono hF (by unfold streamsOn; simp)

@[simp] theorem afterSwap_seen (old s : State) (hF : Scope.Le ⟨[.bank, .io, .recorder, .upd, .tim, .ref, .net, .cht, .dsp, .nfl, .pai], [allNetCnt, one Reg.NFL_REFUSE, nflCnt, recCnt, one Reg.DSP_HELD_MAX, dspCnt], (netSticky :: one Reg.NFL_STICKY :: one Reg.REC_STICKY :: one Reg.TIM_STICKY :: one Reg.DSP_STICKY :: raised), false, false⟩ F) :
    seen F (afterSwap old s) = seen F s := by
  refine seen_mono hF ?_
  conv_lhs => unfold afterSwap; zeta
  have pause (n : Nat) (hn : n < 4) (t : State) : seen ⟨[.bank, .io, .recorder, .upd, .tim, .ref, .net, .cht, .dsp, .nfl, .pai], [allNetCnt, one Reg.NFL_REFUSE, nflCnt, recCnt, one Reg.DSP_HELD_MAX, dspCnt], (netSticky :: one Reg.NFL_STICKY :: one Reg.REC_STICKY :: one Reg.TIM_STICKY :: one Reg.DSP_STICKY :: raised), false, false⟩ (pauseCheck n t) = seen ⟨[.bank, .io, .recorder, .upd, .tim, .ref, .net, .cht, .dsp, .nfl, .pai], [allNetCnt, one Reg.NFL_REFUSE, nflCnt, recCnt, one Reg.DSP_HELD_MAX, dspCnt], (netSticky :: one Reg.NFL_STICKY :: one Reg.REC_STICKY :: one Reg.TIM_STICKY :: one Reg.DSP_STICKY :: raised), false, false⟩ t :=
    pauseCheck_seen _ _ (by simp [-inside_iff, inside_netCnt hn, inside_of_mem])
  rw [timCheckBound_seen _ (by simp), heldChanged_seen _ (by simp), streamsOn_seen _ _ (by simp),
    seen_foldl_range fun n hn t => by rw [seen_ite, pause n hn, ite_self], seen_foldl_range fun n hn t => by simp [hn]]
  simp

@[simp] theorem swapSets_seen (sets : BitVec 8) (s : State) (hF : Scope.Le ⟨[.bank, .io, .recorder, .crp, .upd, .tim, .ref, .net, .cht, .dsp, .nfl, .pai], [ofSets sets, allNetCnt, one Reg.NFL_REFUSE, nflCnt, recCnt, one Reg.DSP_HELD_MAX, dspCnt], (netSticky :: one Reg.NFL_STICKY :: one Reg.REC_STICKY :: one Reg.TIM_STICKY :: one Reg.DSP_STICKY :: raised), false, false⟩ F) :
    seen F (swapSets sets s) = seen F s := seen_mono hF (by unfold swapSets; simp)

@[simp] theorem crpReject_seen (s : State) (hF : Scope.Le ⟨[.io], [], (one Reg.CRP_STICKY :: raised), false, false⟩ F) :
    seen F (crpReject s) = seen F s := seen_mono hF (by unfold crpReject; simp)

theorem mem_forbiddenIn {sets : BitVec 8} {s : State} {b : Nat × Nat} (h : b ∈ forbiddenIn sets s) :
    b.1 = Reg.PST_STICKY ∨ ∃ n < 4, b.1 = Reg.NET_STICKY n := by
  simp only [forbiddenIn, List.mem_append] at h
  obtain h | h := h
  · split at h
    · exact .inl (by simp_all)
    · exact absurd h List.not_mem_nil
  · split at h
    · simp only [List.mem_map, List.mem_filter, List.mem_range] at h
      obtain ⟨n, ⟨hn, _⟩, rfl⟩ := h
      exact .inr ⟨n, hn, rfl⟩
    · exact absurd h List.not_mem_nil

@[simp] theorem refuseSwap_seen {blocks : List (Nat × Nat)} (s : State)
    (hblocks : ∀ b ∈ blocks, b.1 = Reg.PST_STICKY ∨ ∃ n < 4, b.1 = Reg.NET_STICKY n) (hF : Scope.Le ⟨[.io], [], (one Reg.PST_STICKY :: one Reg.CRP_STICKY :: netSticky :: raised), false, false⟩ F) :
    seen F (refuseSwap blocks s) = seen F s := by
  refine seen_mono hF ?_
  unfold refuseSwap
  rw [seen_foldl_mem fun b hb t => ?_, crpReject_seen _ (by simp)]
  obtain h | ⟨n, hn, h⟩ := hblocks b hb <;> simp [*]

@[simp] theorem swapWaiting_seen (s : State) (hF : Scope.Le ⟨[.bank, .io, .recorder, .crp, .upd, .tim, .ref, .net, .cht, .dsp, .nfl, .pai], [ofSets 0xFF, allNetCnt, one Reg.NFL_REFUSE, nflCnt, recCnt, one Reg.DSP_HELD_MAX, dspCnt], (netSticky :: one Reg.NFL_STICKY :: one Reg.REC_STICKY :: one Reg.TIM_STICKY :: one Reg.DSP_STICKY :: one Reg.PST_STICKY :: one Reg.CRP_STICKY :: raised), false, false⟩ F) : seen F (swapWaiting s) = seen F s := by
  refine seen_mono hF ?_
  unfold swapWaiting
  dsimp only
  split
  · exact swapSets_seen _ _ (by simp [-inside_iff, inside_ofSets, inside_of_mem])
  · exact (refuseSwap_seen _ (fun b hb => mem_forbiddenIn hb) (by simp)).trans (setCrp_seen _ _ (by simp))

theorem ofSets_swapAllowed (sets : BitVec 8) (s : State) (a : Nat) (h : ofSets (swapAllowed sets s) a = true) : ofSets sets a = true := by
  unfold swapAllowed at h
  split at h
  · unfold ofSets inSets at *
    split at h
    · rw [BitVec.getLsbD_and, Bool.and_eq_true] at h
      exact h.1
    · exact absurd h (by decide)
  · exact h

@[simp] theorem execCfgSwap_seen (w : Word) (s u : State) (hF : Scope.Le ⟨[.bank, .io, .recorder, .crp, .upd, .tim, .ref, .net, .cht, .dsp, .nfl, .pai], [ofSets (BitVec.ofNat 8 (bits w 7 0)), allNetCnt, one Reg.NFL_REFUSE, nflCnt, recCnt, one Reg.DSP_HELD_MAX, dspCnt], (netSticky :: one Reg.NFL_STICKY :: one Reg.REC_STICKY :: one Reg.TIM_STICKY :: one Reg.DSP_STICKY :: one Reg.PST_STICKY :: one Reg.CRP_STICKY :: one Reg.PAI_STICKY :: raised), false, false⟩ F) :
    seen F (ran (execCfgSwap w s) u) = seen F s := by
  refine seen_mono hF ?_
  have hswap (t : State) : seen ⟨[.bank, .io, .recorder, .crp, .upd, .tim, .ref, .net, .cht, .dsp, .nfl, .pai], [ofSets (BitVec.ofNat 8 (bits w 7 0)), allNetCnt, one Reg.NFL_REFUSE, nflCnt, recCnt, one Reg.DSP_HELD_MAX, dspCnt], (netSticky :: one Reg.NFL_STICKY :: one Reg.REC_STICKY :: one Reg.TIM_STICKY :: one Reg.DSP_STICKY :: one Reg.PST_STICKY :: one Reg.CRP_STICKY :: one Reg.PAI_STICKY :: raised), false, false⟩ (swapSets (swapAllowed (BitVec.ofNat 8 (bits w 7 0)) s) t) = seen _ t :=
    swapSets_seen _ _ ⟨by simp, (covers_cons _ _ _).2 ⟨fun a ha => inside_of_mem (by simp) a (ofSets_swapAllowed _ _ a ha), by simp⟩, by simp, by simp, by simp⟩
  have hrefuse (t x : State) : seen ⟨[.bank, .io, .recorder, .crp, .upd, .tim, .ref, .net, .cht, .dsp, .nfl, .pai], [ofSets (BitVec.ofNat 8 (bits w 7 0)), allNetCnt, one Reg.NFL_REFUSE, nflCnt, recCnt, one Reg.DSP_HELD_MAX, dspCnt], (netSticky :: one Reg.NFL_STICKY :: one Reg.REC_STICKY :: one Reg.TIM_STICKY :: one Reg.DSP_STICKY :: one Reg.PST_STICKY :: one Reg.CRP_STICKY :: one Reg.PAI_STICKY :: raised), false, false⟩ (refuseSwap (forbiddenIn (swapAllowed (BitVec.ofNat 8 (bits w 7 0)) s) x) t) = seen _ t :=
    refuseSwap_seen _ (fun b hb => mem_forbiddenIn hb) (by simp)
  conv_lhs => unfold execCfgSwap; zeta
  dsimp only [ran]
  simp [hswap, hrefuse]

@[simp] theorem setCht_seen (c : Cht) (s : State) (hF : Scope.Le ⟨[.cht], [], [], false, false⟩ F) :
    seen F (setCht c s) = seen F s := seen_mono hF (by unfold setCht; simp)

@[simp] theorem chtReject_seen (s : State) (hF : Scope.Le ⟨[.io], [], (one Reg.CHT_STICKY :: raised), false, false⟩ F) :
    seen F (chtReject s) = seen F s := seen_mono hF (by unfold chtReject; simp)

@[simp] theorem rebasedTick_seen (s : State) (hF : Scope.Le ⟨[.cht], [], [], false, false⟩ F) :
    seen F (rebasedTick s) = seen F s := seen_mono hF (by unfold rebasedTick; simp)

@[simp] theorem fillCheck_seen (s : State) (hF : Scope.Le ⟨[.io, .cht], [], (one Reg.CHT_STICKY :: raised), false, false⟩ F) :
    seen F (fillCheck s) = seen F s := seen_mono hF (by unfold fillCheck; simp)

@[simp] theorem lapsedCheck_seen (s : State) (hF : Scope.Le ⟨[.io, .cht, .pai], [], raised, false, false⟩ F) :
    seen F (lapsedCheck s) = seen F s := seen_mono hF (by unfold lapsedCheck; simp)

@[simp] theorem commitIvals_seen (l : List Ival) (s : State) (hF : Scope.Le ⟨[.io, .cht, .pai], [], (one Reg.CHT_STICKY :: raised), false, false⟩ F) :
    seen F (commitIvals l s) = seen F s := seen_mono hF (by unfold commitIvals; simp)

@[simp] theorem sendRequest_seen (items : List Item) (purpose : ReqFor) (job : Nat) (s : State) (hF : Scope.Le ⟨[.io, .cht], [], raised, false, false⟩ F) :
    seen F (sendRequest items purpose job s) = seen F s := seen_mono hF (by unfold sendRequest; simp)

@[simp] theorem issueGrant_seen (m : Nat) (g : GrantPlan) (s : State) (hF : Scope.Le ⟨[.bank, .io, .net, .mach, .cht, .pai], [chtCnt], (netSticky :: one Reg.NFL_STICKY :: raised), false, false⟩ F) :
    seen F (issueGrant m g s) = seen F s := by
  refine seen_mono hF ?_
  conv_lhs => unfold issueGrant; zeta
  (repeat' split) <;> simp [↓buildMach_seen, ↓enqueue_seen, ↓grantLost_seen, ↓keyGone_seen, ↓putChtMach_seen, ↓seen_inc, ↓seen_perf, ↓seen_with_pai]

@[simp] theorem commitRequest_seen (q : Request) (new : List Ival) (s : State) (hF : Scope.Le ⟨[.bank, .io, .net, .mach, .cht, .pai], [chtCnt], (one Reg.CHT_STICKY :: netSticky :: one Reg.NFL_STICKY :: raised), false, false⟩ F) :
    seen F (commitRequest q new s) = seen F s := by
  refine seen_mono hF ?_
  have hcut (l : List Nat) (t : State) : seen ⟨[.bank, .io, .net, .mach, .cht, .pai], [chtCnt], (one Reg.CHT_STICKY :: netSticky :: one Reg.NFL_STICKY :: raised), false, false⟩ (l.foldl (fun s _ => stickyCount Reg.CHT_STICKY 6 (Reg.CHT_CNT 10) s) t) = seen _ t :=
    seen_foldl (fun t _ => by simp) l t
  conv_lhs => unfold commitRequest; zeta
  split
  · simp
  · split <;> simp
  · simp [hcut]
  · simp

@[simp] theorem endSnapJob_seen (j : Option Job) (code : Nat) (s : State) (hF : Scope.Le ⟨[.bank, .io, .acq, .net, .mach, .pai], [one Reg.ACQ_RSNAP_COUNT], (one Reg.NFL_STICKY :: netSticky :: raised), false, false⟩ F) :
    seen F (endSnapJob j code s) = seen F s := by
  refine seen_mono hF ?_
  unfold endSnapJob
  (repeat' split) <;> simp

@[simp] theorem answerRequest_seen (q : Request) (code : Nat) (f : Option ItemFail) (s : State) (hF : Scope.Le ⟨[.bank, .io, .acq, .net, .mach, .cht, .dsp, .pai], [one Reg.ACQ_RSNAP_COUNT, dspCnt], (one Reg.NFL_STICKY :: netSticky :: raised), false, false⟩ F) :
    seen F (answerRequest q code f s) = seen F s := by
  refine seen_mono hF ?_
  conv_lhs => unfold answerRequest; zeta
  (repeat' split) <;> simp

@[simp] theorem latencySeen_seen (q : Request) (s : State) (hF : Scope.Le ⟨[.bank], [one Reg.CHT_LAT_MAX], [], false, false⟩ F) :
    seen F (latencySeen q s) = seen F s := seen_mono hF (by unfold latencySeen; simp)

@[simp] theorem decide1_seen (s : State) (hF : Scope.Le ⟨[.bank, .io, .acq, .net, .mach, .cht, .dsp, .pai], [one Reg.CHT_LAT_MAX, chtCnt, one Reg.ACQ_RSNAP_COUNT, dspCnt], (one Reg.CHT_STICKY :: netSticky :: one Reg.NFL_STICKY :: raised), false, false⟩ F) :
    seen F (decide1 s) = seen F s := by
  refine seen_mono hF ?_
  conv_lhs => unfold decide1; zeta
  (repeat' split) <;> simp

@[simp] theorem drainRequests_seen (n : Nat) (s : State) (hF : Scope.Le ⟨[.bank, .io, .acq, .net, .mach, .cht, .dsp, .pai], [one Reg.CHT_LAT_MAX, chtCnt, one Reg.ACQ_RSNAP_COUNT, dspCnt], (one Reg.CHT_STICKY :: netSticky :: one Reg.NFL_STICKY :: raised), false, false⟩ F) :
    seen F (drainRequests n s) = seen F s := by
  induction n generalizing s with
  | zero => rfl
  | succ n ih =>
    unfold drainRequests
    split
    · rfl
    · rw [ih, decide1_seen s hF]

@[simp] theorem graphReject_seen (code : Nat) (s : State) (hF : Scope.Le ⟨[.io, .cht], [], (one Reg.CHT_STICKY :: raised), false, false⟩ F) :
    seen F (graphReject code s) = seen F s := seen_mono hF (by unfold graphReject; simp)

@[simp] theorem execGraphLoad_seen (s u : State) (hF : Scope.Le ⟨[.io, .cht], [], (one Reg.CHT_STICKY :: raised), false, false⟩ F) :
    seen F (ran (execGraphLoad s) u) = seen F s := seen_mono hF (by unfold execGraphLoad; simp)

@[simp] theorem execGraphVerified_seen (image : List Byte) (s u : State) (hF : Scope.Le ⟨[.io, .cht], [], (one Reg.CHT_STICKY :: raised), false, false⟩ F) :
    seen F (ran (execGraphVerified image s) u) = seen F s := seen_mono hF (by unfold execGraphVerified; simp)

@[simp] theorem execGraphActivate_seen (s u : State) (hF : Scope.Le ⟨[.io, .cht, .pai], [], (one Reg.CHT_STICKY :: raised), false, false⟩ F) :
    seen F (ran (execGraphActivate s) u) = seen F s := by
  refine seen_mono hF ?_
  conv_lhs => unfold execGraphActivate; zeta
  (repeat' split) <;> simp

@[simp] theorem execOriginWrite_seen (w : Word) (s u : State) (hF : Scope.Le ⟨[.bank, .io, .cht, .pai], [one Reg.CHT_ORIGIN_HI, one Reg.CHT_ORIGIN_LO], (one Reg.PAI_STICKY :: one Reg.CHT_STICKY :: raised), false, false⟩ F) :
    seen F (ran (execOriginWrite w s) u) = seen F s := seen_mono hF (by unfold execOriginWrite; simp)

@[simp] theorem execRebase_seen (s u : State) (hF : Scope.Le ⟨[.io, .cht], [], (one Reg.PAI_STICKY :: one Reg.CHT_STICKY :: raised), false, false⟩ F) :
    seen F (ran (execRebase s) u) = seen F s := seen_mono hF (by unfold execRebase; simp)

@[simp] theorem execRebaseWindowEnd_seen (s u : State) (hF : Scope.Le ⟨[.cht], [], [], false, false⟩ F) :
    seen F (ran (execRebaseWindowEnd s) u) = seen F s := by
  refine seen_mono hF ?_
  unfold execRebaseWindowEnd
  split <;> simp

@[simp] theorem tickNear_seen (s : State) (hF : Scope.Le ⟨[.io, .cht], [], (one Reg.CHT_STICKY :: raised), false, false⟩ F) :
    seen F (tickNear s) = seen F s := seen_mono hF (by unfold tickNear; simp)

@[simp] theorem tickWrapped_seen (s : State) (hF : Scope.Le ⟨[.cht], [], [], false, false⟩ F) :
    seen F (tickWrapped s) = seen F s := seen_mono hF (by unfold tickWrapped; simp)

@[simp] theorem execTickNearWrap_seen (s u : State) (hF : Scope.Le ⟨[.io, .cht], [], (one Reg.CHT_STICKY :: raised), false, false⟩ F) :
    seen F (ran (execTickNearWrap s) u) = seen F s := seen_mono hF (by unfold execTickNearWrap; simp)

@[simp] theorem execTickWrap_seen (s u : State) (hF : Scope.Le ⟨[.cht], [], [], false, false⟩ F) :
    seen F (ran (execTickWrap s) u) = seen F s := seen_mono hF (by unfold execTickWrap; simp)

@[simp] theorem execIntervalReclaim_seen (s u : State) (hF : Scope.Le ⟨[.io, .cht, .pai], [], (one Reg.CHT_STICKY :: raised), false, false⟩ F) :
    seen F (ran (execIntervalReclaim s) u) = seen F s := seen_mono hF (by unfold execIntervalReclaim; simp)

@[simp] theorem execChtClearLat_seen (s u : State) (hF : Scope.Le ⟨[.bank], [one Reg.CHT_LAT_MAX], [], false, false⟩ F) :
    seen F (ran (execChtClearLat s) u) = seen F s := seen_mono hF (by unfold execChtClearLat; simp)

@[simp] theorem doRebase_seen (d : Nat) (s : State) (hF : Scope.Le ⟨[.bank, .io, .cht, .pai], [one Reg.CHT_ORIGIN_LO, one Reg.CHT_ORIGIN_HI, chtCnt], (one Reg.CHT_STICKY :: raised), false, false⟩ F) :
    seen F (doRebase d s) = seen F s := seen_mono hF (by unfold doRebase; simp)

@[simp] theorem activateLedger_seen (s : State) (hF : Scope.Le ⟨[.io, .cht, .pai], [], raised, false, false⟩ F) :
    seen F (activateLedger s) = seen F s := seen_mono hF (by unfold activateLedger; simp)

@[simp] theorem doActivate_seen (s : State) (hF : Scope.Le ⟨[.bank, .io, .cht, .pai], [one Reg.CHT_GRAPH_ID, one Reg.CHT_GRAPH_NSEG], (one Reg.PAI_STICKY :: one Reg.CHT_STICKY :: raised), false, false⟩ F) :
    seen F (doActivate s) = seen F s := by
  refine seen_mono hF ?_
  conv_lhs => unfold doActivate; zeta
  (repeat' split) <;> simp [↓activateLedger_seen, ↓fillCheck_seen, ↓mismatchCheck_seen, ↓seen_with_pai, ↓seen_wr, ↓setCht_seen]

@[simp] theorem handoverAt_seen (s : State) (hF : Scope.Le ⟨[.io, .pai], [], raised, false, false⟩ F) :
    seen F (handoverAt s) = seen F s := seen_mono hF (by unfold handoverAt; simp)

@[simp] theorem grantBoundary_seen (s : State) (hF : Scope.Le ⟨[.bank, .io, .recorder, .crp, .upd, .tim, .ref, .net, .cht, .dsp, .nfl, .pai, .acq, .mach], [ofSets 0xFF, allNetCnt, one Reg.NFL_REFUSE, nflCnt, recCnt, one Reg.DSP_HELD_MAX, dspCnt, one Reg.CHT_ORIGIN_LO, one Reg.CHT_ORIGIN_HI, chtCnt, one Reg.CHT_GRAPH_ID, one Reg.CHT_GRAPH_NSEG, one Reg.CHT_LAT_MAX, one Reg.ACQ_RSNAP_COUNT], (netSticky :: one Reg.NFL_STICKY :: one Reg.REC_STICKY :: one Reg.TIM_STICKY :: one Reg.DSP_STICKY :: one Reg.PST_STICKY :: one Reg.CRP_STICKY :: one Reg.CHT_STICKY :: one Reg.PAI_STICKY :: raised), false, false⟩ F) : seen F (grantBoundary s) = seen F s := by
  refine seen_mono hF ?_
  conv_lhs => unfold grantBoundary; zeta
  rw [setCht_seen _ _ (by simp), handoverAt_seen _ (by simp), seen_ite, doActivate_seen _ (by simp), ite_self]
  split
  · split <;> simp
  · simp

@[simp] theorem execGrantPeriodBoundary_seen (s u : State) (hF : Scope.Le ⟨[.bank, .io, .recorder, .crp, .upd, .tim, .ref, .net, .cht, .dsp, .nfl, .pai, .acq, .mach], [ofSets 0xFF, allNetCnt, one Reg.NFL_REFUSE, nflCnt, recCnt, one Reg.DSP_HELD_MAX, dspCnt, one Reg.CHT_ORIGIN_LO, one Reg.CHT_ORIGIN_HI, chtCnt, one Reg.CHT_GRAPH_ID, one Reg.CHT_GRAPH_NSEG, one Reg.CHT_LAT_MAX, one Reg.ACQ_RSNAP_COUNT], (netSticky :: one Reg.NFL_STICKY :: one Reg.REC_STICKY :: one Reg.TIM_STICKY :: one Reg.DSP_STICKY :: one Reg.PST_STICKY :: one Reg.CRP_STICKY :: one Reg.CHT_STICKY :: one Reg.PAI_STICKY :: raised), false, false⟩ F) :
    seen F (ran (execGrantPeriodBoundary s) u) = seen F s := by
  rw [execGrantPeriodBoundary, ran_next, seen_ite, grantBoundary_seen s hF, ite_self]

@[simp] theorem standbyLedger_seen (j : Job) (s : State) (hF : Scope.Le ⟨[.bank, .io, .dsp], [dspCnt, paiCnt], raised, false, false⟩ F) :
    seen F (standbyLedger j s) = seen F s := seen_mono hF (by unfold standbyLedger; simp)

@[simp] theorem execLedger_seen (s u : State) (hF : Scope.Le ⟨[.bank, .io, .cht, .dsp], [dspCnt, paiCnt], raised, false, false⟩ F) :
    seen F (ran (execLedger s) u) = seen F s := seen_mono hF (by unfold execLedger; simp)

@[simp] theorem execLedgerDecision_seen (s u : State) (hF : Scope.Le ⟨[.bank, .io, .acq, .net, .mach, .cht, .dsp, .pai], [one Reg.CHT_LAT_MAX, chtCnt, one Reg.ACQ_RSNAP_COUNT, dspCnt], (one Reg.CHT_STICKY :: netSticky :: one Reg.NFL_STICKY :: raised), false, false⟩ F) :
    seen F (ran (execLedgerDecision s) u) = seen F s := seen_mono hF (by unfold execLedgerDecision; simp)

@[simp] theorem routeSet_seen (b : List Byte) (s : State) (hF : Scope.Le ⟨[.io, .cht, .pai], [], raised, false, false⟩ F) :
    seen F (routeSet b s).1 = seen F s := by
  refine seen_mono hF ?_
  unfold routeSet
  split <;> simp

@[simp] theorem execRouteSet_seen (s u : State) (hF : Scope.Le ⟨[.bank, .io, .cht, .dsp, .pai], [dspCnt, paiCnt], raised, false, false⟩ F) :
    seen F (ran (execRouteSet s) u) = seen F s := seen_mono hF (by unfold execRouteSet; simp)

@[simp] theorem execSramEccCorrected_seen (_shard : Nat) (s u : State) (hF : Scope.Le ⟨[.bank, .io], [one Reg.CHT_ECC_CNT], raised, false, false⟩ F) :
    seen F (ran (execSramEccCorrected _shard s) u) = seen F s := seen_mono hF (by unfold execSramEccCorrected; simp)

@[simp] theorem execLedgerUe_seen (shard sram : Nat) (s u : State) (hF : Scope.Le ⟨[.bank, .io, .recorder, .upd, .net, .cht, .nfl, .pai], [one Reg.CHT_ECC_CNT, recCnt, one Reg.NFL_REFUSE, nflCnt], (one Reg.REC_STICKY :: one Reg.CHT_STICKY :: one Reg.NFL_STICKY :: raised), false, false⟩ F) :
    seen F (ran (execLedgerUe shard sram s) u) = seen F s := seen_mono hF (by unfold execLedgerUe; simp)

@[simp] theorem recordMatch_seen (m : Nat) (hit : Option RouteMatch) (s : State) (hF : Scope.Le ⟨[.io, .cht, .pai], [], raised, false, false⟩ F) :
    seen F (recordMatch m hit s).1 = seen F s := by
  refine seen_mono hF ?_
  unfold recordMatch
  split <;> simp

@[simp] theorem haloStop_seen (m reason : Nat) (b : Option Nat) {counter : Option Nat} (hk : ∀ k ∈ counter, k < 12) (s : State)
    (hF : Scope.Le ⟨[.bank, .io, .cht], [chtCnt], (one Reg.CHT_STICKY :: raised), false, false⟩ F) :
    seen F (haloStop m reason b counter s) = seen F s := by
  refine seen_mono hF ?_
  conv_lhs => unfold haloStop; zeta
  cases counter with
  | none => cases b <;> simp
  | some k => have := hk k rfl; cases b <;> simp [this]

theorem haloRows_counter {s : State} {m : Nat} {h : HaloIn} {g : Graph} {off : Bool} {hit : Option RouteMatch} {route : List Nat}
    {cap : Nat} {epoch : Option Nat} {reason : Nat} {b counter : Option Nat}
    (hstop : haloRows s m h g off hit route cap epoch = .stop reason b counter) : ∀ k ∈ counter, k < 12 := by
  revert hstop
  unfold haloRows
  dsimp only
  (repeat' split) <;> rintro ⟨⟩ <;> simp

@[simp] theorem haloUpdate_seen (m : Nat) (h : HaloIn) (id : Nat) (s : State) (hF : Scope.Le ⟨[.bank, .io, .cht, .dsp, .pai], [chtCnt, dspCnt], (one Reg.CHT_STICKY :: raised), false, false⟩ F) :
    seen F (haloUpdate m h id s) = seen F s := by
  refine seen_mono hF ?_
  unfold haloUpdate
  extract_lets t cause still
  have ht : seen ⟨[.bank, .io, .cht, .dsp, .pai], [chtCnt, dspCnt], (one Reg.CHT_STICKY :: raised), false, false⟩ t = seen _ s := by
    unfold t
    simp
  have hstill (g : Graph) (x : State) : seen ⟨[.bank, .io, .cht, .dsp, .pai], [chtCnt, dspCnt], (one Reg.CHT_STICKY :: raised), false, false⟩ (still g x).1 = seen _ x := by
    unfold still
    dsimp only
    split
    · rfl
    · split <;> simp
  clear_value cause
  rcases cause with _ | n
  · cases t.cht.active
    · exact ((endJob_seen _ _ (by simp)).trans (setReason_seen _ _ _ (by simp))).trans ht
    · dsimp only
      split
      next hrows =>
        rw [endJob_seen _ _ (by simp), haloStop_seen _ _ _ (haloRows_counter hrows) _ (by simp)]
        exact (hstill _ _).trans ht
      · rw [sendRequest_seen _ _ _ _ (by simp), updJob_seen _ _ _ (by simp)]
        exact (hstill _ _).trans ht
  · refine (endJob_seen _ _ (by simp)).trans ((setReason_seen _ _ _ (by simp)).trans ?_)
    split
    · exact ht
    split
    · exact (hstill _ _).trans ht
    · exact ht

@[simp] theorem execHalo_seen (s u : State) (hF : Scope.Le ⟨[.bank, .io, .cht, .dsp, .pai], [dspCnt, chtCnt], (one Reg.CHT_STICKY :: raised), false, false⟩ F) :
    seen F (ran (execHalo s) u) = seen F s := by
  refine seen_mono hF ?_
  unfold execHalo
  dsimp only [ran]
  split
  · rfl
  refine withJob_seen _ _ _ (fun j t => ?_) (by simp)
  split <;> simp

@[simp] theorem lapseDue_seen (s : State) (hF : Scope.Le ⟨[.bank, .io, .dsp], [dspCnt, one Reg.DSP_HELD_MAX], (one Reg.DSP_STICKY :: raised), false, false⟩ F) :
    seen F (lapseDue s) = seen F s := seen_mono hF (by unfold lapseDue; simp)

@[simp] theorem lapseRun_seen (j : Job) (s : State) (hF : Scope.Le ⟨[.bank, .io, .cht, .dsp, .pai], [dspCnt], raised, false, false⟩ F) :
    seen F (lapseRun j s) = seen F s := by
  refine seen_mono hF ?_
  unfold lapseRun
  split <;> simp

@[simp] theorem execLapse_seen (s u : State) (hF : Scope.Le ⟨[.bank, .io, .cht, .dsp, .pai], [dspCnt, one Reg.DSP_HELD_MAX], (one Reg.DSP_STICKY :: raised), false, false⟩ F) :
    seen F (ran (execLapse s) u) = seen F s := seen_mono hF (by unfold execLapse; simp)

@[simp] theorem setRefAnt_seen (n : Nat) (x : RefAnt) (s : State) (hF : Scope.Le ⟨[.ref], [], [], false, false⟩ F) :
    seen F (setRefAnt n x s) = seen F s := seen_mono hF (by unfold setRefAnt; simp)

@[simp] theorem refReject_seen (s : State) (hF : Scope.Le ⟨[.io], [], (one Reg.REF_STICKY :: raised), false, false⟩ F) :
    seen F (refReject s) = seen F s := seen_mono hF (by unfold refReject; simp)

@[simp] theorem refRefused_seen (s : State) (hF : Scope.Le ⟨[.io], [], (one Reg.REF_STICKY :: raised), false, false⟩ F) :
    seen F (refRefused s) = seen F s := seen_mono hF (by unfold refRefused; simp)

@[simp] theorem execBaseEpoch_seen (obs : List ChanObs) (s u : State) (hF : Scope.Le ⟨[.io, .cor, .ref], [], raised, false, false⟩ F) :
    seen F (ran (execBaseEpoch obs s) u) = seen F s := seen_mono hF (by unfold execBaseEpoch; simp)

@[simp] theorem execReadmit_seen (n : Nat) (w : Word) (s u : State) (hF : Scope.Le ⟨[.ref], [], [], false, false⟩ F) :
    seen F (ran (execReadmit n w s) u) = seen F s := seen_mono hF (by unfold execReadmit; simp)

@[simp] theorem execExclude_seen (n : Nat) (w : Word) (s u : State) (hF : Scope.Le ⟨[.ref], [], [], false, false⟩ F) :
    seen F (ran (execExclude n w s) u) = seen F s := seen_mono hF (by unfold execExclude; simp)

@[simp] theorem excluded_seen (n cause : Nat) (s : State) (hF : Scope.Le ⟨[.bank, .io, .recorder], [recCnt], (one Reg.REC_STICKY :: one Reg.REF_STICKY :: raised), false, false⟩ F) :
    seen F (excluded n cause s) = seen F s := seen_mono hF (by unfold excluded; simp)

@[simp] theorem antEpoch_seen (p : BaseEp) (c : Checks) (old s : State) (n : Nat) (hF : Scope.Le ⟨[.bank, .io, .recorder, .ref], [one (Reg.REF_ANT_XCHK n), recCnt], (one Reg.REC_STICKY :: one Reg.REF_STICKY :: raised), false, false⟩ F) :
    seen F (antEpoch p c old s n) = seen F s := seen_mono hF (by unfold antEpoch; simp)

@[simp] theorem setStream_seen (k : Nat) (x : Stream) (s : State) (hF : Scope.Le ⟨[.ref], [], [], false, false⟩ F) :
    seen F (setStream k x s) = seen F s := seen_mono hF (by unfold setStream; simp)

@[simp] theorem refChange_seen (altered : BitVec 4) (primaryMoved : Bool) (s : State) (hF : Scope.Le ⟨[.bank, .io, .recorder, .ref], [recCnt], (one Reg.REC_STICKY :: one Reg.REF_STICKY :: raised), false, false⟩ F) :
    seen F (refChange altered primaryMoved s) = seen F s := seen_mono hF (by unfold refChange; simp)

@[simp] theorem openGates_seen (e : Nat) (s : State) (hF : Scope.Le ⟨[.dsp], [], [], false, false⟩ F) :
    seen F (openGates e s) = seen F s := seen_mono hF (by unfold openGates; simp)

@[simp] theorem setEngine_seen (e : Nat) (x : FixEngine) (s : State) (hF : Scope.Le ⟨[.pst], [], [], false, false⟩ F) :
    seen F (setEngine e x s) = seen F s := seen_mono hF (by unfold setEngine; simp)

@[simp] theorem surveyEngine_seen (s : State) (hF : Scope.Le ⟨[.ref], [], [], false, false⟩ F) :
    seen F (surveyEngine s) = seen F s := by
  refine seen_mono hF ?_
  unfold surveyEngine
  split <;> simp

@[simp] theorem execSurveyStart_seen (w : Word) (s u : State) (hF : Scope.Le ⟨[.io, .ref], [], (one Reg.REF_STICKY :: raised), false, false⟩ F) :
    seen F (ran (execSurveyStart w s) u) = seen F s := seen_mono hF (by unfold execSurveyStart; simp)

@[simp] theorem execSurveyAbort_seen (w : Word) (s u : State) (hF : Scope.Le ⟨[.ref], [], [], false, false⟩ F) :
    seen F (ran (execSurveyAbort w s) u) = seen F s := seen_mono hF (by unfold execSurveyAbort; simp)

@[simp] theorem surveyEpoch_seen (p : BaseEp) (sats : List SatPos) (s : State) (hF : Scope.Le ⟨[.ref], [], [], false, false⟩ F) :
    seen F (surveyEpoch p sats s) = seen F s := by
  refine seen_mono hF ?_
  unfold surveyEpoch
  split <;> simp

@[simp] theorem surveyWrite_seen (n : Nat) (x : SurveyEst) (s : State) (hF : Scope.Le ⟨[.bank], [words (Reg.REF_ANT_COORD n) 6, one (Reg.REF_ANT_CFG n)], [], false, false⟩ F) :
    seen F (surveyWrite n x s) = seen F s := seen_mono hF (by unfold surveyWrite; simp)

/-- What the end of a survey changes of the antennas that took part. -/
def surveyScope (l : List SurveyAnt) : Scope :=
  ⟨[.bank, .free], l.flatMap (fun x => [one (Reg.REF_ANT_CFG x.ant), words (Reg.REF_ANT_COORD x.ant) 6, one (Reg.REF_ANT_SURVEY_SIGMA x.ant)]), [], false, false⟩

theorem surveyAnt_seen (v : Survey) (p : State × Bool) (x : SurveyAnt)
    (hF : Scope.Le ⟨[.bank, .free], [one (Reg.REF_ANT_CFG x.ant), words (Reg.REF_ANT_COORD x.ant) 6, one (Reg.REF_ANT_SURVEY_SIGMA x.ant)], [], false, false⟩ F) :
    seen F (surveyAnt v p x).1 = seen F p.1 := by
  refine seen_mono hF ?_
  conv_lhs => unfold surveyAnt; zeta
  split <;> simp

theorem surveyAnts_seen (v : Survey) (l : List SurveyAnt) (p : State × Bool) (hF : Scope.Le (surveyScope l) F) :
    seen F (l.foldl (surveyAnt v) p).1 = seen F p.1 := by
  refine seen_mono hF (List.foldlRecOn (motive := fun q : State × Bool => seen (surveyScope l) q.1 = seen _ p.1) l _ rfl fun q hq x hx => ?_)
  refine (surveyAnt_seen v q x ?_).trans hq
  refine ⟨fun _ h => h, fun a ha => ?_, by simp, by simp, by simp⟩
  obtain ⟨f, hf, hfa⟩ := List.any_eq_true.1 ha
  exact List.any_eq_true.2 ⟨f, List.mem_flatMap.2 ⟨x, hx, hf⟩, hfa⟩

theorem execSurveyEnd_seen (s u : State) {v : Survey} (hv : s.ref.survey = some v)
    (hF : Scope.Le ⟨[.bank, .io, .ref, .free], (surveyScope v.ants).regs, one Reg.REF_STICKY :: raised, false, false⟩ F) :
    seen F (ran (execSurveyEnd s) u) = seen F s := by
  unfold execSurveyEnd
  dsimp only [ran]
  split
  · rfl
  next w hw =>
    cases hv.symm.trans hw
    split
    · rfl
    · have hants := surveyAnts_seen v v.ants (s, true)
        (.trans (G := ⟨[.bank, .io, .ref, .free], (surveyScope v.ants).regs, one Reg.REF_STICKY :: raised, false, false⟩)
          ⟨by simp [surveyScope], fun _ h => h, by simp [surveyScope], by simp [surveyScope], by simp [surveyScope]⟩ hF)
      refine .trans (seen_mono hF ?_) hants
      split <;> simp

@[simp] theorem keepEphs_seen (eph : List SnapEph) (s : State) (hF : Scope.Le ⟨[.upd], [], [], false, false⟩ F) :
    seen F (keepEphs eph s) = seen F s := by
  refine seen_mono hF ?_
  conv_lhs => unfold keepEphs; zeta
  simp

@[simp] theorem execBasePublish_seen (sats : List SatPos) (eph : List SnapEph) (s u : State) (hF : Scope.Le ⟨[.bank, .io, .recorder, .upd, .ref, .dsp], [words Reg.REF_ANT_XCHK 4, recCnt], (one Reg.REC_STICKY :: one Reg.REF_STICKY :: raised), false, false⟩ F) :
    seen F (ran (execBasePublish sats eph s) u) = seen F s := by
  refine seen_mono hF ?_
  have hants (t : State) : gradeAnts t ≤ 4 := by unfold gradeAnts; split <;> decide
  have hfold (p : BaseEp) (c : Checks) (old t : State) :
      seen ⟨[.bank, .io, .recorder, .upd, .ref, .dsp], [words Reg.REF_ANT_XCHK 4, recCnt], (one Reg.REC_STICKY :: one Reg.REF_STICKY :: raised), false, false⟩ ((List.range (gradeAnts t)).foldl (antEpoch p c old) t) = seen _ t :=
    seen_foldl_range (fun n hn x => by
      have hn4 : n < 4 := Nat.lt_of_lt_of_le hn (hants t)
      simp [hn4]) _
  conv_lhs => unfold execBasePublish; zeta
  dsimp only [ran]
  split
  · rfl
  · simp [hfold]

@[simp] theorem execBaseDiscard_seen (s u : State) (hF : Scope.Le ⟨[.ref], [], [], false, false⟩ F) :
    seen F (ran (execBaseDiscard s) u) = seen F s := seen_mono hF (by unfold execBaseDiscard; simp)

@[simp] theorem execLeapApply_seen (s u : State) (hF : Scope.Le ⟨[.bank], [one Reg.REF_LEAP_AT, one Reg.REF_TIME_CFG], [], false, false⟩ F) :
    seen F (ran (execLeapApply s) u) = seen F s := seen_mono hF (by unfold execLeapApply; simp)

@[simp] theorem streamCount_seen (k lo : Nat) (s : State) (hF : Scope.Le ⟨[.bank], [one (Reg.REF_STREAM_COUNT k)], [], false, false⟩ F) :
    seen F (streamCount k lo s) = seen F s := seen_mono hF (by unfold streamCount; simp)

@[simp] theorem deliverUdp_seen (k : Nat) (frames : List (List Byte)) (s : State) (hF : Scope.Le ⟨[.io, .ref, .net], [], (one Reg.REF_STICKY :: one Reg.NFL_STICKY :: raised), false, false⟩ F) :
    seen F (deliverUdp k frames s).1 = seen F s := seen_mono hF (by unfold deliverUdp; simp)

@[simp] theorem deliverRing_seen (k e : Nat) (frames : List (List Byte)) (s : State) (hF : Scope.Le ⟨[.io], [], (one Reg.REF_STICKY :: raised), false, false⟩ F) :
    seen F (deliverRing k e frames s).1 = seen F s := seen_mono hF (by unfold deliverRing; simp)

@[simp] theorem encodeStream_seen (k e : Nat) (s : State) (hF : Scope.Le ⟨[.bank, .io, .ref, .net], [one (Reg.REF_STREAM_COUNT k)], (one Reg.REF_STICKY :: one Reg.NFL_STICKY :: raised), false, false⟩ F) :
    seen F (encodeStream k e s) = seen F s := by
  refine seen_mono hF ?_
  conv_lhs => unfold encodeStream; zeta
  (repeat' split) <;> simp

@[simp] theorem execStreamEpochDue_seen (k : Nat) (s u : State) (hF : Scope.Le ⟨[.bank, .io, .ref, .net, .dsp], [one (Reg.REF_STREAM_COUNT k), dspCnt, one Reg.DSP_HELD_MAX], (one Reg.REF_STICKY :: one Reg.NFL_STICKY :: one Reg.DSP_STICKY :: raised), false, false⟩ F) :
    seen F (ran (execStreamEpochDue k s) u) = seen F s := by
  refine seen_mono hF ?_
  conv_lhs => unfold execStreamEpochDue; zeta
  (repeat' split) <;> simp

@[simp] theorem execEncode_seen (s u : State) (hF : Scope.Le ⟨[.bank, .io, .ref, .net, .dsp], [dspCnt, words Reg.REF_STREAM_COUNT 16], (one Reg.REF_STICKY :: one Reg.NFL_STICKY :: raised), false, false⟩ F) :
    seen F (ran (execEncode s) u) = seen F s := by
  refine seen_mono hF ?_
  unfold execEncode
  dsimp only [ran]
  refine withJob_seen _ _ _ (fun j t => ?_) (by simp)
  split
  next k e _ =>
    rw [endJob_seen _ _ (by simp)]
    split
    next hon =>
      simp only [streamOn, Bool.and_eq_true, decide_eq_true_eq] at hon
      simp [hon.1.1]
    · rfl
  · simp

@[simp] theorem withParse_seen (type : Nat) {body : Job → List Byte → State → State} (s : State)
    (hbody : ∀ j b s, seen F (body j b s) = seen F s) (hF : Scope.Le ⟨[.bank], [dspCnt], [], false, false⟩ F) :
    seen F (withParse type body s) = seen F s :=
  withJob_seen _ _ _ (fun j t => by
    split
    · exact hbody _ _ _
    · rfl) hF

@[simp] theorem execObsParse_seen (s u : State) (hF : Scope.Le ⟨[.bank, .io, .net, .mach, .pst, .dsp, .pai], [dspCnt], (one Reg.NFL_STICKY :: netSticky :: one Reg.PST_STICKY :: raised), false, false⟩ F) :
    seen F (ran (execObsParse s) u) = seen F s := by
  refine seen_mono hF ?_
  unfold execObsParse
  dsimp only [ran]
  refine withJob_seen _ _ _ (fun j t => ?_) (by simp)
  split
  · split <;> simp
  · rfl

@[simp] theorem setLastPos_seen (m : Nat) (p : Int × Int × Int) (s : State) (hF : Scope.Le ⟨[.mach], [], [], false, false⟩ F) :
    seen F (setLastPos m p s) = seen F s := seen_mono hF (by unfold setLastPos; simp)

@[simp] theorem execPosParse_seen (s u : State) (hF : Scope.Le ⟨[.bank, .io, .mach, .dsp], [dspCnt], (one Reg.CHT_STICKY :: raised), false, false⟩ F) :
    seen F (ran (execPosParse s) u) = seen F s := seen_mono hF (by unfold execPosParse; simp)

@[simp] theorem execStatusParse_seen (s u : State) (hF : Scope.Le ⟨[.bank, .io, .net, .mach, .dsp, .nfl, .pai], [dspCnt], (one Reg.NFL_STICKY :: netSticky :: raised), false, false⟩ F) :
    seen F (ran (execStatusParse s) u) = seen F s := seen_mono hF (by unfold execStatusParse; simp)

@[simp] theorem execAckParse_seen (s u : State) (hF : Scope.Le ⟨[.bank, .io, .dsp, .tsk, .nfl, .pai], [dspCnt, tskCnt], (one Reg.TSK_STICKY :: raised), false, false⟩ F) :
    seen F (ran (execAckParse s) u) = seen F s := seen_mono hF (by unfold execAckParse; simp)

@[simp] theorem execFixJob_seen (e : Nat) (s u : State) (hF : Scope.Le ⟨[.bank, .io, .pst, .dsp], [dspCnt], raised, false, false⟩ F) :
    seen F (ran (execFixJob e s) u) = seen F s := by
  refine seen_mono hF ?_
  conv_lhs => unfold execFixJob; zeta
  (repeat' split) <;> simp

@[simp] theorem execFixGateOpen_seen (s u : State) (hF : Scope.Le ⟨[.dsp], [], [], false, false⟩ F) :
    seen F (ran (execFixGateOpen s) u) = seen F s := seen_mono hF (by unfold execFixGateOpen; simp)

@[simp] theorem sendFix_seen (m gen e : Nat) (r : FixResult) (late snapshot : Bool) (s : State) (hF : Scope.Le ⟨[.io, .net, .mach, .pai], [], (one Reg.NFL_STICKY :: netSticky :: raised), false, false⟩ F) :
    seen F (sendFix m gen e r late snapshot s) = seen F s := seen_mono hF (by unfold sendFix; simp)

@[simp] theorem fixCounted_seen (r : FixResult) (late : Bool) (tRx : Int) (s : State) (hF : Scope.Le ⟨[.bank, .io], [one Reg.PST_LAT_MAX, pstCnt], (one Reg.PST_STICKY :: raised), false, false⟩ F) :
    seen F (fixCounted r late tRx s) = seen F s := by
  refine seen_mono hF ?_
  have hk : 4 - r.state < 8 := by omega
  conv_lhs => unfold fixCounted; zeta
  simp [hk]

@[simp] theorem fixWriteBack_seen (f : FixStart) (x : Slot) (s : State) (hF : Scope.Le ⟨[.io, .pst, .pai], [], raised, false, false⟩ F) :
    seen F (fixWriteBack f x s) = seen F s := seen_mono hF (by unfold fixWriteBack; simp)

@[simp] theorem execFixJobComplete_seen (e : Nat) (s u : State) (hF : Scope.Le ⟨[.bank, .io, .ref, .net, .mach, .pst, .dsp, .pai], [pstCnt, one Reg.PST_LAT_MAX, dspCnt], (one Reg.PST_STICKY :: one Reg.NFL_STICKY :: netSticky :: raised), false, false⟩ F) :
    seen F (ran (execFixJobComplete e s) u) = seen F s := by
  refine seen_mono hF ?_
  conv_lhs => unfold execFixJobComplete; zeta
  (repeat' split) <;> simp

@[simp] theorem fixQuarantine_seen (e : Nat) (s : State) (hF : Scope.Le ⟨[.bank, .io, .recorder, .pst], [recCnt, one Reg.PST_QUAR], (one Reg.REC_STICKY :: one Reg.PST_STICKY :: raised), false, false⟩ F) :
    seen F (fixQuarantine e s) = seen F s := seen_mono hF (by unfold fixQuarantine; simp)

@[simp] theorem fixMismatch_seen (e : Nat) (s : State) (hF : Scope.Le ⟨[.bank, .io, .recorder, .ref, .net, .mach, .pst, .dsp, .pai], [recCnt, one Reg.PST_QUAR, one Reg.PST_MISMATCH_CNT, pstCnt, dspCnt, one Reg.PST_LAT_MAX], (one Reg.REC_STICKY :: one Reg.PST_STICKY :: one Reg.NFL_STICKY :: netSticky :: raised), false, false⟩ F) :
    seen F (fixMismatch e s) = seen F s := by
  refine seen_mono hF ?_
  conv_lhs => unfold fixMismatch; zeta
  (repeat' split) <;> simp

@[simp] theorem execFixMismatchEvent_seen (e : Nat) (s u : State) (hF : Scope.Le ⟨[.bank, .io, .recorder, .ref, .net, .mach, .pst, .dsp, .pai], [recCnt, one Reg.PST_QUAR, one Reg.PST_MISMATCH_CNT, pstCnt, dspCnt, one Reg.PST_LAT_MAX], (one Reg.REC_STICKY :: one Reg.PST_STICKY :: one Reg.NFL_STICKY :: netSticky :: raised), false, false⟩ F) :
    seen F (ran (execFixMismatchEvent e s) u) = seen F s := seen_mono hF (by unfold execFixMismatchEvent; simp)

@[simp] theorem execPstInject_seen (w : Word) (s u : State) (hF : Scope.Le ⟨[.bank, .io, .recorder, .ref, .net, .mach, .pst, .dsp, .pai], [recCnt, one Reg.PST_QUAR, one Reg.PST_MISMATCH_CNT, pstCnt, dspCnt, one Reg.PST_LAT_MAX], (one Reg.PST_STICKY :: one Reg.REC_STICKY :: one Reg.NFL_STICKY :: netSticky :: raised), false, false⟩ F) :
    seen F (ran (execPstInject w s) u) = seen F s := seen_mono hF (by unfold execPstInject; simp)

@[simp] theorem execPstSlotReset_seen (w : Word) (s u : State) (hF : Scope.Le ⟨[.io, .pst, .pai], [], (one Reg.PAI_STICKY :: raised), false, false⟩ F) :
    seen F (ran (execPstSlotReset w s) u) = seen F s := seen_mono hF (by unfold execPstSlotReset; simp)

@[simp] theorem execPstClearLat_seen (s u : State) (hF : Scope.Le ⟨[.bank], [one Reg.PST_LAT_MAX], [], false, false⟩ F) :
    seen F (ran (execPstClearLat s) u) = seen F s := seen_mono hF (by unfold execPstClearLat; simp)

@[simp] theorem snapPark_seen (j : Job) (v : Snap) (r : FixResult) (s : State) (hF : Scope.Le ⟨[.bank, .io, .acq, .net, .mach, .cht, .dsp, .pai], [dspCnt, one Reg.ACQ_RSNAP_COUNT, chtCnt], (one Reg.NFL_STICKY :: netSticky :: one Reg.CHT_STICKY :: raised), false, false⟩ F) :
    seen F (snapPark j v r s) = seen F s := by
  refine seen_mono hF ?_
  unfold snapPark
  split <;> simp

@[simp] theorem snapParse_seen (s : State) (hF : Scope.Le ⟨[.bank, .io, .dsp], [dspCnt], raised, false, false⟩ F) : seen F (snapParse s) = seen F s :=
  seen_mono hF (withJob_seen _ _ _ (fun j t => by split <;> simp) (by simp))

@[simp] theorem snapStart_seen (s : State) (hF : Scope.Le ⟨[.bank, .io, .acq, .dsp, .free], [dspCnt], (one Reg.ACQ_STICKY :: raised), false, false⟩ F) : seen F (snapStart s) = seen F s := by
  refine seen_mono hF ?_
  unfold snapStart
  split
  · rfl
  · exact withJob_seen _ _ _ (fun j t => by split <;> simp) (by simp)

@[simp] theorem snapFinish_seen (s : State) (hF : Scope.Le ⟨[.bank, .io, .acq, .net, .mach, .cht, .dsp, .pai, .free], [dspCnt, one Reg.ACQ_RSNAP_COUNT, chtCnt], (one Reg.NFL_STICKY :: netSticky :: one Reg.CHT_STICKY :: raised), false, false⟩ F) :
    seen F (snapFinish s) = seen F s := by
  refine seen_mono hF ?_
  conv_lhs => unfold snapFinish; zeta
  (repeat' split) <;> simp

@[simp] theorem execSnapSolve_seen (s u : State) (hF : Scope.Le ⟨[.bank, .io, .acq, .net, .mach, .cht, .dsp, .pai, .free], [dspCnt, one Reg.ACQ_RSNAP_COUNT, chtCnt], (one Reg.NFL_STICKY :: netSticky :: one Reg.CHT_STICKY :: one Reg.ACQ_STICKY :: raised), false, false⟩ F) :
    seen F (ran (execSnapSolve s) u) = seen F s := seen_mono hF (by unfold execSnapSolve; simp)

@[simp] theorem setPai_seen (p : Pai) (s : State) (hF : Scope.Le ⟨[.pai], [], [], false, false⟩ F) :
    seen F (setPai p s) = seen F s := seen_mono hF (by unfold setPai; simp)

@[simp] theorem startSync_seen (s : State) (hF : Scope.Le ⟨[.io, .pai], [], raised, false, false⟩ F) :
    seen F (startSync s) = seen F s := seen_mono hF (by unfold startSync; simp)

@[simp] theorem servingMode_seen (s : State) (hF : Scope.Le ⟨[.crp, .ing, .ref], [], [], false, false⟩ F) :
    seen F (servingMode s) = seen F s := seen_mono hF (by unfold servingMode; simp)

@[simp] theorem claimDrive_seen (s : State) (hF : Scope.Le ⟨[.io, .pai], [], [], false, false⟩ F) :
    seen F (claimDrive s) = seen F s := seen_mono hF (by unfold claimDrive; simp)

@[simp] theorem claimRelease_seen (s : State) (hF : Scope.Le ⟨[.io, .pai], [], [], false, false⟩ F) :
    seen F (claimRelease s) = seen F s := seen_mono hF (by unfold claimRelease; simp)

@[simp] theorem adoptTime_seen (s : State) (hF : Scope.Le ⟨[.tim], [], [], false, false⟩ F) :
    seen F (adoptTime s) = seen F s := by
  refine seen_mono hF ?_
  conv_lhs => unfold adoptTime; zeta
  (repeat' split) <;> simp

@[simp] theorem advanceSeqs_seen (s : State) (hF : Scope.Le ⟨[.io, .net, .mach, .pai], [], raised, false, false⟩ F) :
    seen F (advanceSeqs s) = seen F s := seen_mono hF (by unfold advanceSeqs; simp)

@[simp] theorem continueLatch_seen (s : State) (hF : Scope.Le ⟨[.io, .nfl, .pai], [], raised, false, false⟩ F) :
    seen F (continueLatch s) = seen F s := seen_mono hF (by unfold continueLatch; simp)

@[simp] theorem emptyDispatcher_seen (s : State) (hF : Scope.Le ⟨[.bank, .io, .cht, .dsp], [paiCnt], raised, false, false⟩ F) :
    seen F (emptyDispatcher s) = seen F s := by
  refine seen_mono hF ?_
  unfold emptyDispatcher
  dsimp only
  rw [setCht_seen _ _ (by simp), seen_foldl fun t j => ?_]
  rw [flushLate_seen _ (by simp)]
  split <;> simp

@[simp] theorem takeover_seen (cause : Nat) (s : State) (hF : Scope.Le ⟨[.bank, .io, .recorder, .crp, .upd, .ing, .tim, .ref, .net, .mach, .cht, .dsp, .nfl, .pai], [paiCnt, dspCnt, one Reg.DSP_HELD_MAX, one Reg.NFL_REFUSE, nflCnt, recCnt], (one Reg.PAI_STICKY :: one Reg.DSP_STICKY :: one Reg.NFL_STICKY :: one Reg.REC_STICKY :: one Reg.TIM_STICKY :: raised), false, false⟩ F) :
    seen F (takeover cause s) = seen F s := by
  refine seen_mono hF ?_
  conv_lhs => unfold takeover; zeta
  (repeat' split) <;> simp

@[simp] theorem toStandby_seen (s : State) (hF : Scope.Le ⟨[.io, .crp, .ing, .acq, .ref, .net, .pst, .cht, .dsp, .nfl, .pai], [], (one Reg.PAI_STICKY :: raised), false, false⟩ F) :
    seen F (toStandby s) = seen F s := by
  refine seen_mono hF ?_
  conv_lhs => unfold toStandby; zeta
  (repeat' split) <;> simp [↓claimRelease_seen, ↓mismatchesShown_seen, ↓seen_emit, ↓seen_with_net, ↓seen_with_pst, ↓setAcq_seen, ↓setCht_seen, ↓setDsp_seen, ↓setMode_seen, ↓setNfl_seen, ↓setPai_seen]

@[simp] theorem startListening_seen (s : State) (hF : Scope.Le ⟨[.io, .crp, .ing, .acq, .ref, .net, .pst, .cht, .dsp, .nfl, .pai], [], (one Reg.PAI_STICKY :: raised), false, false⟩ F) :
    seen F (startListening s) = seen F s := seen_mono hF (by unfold startListening; simp)

@[simp] theorem pairDegraded_seen (s : State) (hF : Scope.Le ⟨[.io], [], (one Reg.PAI_STICKY :: raised), false, false⟩ F) :
    seen F (pairDegraded s) = seen F s := seen_mono hF (by unfold pairDegraded; simp)

@[simp] theorem claimProcedure_seen (s : State) (hF : Scope.Le ⟨[.bank, .io, .recorder, .crp, .upd, .ing, .tim, .ref, .net, .mach, .cht, .dsp, .nfl, .pai], [paiCnt, dspCnt, one Reg.DSP_HELD_MAX, one Reg.NFL_REFUSE, nflCnt, recCnt], (one Reg.PAI_STICKY :: one Reg.DSP_STICKY :: one Reg.NFL_STICKY :: one Reg.REC_STICKY :: one Reg.TIM_STICKY :: raised), false, false⟩ F) :
    seen F (claimProcedure s) = seen F s := seen_mono hF (by unfold claimProcedure; simp)

@[simp] theorem peerFail_seen (s : State) (hF : Scope.Le ⟨[.bank, .io, .recorder, .crp, .upd, .ing, .tim, .ref, .net, .mach, .cht, .dsp, .nfl, .pai], [paiCnt, dspCnt, one Reg.DSP_HELD_MAX, one Reg.NFL_REFUSE, nflCnt, recCnt], (one Reg.PAI_STICKY :: one Reg.DSP_STICKY :: one Reg.NFL_STICKY :: one Reg.REC_STICKY :: one Reg.TIM_STICKY :: raised), false, false⟩ F) :
    seen F (peerFail s) = seen F s := seen_mono hF (by unfold peerFail; simp)

@[simp] theorem execClaimSample_seen (high : Bool) (s u : State) (hF : Scope.Le ⟨[.bank, .io, .recorder, .crp, .upd, .ing, .acq, .tim, .ref, .net, .mach, .pst, .cht, .dsp, .nfl, .pai], [paiCnt, dspCnt, one Reg.DSP_HELD_MAX, one Reg.NFL_REFUSE, nflCnt, recCnt], (one Reg.PAI_STICKY :: one Reg.DSP_STICKY :: one Reg.NFL_STICKY :: one Reg.REC_STICKY :: one Reg.TIM_STICKY :: raised), false, false⟩ F) :
    seen F (ran (execClaimSample high s) u) = seen F s := by
  refine seen_mono hF ?_
  conv_lhs => unfold execClaimSample; zeta
  (repeat' split) <;> simp

@[simp] theorem execClaimNRelease_seen (s u : State) (hF : Scope.Le ⟨[.io, .pai], [], [], false, false⟩ F) :
    seen F (ran (execClaimNRelease s) u) = seen F s := by
  refine seen_mono hF ?_
  unfold execClaimNRelease
  split <;> simp

@[simp] theorem execPeerWaitExpiry_seen (s u : State) (hF : Scope.Le ⟨[.bank, .io, .recorder, .crp, .upd, .ing, .tim, .ref, .net, .mach, .cht, .dsp, .nfl, .pai], [paiCnt, dspCnt, one Reg.DSP_HELD_MAX, one Reg.NFL_REFUSE, nflCnt, recCnt], (one Reg.PAI_STICKY :: one Reg.DSP_STICKY :: one Reg.NFL_STICKY :: one Reg.REC_STICKY :: one Reg.TIM_STICKY :: raised), false, false⟩ F) :
    seen F (ran (execPeerWaitExpiry s) u) = seen F s := seen_mono hF (by unfold execPeerWaitExpiry; simp)

@[simp] theorem splitLine_seen (s : State) (hF : Scope.Le ⟨[.bank, .io, .recorder, .upd, .net, .cht, .nfl, .pai], [one Reg.NFL_REFUSE, nflCnt, recCnt], (one Reg.NFL_STICKY :: one Reg.REC_STICKY :: one Reg.PAI_STICKY :: raised), false, false⟩ F) :
    seen F (splitLine s) = seen F s := seen_mono hF (by unfold splitLine; simp)

@[simp] theorem execSplitClaimLow_seen (s u : State) (hF : Scope.Le ⟨[.bank, .io, .recorder, .upd, .net, .cht, .nfl, .pai], [one Reg.NFL_REFUSE, nflCnt, recCnt], (one Reg.NFL_STICKY :: one Reg.REC_STICKY :: one Reg.PAI_STICKY :: raised), false, false⟩ F) :
    seen F (ran (execSplitClaimLow s) u) = seen F s := seen_mono hF (by unfold execSplitClaimLow; simp)

@[simp] theorem execSplitClaimStuck_seen (s u : State) (hF : Scope.Le ⟨[.bank, .io, .recorder, .upd, .net, .cht, .nfl, .pai], [one Reg.NFL_REFUSE, nflCnt, recCnt], (one Reg.NFL_STICKY :: one Reg.REC_STICKY :: one Reg.PAI_STICKY :: raised), false, false⟩ F) :
    seen F (ran (execSplitClaimStuck s) u) = seen F s := by
  refine seen_mono hF ?_
  unfold execSplitClaimStuck
  split <;> simp

@[simp] theorem splitTest_seen (s : State) (hF : Scope.Le ⟨[.bank, .io, .recorder, .upd, .net, .cht, .nfl, .pai], [one Reg.NFL_REFUSE, nflCnt, recCnt], (one Reg.NFL_STICKY :: one Reg.REC_STICKY :: one Reg.PAI_STICKY :: raised), false, false⟩ F) :
    seen F (splitTest s) = seen F s := by
  refine seen_mono hF ?_
  unfold splitTest
  split <;> simp

@[simp] theorem execHeartbeatSend_seen (s u : State) (hF : Scope.Le ⟨[.io, .pai], [], raised, false, false⟩ F) :
    seen F (ran (execHeartbeatSend s) u) = seen F s := seen_mono hF (by unfold execHeartbeatSend; simp)

@[simp] theorem hbMissed_seen (n : Nat) (s : State) (hF : Scope.Le ⟨[.bank, .io], [paiCnt], raised, false, false⟩ F) :
    seen F (hbMissed n s) = seen F s := seen_mono hF (by unfold hbMissed; simp)

@[simp] theorem bothHealthy_seen (s : State) (hF : Scope.Le ⟨[.pai], [], [], false, false⟩ F) :
    seen F (bothHealthy s) = seen F s := seen_mono hF (by unfold bothHealthy; simp)

@[simp] theorem pathAGood_seen (seq : Nat) (s : State) (hF : Scope.Le ⟨[.bank, .io, .pai], [paiCnt], raised, false, false⟩ F) :
    seen F (pathAGood seq s) = seen F s := seen_mono hF (by unfold pathAGood; simp)

@[simp] theorem steer_seen (f : List Byte) (s : State) (hF : Scope.Le ⟨[.bank, .io, .ing, .cor, .tim, .ref, .net, .cht, .pai], [words Reg.TIM_TP_CFG 16], (one Reg.TIM_TP_STICKY :: raised), false, false⟩ F) :
    seen F (steer f s) = seen F s := by
  refine seen_mono hF ?_
  conv_lhs => unfold steer; zeta
  (repeat' split) <;> simp

@[simp] theorem heardPeer_seen (s : State) (hF : Scope.Le ⟨[.bank, .io, .recorder, .crp, .upd, .ing, .tim, .ref, .net, .mach, .cht, .dsp, .nfl, .pai], [paiCnt, dspCnt, one Reg.DSP_HELD_MAX, one Reg.NFL_REFUSE, nflCnt, recCnt], (one Reg.PAI_STICKY :: one Reg.DSP_STICKY :: one Reg.NFL_STICKY :: one Reg.REC_STICKY :: one Reg.TIM_STICKY :: raised), false, false⟩ F) :
    seen F (heardPeer s) = seen F s := by
  refine seen_mono hF ?_
  unfold heardPeer
  split <;> simp

@[simp] theorem returnCheck_seen (s : State) (hF : Scope.Le ⟨[.pai], [], [], false, false⟩ F) :
    seen F (returnCheck s) = seen F s := seen_mono hF (by unfold returnCheck; simp)

@[simp] theorem lagCheck_seen (s : State) (hF : Scope.Le ⟨[.io, .pai], [], raised, false, false⟩ F) :
    seen F (lagCheck s) = seen F s := by
  refine seen_mono hF ?_
  unfold lagCheck
  split <;> simp

@[simp] theorem peerView_seen (f : List Byte) (s : State) (hF : Scope.Le ⟨[.pai], [], [], false, false⟩ F) :
    seen F (peerView f s) = seen F s := seen_mono hF (by unfold peerView; simp)

@[simp] theorem execHeartbeatReceive_seen (f : List Byte) (crcOk : Bool) (s u : State) (hF : Scope.Le ⟨[.bank, .io, .recorder, .crp, .upd, .ing, .cor, .tim, .ref, .net, .mach, .cht, .dsp, .nfl, .pai], [paiCnt, one Reg.NFL_REFUSE, nflCnt, recCnt, dspCnt, one Reg.DSP_HELD_MAX, words Reg.TIM_TP_CFG 16, one Reg.PAI_PEER_VER], (one Reg.NFL_STICKY :: one Reg.REC_STICKY :: one Reg.PAI_STICKY :: one Reg.DSP_STICKY :: one Reg.TIM_STICKY :: one Reg.TIM_TP_STICKY :: raised), false, false⟩ F) :
    seen F (ran (execHeartbeatReceive f crcOk s) u) = seen F s := seen_mono hF (by unfold execHeartbeatReceive; simp)

@[simp] theorem execPathAFail_seen (s u : State) (hF : Scope.Le ⟨[.bank, .io, .recorder, .crp, .upd, .ing, .tim, .ref, .net, .mach, .cht, .dsp, .nfl, .pai], [paiCnt, dspCnt, one Reg.DSP_HELD_MAX, one Reg.NFL_REFUSE, nflCnt, recCnt], (one Reg.PAI_STICKY :: one Reg.DSP_STICKY :: one Reg.NFL_STICKY :: one Reg.REC_STICKY :: one Reg.TIM_STICKY :: raised), false, false⟩ F) :
    seen F (ran (execPathAFail s) u) = seen F s := seen_mono hF (by unfold execPathAFail; simp)

@[simp] theorem execPulseBurstSend_seen (s u : State) (hF : Scope.Le ⟨[.io, .pai], [], [], false, false⟩ F) :
    seen F (ran (execPulseBurstSend s) u) = seen F s := seen_mono hF (by unfold execPulseBurstSend; simp)

@[simp] theorem execPulseBurstReceive_seen (cells : BitVec 6) (s u : State) (hF : Scope.Le ⟨[.bank, .pai], [paiCnt], [], false, false⟩ F) :
    seen F (ran (execPulseBurstReceive cells s) u) = seen F s := seen_mono hF (by unfold execPulseBurstReceive; simp)

@[simp] theorem execPathBFail_seen (s u : State) (hF : Scope.Le ⟨[.bank, .io, .recorder, .crp, .upd, .ing, .tim, .ref, .net, .mach, .cht, .dsp, .nfl, .pai], [paiCnt, dspCnt, one Reg.DSP_HELD_MAX, one Reg.NFL_REFUSE, nflCnt, recCnt], (one Reg.PAI_STICKY :: one Reg.DSP_STICKY :: one Reg.NFL_STICKY :: one Reg.REC_STICKY :: one Reg.TIM_STICKY :: raised), false, false⟩ F) :
    seen F (ran (execPathBFail s) u) = seen F s := seen_mono hF (by unfold execPathBFail; simp)

@[simp] theorem applyNfl_seen (r : MirrorRec) (s : State) (hF : Scope.Le ⟨[.upd, .net, .nfl, .pai], [], [], false, false⟩ F) :
    seen F (applyNfl r s) = seen F s := by
  refine seen_mono hF ?_
  unfold applyNfl
  split
  · dsimp only
    rw [seen_foldl fun t n => by simp]
    exact seen_mk (F := ⟨[.upd, .net, .nfl, .pai], [], [], false, false⟩) (s := s) (.inl rfl) (.inl rfl) (.inr ⟨by decide, .inl rfl⟩) (.inl rfl) (.inl rfl) (.inl rfl) (.inl rfl) (.inl rfl)
        (.inl rfl) (.inl rfl) (.inl rfl) (.inl rfl) (.inl rfl) (.inl rfl) (.inl rfl) (.inl rfl) (.inr (by decide)) (.inr (by decide)) (.inl rfl)
        (.inl rfl)
  · rfl

@[simp] theorem clearMirrored_seen (s : State) (hF : Scope.Le ⟨[.bank, .mach, .pst, .cht, .tsk, .pai], [isMirroredReg], [], false, false⟩ F) :
    seen F (clearMirrored s) = seen F s := by
  refine seen_mono hF (seen_mk (.inr ⟨by simp, regSeen_filter (p := fun a => !isMirroredReg a) (q := fun a => !isMirroredReg a) ?_ ?_ _ _ _⟩)
    (.inl rfl) (.inl rfl) (.inl rfl) (.inl rfl) (.inl rfl) (.inl rfl) (.inl rfl) (.inl rfl) (.inl rfl) (.inl rfl) (.inr (by simp))
    (.inr (by simp)) (.inr (by simp)) (.inl rfl) (.inr (by simp)) (.inl rfl) (.inr (by simp)) (.inl rfl) (.inl rfl)) <;>
  · intro a ha
    simpa using ha

@[simp] theorem applyGraph_seen (id : Nat) (s : State) (hF : Scope.Le ⟨[.cht, .pai], [], [], false, false⟩ F) :
    seen F (applyGraph id s) = seen F s := by
  refine seen_mono hF ?_
  unfold applyGraph
  split <;> simp

@[simp] theorem applyOrigin_seen (gen o : Nat) (fin : Option Nat) (s : State) (hF : Scope.Le ⟨[.bank, .cht], [one Reg.CHT_ORIGIN_LO, one Reg.CHT_ORIGIN_HI], [], false, false⟩ F) :
    seen F (applyOrigin gen o fin s) = seen F s := seen_mono hF (by unfold applyOrigin; simp)

@[simp] theorem applyStep_seen (step : Option StepPlan) (s : State) (hF : Scope.Le ⟨[.bank, .tim], [one Reg.TIM_STEP_NS, one Reg.TIM_STEP_AT_S], [], false, false⟩ F) :
    seen F (applyStep step s) = seen F s := by
  refine seen_mono hF ?_
  unfold applyStep
  split <;> simp

@[simp] theorem applyRec_seen (r : MirrorRec) (s : State) (hF : Scope.Le ⟨[.bank, .io, .recorder, .upd, .tim, .ref, .net, .mach, .pst, .cht, .dsp, .tsk, .nfl, .pai], [recordRegs r, one Reg.CHT_ORIGIN_LO, one Reg.CHT_ORIGIN_HI, one Reg.NFL_REFUSE, nflCnt, recCnt, allNetCnt, one Reg.DSP_HELD_MAX, dspCnt, one Reg.TIM_STEP_NS, one Reg.TIM_STEP_AT_S], (one Reg.CHT_STICKY :: one Reg.NFL_STICKY :: one Reg.REC_STICKY :: netSticky :: one Reg.TIM_STICKY :: one Reg.DSP_STICKY :: raised), false, false⟩ F) : seen F (applyRec r s) = seen F s := by
  refine seen_mono hF ?_
  cases r
  case cfg l =>
    have hwrites : seen ⟨[.bank], [recordRegs (.cfg l)], [], false, false⟩ (l.foldl (fun s e => wrBoth e.1 e.2 s) s) = seen _ s :=
      seen_foldl_mem (fun e he t => seen_wrBoth (by simp) (by simpa [recordRegs] using ⟨e.2, he⟩) _ _) s
    exact (afterSwap_seen _ _ (by simp)).trans (seen_mono (by simp) hwrites)
  case sync => exact clearMirrored_seen s ⟨by simp, (covers_cons _ _ _).2 ⟨fun a ha => inside_of_mem (f := recordRegs .sync) (by simp) a ha, by simp⟩, by simp, by simp, by simp⟩
  all_goals simp [applyRec]

@[simp] theorem pushOutcome_seen (o : Nat) (s : State) (hF : Scope.Le ⟨[.io, .upd], [], (one Reg.UPD_STICKY :: raised), false, false⟩ F) :
    seen F (pushOutcome o s) = seen F s := by
  refine seen_mono hF ?_
  conv_lhs => unfold pushOutcome; zeta
  (repeat' split) <;> simp

@[simp] theorem returnTakeover_seen (s : State) (hF : Scope.Le ⟨[.bank, .io, .recorder, .crp, .upd, .ing, .tim, .ref, .net, .mach, .cht, .dsp, .nfl, .pai], [paiCnt, dspCnt, one Reg.DSP_HELD_MAX, one Reg.NFL_REFUSE, nflCnt, recCnt], (one Reg.PAI_STICKY :: one Reg.DSP_STICKY :: one Reg.NFL_STICKY :: one Reg.REC_STICKY :: one Reg.TIM_STICKY :: raised), false, false⟩ F) :
    seen F (returnTakeover s) = seen F s := seen_mono hF (by unfold returnTakeover; simp)

@[simp] theorem execMirrorRecord_seen (number : Nat) (r : MirrorRec) (s u : State) (hF : Scope.Le ⟨[.bank, .io, .recorder, .crp, .upd, .ing, .tim, .ref, .net, .mach, .pst, .cht, .dsp, .tsk, .nfl, .pai], [recordRegs r, one Reg.CHT_ORIGIN_LO, one Reg.CHT_ORIGIN_HI, one Reg.NFL_REFUSE, nflCnt, recCnt, allNetCnt, one Reg.DSP_HELD_MAX, dspCnt, one Reg.TIM_STEP_NS, one Reg.TIM_STEP_AT_S, paiCnt], (one Reg.UPD_STICKY :: one Reg.NFL_STICKY :: one Reg.REC_STICKY :: one Reg.PAI_STICKY :: one Reg.CHT_STICKY :: netSticky :: one Reg.TIM_STICKY :: one Reg.DSP_STICKY :: raised), false, false⟩ F) :
    seen F (ran (execMirrorRecord number r s) u) = seen F s := by
  refine seen_mono hF ?_
  conv_lhs => unfold execMirrorRecord; zeta
  dsimp only [ran]
  (repeat' split) <;> simp

@[simp] theorem releaseGrant_seen (g : HeldGrant) (s : State) (hF : Scope.Le ⟨[.io, .net, .cht], [], (one Reg.NFL_STICKY :: raised), false, false⟩ F) :
    seen F (releaseGrant g s) = seen F s := seen_mono hF (by unfold releaseGrant; simp)

@[simp] theorem execMirrorAck_seen (number : Nat) (s u : State) (hF : Scope.Le ⟨[.io, .crp, .ing, .acq, .ref, .net, .pst, .cht, .dsp, .nfl, .pai], [], (one Reg.NFL_STICKY :: one Reg.PAI_STICKY :: raised), false, false⟩ F) :
    seen F (ran (execMirrorAck number s) u) = seen F s := by
  refine seen_mono hF ?_
  conv_lhs => unfold execMirrorAck; zeta
  (repeat' split) <;> simp

@[simp] theorem execMirrorAckTimeout_seen (s u : State) (hF : Scope.Le ⟨[.bank, .io, .cht, .pai], [paiCnt], (one Reg.PAI_STICKY :: raised), false, false⟩ F) :
    seen F (ran (execMirrorAckTimeout s) u) = seen F s := seen_mono hF (by unfold execMirrorAckTimeout; simp)

@[simp] theorem execMirrorSyncComplete_seen (s u : State) (hF : Scope.Le ⟨[.bank, .io, .upd, .net, .nfl, .pai], [paiCnt], (one Reg.PAI_STICKY :: raised), false, false⟩ F) :
    seen F (ran (execMirrorSyncComplete s) u) = seen F s := by
  refine seen_mono hF ?_
  conv_lhs => unfold execMirrorSyncComplete; zeta
  (repeat' split) <;> simp

@[simp] theorem execHandoverAckTimeout_seen (s u : State) (hF : Scope.Le ⟨[.io, .pai], [], (one Reg.PAI_STICKY :: raised), false, false⟩ F) :
    seen F (ran (execHandoverAckTimeout s) u) = seen F s := by
  refine seen_mono hF ?_
  conv_lhs => unfold execHandoverAckTimeout; zeta
  (repeat' split) <;> simp

@[simp] theorem execYield_seen (s u : State) (hF : Scope.Le ⟨[.io, .pai], [], (one Reg.PAI_STICKY :: raised), false, false⟩ F) :
    seen F (ran (execYield s) u) = seen F s := by
  refine seen_mono hF ?_
  conv_lhs => unfold execYield; zeta
  (repeat' split) <;> simp

@[simp] theorem execResync_seen (s u : State) (hF : Scope.Le ⟨[.io, .pai], [], raised, false, false⟩ F) :
    seen F (ran (execResync s) u) = seen F s := seen_mono hF (by unfold execResync; simp)

@[simp] theorem setRec_seen (r : Rec) (s : State) (hF : Scope.Le ⟨[.recorder], [], [], false, false⟩ F) :
    seen F (setRec r s) = seen F s := seen_mono hF (by unfold setRec; simp)

@[simp] theorem fillHigh_seen (s : State) (hF : Scope.Le ⟨[.io, .recorder], [], (one Reg.REC_STICKY :: raised), false, false⟩ F) :
    seen F (fillHigh s) = seen F s := seen_mono hF (by unfold fillHigh; simp)

@[simp] theorem openSlot_seen (k : Nat) (s : State) (hF : Scope.Le ⟨[.bank, .io, .recorder], [recCnt], (one Reg.REC_STICKY :: raised), false, false⟩ F) :
    seen F (openSlot k s) = seen F s := seen_mono hF (by unfold openSlot; simp)

@[simp] theorem takeStaged_seen (n : Nat) (s : State) (hF : Scope.Le ⟨[.bank, .io, .recorder], [recCnt], raised, false, false⟩ F) :
    seen F (takeStaged n s) = seen F s := by
  refine seen_mono hF ?_
  induction n generalizing s with
  | zero => rfl
  | succ n ih =>
    unfold takeStaged
    split
    · rfl
    split
    · simp
    · rfl
    · dsimp only
      rw [ih]
      split <;> simp

@[simp] theorem commitRecord_seen (s : State) (hF : Scope.Le ⟨[.bank, .io, .recorder], [recCnt], (one Reg.REC_STICKY :: raised), false, false⟩ F) :
    seen F (commitRecord s) = seen F s := by
  refine seen_mono hF ?_
  conv_lhs => unfold commitRecord; zeta
  (repeat' split) <;> simp

@[simp] theorem commitAll_seen (n : Nat) (s : State) (hF : Scope.Le ⟨[.bank, .io, .recorder], [recCnt], (one Reg.REC_STICKY :: raised), false, false⟩ F) :
    seen F (commitAll n s) = seen F s := by
  induction n generalizing s with
  | zero => rfl
  | succ n ih =>
    unfold commitAll
    split
    · rfl
    · rw [ih, takeStaged_seen _ _ (.trans (by simp) hF), commitRecord_seen _ hF]

@[simp] theorem execRecordCommit_seen (s u : State) (hF : Scope.Le ⟨[.bank, .io, .recorder], [recCnt], (one Reg.REC_STICKY :: raised), false, false⟩ F) :
    seen F (ran (execRecordCommit s) u) = seen F s := by
  refine seen_mono hF ?_
  unfold execRecordCommit
  (repeat' split) <;> simp

@[simp] theorem execFoldWriteBack_seen (s u : State) (hF : Scope.Le ⟨[.recorder], [], [], false, false⟩ F) :
    seen F (ran (execFoldWriteBack s) u) = seen F s := seen_mono hF (by unfold execFoldWriteBack; simp)

@[simp] theorem toLifeboat_seen (cause : Nat) (s : State) (hF : Scope.Le ⟨[.io, .recorder], [], (one Reg.REC_STICKY :: raised), false, false⟩ F) :
    seen F (toLifeboat cause s) = seen F s := seen_mono hF (by unfold toLifeboat; simp)

@[simp] theorem nvFailed_seen (s : State) (hF : Scope.Le ⟨[.io, .recorder], [], (one Reg.REC_STICKY :: raised), false, false⟩ F) :
    seen F (nvFailed s) = seen F s := by
  refine seen_mono hF ?_
  unfold nvFailed
  split <;> simp

@[simp] theorem execLifeboat_seen (cause : Nat) (s u : State) (hF : Scope.Le ⟨[.io, .recorder], [], (one Reg.REC_STICKY :: raised), false, false⟩ F) :
    seen F (ran (execLifeboat cause s) u) = seen F s := seen_mono hF (by unfold execLifeboat; simp)

@[simp] theorem dropSlot_seen (k : Nat) (x : RecSlot) (s : State) (hF : Scope.Le ⟨[.bank, .io, .recorder], [recCnt], (one Reg.REC_STICKY :: raised), false, false⟩ F) :
    seen F (dropSlot k x s) = seen F s := by
  refine seen_mono hF ?_
  conv_lhs => unfold dropSlot; zeta
  (repeat' split) <;> simp

@[simp] theorem copyEnds_seen (k phys worst : Nat) (bad : List Nat) (s : State) (hF : Scope.Le ⟨[.bank, .io, .recorder], [recCnt], (one Reg.REC_STICKY :: raised), false, false⟩ F) :
    seen F (copyEnds k phys worst bad s) = seen F s := by
  refine seen_mono hF ?_
  conv_lhs => unfold copyEnds; zeta
  simp

@[simp] theorem execSegmentRetired_seen (phys : Nat) (x : SegCopy) (s u : State) (hF : Scope.Le ⟨[.bank, .io, .recorder], [recCnt], (one Reg.REC_STICKY :: raised), false, false⟩ F) :
    seen F (ran (execSegmentRetired phys x s) u) = seen F s := by
  refine seen_mono hF ?_
  conv_lhs => unfold execSegmentRetired; zeta
  (repeat' split) <;> simp

@[simp] theorem recReject_seen (s : State) (hF : Scope.Le ⟨[.io], [], (one Reg.REC_STICKY :: raised), false, false⟩ F) :
    seen F (recReject s) = seen F s := seen_mono hF (by unfold recReject; simp)

@[simp] theorem execRecReadSeq_seen (w : Word) (s u : State) (hF : Scope.Le ⟨[.io, .recorder], [], (one Reg.REC_STICKY :: raised), false, false⟩ F) :
    seen F (ran (execRecReadSeq w s) u) = seen F s := seen_mono hF (by unfold execRecReadSeq; simp)

@[simp] theorem recNonce_seen (b : List Byte) (s : State) (hF : Scope.Le ⟨[.recorder, .free], [], [], false, false⟩ F) :
    seen F (recNonce b s).1 = seen F s := seen_mono hF (by unfold recNonce; simp)

@[simp] theorem execRecNonce_seen (s u : State) (hF : Scope.Le ⟨[.bank, .io, .recorder, .dsp, .free], [dspCnt], raised, false, false⟩ F) :
    seen F (ran (execRecNonce s) u) = seen F s := seen_mono hF (by unfold execRecNonce; simp)

@[simp] theorem clearAll_seen (b : List Byte) (s : State) (hF : Scope.Le ⟨[.bank, .io, .recorder], [recCnt], (one Reg.REC_STICKY :: raised), false, false⟩ F) :
    seen F (clearAll b s) = seen F s := seen_mono hF (by unfold clearAll; simp)

@[simp] theorem recClear_seen (b : List Byte) (s : State) (hF : Scope.Le ⟨[.bank, .io, .recorder], [recCnt], (one Reg.REC_STICKY :: raised), false, false⟩ F) :
    seen F (recClear b s).1 = seen F s := seen_mono hF (by unfold recClear; simp)

@[simp] theorem execRecClear_seen (s u : State) (hF : Scope.Le ⟨[.bank, .io, .recorder, .dsp], [dspCnt, recCnt], (one Reg.REC_STICKY :: raised), false, false⟩ F) :
    seen F (ran (execRecClear s) u) = seen F s := seen_mono hF (by unfold execRecClear; simp)

@[simp] theorem boatUp_seen (cause : Nat) (r : Rec) (s : State) (hF : Scope.Le ⟨[.io, .recorder], [], (one Reg.REC_STICKY :: raised), false, false⟩ F) :
    seen F (boatUp cause r s) = seen F s := seen_mono hF (by unfold boatUp; simp)

@[simp] theorem recUp_seen (s : State) (hF : Scope.Le ⟨[.io, .recorder, .bank], [recCnt], (one Reg.REC_STICKY :: raised), false, false⟩ F) :
    seen F (recUp s) = seen F s := by
  refine seen_mono hF ?_
  conv_lhs => unfold recUp; zeta
  (repeat' split) <;> simp

theorem lt_of_ctrExists {s : State} {k : Nat} (h : ctrExists s k = true) : k < 256 := by
  simp only [ctrExists, Bool.and_eq_true, decide_eq_true_eq] at h
  exact h.1

@[simp] theorem execCounterOverflow_seen (k : Nat) (s u : State) (hF : Scope.Le ⟨[.io], [], raised, false, false⟩ F) :
    seen F (ran (execCounterOverflow k s) u) = seen F s := by
  conv_lhs => unfold execCounterOverflow; zeta
  dsimp only [ran]
  split
  · rfl
  next h =>
    simp only [Bool.or_eq_true, not_or, Bool.not_eq_true', Bool.not_eq_false] at h
    exact withIo_seen s (fun io => ctrAdd_stkSeen hF.stks _ (lt_of_ctrExists h.1.1) _ io) hF

@[simp] theorem carryDropped_seen (k : Nat) (carry : Bool) (s : State) (hF : Scope.Le ⟨[.io], [], raised, false, false⟩ F) :
    seen F (carryDropped k carry s) = seen F s := by
  refine seen_mono hF ?_
  conv_lhs => unfold carryDropped; zeta
  (repeat' split) <;> simp

@[simp] theorem execPrfHiWrite_seen (k : Nat) (w : CtrWrite) (s u : State) (hF : Scope.Le ⟨[.io], [], raised, false, false⟩ F) :
    seen F (ran (execPrfHiWrite k w s) u) = seen F s := by
  refine seen_mono hF ?_
  conv_lhs => unfold execPrfHiWrite; zeta
  (repeat' split) <;> simp

@[simp] theorem coreRead_seen (core n : Nat) (s : State) (hF : Scope.Le ⟨[.io], [], [], false, false⟩ F) :
    seen F (coreRead core n s).1 = seen F s := by
  refine seen_mono hF ?_
  conv_lhs => unfold coreRead; zeta
  (repeat' split) <;> simp

@[simp] theorem execFreeze_seen (w : Word) (s u : State) (hF : Scope.Le ⟨[.io], [], [], false, false⟩ F) :
    seen F (ran (execFreeze w s) u) = seen F s := seen_mono hF (by unfold execFreeze; simp)

@[simp] theorem execPrfPairCapture_seen (k : Nat) (s u : State) (hF : Scope.Le ⟨[.io], [], [], false, false⟩ F) :
    seen F (ran (execPrfPairCapture k s) u) = seen F s := by
  refine seen_mono hF ?_
  conv_lhs => unfold execPrfPairCapture; zeta
  (repeat' split) <;> simp

@[simp] theorem setKey_seen (k : Key) (s : State) (hF : Scope.Le ⟨[.key], [], [], false, false⟩ F) :
    seen F (setKey k s) = seen F s := seen_mono hF (by unfold setKey; simp)

@[simp] theorem keyReject_seen (s : State) (hF : Scope.Le ⟨[.io], [], (one Reg.KEY_STICKY :: raised), false, false⟩ F) :
    seen F (keyReject s) = seen F s := seen_mono hF (by unfold keyReject; simp)

@[simp] theorem keysChanged_seen (old s : State) (hF : Scope.Le ⟨[.bank, .io, .recorder, .upd, .net, .cht, .nfl, .pai], [one Reg.NFL_REFUSE, nflCnt, recCnt], (one Reg.PAI_STICKY :: one Reg.NFL_STICKY :: one Reg.REC_STICKY :: raised), false, false⟩ F) :
    seen F (keysChanged old s) = seen F s := seen_mono hF (by unfold keysChanged; simp)

@[simp] theorem lcChange_seen (f : BitVec 128) (s : State) (hF : Scope.Le ⟨[.bank, .io, .recorder, .upd, .net, .cht, .nfl, .pai, .key], [one Reg.NFL_REFUSE, nflCnt, recCnt], (one Reg.PAI_STICKY :: one Reg.NFL_STICKY :: one Reg.REC_STICKY :: one Reg.KEY_STICKY :: raised), true, false⟩ F) :
    seen F (lcChange f s) = seen F s := by
  refine seen_mono hF ?_
  conv_lhs => unfold lcChange; zeta
  simp

@[simp] theorem lcTamper_seen (s : State) (hF : Scope.Le ⟨[.bank, .io, .recorder, .upd, .net, .cht, .nfl, .pai, .key], [one Reg.NFL_REFUSE, nflCnt, recCnt], (one Reg.PAI_STICKY :: one Reg.NFL_STICKY :: one Reg.REC_STICKY :: one Reg.KEY_STICKY :: raised), true, false⟩ F) :
    seen F (lcTamper s) = seen F s := seen_mono hF (by unfold lcTamper; simp)

@[simp] theorem setLcRun_seen (target : Nat) (s : State) (hF : Scope.Le ⟨[.bank, .io, .recorder, .upd, .net, .cht, .nfl, .pai, .key], [one Reg.NFL_REFUSE, nflCnt, recCnt], (one Reg.PAI_STICKY :: one Reg.NFL_STICKY :: one Reg.REC_STICKY :: one Reg.KEY_STICKY :: raised), true, false⟩ F) :
    seen F (setLcRun target s) = seen F s := by
  refine seen_mono hF ?_
  unfold setLcRun
  split <;> simp

@[simp] theorem execProvision_seen (w : Word) (s u : State) (hF : Scope.Le ⟨[.bank, .io, .recorder, .upd, .net, .cht, .nfl, .pai, .key], [one Reg.NFL_REFUSE, nflCnt, recCnt], (one Reg.KEY_STICKY :: one Reg.PAI_STICKY :: one Reg.NFL_STICKY :: one Reg.REC_STICKY :: raised), true, false⟩ F) :
    seen F (ran (execProvision w s) u) = seen F s := by
  refine seen_mono hF ?_
  conv_lhs => unfold execProvision; zeta
  (repeat' split) <;> simp

@[simp] theorem execRetire_seen (w : Word) (s u : State) (hF : Scope.Le ⟨[.bank, .io, .recorder, .upd, .net, .cht, .nfl, .pai, .key], [one Reg.NFL_REFUSE, nflCnt, recCnt], (one Reg.PAI_STICKY :: one Reg.NFL_STICKY :: one Reg.REC_STICKY :: one Reg.KEY_STICKY :: raised), true, false⟩ F) :
    seen F (ran (execRetire w s) u) = seen F s := seen_mono hF (by unfold execRetire; simp)

@[simp] theorem putKey_seen (k : Nat) (x : KeySlot) (s : State) (hF : Scope.Le ⟨[.key], [], [], false, false⟩ F) :
    seen F (putKey k x s) = seen F s := seen_mono hF (by unfold putKey; simp)

@[simp] theorem invalidateBelow_seen (k : Nat) (s : State) (hF : Scope.Le ⟨[.bank, .io, .recorder, .key], [recCnt], (one Reg.REC_STICKY :: one Reg.KEY_STICKY :: raised), false, false⟩ F) :
    seen F (invalidateBelow k s) = seen F s := seen_mono hF (by unfold invalidateBelow; simp)

@[simp] theorem kuCommit_seen (b : List Byte) (s : State) (hF : Scope.Le ⟨[.bank, .io, .recorder, .upd, .net, .cht, .nfl, .pai, .key], [one Reg.NFL_REFUSE, nflCnt, recCnt], (one Reg.PAI_STICKY :: one Reg.NFL_STICKY :: one Reg.REC_STICKY :: one Reg.KEY_STICKY :: raised), true, false⟩ F) :
    seen F (kuCommit b s) = seen F s := by
  refine seen_mono hF ?_
  unfold kuCommit
  split <;> simp

@[simp] theorem keyUpdate_seen (b : List Byte) (s : State) (hF : Scope.Le ⟨[.bank, .io, .recorder, .upd, .net, .cht, .nfl, .pai, .key], [one Reg.NFL_REFUSE, nflCnt, recCnt], (one Reg.PAI_STICKY :: one Reg.NFL_STICKY :: one Reg.REC_STICKY :: one Reg.KEY_STICKY :: raised), true, false⟩ F) :
    seen F (keyUpdate b s).1 = seen F s := seen_mono hF (by unfold keyUpdate; simp)

@[simp] theorem runKeyUpdate_seen (ok : Nat → Bool) (s u : State) (hF : Scope.Le ⟨[.bank, .io, .recorder, .upd, .net, .cht, .dsp, .nfl, .pai, .key], [dspCnt, one Reg.NFL_REFUSE, nflCnt, recCnt], (one Reg.PAI_STICKY :: one Reg.NFL_STICKY :: one Reg.REC_STICKY :: one Reg.KEY_STICKY :: raised), true, false⟩ F) :
    seen F (ran (runKeyUpdate ok s) u) = seen F s := seen_mono hF (by unfold runKeyUpdate; simp)

@[simp] theorem execKeyWrite_seen (s u : State) (hF : Scope.Le ⟨[.bank, .io, .recorder, .upd, .net, .cht, .dsp, .nfl, .pai, .key], [dspCnt, one Reg.NFL_REFUSE, nflCnt, recCnt], (one Reg.PAI_STICKY :: one Reg.NFL_STICKY :: one Reg.REC_STICKY :: one Reg.KEY_STICKY :: raised), true, false⟩ F) :
    seen F (ran (execKeyWrite s) u) = seen F s := seen_mono hF (by unfold execKeyWrite; simp)

@[simp] theorem execKeyDerive_seen (s u : State) (hF : Scope.Le ⟨[.bank, .io, .recorder, .upd, .net, .cht, .dsp, .nfl, .pai, .key], [dspCnt, one Reg.NFL_REFUSE, nflCnt, recCnt], (one Reg.PAI_STICKY :: one Reg.NFL_STICKY :: one Reg.REC_STICKY :: one Reg.KEY_STICKY :: raised), true, false⟩ F) :
    seen F (ran (execKeyDerive s) u) = seen F s := seen_mono hF (by unfold execKeyDerive; simp)

@[simp] theorem execKeyZeroise_seen (s u : State) (hF : Scope.Le ⟨[.bank, .io, .recorder, .upd, .net, .cht, .dsp, .nfl, .pai, .key], [dspCnt, one Reg.NFL_REFUSE, nflCnt, recCnt], (one Reg.PAI_STICKY :: one Reg.NFL_STICKY :: one Reg.REC_STICKY :: one Reg.KEY_STICKY :: raised), true, false⟩ F) :
    seen F (ran (execKeyZeroise s) u) = seen F s := seen_mono hF (by unfold execKeyZeroise; simp)

@[simp] theorem execSetLc_seen (s u : State) (hF : Scope.Le ⟨[.bank, .io, .recorder, .upd, .net, .cht, .dsp, .nfl, .pai, .key], [dspCnt, one Reg.NFL_REFUSE, nflCnt, recCnt], (one Reg.PAI_STICKY :: one Reg.NFL_STICKY :: one Reg.REC_STICKY :: one Reg.KEY_STICKY :: raised), true, false⟩ F) :
    seen F (ran (execSetLc s) u) = seen F s := seen_mono hF (by unfold execSetLc; simp)

@[simp] theorem execReplaceOwner_seen (s u : State) (hF : Scope.Le ⟨[.bank, .io, .recorder, .upd, .net, .cht, .dsp, .nfl, .pai, .key], [dspCnt, one Reg.NFL_REFUSE, nflCnt, recCnt], (one Reg.PAI_STICKY :: one Reg.NFL_STICKY :: one Reg.REC_STICKY :: one Reg.KEY_STICKY :: raised), true, false⟩ F) :
    seen F (ran (execReplaceOwner s) u) = seen F s := seen_mono hF (by unfold execReplaceOwner; simp)

@[simp] theorem attest_seen (b : List Byte) (s : State) (hF : Scope.Le ⟨[], [], [], false, false⟩ F) :
    seen F (attest b s).1 = seen F s := seen_mono hF (by unfold attest; simp)

@[simp] theorem execAttest_seen (s u : State) (hF : Scope.Le ⟨[.bank, .io, .dsp], [dspCnt], raised, false, false⟩ F) :
    seen F (ran (execAttest s) u) = seen F s := seen_mono hF (by unfold execAttest; simp)

@[simp] theorem execKeyRamUe_seen (k : Nat) (s u : State) (hF : Scope.Le ⟨[.bank, .io, .recorder, .upd, .net, .cht, .nfl, .pai, .key], [one Reg.NFL_REFUSE, nflCnt, recCnt], (one Reg.KEY_STICKY :: one Reg.PAI_STICKY :: one Reg.NFL_STICKY :: one Reg.REC_STICKY :: raised), false, false⟩ F) :
    seen F (ran (execKeyRamUe k s) u) = seen F s := seen_mono hF (by unfold execKeyRamUe; simp)

@[simp] theorem restoreKey_seen (k : Nat) (s : State) (hF : Scope.Le ⟨[.bank, .io, .recorder, .upd, .net, .cht, .nfl, .pai, .key], [one Reg.NFL_REFUSE, nflCnt, recCnt], (one Reg.PAI_STICKY :: one Reg.NFL_STICKY :: one Reg.REC_STICKY :: raised), false, false⟩ F) :
    seen F (restoreKey k s) = seen F s := seen_mono hF (by unfold restoreKey; simp)

@[simp] theorem execKeyRestore_seen (k : Nat) (s u : State) (hF : Scope.Le ⟨[.bank, .io, .recorder, .upd, .net, .cht, .nfl, .pai, .key], [one Reg.NFL_REFUSE, nflCnt, recCnt], (one Reg.PAI_STICKY :: one Reg.NFL_STICKY :: one Reg.REC_STICKY :: raised), false, false⟩ F) :
    seen F (ran (execKeyRestore k s) u) = seen F s := seen_mono hF (by unfold execKeyRestore; simp)

@[simp] theorem execVbatLow_seen (s u : State) (hF : Scope.Le ⟨[.bank, .io, .recorder, .upd, .net, .cht, .nfl, .pai, .key], [one Reg.NFL_REFUSE, nflCnt, recCnt], (one Reg.PAI_STICKY :: one Reg.NFL_STICKY :: one Reg.REC_STICKY :: one Reg.KEY_STICKY :: raised), false, false⟩ F) :
    seen F (ran (execVbatLow s) u) = seen F s := seen_mono hF (by unfold execVbatLow; simp)

@[simp] theorem execDebugAccess_seen (tap : Nat) (s u : State) (hF : Scope.Le ⟨[.bank, .io, .recorder], [recCnt], (one Reg.REC_STICKY :: one Reg.KEY_STICKY :: raised), false, false⟩ F) :
    seen F (ran (execDebugAccess tap s) u) = seen F s := seen_mono hF (by unfold execDebugAccess; simp)

@[simp] theorem execRtcCapture_seen (s u : State) (hF : Scope.Le ⟨[.key], [], [], false, false⟩ F) :
    seen F (ran (execRtcCapture s) u) = seen F s := seen_mono hF (by unfold execRtcCapture; simp)

@[simp] theorem setUpd_seen (x : Upd) (s : State) (ho : otpOf x = otpOf s.upd ∨ F.otp = true)
    (hF : Scope.Le ⟨[.upd], [], [], false, false⟩ F) : seen F (setUpd x s) = seen F s := seen_with_upd (hF.parts _ (by simp)) _ ho

@[simp] theorem updReject_seen (s : State) (hF : Scope.Le ⟨[.io], [], (one Reg.UPD_STICKY :: raised), false, false⟩ F) :
    seen F (updReject s) = seen F s := seen_mono hF (by unfold updReject; simp)

@[simp] theorem otpReject_seen (s : State) (hF : Scope.Le ⟨[.io], [], (one Reg.OTP_STICKY :: raised), false, false⟩ F) :
    seen F (otpReject s) = seen F s := seen_mono hF (by unfold otpReject; simp)

@[simp] theorem execOtpProgram_seen (w : Word) (verified : Bool) (s u : State) (hF : Scope.Le ⟨[.io, .upd], [], (one Reg.OTP_STICKY :: raised), true, false⟩ F) :
    seen F (ran (execOtpProgram w verified s) u) = seen F s := seen_mono hF (by unfold execOtpProgram; simp)

@[simp] theorem openSession_seen (source len : Nat) (s : State) (hF : Scope.Le ⟨[.upd], [], [], false, false⟩ F) :
    seen F (openSession source len s) = seen F s := seen_mono hF (by unfold openSession; simp)

@[simp] theorem failSession_seen (s : State) (hF : Scope.Le ⟨[.upd], [], [], false, false⟩ F) :
    seen F (failSession s) = seen F s := seen_mono hF (by unfold failSession; simp)

@[simp] theorem commitSession_seen (i : Image) (s : State) (hF : Scope.Le ⟨[.upd], [], [], false, false⟩ F) :
    seen F (commitSession i s) = seen F s := seen_mono hF (by unfold commitSession; simp)

@[simp] theorem takeBlock_seen (x : Session) (k crc : Nat) (data : List Byte) (s : State) (hF : Scope.Le ⟨[.upd], [], [], false, false⟩ F) :
    seen F (takeBlock x k crc data s) = seen F s := seen_mono hF (by unfold takeBlock; simp)

@[simp] theorem commitOf_seen (x : Session) (s : State) (hF : Scope.Le ⟨[.upd], [], [], false, false⟩ F) :
    seen F (commitOf x s).1 = seen F s := seen_mono hF (by unfold commitOf; simp)

@[simp] theorem stageOpen_seen (b : List Byte) (s : State) (hF : Scope.Le ⟨[.upd], [], [], false, false⟩ F) :
    seen F (stageOpen b s).1 = seen F s := seen_mono hF (by unfold stageOpen; simp)

@[simp] theorem execStageOpen_seen (s u : State) (hF : Scope.Le ⟨[.bank, .io, .upd, .dsp], [dspCnt], raised, false, false⟩ F) :
    seen F (ran (execStageOpen s) u) = seen F s := seen_mono hF (by unfold execStageOpen; simp)

@[simp] theorem stageBlock_seen (data b : List Byte) (s : State) (hF : Scope.Le ⟨[.upd], [], [], false, false⟩ F) :
    seen F (stageBlock data b s).1 = seen F s := by
  refine seen_mono hF ?_
  unfold stageBlock
  split <;> simp

@[simp] theorem execStageBlock_seen (data : List Byte) (s u : State) (hF : Scope.Le ⟨[.bank, .io, .upd, .dsp], [dspCnt], raised, false, false⟩ F) :
    seen F (ran (execStageBlock data s) u) = seen F s := seen_mono hF (by unfold execStageBlock; simp)

@[simp] theorem stageCommit_seen (b : List Byte) (s : State) (hF : Scope.Le ⟨[.upd], [], [], false, false⟩ F) :
    seen F (stageCommit b s).1 = seen F s := by
  refine seen_mono hF ?_
  unfold stageCommit
  split <;> simp

@[simp] theorem execStageCommit_seen (n : Nat) (s u : State) (hF : Scope.Le ⟨[.bank, .io, .upd, .dsp], [dspCnt], raised, false, false⟩ F) :
    seen F (ran (execStageCommit n s) u) = seen F s := seen_mono hF (by unfold execStageCommit; simp)

@[simp] theorem stageAbort_seen (b : List Byte) (s : State) (hF : Scope.Le ⟨[.upd], [], [], false, false⟩ F) :
    seen F (stageAbort b s).1 = seen F s := by
  refine seen_mono hF ?_
  unfold stageAbort
  split <;> simp

@[simp] theorem execStageAbort_seen (s u : State) (hF : Scope.Le ⟨[.bank, .io, .upd, .dsp], [dspCnt], raised, false, false⟩ F) :
    seen F (ran (execStageAbort s) u) = seen F s := seen_mono hF (by unfold execStageAbort; simp)

@[simp] theorem execSessionTimeout_seen (s u : State) (hF : Scope.Le ⟨[.io, .upd], [], (one Reg.UPD_STICKY :: raised), false, false⟩ F) :
    seen F (ran (execSessionTimeout s) u) = seen F s := by
  refine seen_mono hF ?_
  unfold execSessionTimeout
  (repeat' split) <;> simp

@[simp] theorem execPeerOpenRecord_seen (totalLen : Nat) (s u : State) (hF : Scope.Le ⟨[.io, .crp, .upd], [], [], false, false⟩ F) :
    seen F (ran (execPeerOpenRecord totalLen s) u) = seen F s := seen_mono hF (by unfold execPeerOpenRecord; simp)

@[simp] theorem execPeerStageRecord_seen (block : Option Nat) (crc : Nat) (data : List Byte) (s u : State) (hF : Scope.Le ⟨[.io, .crp, .upd], [], [], false, false⟩ F) :
    seen F (ran (execPeerStageRecord block crc data s) u) = seen F s := by
  refine seen_mono hF ?_
  conv_lhs => unfold execPeerStageRecord; zeta
  (repeat' split) <;> simp

@[simp] theorem sendPush_seen (i : Image) (s : State) (hF : Scope.Le ⟨[.io], [], [], false, false⟩ F) :
    seen F (sendPush i s) = seen F s := seen_mono hF (by unfold sendPush; simp)

@[simp] theorem execPushPeer_seen (w : Word) (s u : State) (hF : Scope.Le ⟨[.io, .upd], [], (one Reg.UPD_STICKY :: raised), false, false⟩ F) :
    seen F (ran (execPushPeer w s) u) = seen F s := by
  refine seen_mono hF ?_
  conv_lhs => unfold execPushPeer; zeta
  (repeat' split) <;> simp

@[simp] theorem execConfirm_seen (w : Word) (s u : State) (hF : Scope.Le ⟨[.upd], [], [], false, false⟩ F) :
    seen F (ran (execConfirm w s) u) = seen F s := seen_mono hF (by unfold execConfirm; simp)

@[simp] theorem execRaiseFloor_seen (w : Word) (s u : State) (hF : Scope.Le ⟨[.io, .upd], [], (one Reg.UPD_STICKY :: raised), true, false⟩ F) :
    seen F (ran (execRaiseFloor w s) u) = seen F s := by
  refine seen_mono hF ?_
  conv_lhs => unfold execRaiseFloor; zeta
  (repeat' split) <;> simp

@[simp] theorem execCfgSave_seen (w : Word) (s u : State) (hF : Scope.Le ⟨[.upd], [], [], false, false⟩ F) :
    seen F (ran (execCfgSave w s) u) = seen F s := seen_mono hF (by unfold execCfgSave; simp)

theorem setOf_isNone_of_not_inSets {a : Nat} (h : inSets 0xFF a = false) : (setOf a).isNone = true := by
  have hset : ∀ d ∈ RegMap.block a, ∀ k ∈ d.set, k < 8 := by
    unfold RegMap.block
    split <;> decide
  unfold inSets at h
  split at h
  next k hk =>
    unfold setOf at hk
    split at hk
    next d hd =>
      have hk8 := hset d (List.mem_of_find?_eq_some hd) k hk
      interval_cases k <;> exact absurd h (by decide)
    next => exact nomatch hk
  next hk => rw [hk]; rfl

@[simp] theorem loadSets_seen (regs : Tab Word) (s : State) (hF : Scope.Le ⟨[.bank], [ofSets 0xFF], [], false, false⟩ F) :
    seen F (loadSets regs s) = seen F s := by
  refine seen_mono hF (seen_with_bank (by simp) _ (regSeen_eq_iff.2 fun a ha => ?_))
  have hout : (setOf a).isNone = true := setOf_isNone_of_not_inSets (by simpa [ofSets] using ha)
  have hnot : ∀ e ∈ regs.filter (fun e => (setOf e.1).isSome), e.1 ≠ a := by
    rintro e he rfl
    simp [← Option.not_isNone, hout] at he
  constructor <;> simp [Tab.get_foldl_put_of_not_mem hnot, Tab.get_filter _ fun a => (setOf a).isNone, hout]

@[simp] theorem clockFault_seen (k : Nat) (s : State) (hF : Scope.Le ⟨[.bank, .io, .recorder], [recCnt], (one Reg.REC_STICKY :: raised), false, false⟩ F) :
    seen F (clockFault k s) = seen F s := seen_mono hF (by unfold clockFault; simp)

@[simp] theorem clockRestored_seen (s : State) (hF : Scope.Le ⟨[.nfl], [], [], false, false⟩ F) :
    seen F (clockRestored s) = seen F s := seen_mono hF (by unfold clockRestored; simp)

@[simp] theorem execZenithLock_seen (die : Nat) (s u : State) (hF : Scope.Le ⟨[.crp, .ing, .nfl], [], [], false, false⟩ F) :
    seen F (ran (execZenithLock die s) u) = seen F s := seen_mono hF (by unfold execZenithLock; simp)

@[simp] theorem execRefLost_seen (s u : State) (hF : Scope.Le ⟨[.bank, .io, .recorder, .crp, .upd, .net, .cht, .nfl, .pai], [one Reg.NFL_REFUSE, nflCnt, recCnt], (one Reg.NFL_STICKY :: one Reg.REC_STICKY :: one Reg.CRP_STICKY :: raised), false, false⟩ F) :
    seen F (ran (execRefLost s) u) = seen F s := seen_mono hF (by unfold execRefLost; simp)

@[simp] theorem execFlUnlock_seen (s u : State) (hF : Scope.Le ⟨[.bank, .io, .recorder, .crp, .upd, .net, .cht, .nfl, .pai], [one Reg.NFL_REFUSE, nflCnt, recCnt], (one Reg.NFL_STICKY :: one Reg.REC_STICKY :: one Reg.CRP_STICKY :: raised), false, false⟩ F) :
    seen F (ran (execFlUnlock s) u) = seen F s := seen_mono hF (by unfold execFlUnlock; simp)

@[simp] theorem execRefInRestored_seen (s u : State) (hF : Scope.Le ⟨[.crp, .nfl], [], [], false, false⟩ F) :
    seen F (ran (execRefInRestored s) u) = seen F s := seen_mono hF (by unfold execRefInRestored; simp)

@[simp] theorem resetCrossings_seen (l : List Nat) (s : State) (hF : Scope.Le ⟨[.crp], [], [], false, false⟩ F) :
    seen F (resetCrossings l s) = seen F s := seen_mono hF (by unfold resetCrossings; simp)

@[simp] theorem resetIngress_seen (s : State) (hF : Scope.Le ⟨[.bank, .io, .ing, .acq, .tim], [between 3145728 4194304], [between 3145728 4194304], false, false⟩ F) :
    seen F (resetIngress s) = seen F s := seen_mono hF (by unfold resetIngress; simp [↓clearRegs_seen, ↓clearStk_seen, ↓seen_with_acq, ↓setIng_seen, ↓setTim_seen])

theorem between_corCfg {r : Nat} (h : r < 4) (a : Nat) (ha : between (Reg.COR_CFG (512 * r)) (Reg.COR_CFG (512 * (r + 1))) a = true) :
    between (Reg.COR_CFG 0) (Reg.COR_CFG 2048) a = true := by
  simp [Reg.COR_CFG] at ha ⊢
  omega

theorem resetCorrs_seen (s : State) (hF : Scope.Le ⟨[.bank, .cor, .acq], [words Reg.COR_QUAR 4, between (Reg.COR_CFG 0) (Reg.COR_CFG 2048)], [], false, true⟩ F) :
    ∀ r < 4, seen F (resetCorr r s) = seen F s := fun r hr =>
  seen_mono hF (resetCorr_seen r s ⟨by simp, (covers_cons _ _ _).2 ⟨by simp [hr],
    (covers_cons _ _ _).2 ⟨fun a ha => inside_of_mem (f := between (Reg.COR_CFG 0) (Reg.COR_CFG 2048)) (by simp) a (between_corCfg hr a ha), by simp⟩⟩,
    by simp, by simp, by simp⟩)

@[simp] theorem execBbUnlock_seen (s u : State) (hF : Scope.Le ⟨[.bank, .io, .recorder, .crp, .ing, .cor, .acq, .tim], [words Reg.COR_QUAR 4, between (Reg.COR_CFG 0) (Reg.COR_CFG 2048), between 0x300000 0x400000, recCnt], (one Reg.REC_STICKY :: one Reg.CRP_STICKY :: between 3145728 4194304 :: raised), false, true⟩ F) :
    seen F (ran (execBbUnlock s) u) = seen F s := by
  refine seen_mono hF ?_
  conv_lhs => unfold execBbUnlock; zeta
  dsimp only [ran]
  split
  · rfl
  · rw [resetIngress_seen _ (by simp), seen_foldl_range fun r hr t => resetCorrs_seen t (by simp) r hr]
    simp

@[simp] theorem execBbRelock_seen (s u : State) (hF : Scope.Le ⟨[.crp, .ing], [], [], false, false⟩ F) :
    seen F (ran (execBbRelock s) u) = seen F s := seen_mono hF (by unfold execBbRelock; simp)

@[simp] theorem pllLost_seen (k : Nat) (s : State) (hF : Scope.Le ⟨[.io, .crp, .net], [], (one (Reg.NET_STICKY k) :: one (Reg.NET_STICKY 1) :: one (Reg.NET_STICKY 0) :: one (Reg.NET_STICKY 3) :: one (Reg.NET_STICKY 2) :: raised), false, false⟩ F) :
    seen F (pllLost k s) = seen F s := by
  refine seen_mono hF ?_
  unfold pllLost
  split <;> simp

@[simp] theorem execAuxUnlock_seen (k : Nat) (s u : State) (hF : Scope.Le ⟨[.io, .recorder, .crp, .net], [], (one (Reg.NET_STICKY k) :: one (Reg.NET_STICKY 1) :: one (Reg.NET_STICKY 0) :: one (Reg.NET_STICKY 3) :: one (Reg.NET_STICKY 2) :: one Reg.CRP_STICKY :: one Reg.REC_STICKY :: raised), false, false⟩ F) :
    seen F (ran (execAuxUnlock k s) u) = seen F s := seen_mono hF (by unfold execAuxUnlock; simp)

@[simp] theorem clearPlain_seen (lo hi : Nat) (s : State) (hF : Scope.Le ⟨[.bank, .io], [between lo hi], [between lo hi], false, false⟩ F) :
    seen F (clearPlain lo hi s) = seen F s := by
  refine seen_mono hF ((clearStk_seen _ _ _ (by simp)).trans (seen_with_bank (by simp) _ (regSeen_eq_iff.2 fun a ha => ⟨?_, rfl⟩)))
  rw [Tab.get_filter _ fun a => a < lo || decide (hi ≤ a) || (setOf a).isSome, if_pos]
  simp at ha ⊢
  omega

@[simp] theorem emptyPort_seen (n : Nat) (s : State) (hF : Scope.Le ⟨[.bank, .io, .crp, .net, .cht], [nflCnt], raised, false, false⟩ F) :
    seen F (emptyPort n s) = seen F s := seen_mono hF (by unfold emptyPort; simp)

@[simp] theorem resetPort_seen (n : Nat) (s : State) (hF : Scope.Le ⟨[.bank, .io, .crp, .net, .cht], [between (16777216 + 262144 * n) (16777216 + 262144 * (n + 1)), nflCnt], (between (16777216 + 262144 * n) (16777216 + 262144 * (n + 1)) :: raised), false, false⟩ F) :
    seen F (resetPort n s) = seen F s := seen_mono hF (by unfold resetPort; simp)

@[simp] theorem resetPairLink_seen (s : State) (hF : Scope.Le ⟨[.bank, .io, .recorder, .crp, .upd, .ing, .tim, .ref, .net, .mach, .cht, .dsp, .nfl, .pai], [paiCnt, dspCnt, one Reg.DSP_HELD_MAX, one Reg.NFL_REFUSE, nflCnt, recCnt], (one Reg.PAI_STICKY :: one Reg.DSP_STICKY :: one Reg.NFL_STICKY :: one Reg.REC_STICKY :: one Reg.TIM_STICKY :: raised), false, false⟩ F) :
    seen F (resetPairLink s) = seen F s := seen_mono hF (by unfold resetPairLink; simp)

@[simp] theorem netSides_seen (old s : State) (n : Nat) (hF : Scope.Le ⟨[.bank, .io, .crp, .net, .cht], [nflCnt], (one (Reg.NET_STICKY n) :: raised), false, false⟩ F) :
    seen F (netSides old s n) = seen F s := seen_mono hF (by unfold netSides; simp)

@[simp] theorem execCrpNetRst_seen (w : Word) (s u : State) (hF : Scope.Le ⟨[.bank, .io, .crp, .net, .cht], [nflCnt], (netSticky :: one Reg.CRP_STICKY :: raised), false, false⟩ F) :
    seen F (ran (execCrpNetRst w s) u) = seen F s := by
  refine seen_mono hF ?_
  conv_lhs => unfold execCrpNetRst; zeta
  dsimp only [ran]
  rw [seen_foldl_range fun n hn t => by simp [hn]]
  simp

@[simp] theorem fifoDrop_seen (k : Nat) (s : State) (hF : Scope.Le ⟨[.bank, .io, .crp, .net, .cht], [netCnt k, nflCnt], raised, false, false⟩ F) :
    seen F (fifoDrop k s) = seen F s := by
  refine seen_mono hF ?_
  conv_lhs => unfold fifoDrop; zeta
  (repeat' split) <;> simp

@[simp] theorem execFifoDrop_seen (k : Nat) (w : Word) (s u : State) (hF : Scope.Le ⟨[.bank, .io, .crp, .net, .cht], [netCnt k, nflCnt], raised, false, false⟩ F) :
    seen F (ran (execFifoDrop k w s) u) = seen F s := seen_mono hF (by unfold execFifoDrop; simp)

@[simp] theorem execFifoUe_seen (k : Nat) (s u : State) (hF : Scope.Le ⟨[.bank, .io, .recorder, .crp, .net, .cht], [recCnt, netCnt k, nflCnt], (one Reg.REC_STICKY :: one Reg.CRP_STICKY :: raised), false, false⟩ F) :
    seen F (ran (execFifoUe k s) u) = seen F s := seen_mono hF (by unfold execFifoUe; simp)

@[simp] theorem inResetSet_seen (b : Nat) (s : State) (hF : Scope.Le ⟨[.crp], [], [], false, false⟩ F) :
    seen F (inResetSet b s) = seen F s := seen_mono hF (by unfold inResetSet; simp)

@[simp] theorem inResetEnd_seen (b : Nat) (s : State) (hF : Scope.Le ⟨[.crp], [], [], false, false⟩ F) :
    seen F (inResetEnd b s) = seen F s := seen_mono hF (by unfold inResetEnd; simp)

@[simp] theorem requeueJobs_seen (e : Nat) (s : State) (hF : Scope.Le ⟨[.dsp], [], [], false, false⟩ F) :
    seen F (requeueJobs e s) = seen F s := seen_mono hF (by unfold requeueJobs; simp)

@[simp] theorem resetFix_seen (s : State) (hF : Scope.Le ⟨[.bank, .io, .pst, .dsp], [one Reg.PST_MISMATCH_CNT, between 10485760 12582912], [between 10485760 12582912], false, false⟩ F) :
    seen F (resetFix s) = seen F s := seen_mono hF (by unfold resetFix; simp)

@[simp] theorem resetChart_seen (s : State) (hF : Scope.Le ⟨[.bank, .io, .cht, .dsp], [between 12582912 14680064], [between 12582912 14680064], false, false⟩ F) :
    seen F (resetChart s) = seen F s := seen_mono hF (by unfold resetChart; simp)

@[simp] theorem execCorrReset_seen (w : Word) (s u : State) (hF : Scope.Le ⟨[.bank, .crp, .cor, .acq], [words Reg.COR_QUAR 4, between (Reg.COR_CFG 0) (Reg.COR_CFG 2048)], [], false, true⟩ F) :
    seen F (ran (execCorrReset w s) u) = seen F s := by
  refine seen_mono hF (seen_foldl_range (fun r hr t => ?_) s)
  rw [seen_ite, inResetSet_seen _ _ (by simp), resetCorrs_seen t (by simp) r hr, ite_self]

@[simp] theorem execAcqReset_seen (w : Word) (s u : State) (hF : Scope.Le ⟨[.bank, .io, .crp, .acq], [between 8388608 9437184], [between 8388608 9437184], false, true⟩ F) :
    seen F (ran (execAcqReset w s) u) = seen F s := seen_mono hF (by unfold execAcqReset; simp)

@[simp] theorem execFixReset_seen (w : Word) (s u : State) (hF : Scope.Le ⟨[.bank, .io, .crp, .pst, .dsp], [one Reg.PST_MISMATCH_CNT, between 10485760 12582912], (one Reg.CRP_STICKY :: between 10485760 12582912 :: raised), false, false⟩ F) :
    seen F (ran (execFixReset w s) u) = seen F s := seen_mono hF (by unfold execFixReset; simp)

@[simp] theorem execChartReset_seen (w : Word) (s u : State) (hF : Scope.Le ⟨[.bank, .io, .crp, .cht, .dsp], [between 12582912 14680064], (one Reg.CRP_STICKY :: between 12582912 14680064 :: raised), false, false⟩ F) :
    seen F (ran (execChartReset w s) u) = seen F s := seen_mono hF (by unfold execChartReset; simp)

@[simp] theorem execNetReset_seen (w : Word) (s u : State) (hF : Scope.Le ⟨[.bank, .io, .recorder, .crp, .upd, .ing, .cor, .acq, .tim, .ref, .net, .mach, .pst, .cht, .dsp, .tsk, .nfl, .pai, .key, .free], [allBut []], [allBut []], false, false⟩ F) :
    seen F (ran (execNetReset w s) u) = seen F s := by
  refine seen_mono hF ?_
  have hports (t : State) : seen ⟨[.bank, .io, .recorder, .crp, .upd, .ing, .cor, .acq, .tim, .ref, .net, .mach, .pst, .cht, .dsp, .tsk, .nfl, .pai, .key, .free], [allBut []], [allBut []], false, false⟩ ((List.range 4).foldl (fun s n => resetPort n s) t) = seen _ t :=
    seen_foldl (fun t n => by simp) _ t
  conv_lhs => unfold execNetReset; zeta
  dsimp only [ran]
  simp [hports]

@[simp] theorem execRegionResetDone_seen (b : Nat) (s u : State) (hF : Scope.Le ⟨[.crp], [], [], false, false⟩ F) :
    seen F (ran (execRegionResetDone b s) u) = seen F s := seen_mono hF (by unfold execRegionResetDone; simp)

@[simp] theorem domainLost_seen (b : Nat) (s : State) (hF : Scope.Le ⟨[.bank, .io, .recorder, .crp, .upd, .ing, .cor, .acq, .tim, .ref, .net, .mach, .cht, .dsp, .nfl, .pai], [one (Reg.COR_QUAR b), between (Reg.COR_CFG (512 * b)) (Reg.COR_CFG (512 * (b + 1))), between 8388608 9437184, between (16777216 + 262144 * (b - 5)) (16777216 + 262144 * (b - 5 + 1)), nflCnt, paiCnt, dspCnt, one Reg.DSP_HELD_MAX, one Reg.NFL_REFUSE, recCnt], (between 8388608 9437184 :: between (16777216 + 262144 * (b - 5)) (16777216 + 262144 * (b - 5 + 1)) :: one Reg.PAI_STICKY :: one Reg.DSP_STICKY :: one Reg.NFL_STICKY :: one Reg.REC_STICKY :: one Reg.TIM_STICKY :: raised), false, true⟩ F) :
    seen F (domainLost b s) = seen F s := seen_mono hF (by unfold domainLost; simp [↓acqLost_seen, ↓resetCorr_seen, ↓resetPairLink_seen, ↓resetPort_seen, ↓seen_ite, ↓seen_with_cor])

@[simp] theorem powerDown_seen (b : Nat) (s : State) (hF : Scope.Le ⟨[.bank, .io, .recorder, .crp, .upd, .ing, .cor, .acq, .tim, .ref, .net, .mach, .cht, .dsp, .nfl, .pai], [one (Reg.COR_QUAR b), between (Reg.COR_CFG (512 * b)) (Reg.COR_CFG (512 * (b + 1))), between 8388608 9437184, between (16777216 + 262144 * (b - 5)) (16777216 + 262144 * (b - 5 + 1)), nflCnt, paiCnt, dspCnt, one Reg.DSP_HELD_MAX, one Reg.NFL_REFUSE, recCnt], (between 8388608 9437184 :: between (16777216 + 262144 * (b - 5)) (16777216 + 262144 * (b - 5 + 1)) :: one Reg.PAI_STICKY :: one Reg.DSP_STICKY :: one Reg.NFL_STICKY :: one Reg.REC_STICKY :: one Reg.TIM_STICKY :: raised), false, true⟩ F) :
    seen F (powerDown b s) = seen F s := seen_mono hF (by unfold powerDown; simp)

@[simp] theorem pwrBit_seen (old new : Word) (s : State) (b : Nat) (hF : Scope.Le ⟨[.bank, .io, .recorder, .crp, .upd, .ing, .cor, .acq, .tim, .ref, .net, .mach, .cht, .dsp, .nfl, .pai], [one Reg.CRP_PWR_REQ, one (Reg.COR_QUAR b), between (Reg.COR_CFG (512 * b)) (Reg.COR_CFG (512 * (b + 1))), between 8388608 9437184, between (16777216 + 262144 * (b - 5)) (16777216 + 262144 * (b - 5 + 1)), nflCnt, paiCnt, dspCnt, one Reg.DSP_HELD_MAX, one Reg.NFL_REFUSE, recCnt], (one Reg.CRP_PWR_STICKY :: between 8388608 9437184 :: between (16777216 + 262144 * (b - 5)) (16777216 + 262144 * (b - 5 + 1)) :: one Reg.PAI_STICKY :: one Reg.DSP_STICKY :: one Reg.NFL_STICKY :: one Reg.REC_STICKY :: one Reg.TIM_STICKY :: raised), false, true⟩ F) :
    seen F (pwrBit old new s b) = seen F s := seen_mono hF (by unfold pwrBit; simp)

@[simp] theorem execPowerRequest_seen (w : Word) (s u : State) (hF : Scope.Le ⟨[.bank, .io, .recorder, .crp, .upd, .ing, .cor, .acq, .tim, .ref, .net, .mach, .pst, .cht, .dsp, .tsk, .nfl, .pai, .key, .free], [allBut []], [allBut []], false, true⟩ F) :
    seen F (ran (execPowerRequest w s) u) = seen F s :=
  seen_mono hF ((seen_foldl (fun t n => by simp) _ _).trans (seen_wr (by simp) (by simp) _ _))

@[simp] theorem domainReset_seen (k : Nat) (s : State) (hF : Scope.Le ⟨[.bank, .io, .crp, .cor, .acq, .net, .cht], [one (Reg.COR_QUAR (k - 4)), between (Reg.COR_CFG (512 * (k - 4))) (Reg.COR_CFG (512 * (k - 4 + 1))), between 8388608 9437184, between (16777216 + 262144 * (k - 16)) (16777216 + 262144 * (k - 16 + 1)), nflCnt], (between 8388608 9437184 :: between (16777216 + 262144 * (k - 16)) (16777216 + 262144 * (k - 16 + 1)) :: raised), false, true⟩ F) :
    seen F (domainReset k s) = seen F s := seen_mono hF (by unfold domainReset; simp)

@[simp] theorem execPowerRampDone_seen (k : Nat) (s u : State) (hF : Scope.Le ⟨[.bank, .io, .crp, .cor, .acq, .net, .cht], [one (Reg.COR_QUAR (k - 4)), between (Reg.COR_CFG (512 * (k - 4))) (Reg.COR_CFG (512 * (k - 4 + 1))), between 8388608 9437184, between (16777216 + 262144 * (k - 16)) (16777216 + 262144 * (k - 16 + 1)), nflCnt], (between 8388608 9437184 :: between (16777216 + 262144 * (k - 16)) (16777216 + 262144 * (k - 16 + 1)) :: raised), false, true⟩ F) :
    seen F (ran (execPowerRampDone k s) u) = seen F s := by
  refine seen_mono hF ?_
  unfold execPowerRampDone
  split <;> simp

@[simp] theorem setPdsOn_seen (l : List Nat) (s : State) (hF : Scope.Le ⟨[.crp], [], [], false, false⟩ F) :
    seen F (setPdsOn l s) = seen F s := seen_mono hF (by unfold setPdsOn; simp)

@[simp] theorem bootOtp_seen (s : State) (hF : Scope.Le ⟨[.bank, .crp, .upd, .pai], [one Reg.TIM_BB_LAT, one Reg.CRP_NETREF, words Reg.TIM_PORT_LAT_10G 4, words Reg.TIM_PORT_LAT_1G 4], [], false, false⟩ F) : seen F (bootOtp s) = seen F s := by
  refine seen_mono hF ?_
  conv_lhs => unfold bootOtp; zeta
  split
  · simp
  · rw [seen_foldl_range fun n hn t => by simp [hn]]
    simp

@[simp] theorem tamperRecord_seen (s : State) (hF : Scope.Le ⟨[.bank, .io, .recorder], [recCnt], (one Reg.REC_STICKY :: raised), false, false⟩ F) :
    seen F (tamperRecord s) = seen F s := seen_mono hF (by unfold tamperRecord; simp)

@[simp] theorem bootMem_seen (s : State) (hF : Scope.Le ⟨[.crp], [], [], false, false⟩ F) :
    seen F (bootMem s) = seen F s := seen_mono hF (by unfold bootMem; simp)

@[simp] theorem bootRecorder_seen (s : State) (hF : Scope.Le ⟨[.bank, .io, .recorder, .crp, .key], [recCnt], (one Reg.REC_STICKY :: raised), false, false⟩ F) :
    seen F (bootRecorder s) = seen F s := seen_mono hF (by unfold bootRecorder; simp)

@[simp] theorem activate_seen (i : Image) (s : State) (hF : Scope.Le ⟨[.upd], [], [], false, false⟩ F) :
    seen F (activate i s) = seen F s := seen_mono hF (by unfold activate; simp)

@[simp] theorem fallBack_seen (s : State) (hF : Scope.Le ⟨[.io, .upd], [], (one Reg.UPD_STICKY :: raised), false, false⟩ F) :
    seen F (fallBack s) = seen F s := seen_mono hF (by unfold fallBack; simp)

@[simp] theorem bootActivate_seen (s : State) (hF : Scope.Le ⟨[.io, .upd], [], (one Reg.UPD_STICKY :: raised), false, false⟩ F) :
    seen F (bootActivate s) = seen F s := by
  refine seen_mono hF ?_
  conv_lhs => unfold bootActivate; zeta
  (repeat' split) <;> simp

@[simp] theorem bootVerify_seen (s : State) (hF : Scope.Le ⟨[.io, .upd], [], (one Reg.UPD_STICKY :: raised), false, false⟩ F) :
    seen F (bootVerify s).1 = seen F s := by
  refine seen_mono hF ?_
  unfold bootVerify
  extract_lets usable _ t
  have ht : seen ⟨[.io, .upd], [], (one Reg.UPD_STICKY :: raised), false, false⟩ t = seen _ s := setUpd_seen _ _ (.inl rfl) (by simp)
  clear_value t
  split
  · exact ht
  split
  · exact ht
  split
  · split
    · exact (fallBack_seen t (by simp)).trans ht
    · exact ht
  split
  · exact ht
  · exact (setUpd_seen { t.upd with failed := t.upd.failed + 1 } t (.inl rfl) (by simp)).trans ht

@[simp] theorem bootConfig_seen (s : State) (hF : Scope.Le ⟨[.bank, .io, .ref], [ofSets 0xFF], (one Reg.CRP_PWR_STICKY :: raised), false, false⟩ F) :
    seen F (bootConfig s) = seen F s := seen_mono hF (by unfold bootConfig; simp)

@[simp] theorem bootLatch_seen (s : State) (hF : Scope.Le ⟨[.bank, .io, .recorder, .upd, .nfl], [nflCnt, recCnt], (one Reg.NFL_STICKY :: one Reg.REC_STICKY :: raised), false, false⟩ F) :
    seen F (bootLatch s) = seen F s := seen_mono hF (by unfold bootLatch; simp)

@[simp] theorem bootKeys_seen (s : State) (hF : Scope.Le ⟨[.bank, .io, .recorder, .upd, .net, .cht, .nfl, .pai, .key], [one Reg.NFL_REFUSE, nflCnt, recCnt], (one Reg.PAI_STICKY :: one Reg.NFL_STICKY :: one Reg.REC_STICKY :: one Reg.KEY_STICKY :: raised), false, false⟩ F) :
    seen F (bootKeys s) = seen F s := by
  refine seen_mono hF ?_
  conv_lhs => unfold bootKeys; zeta
  (repeat' split) <;> simp

@[simp] theorem bootLink_seen (s : State) (hF : Scope.Le ⟨[.io, .crp], [], raised, false, false⟩ F) :
    seen F (bootLink s) = seen F s := seen_mono hF (by unfold bootLink; simp)

@[simp] theorem bootPower_seen (s : State) (hF : Scope.Le ⟨[.bank, .crp, .ing], [one Reg.ING_SYSREF_CTL], [], false, false⟩ F) :
    seen F (bootPower s) = seen F s := seen_mono hF (by unfold bootPower; simp)

@[simp] theorem bootThrough_seen (n : Nat) (s : State) (hF : Scope.Le ⟨[.bank, .io, .recorder, .crp, .upd, .ing, .ref, .net, .cht, .nfl, .pai, .key], [one Reg.TIM_BB_LAT, one Reg.CRP_NETREF, words Reg.TIM_PORT_LAT_10G 4, words Reg.TIM_PORT_LAT_1G 4, recCnt, one Reg.NFL_REFUSE, nflCnt, ofSets 0xFF, one Reg.ING_SYSREF_CTL], (one Reg.UPD_STICKY :: one Reg.REC_STICKY :: one Reg.PAI_STICKY :: one Reg.NFL_STICKY :: one Reg.KEY_STICKY :: one Reg.CRP_PWR_STICKY :: raised), false, false⟩ F) :
    seen F (bootThrough n s).1 = seen F s := seen_mono hF (by unfold bootThrough; simp)

@[simp] theorem copyBegun_seen (k : Nat) (s : State) (hF : Scope.Le ⟨[.upd], [], [], false, false⟩ F) :
    seen F (copyBegun k s) = seen F s := by
  refine seen_mono hF ?_
  conv_lhs => unfold copyBegun; zeta
  (repeat' split) <;> simp

@[simp] theorem fallBegun_seen (k : Nat) (s : State) (hF : Scope.Le ⟨[.upd], [], [], false, false⟩ F) :
    seen F (fallBegun k s) = seen F s := by
  refine seen_mono hF ?_
  unfold fallBegun
  split <;> simp

@[simp] theorem bootPart_seen (s : State) (hF : Scope.Le ⟨[.bank, .io, .recorder, .crp, .upd, .ing, .ref, .net, .cht, .nfl, .pai, .key, .free], [recCnt, one Reg.TIM_BB_LAT, one Reg.CRP_NETREF, words Reg.TIM_PORT_LAT_10G 4, words Reg.TIM_PORT_LAT_1G 4, one Reg.NFL_REFUSE, nflCnt, ofSets 0xFF, one Reg.ING_SYSREF_CTL], (one Reg.REC_STICKY :: one Reg.UPD_STICKY :: one Reg.PAI_STICKY :: one Reg.NFL_STICKY :: one Reg.KEY_STICKY :: one Reg.CRP_PWR_STICKY :: raised), false, false⟩ F) :
    seen F (bootPart s) = seen F s := seen_mono hF (by unfold bootPart; simp)

@[simp] theorem loseVbat_seen (s : State) (hF : Scope.Le ⟨[.bank, .upd, .key], [one Reg.KEY_TAMP_CFG, one Reg.KEY_TAMP_TIMING], [], false, false⟩ F) :
    seen F (loseVbat s) = seen F s := seen_mono hF (by unfold loseVbat; simp)

@[simp] theorem resetAll_seen (s : State) (hF : Scope.Le ⟨[.bank, .io, .recorder, .crp, .upd, .ing, .cor, .acq, .tim, .ref, .net, .mach, .pst, .cht, .dsp, .tsk, .nfl, .pai, .key, .free], [allBut []], [allBut []], false, true⟩ F) : seen F (resetAll s) = seen F s := by
  refine seen_mono hF (.trans ?_ (bootPart_seen s (by simp)))
  refine seen_mk (s := bootPart s) (.inr ⟨by simp, regSeen_eq_iff.2 fun a ha => ?_⟩) (.inr ⟨by simp, stkSeen_eq_iff.2 fun a ha => ?_⟩)
    (.inr ⟨by simp, .inl rfl⟩) (.inr (by simp)) (.inr (by simp)) (.inr (by simp)) (.inr (by simp)) (.inr (by simp)) (.inr (by simp))
    (.inr (by simp)) (.inr (by simp)) (.inr (by simp)) (.inr (by simp)) (.inr (by simp)) (.inr (by simp)) (.inr (by simp)) (.inr (by simp))
    (.inr (by simp)) (.inr (by simp)) (.inr (by simp))
  all_goals simp at ha

@[simp] theorem resetPins_seen (claim : Bool) (high : List Nat) (s : State) (hF : Scope.Le ⟨[.io], [], [], false, false⟩ F) :
    seen F (resetPins claim high s) = seen F s := seen_mono hF (by unfold resetPins; simp)

@[simp] theorem startKeys_seen (s : State) (hF : Scope.Le ⟨[.bank, .io, .recorder, .upd, .net, .cht, .nfl, .pai, .key], [one Reg.NFL_REFUSE, nflCnt, recCnt], (one Reg.KEY_STICKY :: one Reg.PAI_STICKY :: one Reg.NFL_STICKY :: one Reg.REC_STICKY :: raised), true, false⟩ F) :
    seen F (startKeys s) = seen F s := seen_mono hF (by unfold startKeys; simp)

@[simp] theorem deviceReset_seen (cause wake : Nat) (s : State) (hF : Scope.Le ⟨[.bank, .io, .recorder, .crp, .upd, .ing, .cor, .acq, .tim, .ref, .net, .mach, .pst, .cht, .dsp, .tsk, .nfl, .pai, .key, .free], [allBut []], [allBut []], true, true⟩ F) :
    seen F (deviceReset cause wake s) = seen F s := seen_mono hF (by unfold deviceReset; simp)

@[simp] theorem execPowerOn_seen (primary : Bool) (bootSel : Nat) (x : Supply) (s u : State) (hF : Scope.Le ⟨[.bank, .io, .recorder, .crp, .upd, .ing, .cor, .acq, .tim, .ref, .net, .mach, .pst, .cht, .dsp, .tsk, .nfl, .pai, .key, .free], [allBut []], [allBut []], true, true⟩ F) :
    seen F (ran (execPowerOn primary bootSel x s) u) = seen F s := seen_mono hF (by unfold execPowerOn; simp)

@[simp] theorem execResetN_seen (lowNs : Nat) (s u : State) (hF : Scope.Le ⟨[.bank, .io, .recorder, .crp, .upd, .ing, .cor, .acq, .tim, .ref, .net, .mach, .pst, .cht, .dsp, .tsk, .nfl, .pai, .key, .free], [allBut []], [allBut []], true, true⟩ F) :
    seen F (ran (execResetN lowNs s) u) = seen F s := seen_mono hF (by unfold execResetN; simp)

@[simp] theorem execBrownOut_seen (lowNs : Nat) (s u : State) (hF : Scope.Le ⟨[.bank, .io, .recorder, .crp, .upd, .ing, .cor, .acq, .tim, .ref, .net, .mach, .pst, .cht, .dsp, .tsk, .nfl, .pai, .key, .free], [allBut []], [allBut []], true, true⟩ F) :
    seen F (ran (execBrownOut lowNs s) u) = seen F s := seen_mono hF (by unfold execBrownOut; simp)

@[simp] theorem execBrownOutEnd_seen (s u : State) (hF : Scope.Le ⟨[.crp], [], [], false, false⟩ F) :
    seen F (ran (execBrownOutEnd s) u) = seen F s := seen_mono hF (by unfold execBrownOutEnd; simp)

@[simp] theorem execDeviceReset_seen (w : Word) (s u : State) (hF : Scope.Le ⟨[.bank, .io, .recorder, .crp, .upd, .ing, .cor, .acq, .tim, .ref, .net, .mach, .pst, .cht, .dsp, .tsk, .nfl, .pai, .key, .free], [allBut []], [allBut []], true, true⟩ F) :
    seen F (ran (execDeviceReset w s) u) = seen F s := seen_mono hF (by unfold execDeviceReset; simp)

@[simp] theorem singleOut_seen (s : State) (hF : Scope.Le ⟨[.io], [], [], false, false⟩ F) :
    seen F (singleOut s) = seen F s := seen_mono hF (by unfold singleOut; simp)

@[simp] theorem bootEnd_seen (s : State) (hF : Scope.Le ⟨[.bank, .io, .recorder, .crp, .upd, .ing, .acq, .ref, .net, .pst, .cht, .dsp, .nfl, .pai], [one Reg.NFL_REFUSE, nflCnt, recCnt], (one Reg.NFL_STICKY :: one Reg.REC_STICKY :: one Reg.PAI_STICKY :: raised), false, false⟩ F) :
    seen F (bootEnd s) = seen F s := seen_mono hF (by unfold bootEnd; simp)

@[simp] theorem bootRecovery_seen (s : State) (hF : Scope.Le ⟨[.bank, .io, .recorder, .crp, .upd, .ing, .ref, .net, .cht, .nfl, .pai], [one Reg.NFL_REFUSE, nflCnt, recCnt], (one Reg.NFL_STICKY :: one Reg.REC_STICKY :: raised), false, false⟩ F) :
    seen F (bootRecovery s) = seen F s := seen_mono hF (by unfold bootRecovery; simp)

@[simp] theorem execBootComplete_seen (s u : State) (hF : Scope.Le ⟨[.bank, .io, .recorder, .crp, .upd, .ing, .acq, .ref, .net, .pst, .cht, .dsp, .nfl, .pai, .key], [one Reg.TIM_BB_LAT, one Reg.CRP_NETREF, words Reg.TIM_PORT_LAT_10G 4, words Reg.TIM_PORT_LAT_1G 4, recCnt, one Reg.NFL_REFUSE, nflCnt, ofSets 0xFF, one Reg.ING_SYSREF_CTL], (one Reg.UPD_STICKY :: one Reg.REC_STICKY :: one Reg.PAI_STICKY :: one Reg.NFL_STICKY :: one Reg.KEY_STICKY :: one Reg.CRP_PWR_STICKY :: raised), false, false⟩ F) :
    seen F (ran (execBootComplete s) u) = seen F s := seen_mono hF (by unfold execBootComplete; simp)

@[simp] theorem modeRefused_seen (s : State) (hF : Scope.Le ⟨[.io], [], (one Reg.CRP_PWR_STICKY :: raised), false, false⟩ F) :
    seen F (modeRefused s) = seen F s := seen_mono hF (by unfold modeRefused; simp)

@[simp] theorem modeCmd_seen (t : Nat) (w : Word) (ok : Bool) {run : State → State} (s : State) (hrun : seen F (run s) = seen F s)
    (hF : Scope.Le ⟨[.io], [], (one Reg.CRP_PWR_STICKY :: raised), false, false⟩ F) : seen F (modeCmd t w ok run s) = seen F s := by
  unfold modeCmd
  split
  · rfl
  split
  · exact hrun
  · exact modeRefused_seen s hF

@[simp] theorem leaveMaintain_seen (s : State) (hF : Scope.Le ⟨[.io, .crp, .ing, .acq, .ref, .net, .pst, .cht, .dsp, .nfl, .pai], [], (one Reg.PAI_STICKY :: raised), false, false⟩ F) :
    seen F (leaveMaintain s) = seen F s := seen_mono hF (by unfold leaveMaintain; simp)

@[simp] theorem execTargetSurvey_seen (w : Word) (s u : State) (hF : Scope.Le ⟨[.io, .crp, .ing, .acq, .ref, .net, .pst, .cht, .dsp, .nfl, .pai], [], (one Reg.CRP_PWR_STICKY :: one Reg.PAI_STICKY :: raised), false, false⟩ F) :
    seen F (ran (execTargetSurvey w s) u) = seen F s := seen_mono hF (by unfold execTargetSurvey; simp)

@[simp] theorem execTargetServe_seen (w : Word) (s u : State) (hF : Scope.Le ⟨[.io, .crp, .ing, .acq, .ref, .net, .pst, .cht, .dsp, .nfl, .pai], [], (one Reg.CRP_PWR_STICKY :: one Reg.PAI_STICKY :: raised), false, false⟩ F) :
    seen F (ran (execTargetServe w s) u) = seen F s := seen_mono hF (by unfold execTargetServe; simp)

@[simp] theorem stopListening_seen (s : State) (hF : Scope.Le ⟨[.pai], [], [], false, false⟩ F) :
    seen F (stopListening s) = seen F s := seen_mono hF (by unfold stopListening; simp)

@[simp] theorem toMaintain_seen (s : State) (hF : Scope.Le ⟨[.bank, .io, .recorder, .crp, .upd, .ing, .tim, .ref, .net, .cht, .nfl, .pai], [one Reg.NFL_REFUSE, nflCnt, recCnt], (one Reg.NFL_STICKY :: one Reg.REC_STICKY :: one Reg.TIM_STICKY :: raised), false, false⟩ F) :
    seen F (toMaintain s) = seen F s := seen_mono hF (by unfold toMaintain; simp)

@[simp] theorem execTargetMaintain_seen (w : Word) (s u : State) (hF : Scope.Le ⟨[.bank, .io, .recorder, .crp, .upd, .ing, .tim, .ref, .net, .cht, .nfl, .pai], [one Reg.NFL_REFUSE, nflCnt, recCnt], (one Reg.CRP_PWR_STICKY :: one Reg.NFL_STICKY :: one Reg.REC_STICKY :: one Reg.TIM_STICKY :: raised), false, false⟩ F) :
    seen F (ran (execTargetMaintain w s) u) = seen F s := seen_mono hF (by unfold execTargetMaintain; simp)

@[simp] theorem toSnapshot_seen (s : State) (hF : Scope.Le ⟨[.bank, .io, .recorder, .crp, .upd, .ing, .acq, .ref, .net, .cht, .nfl, .pai], [one Reg.NFL_REFUSE, nflCnt, recCnt], (one Reg.NFL_STICKY :: one Reg.REC_STICKY :: raised), false, false⟩ F) :
    seen F (toSnapshot s) = seen F s := seen_mono hF (by unfold toSnapshot; simp)

@[simp] theorem execTargetSnapshot_seen (w : Word) (s u : State) (hF : Scope.Le ⟨[.bank, .io, .recorder, .crp, .upd, .ing, .acq, .ref, .net, .cht, .nfl, .pai], [one Reg.NFL_REFUSE, nflCnt, recCnt], (one Reg.CRP_PWR_STICKY :: one Reg.NFL_STICKY :: one Reg.REC_STICKY :: raised), false, false⟩ F) :
    seen F (ran (execTargetSnapshot w s) u) = seen F s := seen_mono hF (by unfold execTargetSnapshot; simp)

@[simp] theorem commitOpen_seen (s : State) (hF : Scope.Le ⟨[.recorder, .bank, .io], [recCnt], (one Reg.REC_STICKY :: raised), false, false⟩ F) :
    seen F (commitOpen s) = seen F s := by
  refine seen_mono hF ?_
  conv_lhs => unfold commitOpen; zeta
  simp

@[simp] theorem toDormant_seen (s : State) (hF : Scope.Le ⟨[.io, .recorder, .crp, .bank], [recCnt], (one Reg.REC_STICKY :: raised), false, false⟩ F) :
    seen F (toDormant s) = seen F s := seen_mono hF (by unfold toDormant; simp)

@[simp] theorem execTargetDormant_seen (w : Word) (s u : State) (hF : Scope.Le ⟨[.io, .recorder, .crp, .bank], [recCnt], (one Reg.CRP_PWR_STICKY :: one Reg.REC_STICKY :: raised), false, false⟩ F) :
    seen F (ran (execTargetDormant w s) u) = seen F s := seen_mono hF (by unfold execTargetDormant; simp)

@[simp] theorem snapPowerDown_seen (s : State) (hF : Scope.Le ⟨[.bank, .io, .recorder, .crp, .upd, .cor, .acq, .ref, .net, .mach, .pst, .cht, .dsp, .tsk, .nfl, .pai], [notInSnapshot, recCnt], (notInSnapshot :: one Reg.REC_STICKY :: raised), false, true⟩ F) :
    seen F (snapPowerDown s) = seen F s := by
  refine seen_mono hF ?_
  unfold snapPowerDown
  dsimp only
  rw [resetPins_seen _ _ _ (by simp), releaseDue_seen _ (by simp)]
  refine .trans (seen_mk (s := commitOpen s) (.inr ⟨by simp, regSeen_filter (p := snapKeeps) (q := snapKeeps) ?_ ?_ _ _ _⟩)
    (.inr ⟨by simp, stkSeen_filter (p := snapKeeps) ?_ _⟩) (.inr ⟨by simp, .inl rfl⟩) (.inr (by simp)) (.inr (by simp)) (.inl rfl)
    (.inr (by simp)) (.inr (by simp)) (.inl rfl) (.inr (by simp)) (.inr (by simp)) (.inr (by simp)) (.inr (by simp)) (.inr (by simp))
    (.inr (by simp)) (.inr (by simp)) (.inr (by simp)) (.inr (by simp)) (.inl rfl) (.inl rfl)) (commitOpen_seen s (by simp)) <;>
  · intro a ha
    simp [notInSnapshot] at ha
    exact ha.1

@[simp] theorem execSnapshotPowerDown_seen (s u : State) (hF : Scope.Le ⟨[.bank, .io, .recorder, .crp, .upd, .cor, .acq, .ref, .net, .mach, .pst, .cht, .dsp, .tsk, .nfl, .pai], [notInSnapshot, recCnt], (notInSnapshot :: one Reg.REC_STICKY :: raised), false, true⟩ F) :
    seen F (ran (execSnapshotPowerDown s) u) = seen F s := by
  refine seen_mono hF ?_
  unfold execSnapshotPowerDown
  split <;> simp

@[simp] theorem wakeStart_seen (s : State) (hF : Scope.Le ⟨[.bank, .io, .recorder, .crp, .upd, .cor, .acq, .ref, .net, .mach, .pst, .cht, .dsp, .tsk, .nfl, .pai, .key], [notInSnapshot, one Reg.NFL_REFUSE, nflCnt, recCnt], (notInSnapshot :: one Reg.KEY_STICKY :: one Reg.PAI_STICKY :: one Reg.NFL_STICKY :: one Reg.REC_STICKY :: raised), true, true⟩ F) :
    seen F (wakeStart s) = seen F s := seen_mono hF (by unfold wakeStart; simp)

@[simp] theorem execSnapshotWake_seen (s u : State) (hF : Scope.Le ⟨[.bank, .io, .recorder, .crp, .upd, .cor, .acq, .ref, .net, .mach, .pst, .cht, .dsp, .tsk, .nfl, .pai, .key], [notInSnapshot, one Reg.NFL_REFUSE, nflCnt, recCnt], (notInSnapshot :: one Reg.KEY_STICKY :: one Reg.PAI_STICKY :: one Reg.NFL_STICKY :: one Reg.REC_STICKY :: raised), true, true⟩ F) :
    seen F (ran (execSnapshotWake s) u) = seen F s := seen_mono hF (by unfold execSnapshotWake; simp)

@[simp] theorem pmuOn_seen (s : State) (hF : Scope.Le ⟨[.io, .crp], [], [], false, false⟩ F) :
    seen F (pmuOn s) = seen F s := seen_mono hF (by unfold pmuOn; simp)

@[simp] theorem execWakeN_seen (s u : State) (hF : Scope.Le ⟨[.io, .crp], [], [], false, false⟩ F) :
    seen F (ran (execWakeN s) u) = seen F s := seen_mono hF (by unfold execWakeN; simp)

@[simp] theorem execRtcAlarm_seen (s u : State) (hF : Scope.Le ⟨[.io, .crp], [], [], false, false⟩ F) :
    seen F (ran (execRtcAlarm s) u) = seen F s := seen_mono hF (by unfold execRtcAlarm; simp)

@[simp] theorem execMainRailsLost_seen (s u : State) (hF : Scope.Le ⟨[.bank, .io, .recorder, .crp, .upd, .ing, .cor, .acq, .tim, .ref, .net, .mach, .pst, .cht, .dsp, .tsk, .nfl, .pai, .key, .free], [allBut []], [allBut []], false, true⟩ F) :
    seen F (ran (execMainRailsLost s) u) = seen F s := seen_mono hF (by unfold execMainRailsLost; simp)

@[simp] theorem zeroiseRam_seen (s : State) (hF : Scope.Le ⟨[.key], [], [], false, false⟩ F) :
    seen F (zeroiseRam s) = seen F s := seen_mono hF (by unfold zeroiseRam; simp)

@[simp] theorem abortKeyOps_seen (s : State) (hF : Scope.Le ⟨[.io, .cht], [], (one Reg.CHT_STICKY :: raised), false, false⟩ F) :
    seen F (abortKeyOps s) = seen F s := seen_mono hF (by unfold abortKeyOps; simp)

@[simp] theorem latchTamper_seen (src : Nat) (s : State) (hF : Scope.Le ⟨[.io, .cht, .key], [], (one Reg.CHT_STICKY :: raised), false, false⟩ F) :
    seen F (latchTamper src s) = seen F s := seen_mono hF (by unfold latchTamper; simp)

@[simp] theorem tamperNote_seen (s : State) (hF : Scope.Le ⟨[.bank, .io, .recorder, .key], [recCnt], (one Reg.REC_STICKY :: raised), false, false⟩ F) :
    seen F (tamperNote s) = seen F s := seen_mono hF (by unfold tamperNote; simp)

/-- But for the wake from SNAPSHOT. -/
theorem tamperRespond_seen_awake {s : State} (h : s.crp.mode ≠ .snapshot) (hF : Scope.Le ⟨[.bank, .io, .recorder, .crp, .upd, .ing, .cor, .acq, .tim, .ref, .net, .mach, .pst, .cht, .dsp, .tsk, .nfl, .pai, .key, .free], [one Reg.NFL_REFUSE, nflCnt, recCnt, one Reg.TIM_BB_LAT, one Reg.CRP_NETREF, words Reg.TIM_PORT_LAT_10G 4, words Reg.TIM_PORT_LAT_1G 4, ofSets 0xFF, one Reg.ING_SYSREF_CTL], (one Reg.KEY_STICKY :: one Reg.PAI_STICKY :: one Reg.NFL_STICKY :: one Reg.REC_STICKY :: one Reg.UPD_STICKY :: one Reg.CRP_PWR_STICKY :: one Reg.TIM_STICKY :: raised), true, true⟩ F) :
    seen F (tamperRespond s) = seen F s := by
  have hLife (t : State) : seen F (tamperNote (lcTamper t)) = seen F t :=
    (tamperNote_seen _ (.trans (by simp) hF)).trans (lcTamper_seen _ (.trans (by simp) hF))
  unfold tamperRespond
  split
  · exact (pmuOn_seen _ (.trans (by simp) hF)).trans (setKey_seen _ _ (.trans (by simp) hF))
  next hm => exact absurd hm h
  · exact (hLife _).trans ((setCrp_seen _ _ (.trans (by simp) hF)).trans (bootPart_seen _ (.trans (by simp) hF)))
  · exact (hLife _).trans (keyLossCheck_seen _ (.trans (by simp) hF))
  all_goals exact (hLife _).trans ((keyLossCheck_seen _ (.trans (by simp) hF)).trans
    ((setPai_seen _ _ (.trans (by simp) hF)).trans (toMaintain_seen _ (.trans (by simp) hF))))

@[simp] theorem tamperRespond_seen (s : State) (hF : Scope.Le ⟨[.bank, .io, .recorder, .crp, .upd, .ing, .cor, .acq, .tim, .ref, .net, .mach, .pst, .cht, .dsp, .tsk, .nfl, .pai, .key, .free], [notInSnapshot, one Reg.NFL_REFUSE, nflCnt, recCnt, one Reg.TIM_BB_LAT, one Reg.CRP_NETREF, words Reg.TIM_PORT_LAT_10G 4, words Reg.TIM_PORT_LAT_1G 4, ofSets 0xFF, one Reg.ING_SYSREF_CTL], (notInSnapshot :: one Reg.KEY_STICKY :: one Reg.PAI_STICKY :: one Reg.NFL_STICKY :: one Reg.REC_STICKY :: one Reg.UPD_STICKY :: one Reg.CRP_PWR_STICKY :: one Reg.TIM_STICKY :: raised), true, true⟩ F) :
    seen F (tamperRespond s) = seen F s := by
  by_cases h : s.crp.mode = .snapshot
  · simp only [tamperRespond, h]
    exact (wakeStart_seen _ (.trans (by simp) hF)).trans (setKey_seen _ _ (.trans (by simp) hF))
  · exact tamperRespond_seen_awake h (.trans (by simp) hF)

@[simp] theorem execTamperEvent_seen (src : Nat) (under : Bool) (s u : State) (hF : Scope.Le ⟨[.bank, .io, .recorder, .crp, .upd, .ing, .cor, .acq, .tim, .ref, .net, .mach, .pst, .cht, .dsp, .tsk, .nfl, .pai, .key, .free], [notInSnapshot, one Reg.NFL_REFUSE, nflCnt, recCnt, one Reg.TIM_BB_LAT, one Reg.CRP_NETREF, words Reg.TIM_PORT_LAT_10G 4, words Reg.TIM_PORT_LAT_1G 4, ofSets 0xFF, one Reg.ING_SYSREF_CTL], (one Reg.CHT_STICKY :: notInSnapshot :: one Reg.KEY_STICKY :: one Reg.PAI_STICKY :: one Reg.NFL_STICKY :: one Reg.REC_STICKY :: one Reg.UPD_STICKY :: one Reg.CRP_PWR_STICKY :: one Reg.TIM_STICKY :: raised), true, true⟩ F) :
    seen F (ran (execTamperEvent src under s) u) = seen F s := seen_mono hF (by unfold execTamperEvent; simp)

@[simp] theorem execLowWordCapture_seen (a : Nat) (s u : State) (hF : Scope.Le ⟨[.bank], [], [], false, false⟩ F) :
    seen F (ran (execLowWordCapture a s) u) = seen F s := by
  refine seen_mono hF ?_
  conv_lhs => unfold execLowWordCapture; zeta
  (repeat' split) <;> simp

/-- The sticky words of the block of 1 MiB that `a` lies in; the correlator's four blocks share one. -/
def rejectOf (a : Nat) : Fam := fun b => decide (b / 2 ^ 20 = a / 2 ^ 20) || decide (b = Reg.COR_STICKY) && decide (a / 2 ^ 20 ∈ [4, 5, 6, 7])

@[simp] theorem blockReject_seen (a : Nat) (s : State) (hF : Scope.Le ⟨[.io], [], (rejectOf a :: raised), false, false⟩ F) :
    seen F (blockReject a s) = seen F s := by
  refine seen_mono hF ?_
  have hraises : Scope.Raises ⟨[.io], [], (rejectOf a :: raised), false, false⟩ := ⟨by simp, fun b hb => by simp [hb]⟩
  have hsticky {x : Nat} (bit : Nat) (hx : rejectOf a x = true) : seen ⟨[.io], [], (rejectOf a :: raised), false, false⟩ (sticky x bit s) = seen _ s :=
    seen_sticky hraises (by rw [among_cons, hx, Bool.true_or]) bit s
  unfold blockReject crpReject timReject refReject chtReject hifReject keyReject recReject otpReject updReject
  split
  case h_12 | h_20 => split <;> exact hsticky _ (by rw [rejectOf, ‹a / 2 ^ 20 = _›]; rfl)
  case h_14 =>
    refine hsticky _ ?_
    rw [rejectOf, ‹a / 2 ^ 20 = _›, Reg.NET_STICKY]
    simp
    omega
  case h_21 => rfl
  all_goals exact hsticky _ (by rw [rejectOf, ‹a / 2 ^ 20 = _›]; rfl)

@[simp] theorem place_seen (d : RegDesc) (a : Nat) (v : Word) (s : State) (hF : Scope.Le ⟨[.bank], [one a], [], false, false⟩ F) :
    seen F (place d a v s) = seen F s := seen_mono hF (by unfold place; simp)

@[simp] theorem plainWrite_seen (d : RegDesc) (a : Nat) (w : Word) (s : State) (hF : Scope.Le ⟨[.bank, .io], [one a], (one a :: rejectOf a :: raised), false, false⟩ F) :
    seen F (plainWrite d a w s) = seen F s := by
  refine seen_mono hF ?_
  unfold plainWrite
  (repeat' split) <;> simp

@[simp] theorem checkedWrite_seen (ok : Bool) (d : RegDesc) (a : Nat) (w : Word) (s : State) (hF : Scope.Le ⟨[.bank, .io], [one a], (one a :: rejectOf a :: raised), false, false⟩ F) :
    seen F (checkedWrite ok d a w s) = seen F s := seen_mono hF (by unfold checkedWrite; simp)

@[simp] theorem stageLow_seen (d : RegDesc) (a : Nat) (w : Word) (s : State) (hF : Scope.Le ⟨[.bank], [], [], false, false⟩ F) :
    seen F (stageLow d a w s) = seen F s := by
  refine seen_mono hF ?_
  conv_lhs => unfold stageLow; zeta
  simp

@[simp] theorem writeGlb_seen (d : RegDesc) (a : Nat) (w : Word) (s : State) (hF : Scope.Le ⟨[.bank, .io, .crp], [allBut []], [allBut []], false, false⟩ F) :
    seen F (writeGlb d a w s) = seen F s := seen_mono hF (by unfold writeGlb; simp)

@[simp] theorem writeRst_seen (w : Word) (s : State) (hF : Scope.Le ⟨[.bank, .io, .recorder, .crp, .upd, .ing, .cor, .acq, .tim, .ref, .net, .mach, .pst, .cht, .dsp, .tsk, .nfl, .pai, .key, .free], [allBut []], [allBut []], true, true⟩ F) :
    seen F (writeRst w s) = seen F s := seen_mono hF (by unfold writeRst; simp)

@[simp] theorem writeMode_seen (w : Word) (s : State) (hF : Scope.Le ⟨[.bank, .io, .recorder, .crp, .upd, .ing, .acq, .tim, .ref, .net, .pst, .cht, .dsp, .nfl, .pai], [one Reg.NFL_REFUSE, nflCnt, recCnt], (one Reg.CRP_PWR_STICKY :: one Reg.PAI_STICKY :: one Reg.NFL_STICKY :: one Reg.REC_STICKY :: one Reg.TIM_STICKY :: raised), false, false⟩ F) :
    seen F (writeMode w s) = seen F s := by
  refine seen_mono hF ?_
  unfold writeMode
  split <;> simp

@[simp] theorem writeCrp_seen (d : RegDesc) (n a : Nat) (w : Word) (s : State) (hF : Scope.Le ⟨[.bank, .io, .recorder, .crp, .upd, .ing, .cor, .acq, .tim, .ref, .net, .mach, .pst, .cht, .dsp, .tsk, .nfl, .pai, .key, .free], [allBut []], [allBut []], true, true⟩ F) :
    seen F (writeCrp d n a w s) = seen F s := seen_mono hF (by unfold writeCrp; simp)

@[simp] theorem writePps_seen (d : RegDesc) (n a : Nat) (w : Word) (s : State) (hF : Scope.Le ⟨[.bank, .io, .tim], [allBut []], [allBut []], false, false⟩ F) :
    seen F (writePps d n a w s) = seen F s := seen_mono hF (by unfold writePps; simp)

@[simp] theorem writeTpCfg_seen (d : RegDesc) (n a : Nat) (w : Word) (s : State) (hF : Scope.Le ⟨[.bank, .io, .tim], [allBut []], [allBut []], false, false⟩ F) :
    seen F (writeTpCfg d n a w s) = seen F s := seen_mono hF (by unfold writeTpCfg; simp)

@[simp] theorem writeTp_seen (d : RegDesc) (n a : Nat) (w : Word) (s : State) (hF : Scope.Le ⟨[.bank, .io], [allBut []], [allBut []], false, false⟩ F) :
    seen F (writeTp d n a w s) = seen F s := seen_mono hF (by unfold writeTp; simp)

@[simp] theorem writeTim_seen (d : RegDesc) (n a : Nat) (w : Word) (s : State) (hF : Scope.Le ⟨[.bank, .io, .recorder, .crp, .upd, .ing, .cor, .tim, .ref, .net, .cht, .nfl, .pai, .free], [allBut []], [allBut []], false, false⟩ F) :
    seen F (writeTim d n a w s) = seen F s := seen_mono hF (by unfold writeTim; simp)

@[simp] theorem writeSysref_seen (d : RegDesc) (a : Nat) (w : Word) (s : State) (hF : Scope.Le ⟨[.bank, .io, .ing], [allBut []], [allBut []], false, false⟩ F) :
    seen F (writeSysref d a w s) = seen F s := seen_mono hF (by unfold writeSysref; simp)

@[simp] theorem relRelease_seen (n : Nat) (s : State) (hF : Scope.Le ⟨[.ing], [], [], false, false⟩ F) :
    seen F (relRelease n s) = seen F s := seen_mono hF (by unfold relRelease; simp)

@[simp] theorem writeIng_seen (d : RegDesc) (n a : Nat) (w : Word) (s : State) (hF : Scope.Le ⟨[.bank, .io, .ing], [allBut []], [allBut []], false, false⟩ F) :
    seen F (writeIng d n a w s) = seen F s := seen_mono hF (by unfold writeIng; simp)

@[simp] theorem writeCtxCmd_seen (ch : Nat) (w : Word) (s : State) (hF : Scope.Le ⟨[.io, .cor, .acq], [], (one Reg.COR_STICKY :: raised), false, true⟩ F) :
    seen F (writeCtxCmd ch w s) = seen F s := seen_mono hF (by unfold writeCtxCmd; simp)

@[simp] theorem writeCor_seen (d : RegDesc) (n a : Nat) (w : Word) (s : State) (hF : Scope.Le ⟨[.bank, .io, .recorder, .cor, .acq, .free], [allBut []], [allBut []], false, true⟩ F) :
    seen F (writeCor d n a w s) = seen F s := seen_mono hF (by unfold writeCor; simp)

@[simp] theorem writeAcqCode_seen (w : Word) (s : State) (hF : Scope.Le ⟨[.bank, .acq], [one Reg.ACQ_CODE_ADDR], [], false, true⟩ F) :
    seen F (writeAcqCode w s) = seen F s := seen_mono hF (by unfold writeAcqCode; simp)

@[simp] theorem writeCapCmd_seen (w : Word) (s : State) (hF : Scope.Le ⟨[.io, .acq, .free], [], (one Reg.ACQ_STICKY :: raised), false, false⟩ F) :
    seen F (writeCapCmd w s) = seen F s := seen_mono hF (by unfold writeCapCmd; simp)

@[simp] theorem writeAcq_seen (d : RegDesc) (n a : Nat) (w : Word) (s : State) (hF : Scope.Le ⟨[.bank, .io, .acq, .free], [allBut []], [allBut []], false, true⟩ F) :
    seen F (writeAcq d n a w s) = seen F s := seen_mono hF (by unfold writeAcq; simp)

@[simp] theorem writeCoord_seen (d : RegDesc) (a : Nat) (w : Word) (s : State) (hF : Scope.Le ⟨[.bank, .io], [allBut []], [allBut []], false, false⟩ F) :
    seen F (writeCoord d a w s) = seen F s := seen_mono hF (by unfold writeCoord; simp)

@[simp] theorem writeSurvey_seen (w : Word) (s : State) (hF : Scope.Le ⟨[.io, .ref], [], (one Reg.REF_STICKY :: raised), false, false⟩ F) :
    seen F (writeSurvey w s) = seen F s := seen_mono hF (by unfold writeSurvey; simp)

@[simp] theorem writeAntCmd_seen (n : Nat) (w : Word) (s : State) (hF : Scope.Le ⟨[.ref], [], [], false, false⟩ F) :
    seen F (writeAntCmd n w s) = seen F s := seen_mono hF (by unfold writeAntCmd; simp)

@[simp] theorem writeRef_seen (d : RegDesc) (n a : Nat) (w : Word) (s : State) (hF : Scope.Le ⟨[.bank, .io, .ref], [allBut []], [allBut []], false, false⟩ F) :
    seen F (writeRef d n a w s) = seen F s := seen_mono hF (by unfold writeRef; simp)

@[simp] theorem writePst_seen (d : RegDesc) (a : Nat) (w : Word) (s : State) (hF : Scope.Le ⟨[.bank, .io, .recorder, .ref, .net, .mach, .pst, .dsp, .pai], [allBut []], [allBut []], false, false⟩ F) :
    seen F (writePst d a w s) = seen F s := seen_mono hF (by unfold writePst; simp)

@[simp] theorem writeChtCmd_seen (w : Word) (s : State) (hF : Scope.Le ⟨[.bank, .io, .cht, .pai], [one Reg.CHT_LAT_MAX], (one Reg.PAI_STICKY :: one Reg.CHT_STICKY :: raised), false, false⟩ F) :
    seen F (writeChtCmd w s) = seen F s := seen_mono hF (by unfold writeChtCmd; simp)

@[simp] theorem writeGraphAddr_seen (a : Nat) (w : Word) (s : State) (hF : Scope.Le ⟨[.bank], [one a, one Reg.CHT_GRAPH_ADDR_LO], [], false, false⟩ F) :
    seen F (writeGraphAddr a w s) = seen F s := seen_mono hF (by unfold writeGraphAddr; simp)

@[simp] theorem writeCht_seen (d : RegDesc) (a : Nat) (w : Word) (s : State) (hF : Scope.Le ⟨[.bank, .io, .cht, .pai], [allBut []], [allBut []], false, false⟩ F) :
    seen F (writeCht d a w s) = seen F s := seen_mono hF (by unfold writeCht; simp)

@[simp] theorem writeDsp_seen (d : RegDesc) (a : Nat) (w : Word) (s : State) (hF : Scope.Le ⟨[.bank, .io, .dsp], [allBut []], [allBut []], false, false⟩ F) :
    seen F (writeDsp d a w s) = seen F s := seen_mono hF (by unfold writeDsp; simp)

@[simp] theorem writeNfl_seen (d : RegDesc) (a : Nat) (w : Word) (s : State) (hF : Scope.Le ⟨[.bank, .io, .recorder, .upd, .net, .mach, .cht, .nfl, .pai], [allBut []], [allBut []], false, false⟩ F) :
    seen F (writeNfl d a w s) = seen F s := seen_mono hF (by unfold writeNfl; simp)

@[simp] theorem writeNet_seen (d : RegDesc) (n a : Nat) (w : Word) (s : State) (hF : Scope.Le ⟨[.bank, .io], [allBut []], [allBut []], false, false⟩ F) :
    seen F (writeNet d n a w s) = seen F s := seen_mono hF (by unfold writeNet; simp)

@[simp] theorem writePaiCmd_seen (w : Word) (s : State) (hF : Scope.Le ⟨[.io, .pai], [], (one Reg.PAI_STICKY :: raised), false, false⟩ F) :
    seen F (writePaiCmd w s) = seen F s := seen_mono hF (by unfold writePaiCmd; simp)

@[simp] theorem writePai_seen (d : RegDesc) (a : Nat) (w : Word) (s : State) (hF : Scope.Le ⟨[.bank, .io, .pai], [allBut []], [allBut []], false, false⟩ F) :
    seen F (writePai d a w s) = seen F s := seen_mono hF (by unfold writePai; simp)

@[simp] theorem writeRingCfg_seen (r : Nat) (w : Word) (s : State) (hF : Scope.Le ⟨[.io], [], raised, false, false⟩ F) :
    seen F (writeRingCfg r w s) = seen F s := seen_mono hF (by unfold writeRingCfg; simp)

@[simp] theorem writeRingReg_seen (d : RegDesc) (r a : Nat) (w : Word) (s : State) (hF : Scope.Le ⟨[.bank, .io], [], raised, false, false⟩ F) :
    seen F (writeRingReg d r a w s) = seen F s := seen_mono hF (by unfold writeRingReg; simp)

@[simp] theorem writeMsix_seen (d : RegDesc) (v : Nat) (w : Word) (s : State) (hF : Scope.Le ⟨[.io], [], raised, false, false⟩ F) :
    seen F (writeMsix d v w s) = seen F s := seen_mono hF (by unfold writeMsix; simp)

@[simp] theorem writeHif_seen (d : RegDesc) (n a : Nat) (w : Word) (s : State) (hF : Scope.Le ⟨[.bank, .io], [one a], (one a :: rejectOf a :: raised), false, false⟩ F) :
    seen F (writeHif d n a w s) = seen F s := seen_mono hF (by unfold writeHif; simp)

@[simp] theorem writeKey_seen (d : RegDesc) (a : Nat) (w : Word) (s : State) (hF : Scope.Le ⟨[.bank, .io, .recorder, .upd, .net, .cht, .nfl, .pai, .key], [allBut []], [allBut []], true, false⟩ F) :
    seen F (writeKey d a w s) = seen F s := seen_mono hF (by unfold writeKey; simp)

@[simp] theorem writeRec_seen (d : RegDesc) (a : Nat) (w : Word) (s : State) (hF : Scope.Le ⟨[.bank, .io, .recorder], [allBut []], [allBut []], false, false⟩ F) :
    seen F (writeRec d a w s) = seen F s := seen_mono hF (by unfold writeRec; simp)

@[simp] theorem writePrf_seen (d : RegDesc) (k a : Nat) (w : Word) (x : WriteCycle) (s : State) (hF : Scope.Le ⟨[.bank, .io], [allBut []], [allBut []], false, false⟩ F) :
    seen F (writePrf d k a w x s) = seen F s := seen_mono hF (by unfold writePrf; simp)

@[simp] theorem writeUpdCmd_seen (w : Word) (s : State) (hF : Scope.Le ⟨[.io, .upd], [], (one Reg.UPD_STICKY :: raised), true, false⟩ F) :
    seen F (writeUpdCmd w s) = seen F s := seen_mono hF (by unfold writeUpdCmd; simp)

@[simp] theorem writeOtpCmd_seen (w : Word) (s : State) (hF : Scope.Le ⟨[.io, .upd], [], (one Reg.OTP_STICKY :: raised), true, false⟩ F) :
    seen F (writeOtpCmd w s) = seen F s := seen_mono hF (by unfold writeOtpCmd; simp)

@[simp] theorem writeUpd_seen (d : RegDesc) (a : Nat) (w : Word) (s : State) (hF : Scope.Le ⟨[.bank, .io, .upd, .free], [allBut []], [allBut []], true, false⟩ F) :
    seen F (writeUpd d a w s) = seen F s := seen_mono hF (by unfold writeUpd; simp)

@[simp] theorem redeliver_seen (g : Nat) (w : Word) (s : State) (hF : Scope.Le ⟨[.io], [], raised, false, false⟩ F) :
    seen F (redeliver g w s) = seen F s := by
  unfold redeliver
  refine seen_foldl (fun t b => ?_) _ s
  split
  · exact withIo_seen t (fun io => deliver_stkSeen hF.stks _ _ _ _ io) hF
  · rfl

@[simp] theorem writeReg_seen (d : RegDesc) (a : Nat) (w : Word) (x : WriteCycle) (s : State) (hF : Scope.Le ⟨[.bank, .io, .recorder, .crp, .upd, .ing, .cor, .acq, .tim, .ref, .net, .mach, .pst, .cht, .dsp, .tsk, .nfl, .pai, .key, .free], [allBut []], [allBut []], true, true⟩ F) :
    seen F (writeReg d a w x s) = seen F s := by
  refine seen_mono hF ?_
  unfold writeReg
  dsimp only
  split
  case h_17 => split <;> simp
  case h_22 => rfl
  all_goals simp

@[simp] theorem execRegisterWrite_seen (a : Nat) (w : Word) (x : WriteCycle) (s u : State) (hF : Scope.Le ⟨[.bank, .io, .recorder, .crp, .upd, .ing, .cor, .acq, .tim, .ref, .net, .mach, .pst, .cht, .dsp, .tsk, .nfl, .pai, .key, .free], [allBut []], [allBut []], true, true⟩ F) :
    seen F (ran (execRegisterWrite a w x s) u) = seen F s := by
  refine seen_mono hF ?_
  rw [execRegisterWrite, ran_next]
  split
  · rfl
  split
  · simp
  split
  · simp
  split
  · rfl
  · split <;> simp

@[simp] theorem boundFallen_seen (s : State) (hF : Scope.Le ⟨[.tim], [], [], false, false⟩ F) :
    seen F (boundFallen s) = seen F s := seen_mono hF (by unfold boundFallen; simp)

@[simp] theorem wdgHold_seen (s : State) (hF : Scope.Le ⟨[.nfl], [], [], false, false⟩ F) :
    seen F (wdgHold s) = seen F s := seen_mono hF (by unfold wdgHold; simp)

@[simp] theorem stopCount_seen (s : State) (hF : Scope.Le ⟨[.bank, .io], [dspCnt], raised, false, false⟩ F) :
    seen F (stopCount s) = seen F s := seen_mono hF (by unfold stopCount; simp)

@[simp] theorem lasting_seen (before : Nat) (s : State) (hF : Scope.Le ⟨[.io], [], raised, false, false⟩ F) :
    seen F (lasting before s) = seen F s := seen_mono hF (by unfold lasting; simp)

@[simp] theorem hiddenCount_seen (s : State) (e : Nat × PCtr) (hF : Scope.Le ⟨[.io], [], raised, false, false⟩ F) :
    seen F (hiddenCount s e) = seen F s := by
  unfold hiddenCount
  extract_lets n counts
  split
  next h =>
    simp only [Bool.and_eq_true] at h
    exact withIo_seen s (fun io => ctrAdd_stkSeen hF.stks _ (lt_of_ctrExists h.1.2) _ io) hF
  · rfl

@[simp] theorem hidden_seen (s : State) (hF : Scope.Le ⟨[.io], [], raised, false, false⟩ F) :
    seen F (hidden s) = seen F s := by
  refine seen_mono hF ?_
  unfold hidden
  simp

theorem tick_seen (s : State) (hF : Scope.Le ⟨[.bank, .io, .tim, .nfl, .key], [dspCnt], raised, false, false⟩ F) : seen F (tick s) = seen F s := by
  refine seen_mono hF ?_
  unfold tick
  split
  · rw [hidden_seen _ (by simp), lasting_seen _ _ (by simp), stopCount_seen _ (by simp), wdgHold_seen _ (by simp),
      boundFallen_seen _ (by simp)]
    exact seen_mk (.inl rfl) (.inl rfl) (.inl rfl) (.inl rfl) (.inl rfl) (.inl rfl) (.inl rfl) (.inl rfl) (.inr (by simp)) (.inl rfl)
      (.inl rfl) (.inl rfl) (.inl rfl) (.inl rfl) (.inl rfl) (.inl rfl) (.inl rfl) (.inl rfl) (.inr (by simp)) (.inl rfl)
  · simp

end Sys2Proof.Machine
end

section
namespace Sys2Proof.Machine
open Sys2Proof.Safety

@[simp] theorem nfParts_eq : nfParts = [.bank, .io, .recorder, .upd, .net, .cht, .nfl, .pai] := by simp only [nfParts]
@[simp] theorem nfRegs_eq : nfRegs = [nflCnt, one Reg.NFL_REFUSE, recCnt] := by simp only [nfRegs]
@[simp] theorem nfStks_eq : nfStks = [one Reg.NFL_STICKY, one Reg.REC_STICKY] ++ raised := by simp only [nfStks]
@[simp] theorem nfPartsAnd_eq (l : List Part) : nfPartsAnd l = nfParts ++ l := by simp only [nfPartsAnd]
@[simp] theorem nfRegsAnd_eq (l : List Fam) : nfRegsAnd l = nfRegs ++ l := by simp only [nfRegsAnd]
@[simp] theorem nfStksAnd_eq (l : List Fam) : nfStksAnd l = nfStks ++ l := by simp only [nfStksAnd]
@[simp] theorem andRaised_eq (l : List Fam) : andRaised l = l ++ raised := by simp only [andRaised]

variable {F : Scope} {c : Instr}

/-- Command `c` changes at most what `F` allows. -/
def Within (F : Scope) (c : Instr) : Prop := ∀ s u, seen F (ran (exec c s) u) = seen F s

theorem Within.same {s t : State} (h : Within F c) (ht : exec c s = .next t) : Same F s t :=
  seen_eq_iff.1 (by simpa [ht] using h s s)

theorem keeps_of_within (h : Within F c) : Keeps c F.parts := fun _ _ ht =>
  have hs := h.same ht
  ⟨hs.pending, hs.grade, hs.parts⟩

/-- What a command may change, as the obligations state it. -/
theorem frame_of_within {parts : List Part} {regs stks : List Fam} (h : Within ⟨parts, regs, stks, true, true⟩ c) :
    Frame c parts regs stks :=
  ⟨keeps_of_within h, fun _ _ ht => ⟨(h.same ht).regs, (h.same ht).stks⟩⟩
end Sys2Proof.Machine
end

section
namespace Sys2Proof.Machine
open Sys2Proof.Safety

theorem execSurveyEnd_none {s t : State} (h : s.ref.survey = none) (ht : exec .surveyEnd s = .next t) : t = s := by
  simp only [exec, execSurveyEnd, h] at ht
  exact (Host.Outcome.next.inj ht).symm

/-- The end of a survey changes at most the registers of its antennas. -/
theorem same_surveyEnd {s t : State} {v : Survey} (h : s.ref.survey = some v) (ht : exec .surveyEnd s = .next t) :
    Same ⟨[.bank, .io, .ref, .free], (surveyScope v.ants).regs, one Reg.REF_STICKY :: raised, false, false⟩ s t :=
  seen_eq_iff.1 (by
    have hs := execSurveyEnd_seen s s h (.refl ⟨[.bank, .io, .ref, .free], (surveyScope v.ants).regs, one Reg.REF_STICKY :: raised, false, false⟩)
    rwa [show execSurveyEnd s = .next t from ht] at hs)

theorem keeps_surveyEnd : Keeps .surveyEnd [.bank, .io, .ref, .free] := by
  intro s t ht
  cases h : s.ref.survey with
  | none =>
    obtain rfl := execSurveyEnd_none h ht
    exact ⟨rfl, rfl, fun p _ => Part.same_refl _ p⟩
  | some v =>
    have hs := same_surveyEnd h ht
    exact ⟨hs.pending, hs.grade, hs.parts⟩
end Sys2Proof.Machine
end

section
/-! SUPPORT. Frames of the commands that can reset part of the device: of the registers that a reset clears each keeps its value or reads
its reset. -/
namespace Sys2Proof.Machine
open Sys2Proof.Safety

/-- Outside `R` and `K` every register keeps its value or reads its reset, and every sticky word keeps its bits or reads 0. -/
structure KeptOrReset (R K : List Fam) (s t : State) : Prop where
  regs : ∀ a, among R a = false → rd t a = rd s a ∨ rd t a = RegMap.reset a
  stks : ∀ a, among K a = false → stk t a = stk s a ∨ stk t a = 0

theorem KeptOrReset.trans {R K : List Fam} {s t u : State} (h : KeptOrReset R K s t) (g : KeptOrReset R K t u) : KeptOrReset R K s u where
  regs a ha := (g.regs a ha).elim (fun hg => (h.regs a ha).imp hg.trans hg.trans) .inr
  stks a ha := (g.stks a ha).elim (fun hg => (h.stks a ha).imp hg.trans hg.trans) .inr

theorem KeptOrReset.of_seen {F : Scope} {s t : State} (h : seen F t = seen F s) : KeptOrReset F.regs F.stks s t where
  regs a ha := .inl ((seen_eq_iff.1 h).regs a ha).1
  stks a ha := .inl ((seen_eq_iff.1 h).stks a ha)

theorem KeptOrReset.mono {R R' K K' : List Fam} {s t : State} (hR : Covers R' R) (hK : Covers K' K) (h : KeptOrReset R K s t) :
    KeptOrReset R' K' s t where
  regs a ha := h.regs a (by by_contra hn; simp [hR a (by simpa using hn)] at ha)
  stks a ha := h.stks a (by by_contra hn; simp [hK a (by simpa using hn)] at ha)

/-- A state whose registers and sticky words are those of `s` that `keep` keeps. -/
theorem KeptOrReset.of_filter {R K : List Fam} {s t : State} (keep : Nat → Bool)
    (hregs : t.bank.regs = s.bank.regs.filter (fun e => keep e.1)) (hstks : t.io.stk = s.io.stk.filter (fun e => keep e.1)) :
    KeptOrReset R K s t where
  regs a _ := by
    simp only [rd, hregs, Tab.get_filter (p := keep)]
    split
    · exact .inl rfl
    · exact .inr rfl
  stks a _ := by
    simp only [stk, ioStk, hstks, Tab.get_filter (p := keep)]
    split
    · exact .inl rfl
    · exact .inr rfl

theorem keptOrReset_acqDownCheck (R K : List Fam) (s : State) : KeptOrReset R K s (acqDownCheck s) := by
  unfold acqDownCheck
  split
  · exact .of_filter (fun a => a < 0x800000 || decide (0x900000 ≤ a)) rfl rfl
  · exact .of_seen (F := ⟨[], R, K, true, true⟩) rfl

theorem keptOrReset_searchComplete {pipe : Nat} {s t : State} (h : exec (.searchComplete pipe) s = .next t) :
    KeptOrReset [] raised s t := by
  obtain rfl := Host.Outcome.next.inj h
  split
  next => exact .of_seen (F := ⟨[], [], raised, true, true⟩) rfl
  next q _ =>
    extract_lets n status _ u power best peaks noise v
    have hv : seen ⟨[.bank, .io, .crp, .acq, .free], [], raised, true, true⟩ (releaseDue (endSearch q status n noise peaks v)) = seen _ s := by
      simp [v, u]
    exact (KeptOrReset.of_seen hv).trans (keptOrReset_acqDownCheck _ _ _)

theorem keptOrReset_snapPowerDown (s : State) : KeptOrReset [recCnt] (one Reg.REC_STICKY :: raised) s (snapPowerDown s) := by
  have hopen : seen ⟨[.bank, .io, .recorder], [recCnt], one Reg.REC_STICKY :: raised, true, true⟩ (commitOpen s) = seen _ s :=
    commitOpen_seen s (by simp)
  unfold snapPowerDown
  extract_lets u keep claim _ _ _ _ _ v
  have hpins : seen ⟨[.io, .acq], [], [], true, true⟩ (resetPins claim [] (releaseDue v)) = seen _ v :=
    (resetPins_seen _ _ _ (by simp)).trans (releaseDue_seen _ (by simp))
  exact (KeptOrReset.of_seen hopen).trans (.trans (.of_filter (s := u) (t := v) snapKeeps rfl rfl)
    ((KeptOrReset.of_seen hpins).mono (by simp) (by simp)))


theorem keptOrReset_wakeStart (s : State) :
    KeptOrReset nfRegs (one Reg.KEY_STICKY :: one Reg.PAI_STICKY :: nfStks) s (wakeStart s) := by
  have hdown : KeptOrReset nfRegs (one Reg.KEY_STICKY :: one Reg.PAI_STICKY :: nfStks) s (if s.crp.snapDown then s else snapPowerDown s) := by
    split
    · exact .of_seen (F := ⟨[], _, _, true, true⟩) rfl
    · exact (keptOrReset_snapPowerDown s).mono (by simp) (by simp)
  have hkeys (t : State) : seen ⟨[.bank, .io, .recorder, .crp, .upd, .net, .cht, .nfl, .pai, .key], nfRegs,
      one Reg.KEY_STICKY :: one Reg.PAI_STICKY :: nfStks, true, true⟩ (startKeys t) = seen _ t := startKeys_seen t (by simp)
  unfold wakeStart
  exact hdown.trans ((KeptOrReset.of_seen ((hkeys _).trans (setCrp_seen _ _ (by simp)))))


theorem keptOrReset_tamperRespond (s : State) :
    KeptOrReset (nfRegsAnd startRegs) (nfStksAnd [one Reg.CHT_STICKY, one Reg.CRP_PWR_STICKY, one Reg.KEY_STICKY, one Reg.PAI_STICKY,
      one Reg.TIM_STICKY, one Reg.UPD_STICKY]) s (tamperRespond s) := by
  by_cases hmode : s.crp.mode = .snapshot
  · simp only [tamperRespond, hmode]
    exact ((KeptOrReset.of_seen (setKey_seen _ s (.refl _))).mono (by simp) (by simp)).trans
      ((keptOrReset_wakeStart _).mono (by simp) (by simp))
  · exact (KeptOrReset.of_seen (tamperRespond_seen_awake hmode (.refl _))).mono (by simp [startRegs]) (by simp)

theorem keptOrReset_tamperEvent {src : Nat} {under : Bool} {s t : State} (h : exec (.tamperEvent src under) s = .next t) :
    KeptOrReset (nfRegsAnd startRegs) (nfStksAnd [one Reg.CHT_STICKY, one Reg.CRP_PWR_STICKY, one Reg.KEY_STICKY, one Reg.PAI_STICKY,
      one Reg.TIM_STICKY, one Reg.UPD_STICKY]) s t := by
  obtain rfl := Host.Outcome.next.inj h
  split
  · exact .of_seen (F := ⟨[], _, _, true, true⟩) rfl
  · extract_lets u
    have hu : seen ⟨[.io, .cht, .key], [], [one Reg.CHT_STICKY, one Reg.KEY_STICKY] ++ raised, true, true⟩
        (stickyIf (decide (u.crp.mode ≠ .dormant)) Reg.KEY_STICKY 0 u) = seen _ s := by simp [u]
    exact ((KeptOrReset.of_seen hu).mono (by simp) (by simp)).trans (keptOrReset_tamperRespond _)

/-- The frame of a command that can reset part of the device. -/
theorem resetFrame_of_within {c : Instr} {parts : List Part} {cleared regs stks : List Fam} 
    (h : Within ⟨parts, regs ++ cleared, stks ++ cleared, true, true⟩ c)
    (hc : ∀ {s t}, exec c s = .next t → KeptOrReset regs stks s t) : ResetFrame c parts cleared regs stks :=
  ⟨keeps_of_within h, fun _ _ ht =>
    ⟨fun a ha => ⟨(hc ht).regs a ha, fun hcl => (h.same ht).regs a (by simp [ha, hcl])⟩,
      fun a ha => ⟨(hc ht).stks a ha, fun hcl => (h.same ht).stks a (by simp [ha, hcl])⟩⟩⟩

end Sys2Proof.Machine
end

section
/-! SUPPORT. Frames of host writes. -/
namespace Sys2Proof.Machine
open Sys2Proof.Safety

theorem mem_block_of_reached {s : State} {a : Nat} {d : RegDesc} (h : reached s a = some d) : d ∈ RegMap.block a ∧ RegMap.holds d a = true := by
  have hfind : RegMap.find a = some d := by
    simp only [reached, Option.ite_none_right_eq_some] at h
    obtain ⟨_, h⟩ := h
    cases hat : regAt s a with
    | none => simp [hat] at h
    | some e =>
      simp only [hat, Option.ite_none_right_eq_some, Option.some.injEq] at h
      obtain ⟨_, rfl⟩ := h
      unfold regAt at hat
      split at hat
      next e he =>
        simp only [Option.ite_none_right_eq_some, Option.some.injEq] at hat
        exact hat.2 ▸ he
      next => cases hat
  exact ⟨List.mem_of_find?_eq_some hfind, by simpa using List.find?_some hfind⟩

/-- The registers of the correlators: those of the contexts, and those before them. -/
theorem cor_bases : ∀ d ∈ RegMap.cor, 0 < d.stride ∧ (between (Reg.COR_CFG 0) (Reg.COR_CFG 2048) d.base = true ∨
    d.base + d.stride * d.count ≤ Reg.COR_CFG 0) := by decide

theorem lt_of_holds {d : RegDesc} {a : Nat} (h : RegMap.holds d a = true) (hs : 0 < d.stride) : a < d.base + d.stride * d.count := by
  simp only [RegMap.holds, decide_eq_true_eq] at h
  have := (Nat.div_lt_iff_lt_mul hs).1 h.2.1
  rw [Nat.mul_comm]
  omega

theorem cor_lt_of_noEffect {s : State} {a : Nat} {d : RegDesc} (h : reached s a = some d) (he : hasEffect d.base = false)
    (ha : a / 2 ^ 20 ∈ [4, 5, 6, 7]) : a < Reg.COR_CFG 0 := by
  obtain ⟨hmem, hholds⟩ := mem_block_of_reached h
  have hcor : d ∈ RegMap.cor := by
    unfold RegMap.block at hmem
    rw [Nat.shiftRight_eq_div_pow] at hmem
    simp only [List.mem_cons, List.not_mem_nil, or_false] at ha
    obtain ha | ha | ha | ha := ha <;> rwa [ha] at hmem
  obtain ⟨hs, hb⟩ := cor_bases d hcor
  have hlt := lt_of_holds hholds hs
  refine hlt.trans_le (hb.resolve_left fun hb => ?_)
  rw [hasEffect, hb] at he
  cases he

/-- The sticky words of the block of 1 MiB that `a` lies in. -/
def sameBlock (a : Nat) : Fam := fun b => decide (b / 2 ^ 20 = a / 2 ^ 20)

theorem rejectOf_eq_sameBlock {a : Nat} (h : a / 2 ^ 20 ∈ [4, 5, 6, 7] → a / 2 ^ 20 = 4) : rejectOf a = sameBlock a := by
  funext b
  simp only [rejectOf, sameBlock, Bool.or_eq_left_iff_imp, Bool.and_eq_true, decide_eq_true_eq]
  rintro ⟨rfl, ha⟩
  rw [h ha]
  rfl

/-- A write without an effect of its own changes its register, and sticky words of its block. -/
theorem writeReg_seen_of_noEffect {d : RegDesc} {a : Nat} (w : Word) (x : WriteCycle) (s : State) (he : hasEffect d.base = false)
    (hcor : a / 2 ^ 20 ∈ [4, 5, 6, 7] → a < Reg.COR_CFG 0) :
    seen ⟨[.bank, .io], [one a], one a :: rejectOf a :: raised, false, false⟩ (writeReg d a w x s) =
      seen ⟨[.bank, .io], [one a], one a :: rejectOf a :: raised, false, false⟩ s := by
  have hpending : d.base ≠ Reg.HIF_EVT_PENDING 0 := fun hb => by rw [hb] at he; exact absurd he (by decide)
  simp [hasEffect] at he
  unfold writeReg
  extract_lets n again v
  split
  · simp [writeGlb, he]
  · simp [writeCrp, he]
  · simp [writeTim, he]
  · simp [writeIng, he]
  case h_5 | h_6 | h_7 | h_8 => simp [writeCor, he, hcor (by rw [‹a / 2 ^ 20 = _›]; decide)]
  · simp [writeAcq, he]
  · simp [writeRef, he]
  · simp [writePst, he]
  · simp [writeCht, he]
  · simp [writeDsp, he]
  · simp [writeNfl, he]
  · simp [writeNet, he]
  · simp [writePai, he]
  · rw [if_neg hpending]
    exact writeHif_seen _ _ _ _ _ (by simp)
  · simp [writeKey, he]
  · simp [writeRec, he]
  · simp [writePrf, he]
  · simp [writeUpd, he]
  · rfl

/-- The writes that R351 refuses. -/
theorem execRegisterWrite_partial {a : Nat} {w : Word} {x : WriteCycle} {s t : State} (hpart : x.be % 16 ≠ 15 ∨ a % 4 ≠ 0)
    (h : exec (.registerWrite a w x) s = .next t) : t = s ∨ t = sticky Reg.HIF_STICKY 4 s := by
  obtain rfl := Host.Outcome.next.inj h
  rw [if_pos hpart]
  split
  · exact .inl rfl
  · exact .inr rfl

theorem registerWrite_seen_of_noEffect {a : Nat} {w : Word} {x : WriteCycle} {d : RegDesc} {s t : State} (hd : doorbellOf a = none)
    (hr : reached s a = some d) (he : hasEffect d.base = false) (hbe : x.be = 15) (ha : a % 4 = 0)
    (h : exec (.registerWrite a w x) s = .next t) :
    Same ⟨[.bank, .io], [one a], sameBlock a :: one Reg.PAI_STICKY :: raised, false, false⟩ s t := by
  have hcor := cor_lt_of_noEffect hr he
  have hblock : rejectOf a = sameBlock a := rejectOf_eq_sameBlock fun hmem => by
    have := hcor hmem
    simp only [List.mem_cons, List.not_mem_nil, or_false] at hmem
    simp only [Reg.COR_CFG] at this
    omega
  obtain rfl := Host.Outcome.next.inj h
  have hfull : ¬(x.be % 16 ≠ 15 ∨ a % 4 ≠ 0) := by simp [hbe, ha]
  refine seen_eq_iff.1 ?_
  split
  · rfl
  simp only [hd, hr]
  split
  · simp
  · refine seen_mono ?_ (writeReg_seen_of_noEffect w x s he hcor)
    simp [hblock, sameBlock]

/-- A host write leaves the queue and the grade. -/
theorem same_registerWrite {a : Nat} {w : Word} {x : WriteCycle} {s t : State} (h : exec (.registerWrite a w x) s = .next t) :
    t.pending = s.pending ∧ t.grade = s.grade := by
  have hs := execRegisterWrite_seen a w x s s (.refl _)
  rw [show execRegisterWrite a w x s = .next t from h, ran_next] at hs
  exact ⟨(seen_eq_iff.1 hs).pending, (seen_eq_iff.1 hs).grade⟩

theorem registerWrite_frame_of_noEffect {a : Nat} {w : Word} {x : WriteCycle} {d : RegDesc} {s t : State} (hbe : x.be = 15) (ha : a % 4 = 0)
    (hd : doorbellOf a = none) (hr : reached s a = some d) (he : hasEffect d.base = false) (h : exec (.registerWrite a w x) s = .next t) :
    onlyTouches [.bank, .io] s t ∧ (∀ b, b ≠ a → rd t b = rd s b ∧ shadow t b = shadow s b) ∧
      (∀ b, b / 2 ^ 20 ≠ a / 2 ^ 20 → among (andRaised [one Reg.PAI_STICKY]) b = false → stk t b = stk s b) := by
  have hs := registerWrite_seen_of_noEffect hd hr he hbe ha h
  exact ⟨hs.parts, fun b hb => hs.regs b (by simp [hb]), fun b hb hraised => hs.stks b (by
    rw [among_cons, sameBlock, decide_eq_false hb]
    simpa using hraised)⟩

theorem registerWrite_frame_of_partial {a : Nat} {w : Word} {x : WriteCycle} {s t : State} (hpart : x.be % 16 ≠ 15 ∨ a % 4 ≠ 0)
    (h : exec (.registerWrite a w x) s = .next t) : onlyTouches [.io] s t ∧ (∀ b, among raised b = false → stk t b = stk s b) := by
  have hs : Same ⟨[.io], [], raised, false, false⟩ s t := by
    obtain rfl | rfl := execRegisterWrite_partial hpart h
    · exact .refl _ _
    · exact seen_eq_iff.1 (by simp)
  exact ⟨hs.parts, hs.stks⟩
end Sys2Proof.Machine
end

section
open Sys2Proof Sys2Proof.Machine Sys2Proof.Safety

/-- Settles O54: clause by clause, from what each command may change. -/
theorem linkFrames : Obligations.LinkFrames :=
  ⟨fun _ => frame_of_within fun _ _ => execSnapFrame_seen _ _ _ (by simp),
   fun _ => frame_of_within fun _ _ => execSnapReassemblyTimeout_seen _ _ _ (by simp),
   frame_of_within fun _ _ => execSnapSolve_seen _ _ (by simp),
   fun _ => frame_of_within fun _ _ => execBaseEpoch_seen _ _ _ (by simp),
   fun _ _ => frame_of_within fun _ _ => execBasePublish_seen _ _ _ _ (by simp),
   frame_of_within fun _ _ => execBaseDiscard_seen _ _ (by simp),
   fun _ _ => frame_of_within fun _ _ => execReadmit_seen _ _ _ _ (by simp),
   fun _ _ => frame_of_within fun _ _ => execExclude_seen _ _ _ _ (by simp),
   fun _ => frame_of_within fun _ _ => execSurveyStart_seen _ _ _ (by simp),
   fun _ => frame_of_within fun _ _ => execSurveyAbort_seen _ _ _ (by simp),
   ⟨keeps_surveyEnd, fun _ _ h ht => execSurveyEnd_none h ht, fun _ _ _ h ht => ⟨(same_surveyEnd h ht).regs, (same_surveyEnd h ht).stks⟩⟩,
   frame_of_within fun _ _ => execLeapApply_seen _ _ (by simp),
   fun _ => frame_of_within fun _ _ => execStreamEpochDue_seen _ _ _ (by simp),
   frame_of_within fun _ _ => execEncode_seen _ _ (by simp),
   fun _ _ _ => frame_of_within fun _ _ => execFrameReceive_seen _ _ _ _ _ (by simp),
   fun _ => frame_of_within fun _ _ => execXoffRefresh_seen _ _ _ (by simp),
   fun _ => frame_of_within fun _ _ => execPauseExpiry_seen _ _ _ (by simp),
   fun _ => frame_of_within fun _ _ => execPauseBypass_seen _ _ _ (by simp),
   fun _ => frame_of_within fun _ _ => execLinkUp_seen _ _ _ (by simp),
   fun _ => frame_of_within fun _ _ => execLinkDown_seen _ _ _ (by simp),
   fun _ => frame_of_within fun _ _ => execTransmitStart_seen _ _ _ (by simp),
   fun _ => frame_of_within fun _ _ => execTransmitEnd_seen _ _ _ (by simp),
   fun _ => frame_of_within fun _ _ => execObsFrame_seen _ _ _ (by simp),
   fun _ => frame_of_within fun _ _ => execObsEpochTimeout_seen _ _ _ (by simp),
   fun _ => frame_of_within fun _ _ => execPosFrame_seen _ _ _ (by simp),
   fun _ => frame_of_within fun _ _ => execStatusFrame_seen _ _ _ (by simp),
   fun _ => frame_of_within fun _ _ => execAckFrame_seen _ _ _ (by simp),
   fun _ => frame_of_within fun _ _ => execWrongGenFrame_seen _ _ _ (by simp),
   fun _ => frame_of_within fun _ _ => execOpstopFrame_seen _ _ _ (by simp)⟩

/-- Settles O55: clause by clause, from what each command may change. -/
theorem jobFrames : Obligations.JobFrames :=
  ⟨frame_of_within fun _ _ => execObsParse_seen _ _ (by simp),
   frame_of_within fun _ _ => execPosParse_seen _ _ (by simp),
   frame_of_within fun _ _ => execStatusParse_seen _ _ (by simp),
   frame_of_within fun _ _ => execAckParse_seen _ _ (by simp),
   fun _ => frame_of_within fun _ _ => execFixJob_seen _ _ _ (by simp),
   frame_of_within fun _ _ => execFixGateOpen_seen _ _ (by simp),
   fun _ => frame_of_within fun _ _ => execFixJobComplete_seen _ _ _ (by simp),
   fun _ => frame_of_within fun _ _ => execFixMismatchEvent_seen _ _ _ (by simp),
   fun _ => frame_of_within fun _ _ => execPstSlotReset_seen _ _ _ (by simp),
   frame_of_within fun _ _ => execPstClearLat_seen _ _ (by simp),
   fun _ => frame_of_within fun _ _ => execPstInject_seen _ _ _ (by simp),
   frame_of_within fun _ _ => execGraphLoad_seen _ _ (by simp),
   fun _ => frame_of_within fun _ _ => execGraphVerified_seen _ _ _ (by simp),
   frame_of_within fun _ _ => execGraphActivate_seen _ _ (by simp),
   frame_of_within fun _ _ => execRebase_seen _ _ (by simp),
   frame_of_within fun _ _ => execRebaseWindowEnd_seen _ _ (by simp),
   frame_of_within fun _ _ => execChtClearLat_seen _ _ (by simp),
   fun _ => frame_of_within fun _ _ => execOriginWrite_seen _ _ _ (by simp),
   frame_of_within fun _ _ => execTickNearWrap_seen _ _ (by simp),
   frame_of_within fun _ _ => execTickWrap_seen _ _ (by simp),
   frame_of_within fun _ _ => execIntervalReclaim_seen _ _ (by simp),
   frame_of_within fun _ _ => execGrantPeriodBoundary_seen _ _ (by simp),
   frame_of_within fun _ _ => execLedger_seen _ _ (by simp),
   frame_of_within fun _ _ => execLedgerDecision_seen _ _ (by simp),
   frame_of_within fun _ _ => execRouteSet_seen _ _ (by simp),
   frame_of_within fun _ _ => execHalo_seen _ _ (by simp),
   frame_of_within fun _ _ => execLapse_seen _ _ (by simp),
   fun shard => frame_of_within fun _ _ => execSramEccCorrected_seen shard _ _ (by simp),
   fun _ _ => frame_of_within fun _ _ => execLedgerUe_seen _ _ _ _ (by simp),
   fun _ _ _ _ _ => frame_of_within fun _ _ => execCommandFetch_seen _ _ _ _ _ _ _ (by simp),
   frame_of_within fun _ _ => execIntakeResume_seen _ _ (by simp),
   frame_of_within fun _ _ => execTaskEnqueue_seen _ _ (by simp),
   frame_of_within fun _ _ => execTaskCancel_seen _ _ (by simp),
   frame_of_within fun _ _ => execTaskRequeue_seen _ _ (by simp),
   frame_of_within fun _ _ => execAllot_seen _ _ (by simp),
   frame_of_within fun _ _ => execDspClearMax_seen _ _ (by simp),
   frame_of_within fun _ _ => execPcieReset_seen _ _ (by simp),
   frame_of_within fun _ _ => execDmaHold_seen _ _ (by simp),
   frame_of_within fun _ _ => execDmaResume_seen _ _ (by simp),
   fun _ _ => frame_of_within fun _ _ => execDoorbell_seen _ _ _ _ (by simp),
   fun _ _ => frame_of_within fun _ _ => execRingEnable_seen _ _ _ _ (by simp),
   fun _ => frame_of_within fun _ _ => execRingDisable_seen _ _ _ (by simp),
   frame_of_within fun _ _ => execNop_seen _ _ (by simp),
   frame_of_within fun _ _ => execMachineSet_seen _ _ (by simp),
   frame_of_within fun _ _ => execMachineGet_seen _ _ (by simp),
   frame_of_within fun _ _ => execAcqSearch_seen _ _ (by simp),
   fun _ _ _ _ _ _ _ => frame_of_within fun _ _ => execNetTx_seen _ _ _ _ _ _ _ _ _ (by simp),
   fun _ _ => frame_of_within fun _ _ => execEventEnable_seen _ _ _ _ (by simp),
   fun _ => frame_of_within fun _ _ => execVectorModerationEnd_seen _ _ _ (by simp),
   fun _ => frame_of_within fun _ _ => execMsixUnmask_seen _ _ _ (by simp)⟩

/-- Settles O56: clause by clause, from what each command may change. -/
theorem nightfallFrames : Obligations.NightfallFrames :=
  ⟨fun _ => frame_of_within fun _ _ => execStopInDebounce_seen _ _ _ (by simp),
   frame_of_within fun _ _ => execDiscrepancy_seen _ _ (by simp),
   fun _ => frame_of_within fun _ _ => execFbFault_seen _ _ _ (by simp),
   fun _ => frame_of_within fun _ _ => execNflTrigger_seen _ _ _ (by simp),
   frame_of_within fun _ _ => execLatchMismatch_seen _ _ (by simp),
   frame_of_within fun _ _ => execClockCrossCheck_seen _ _ (by simp),
   frame_of_within fun _ _ => execSafeSupplyMonitor_seen _ _ (by simp),
   fun _ => frame_of_within fun _ _ => execNflWdgKick_seen _ _ _ (by simp),
   frame_of_within fun _ _ => execWatchdogExpiry_seen _ _ (by simp),
   frame_of_within fun _ _ => execKeyGraceExpiry_seen _ _ (by simp),
   frame_of_within fun _ _ => execNightfallFrameDue_seen _ _ (by simp),
   fun _ => frame_of_within fun _ _ => execNflArm_seen _ _ _ (by simp),
   fun _ => frame_of_within fun _ _ => execNflConfirm_seen _ _ _ (by simp),
   frame_of_within fun _ _ => execReleaseAcknowledged_seen _ _ (by simp),
   frame_of_within fun _ _ => execConfirmAckTimeout_seen _ _ (by simp),
   frame_of_within fun _ _ => execArmWindowEnd_seen _ _ (by simp),
   fun _ => frame_of_within fun _ _ => execNflMrel_seen _ _ _ (by simp),
   frame_of_within fun _ _ => execReleaseResend_seen _ _ (by simp),
   fun _ => frame_of_within fun _ _ => execStopInHealthy_seen _ _ _ (by simp),
   frame_of_within fun _ _ => execSafeSupplyRestored_seen _ _ (by simp)⟩

/-- Settles O57: clause by clause, from what each command may change. -/
theorem timeFrames : Obligations.TimeFrames :=
  ⟨fun _ => frame_of_within fun _ _ => execTimIncrInt_seen _ _ _ (by simp),
   frame_of_within fun _ _ => execIncrApply_seen _ _ (by simp),
   fun _ => frame_of_within fun _ _ => execTimAdjCtrl_seen _ _ _ (by simp),
   frame_of_within fun _ _ => execAdjustmentEnd_seen _ _ (by simp),
   fun _ => frame_of_within fun _ _ => execTimSetNs_seen _ _ _ (by simp),
   fun _ => frame_of_within fun _ _ => execTimLockReport_seen _ _ _ (by simp),
   fun _ => frame_of_within fun _ _ => execTimLossNs_seen _ _ _ (by simp),
   fun _ => frame_of_within fun _ _ => execTimReturn_seen _ _ _ (by simp),
   frame_of_within fun _ _ => execHoldoverEntry_seen _ _ (by simp),
   frame_of_within fun _ _ => execSigTimeout_seen _ _ (by simp),
   frame_of_within fun _ _ => execStepInstant_seen _ _ (by simp),
   frame_of_within fun _ _ => execStepHoldEnd_seen _ _ (by simp),
   frame_of_within fun _ _ => execBoundExceeded_seen _ _ (by simp),
   fun _ => frame_of_within fun _ _ => execTimeSyncSymbol_seen _ _ _ (by simp),
   fun _ => frame_of_within fun _ _ => execPpsEdge_seen _ _ _ (by simp),
   fun _ _ => frame_of_within fun _ _ => execTpEn_seen _ _ _ _ (by simp),
   fun _ => frame_of_within fun _ _ => execTpPulse_seen _ _ _ (by simp),
   fun _ => frame_of_within fun _ _ => execPulseWidthEnd_seen _ _ _ (by simp),
   fun _ _ _ _ _ => frame_of_within fun _ _ => execPeerDelayExchange_seen _ _ _ _ _ _ _ (by simp),
   fun _ => frame_of_within fun _ _ => execPathAsymClear_seen _ _ _ (by simp),
   frame_of_within fun _ _ => execTimNowCapture_seen _ _ (by simp),
   frame_of_within fun _ _ => execRtcLoad_seen _ _ (by simp)⟩

/-- Settles O58: clause by clause, from what each command may change. -/
theorem pairFrames : Obligations.PairFrames :=
  ⟨frame_of_within fun _ _ => execHeartbeatSend_seen _ _ (by simp),
   fun _ _ => frame_of_within fun _ _ => execHeartbeatReceive_seen _ _ _ _ (by simp),
   frame_of_within fun _ _ => execPulseBurstSend_seen _ _ (by simp),
   fun _ => frame_of_within fun _ _ => execPulseBurstReceive_seen _ _ _ (by simp),
   frame_of_within fun _ _ => execPathAFail_seen _ _ (by simp),
   frame_of_within fun _ _ => execPathBFail_seen _ _ (by simp),
   fun _ => frame_of_within fun _ _ => execClaimSample_seen _ _ _ (by simp),
   frame_of_within fun _ _ => execClaimNRelease_seen _ _ (by simp),
   frame_of_within fun _ _ => execSplitClaimLow_seen _ _ (by simp),
   frame_of_within fun _ _ => execSplitClaimStuck_seen _ _ (by simp),
   fun _ _ => frame_of_within fun _ _ => execMirrorRecord_seen _ _ _ _ (by simp),
   fun _ => frame_of_within fun _ _ => execMirrorAck_seen _ _ _ (by simp),
   frame_of_within fun _ _ => execMirrorAckTimeout_seen _ _ (by simp),
   frame_of_within fun _ _ => execMirrorSyncComplete_seen _ _ (by simp),
   frame_of_within fun _ _ => execHandoverAckTimeout_seen _ _ (by simp),
   frame_of_within fun _ _ => execYield_seen _ _ (by simp),
   frame_of_within fun _ _ => execResync_seen _ _ (by simp),
   frame_of_within fun _ _ => execPeerWaitExpiry_seen _ _ (by simp)⟩

/-- Settles O53: clause by clause, from what each command may change. -/
theorem signalFrames : Obligations.SignalFrames :=
  ⟨fun _ _ _ _ _ h => same_registerWrite h,
   fun _ _ _ _ _ _ hbe ha hd hr he h => registerWrite_frame_of_noEffect hbe ha hd hr he h,
   fun _ _ _ _ _ hpart h => registerWrite_frame_of_partial hpart h,
   fun _ => frame_of_within fun _ _ => execLowWordCapture_seen _ _ _ (by simp),
   frame_of_within fun _ _ => execBridgeLaneFail_seen _ _ (by simp),
   frame_of_within fun _ _ => execBbSyncLost_seen _ _ (by simp),
   frame_of_within fun _ _ => execBridgeSilent_seen _ _ (by simp),
   fun _ _ _ => frame_of_within fun _ _ => execThermalSample_seen _ _ _ _ _ (by simp),
   fun _ => frame_of_within fun _ _ => execThermalTripClear_seen _ _ _ (by simp),
   fun _ => frame_of_within fun _ _ => execAntEn_seen _ _ _ (by simp),
   fun _ => frame_of_within fun _ _ => execCodeGroupSync_seen _ _ _ (by simp),
   fun _ => frame_of_within fun _ _ => execSysrefPulse_seen _ _ _ (by simp),
   fun _ _ => frame_of_within fun _ _ => execIlasReceived_seen _ _ _ _ (by simp),
   fun _ => frame_of_within fun _ _ => execCodeErr_seen _ _ _ (by simp),
   fun _ _ => frame_of_within fun _ _ => execLinkLoss_seen _ _ _ _ (by simp),
   fun _ _ => frame_of_within fun _ _ => execIngClipLoad_seen _ _ _ _ (by simp),
   fun _ _ => frame_of_within fun _ _ => execIngLatencyWrite_seen _ _ _ _ (by simp),
   fun _ => frame_of_within fun _ _ => execLatencyStep_seen _ _ _ (by simp),
   fun _ => frame_of_within fun _ _ => execStart_seen _ _ _ (by simp),
   fun _ => frame_of_within fun _ _ => execStopAt_seen _ _ _ (by simp),
   fun _ => frame_of_within fun _ _ => execAbort_seen _ _ _ (by simp),
   fun _ => frame_of_within fun _ _ => execContextRun_seen _ _ _ (by simp),
   fun _ _ => frame_of_within fun _ _ => execIntegrationBoundary_seen _ _ _ _ (by simp),
   fun _ _ => frame_of_within fun _ _ => execReplayCaptureEnd_seen _ _ _ _ (by simp),
   fun _ => frame_of_within fun _ _ => execDumpDelivery_seen _ _ _ (by simp),
   fun _ _ _ => frame_of_within fun _ _ => execRateMessage_seen _ _ _ _ _ (by simp),
   fun _ _ => frame_of_within fun _ _ => execCodeRateHi_seen _ _ _ _ (by simp),
   fun _ _ => frame_of_within fun _ _ => execCarrRateHi_seen _ _ _ _ (by simp),
   fun _ _ => frame_of_within fun _ _ => execCorrMismatchEvent_seen _ _ _ _ (by simp),
   fun _ => frame_of_within fun _ _ => execCorCodeData_seen _ _ _ (by simp),
   fun _ => frame_of_within fun _ _ => execCorInject_seen _ _ _ (by simp),
   frame_of_within fun _ _ => execCapture_seen _ _ (by simp),
   fun _ => frame_of_within fun _ _ => execCaptureRelease_seen _ _ _ (by simp),
   fun _ => frame_of_within fun _ _ => execCaptureWindowStart_seen _ _ _ (by simp),
   fun _ => frame_of_within fun _ _ => execCaptureWindowEnd_seen _ _ _ (by simp),
   frame_of_within fun _ _ => execSnapshotScheduledCapture_seen _ _ (by simp),
   fun _ => frame_of_within fun _ _ => execAcqJob_seen _ _ _ (by simp),
   fun _ => frame_of_within fun _ _ => execSearchStart_seen _ _ _ (by simp),
   fun _ => resetFrame_of_within (fun _ _ => execSearchComplete_seen _ _ _ (by simp [acqRegs])) keptOrReset_searchComplete⟩

/-- Settles O60: clause by clause, from what each command may change. -/
theorem storeFrames : Obligations.StoreFrames :=
  ⟨fun _ => frame_of_within fun _ _ => execConfirm_seen _ _ _ (by simp),
   fun _ => frame_of_within fun _ _ => execRaiseFloor_seen _ _ _ (by simp),
   fun _ => frame_of_within fun _ _ => execPushPeer_seen _ _ _ (by simp),
   fun _ => frame_of_within fun _ _ => execCfgSave_seen _ _ _ (by simp),
   frame_of_within fun _ _ => execStageOpen_seen _ _ (by simp),
   fun _ => frame_of_within fun _ _ => execPeerOpenRecord_seen _ _ _ (by simp),
   fun _ => frame_of_within fun _ _ => execStageBlock_seen _ _ _ (by simp),
   fun _ => frame_of_within fun _ _ => execStageCommit_seen _ _ _ (by simp),
   frame_of_within fun _ _ => execStageAbort_seen _ _ (by simp),
   frame_of_within fun _ _ => execSessionTimeout_seen _ _ (by simp),
   fun _ _ => frame_of_within fun _ _ => execOtpProgram_seen _ _ _ _ (by simp),
   fun _ => frame_of_within fun _ _ => execProvision_seen _ _ _ (by simp),
   fun _ => frame_of_within fun _ _ => execRetire_seen _ _ _ (by simp),
   frame_of_within fun _ _ => execKeyWrite_seen _ _ (by simp),
   frame_of_within fun _ _ => execKeyDerive_seen _ _ (by simp),
   frame_of_within fun _ _ => execKeyZeroise_seen _ _ (by simp),
   frame_of_within fun _ _ => execSetLc_seen _ _ (by simp),
   frame_of_within fun _ _ => execReplaceOwner_seen _ _ (by simp),
   frame_of_within fun _ _ => execAttest_seen _ _ (by simp),
   fun _ _ => resetFrame_of_within (fun _ _ => execTamperEvent_seen _ _ _ _ (by simp [startRegs])) keptOrReset_tamperEvent,
   fun _ => frame_of_within fun _ _ => execKeyRamUe_seen _ _ _ (by simp),
   fun _ => frame_of_within fun _ _ => execKeyRestore_seen _ _ _ (by simp),
   frame_of_within fun _ _ => execVbatLow_seen _ _ (by simp),
   fun _ => frame_of_within fun _ _ => execDebugAccess_seen _ _ _ (by simp),
   frame_of_within fun _ _ => execRtcCapture_seen _ _ (by simp),
   frame_of_within fun _ _ => execRecordCommit_seen _ _ (by simp),
   frame_of_within fun _ _ => execFoldWriteBack_seen _ _ (by simp),
   fun _ _ => frame_of_within fun _ _ => execSegmentRetired_seen _ _ _ _ (by simp),
   fun _ => frame_of_within fun _ _ => execLifeboat_seen _ _ _ (by simp),
   fun _ => frame_of_within fun _ _ => execRecReadSeq_seen _ _ _ (by simp),
   frame_of_within fun _ _ => execRecNonce_seen _ _ (by simp),
   frame_of_within fun _ _ => execRecClear_seen _ _ (by simp),
   fun _ => frame_of_within fun _ _ => execCounterOverflow_seen _ _ _ (by simp),
   fun _ _ => frame_of_within fun _ _ => execPrfHiWrite_seen _ _ _ _ (by simp),
   fun _ => frame_of_within fun _ _ => execFreeze_seen _ _ _ (by simp),
   fun _ => frame_of_within fun _ _ => execPrfPairCapture_seen _ _ _ (by simp),
   fun _ _ _ => frame_of_within fun _ _ => execPeerStageRecord_seen _ _ _ _ _ (by simp)⟩

/-- Refutes O59: a reset of the device empties the shadow registers, so that KEY_TAMP_CFG, which stands outside what the reset clears, loses
the value written for its next swap. -/
theorem not_deviceFrames : ¬ Obligations.DeviceFrames := by
  intro h
  obtain ⟨-, -, -, -, -, -, -, -, hreset, -⟩ := h
  have hkept := (((hreset 1000).2 { State.reset with bank := { Bank.reset with shadow := [(Reg.KEY_TAMP_CFG, 1)] } } _ rfl).1
    Reg.KEY_TAMP_CFG (by decide)).2 (by decide)
  exact absurd hkept.2 (by decide)

end

section
/-! SUPPORT. One-time programmable memory only gains bits (R417, R428, R433): the operations that write it, one by one; the others leave it. -/
namespace Sys2Proof.Machine
open Sys2Proof.Safety

/-- Every part of the state. -/
def allParts : List Part := [.grade, .bank, .io, .recorder, .crp, .upd, .ing, .cor, .acq, .tim, .ref, .net, .mach, .pst, .cht, .dsp, .tsk, .nfl, .pai,
  .key, .free]

@[simp] theorem mem_allParts (p : Part) : p ∈ allParts := by cases p <;> decide

/-- Everything may change but the one-time programmable memory. -/
def butOtp : Scope := ⟨allParts, [allBut []], [allBut []], false, true⟩

@[simp] theorem among_everything (a : Nat) : among [allBut []] a = true := by simp

@[simp] theorem covers_everything (L : List Fam) : Covers [allBut []] L := fun a _ => among_everything a

@[simp] theorem le_butOtp (p : List Part) (r k : List Fam) (o g : Bool) : Scope.Le ⟨p, r, k, o, g⟩ butOtp ↔ o = false :=
  ⟨fun h => by simpa [butOtp] using h.otp, fun h => ⟨fun x _ => mem_allParts x, fun a _ => among_everything a, fun a _ => among_everything a,
    fun ho => by simp [h] at ho, fun _ => rfl⟩⟩

@[simp] theorem mem_butOtp (p : Part) : p ∈ butOtp.parts := mem_allParts p
@[simp] theorem among_butOtp_regs (a : Nat) : among butOtp.regs a = true := among_everything a
@[simp] theorem among_butOtp_stks (a : Nat) : among butOtp.stks a = true := among_everything a
@[simp] theorem raises_butOtp : butOtp.Raises := ⟨mem_butOtp _, covers_everything _⟩
@[simp] theorem butOtp_otp : butOtp.otp = false := rfl

/-- The registers that the end of a survey writes depend on the survey. -/
@[simp] theorem execSurveyEnd_seen_all {F : Scope} (s u : State)
    (hF : Scope.Le ⟨[.bank, .io, .ref, .free], [allBut []], one Reg.REF_STICKY :: raised, false, false⟩ F) :
    seen F (ran (execSurveyEnd s) u) = seen F s := by
  refine seen_mono hF ?_
  cases h : s.ref.survey with
  | none => simp only [execSurveyEnd, h, ran_next]
  | some v => exact execSurveyEnd_seen s u h (by simp)

/-- The commands that write one-time programmable memory. -/
def writesOtp : Instr → Bool
  | .registerWrite .. | .powerOn .. | .resetN _ | .brownOut _ | .deviceReset _ | .snapshotWake | .tamperEvent .. => true
  | .otpProgram .. | .raiseFloor _ | .provision _ | .retire _ | .keyWrite | .keyDerive | .keyZeroise | .setLc | .replaceOwner => true
  | _ => false

theorem exec_seen_butOtp {c : Instr} (h : writesOtp c = false) (s u : State) : seen butOtp (ran (exec c s) u) = seen butOtp s := by
  cases c
  case registerWrite | powerOn | resetN | brownOut | deviceReset | snapshotWake | tamperEvent | otpProgram | raiseFloor | provision | retire |
    keyWrite | keyDerive | keyZeroise | setLc | replaceOwner => cases h
  all_goals simp [exec]


theorem bitsKept_refl {n : Nat} (a : BitVec n) : bitsKept a a := BitVec.and_self
theorem bitsKept_trans {n : Nat} {a b c : BitVec n} (h : bitsKept a b) (g : bitsKept b c) : bitsKept a c := by
  unfold bitsKept at *
  rw [← h, BitVec.and_assoc, g]
theorem bitsKept_or {n : Nat} (a b : BitVec n) : bitsKept a (a ||| b) := by
  ext i hi
  simp +contextual
theorem bitsKept_lcSet (i : Nat) (f : BitVec 128) : bitsKept f (lcSet i f) := bitsKept_or _ _
theorem bitsKept_tamperBits (f : BitVec 128) : bitsKept f (tamperBits f) := by
  unfold tamperBits
  split <;> exact bitsKept_lcSet _ _

theorem bitsKept_of_setLcBits {s : State} {target : Nat} {f : BitVec 128} (h : setLcBits s target = some f) : bitsKept s.upd.lcField f := by
  have hor (x y : BitVec 128) : x &&& (x ||| y) = x := bitsKept_or x y
  unfold setLcBits at h
  dsimp only at h
  split at h
  all_goals simp only [Option.ite_none_right_eq_some, Option.map_eq_some_iff, Option.some.injEq, reduceCtorEq] at h
  case h_4 =>
    obtain ⟨-, i, -, rfl⟩ := h
    exact bitsKept_trans (bitsKept_lcSet i _) (bitsKept_lcSet 1 _)
  case h_2 | h_3 =>
    obtain ⟨i, -, rfl⟩ := h
    exact bitsKept_lcSet i _
  all_goals exact h.2 ▸ bitsKept_lcSet _ _

/-- One-time programmable memory grows, and holds five generations at most. -/
structure OtpStep (s t : State) : Prop where
  grows : otpGrows s t
  fits : s.upd.gens.length ≤ 5 → t.upd.gens.length ≤ 5

theorem otpStep_refl (s : State) : OtpStep s s := ⟨⟨bitsKept_refl _, bitsKept_refl _, List.prefix_rfl⟩, id⟩
theorem otpStep_trans {s t u : State} (h : OtpStep s t) (g : OtpStep t u) : OtpStep s u :=
  ⟨⟨bitsKept_trans h.grows.1 g.grows.1, bitsKept_trans h.grows.2.1 g.grows.2.1, h.grows.2.2.trans g.grows.2.2⟩, g.fits ∘ h.fits⟩

theorem otpStep_of_seen {s t : State} (h : seen butOtp t = seen butOtp s) : OtpStep s t := by
  have ho := (seen_eq_iff.1 h).otp rfl
  simp only [otpOf, Prod.mk.injEq] at ho
  obtain ⟨hlc, hfloor, hgens⟩ := ho
  exact ⟨⟨hlc ▸ bitsKept_refl _, hfloor ▸ bitsKept_refl _, hgens ▸ List.prefix_rfl⟩, fun hs => hgens ▸ hs⟩

theorem otpStep_lcChange {f : BitVec 128} {s : State} (h : bitsKept s.upd.lcField f) : OtpStep s (lcChange f s) := by
  have hset : OtpStep s { s with upd := { s.upd with lcField := f } } := ⟨⟨h, bitsKept_refl _, List.prefix_rfl⟩, id⟩
  exact otpStep_trans hset (otpStep_of_seen (by unfold lcChange; simp))

theorem otpStep_ite {c : Prop} [Decidable c] {s t u : State} (h : c → OtpStep s t) (g : ¬c → OtpStep s u) : OtpStep s (if c then t else u) := by
  split
  · exact h ‹_›
  · exact g ‹_›

theorem otpStep_lcTamper (s : State) : OtpStep s (lcTamper s) :=
  otpStep_ite (fun _ => otpStep_lcChange (bitsKept_tamperBits _)) fun _ => otpStep_refl s

theorem otpStep_setLcRun (target : Nat) (s : State) : OtpStep s (setLcRun target s) := by
  unfold setLcRun
  split
  next f hf =>
    refine otpStep_trans (otpStep_of_seen ?_) (otpStep_lcChange (f := f) ?_)
    · simp
    · split <;> exact bitsKept_of_setLcBits hf
  next => exact otpStep_refl s

theorem otpStep_kuCommit (b : List Byte) (s : State) : OtpStep s (kuCommit b s) := by
  unfold kuCommit
  extract_lets k _ t x i
  have ht : OtpStep s t := otpStep_of_seen (by simp [t])
  split
  case h_4 => exact otpStep_trans ht (otpStep_setLcRun _ _)
  all_goals exact otpStep_trans ht (otpStep_of_seen (by simp))

theorem otpStep_keyUpdate (b : List Byte) (s : State) : OtpStep s (keyUpdate b s).1 :=
  otpStep_ite (fun _ => otpStep_kuCommit b s) fun _ => otpStep_of_seen (by simp)

theorem otpStep_withCmd {f : List Byte → State → State × Nat × List Byte} (ex op : Nat) (s : State) (hf : ∀ b s, OtpStep s (f b s).1) :
    OtpStep s (withCmd ex op f s) := by
  unfold withCmd withJob
  split
  next j _ =>
    have hcount : OtpStep s (countInherited j s) := otpStep_of_seen (by simp)
    split
    · exact otpStep_trans (otpStep_trans hcount (hf (cmdBody j) _)) (otpStep_of_seen (by simp))
    · exact otpStep_refl s
  next => exact otpStep_refl s

theorem otpStep_runKeyUpdate (ok : Nat → Bool) (s u : State) : OtpStep s (ran (runKeyUpdate ok s) u) :=
  otpStep_ite (fun _ => otpStep_withCmd _ _ s otpStep_keyUpdate) fun _ => otpStep_refl s

theorem otpStep_startKeys (s : State) : OtpStep s (startKeys s) := by
  unfold startKeys
  extract_lets owed t _ u _ v
  have hu : OtpStep s u := otpStep_of_seen (by simp [u, t])
  have hv : OtpStep s v := by
    unfold v
    split
    · exact otpStep_trans (otpStep_trans hu (otpStep_of_seen (setKey_seen _ _ (by simp)))) (otpStep_lcTamper _)
    · exact hu
  clear_value v
  split
  · exact hv
  · exact otpStep_trans hv (otpStep_of_seen (by simp))

theorem otpStep_deviceReset (cause wake : Nat) (s : State) : OtpStep s (deviceReset cause wake s) :=
  otpStep_trans (otpStep_of_seen (by simp)) (otpStep_startKeys _)

theorem otpStep_wakeStart (s : State) : OtpStep s (wakeStart s) :=
  otpStep_trans (otpStep_of_seen (by simp)) (otpStep_startKeys _)

theorem otpStep_tamperRespond (s : State) : OtpStep s (tamperRespond s) := by
  have hLife {t : State} (h : OtpStep s t) : OtpStep s (tamperNote (lcTamper t)) :=
    otpStep_trans h (otpStep_trans (otpStep_lcTamper t) (otpStep_of_seen (by simp)))
  unfold tamperRespond
  split
  case h_1 => exact otpStep_of_seen (by simp)
  case h_2 => exact otpStep_trans (otpStep_of_seen (by simp)) (otpStep_wakeStart _)
  all_goals exact hLife (otpStep_of_seen (by simp))

theorem otpStep_powerOn (primary : Bool) (bootSel : Nat) (x : Supply) (s u : State) :
    OtpStep s (ran (execPowerOn primary bootSel x s) u) := by
  refine otpStep_trans (t := if s.crp.mode = .dormant ∧ x.vbatHeld = true then deviceReset 4 1 s else deviceReset 0 0 (loseVbat (bootPart s)))
    ?_ (otpStep_of_seen (setCrp_seen _ _ (by simp)))
  split
  · exact otpStep_deviceReset _ _ _
  · exact otpStep_trans (otpStep_of_seen (by simp)) (otpStep_deviceReset _ _ _)

theorem otpStep_resetN (lowNs : Nat) (s u : State) : OtpStep s (ran (execResetN lowNs s) u) := by
  have hfree : OtpStep s (freeNext s) := otpStep_of_seen (by simp)
  rw [execResetN, ran_next]
  split
  · exact otpStep_refl s
  split
  · exact otpStep_deviceReset _ _ _
  split
  · exact otpStep_trans hfree (otpStep_deviceReset _ _ _)
  · exact hfree

theorem otpStep_brownOut (lowNs : Nat) (s u : State) : OtpStep s (ran (execBrownOut lowNs s) u) := by
  rw [execBrownOut, ran_next]
  split
  · exact otpStep_refl s
  · exact otpStep_trans (otpStep_deviceReset 3 0 s) (otpStep_of_seen (setCrp_seen _ _ (by simp)))

theorem otpStep_execDeviceReset (w : Word) (s u : State) : OtpStep s (ran (execDeviceReset w s) u) := by
  rw [execDeviceReset, ran_next]
  split
  · exact otpStep_refl s
  split
  · exact otpStep_deviceReset _ _ _
  · exact otpStep_of_seen (by simp)

theorem otpStep_snapshotWake (s u : State) : OtpStep s (ran (execSnapshotWake s) u) :=
  otpStep_ite (fun _ => otpStep_wakeStart s) fun _ => otpStep_refl s

theorem otpStep_tamperEvent (src : Nat) (under : Bool) (s u : State) : OtpStep s (ran (execTamperEvent src under s) u) := by
  rw [execTamperEvent, ran_next]
  split
  · exact otpStep_refl s
  · exact otpStep_trans (otpStep_of_seen (by simp)) (otpStep_tamperRespond _)

/-- A generation is added after those of before. -/
theorem otpStep_otpProgram (w : Word) (verified : Bool) (s u : State) : OtpStep s (ran (execOtpProgram w verified s) u) := by
  rw [execOtpProgram, ran_next]
  split
  · exact otpStep_refl s
  split
  · exact otpStep_of_seen (by simp)
  split
  · exact otpStep_of_seen (by simp)
  next hroom =>
    have hgens (g : BitVec 1024) : OtpStep s (setUpd { s.upd with gens := s.upd.gens ++ [g] } s) :=
      ⟨⟨bitsKept_refl _, bitsKept_refl _, List.prefix_append _ _⟩, fun _ => by
        show (s.upd.gens ++ [g]).length ≤ 5
        rw [List.length_append, List.length_singleton]
        omega⟩
    split
    · exact hgens _
    · exact otpStep_trans (hgens 0) (otpStep_of_seen (seen_sticky (by simp) (by simp) _ _))

theorem otpStep_raiseFloor (w : Word) (s u : State) : OtpStep s (ran (execRaiseFloor w s) u) := by
  rw [execRaiseFloor, ran_next]
  split
  · exact otpStep_refl s
  split
  · exact otpStep_of_seen (by simp)
  split
  · exact ⟨⟨bitsKept_refl _, bitsKept_or _ _, List.prefix_rfl⟩, id⟩
  · exact otpStep_refl s

theorem otpStep_provision (w : Word) (s u : State) : OtpStep s (ran (execProvision w s) u) := by
  rw [execProvision, ran_next]
  split
  · exact otpStep_refl s
  split
  · exact otpStep_of_seen (by simp)
  · extract_lets _ t _ v
    have ht : OtpStep s t := ⟨⟨bitsKept_refl _, bitsKept_refl _, List.prefix_rfl⟩, id⟩
    have hv : seen butOtp v = seen butOtp t := setKey_seen _ _ (by simp)
    clear_value v
    exact otpStep_trans (otpStep_trans ht (otpStep_of_seen hv)) (otpStep_lcChange (bitsKept_lcSet 0 _))

theorem otpStep_retire (w : Word) (s u : State) : OtpStep s (ran (execRetire w s) u) := by
  rw [execRetire, ran_next]
  split
  · exact otpStep_refl s
  split
  · exact otpStep_lcChange (bitsKept_lcSet 127 _)
  · exact otpStep_of_seen (by simp)

/-! ### Host writes -/

theorem otpStep_writeRst (w : Word) (s : State) : OtpStep s (writeRst w s) := by
  unfold writeRst
  split
  · exact otpStep_execDeviceReset w s s
  · exact otpStep_of_seen (by simp)

theorem otpStep_writeCrp (d : RegDesc) (n a : Nat) (w : Word) (s : State) : OtpStep s (writeCrp d n a w s) := by
  unfold writeCrp
  split
  · exact otpStep_of_seen (by simp)
  split
  · exact otpStep_writeRst w s
  · exact otpStep_of_seen (by simp)

theorem otpStep_writeKey (d : RegDesc) (a : Nat) (w : Word) (s : State) : OtpStep s (writeKey d a w s) := by
  unfold writeKey
  split
  · exact otpStep_of_seen (by simp)
  split
  · exact otpStep_of_seen (by simp)
  split
  · exact otpStep_trans (otpStep_provision w s s) (otpStep_retire w _ _)
  · exact otpStep_of_seen (by simp)

theorem otpStep_writeUpd (d : RegDesc) (a : Nat) (w : Word) (s : State) : OtpStep s (writeUpd d a w s) := by
  unfold writeUpd writeOtpCmd writeUpdCmd
  split
  · exact otpStep_trans (otpStep_otpProgram w _ s s) (otpStep_of_seen (seen_freeNext (by simp) _))
  split
  · have hconfirm : OtpStep s (ran (execConfirm w s) s) := otpStep_of_seen (by simp)
    exact otpStep_trans (otpStep_trans hconfirm (otpStep_raiseFloor w _ (ran (execConfirm w s) s))) (otpStep_of_seen (by simp))
  · exact otpStep_of_seen (by simp)

theorem otpStep_writeReg (d : RegDesc) (a : Nat) (w : Word) (x : WriteCycle) (s : State) : OtpStep s (writeReg d a w x s) := by
  unfold writeReg
  extract_lets n again v
  split
  case h_2 => exact otpStep_writeCrp d n a v s
  case h_18 => exact otpStep_writeKey d a v s
  case h_21 => exact otpStep_writeUpd d a v s
  all_goals exact otpStep_of_seen (by simp)

theorem otpStep_registerWrite (a : Nat) (w : Word) (x : WriteCycle) (s u : State) : OtpStep s (ran (execRegisterWrite a w x s) u) := by
  rw [execRegisterWrite, ran_next]
  split
  · exact otpStep_refl s
  split
  · exact otpStep_of_seen (by simp)
  split
  · exact otpStep_of_seen (by simp)
  split
  · exact otpStep_refl s
  split
  · exact otpStep_of_seen (by simp)
  · exact otpStep_writeReg _ _ _ _ _

theorem otpStep_exec (c : Instr) (s u : State) : OtpStep s (ran (exec c s) u) := by
  cases h : writesOtp c with
  | false => exact otpStep_of_seen (exec_seen_butOtp h s u)
  | true =>
    cases c
    case registerWrite a w x => exact otpStep_registerWrite a w x s u
    case powerOn primary bootSel x => exact otpStep_powerOn primary bootSel x s u
    case resetN lowNs => exact otpStep_resetN lowNs s u
    case brownOut lowNs => exact otpStep_brownOut lowNs s u
    case deviceReset w => exact otpStep_execDeviceReset w s u
    case snapshotWake => exact otpStep_snapshotWake s u
    case tamperEvent src under => exact otpStep_tamperEvent src under s u
    case otpProgram w verified => exact otpStep_otpProgram w verified s u
    case raiseFloor w => exact otpStep_raiseFloor w s u
    case provision w => exact otpStep_provision w s u
    case retire w => exact otpStep_retire w s u
    case keyWrite | keyDerive | keyZeroise | setLc | replaceOwner => exact otpStep_runKeyUpdate _ s u
    all_goals cases h

end Sys2Proof.Machine
end
section
open Sys2Proof Sys2Proof.Machine Sys2Proof.Safety
/-- Settles O4: the operations that write OTP set bits or add a generation, the others leave it. -/
theorem otpOnlyGrows : Obligations.OtpOnlyGrows := fun c s t h => by
  simpa only [h, ran_next] using (otpStep_exec c s s).grows
end

section
/-! SUPPORT. The signal data of the invariant: at most four pending dumps a unit (R18), accumulators that saturate (R64), canonical code
memories. The operations that write them, one by one; the others leave them. -/
namespace Sys2Proof.Machine
open Sys2Proof.Safety

/-- Everything may change but pending dumps, accumulators and code memories. -/
def butSignal : Scope := ⟨allParts, [allBut []], [allBut []], true, false⟩

@[simp] theorem le_butSignal (p : List Part) (r k : List Fam) (o g : Bool) : Scope.Le ⟨p, r, k, o, g⟩ butSignal ↔ g = false :=
  ⟨fun h => by simpa [butSignal] using h.signal, fun h => ⟨fun x _ => mem_allParts x, fun a _ => among_everything a,
    fun a _ => among_everything a, fun _ => rfl, fun hg => by simp [h] at hg⟩⟩
@[simp] theorem mem_butSignal (p : Part) : p ∈ butSignal.parts := mem_allParts p
@[simp] theorem among_butSignal_regs (a : Nat) : among butSignal.regs a = true := among_everything a
@[simp] theorem among_butSignal_stks (a : Nat) : among butSignal.stks a = true := among_everything a
@[simp] theorem raises_butSignal : butSignal.Raises := ⟨mem_butSignal _, covers_everything _⟩

/-- The accumulators of a context are saturated. -/
def AccOk (l : List Int) : Prop := ∀ v ∈ l, -8388607 ≤ v ∧ v ≤ 8388607

/-- What the invariant says of the signal data. -/
structure SignalOk (s : State) : Prop where
  dumps : ∀ u, (corUnit s u).dumps.length ≤ 4
  acc : ∀ ch, AccOk (ctx s ch).acc
  cor : Tab.wf wordDef s.cor.code = true
  acq : Tab.wf wordDef s.acq.code = true

theorem SignalOk.of_data {s t : State} (h : SignalOk s) (hcor : corData t.cor = corData s.cor) (hacq : t.acq.code = s.acq.code) : SignalOk t := by
  simp only [corData, Prod.mk.injEq] at hcor
  obtain ⟨hdumps, hacc, hcode⟩ := hcor
  exact ⟨fun u => (congrArg List.length (congrFun hdumps u)).trans_le (h.dumps u), fun ch => (congrFun hacc ch) ▸ h.acc ch, hcode ▸ h.cor, hacq ▸ h.acq⟩

theorem SignalOk.of_seen {s t : State} (h : SignalOk s) (hs : seen butSignal t = seen butSignal s) : SignalOk t :=
  h.of_data ((seen_eq_iff.1 hs).cor rfl) ((seen_eq_iff.1 hs).acq rfl)

theorem SignalOk.setCtx {s : State} (h : SignalOk s) (ch : Nat) {c : Ctx} (hc : AccOk c.acc) : SignalOk (setCtx ch c s) where
  dumps := h.dumps
  acc i := by
    by_cases hi : i = ch
    · rw [hi, ctx, Machine.setCtx, Tab.get_put_same]
      exact hc
    · rw [ctx, Machine.setCtx, Tab.get_put_ne _ _ _ hi]
      exact h.acc i
  cor := h.cor
  acq := h.acq

theorem SignalOk.setUnit {s : State} (h : SignalOk s) (u : Nat) {x : CorUnit} (hx : x.dumps.length ≤ 4) : SignalOk (setUnit u x s) where
  dumps i := by
    by_cases hi : i = u
    · rw [hi, corUnit, Machine.setUnit, Tab.get_put_same]
      exact hx
    · rw [corUnit, Machine.setUnit, Tab.get_put_ne _ _ _ hi]
      exact h.dumps i
  acc := h.acc
  cor := h.cor
  acq := h.acq

/-! ### Accumulators -/

theorem accOk_nil : AccOk [] := fun _ h => absurd h List.not_mem_nil
theorem accOk_zeros (n : Nat) : AccOk (List.replicate n 0) := fun v hv => by
  rw [List.eq_of_mem_replicate hv]
  decide
theorem accOk_accSat (l : List Int) : AccOk (l.map accSat) := fun v hv => by
  obtain ⟨x, -, rfl⟩ := List.mem_map.1 hv
  unfold accSat
  omega

@[simp] theorem accumulate_acc_ok (s : State) (ch : Nat) (c : Ctx) (x : Int × Int) : AccOk (accumulate s ch c x).acc := accOk_accSat _
@[simp] theorem advance_acc (n : Nat) (c : Ctx) : (advance n c).1.acc = c.acc := rfl
@[simp] theorem applyRates_acc (c : Ctx) : (applyRates c).acc = c.acc := rfl
@[simp] theorem pendCodeRate_acc (v : Nat) (c : Ctx) : (pendCodeRate v c).acc = c.acc := rfl
@[simp] theorem pendCarrRate_acc (v : Nat) (c : Ctx) : (pendCarrRate v c).acc = c.acc := rfl
@[simp] theorem nextIntegration_acc (c : Ctx) : (nextIntegration c).acc = List.replicate 14 0 := rfl
@[simp] theorem missDump_acc (first : Bool) (q ns : Nat) (c : Ctx) : (missDump first q ns c).acc = c.acc := by
  unfold missDump
  dsimp only
  split <;> simp
@[simp] theorem markBoundary_acc (s : State) (flags : Nat) (kept : Bool) (c d : Ctx) : (markBoundary s flags kept c d).acc = d.acc := by
  unfold markBoundary
  extract_lets ns m d1 d2
  have h1 : d1.acc = d.acc := rfl
  have h2 : d2.acc = d.acc := by
    unfold d2
    split
    · rw [lockFrom_acc, h1]
    · exact h1
  clear_value d2
  split
  · rw [missDump_acc, h2]
  · exact h2

/-! ### Resets -/

theorem Tab.above_filter {α : Type} [DecidableEq α] (d : Nat → α) (p : Nat × α → Bool) :
    ∀ (t : Tab α) (lo : Option Nat), Tab.above d lo t = true → Tab.above d lo (t.filter p) = true := by
  intro t
  induction t with
  | nil => exact fun _ h => h
  | cons e t ih =>
    intro lo h
    simp only [Tab.above, Bool.and_eq_true] at h
    obtain ⟨⟨hlo, hd⟩, ht⟩ := h
    by_cases hp : p e = true
    · rw [List.filter_cons_of_pos hp]
      simp only [Tab.above, Bool.and_eq_true]
      exact ⟨⟨hlo, hd⟩, ih _ ht⟩
    · rw [List.filter_cons_of_neg hp]
      refine Tab.above_weaken (k := e.1) d (ih _ ht) ?_
      rintro l rfl
      exact Nat.le_of_lt (of_decide_eq_true hlo)

theorem Tab.get_drop {α : Type} (d : Nat → α) (p : Nat → Bool) (t : Tab α) (a : Nat) :
    Tab.get d (Tab.drop p t) a = if p a then d a else Tab.get d t a := by
  rw [Tab.drop, Tab.get_filter (p := fun a => !p a)]
  cases p a <;> rfl

theorem SignalOk.resetCorr {s : State} (h : SignalOk s) (r : Nat) : SignalOk (resetCorr r s) := by
  unfold Machine.resetCorr
  extract_lets ended _ t
  have ht : SignalOk t := by
    refine ⟨fun u => ?_, fun ch => ?_, h.cor, h.acq⟩
    · rw [corUnit, show t.cor.unit = Tab.drop (fun k => k / 32 = r) s.cor.unit from rfl, Tab.get_drop]
      split
      · exact Nat.zero_le 4
      · exact h.dumps u
    · rw [ctx, show t.cor.ctx = Tab.drop (fun k => k / 512 = r) s.cor.ctx from rfl, Tab.get_drop]
      split
      · exact accOk_nil
      · exact h.acc ch
  exact ht.of_seen (by simp)

/-- A code memory of the correlators that loses entries. -/
theorem SignalOk.dropCode {s : State} (h : SignalOk s) (p : Nat → Bool) :
    SignalOk { s with cor := { s.cor with code := Tab.drop p s.cor.code } } :=
  ⟨h.dumps, h.acc, Tab.above_filter _ _ _ _ h.cor, h.acq⟩

theorem SignalOk.acqLost {s : State} (h : SignalOk s) : SignalOk (acqLost s) :=
  have hr : SignalOk (resetAcq s) := h.of_seen (by simp)
  ⟨hr.dumps, hr.acc, hr.cor, rfl⟩

theorem SignalOk.acqDownCheck {s : State} (h : SignalOk s) : SignalOk (acqDownCheck s) := by
  unfold Machine.acqDownCheck
  split
  · have hc : SignalOk (setCrp { s.crp with acqDownWaits := false } s) := h.of_seen (setCrp_seen _ s (by simp))
    exact hc.acqLost.of_seen (by simp)
  · exact h

/-- A reset of the signal data altogether. -/
theorem signalOk_of_reset {s : State} (hcor : s.cor = Cor.reset) (hacq : Tab.wf wordDef s.acq.code = true) : SignalOk s := by
  refine ⟨fun u => ?_, fun ch => ?_, ?_, hacq⟩
  · rw [corUnit, hcor]
    exact Nat.zero_le 4
  · rw [ctx, hcor]
    exact accOk_nil
  · rw [hcor]
    rfl

theorem SignalOk.domainLost {s : State} (h : SignalOk s) (b : Nat) : SignalOk (domainLost b s) := by
  unfold Machine.domainLost
  split
  · exact (h.resetCorr b).dropCode _
  split
  · exact h.acqLost
  · exact h.of_seen (by simp)

theorem SignalOk.domainReset {s : State} (h : SignalOk s) (k : Nat) : SignalOk (domainReset k s) := by
  unfold Machine.domainReset
  split
  · exact h.resetCorr _
  · exact h.of_seen (by simp)

theorem SignalOk.foldl {α : Type} {f : State → α → State} (hf : ∀ s a, SignalOk s → SignalOk (f s a)) (l : List α) {s : State} (h : SignalOk s) :
    SignalOk (l.foldl f s) :=
  List.foldlRecOn (motive := SignalOk) l f h fun t ht a _ => hf t a ht

theorem SignalOk.powerDown {s : State} (h : SignalOk s) (b : Nat) : SignalOk (powerDown b s) :=
  (h.domainLost b).of_seen (setPd_seen _ _ _ (by simp))

theorem SignalOk.pwrBit {s : State} (h : SignalOk s) (old new : Word) (b : Nat) : SignalOk (pwrBit old new s b) := by
  unfold Machine.pwrBit
  extract_lets was now _ t
  have ht : seen butSignal t = seen butSignal s := by simp [t]
  clear_value t
  split
  · split
    · exact h.of_seen (by simp)
    split
    · exact h
    split
    · exact h.of_seen (by simp)
    · exact h.powerDown b
  · exact h.of_seen (by simp [ht])

theorem signalOk_resetAll (s : State) : SignalOk (resetAll s) := signalOk_of_reset rfl rfl

theorem signalOk_deviceReset (cause wake : Nat) (s : State) : SignalOk (deviceReset cause wake s) :=
  (signalOk_resetAll s).of_seen (by unfold deviceReset; simp)

theorem SignalOk.snapPowerDown (s : State) : SignalOk (snapPowerDown s) := by
  unfold Machine.snapPowerDown
  extract_lets u keep claim _ _ _ _ _ v
  have hv : SignalOk v := signalOk_of_reset rfl rfl
  exact hv.of_seen ((resetPins_seen _ _ _ (by simp)).trans (releaseDue_seen _ (by simp)))

theorem SignalOk.wakeStart {s : State} (h : SignalOk s) : SignalOk (wakeStart s) := by
  unfold Machine.wakeStart
  extract_lets wake t
  have ht : SignalOk t := by
    unfold t
    split
    · exact h
    · exact .snapPowerDown s
  exact ht.of_seen (by simp)

theorem SignalOk.tamperRespond {s : State} (h : SignalOk s) : SignalOk (tamperRespond s) := by
  unfold Machine.tamperRespond
  split
  case h_2 => exact (h.of_seen (setKey_seen _ s (by simp))).wakeStart
  all_goals exact h.of_seen (by simp)

/-! ### Samples, boundaries, dumps -/

variable {s : State}

theorem SignalOk.perf (h : SignalOk s) (ev n : Nat) : SignalOk (perf ev n s) := h.of_seen (by simp)
theorem SignalOk.sticky (h : SignalOk s) (a bit : Nat) : SignalOk (sticky a bit s) := h.of_seen (by simp)
theorem SignalOk.emit (h : SignalOk s) (o : Output) : SignalOk (emit o s) := h.of_seen (by simp)
theorem SignalOk.dropTaken (h : SignalOk s) (k : Nat) : SignalOk (dropTaken k s) := h.of_seen (by simp)
theorem SignalOk.bridgeHeard (h : SignalOk s) : SignalOk (bridgeHeard s) := h.of_seen (by simp)
theorem SignalOk.runEnds (h : SignalOk s) (ch : Nat) (c : Ctx) (st : CtxState) : SignalOk (runEnds ch c st s) := h.of_seen (by simp)
theorem SignalOk.releaseDue (h : SignalOk s) : SignalOk (releaseDue s) := h.of_seen (by simp)

theorem SignalOk.ctxIdle (h : SignalOk s) (ch : Nat) {c : Ctx} (hc : AccOk c.acc) : SignalOk (ctxIdle ch c s) := by
  refine SignalOk.releaseDue (SignalOk.setCtx (h.runEnds ch c .idle) ch ?_)
  exact hc

theorem SignalOk.boundary (h : SignalOk s) (ch : Nat) (last : Bool) (c : Ctx) : SignalOk (boundary ch last c s) := by
  unfold Machine.boundary
  extract_lets u x stops t kept v _ c'
  have ht : SignalOk t := h.of_seen (by simp [t])
  have hv : SignalOk v := by
    unfold v
    split
    next hk =>
      have hroom : x.dumps.length < 4 := of_decide_eq_true hk
      exact ht.setUnit u (by rw [List.length_append, List.length_singleton]; omega)
    next => exact ht.of_seen (by simp)
  have hc' : AccOk c'.acc := by
    rw [markBoundary_acc]
    exact accOk_zeros 14
  clear_value v c'
  split
  · exact hv.ctxIdle ch hc'
  · exact hv.setCtx ch hc'

theorem SignalOk.takeSample (h : SignalOk s) (ch : Nat) (x : Option (Int × Int)) : SignalOk (takeSample ch x s) := by
  unfold Machine.takeSample
  extract_lets c p t d e
  have hp : AccOk p.1.acc := by
    unfold p
    split
    · exact h.acc ch
    · exact h.acc ch
  have ht : SignalOk t := by
    unfold t
    split
    · exact h.boundary ch false p.1
    · exact h.setCtx ch hp
  clear_value t p
  split
  · exact h
  split
  · exact ht
  split
  · exact ht.setCtx ch (accumulate_acc_ok _ _ _ _)
  · exact ht.setCtx ch (accumulate_acc_ok _ _ _ _)

theorem SignalOk.toBoundary {ch : Nat} {l : List (Option (Int × Int))} {s t : State} (h : SignalOk s) (ht : toBoundary ch l s = some t) :
    SignalOk t := by
  induction l generalizing s with
  | nil => cases ht
  | cons x xs ih =>
    unfold Machine.toBoundary at ht
    dsimp only at ht
    split at ht
    · exact Option.some.inj ht ▸ h.takeSample ch x
    · exact ih (h.takeSample ch x) ht

theorem SignalOk.integrationBoundary (h : SignalOk s) (ch : Nat) (frames : List LaneFrame) (u : State) :
    SignalOk (ran (execIntegrationBoundary ch frames s) u) := by
  rw [execIntegrationBoundary, ran_next]
  split
  · exact h
  split
  · cases ht : Machine.toBoundary ch (replaySamples s (ctx s ch)) s with
    | none => exact h
    | some t => exact h.toBoundary ht
  · exact h.foldl (fun t x ht => ht.takeSample ch x) _

theorem SignalOk.replayCaptureEnd (h : SignalOk s) (ch id : Nat) (u : State) : SignalOk (ran (execReplayCaptureEnd ch id s) u) := by
  rw [execReplayCaptureEnd, ran_next]
  split
  · exact h
  extract_lets t d n
  have ht : SignalOk t := h.foldl (fun t x ht => ht.takeSample ch x) _
  clear_value t
  split
  · exact ht
  split
  · exact ht.ctxIdle ch (ht.acc ch)
  · exact ht.boundary ch true _

theorem SignalOk.dumpLost (h : SignalOk s) (ch : Nat) (b : List Byte) : SignalOk (dumpLost ch b s) := by
  unfold Machine.dumpLost
  extract_lets ns miss c d of
  have hacc : AccOk c.acc := h.acc ch
  split
  · exact h.setCtx ch ((missDump_acc _ _ _ _).symm ▸ hacc)
  · have hended : SignalOk { s with cor := { s.cor with ended := s.cor.ended.map (fun x => if of x then { x with ctx := miss x.ctx } else x) } } :=
      h.of_data rfl rfl
    exact hended.setCtx ch hacc

theorem SignalOk.dumpDelivery (h : SignalOk s) (unit : Nat) (u : State) : SignalOk (ran (execDumpDelivery unit s) u) := by
  rw [execDumpDelivery, ran_next]
  split
  · exact h
  next ch core b rest hd =>
    extract_lets t q c d
    have hrest : rest.length ≤ 4 := by
      have := h.dumps unit
      rw [hd, List.length_cons] at this
      omega
    have ht : SignalOk t := (h.setUnit unit hrest).bridgeHeard
    clear_value t
    split
    · exact ((ht.dropTaken 16).dumpLost ch b).perf _ _
    split
    · have hqueue (x : Tab (List (Nat × List Byte))) : SignalOk { t with cor := { t.cor with queue := x } } := ht.of_data rfl rfl
      refine SignalOk.emit (SignalOk.setCtx (hqueue _) ch ?_) _
      exact ht.acc ch
    · exact ((ht.dumpLost ch b).sticky _ _).perf _ _

/-! ### Commands of a context -/

theorem SignalOk.ctxRefuse (h : SignalOk s) : SignalOk (ctxRefuse s) := h.of_seen (by simp)
theorem SignalOk.wr (h : SignalOk s) (a : Nat) (w : Word) : SignalOk (wr a w s) := h.of_seen (by simp)

theorem SignalOk.start (h : SignalOk s) (ch : Nat) (u : State) : SignalOk (ran (execStart ch s) u) := by
  rw [execStart, ran_next]
  split
  · exact h
  split
  · exact h.ctxRefuse
  · refine SignalOk.setCtx h ch ?_
    exact h.acc ch

theorem SignalOk.stopAt (h : SignalOk s) (ch : Nat) (u : State) : SignalOk (ran (execStopAt ch s) u) := by
  rw [execStopAt, ran_next]
  split
  · exact h
  split
  · exact h.ctxIdle ch (h.acc ch)
  · refine SignalOk.setCtx h ch ?_
    exact h.acc ch
  · exact h.ctxRefuse

theorem SignalOk.abort (h : SignalOk s) (ch : Nat) (u : State) : SignalOk (ran (execAbort ch s) u) := by
  rw [execAbort, ran_next]
  split
  · exact h
  split
  · exact h.ctxIdle ch (h.acc ch)
  · exact h.ctxIdle ch (h.acc ch)
  · exact h.ctxRefuse

theorem SignalOk.contextRun (h : SignalOk s) (ch : Nat) (u : State) : SignalOk (ran (execContextRun ch s) u) := by
  unfold execContextRun
  extract_lets c chip at0 start due c' d m
  rw [ran_next]
  cases chUp s ch && decide (c.state = .armed) && due with
  | false => exact h
  | true =>
    refine SignalOk.setCtx h ch ?_
    exact accOk_zeros 14

theorem SignalOk.rateMessage (h : SignalOk s) (ch : Nat) (code carr : BitVec 64) (u : State) : SignalOk (ran (execRateMessage ch code carr s) u) := by
  rw [execRateMessage, ran_next]
  split
  · exact h
  extract_lets t taken _ v x y
  have hv : SignalOk v := h.bridgeHeard.of_data rfl rfl
  have hcore : 4 + cfgCore (ctx s ch) < 16 := by have := cfgCore_lt (ctx s ch); omega
  have hy : SignalOk y := hv.of_seen (by simp [y, x, hcore])
  clear_value y
  split
  · exact hy
  · refine SignalOk.setCtx hy ch ?_
    exact h.acc ch

theorem SignalOk.codeRateHi (h : SignalOk s) (ch : Nat) (w : Word) (u : State) : SignalOk (ran (execCodeRateHi ch w s) u) := by
  rw [execCodeRateHi, ran_next]
  split
  · exact h
  split
  · exact h.ctxRefuse
  · refine SignalOk.wr (SignalOk.wr (SignalOk.setCtx h ch ?_) _ _) _ _
    exact h.acc ch

theorem SignalOk.carrRateHi (h : SignalOk s) (ch : Nat) (w : Word) (u : State) : SignalOk (ran (execCarrRateHi ch w s) u) := by
  rw [execCarrRateHi, ran_next]
  split
  · exact h
  split
  · exact h.ctxRefuse
  · refine SignalOk.wr (SignalOk.wr (SignalOk.setCtx h ch ?_) _ _) _ _
    exact h.acc ch

theorem SignalOk.stopUnit (h : SignalOk s) (u : Nat) : SignalOk (stopUnit u s) := by
  refine SignalOk.releaseDue (SignalOk.foldl (fun t k ht => ?_) _ (h.setUnit u (Nat.zero_le 4)))
  refine SignalOk.setCtx (ht.runEnds _ _ _) _ ?_
  exact ht.acc _

theorem SignalOk.corrMismatch (h : SignalOk s) (u k : Nat) : SignalOk (corrMismatch u k s) := by
  unfold Machine.corrMismatch
  split
  · exact h
  extract_lets ch x c t v a
  have ht : SignalOk t := by
    unfold t
    split
    · refine SignalOk.setCtx h ch ?_
      exact h.acc ch
    · exact h
  have hv : SignalOk v := ht.of_seen (by simp [v])
  clear_value v
  have hlast : SignalOk (Machine.setUnit u { corUnit v u with lastMismatch := some v.tim.now } v) := hv.setUnit u (hv.dumps u)
  split
  · split
    · exact (hv.stopUnit u).of_seen (by simp)
    · exact hlast
  · exact hlast

theorem SignalOk.corInject (h : SignalOk s) (w : Word) (u : State) : SignalOk (ran (execCorInject w s) u) := by
  rw [execCorInject, ran_next]
  split
  · exact (h.of_seen (seen_freeNext (by simp) s)).corrMismatch _ _
  · exact h

theorem SignalOk.corCodeData (h : SignalOk s) (w : Word) (u : State) : SignalOk (ran (execCorCodeData w s) u) := by
  rw [execCorCodeData, ran_next]
  refine SignalOk.wr (SignalOk.foldl (fun t k ht => ?_) _ h) _ _
  split
  · exact ⟨ht.dumps, ht.acc, Tab.wf_put _ _ _ _ ht.cor, ht.acq⟩
  · exact ht

/-! ### Resets and power -/

theorem SignalOk.bbUnlock (h : SignalOk s) (u : State) : SignalOk (ran (execBbUnlock s) u) := by
  rw [execBbUnlock, ran_next]
  split
  · exact h
  extract_lets _ t
  have ht : SignalOk (resetCrossings [16, 17] t) := h.of_seen (by simp [t])
  exact (ht.foldl (fun t r ht => ht.resetCorr r) (List.range 4)).of_seen (resetIngress_seen _ (by simp))

theorem SignalOk.corrReset (h : SignalOk s) (w : Word) (u : State) : SignalOk (ran (execCorrReset w s) u) := by
  rw [execCorrReset, ran_next]
  refine h.foldl (fun t r ht => ?_) _
  split
  · exact (ht.resetCorr r).of_seen (inResetSet_seen _ _ (by simp))
  · exact ht

theorem SignalOk.acqReset (h : SignalOk s) (w : Word) (u : State) : SignalOk (ran (execAcqReset w s) u) := by
  rw [execAcqReset, ran_next]
  split
  · have ht : SignalOk (inResetSet 5 (resetAcq s)) := h.of_seen (by simp)
    exact ht.acqDownCheck
  · exact h

theorem SignalOk.searchComplete (h : SignalOk s) (pipe : Nat) (u : State) : SignalOk (ran (execSearchComplete pipe s) u) := by
  rw [execSearchComplete, ran_next]
  split
  · exact h
  next q _ =>
    extract_lets n status _ t power best peaks noise v
    have ht : seen butSignal t = seen butSignal s := setAcq_seen _ _ (.inl rfl) (by simp)
    clear_value t
    have hv : SignalOk (Machine.releaseDue (endSearch q status n noise peaks v)) := h.of_seen (by simp [v, ht])
    exact hv.acqDownCheck

theorem SignalOk.powerRequest (h : SignalOk s) (w : Word) (u : State) : SignalOk (ran (execPowerRequest w s) u) := by
  rw [execPowerRequest, ran_next]
  exact (h.wr _ _).foldl (fun t b ht => ht.pwrBit _ _ b) _

theorem SignalOk.powerRampDone (h : SignalOk s) (k : Nat) (u : State) : SignalOk (ran (execPowerRampDone k s) u) := by
  rw [execPowerRampDone, ran_next]
  split
  · exact h.of_seen (by simp)
  · exact (h.domainReset k).of_seen (setPd_seen _ _ _ (by simp))
  · exact h

theorem SignalOk.snapshotPowerDown (h : SignalOk s) (u : State) : SignalOk (ran (execSnapshotPowerDown s) u) := by
  rw [execSnapshotPowerDown, ran_next]
  split
  · split
    · exact .snapPowerDown s
    · exact h
  · exact h

theorem signalOk_powerOn (primary : Bool) (bootSel : Nat) (x : Supply) (s u : State) : SignalOk (ran (execPowerOn primary bootSel x s) u) := by
  refine SignalOk.of_seen
    (s := if s.crp.mode = .dormant ∧ x.vbatHeld = true then deviceReset 4 1 s else deviceReset 0 0 (loseVbat (bootPart s))) ?_
    (setCrp_seen _ _ (by simp))
  split
  · exact signalOk_deviceReset _ _ _
  · exact signalOk_deviceReset _ _ _

theorem SignalOk.resetN (h : SignalOk s) (lowNs : Nat) (u : State) : SignalOk (ran (execResetN lowNs s) u) := by
  rw [execResetN, ran_next]
  split
  · exact h
  split
  · exact signalOk_deviceReset _ _ _
  split
  · exact signalOk_deviceReset _ _ _
  · exact h.of_seen (by simp)

theorem SignalOk.brownOut (h : SignalOk s) (lowNs : Nat) (u : State) : SignalOk (ran (execBrownOut lowNs s) u) := by
  rw [execBrownOut, ran_next]
  split
  · exact h
  · exact (signalOk_deviceReset 3 0 s).of_seen (setCrp_seen _ _ (by simp))

theorem SignalOk.execDeviceReset (h : SignalOk s) (w : Word) (u : State) : SignalOk (ran (execDeviceReset w s) u) := by
  rw [Machine.execDeviceReset, ran_next]
  split
  · exact h
  split
  · exact signalOk_deviceReset _ _ _
  · exact h.of_seen (by simp)

theorem SignalOk.mainRailsLost (h : SignalOk s) (u : State) : SignalOk (ran (execMainRailsLost s) u) := by
  rw [execMainRailsLost, ran_next]
  split
  · exact h
  · exact (signalOk_resetAll s).of_seen (by simp)

theorem SignalOk.snapshotWake (h : SignalOk s) (u : State) : SignalOk (ran (execSnapshotWake s) u) := by
  rw [execSnapshotWake, ran_next]
  split
  · exact h.wakeStart
  · exact h

theorem SignalOk.tamperEvent (h : SignalOk s) (src : Nat) (under : Bool) (u : State) : SignalOk (ran (execTamperEvent src under s) u) := by
  rw [execTamperEvent, ran_next]
  split
  · exact h
  extract_lets t
  have ht : SignalOk (stickyIf (decide (t.crp.mode ≠ .dormant)) Reg.KEY_STICKY 0 t) := h.of_seen (by simp [t])
  exact ht.tamperRespond

/-! ### Host writes -/

theorem SignalOk.writeRst (h : SignalOk s) (w : Word) : SignalOk (writeRst w s) := by
  unfold Machine.writeRst
  split
  · exact h.execDeviceReset w s
  split
  · exact h.of_seen (by simp)
  · extract_lets t v x y
    have hv : SignalOk v := SignalOk.acqReset (h.corrReset w s) w t
    exact hv.of_seen (by simp [y, x])

theorem SignalOk.writeCrp (h : SignalOk s) (d : RegDesc) (n a : Nat) (w : Word) : SignalOk (writeCrp d n a w s) := by
  unfold Machine.writeCrp
  split
  · exact h.of_seen (by simp)
  split
  · exact h.writeRst w
  split
  · exact h.of_seen (by simp)
  split
  · exact h.of_seen (by simp)
  split
  · exact h.of_seen (by simp)
  split
  · exact h.powerRequest w s
  · exact h.of_seen (by simp)

theorem SignalOk.writeCtxCmd (h : SignalOk s) (ch : Nat) (w : Word) : SignalOk (writeCtxCmd ch w s) := by
  unfold Machine.writeCtxCmd
  split
  · exact h.abort ch s
  split
  · exact h.stopAt ch s
  split
  · exact h.start ch s
  · exact h

theorem SignalOk.writeCor (h : SignalOk s) (d : RegDesc) (n a : Nat) (w : Word) : SignalOk (writeCor d n a w s) := by
  unfold Machine.writeCor
  extract_lets st
  split
  · exact h.corInject w s
  split
  · exact h.corCodeData w s
  split
  · exact h.of_seen (by simp)
  split
  · exact h.writeCtxCmd n w
  split
  · exact h.codeRateHi n w s
  split
  · exact h.carrRateHi n w s
  · exact h.of_seen (by simp)

theorem SignalOk.writeAcqCode (h : SignalOk s) (w : Word) : SignalOk (writeAcqCode w s) := by
  have hcode (k : Nat) : SignalOk (setAcq { s.acq with code := Tab.put wordDef s.acq.code k w } s) :=
    ⟨h.dumps, h.acc, h.cor, Tab.wf_put _ _ _ _ h.acq⟩
  exact (hcode _).wr _ _

theorem SignalOk.writeAcq (h : SignalOk s) (d : RegDesc) (n a : Nat) (w : Word) : SignalOk (writeAcq d n a w s) := by
  unfold Machine.writeAcq
  split
  · exact h.of_seen (by simp)
  split
  · exact h.writeAcqCode w
  · exact h.of_seen (by simp)

theorem SignalOk.writeReg (h : SignalOk s) (d : RegDesc) (a : Nat) (w : Word) (x : WriteCycle) : SignalOk (writeReg d a w x s) := by
  unfold Machine.writeReg
  extract_lets n again v
  split
  case h_2 => exact h.writeCrp d n a v
  case h_5 | h_6 | h_7 | h_8 => exact h.writeCor d n a v
  case h_9 => exact h.writeAcq d n a v
  all_goals exact h.of_seen (by simp)

theorem SignalOk.registerWrite (h : SignalOk s) (a : Nat) (w : Word) (x : WriteCycle) (u : State) :
    SignalOk (ran (execRegisterWrite a w x s) u) := by
  rw [execRegisterWrite, ran_next]
  split
  · exact h
  split
  · exact h.sticky _ _
  split
  · exact h.of_seen (by simp)
  split
  · exact h
  split
  · exact h.of_seen (by simp)
  · exact h.writeReg _ _ _ _

/-- The commands that write signal data. -/
def writesSignal : Instr → Bool
  | .registerWrite .. | .powerOn .. | .resetN _ | .brownOut _ | .deviceReset _ | .snapshotWake | .tamperEvent .. | .mainRailsLost => true
  | .bbUnlock | .corrReset _ | .acqReset _ | .searchComplete _ | .powerRequest _ | .powerRampDone _ | .snapshotPowerDown => true
  | .integrationBoundary .. | .replayCaptureEnd .. | .dumpDelivery _ | .start _ | .stopAt _ | .abort _ | .contextRun _ => true
  | .rateMessage .. | .codeRateHi .. | .carrRateHi .. | .corrMismatchEvent .. | .corInject _ | .corCodeData _ => true
  | _ => false

theorem exec_seen_butSignal {c : Instr} (h : writesSignal c = false) (s u : State) : seen butSignal (ran (exec c s) u) = seen butSignal s := by
  cases c
  case registerWrite | powerOn | resetN | brownOut | deviceReset | snapshotWake | tamperEvent | mainRailsLost | bbUnlock | corrReset | acqReset |
    searchComplete | powerRequest | powerRampDone | snapshotPowerDown | integrationBoundary | replayCaptureEnd | dumpDelivery | start | stopAt |
    abort | contextRun | rateMessage | codeRateHi | carrRateHi | corrMismatchEvent | corInject | corCodeData => cases h
  all_goals simp [exec]

theorem SignalOk.exec (h : SignalOk s) (c : Instr) (u : State) : SignalOk (ran (exec c s) u) := by
  cases hc : writesSignal c with
  | false => exact h.of_seen (exec_seen_butSignal hc s u)
  | true =>
    cases c
    case registerWrite a w x => exact h.registerWrite a w x u
    case powerOn primary bootSel x => exact signalOk_powerOn primary bootSel x s u
    case resetN lowNs => exact h.resetN lowNs u
    case brownOut lowNs => exact h.brownOut lowNs u
    case deviceReset w => exact h.execDeviceReset w u
    case snapshotWake => exact h.snapshotWake u
    case tamperEvent src under => exact h.tamperEvent src under u
    case mainRailsLost => exact h.mainRailsLost u
    case bbUnlock => exact h.bbUnlock u
    case corrReset w => exact h.corrReset w u
    case acqReset w => exact h.acqReset w u
    case searchComplete pipe => exact h.searchComplete pipe u
    case powerRequest w => exact h.powerRequest w u
    case powerRampDone pd => exact h.powerRampDone pd u
    case snapshotPowerDown => exact h.snapshotPowerDown u
    case integrationBoundary ch frames => exact h.integrationBoundary ch frames u
    case replayCaptureEnd ch id => exact h.replayCaptureEnd ch id u
    case dumpDelivery unit => exact h.dumpDelivery unit u
    case start ch => exact h.start ch u
    case stopAt ch => exact h.stopAt ch u
    case abort ch => exact h.abort ch u
    case contextRun ch => exact h.contextRun ch u
    case rateMessage ch code carr => exact h.rateMessage ch code carr u
    case codeRateHi ch w => exact h.codeRateHi ch w u
    case carrRateHi ch w => exact h.carrRateHi ch w u
    case corrMismatchEvent unit k => exact h.corrMismatch unit k
    case corInject w => exact h.corInject w u
    case corCodeData w => exact h.corCodeData w u
    all_goals cases hc

end Sys2Proof.Machine
end

section
/-! SUPPORT. HOLDOVER returns to SERVE or SURVEY (Table 14.1): the operations that change the mode, one by one. -/
namespace Sys2Proof.Machine
open Sys2Proof.Safety

/-- Leaving HOLDOVER leads to SERVE or SURVEY. -/
def HoldoverOk (c : Crp) : Prop := c.mode = .holdover → c.prev = .serve ∨ c.prev = .survey

theorem HoldoverOk.of_eq {c d : Crp} (h : HoldoverOk c) (e : d.mode = c.mode ∧ d.prev = c.prev) : HoldoverOk d := by
  simpa [HoldoverOk, e] using h

theorem OutOfBoot.holdoverOk {c : Crp} (h : OutOfBoot c) : HoldoverOk c := h.2

theorem holdoverOk_of_ne {c : Crp} (h : c.mode ≠ .holdover) : HoldoverOk c := fun e => absurd e h

theorem setMode_holdoverOk {m : Mode} (hh : m ≠ .holdover) (s : State) : HoldoverOk (setMode m s).crp :=
  holdoverOk_of_ne (by simpa using hh)
theorem servingMode_holdoverOk (s : State) : HoldoverOk (servingMode s).crp := (servingMode_outOfBoot s).holdoverOk
theorem takeover_holdoverOk (cause : Nat) (s : State) : HoldoverOk (takeover cause s).crp := (takeover_outOfBoot cause s).holdoverOk
theorem startListening_holdoverOk (s : State) : HoldoverOk (startListening s).crp := (startListening_outOfBoot s).holdoverOk
theorem returnTakeover_holdoverOk (s : State) : HoldoverOk (returnTakeover s).crp := (returnTakeover_outOfBoot s).holdoverOk
theorem leaveMaintain_holdoverOk (s : State) : HoldoverOk (leaveMaintain s).crp := (leaveMaintain_outOfBoot s).holdoverOk
theorem toMaintain_holdoverOk (s : State) : HoldoverOk (toMaintain s).crp := (toMaintain_outOfBoot s).holdoverOk
theorem toSnapshot_holdoverOk (s : State) : HoldoverOk (toSnapshot s).crp := (toSnapshot_outOfBoot s).holdoverOk

theorem toHoldover_holdoverOk {s : State} (h : HoldoverOk s.crp) : HoldoverOk (toHoldover s).crp := by
  unfold toHoldover; split
  · simp_all [HoldoverOk]
  · simp_all [HoldoverOk]
  · exact h

theorem fromHoldover_holdoverOk {s : State} (h : HoldoverOk s.crp) : HoldoverOk (fromHoldover s).crp := by
  unfold fromHoldover; split
  · rcases h ‹_› with e | e <;> simp [HoldoverOk, e]
  · exact h

theorem enterHoldover_holdoverOk {s : State} (h : HoldoverOk s.crp) : HoldoverOk (enterHoldover s).crp := by
  simp only [enterHoldover, timCheckBound_keeps]
  exact toHoldover_holdoverOk (by simpa using h)

theorem execTimReturn_holdoverOk (w : Word) {s : State} (u : State) (h : HoldoverOk s.crp) : HoldoverOk (ran (execTimReturn w s) u).crp := by
  dsimp only [execTimReturn, ran]
  split
  · simpa using h
  split
  · simp only [timCheckBound_keeps]
    exact fromHoldover_holdoverOk (by simpa using h)
  · simp only [timCheckBound_keeps]
    exact fromHoldover_holdoverOk (by simpa using h)

theorem execHoldoverEntry_holdoverOk {s : State} (u : State) (h : HoldoverOk s.crp) : HoldoverOk (ran (execHoldoverEntry s) u).crp := by
  dsimp only [execHoldoverEntry, ran]
  split
  · exact enterHoldover_holdoverOk h
  · exact h

theorem execSigTimeout_holdoverOk {s : State} (u : State) (h : HoldoverOk s.crp) : HoldoverOk (ran (execSigTimeout s) u).crp := by
  dsimp only [execSigTimeout, ran]
  (repeat' split)
  · exact h
  · exact enterHoldover_holdoverOk (h.of_eq (by simp))
  all_goals exact h.of_eq (by simp)

theorem execStepInstant_holdoverOk {s : State} (u : State) (h : HoldoverOk s.crp) : HoldoverOk (ran (execStepInstant s) u).crp := by
  unfold execStepInstant
  rw [ran_next]
  split
  · split
    · extract_lets s₁ late d tim s₂ s₃ s₄
      have e : s₄.crp = s.crp := by
        simp only [s₄, s₃, s₂, s₁, record_keeps, sticky_keeps, moveTime_crp, setTim_keeps, edgesDue_crp]
      split
      · exact enterHoldover_holdoverOk (e ▸ h)
      · simp only [timCheckBound_keeps, setTim_keeps, e]
        exact h
    · exact h
  · exact h

theorem toStandby_holdoverOk {s : State} (h : HoldoverOk s.crp) : HoldoverOk (toStandby s).crp := by
  simp only [toStandby, mismatchesShown_crp, setNfl_keeps, setAcq_keeps, setCht_keeps, setDsp_keeps]
  split
  · exact setMode_holdoverOk (by decide) _
  · exact setMode_holdoverOk (by decide) _
  · exact setMode_holdoverOk (by decide) _
  · simpa using h

theorem claimProcedure_holdoverOk {s : State} (h : HoldoverOk s.crp) : HoldoverOk (claimProcedure s).crp := by
  unfold claimProcedure
  (repeat' split)
  · exact h.of_eq (by simp)
  · exact takeover_holdoverOk 2 _
  · exact takeover_holdoverOk 1 _
  · exact h.of_eq (by simp)
  · exact h.of_eq (by simp)

theorem peerFail_holdoverOk {s : State} (h : HoldoverOk s.crp) : HoldoverOk (peerFail s).crp := by
  unfold peerFail
  split
  · exact h
  · exact claimProcedure_holdoverOk (h.of_eq (by simp))

theorem execClaimSample_holdoverOk (high : Bool) {s : State} (u : State) (h : HoldoverOk s.crp) :
    HoldoverOk (ran (execClaimSample high s) u).crp := by
  dsimp only [execClaimSample, ran]
  (repeat' split)
  · exact h
  · exact h
  · exact h
  · rw [pairDegraded_crp]
    exact toStandby_holdoverOk h
  · simpa using h
  · exact takeover_holdoverOk 2 _
  · exact takeover_holdoverOk 1 _
  · simpa using h

theorem execPeerWaitExpiry_holdoverOk {s : State} (u : State) (h : HoldoverOk s.crp) : HoldoverOk (ran (execPeerWaitExpiry s) u).crp := by
  dsimp only [execPeerWaitExpiry, ran]
  split
  · exact claimProcedure_holdoverOk h
  · exact h

theorem heardPeer_holdoverOk {s : State} (h : HoldoverOk s.crp) : HoldoverOk (heardPeer s).crp := by
  unfold heardPeer; dsimp only
  (repeat' split)
  · exact h.of_eq (by simp)
  · exact takeover_holdoverOk 2 _
  · exact h

theorem execHeartbeatReceive_holdoverOk (f : List Byte) (crcOk : Bool) {s : State} (u : State) (h : HoldoverOk s.crp) :
    HoldoverOk (ran (execHeartbeatReceive f crcOk s) u).crp := by
  unfold execHeartbeatReceive
  rw [ran_next]
  split
  · exact h
  split
  · exact h.of_eq (by dsimp only; split <;> simp)
  · simp only [mismatchCheck_crp, wr_keeps, lagCheck_crp, returnCheck_crp]
    exact heardPeer_holdoverOk (by simpa using h)

theorem execPathAFail_holdoverOk {s : State} (u : State) (h : HoldoverOk s.crp) : HoldoverOk (ran (execPathAFail s) u).crp := by
  dsimp only [execPathAFail, ran]
  split
  · exact peerFail_holdoverOk (h.of_eq (by simp))
  · exact h

theorem execPathBFail_holdoverOk {s : State} (u : State) (h : HoldoverOk s.crp) : HoldoverOk (ran (execPathBFail s) u).crp := by
  dsimp only [execPathBFail, ran]
  split
  · exact peerFail_holdoverOk (h.of_eq (by simp))
  · exact h

theorem execMirrorRecord_holdoverOk (number : Nat) (r : MirrorRec) {s : State} (u : State) (h : HoldoverOk s.crp) :
    HoldoverOk (ran (execMirrorRecord number r s) u).crp := by
  unfold execMirrorRecord
  rw [ran_next]
  split
  · exact h
  split
  · exact h.of_eq (by simp)
  split
  · simpa using h
  split
  · split <;> simpa using h
  split
  · exact h
  extract_lets t p t'
  have ht : HoldoverOk t'.crp := by simpa [t', t] using h
  split
  · exact ht
  split
  · exact returnTakeover_holdoverOk _
  · exact ht

theorem execMirrorAck_holdoverOk (number : Nat) {s : State} (u : State) (h : HoldoverOk s.crp) :
    HoldoverOk (ran (execMirrorAck number s) u).crp := by
  unfold execMirrorAck
  rw [ran_next]
  split
  · exact h
  split
  · exact h.of_eq (by simp)
  extract_lets done us due s₁ p s₂ s₃
  have h₃ : HoldoverOk s₃.crp := h.of_eq (by dsimp only [s₃, s₂, s₁]; split <;> simp)
  (repeat' split)
  · exact toStandby_holdoverOk h₃
  · exact h₃
  · exact h₃

theorem resetPairLink_holdoverOk {s : State} (h : HoldoverOk s.crp) : HoldoverOk (resetPairLink s).crp :=
  peerFail_holdoverOk (h.of_eq (by simp))

theorem execNetReset_holdoverOk (w : Word) {s : State} (u : State) (h : HoldoverOk s.crp) : HoldoverOk (ran (execNetReset w s) u).crp := by
  dsimp only [execNetReset, ran]
  (repeat' split)
  · exact resetPairLink_holdoverOk (h.of_eq (by simp))
  · exact h.of_eq (by simp)
  · exact h

theorem domainLost_holdoverOk (b : Nat) {s : State} (h : HoldoverOk s.crp) : HoldoverOk (domainLost b s).crp := by
  unfold domainLost
  (repeat' split)
  · exact h.of_eq (by simp)
  · exact h.of_eq (by simp)
  · exact h.of_eq (by simp)
  · exact resetPairLink_holdoverOk h
  · exact h

theorem powerDown_holdoverOk (b : Nat) {s : State} (h : HoldoverOk s.crp) : HoldoverOk (powerDown b s).crp :=
  (domainLost_holdoverOk b h).of_eq (by simp [powerDown])

theorem pwrBit_holdoverOk (old new : Word) {s : State} (b : Nat) (h : HoldoverOk s.crp) : HoldoverOk (pwrBit old new s b).crp := by
  unfold pwrBit; dsimp only
  (repeat' split)
  case isTrue.isFalse.isFalse.isFalse => exact powerDown_holdoverOk b h
  all_goals exact h.of_eq (by simp)

theorem execPowerRequest_holdoverOk (w : Word) {s : State} (u : State) (h : HoldoverOk s.crp) :
    HoldoverOk (ran (execPowerRequest w s) u).crp := by
  dsimp only [execPowerRequest, ran]
  exact List.foldlRecOn (motive := fun t : State => HoldoverOk t.crp) _ _ (by simpa using h) (fun t ht b _ => pwrBit_holdoverOk _ _ b ht)

theorem modeCmd_holdoverOk (t : Nat) (w : Word) (ok : Bool) {run : State → State} {s : State} (h : HoldoverOk s.crp)
    (hr : HoldoverOk (run s).crp) :
    HoldoverOk (modeCmd t w ok run s).crp := by
  unfold modeCmd
  (repeat' split)
  · exact h
  · exact hr
  · exact h.of_eq (by simp)

theorem execTargetSurvey_holdoverOk (w : Word) {s : State} (u : State) (h : HoldoverOk s.crp) :
    HoldoverOk (ran (execTargetSurvey w s) u).crp := by
  dsimp only [execTargetSurvey, ran]
  refine modeCmd_holdoverOk _ _ _ h ?_
  split
  · exact leaveMaintain_holdoverOk s
  · exact setMode_holdoverOk (by decide) s

theorem execTargetServe_holdoverOk (w : Word) {s : State} (u : State) (h : HoldoverOk s.crp) :
    HoldoverOk (ran (execTargetServe w s) u).crp := by
  dsimp only [execTargetServe, ran]
  refine modeCmd_holdoverOk _ _ _ h ?_
  split
  · exact leaveMaintain_holdoverOk s
  · exact setMode_holdoverOk (by decide) s

theorem execTargetMaintain_holdoverOk (w : Word) {s : State} (u : State) (h : HoldoverOk s.crp) :
    HoldoverOk (ran (execTargetMaintain w s) u).crp :=
  modeCmd_holdoverOk _ _ _ h (toMaintain_holdoverOk s)

theorem execTargetSnapshot_holdoverOk (w : Word) {s : State} (u : State) (h : HoldoverOk s.crp) :
    HoldoverOk (ran (execTargetSnapshot w s) u).crp :=
  modeCmd_holdoverOk _ _ _ h (toSnapshot_holdoverOk s)

theorem execTargetDormant_holdoverOk (w : Word) {s : State} (u : State) (h : HoldoverOk s.crp) :
    HoldoverOk (ran (execTargetDormant w s) u).crp :=
  modeCmd_holdoverOk _ _ _ h (h.of_eq (by simp))

theorem writeMode_holdoverOk (w : Word) {s : State} (h : HoldoverOk s.crp) : HoldoverOk (writeMode w s).crp := by
  unfold writeMode
  split
  · exact execTargetDormant_holdoverOk w s h
  · exact execTargetSurvey_holdoverOk w s h
  · exact execTargetServe_holdoverOk w s h
  · exact execTargetSnapshot_holdoverOk w s h
  · exact execTargetMaintain_holdoverOk w s h
  · exact h.of_eq (by simp)

theorem writeTim_holdoverOk (d : RegDesc) (n a : Nat) (w : Word) {s : State} (h : HoldoverOk s.crp) : HoldoverOk (writeTim d n a w s).crp := by
  by_cases hb : d.base = Reg.TIM_RETURN
  · have e : writeTim d n a w s = ran (execTimReturn w s) s := by
      unfold writeTim; rw [hb]; rfl
    exact e ▸ execTimReturn_holdoverOk w s h
  · unfold writeTim
    rw [if_neg hb]
    simpa using h

/-! ### Starts and resets -/

theorem crp_of_seen {F : Scope} {s t : State} (h : seen F t = seen F s) (hF : Part.crp ∉ F.parts) : t.crp = s.crp :=
  (seen_eq_iff.1 h).parts .crp hF

@[simp] theorem setPdsOn_modes (l : List Nat) (s : State) : (setPdsOn l s).crp.mode = s.crp.mode ∧ (setPdsOn l s).crp.prev = s.crp.prev := ⟨rfl, rfl⟩
@[simp] theorem bootMem_modes (s : State) : (bootMem s).crp.mode = s.crp.mode ∧ (bootMem s).crp.prev = s.crp.prev := ⟨rfl, rfl⟩
@[simp] theorem recUp_crp (s : State) : (recUp s).crp = s.crp := crp_of_seen (recUp_seen s (.refl _)) (by decide)
@[simp] theorem bootOtp_modes (s : State) : (bootOtp s).crp.mode = s.crp.mode ∧ (bootOtp s).crp.prev = s.crp.prev := by simp [bootOtp]
@[simp] theorem bootRecorder_modes (s : State) : (bootRecorder s).crp.mode = s.crp.mode ∧ (bootRecorder s).crp.prev = s.crp.prev := by
  simp [bootRecorder]
@[simp] theorem bootActivate_crp (s : State) : (bootActivate s).crp = s.crp := crp_of_seen (bootActivate_seen s (.refl _)) (by decide)
@[simp] theorem bootVerify_crp (s : State) : (bootVerify s).1.crp = s.crp := crp_of_seen (bootVerify_seen s (.refl _)) (by decide)
@[simp] theorem bootConfig_crp (s : State) : (bootConfig s).crp = s.crp := crp_of_seen (bootConfig_seen s (.refl _)) (by decide)
@[simp] theorem bootLatch_crp (s : State) : (bootLatch s).crp = s.crp := crp_of_seen (bootLatch_seen s (.refl _)) (by decide)
@[simp] theorem bootKeys_crp (s : State) : (bootKeys s).crp = s.crp := crp_of_seen (bootKeys_seen s (.refl _)) (by decide)
@[simp] theorem copyBegun_crp (k : Nat) (s : State) : (copyBegun k s).crp = s.crp := crp_of_seen (copyBegun_seen k s (.refl _)) (by decide)
@[simp] theorem fallBegun_crp (k : Nat) (s : State) : (fallBegun k s).crp = s.crp := crp_of_seen (fallBegun_seen k s (.refl _)) (by decide)
@[simp] theorem bootLink_modes (s : State) : (bootLink s).crp.mode = s.crp.mode ∧ (bootLink s).crp.prev = s.crp.prev := by simp [bootLink]
@[simp] theorem bootPower_modes (s : State) : (bootPower s).crp.mode = s.crp.mode ∧ (bootPower s).crp.prev = s.crp.prev := by
  simp [bootPower]

@[simp] theorem bootThrough_modes (n : Nat) (s : State) :
    (bootThrough n s).1.crp.mode = s.crp.mode ∧ (bootThrough n s).1.crp.prev = s.crp.prev := by
  unfold bootThrough
  extract_lets t v p x
  have ht : t.crp.mode = s.crp.mode ∧ t.crp.prev = s.crp.prev := by unfold t; split <;> simp
  have hv : v.crp.mode = s.crp.mode ∧ v.crp.prev = s.crp.prev := by unfold v; split <;> simp [ht]
  have hp : p.1.crp.mode = s.crp.mode ∧ p.1.crp.prev = s.crp.prev := by unfold p; split <;> simp [hv]
  have hx : x.crp.mode = s.crp.mode ∧ x.crp.prev = s.crp.prev := by unfold x; split <;> simp [hp]
  clear_value x p
  split
  · exact hp
  split
  · simp [hx]
  · exact hx

@[simp] theorem bootPart_modes (s : State) : (bootPart s).crp.mode = s.crp.mode ∧ (bootPart s).crp.prev = s.crp.prev := by
  unfold bootPart
  split
  · exact ⟨rfl, rfl⟩
  · extract_lets n k t v
    have hv : v.crp.mode = t.crp.mode ∧ v.crp.prev = t.crp.prev := by
      unfold v
      split
      · simp
      · split <;> simp
    exact hv

theorem deviceReset_mode (cause wake : Nat) (s : State) : (deviceReset cause wake s).crp.mode = .boot := by
  unfold deviceReset
  simp only [startKeys_crp, setCrp_crp, resetPins_crp]
  rfl

theorem deviceReset_holdoverOk (cause wake : Nat) (s : State) : HoldoverOk (deviceReset cause wake s).crp :=
  holdoverOk_of_ne (by simp [deviceReset_mode])

theorem wakeStart_holdoverOk (s : State) : HoldoverOk (wakeStart s).crp := by
  refine holdoverOk_of_ne ?_
  simp [wakeStart]

theorem execBootComplete_holdoverOk {s : State} (u : State) (h : HoldoverOk s.crp) : HoldoverOk (ran (execBootComplete s) u).crp := by
  rw [execBootComplete, ran_next]
  split
  · exact h
  extract_lets p
  split
  · unfold bootEnd
    extract_lets _ t
    split
    · exact (setMode_holdoverOk (m := .maintain) (by decide) t).of_eq (by simp)
    split
    · exact startListening_holdoverOk t
    · exact servingMode_holdoverOk t
  · exact holdoverOk_of_ne (by simp [bootRecovery])

theorem execPowerOn_holdoverOk (primary : Bool) (bootSel : Nat) (x : Supply) (s u : State) :
    HoldoverOk (ran (execPowerOn primary bootSel x s) u).crp := by
  rw [execPowerOn, ran_next]
  split
  · exact (deviceReset_holdoverOk 4 1 s).of_eq ⟨rfl, rfl⟩
  · exact (deviceReset_holdoverOk 0 0 _).of_eq ⟨rfl, rfl⟩

theorem execResetN_holdoverOk (lowNs : Nat) {s : State} (u : State) (h : HoldoverOk s.crp) : HoldoverOk (ran (execResetN lowNs s) u).crp := by
  rw [execResetN, ran_next]
  split
  · exact h
  split
  · exact deviceReset_holdoverOk 1 0 s
  split
  · exact deviceReset_holdoverOk 1 0 _
  · exact h

theorem execBrownOut_holdoverOk (lowNs : Nat) {s : State} (u : State) (h : HoldoverOk s.crp) : HoldoverOk (ran (execBrownOut lowNs s) u).crp := by
  rw [execBrownOut, ran_next]
  split
  · exact h
  · exact (deviceReset_holdoverOk 3 0 s).of_eq ⟨rfl, rfl⟩

theorem execDeviceReset_holdoverOk (w : Word) {s : State} (u : State) (h : HoldoverOk s.crp) : HoldoverOk (ran (execDeviceReset w s) u).crp := by
  rw [execDeviceReset, ran_next]
  split
  · exact h
  split
  · exact deviceReset_holdoverOk 2 0 s
  · exact h.of_eq (by simp)

theorem execMainRailsLost_holdoverOk {s : State} (u : State) (h : HoldoverOk s.crp) : HoldoverOk (ran (execMainRailsLost s) u).crp := by
  rw [execMainRailsLost, ran_next]
  split
  · exact h
  · exact holdoverOk_of_ne (by simp)

theorem tamperRespond_holdoverOk {s : State} (h : HoldoverOk s.crp) : HoldoverOk (tamperRespond s).crp := by
  unfold tamperRespond
  split
  case h_2 => exact wakeStart_holdoverOk _
  case h_3 => exact h.of_eq (by simp)
  case h_5 | h_6 | h_7 | h_8 => exact (toMaintain_holdoverOk s).of_eq (by simp)
  all_goals exact h.of_eq (by simp)

theorem execTamperEvent_holdoverOk (src : Nat) (under : Bool) {s : State} (u : State) (h : HoldoverOk s.crp) :
    HoldoverOk (ran (execTamperEvent src under s) u).crp := by
  rw [execTamperEvent, ran_next]
  split
  · exact h
  · exact tamperRespond_holdoverOk (h.of_eq (by simp))

theorem execSnapshotWake_holdoverOk {s : State} (u : State) (h : HoldoverOk s.crp) : HoldoverOk (ran (execSnapshotWake s) u).crp := by
  rw [execSnapshotWake, ran_next]
  split
  · exact wakeStart_holdoverOk s
  · exact h

/-! ### Host writes -/

theorem writeRst_holdoverOk (w : Word) {s : State} (h : HoldoverOk s.crp) : HoldoverOk (writeRst w s).crp := by
  unfold writeRst
  split
  · exact execDeviceReset_holdoverOk w s h
  split
  · exact h.of_eq (by simp)
  · exact execNetReset_holdoverOk w _ (h.of_eq (by simp))

theorem writeCrp_holdoverOk (d : RegDesc) (n a : Nat) (w : Word) {s : State} (h : HoldoverOk s.crp) : HoldoverOk (writeCrp d n a w s).crp := by
  unfold writeCrp
  split
  · exact h.of_eq (by simp)
  split
  · exact writeRst_holdoverOk w h
  split
  · exact h.of_eq (by simp)
  split
  · exact h.of_eq (by simp)
  split
  · exact writeMode_holdoverOk w h
  split
  · exact execPowerRequest_holdoverOk w s h
  split <;> exact h.of_eq (by simp)

theorem writeReg_holdoverOk (d : RegDesc) (a : Nat) (w : Word) (x : WriteCycle) {s : State} (h : HoldoverOk s.crp) :
    HoldoverOk (writeReg d a w x s).crp := by
  unfold writeReg
  extract_lets n again v
  split
  case h_2 => exact writeCrp_holdoverOk d n a v h
  case h_3 => exact writeTim_holdoverOk d n a v h
  all_goals exact h.of_eq (by simp)

theorem execRegisterWrite_holdoverOk (a : Nat) (w : Word) (x : WriteCycle) {s : State} (u : State) (h : HoldoverOk s.crp) :
    HoldoverOk (ran (execRegisterWrite a w x s) u).crp := by
  rw [execRegisterWrite, ran_next]
  split
  · exact h
  split
  · exact h.of_eq (by simp)
  split
  · exact h.of_eq (by simp)
  split
  · exact h
  split
  · exact h.of_eq (by simp)
  · exact writeReg_holdoverOk _ _ _ _ h

/-- The commands named change the mode, or can; every other leaves it. -/
theorem exec_holdoverOk (c : Instr) {s : State} (u : State) (h : HoldoverOk s.crp) : HoldoverOk (ran (exec c s) u).crp := by
  cases c
  case powerOn p b x => exact execPowerOn_holdoverOk p b x s u
  case resetN n => exact execResetN_holdoverOk n u h
  case brownOut n => exact execBrownOut_holdoverOk n u h
  case deviceReset w => exact execDeviceReset_holdoverOk w u h
  case snapshotWake => exact execSnapshotWake_holdoverOk u h
  case tamperEvent src under => exact execTamperEvent_holdoverOk src under u h
  case registerWrite a w x => exact execRegisterWrite_holdoverOk a w x u h
  case timReturn w => exact execTimReturn_holdoverOk w u h
  case holdoverEntry => exact execHoldoverEntry_holdoverOk u h
  case sigTimeout => exact execSigTimeout_holdoverOk u h
  case stepInstant => exact execStepInstant_holdoverOk u h
  case heartbeatReceive f crcOk => exact execHeartbeatReceive_holdoverOk f crcOk u h
  case pathAFail => exact execPathAFail_holdoverOk u h
  case pathBFail => exact execPathBFail_holdoverOk u h
  case claimSample high => exact execClaimSample_holdoverOk high u h
  case peerWaitExpiry => exact execPeerWaitExpiry_holdoverOk u h
  case mirrorRecord n r => exact execMirrorRecord_holdoverOk n r u h
  case mirrorAck n => exact execMirrorAck_holdoverOk n u h
  case bootComplete => exact execBootComplete_holdoverOk u h
  case netReset w => exact execNetReset_holdoverOk w u h
  case powerRequest w => exact execPowerRequest_holdoverOk w u h
  case targetDormant w => exact execTargetDormant_holdoverOk w u h
  case targetSurvey w => exact execTargetSurvey_holdoverOk w u h
  case targetServe w => exact execTargetServe_holdoverOk w u h
  case targetSnapshot w => exact execTargetSnapshot_holdoverOk w u h
  case targetMaintain w => exact execTargetMaintain_holdoverOk w u h
  case mainRailsLost => exact execMainRailsLost_holdoverOk u h
  all_goals exact h.of_eq (by simp [exec])

/-! ### The invariant -/

theorem inv_iff (s : State) : Inv s ↔ HoldoverOk s.crp ∧ s.upd.gens.length ≤ 5 ∧ SignalOk s :=
  ⟨fun ⟨hmode, hgens, hdumps, hacc, hcor, hacq⟩ => ⟨hmode, hgens, hdumps, hacc, hcor, hacq⟩,
    fun ⟨hmode, hgens, hsig⟩ => ⟨hmode, hgens, hsig.dumps, hsig.acc, hsig.cor, hsig.acq⟩⟩

theorem inv_exec {c : Instr} {s t : State} (h : Inv s) (ht : exec c s = .next t) : Inv t := by
  obtain ⟨hmode, hgens, hsig⟩ := (inv_iff s).1 h
  obtain rfl : ran (exec c s) s = t := by rw [ht, ran_next]
  exact (inv_iff _).2 ⟨exec_holdoverOk c s hmode, (otpStep_exec c s s).fits hgens, hsig.exec c s⟩

theorem inv_tick {s : State} (h : Inv s) : Inv (tick s) := by
  obtain ⟨hmode, hgens, hsig⟩ := (inv_iff s).1 h
  have hparts := (seen_eq_iff.1 (tick_seen s (.refl _))).parts
  refine (inv_iff _).2 ⟨hmode.of_eq ?_, ?_, hsig.of_seen (tick_seen s (by simp))⟩
  · rw [show (tick s).crp = s.crp from hparts .crp (by decide)]
    exact ⟨rfl, rfl⟩
  · rwa [show (tick s).upd = s.upd from hparts .upd (by decide)]

end Sys2Proof.Machine
end
section
open Sys2Proof Sys2Proof.Machine Sys2Proof.Safety
/-- Settles O3: each part of the invariant is kept by every command, and by the cycle that passes when the queue is empty. -/
theorem everyStepKeepsInv : Obligations.EveryStepKeepsInv := by
  intro s t hs ht
  unfold step at ht
  split at ht
  · exact Host.Outcome.next.inj ht ▸ inv_tick hs
  next c rest _ =>
    have hrest : Inv { s with pending := rest } := hs
    exact inv_exec hrest ht
end

section
/-! SUPPORT. What a raise of event sources keeps of the host interface: a relation that each of its elementary updates keeps is kept by the
whole, since deliveries, messages and counts are made of these updates. -/
namespace Sys2Proof.Machine
open Sys2Proof.Safety

/-- A relation between host interfaces that every elementary update of a raise keeps. -/
structure IoRel (R : Io → Io → Prop) : Prop where
  refl : ∀ io, R io io
  trans : ∀ {a b c}, R a b → R b c → R a c
  ev : ∀ io g p n l, R io (ioSetEv io g { ioEv io g with pending := p, count := n, at_ := l })
  told : ∀ io r q d, R io (ioSetRing io r { ioRing io r with seq := q, drop := d })
  index : ∀ io r d, ringRuns 4 (ioRing io r) = true → R io (ioSetRing io r { ioRing io r with dev := d })
  fail : ∀ io r, ringRuns 4 (ioRing io r) = true → R io (ioSetRing io r { ioRing io r with state := .error, err := 4 })
  vec : ∀ io v h a p n, R io (ioSetVec io v { ioVec io v with holding := h, again := a, pba := p, sentAt := n })
  ctr : ∀ io k v, R io (ioSetCtr io k { ioCtr io k with count := v })
  stk : ∀ io a w, R io (ioSetStk io a (ioStk io a ||| w))
  out : ∀ io o, R io (ioOut io o)

namespace IoRel
variable {R : Io → Io → Prop} (h : IoRel R)
include h

theorem ctrAddOne (c : Bool) (k n : Nat) (io : Io) : R io (ctrAddOne c k n io).1 := by
  have h₁ := h.ctr io k (BitVec.ofNat 48 ((ioCtr io k).count.toNat + n))
  unfold Machine.ctrAddOne
  dsimp only
  split
  · exact h₁
  split
  · exact h₁
  split
  · split
    · exact h.trans (h.trans h₁ (h.stk _ _ _)) (h.out _ _)
    · exact h.trans (h.trans h₁ (h.stk _ _ _)) (h.stk _ _ _)
  · exact h.trans h₁ (h.stk _ _ _)

theorem ctrAdd (c : Bool) (k n : Nat) (io : Io) : R io (ctrAdd c k n io).1 := by
  unfold Machine.ctrAdd
  dsimp only
  split
  · exact h.ctrAddOne c k n io
  · exact h.trans (h.ctrAddOne c k n io) (h.ctrAddOne _ _ _ _)

theorem ctrEvent (c : Bool) (ev n : Nat) (io : Io) : R io (ctrEvent c ev n io).1 := by
  unfold Machine.ctrEvent
  split
  · exact h.refl io
  · exact List.foldlRecOn (motive := fun p : Io × List Nat => R io p.1) _ _ (h.refl io) fun p hp k _ => h.trans hp (h.ctrAdd c k n p.1)

theorem vecTrigger (now : Nat) (c : Bool) (v : Nat) (io : Io) : R io (vecTrigger now c v io).1 := by
  unfold Machine.vecTrigger
  dsimp only
  split
  · exact h.vec io v _ _ _ _
  split
  · exact h.vec io v _ _ _ _
  · exact h.trans (h.trans (h.vec io v _ _ _ _) (h.out _ _)) (h.ctrEvent _ _ _ _)

theorem ringAdvance (now : Nat) (c : Bool) {r : Nat} (irq : Bool) {io : Io} (hr : ringRuns 4 (ioRing io r) = true) :
    R io (ringAdvance now c r irq io).1 := by
  unfold Machine.ringAdvance
  dsimp only
  split
  · exact h.trans (h.fail io r hr) (h.stk _ _ _)
  split
  · exact h.trans (h.trans (h.index io r _ hr) (h.out _ _)) (h.vecTrigger _ _ _ _)
  · exact h.trans (h.index io r _ hr) (h.out _ _)

theorem ringWrite {now : Nat} {c : Bool} {r : Nat} {e : List Byte} {io : Io} {q : Io × List Nat}
    (hq : ringWrite now c 4 r e io = some q) : R io q.1 := by
  simp only [Machine.ringWrite, Option.ite_none_right_eq_some, Option.some.injEq, Bool.and_eq_true] at hq
  obtain ⟨⟨hr, -⟩, rfl⟩ := hq
  split
  · exact h.ringAdvance now c _ hr
  · exact h.trans (h.out io _) (h.ringAdvance now c _ hr)

theorem deliver (now : Nat) (at_ : Nat × Word) (c : Bool) (src : Nat) (io : Io) : R io (deliver now at_ c src io).1 := by
  have vector (p : Io × List Nat) (hp : R io p.1) (b : Bool) (v : Nat) :
      R io (if b = true then ((Machine.vecTrigger now c v p.1).1, p.2 ++ (Machine.vecTrigger now c v p.1).2) else p).1 := by
    split
    · exact h.trans hp (h.vecTrigger _ _ _ _)
    · exact hp
  unfold Machine.deliver
  dsimp only
  refine vector _ ?_ _ _
  split
  · have hseq := h.told io (bits (ioEv io (src / 32)).route 7 0) (((ioRing io (bits (ioEv io (src / 32)).route 7 0)).seq + 1) % 2 ^ 32)
      (ioRing io (bits (ioEv io (src / 32)).route 7 0)).drop
    split
    next q hq => exact h.trans hseq (h.ringWrite hq)
    next => exact h.trans (h.trans hseq (h.told _ _ _ _)) (h.stk _ _ _)
  · exact h.refl io

theorem raiseOne (now : Nat) (c : Bool) (src : Nat) (io : Io) : R io (raiseOne now c src io).1 := by
  unfold Machine.raiseOne
  dsimp only
  split
  · exact h.trans (h.ev io _ _ _ _) (h.deliver _ _ _ _ _)
  · exact h.ev io _ _ _ _

theorem raiseAll (now : Nat) (c : Bool) (n : Nat) (l : List Nat) (io : Io) : R io (raiseAll now c n l io) := by
  induction n generalizing l io with
  | zero => exact h.refl io
  | succ n ih =>
    cases l with
    | nil => exact h.refl io
    | cons x l => exact h.trans (h.raiseOne now c x io) (ih _ _)

theorem ioRaise (now : Nat) (c : Bool) (l : List Nat) (io : Io) : R io (ioRaise now c l io) := h.raiseAll _ _ _ _ _

theorem raise (src : Nat) (s : State) : R s.io (raise src s).io := h.ioRaise _ _ _ _
theorem notice (g : Nat) (s : State) : R s.io (notice g s).io := h.ioRaise _ _ _ _
theorem sticky (a bit : Nat) (s : State) : R s.io (sticky a bit s).io := h.trans (h.stk _ _ _) (h.ioRaise _ _ _ _)
theorem stickyIf (b : Bool) (a bit : Nat) (s : State) : R s.io (stickyIf b a bit s).io := by
  unfold Machine.stickyIf
  split
  · exact h.sticky a bit s
  · exact h.refl _
theorem perf (ev n : Nat) (s : State) : R s.io (perf ev n s).io := h.trans (h.ctrEvent _ _ _ _) (h.ioRaise _ _ _ _)
theorem emit (o : Output) (s : State) : R s.io (emit o s).io := h.out _ _
theorem stickyCount (a bit cnt : Nat) (s : State) : R s.io (stickyCount a bit cnt s).io := by
  simpa [Machine.stickyCount] using h.sticky a bit s

theorem withIo {f : Io → Io × List Nat} {s : State} (hf : R s.io (f s.io).1) : R s.io (withIo f s).io := h.trans hf (h.ioRaise _ _ _ _)

end IoRel

/-! ### Relations that a raise keeps -/

/-- What was sent stays sent. -/
theorem ioRel_out (o : Output) : IoRel fun io io' => o ∈ io.out → o ∈ io'.out where
  refl _ := id
  trans f g := g ∘ f
  ev _ _ _ _ _ := id
  told _ _ _ _ := id
  index _ _ _ _ := id
  fail _ _ _ := id
  vec _ _ _ _ _ _ := id
  ctr _ _ _ := id
  stk _ _ _ := id
  out _ _ := List.mem_cons_of_mem _

/-- Any field that raises leave alone. -/
theorem ioRel_of_eq {α : Type} (f : Io → α)
    (hev : ∀ io g e, f (ioSetEv io g e) = f io) (hring : ∀ io r x, f (ioSetRing io r x) = f io) (hvec : ∀ io v x, f (ioSetVec io v x) = f io)
    (hctr : ∀ io k x, f (ioSetCtr io k x) = f io) (hstk : ∀ io a w, f (ioSetStk io a w) = f io) (hout : ∀ io o, f (ioOut io o) = f io) :
    IoRel fun io io' => f io' = f io where
  refl _ := rfl
  trans p q := q.trans p
  ev _ _ _ _ _ := hev _ _ _
  told _ _ _ _ := hring _ _ _
  index _ _ _ _ := hring _ _ _
  fail _ _ _ := hring _ _ _
  vec _ _ _ _ _ _ := hvec _ _ _
  ctr _ _ _ := hctr _ _ _
  stk _ _ _ := hstk _ _ _
  out _ _ := hout _ _

/-- The state of the endpoint: the link, a DMA hold and what waits under it, the function mask, and the switches of the counters. -/
def endpoint (io : Io) : Bool × Nat × Nat × Bool × Bool × Bool × List (Nat × List Byte) × BitVec 4 × Bool :=
  (io.linkUp, io.speed, io.width, io.dmaHeld, io.fnMask, io.lost, io.dmaWait, io.appEn, io.frozen)

theorem ioRel_endpoint : IoRel fun io io' => endpoint io' = endpoint io :=
  ioRel_of_eq endpoint (fun _ _ _ => rfl) (fun _ _ _ => rfl) (fun _ _ _ => rfl) (fun _ _ _ => rfl) (fun _ _ _ => rfl) (fun _ _ => rfl)

/-- A raise leaves the mask of a vector. -/
theorem ioRel_masked (v : Nat) : IoRel fun io io' => (ioVec io' v).masked = (ioVec io v).masked where
  refl _ := rfl
  trans p q := q.trans p
  ev _ _ _ _ _ := rfl
  told _ _ _ _ := rfl
  index _ _ _ _ := rfl
  fail _ _ _ := rfl
  vec io i _ _ _ _ := by
    by_cases hi : v = i
    · simp [ioVec, ioSetVec, hi]
    · simp [ioVec, ioSetVec, Tab.get_put_ne _ _ _ hi]
  ctr _ _ _ := rfl
  stk _ _ _ := rfl
  out _ _ := rfl

/-- What a raise leaves of the setting of an event group. -/
theorem ioRel_enable (g : Nat) : IoRel fun io io' => (ioEv io' g).enable = (ioEv io g).enable ∧ (ioEv io' g).route = (ioEv io g).route where
  refl _ := ⟨rfl, rfl⟩
  trans p q := ⟨q.1.trans p.1, q.2.trans p.2⟩
  ev io i _ _ _ := by
    by_cases hi : g = i
    · simp [ioEv, ioSetEv, hi]
    · simp [ioEv, ioSetEv, Tab.get_put_ne _ _ _ hi]
  told _ _ _ _ := ⟨rfl, rfl⟩
  index _ _ _ _ := ⟨rfl, rfl⟩
  fail _ _ _ := ⟨rfl, rfl⟩
  vec _ _ _ _ _ _ := ⟨rfl, rfl⟩
  ctr _ _ _ := ⟨rfl, rfl⟩
  stk _ _ _ := ⟨rfl, rfl⟩
  out _ _ := ⟨rfl, rfl⟩

/-- Rings that differ in no more than the numbers of event entries written and dropped. -/
def RingKept (x y : Ring) : Prop := ∃ q d, y = { x with seq := q, drop := d }

theorem RingKept.refl (x : Ring) : RingKept x x := ⟨x.seq, x.drop, rfl⟩
theorem RingKept.trans {x y z : Ring} : RingKept x y → RingKept y z → RingKept x z := fun ⟨_, _, h⟩ ⟨q, d, g⟩ => ⟨q, d, by rw [g, h]⟩

theorem ioRing_set (io : Io) (r i : Nat) (x : Ring) : ioRing (ioSetRing io i x) r = if r = i then x else ioRing io r := by
  split
  next h => simp [ioRing, ioSetRing, h]
  next h => simp [ioRing, ioSetRing, Tab.get_put_ne _ _ _ h]

/-- A ring that does not run as an event ring is not written. -/
theorem ioRel_ring (r : Nat) : IoRel fun io io' => ringRuns 4 (ioRing io r) = false → RingKept (ioRing io r) (ioRing io' r) where
  refl _ _ := .refl _
  trans {a b c} p q ha := by
    obtain ⟨n, d, h⟩ := p ha
    have hb : ringRuns 4 (ioRing b r) = false := by rw [h]; exact ha
    exact (p ha).trans (q hb)
  ev _ _ _ _ _ _ := .refl _
  told io i q d _ := by
    rw [ioRing_set]
    split
    next h => exact h ▸ ⟨q, d, rfl⟩
    next => exact .refl _
  index io i d hi ha := by
    rw [ioRing_set, if_neg (by rintro rfl; simp [hi] at ha)]
    exact .refl _
  fail io i hi ha := by
    rw [ioRing_set, if_neg (by rintro rfl; simp [hi] at ha)]
    exact .refl _
  vec _ _ _ _ _ _ _ := .refl _
  ctr _ _ _ _ := .refl _
  stk _ _ _ _ := .refl _
  out _ _ _ := .refl _

end Sys2Proof.Machine
end

section
/-! SUPPORT. One part, one register or one sticky word, seen through operations whose scopes leave it. -/
namespace Sys2Proof.Machine
open Sys2Proof.Safety

/-- Everything may change but one part. -/
def butPart (p : Part) : Scope := ⟨allParts.filter (· ≠ p), [allBut []], [allBut []], true, true⟩

theorem mem_butPart_parts (p q : Part) : q ∈ allParts.filter (· ≠ p) ↔ q ≠ p := by simp

@[simp] theorem mem_butPart (p q : Part) : q ∈ (butPart p).parts ↔ q ≠ p := mem_butPart_parts p q
@[simp] theorem among_butPart_regs (p : Part) (a : Nat) : among (butPart p).regs a = true := among_everything a
@[simp] theorem among_butPart_stks (p : Part) (a : Nat) : among (butPart p).stks a = true := among_everything a
@[simp] theorem raises_butPart (p : Part) : (butPart p).Raises ↔ p ≠ .io :=
  ⟨fun h => ((mem_butPart p .io).1 h.io).symm, fun h => ⟨(mem_butPart p .io).2 h.symm, covers_everything _⟩⟩
@[simp] theorem butPart_otp (p : Part) : (butPart p).otp = true := rfl
@[simp] theorem butPart_signal (p : Part) : (butPart p).signal = true := rfl

@[simp] theorem le_butPart (p : Part) (q : List Part) (r k : List Fam) (o g : Bool) : Scope.Le ⟨q, r, k, o, g⟩ (butPart p) ↔ p ∉ q :=
  ⟨fun h hp => (mem_butPart p p).1 (h.parts p hp) rfl,
    fun h => ⟨fun x hx => (mem_butPart p x).2 fun e => h (e ▸ hx), covers_everything _, covers_everything _, fun _ => rfl, fun _ => rfl⟩⟩

/-- What an operation leaves of the parts. -/
theorem part_of_seen {p : Part} {s t : State} (h : seen (butPart p) t = seen (butPart p) s) : p.same s t :=
  (seen_eq_iff.1 h).parts p fun hp => (mem_butPart p p).1 hp rfl

/-- Everything may change but one register. -/
def butReg (a : Nat) : Scope := ⟨allParts, [allBut [a]], [allBut []], true, true⟩

theorem among_allBut (a b : Nat) : among [allBut [a]] b = !decide (b = a) := by simp [allBut]

@[simp] theorem mem_butReg (a : Nat) (q : Part) : q ∈ (butReg a).parts := mem_allParts q
@[simp] theorem among_butReg_regs (a b : Nat) : among (butReg a).regs b = !decide (b = a) := among_allBut a b
@[simp] theorem among_butReg_stks (a b : Nat) : among (butReg a).stks b = true := among_everything b
@[simp] theorem raises_butReg (a : Nat) : (butReg a).Raises := ⟨mem_butReg a .io, covers_everything _⟩
@[simp] theorem butReg_otp (a : Nat) : (butReg a).otp = true := rfl
@[simp] theorem butReg_signal (a : Nat) : (butReg a).signal = true := rfl

theorem covers_allBut (a : Nat) (L : List Fam) : Covers [allBut [a]] L ↔ among L a = false := by
  simp only [Covers, among_allBut, Bool.not_eq_true', decide_eq_false_iff_not]
  exact ⟨fun h => Bool.eq_false_iff.2 fun ha => h a ha rfl, fun h b hb e => by rw [e, h] at hb; cases hb⟩

@[simp] theorem le_butReg (a : Nat) (q : List Part) (r k : List Fam) (o g : Bool) : Scope.Le ⟨q, r, k, o, g⟩ (butReg a) ↔ among r a = false :=
  ⟨fun h => (covers_allBut a r).1 h.regs,
    fun h => ⟨fun x _ => mem_allParts x, (covers_allBut a r).2 h, covers_everything _, fun _ => rfl, fun _ => rfl⟩⟩

theorem rd_of_seen {a : Nat} {s t : State} (h : seen (butReg a) t = seen (butReg a) s) : rd t a = rd s a :=
  ((seen_eq_iff.1 h).regs a (by simp)).1

/-- Everything may change but one sticky word. -/
def butStk (a : Nat) : Scope := ⟨allParts, [allBut []], [allBut [a]], true, true⟩

@[simp] theorem mem_butStk (a : Nat) (q : Part) : q ∈ (butStk a).parts := mem_allParts q
@[simp] theorem among_butStk_regs (a b : Nat) : among (butStk a).regs b = true := among_everything b
@[simp] theorem among_butStk_stks (a b : Nat) : among (butStk a).stks b = !decide (b = a) := among_allBut a b
@[simp] theorem raises_butStk (a : Nat) : (butStk a).Raises ↔ among raised a = false :=
  ⟨fun h => (covers_allBut a raised).1 h.stks, fun h => ⟨mem_butStk a .io, (covers_allBut a raised).2 h⟩⟩
@[simp] theorem butStk_otp (a : Nat) : (butStk a).otp = true := rfl
@[simp] theorem butStk_signal (a : Nat) : (butStk a).signal = true := rfl

@[simp] theorem le_butStk (a : Nat) (q : List Part) (r k : List Fam) (o g : Bool) : Scope.Le ⟨q, r, k, o, g⟩ (butStk a) ↔ among k a = false :=
  ⟨fun h => (covers_allBut a k).1 h.stks,
    fun h => ⟨fun x _ => mem_allParts x, covers_everything _, (covers_allBut a k).2 h, fun _ => rfl, fun _ => rfl⟩⟩

theorem stk_of_seen {a : Nat} {s t : State} (h : seen (butStk a) t = seen (butStk a) s) : stk t a = stk s a :=
  (seen_eq_iff.1 h).stks a (by simp)

end Sys2Proof.Machine
end

section
/-! SUPPORT. Jobs and commands: how the executors run the job that is next, and what ends it (R241 to R256). -/
namespace Sys2Proof.Machine
open Sys2Proof.Safety

theorem flushLate_jobs (s : State) : (flushLate s).dsp.jobs = s.dsp.jobs := by simp [flushLate]

@[simp] theorem endJob_jobs (id : Nat) (s : State) : (endJob id s).dsp.jobs = s.dsp.jobs.filter (fun j => j.id ≠ id) := by
  simp [endJob, flushLate_jobs]

/-- The job that is next for an executor, where its row takes it. -/
theorem withJob_of_pick {e : Nat} {is : Job → Bool} {body : Job → State → State} {s : State} {j : Job}
    (hj : pickJob s e (fun _ => true) = some j) (his : is j = true) : withJob e is body s = body j (countInherited j s) := by
  simp [withJob, hj, his]

/-- The command that is next for an executor: its answer is its completion, and its job ends. -/
theorem withCmd_of_pick {e op : Nat} {f : List Byte → State → State × Nat × List Byte} {s : State} {j : Job} {c : Cmd}
    (hj : pickJob s e (fun _ => true) = some j) (hc : j.cmd = some c) (hop : c.opcode = op) :
    withCmd e op f s = endJob j.id (complete c (f (cmdBody j) (countInherited j s)).2.1 (f (cmdBody j) (countInherited j s)).2.2
      (f (cmdBody j) (countInherited j s)).1) := by
  rw [withCmd, withJob_of_pick hj (by simp [hc, hop])]
  simp [hc, completeOpt]

theorem activeOnly_of_active {f : List Byte → State → State × Nat × List Byte} {b : List Byte} {s : State} (h : s.crp.mode ≠ .standby) :
    activeOnly f b s = f b s := by
  simp [activeOnly, h]

@[simp] theorem taskOf_countInherited (j : Job) (s : State) (id : Nat) : taskOf (countInherited j s) id = taskOf s id := by simp [taskOf]
@[simp] theorem mach_countInherited (j : Job) (s : State) (m : Nat) : mach (countInherited j s) m = mach s m := by simp [mach]

theorem rd_countInherited {a : Nat} (h : among [dspCnt] a = false) (j : Job) (s : State) : rd (countInherited j s) a = rd s a :=
  rd_of_seen (countInherited_seen j s (by simpa using h))

@[simp] theorem putTasks_tsk (l : List Task) (s : State) : (putTasks l s).tsk = { s.tsk with tasks := l } := by simp [putTasks]

end Sys2Proof.Machine
end

section
/-! SUPPORT. The time unit: what its steps leave of the time, of its state and of what is planned (R299 to R309). -/
namespace Sys2Proof.Machine
open Sys2Proof.Safety

/-! ### The latch that a trigger sets -/

theorem nfSet_of_latched {s : State} (h : s.nfl.latch = .latched) : nfSet s = true := by simp [nfSet, h]

theorem nfTriggerWith_cause {cause : Nat} (hc : cause < 32) (extra : List Byte) (s : State) :
    bitAt (nfTriggerWith cause extra s).nfl.seen cause = true := by
  unfold nfTriggerWith
  dsimp only
  split
  · simp [nfLatch_nfl, bitAt_oneHot hc]
  · simp [nfLatch_nfl, bitAt_oneHot hc]
  · simp only [mirrorNfl_keeps, nfAgain]
    simp [bitAt_or, bitAt_oneHot hc, setNfl]
  · simp [bitAt_or, bitAt_oneHot hc]

theorem nfTrigger_cause {cause : Nat} (hc : cause < 32) (s : State) : bitAt (nfTrigger cause s).nfl.seen cause = true := by
  simpa [nfTrigger] using nfTriggerWith_cause hc [] s

/-- A trigger leaves every sticky word but those of its own indications. -/
theorem stk_nfTrigger {a : Nat} (h : among (one Reg.NFL_STICKY :: one Reg.REC_STICKY :: raised) a = false) (cause : Nat) (s : State) :
    stk (nfTrigger cause s) a = stk s a := stk_of_seen (nfTrigger_seen cause s (by simpa using h))

/-! ### Pulses -/

/-- The time unit without what its outputs have sent. -/
def pulseless (x : Tim) : Tim := { x with ppsLast := [], ppsEnd := [], tp := [] }

@[simp] theorem ppsFire_pulseless (n : Nat) (s : State) : pulseless (ppsFire n s).tim = pulseless s.tim := by
  unfold ppsFire
  dsimp only
  split
  · rw [show (emit _ _).tim = _ from rfl]
    rfl
  · rfl

@[simp] theorem tpFire_pulseless (k : Nat) (s : State) : pulseless (tpFire k s).tim = pulseless s.tim := by
  unfold tpFire
  dsimp only
  split <;> rfl

@[simp] theorem ppsStepOver_pulseless (n : Nat) (s : State) : pulseless (ppsStepOver n s).tim = pulseless s.tim := by
  unfold ppsStepOver
  dsimp only
  split <;> rfl

@[simp] theorem tpStepOver_pulseless (k : Nat) (s : State) : pulseless (tpStepOver k s).tim = pulseless s.tim := by
  unfold tpStepOver
  split
  · split
    · rfl
    · simp
  · rfl

/-- A fold of steps that change no more of the time unit than its pulses. -/
theorem foldl_pulseless {f : State → Nat → State} (h : ∀ s k, pulseless (f s k).tim = pulseless s.tim) (l : List Nat) (s : State) :
    pulseless (l.foldl f s).tim = pulseless s.tim :=
  List.foldlRecOn (motive := fun t : State => pulseless t.tim = pulseless s.tim) l f rfl fun t ht a _ => (h t a).trans ht

@[simp] theorem edgesDue_pulseless (s : State) : pulseless (edgesDue s).tim = pulseless s.tim := by
  unfold edgesDue
  rw [foldl_pulseless fun t k => by split <;> simp]
  simp

/-- A set of the counter changes the time, and the millisecond in which an increment was written. -/
theorem moveTime_pulseless (t : Nat) (s : State) : ∃ p r, pulseless (moveTime t s).tim =
    pulseless { s.tim with now := t, pendIncr := p, rtcSec := r } := by
  refine ⟨s.tim.pendIncr.map (fun p => (p.1, min p.2 (msIdx (t - 1)))), secOf (t - 1), ?_⟩
  unfold moveTime
  dsimp only
  split
  · rw [foldl_pulseless fun t k => tpStepOver_pulseless k t, ppsStepOver_pulseless, ppsStepOver_pulseless]
    rfl
  · rfl

/-- What two time units without their pulses have in common. -/
theorem pulseless_fields {x y : Tim} (h : pulseless x = pulseless y) : x.now = y.now ∧ x.state = y.state ∧ x.mirror = y.mirror ∧
    x.step = y.step ∧ x.tLoss = y.tLoss ∧ x.bb = y.bb := by
  simp only [pulseless, Tim.mk.injEq] at h
  obtain ⟨hnow, -, hstate, -, -, -, -, -, hloss, -, -, -, -, hstep, -, -, -, -, -, -, -, -, hbb, -, -, -, -, -, -, -, hmirror, -⟩ := h
  exact ⟨hnow, hstate, hmirror, hstep, hloss, hbb⟩

theorem moveTime_fields (t : Nat) (s : State) : (moveTime t s).tim.now = t ∧ (moveTime t s).tim.state = s.tim.state ∧
    (moveTime t s).tim.mirror = s.tim.mirror ∧ (moveTime t s).tim.step = s.tim.step := by
  obtain ⟨p, r, h⟩ := moveTime_pulseless t s
  obtain ⟨hnow, hstate, hmirror, hstep, -⟩ := pulseless_fields h
  exact ⟨hnow, hstate, hmirror, hstep⟩

/-! ### Sticky bits of time -/

theorem stkSet_timCheckBound {s : State} {bit : Nat} (h : stkSet s Reg.TIM_STICKY bit) : stkSet (timCheckBound s) Reg.TIM_STICKY bit := by
  unfold timCheckBound
  dsimp only
  split
  · rw [stkSet, stk_nfTrigger (by decide)]
    exact sticky_holds _ _ _ _ _ h
  · exact h

theorem stkSet_enterHoldover {s : State} {bit : Nat} (h : stkSet s Reg.TIM_STICKY bit) : stkSet (enterHoldover s) Reg.TIM_STICKY bit := by
  unfold enterHoldover
  refine stkSet_timCheckBound ?_
  rw [stkSet, stk_of_seen (toHoldover_seen _ (by simp)), stk_of_seen (recHoldover_seen _ (by simp; decide))]
  exact sticky_holds _ _ _ _ _ h

end Sys2Proof.Machine
end

section
/-! SUPPORT. A completion from its final state, and fields of words: what a field reads after it, or another, is set. -/
namespace Sys2Proof.Machine
open Sys2Proof.Safety

/-- A command completes with the state that it makes. -/
theorem completes_of {i : Instr} {s t : State} {P : State → Prop} (h : exec i s = .next t) (hP : P t) : Completes i s P := ⟨t, h, hP⟩

theorem getLsbD_setBits (w : Word) {hi lo : Nat} (v : Nat) (h : hi < 32) (i : Nat) :
    (setBits w hi lo v).getLsbD i = if lo ≤ i ∧ i ≤ hi then v.testBit (i - lo) else w.getLsbD i := by
  have hmask : (BitVec.ofNat 32 ((2 ^ (hi + 1 - lo) - 1) <<< lo)).getLsbD i = decide (lo ≤ i ∧ i ≤ hi) := by
    simp only [BitVec.getLsbD_ofNat, Nat.testBit_shiftLeft, Nat.testBit_two_pow_sub_one, ← Bool.decide_and, decide_eq_decide]
    omega
  by_cases hi32 : i < 32
  · simp only [setBits, BitVec.getLsbD_or, BitVec.getLsbD_and, BitVec.getLsbD_not, hmask, hi32]
    split
    next hin => simp [hin, hi32, BitVec.getLsbD_ofNat, Nat.testBit_shiftLeft, -BitVec.getLsbD_eq_getElem]
    next hout => simp [hout]
  · rw [BitVec.getLsbD_of_ge _ _ (by omega), BitVec.getLsbD_of_ge _ _ (by omega), if_neg (by omega)]

theorem testBit_bits (w : Word) (hi lo i : Nat) : (bits w hi lo).testBit i = (decide (i < hi + 1 - lo) && w.getLsbD (lo + i)) := by
  simp only [bits, Nat.testBit_mod_two_pow, Nat.testBit_shiftRight, BitVec.getLsbD]

theorem bits_setBits_same (w : Word) {hi lo v : Nat} (h : hi < 32) (hv : v < 2 ^ (hi + 1 - lo)) : bits (setBits w hi lo v) hi lo = v := by
  refine Nat.eq_of_testBit_eq fun i => ?_
  rw [testBit_bits, getLsbD_setBits w v h]
  by_cases hin : i < hi + 1 - lo
  · simp [hin, show lo + i ≤ hi by omega]
  · simp [hin, Nat.testBit_lt_two_pow (hv.trans_le (Nat.pow_le_pow_right (by decide) (Nat.not_lt.1 hin)))]

theorem bits_setBits_other (w : Word) {hi lo hi' lo' : Nat} (v : Nat) (h : hi < 32) (hd : hi' < lo ∨ hi < lo') :
    bits (setBits w hi lo v) hi' lo' = bits w hi' lo' := by
  refine Nat.eq_of_testBit_eq fun i => ?_
  rw [testBit_bits, testBit_bits, getLsbD_setBits w v h]
  by_cases hin : i < hi' + 1 - lo'
  · rw [if_neg (by omega)]
  · simp [hin]

theorem bitAt_setBits_same (w : Word) {i : Nat} (v : Nat) (h : i < 32) : bitAt (setBits w i i v) i = v.testBit 0 := by
  simp [bitAt, getLsbD_setBits w v h]

theorem bits_lt (w : Word) (hi lo : Nat) : bits w hi lo < 2 ^ (hi + 1 - lo) := Nat.mod_lt _ (Nat.two_pow_pos _)

theorem bits_ofNat {n hi lo : Nat} : bits (BitVec.ofNat 32 n) hi lo = (n % 2 ^ 32) >>> lo % 2 ^ (hi + 1 - lo) := by simp [bits]

end Sys2Proof.Machine
end

section
/-! SUPPORT. Rings under a doorbell and under an enable (R354, R356). -/
namespace Sys2Proof.Machine
open Sys2Proof.Safety

@[simp] theorem ring_setRing_same (r : Nat) (x : Ring) (s : State) : ring (setRing r x s) r = x := Tab.get_put_same _ _ _ _

theorem ring_perf {r : Nat} {s : State} (h : ringRuns 4 (ring s r) = false) (ev n : Nat) : RingKept (ring s r) (ring (perf ev n s) r) :=
  (ioRel_ring r).perf ev n s h

theorem ring_sticky {r : Nat} {s : State} (h : ringRuns 4 (ring s r) = false) (a bit : Nat) : RingKept (ring s r) (ring (sticky a bit s) r) :=
  (ioRel_ring r).sticky a bit s h

/-- A ring in ERROR keeps its code while the errors are told. -/
theorem ring_ringError (r code : Nat) (s : State) :
    (ring (ringError r code s) r).state = .error ∧ (ring (ringError r code s) r).err = code ∧ stkSet (ringError r code s) Reg.HIF_STICKY 0 := by
  obtain ⟨q, d, h⟩ := ring_sticky (r := r) (s := setRing r { ring s r with state := .error, err := code } s) (by simp [ringRuns]) Reg.HIF_STICKY 0
  rw [ring_setRing_same] at h
  exact ⟨by rw [ringError, h], by rw [ringError, h], sticky_sets _ (by decide) _⟩

theorem ringRuns_of_hostProduced {x : Ring} (h : ringHostProduced x = true) : ringRuns 4 x = false := by
  simp only [ringHostProduced, Bool.or_eq_true, decide_eq_true_eq] at h
  simp only [ringRuns, Bool.and_eq_false_imp, decide_eq_false_iff_not]
  omega

/-- A ring configured as one of completions or events, or of commands under a running completion ring, starts. -/
theorem execRingEnable_starts {s : State} {r : Nat} {w : Word} (hr : r < 256) (hen : bitAt w 0 = true) (hoff : ringEn (ring s r) = false)
    (hres : ringCfgReserved s (w &&& ringCfgMask) = false)
    (hcpl : (bits (w &&& ringCfgMask) 3 1 = 1 ∨ bits (w &&& ringCfgMask) 3 1 = 5) →
      ringEn (ring s (bits (w &&& ringCfgMask) 15 8)) = true ∧ ringKind (ring s (bits (w &&& ringCfgMask) 15 8)) = 2) :
    exec (.ringEnable r w) s =
      .next (setRing r { ring s r with cfg := w &&& ringCfgMask, state := .run, err := 0, dev := 0, host := 0, drop := 0 } s) := by
  have hr' : ¬ 256 ≤ r := by omega
  have hno : ¬ ((bits (w &&& ringCfgMask) 3 1 = 1 ∨ bits (w &&& ringCfgMask) 3 1 = 5) ∧ (ringEn (ring s (bits (w &&& ringCfgMask) 15 8)) &&
      decide (ringKind (ring s (bits (w &&& ringCfgMask) 15 8)) = 2)) = false) := fun ⟨hk, h⟩ => by simp [hcpl hk] at h
  have hen' : bitAt (w &&& ringCfgMask) 0 = true := by simpa [bitAt, ringCfgMask] using hen
  show execRingEnable r w s = _
  simp only [execRingEnable, hr', hen', hoff, hres, hno, or_self, if_false, Bool.false_eq_true, Bool.true_eq_false]

end Sys2Proof.Machine
end
section
open Sys2Proof Sys2Proof.Machine Sys2Proof.Safety
/-- Settles O28: a doorbell moves the host index or stops the ring, and no event that it raises writes that ring. -/
theorem ringsComplete : Obligations.RingsComplete := by
  refine ⟨fun s r h hr hrun hkind hgap hfill => ?_, fun s r h hr hrun hgap => ?_, fun s r w hr hen hoff hres h1 h5 => ?_,
    fun s r w hr hen hoff hres hc hk => ?_, fun s r hr hen => ?_⟩
  · have hr' : ¬ 256 ≤ r := by omega
    have hexec : exec (.doorbell r h) s = .next (perf 0x180 1 (setRing r { ring s r with host := h.toNat } s)) := by
      show execDoorbell r h s = _
      simp only [execDoorbell, hr', hrun, hkind, if_true, Nat.not_le.2 hgap, Nat.not_lt.2 hfill, if_false, not_true, or_self, ne_eq]
    obtain ⟨q, d, ht⟩ := ring_perf (r := r) (s := setRing r { ring s r with host := h.toNat } s)
      (by simpa using ringRuns_of_hostProduced (x := { ring s r with host := h.toNat }) hkind) 0x180 1
    rw [ring_setRing_same] at ht
    exact ⟨_, hexec, by rw [ht], by rw [ht]; exact hrun⟩
  · have hr' : ¬ 256 ≤ r := by omega
    have hexec : exec (.doorbell r h) s = .next (ringError r 2 s) := by
      show execDoorbell r h s = _
      simp only [execDoorbell, hr', hrun, hgap, if_true, if_false, not_true, or_self, ne_eq]
    exact ⟨_, hexec, ring_ringError r 2 s⟩
  · exact ⟨_, execRingEnable_starts hr hen hoff hres fun hk => by omega, by simp⟩
  · exact ⟨_, execRingEnable_starts hr hen hoff hres fun _ => ⟨hc, hk⟩, by simp⟩
  · have hr' : ¬ 256 ≤ r := by omega
    have hexec : exec (.ringDisable r) s = .next (setRing r { ring s r with cfg := (ring s r).cfg &&& 0xFFFFFFFE#32, state := .disabled, err := 0 } s) := by
      show execRingDisable r s = _
      simp only [execRingDisable, hr', hen, if_false, or_self, Bool.true_eq_false]
    exact ⟨_, hexec, by simp, by simp [ringEn, bitAt]⟩
end

section
/-! SUPPORT. A device that holds one job. -/
namespace Sys2Proof.Machine

/-- One job is held, as it is after power-on once the host has sent a command. -/
def oneHeld : State :=
  { State.reset with dsp := { State.reset.dsp with jobs := [⟨0, .hostCmd, 1088, 3, 0, false, none, none, none, 0, .body [], none⟩] } }

theorem held_oneHeld : held oneHeld = 1 := rfl

theorem rd_dspClearMax {s t : State} (h : exec .dspClearMax s = .next t) : rd t Reg.DSP_HELD_MAX = BitVec.ofNat 32 (held s) := by
  obtain rfl : wr Reg.DSP_HELD_MAX (BitVec.ofNat 32 (held s)) s = t := Host.Outcome.next.inj h
  exact rd_wr_same _ _ _

end Sys2Proof.Machine
end
section
open Sys2Proof Sys2Proof.Machine Sys2Proof.Safety
/-- Refutes O29: CLEAR_MAX sets DSP_HELD_MAX to the number of jobs held, which is 1 where one is held, and not to 0. -/
theorem not_hostCommandsComplete : ¬ Obligations.HostCommandsComplete := by
  intro h
  obtain ⟨-, -, -, -, hclear, -⟩ := h
  obtain ⟨t, hexec, hzero, -⟩ := hclear oneHeld
  rw [rd_dspClearMax hexec, held_oneHeld] at hzero
  exact absurd hzero (by decide)
end

section
/-! SUPPORT. The task board: what its commands and the allotment make of the tasks (R257 to R260). -/
namespace Sys2Proof.Machine
open Sys2Proof.Safety

theorem bestTask_mem {l : List Task} {k : Task} (h : bestTask l = some k) : k ∈ l := by
  have hfold (m : List Task) (b : Option Task) (hb : ∀ x, b = some x → x ∈ l) (hm : ∀ x ∈ m, x ∈ l) :
      ∀ x, m.foldl (fun b t => match b with | none => some t | some b => some (if t.prio < b.prio then t else b)) b = some x → x ∈ l := by
    induction m generalizing b with
    | nil => exact hb
    | cons t m ih =>
      refine ih _ (fun x hx => ?_) fun x hx => hm x (List.mem_cons_of_mem _ hx)
      cases b with
      | none => exact Option.some.inj hx ▸ hm t List.mem_cons_self
      | some b =>
        obtain rfl := Option.some.inj hx
        split
        · exact hm t List.mem_cons_self
        · exact hb b rfl
  exact hfold l none (fun x hx => nomatch hx) (fun x hx => hx) k h

theorem taskRecord_tsk (t : Task) (ev status : Nat) (s : State) : (taskRecord t ev status s).tsk = s.tsk :=
  part_of_seen (p := .tsk) (taskRecord_seen t ev status s (by simp))

theorem taskRecord_dsp (t : Task) (ev status : Nat) (s : State) : (taskRecord t ev status s).dsp = s.dsp :=
  part_of_seen (p := .dsp) (taskRecord_seen t ev status s (by simp))

/-- The task whose id is changed alone is found changed. -/
theorem find_map_task {l : List Task} {id : Nat} {k : Task} (h : l.find? (fun t => t.id = id) = some k) (f : Task → Task)
    (hf : ∀ t, (f t).id = t.id) : (l.map fun t => if t.id = id then f t else t).find? (fun t => t.id = id) = some (f k) := by
  induction l with
  | nil => exact nomatch h
  | cons t l ih =>
    by_cases ht : t.id = id
    · obtain rfl : t = k := by simpa [ht] using h
      simp [ht, hf]
    · simpa [ht] using ih (by simpa [ht] using h)

theorem id_of_taskOf {s : State} {id : Nat} {k : Task} (h : taskOf s id = some k) : k.id = id := by
  simpa using List.find?_some h

theorem taskCtrlIs_of_pick {s : State} {j : Job} (hj : pickJob s 5 (fun _ => true) = some j) (r : Bool) :
    taskCtrlIs r s = decide ((leAt (cmdBody j) 4 1 = 1) = (r = true)) := by
  simp [taskCtrlIs, hj]

theorem taskEnqueue_ok {b : List Byte} {s : State} (hroom : s.tsk.tasks.length < 65536) (hid : leAt b 0 4 ≠ 0xFFFFFFFF)
    (hchain : leAt b 4 2 ≤ 4095) (hprio : leAt b 6 1 ≤ 7) (hlen : leAt b 12 2 ≤ 64) (hnew : taskOf s (leAt b 0 4) = none) :
    taskEnqueue b s = (inc (Reg.TSK_CNT 0) 1 (putTasks (s.tsk.tasks ++
      [⟨leAt b 0 4, leAt b 4 2, leAt b 6 1, leAt b 8 4, (b.drop 16).take (leAt b 12 2), .queued, none, 0⟩]) s), 0, []) := by
  simp [taskEnqueue, Nat.not_le.2 hroom, hid, Nat.not_lt.2 hchain, Nat.not_lt.2 hprio, Nat.not_lt.2 hlen, hnew]

theorem taskCancel_ok {b : List Byte} {s : State} {k : Task} (hop : leAt b 4 1 = 0) (hk : taskOf s (leAt b 0 4) = some k) :
    taskCancel b s = (taskRecord k 5 0 (inc (Reg.TSK_CNT 3) 1 (dropTask k.id s)), 0, []) := by
  simp [taskCancel, hop, hk]

theorem taskRequeue_ok {b : List Byte} {s : State} {k : Task} (hk : taskOf s (leAt b 0 4) = some k) (hst : k.state = .assigned) :
    taskRequeue b s = (taskRecord k 6 0 (inc (Reg.TSK_CNT 5) 1 (setTask k.id .queued none s)), 0, []) := by
  simp [taskRequeue, hk, hst]

@[simp] theorem allottable_countInherited (j : Job) (s : State) (cls : Nat) : allottable (countInherited j s) cls = allottable s cls :=
  funext fun t => by simp [allottable, chainHead]

/-- A machine that holds no task is given the best that it may do. -/
theorem allot_ok {m gen reported : Nat} {s : State} {k : Task} (hfree : taskHeld s m = none) (hon : flag s Reg.TSK_CTRL 0 = true)
    (hk : bestTask (s.tsk.tasks.filter (allottable s (mach s m).entry.cls)) = some k) :
    ∃ t, allot m gen reported s = t ∧ t.dsp = s.dsp ∧ t.tsk.tasks = s.tsk.tasks.map fun x =>
      if x.id = k.id then { x with state := .assigned, holder := some m, assigned := s.tim.now } else x := by
  refine ⟨_, rfl, ?_⟩
  have hsettle : taskSettle m gen reported s = s := by simp [taskSettle, hfree]
  simp only [allot, hsettle, hfree, hon, hk, Option.isSome_none, Bool.false_eq_true, if_false, Bool.not_true]
  constructor
  · rw [taskRecord_dsp]
    exact part_of_seen (p := .dsp) (by simp)
  · rw [taskRecord_tsk, show (sendTask _ _ _ _).tsk = _ from part_of_seen (p := .tsk) (sendTask_seen _ _ _ _ (by simp))]
    simp [assignTask]

end Sys2Proof.Machine
end
section
open Sys2Proof Sys2Proof.Machine Sys2Proof.Safety
/-- Settles O30: each command edits the list of tasks as Table 8.4 says, and the completion and the record that follow leave it. -/
theorem taskBoardCompletes : Obligations.TaskBoardCompletes := by
  refine ⟨fun s j c => ?_, fun s j c k hj hc hop hmode h0 hk => ?_, fun s j c k hj hc hop hmode h1 hk hst => ?_,
    fun s j id e g k hj hkind hwork hon hfree hk => ?_⟩
  · intro b hj hc hop hmode hroom hid hchain hprio hlen hnew
    have hok := taskEnqueue_ok (s := countInherited j s) (b := cmdBody j) (by simpa using hroom) hid hchain hprio hlen (by simpa using hnew)
    refine ⟨_, congrArg Host.Outcome.next (withCmd_of_pick hj hc hop), ?_⟩
    simp [activeOnly_of_active, hmode, hok, b]
  · have hok := taskCancel_ok (s := countInherited j s) (b := cmdBody j) h0 (by simpa using hk)
    have hrow : taskCtrlIs false s = true := by simp [taskCtrlIs_of_pick hj, h0]
    refine ⟨_, congrArg Host.Outcome.next ((if_pos hrow).trans (withCmd_of_pick hj hc hop)), ?_⟩
    simp [activeOnly_of_active, hmode, hok, taskRecord_tsk, dropTask]
  · have hok := taskRequeue_ok (s := countInherited j s) (b := cmdBody j) (by simpa using hk) hst
    have hrow : taskCtrlIs true s = true := by simp [taskCtrlIs_of_pick hj, h1]
    refine ⟨_, congrArg Host.Outcome.next ((if_pos hrow).trans (withCmd_of_pick hj hc hop)), ?_⟩
    have hid := id_of_taskOf hk
    simp only [taskOf, activeOnly_of_active, hmode, hok, taskRecord_tsk, setTask, endJob_keeps, complete_keeps, inc_keeps, putTasks_tsk,
      countInherited_keeps, ne_eq, not_false_eq_true]
    exact find_map_task (hid ▸ hk) (fun t => { t with state := .queued, holder := none }) fun _ => rfl
  · obtain ⟨t, ht, hdsp, htasks⟩ := allot_ok (m := j.flow) (gen := g) (reported := id) (s := countInherited j s) (k := k)
      (by simpa [taskHeld] using hfree) (by rwa [flag, rd_countInherited (by decide)])
      (by simpa using hk)
    refine ⟨endJob j.id t, ?_, ?_, ?_⟩
    · show Host.Outcome.next _ = _
      rw [withJob_of_pick hj (by simp [hkind]), hwork]
      simp only [ht]
    · simp only [endJob_keeps, htasks, List.any_map]
      exact List.any_eq_true.2 ⟨k, by simpa using List.mem_of_mem_filter (bestTask_mem hk), by simp⟩
    · simp [hdsp]
end

section
/-! SUPPORT. Events, vectors and the PCIe endpoint (R348, R349, R369, R370). -/
namespace Sys2Proof.Machine
open Sys2Proof.Safety

theorem ioVec_set_same (io : Io) (v : Nat) (x : Vec) : ioVec (ioSetVec io v x) v = x := Tab.get_put_same _ _ _ _

theorem deliverMask_rel {R : Io → Io → Prop} (h : IoRel R) (g : Nat) (w : Word) (s : State) : R s.io (deliverMask g w s).io := by
  refine List.foldlRecOn (motive := fun t : State => R s.io t.io) _ _ (h.refl _) fun t ht b _ => ?_
  split
  · exact h.trans ht (h.withIo (h.deliver _ _ _ _ _))
  · exact ht

/-- A vector that nothing masks or holds sends its message. -/
theorem vecTrigger_sends {now : Nat} {c : Bool} {v : Nat} {io : Io} (hmask : (ioVec io v).masked = false) (hfn : io.fnMask = false)
    (hdma : io.dmaHeld = false) (hlost : io.lost = false) (hhold : (ioVec io v).holding = false) : Output.msix v ∈ (vecTrigger now c v io).1.out := by
  simp only [vecTrigger, hmask, hfn, hdma, hlost, hhold, Bool.or_self, Bool.false_eq_true, if_false]
  exact (ioRel_out _).ctrEvent _ _ _ _ (List.mem_cons_self ..)

theorem withIo_sends {o : Output} {f : Io → Io × List Nat} {s : State} (h : o ∈ (f s.io).1.out) : o ∈ (withIo f s).io.out :=
  (ioRel_out o).ioRaise _ _ _ _ h

/-- Under the function mask a message only waits. -/
theorem withIo_vecTrigger_fnMask {s : State} (h : s.io.fnMask = true) (now : Nat) (c : Bool) (v : Nat) :
    withIo (vecTrigger now c v) s = { s with io := ioSetVec s.io v { ioVec s.io v with pba := true } } := by
  simp [withIo, vecTrigger, h, ioRaise, raiseAll]

theorem sendPending_rel {R : Io → Io → Prop} (h : IoRel R) (s : State) : R s.io (sendPending s).io :=
  List.foldlRecOn (motive := fun t : State => R s.io t.io) _ _ (h.refl _) fun _ ht _ _ => h.trans ht (h.withIo (h.vecTrigger _ _ _ _))

/-! ### DMA held and resumed -/

theorem foldl_emit_out {α : Type} (f : α → Output) (l : List α) {o : Output} {s : State} (h : o ∈ s.io.out ∨ ∃ x ∈ l, o = f x) :
    o ∈ (l.foldl (fun s x => emit (f x) s) s).io.out := by
  induction l generalizing s with
  | nil => simpa using h
  | cons x l ih =>
    refine ih ?_
    rcases h with h | ⟨y, hy, rfl⟩
    · exact .inl (List.mem_cons_of_mem _ h)
    · rcases List.mem_cons.1 hy with rfl | hy
      · exact .inl (List.mem_cons_self ..)
      · exact .inr ⟨y, hy, rfl⟩

/-- What DMA held back reaches its address. -/
theorem mem_out_dmaFlush {s : State} (hlost : s.io.lost = false) {x : Nat × List Byte} (hx : x ∈ s.io.dmaWait) :
    Output.dma x.1 x.2 ∈ (dmaFlush s).io.out := by
  unfold dmaFlush
  extract_lets l _ u v
  have hout : Output.dma x.1 x.2 ∈ v.io.out := by
    have hu : u.io.lost = false := hlost
    simp only [v, hu, Bool.false_eq_true, if_false]
    exact foldl_emit_out _ _ (.inr ⟨x, hx, rfl⟩)
  split
  · exact List.mem_cons_of_mem _ hout
  · exact hout

theorem dmaFlush_dsp (s : State) : (dmaFlush s).dsp = s.dsp := part_of_seen (p := .dsp) (dmaFlush_seen s (by simp))

theorem mem_out_flushRing {o : Output} {s : State} (r : Nat) (h : o ∈ s.io.out) : o ∈ (flushRing s r).io.out := by
  have hentries (l : List (List Byte)) (t : State) (ht : o ∈ t.io.out) : o ∈ (l.foldl (fun s e =>
      if ringRuns 2 (ring s r) && decide (ringFill (ring s r) < ringSize (ring s r)) then
        perf 0x181 1 (setRing r { ring s r with dev := ((ring s r).dev + 1) % 2 ^ 32 } (emit (.ringEntry r (ringEntryAddr (ring s r) (ring s r).dev) e) s))
      else sticky Reg.HIF_STICKY 5 (setRing r { ring s r with drop := min ((ring s r).drop + 1) 0xFFFFFFFF } s)) t).io.out := by
    refine List.foldlRecOn (motive := fun u : State => o ∈ u.io.out) _ _ ht fun u hu e _ => ?_
    split
    · exact (ioRel_out o).perf _ _ _ (List.mem_cons_of_mem _ hu)
    · exact (ioRel_out o).sticky _ _ _ hu
  unfold flushRing
  dsimp only
  split
  · exact h
  split
  · exact withIo_sends h
  · split
    · exact hentries _ _ h
    · exact hentries _ _ h

/-- Once DMA is allowed again nothing that was sent is lost. -/
theorem execDmaResume_resumes {s : State} (h : s.io.dmaHeld = true) : ∃ t, exec .dmaResume s = .next t ∧ t.io.dmaHeld = false ∧
    ∀ o ∈ (dmaFlush s).io.out, o ∈ t.io.out := by
  refine ⟨_, congrArg Host.Outcome.next (if_neg (by simp [h])), ?_, fun o ho => ?_⟩
  · exact congrArg (fun e => e.2.2.2.1) (sendPending_rel ioRel_endpoint _)
  · refine sendPending_rel (ioRel_out o) _ ?_
    refine List.foldlRecOn (motive := fun t : State => o ∈ t.io.out) _ _ ?_ fun t ht r _ => ?_
    · exact List.foldlRecOn (motive := fun t : State => o ∈ t.io.out) _ _ ho fun t ht r _ => mem_out_flushRing r ht
    · split
      · exact List.mem_cons_of_mem _ ht
      · exact ht

end Sys2Proof.Machine
end
section
open Sys2Proof Sys2Proof.Machine Sys2Proof.Safety
/-- Settles O31: an enable, a vector's moderation and masks, and what a PCIe reset or a hold of DMA leaves to be sent. -/
theorem eventsComplete : Obligations.EventsComplete := by
  refine ⟨fun s g w hg => ?_, fun s v hhold hdue hagain => ?_, fun s v hhold hdue hagain hmask hfn hdma hlost => ?_,
    fun s v hv hmask hpba hhold hfn hdma hlost => ?_, fun s v hv hfn => ?_, fun s => ⟨_, rfl, rfl, rfl, rfl⟩,
    fun s v x hdma hlost hvec hpba hmask hhold => ?_, fun s => ?_, fun s hdma => ?_, fun s hdma => ?_⟩
  · refine ⟨_, congrArg Host.Outcome.next (if_neg (Nat.not_le.2 hg)), ?_⟩
    refine (deliverMask_rel (ioRel_enable g) _ _ _).1.trans ?_
    simp [ioEv, ioSetEv]
  · have hexec : exec (.vectorModerationEnd v) s = .next { s with io := ioSetVec s.io v { ioVec s.io v with holding := false, again := false } } := by
      show execVectorModerationEnd v s = _
      simp [execVectorModerationEnd, hhold, hdue, hagain]
    exact ⟨_, hexec, by rw [ioVec_set_same], rfl⟩
  · have hexec : exec (.vectorModerationEnd v) s = .next (withIo (vecTrigger s.tim.now (chained s) v)
        { s with io := ioSetVec s.io v { ioVec s.io v with holding := false, again := false } }) := by
      show execVectorModerationEnd v s = _
      simp only [execVectorModerationEnd, hhold, hdue, hagain, Bool.not_true, Bool.or_self, Bool.false_eq_true, if_false, if_true]
      rfl
    refine ⟨_, hexec, withIo_sends (vecTrigger_sends ?_ hfn hdma hlost ?_)⟩
    · rw [ioVec_set_same, hmask]
    · rw [ioVec_set_same]
  · have hexec : exec (.msixUnmask (.vector v)) s = .next (withIo (vecTrigger s.tim.now (chained s) v)
        { s with io := ioSetVec s.io v { ioVec s.io v with masked := false } }) := by
      show execMsixUnmask (.vector v) s = _
      simp [execMsixUnmask, Nat.not_le.2 hv, hmask, hpba]
    refine ⟨_, hexec, ?_, withIo_sends (vecTrigger_sends ?_ hfn hdma hlost ?_)⟩
    · rw [(ioRel_masked v).withIo ((ioRel_masked v).vecTrigger _ _ _ _), ioVec_set_same]
    · rw [ioVec_set_same]
    · rw [ioVec_set_same, hhold]
  · by_cases hmask : (ioVec s.io v).masked = true
    · refine ⟨_, congrArg Host.Outcome.next (if_neg (by simp [hmask, hv])), ?_⟩
      extract_lets _ u
      have hu : (ioVec u.io v).masked = false ∧ (ioVec u.io v).pba = (ioVec s.io v).pba := by
        simp only [u, ioVec_set_same]
        exact ⟨trivial, rfl⟩
      split
      next hpba =>
        rw [withIo_vecTrigger_fnMask (s := u) hfn]
        simp only [ioVec_set_same, hu, hpba, true_and]
        rfl
      next => exact ⟨hu.1, hu.2, rfl⟩
    · rw [Bool.not_eq_true] at hmask
      exact ⟨_, congrArg Host.Outcome.next (if_pos (.inr hmask)), hmask, rfl, rfl⟩
  · have hv : ioVec { s.io with fnMask := false } v = x := by simp [ioVec, hvec, Tab.get]
    have hexec : exec (.msixUnmask (.function false)) s =
        .next (withIo (vecTrigger s.tim.now (chained s) v) { s with io := { s.io with fnMask := false } }) := by
      show execMsixUnmask (.function false) s = _
      simp [execMsixUnmask, sendPending, hvec, hpba, hmask, chained]
    refine ⟨_, hexec, ?_, withIo_sends (vecTrigger_sends ?_ rfl hdma hlost ?_)⟩
    · have hkept (t : State) : endpoint (withIo (vecTrigger s.tim.now (chained s) v) t).io = endpoint t.io :=
        ioRel_endpoint.withIo (ioRel_endpoint.vecTrigger _ _ _ t.io)
      exact congrArg (fun e => e.2.2.2.2.1) (hkept _)
    · rw [hv, hmask]
    · rw [hv, hhold]
  · refine ⟨_, rfl, rfl, rfl, rfl, rfl, rfl, fun hlost x hx => mem_out_dmaFlush hlost hx, ?_, ?_, ?_⟩
    · simp [stk]
    · simp [dmaFlush_dsp, Function.comp_def]
    · simp only [dmaFlush_dsp, List.all_map, List.all_eq_true, Function.comp_apply]
      intro j _
      cases j.cmd <;> rfl
  · refine ⟨_, congrArg Host.Outcome.next (if_neg (by simp [hdma])), ?_, sticky_sets _ (by decide) _⟩
    exact congrArg (fun e => e.2.2.2.1) (ioRel_endpoint.sticky Reg.HIF_STICKY 7 { s with io := { s.io with dmaHeld := true } })
  · obtain ⟨t, ht, hheld, hout⟩ := execDmaResume_resumes hdma
    refine ⟨t, ht, hheld, ?_, fun hlost x hx => hout _ (mem_out_dmaFlush hlost hx)⟩
    have hseen := execDmaResume_seen (F := butPart .dsp) s s (by simp)
    rw [show execDmaResume s = .next t from ht] at hseen
    exact part_of_seen hseen
end

section
/-! SUPPORT. A set of the counter (R302). -/
namespace Sys2Proof.Machine
open Sys2Proof.Safety

/-- The state that a set of the counter to `T` leaves, in FREE. -/
def counterSet (T : Nat) (s : State) : State :=
  timCheckBound (moveTime T (setTim { s.tim with mirror := none, state := .free, tLoss := none, step := none, termEnd := none } s))

theorem counterSet_tim (T : Nat) (s : State) : (counterSet T s).tim.state = .free ∧ (counterSet T s).tim.now = T := by
  obtain ⟨hnow, hstate, -⟩ := moveTime_fields T
    (setTim { s.tim with mirror := none, state := .free, tLoss := none, step := none, termEnd := none } s)
  simp only [counterSet, timCheckBound_tim]
  exact ⟨hstate, hnow⟩

theorem execTimSetNs_next {s : State} {w : Word} (hns : bits w 29 0 ≤ 999999999) (hmode : timState s = .free ∨ s.crp.mode = .maintain) :
    exec (.timSetNs w) s = .next (counterSet
      ((((rd s Reg.TIM_SET_S_LO).toNat + 2 ^ 32 * (rd s Reg.TIM_SET_S_HI).toNat) * 1000000000 + bits w 29 0) * tNs) s) := by
  show execTimSetNs w s = _
  simp only [execTimSetNs, Nat.not_lt.2 hns, hmode, if_false, if_true, counterSet]

end Sys2Proof.Machine
end
section
open Sys2Proof Sys2Proof.Machine Sys2Proof.Safety
/-- Settles O35: each command sets the fields that it names, and the test of the bound that follows changes one other. -/
theorem timeSteeringCompletes : Obligations.TimeSteeringCompletes := by
  refine ⟨fun s w => ?_, fun s v m hpend hms => ?_, fun s w => ?_, fun s hdone => ?_, fun s w hns hmode => ?_, fun s w hst hmode => ?_⟩
  · intro v hv hst
    have hgo : ¬ (!incrInRange v || decide (timState s = .holdover)) = true := by simp [hv, hst]
    exact ⟨_, congrArg Host.Outcome.next (if_neg hgo), by simp [v], by simp⟩
  · exact ⟨_, rfl, by simp [hpend, hms], by simp [hpend, hms], by simp [hpend, hms]⟩
  · intro total hms hrate
    have hgo : ¬ ((!(decide (timState s = .free) || decide (s.crp.mode = .maintain)) &&
        decide (total.natAbs * 1000 > fld s Reg.TIM_HOLD_CFG 7 0 * bits w 15 0 * tNs)) = true) := by
      simp only [Bool.and_eq_true, Bool.not_eq_true', Bool.or_eq_false_iff, decide_eq_false_iff_not, decide_eq_true_eq]
      rintro ⟨⟨hfree, hmode⟩, hfast⟩
      rcases hrate with h | h | h
      · exact hfree h
      · exact hmode h
      · omega
    have hexec : exec (.timAdjCtrl w) s = .next (timCheckBound (startAdj total (bits w 15 0 * 409200) s)) :=
      congrArg Host.Outcome.next ((if_neg hms).trans (if_neg hgo))
    exact ⟨_, hexec, by simp [startAdj, hms], by simp [startAdj]⟩
  · exact ⟨_, rfl, by simp [hdone], by simp [hdone]⟩
  · exact ⟨_, execTimSetNs_next hns hmode, counterSet_tim _ s⟩
  · have hexec : exec (.timSetNs w) s = .next (timReject s) := by
      show execTimSetNs w s = _
      simp [execTimSetNs, hst, hmode]
    exact ⟨_, hexec, by simp [timReject], sticky_sets _ (by decide) _⟩
end

section
/-! SUPPORT. The time state: loss, holdover and return (R304 to R309). -/
namespace Sys2Proof.Machine
open Sys2Proof.Safety

theorem timCheckBound_quiet {s : State} (h : aboveBound s = false ∨ s.tim.above = true) :
    timCheckBound s = setTim { s.tim with above := aboveBound s } s := by
  unfold timCheckBound
  rcases h with h | h <;> simp [h]

theorem setLoss_tim (t : Int) (s : State) : (setLoss t s).tim.tLoss = some t ∧ (setLoss t s).tim.state = s.tim.state := by
  unfold setLoss
  split <;> simp

/-- A loss is timed where the state times none yet. -/
theorem reportLoss_new {t : Int} {s : State} (hst : timState s = .locked ∨ timState s = .stepPending) (hloss : s.tim.tLoss = none)
    (htiming : lossTiming s = false) : reportLoss t s = timCheckBound (setLoss t s) := by
  unfold reportLoss
  rcases hst with h | h <;> simp [h, hloss, htiming]

/-- HOLDOVER of the time state; the loss that it came from stands. -/
theorem enterHoldover_tim (s : State) : (enterHoldover s).tim.state = .holdover ∧ (enterHoldover s).tim.tLoss = s.tim.tLoss ∧
    (enterHoldover s).tim.u0 = s.tim.u0 ∧ (enterHoldover s).tim.now = s.tim.now ∧ (enterHoldover s).tim.step = s.tim.step := by
  have hrec (t : State) : (recHoldover t).tim = t.tim := part_of_seen (p := .tim) (recHoldover_seen t (by simp))
  simp [enterHoldover, hrec]

theorem enterHoldover_crp {s : State} (h : s.crp.mode = .serve) : (enterHoldover s).crp.mode = .holdover ∧ (enterHoldover s).crp.prev = .serve := by
  simp [enterHoldover, toHoldover, h]

/-- The bound exceeded anew: the latch is set with its cause (R307). -/
theorem timCheckBound_exceeded {s : State} (h : aboveBound s = true) (hn : s.tim.above = false) :
    stkSet (timCheckBound s) Reg.TIM_STICKY 2 ∧ nfSet (timCheckBound s) = true ∧ bitAt (timCheckBound s).nfl.seen 7 = true := by
  simp only [timCheckBound, h, hn, Bool.not_false, Bool.and_self, if_true]
  refine ⟨?_, nfSet_of_latched (nfTrigger_latched _ _), nfTrigger_cause (by decide) _⟩
  rw [stkSet, stk_nfTrigger (by decide)]
  exact sticky_sets _ (by decide) _

/-- What the step at its second has done before the state changes (R309). -/
def stepMade (p : StepPlan) (s : State) : State :=
  let s := edgesDue s
  let d := p.d * (tNs : Int)
  let s := setTim { s.tim with step := none, termEnd := some (p.s + fld s Reg.TIM_HOLD_CFG 15 8),
                               bb := ((s.tim.bb : Int) + d).toNat,
                               mirror := s.tim.mirror.map (fun w => { w with state := .locked }) } s
  let s := moveTime ((s.tim.now : Int) + d).toNat s
  record 0x31 0 (leBytes 4 (wrapInt 32 p.d) ++ leBytes 4 p.s) (sticky Reg.TIM_STICKY 1 s)

theorem edgesDue_fields (s : State) : (edgesDue s).tim.now = s.tim.now ∧ (edgesDue s).tim.mirror = s.tim.mirror ∧
    lossOver (edgesDue s) = lossOver s := by
  obtain ⟨hnow, -, hmirror, -, hloss, -⟩ := pulseless_fields (edgesDue_pulseless s)
  exact ⟨hnow, hmirror, by simp only [lossOver, hloss, hnow]⟩

theorem stepMade_tim (p : StepPlan) (s : State) : (stepMade p s).tim.now = ((s.tim.now : Int) + p.d * (tNs : Int)).toNat ∧
    (stepMade p s).tim.step = none := by
  obtain ⟨hnow, -, -⟩ := edgesDue_fields s
  simp only [stepMade, record_keeps, sticky_keeps]
  obtain ⟨hmoved, -, -, hstep⟩ := moveTime_fields _ (setTim _ (edgesDue s))
  exact ⟨by rw [hmoved, setTim_tim, hnow], by rw [hstep, setTim_tim]⟩

theorem stepMade_sticky (p : StepPlan) (s : State) : stkSet (stepMade p s) Reg.TIM_STICKY 1 :=
  record_holds _ _ _ _ _ _ (sticky_sets _ (by decide) _)

theorem execStepInstant_next {s : State} {p : StepPlan} (hst : timState s = .stepPending) (hp : s.tim.step = some p) (hdue : p.s * tSec ≤ s.tim.now) :
    exec .stepInstant s = .next (if (lossOver s && s.tim.mirror.isNone) = true then enterHoldover (stepMade p s)
      else timCheckBound (setTim { (stepMade p s).tim with state := .locked } (stepMade p s))) := by
  obtain ⟨-, hmirror, hover⟩ := edgesDue_fields s
  show execStepInstant s = _
  simp only [execStepInstant, hp, hst, hdue, and_self, if_true, hmirror, hover, stepMade]

end Sys2Proof.Machine
end
section
open Sys2Proof Sys2Proof.Machine Sys2Proof.Safety
/-- Settles O36: the transitions of Table 10.1, each followed by the test of the bound. -/
theorem timeStateCompletes : Obligations.TimeStateCompletes := by
  refine ⟨fun s w hok hst hm => ?_, fun s w hok hst => ?_, fun s w hst hloss htiming => ?_, fun s hm hst hover => ?_,
    fun s r hm hst hlast hdue => ?_, fun s ha hn => ?_, fun s h => ⟨_, rfl, timCheckBound_quiet h⟩, fun s w hst hrep hsmall => ?_,
    fun s w hst hrep hbig => ?_, fun s w hst => ?_, fun s p hst hp hdue => ?_, fun s e he hdue => ?_⟩
  · exact ⟨_, rfl, by simp [hok, hst, hm], by simp [hok, hst, hm], by simp [hok, hst, hm]⟩
  · refine ⟨_, rfl, ?_⟩
    simp only [hok, Bool.not_true, Bool.false_eq_true, if_false]
    split
    · have hm : s.tim.mirror.isSome = true := hst.resolve_left (by simp [*])
      simp [hm]
    · split <;> simp
    · split <;> simp
    · simp
  · refine ⟨_, congrArg Host.Outcome.next (reportLoss_new hst hloss htiming), ?_, ?_⟩ <;> simp [setLoss_tim]
  · refine ⟨_, congrArg Host.Outcome.next (if_pos ⟨hm, hst, hover⟩), (enterHoldover_tim s).1, enterHoldover_crp⟩
  · have hexec : exec .sigTimeout s = .next (enterHoldover (sticky Reg.TIM_STICKY 5 (setTim { s.tim with tLoss := some (r : Int), u0 := s.tim.lastUnc } s))) := by
      show execSigTimeout s = _
      simp [execSigTimeout, hlast, hm, hst, Nat.not_lt.2 hdue]
    obtain ⟨hstate, hloss, hu, -⟩ := enterHoldover_tim (sticky Reg.TIM_STICKY 5 (setTim { s.tim with tLoss := some (r : Int), u0 := s.tim.lastUnc } s))
    exact ⟨_, hexec, hstate, by simpa using hloss, by simpa using hu⟩
  · exact ⟨_, rfl, by simp [ha], timCheckBound_exceeded ha hn⟩
  · refine ⟨_, congrArg Host.Outcome.next ((if_neg (not_not.2 ⟨hst, hrep⟩)).trans (if_pos hsmall)), ?_⟩
    simp [startAdj]
  · refine ⟨_, congrArg Host.Outcome.next ((if_neg (not_not.2 ⟨hst, hrep⟩)).trans (if_neg (Nat.not_le.2 hbig))), ?_, ?_, ?_, ?_⟩
    · simp
    · simp
    · simp
    · have hlate (t : State) : rd (timCheckBound (fromHoldover t)) Reg.TIM_STEP_AT_S = rd t Reg.TIM_STEP_AT_S :=
        rd_of_seen ((timCheckBound_seen _ (by simp; decide)).trans (fromHoldover_seen t (by simp)))
      rw [hlate, rd_of_bank (setTim_keeps _ _).1, rd_wr_ne _ _ (by decide), rd_wr_same]
  · have hno : ¬ ((timState s = .locked ∨ timState s = .holdover) ∧
        s.tim.reports.any (fun r => decide (r.1 < s.tim.now) && decide (s.tim.now ≤ r.1 + tSec)) = true) := by
      rintro ⟨h, -⟩
      rcases hst with e | e <;> simp [e] at h
    exact ⟨_, congrArg Host.Outcome.next (if_pos hno), by simp, sticky_sets _ (by decide) _⟩
  · obtain ⟨hnow, hstep⟩ := stepMade_tim p s
    obtain ⟨hstate, -, -, hnow', hstep'⟩ := enterHoldover_tim (stepMade p s)
    refine ⟨_, execStepInstant_next hst hp hdue, ?_⟩
    split
    next hlate =>
      simp only [Bool.and_eq_true, Option.isNone_iff_eq_none] at hlate
      exact ⟨hnow'.trans hnow, hstep'.trans hstep, by simp [hlate], fun _ _ => hstate, stkSet_enterHoldover (stepMade_sticky p s)⟩
    next hlate =>
      refine ⟨by simp [hnow], by simp [hstep], by simp, fun ho hm => absurd hm (by simpa [ho] using hlate), stkSet_timCheckBound (stepMade_sticky p s)⟩
  · exact ⟨_, rfl, by simp [he, hdue]⟩
end

section
/-! SUPPORT. BB time under its sync symbols (R24, R303). -/
namespace Sys2Proof.Machine
open Sys2Proof.Safety

theorem tNs_pos : (0 : Int) < (tNs : Int) := by decide

/-- A difference of at most 16 ns is told in picoseconds as it is. -/
theorem unitsPs_clamped {d : Int} (h : d.natAbs ≤ 16 * tNs) : max (-2147483648) (min 2147483647 (unitsPs d)) = unitsPs d := by
  have hlo : -(16 * (tNs : Int)) ≤ d := by omega
  have hhi : d ≤ 16 * (tNs : Int) := by omega
  have h1 : unitsPs d ≤ 16000 := by
    refine Int.ediv_le_of_le_mul tNs_pos ?_
    linarith
  have h2 : -16000 ≤ unitsPs d := by
    refine (Int.le_ediv_iff_mul_le tNs_pos).2 ?_
    linarith
  omega

theorem bbLoad_tim (mark lat : Nat) (s : State) : (bbLoad mark lat s).tim.syncLost = false ∧ (bbLoad mark lat s).tim.bbValid = true ∧
    (bbLoad mark lat s).tim.bb = mark + lat ∧ (bbLoad mark lat s).ing = s.ing := ⟨rfl, rfl, rfl, rfl⟩

/-- BB time is not valid in the millisecond of a load. -/
theorem bbLoad_invalid (mark lat : Nat) (s : State) : bbValid (bbLoad mark lat s) = false := by
  simp [bbLoad, bbValid, markBbInvalid]

theorem stkHolds_markBbInvalid (s : State) : stkHolds s (markBbInvalid s) := stkHolds_of_io rfl

theorem bbValid_of_tim {s t : State} (h : t.tim = s.tim) : bbValid t = bbValid s := by simp only [bbValid, h]

theorem rd_setTim (x : Tim) (s : State) (a : Nat) : rd (setTim x s) a = rd s a := rfl
theorem rd_bridgeHeard (s : State) (a : Nat) : rd (bridgeHeard s) a = rd s a := rfl
theorem bridgeHeard_tim (s : State) : (bridgeHeard s).tim = s.tim := rfl

/-- How far BB time stands from the whole millisecond at a symbol. -/
def symbolDiff (d : Int) (s : State) : Int :=
  (((s.tim.bb : Int) + psUnits d).toNat : Int) - (((rd s Reg.TIM_BB_LAT).toNat * tNs / 1000 : Nat) : Int) - ((msIdx s.tim.now * tMs : Nat) : Int)

/-- The state at a sync symbol before the difference is acted on (R303). -/
def symbolHeard (d : Int) (s : State) : State :=
  bridgeHeard (wr Reg.TIM_BB_ERR (BitVec.ofInt 32 (max (-2147483648) (min 2147483647 (unitsPs (symbolDiff d s)))))
    (setTim { s.tim with bb := ((s.tim.bb : Int) + psUnits d).toNat, missing := 0, syncMs := msIdx s.tim.now }
      (setTim { s.tim with bb := ((s.tim.bb : Int) + psUnits d).toNat } s)))

theorem execTimeSyncSymbol_next {s : State} (d : Int) (h : s.ing.held = false) :
    exec (.timeSyncSymbol d) s = .next (
      if s.tim.syncLost || !s.tim.bbValid then
        bbLoad (msIdx s.tim.now * tMs) ((rd s Reg.TIM_BB_LAT).toNat * tNs / 1000) (symbolHeard d s)
      else if (symbolDiff d s).natAbs ≤ 16 * tNs then
        setTim { (symbolHeard d s).tim with bbRemain := -symbolDiff d s, bbCycles := 409200 } (symbolHeard d s)
      else sticky Reg.TIM_STICKY 4 (bbLoad (msIdx s.tim.now * tMs) ((rd s Reg.TIM_BB_LAT).toNat * tNs / 1000) (symbolHeard d s))) := by
  show execTimeSyncSymbol d s = _
  simp only [execTimeSyncSymbol, symbolHeard, symbolDiff, h, Bool.false_eq_true, if_false, setTim_tim, rd_setTim, wr_keeps, bridgeHeard_tim]

theorem symbolHeard_tim (d : Int) (s : State) :
    (symbolHeard d s).tim = { s.tim with bb := ((s.tim.bb : Int) + psUnits d).toNat, missing := 0, syncMs := msIdx s.tim.now } := by
  simp only [symbolHeard, bridgeHeard_tim, wr_keeps, setTim_tim]

theorem symbolHeard_err (d : Int) (s : State) : rd (symbolHeard d s) Reg.TIM_BB_ERR =
    BitVec.ofInt 32 (max (-2147483648) (min 2147483647 (unitsPs (symbolDiff d s)))) := by
  rw [symbolHeard, rd_bridgeHeard, rd_wr_same]

theorem execRtcLoad_next {s : State} (hst : timState s = .locked) (hsec : s.tim.rtcSec < secOf s.tim.now) :
    exec .rtcLoad s = .next { s with
      tim := { s.tim with rtcSec := secOf s.tim.now }
      key := { s.key with rtcSec := BitVec.ofNat 48 (secOf s.tim.now)
                          rtcSub := BitVec.ofNat 15 (subNs s.tim.now * 32768 / 1000000000), rtcAcc := 0 } } := by
  show execRtcLoad s = _
  simp only [execRtcLoad, hst, hsec, and_self, if_true]

/-- A symbol that is missing is counted, and the hundredth in a row loses the sync. -/
theorem execBbSyncLost_next (s : State) : ∃ u, u.tim = s.tim ∧ exec .bbSyncLost s = .next (
    if 100 ≤ s.tim.missing + 1 ∧ s.tim.syncLost = false then
      markBbInvalid (sticky Reg.TIM_STICKY 3 (setTim { s.tim with missing := s.tim.missing + 1, syncLost := true } u))
    else setTim { s.tim with missing := s.tim.missing + 1 } u) := by
  refine ⟨perf 0x18B 1 (wr Reg.TIM_SYNC_MISS (setBits (rd s Reg.TIM_SYNC_MISS) 15 0 (min (bits (rd s Reg.TIM_SYNC_MISS) 15 0 + 1) 0xFFFF)) s), by simp, ?_⟩
  show execBbSyncLost s = _
  simp only [execBbSyncLost, perf_keeps, wr_keeps]

end Sys2Proof.Machine
end
section
open Sys2Proof Sys2Proof.Machine Sys2Proof.Safety
/-- Settles O37: a symbol is compared with the whole millisecond, and loads the counter where it differs by more or BB time is not valid. -/
theorem timeCounterCompletes : Obligations.TimeCounterCompletes := by
  refine ⟨fun s d => ?_, fun s d => ?_,
    fun s d hheld hload => ?_, fun s hmiss hlost => ?_, fun s hmiss => ?_, fun s => ⟨_, rfl, ?_, ?_, ?_⟩, fun s hst hsec => ?_⟩
  · intro bb mark lat diff hheld hlost hvalid hsmall
    change (symbolDiff d s).natAbs ≤ 16 * tNs at hsmall
    refine ⟨_, execTimeSyncSymbol_next d hheld, ?_⟩
    rw [if_neg (by simp [hlost, hvalid]), if_pos hsmall]
    have htim := symbolHeard_tim d s
    refine ⟨?_, by rw [setTim_tim, htim], rfl, rfl, by rw [setTim_tim, htim], by rw [setTim_tim, htim], rfl⟩
    rw [rd_of_bank (setTim_keeps _ _).1, symbolHeard_err, unitsPs_clamped hsmall, symbolDiff]
  · intro mark lat hheld hlost hvalid hbig
    change 16 * tNs < (symbolDiff d s).natAbs at hbig
    refine ⟨_, execTimeSyncSymbol_next d hheld, ?_⟩
    rw [if_neg (by simp [hlost, hvalid]), if_neg (Nat.not_le.2 hbig)]
    exact ⟨sticky_sets _ (by decide) _, by simp only [sticky_keeps, bbLoad_tim]; rfl,
      (bbValid_of_tim (sticky_keeps _ _ _).2.2.2.2.2.2.2.1).trans (bbLoad_invalid _ _ _)⟩
  · refine ⟨_, execTimeSyncSymbol_next d hheld, ?_⟩
    rw [if_pos (by rcases hload with h | h <;> simp [h])]
    exact ⟨rfl, rfl, rfl, rfl⟩
  · obtain ⟨u, hu, h⟩ := execBbSyncLost_next s
    rw [if_pos ⟨by omega, hlost⟩] at h
    refine ⟨_, h, rfl, by simp [bbValid, markBbInvalid], ?_⟩
    exact stkHolds_markBbInvalid _ _ _ (sticky_sets _ (by decide) _)
  · obtain ⟨u, hu, h⟩ := execBbSyncLost_next s
    rw [if_neg (by omega)] at h
    exact ⟨_, h, by simp, by simp [bbValid]⟩
  · exact Tab.get_put_same _ _ _ _
  · exact (Tab.get_put_ne _ _ _ (by decide)).trans (Tab.get_put_same _ _ _ _)
  · exact (Tab.get_put_ne _ _ _ (by decide)).trans ((Tab.get_put_ne _ _ _ (by decide)).trans (Tab.get_put_same _ _ _ _))
  · refine ⟨_, execRtcLoad_next hst hsec, ?_⟩
    exact ⟨rfl, rfl, rfl⟩
end

section
/-! SUPPORT. Pulses and the delay-step monitor (R314 to R319). -/
namespace Sys2Proof.Machine
open Sys2Proof.Safety

theorem flag_of_bank {s t : State} (h : t.bank = s.bank) (a i : Nat) : flag t a i = flag s a i := by simp only [flag, rd, h]
theorem tpOut_of_tim {s t : State} (h : t.tim = s.tim) (k : Nat) : tpOut t k = tpOut s k := by simp only [tpOut, h]

/-- The pulse of a single shot ends its schedule. -/
theorem tpFire_once {s : State} {k : Nat} (h : flag s (Reg.TIM_TP_CFG k) 1 = false) :
    (tpFire k s).io.out = .tp k (tpLevel s k true) :: s.io.out ∧ flag (tpFire k s) (Reg.TIM_TP_CFG k) 0 = false := by
  have hcfg (x : TpOut) (o : Output) : flag (emit o (setTp k x s)) (Reg.TIM_TP_CFG k) 1 = false := h
  rw [tpFire]
  simp only [hcfg, Bool.false_eq_true, if_false]
  exact ⟨rfl, by rw [flag, rd_wr_same, bitAt_setBits_same _ _ (by decide)]; rfl⟩

theorem tpFire_periodic {s : State} {k : Nat} (h : flag s (Reg.TIM_TP_CFG k) 1 = true) :
    (tpFire k s).io.out = .tp k (tpLevel s k true) :: s.io.out ∧
    (tpOut (tpFire k s) k).next = (tpOut s k).next + (((rd s (Reg.TIM_TP_PERIOD k)).toNat * tNs : Nat) : Int) := by
  have hcfg (x : TpOut) (o : Output) : flag (emit o (setTp k x s)) (Reg.TIM_TP_CFG k) 1 = true := h
  rw [tpFire]
  simp only [hcfg, if_true]
  exact ⟨rfl, by rw [setTp_same]⟩

/-- While the means form, every exchange enters them and is published. -/
theorem monitor_forming {th : Nat} {asym : Int} {x : Int × Int} {p : TimPort} (hrun : p.run = []) (hn : p.entered < 8) :
    monitor th asym false x p = (enterMeans asym x p, none) := by
  simp [monitor, testFresh, movedBy, hrun, hn]

end Sys2Proof.Machine
end
section
open Sys2Proof Sys2Proof.Machine Sys2Proof.Safety
/-- Settles O38: a pulse leaves at its instant, and an exchange enters the means while they form. -/
theorem timePulsesComplete : Obligations.TimePulsesComplete := by
  refine ⟨fun s n hn hon hen hlast => ?_, fun s k w htp hon hw0 hw1 hcfg hat => ?_, fun s k hdue hon hper => ?_, fun s k hdue hon hper => ?_,
    fun s k e he hend => ?_, fun s n t1 t2 t3 t4 hport hasym hrun hent => ?_, fun s n hn hasym => ?_⟩
  · have hexec : exec (.ppsEdge n) s = .next (ppsFire n s) := by
      show execPpsEdge n s = _
      simp only [execPpsEdge, hon, if_true]
    refine ⟨_, hexec, ?_⟩
    simp only [ppsFire, hn, hen, hlast, and_self, if_true]
    exact ⟨rfl, Tab.get_put_same _ _ _ _⟩
  · have hcfg' : bitAt (rd s (Reg.TIM_TP_CFG k)) 0 = false := hcfg
    have hexec : exec (.tpEn k w) s = .next (wr (Reg.TIM_TP_CFG k) (BitVec.ofNat 32 (bits w 2 0)) (setTp k { tpOut s k with
        next := near32 s.tim.now (rd s (Reg.TIM_TP_AT_S k)).toNat (fld s (Reg.TIM_TP_AT_NS k) 29 0) } s)) := by
      show execTpEn k w s = _
      simp only [execTpEn, htp, hw0, hon, hcfg', hw1, hat, Bool.not_true, Bool.or_self, Bool.false_eq_true, Bool.false_and, if_false, if_true]
    exact ⟨_, hexec, by rw [tpOut_of_tim (wr_keeps _ _ _).2.2.2.2.2.2.2.1, setTp_same], rd_wr_same _ _ _⟩
  · have hexec : exec (.tpPulse k) s = .next (tpFire k s) := by
      show execTpPulse k s = _
      simp only [execTpPulse, hdue, hon, Bool.and_self, if_true]
    exact ⟨_, hexec, tpFire_once hper⟩
  · have hexec : exec (.tpPulse k) s = .next (tpFire k s) := by
      show execTpPulse k s = _
      simp only [execTpPulse, hdue, hon, Bool.and_self, if_true]
    exact ⟨_, hexec, tpFire_periodic hper⟩
  · have hexec : exec (.pulseWidthEnd (2 + k)) s = .next (emit (.tp k (tpLevel s k false)) (setTp k { tpOut s k with ending := none } s)) := by
      show execPulseWidthEnd (2 + k) s = _
      simp only [execPulseWidthEnd, show ¬ 2 + k < 2 by omega, Nat.add_sub_cancel_left, he, hend, if_false, if_true]
    exact ⟨_, hexec, rfl, by rw [tpOut_of_tim (emit_keeps _ _).2.2.2.2.2.2.2.1, setTp_same]⟩
  · have hexec : exec (.peerDelayExchange n t1 t2 t3 t4) s =
        .next (setTimPort n (enterMeans (signed 32 (rd s (Reg.TIM_PORT_ASYM n)).toNat) (t2 - t1, t4 - t3) (timPort s n)) s) := by
      show execPeerDelayExchange n t1 t2 t3 t4 s = _
      simp only [execPeerDelayExchange, hport, hasym, monitor_forming hrun hent, Bool.not_true, Bool.false_eq_true, if_false]
    refine ⟨_, hexec, ?_⟩
    simp only [setTimPort_same]
    exact ⟨rfl, rfl, rfl, rfl⟩
  · have hexec : exec (.pathAsymClear n) s = .next (unstick (Reg.TIM_PORT_STICKY n) 0
        (setTimPort n { timPort s n with hist := [], entered := 0, run := [], step := 0 } s)) := by
      show execPathAsymClear n s = _
      simp [execPathAsymClear, Nat.not_le.2 hn, hasym]
    refine ⟨_, hexec, ?_, ?_, unstick_clears _ (by decide) _⟩
    · exact congrArg TimPort.hist (setTimPort_same n { timPort s n with hist := [], entered := 0, run := [], step := 0 } s)
    · exact congrArg TimPort.step (setTimPort_same n { timPort s n with hist := [], entered := 0, run := [], step := 0 } s)
end

section
/-! SUPPORT. Nightfall: outputs, sticky bits and grants under a trigger, and the rows that a trigger undoes (R279, R280, R284). -/
namespace Sys2Proof.Machine
open Sys2Proof.Safety

/-! ### Sticky bits of the SAFE island: a trigger clears no more than ARM_EXPIRED -/

theorem bitAt_not_oneHot {i j : Nat} (h : j ≠ i) (hj : j < 32) (w : Word) : bitAt (w &&& ~~~(oneHot i)) j = bitAt w j := by
  have ho : (oneHot i).getLsbD j = false := by
    rw [oneHot, BitVec.getLsbD_ofNat, Nat.testBit_two_pow_of_ne h.symm, Bool.and_false]
  simp [bitAt, BitVec.getLsbD_and, BitVec.getLsbD_not, ho, hj, -BitVec.getLsbD_eq_getElem]

theorem stkSet_unstick {a i j : Nat} {s : State} (h : j ≠ i) (hj : j < 32) (hs : stkSet s a j) : stkSet (unstick a i s) a j := by
  rw [stkSet, stk, unstick, ioStk_set_same, bitAt_not_oneHot h hj]
  exact hs

theorem stkHolds_nfRefuse (command reason machine : Nat) (s : State) : stkHolds s (nfRefuse command reason machine s) :=
  stkHolds_trans (wr_holds _ _ s) (sticky_holds _ _ _)

/-- The state in which a trigger looks at the latch: the rows of its SAFE cycle are undone (R284). -/
def triggerSeen (s : State) : State :=
  setNfl { (refuseByTrigger s).nfl with trigCycle := some (safeCycle (refuseByTrigger s)) } (refuseByTrigger s)

theorem nfTriggerWith_eq (cause : Nat) (extra : List Byte) (s : State) : nfTriggerWith cause extra s =
    match (triggerSeen s).nfl.latch with
    | .idle | .selective => nfLatch cause extra (triggerSeen s)
    | .latched => mirrorNfl (nfAgain cause extra (triggerSeen s))
    | .armed => mirrorNfl (sticky Reg.NFL_STICKY 3 (setNfl { (triggerSeen s).nfl with seen := (triggerSeen s).nfl.seen ||| oneHot cause
                                                                                      latch := .latched } (triggerSeen s))) := rfl

theorem nfAgain_nfl (cause : Nat) (extra : List Byte) (s : State) :
    ∃ f, (nfAgain cause extra s).nfl = { s.nfl with first := f, seen := s.nfl.seen ||| oneHot cause } := by
  unfold nfAgain
  dsimp only
  split
  · exact ⟨cause, by simp [amendLatch]⟩
  · exact ⟨s.nfl.first, by simp⟩

section
variable {bit : Nat} {s : State} (hb : bit ≠ 4) (h32 : bit < 32) (h : stkSet s Reg.NFL_STICKY bit)
include hb h32 h

theorem stkSet_undoRow (c : NflCmd) : stkSet (undoRow s c) Reg.NFL_STICKY bit := by
  have hsafe : among raised Reg.NFL_STICKY = false := by decide
  have rearm (b : Bool) (t : State) (ht : t.io = s.io) : stkSet (if b then unstick Reg.NFL_STICKY 4 t else t) Reg.NFL_STICKY bit := by
    split
    · exact stkSet_unstick hb h32 (stkHolds_of_io ht _ _ h)
    · exact stkHolds_of_io ht _ _ h
  unfold undoRow
  dsimp only
  split
  case h_6 x _ => exact rearm x _ rfl
  case h_7 x _ => exact rearm x _ rfl
  all_goals
    rw [stkSet, stk_of_seen (s := s) (by simp [hsafe])]
    exact h

omit hb h32 in
theorem stkSet_refuseRow (c : NflCmd) : stkSet (refuseRow s c) Reg.NFL_STICKY bit := by
  unfold refuseRow
  split
  case h_7 => exact h
  all_goals exact stkHolds_nfRefuse _ _ _ s _ _ h

theorem stkSet_refuseByTrigger : stkSet (refuseByTrigger s) Reg.NFL_STICKY bit := by
  have hundo (l : List NflCmd) (t : State) (ht : stkSet t Reg.NFL_STICKY bit) : stkSet (l.foldl undoRow t) Reg.NFL_STICKY bit :=
    List.foldlRecOn (motive := fun t => stkSet t Reg.NFL_STICKY bit) l _ ht fun _ hu c _ => stkSet_undoRow hb h32 hu c
  unfold refuseByTrigger
  dsimp only
  refine List.foldlRecOn (motive := fun t => stkSet t Reg.NFL_STICKY bit) _ _ (hundo _ _ ?_) fun _ hu c _ => stkSet_refuseRow hu c
  split
  · exact stkHolds_nfRefuse _ _ _ _ _ _ h
  · exact h

omit hb h32 in
theorem stkSet_nfLatch (cause : Nat) (extra : List Byte) : stkSet (nfLatch cause extra s) Reg.NFL_STICKY bit := by
  have hdrop (t : State) : stk (dropAllGrants t) Reg.NFL_STICKY = stk t Reg.NFL_STICKY := stk_of_seen (dropAllGrants_seen t (by simp; decide))
  unfold nfLatch
  dsimp only
  rw [stkSet, stk_of_seen (mirrorNfl_seen _ (by simp; decide)), stk_of_seen (record_seen _ _ _ _ (by simp; decide))]
  refine perf_holds _ _ _ _ _ (stickyCount_holds _ _ _ _ _ _ ?_)
  exact (congrArg (bitAt · bit) (hdrop _)).trans h

theorem stkSet_nfTrigger (cause : Nat) : stkSet (nfTrigger cause s) Reg.NFL_STICKY bit := by
  have hmirror (t : State) : stk (mirrorNfl t) Reg.NFL_STICKY = stk t Reg.NFL_STICKY := stk_of_seen (mirrorNfl_seen t (by simp; decide))
  have hr := stkSet_refuseByTrigger hb h32 h
  rw [stkSet, nfTrigger, stk_of_seen (nfTellPeer_seen _ _ (by simp))]
  rw [nfTriggerWith_eq]
  have hu : stkSet (triggerSeen s) Reg.NFL_STICKY bit := hr
  generalize triggerSeen s = u at hu ⊢
  split
  · exact stkSet_nfLatch hu _ _
  · exact stkSet_nfLatch hu _ _
  · rw [hmirror, stk_of_seen (nfAgain_seen _ _ _ (by simp; decide))]
    exact hu
  · rw [hmirror]
    exact sticky_holds _ _ _ _ _ hu

end

/-! ### Outputs -/

/-- Both outputs driven low. -/
def OutsLow (n : Nfl) : Prop := n.outA = false ∧ n.outB = false

theorem undoRow_outs {s : State} (c : NflCmd) (h : OutsLow s.nfl) : OutsLow (undoRow s c).nfl := by
  unfold undoRow
  dsimp only
  split
  case h_6 | h_7 => split <;> simpa [OutsLow] using h
  case h_2 => simp [OutsLow, nfDrive, List.range_succ]
  all_goals simpa [OutsLow, nfDrive, List.range_succ] using h

theorem refuseRow_nfl (s : State) (c : NflCmd) : (refuseRow s c).nfl = s.nfl := by
  unfold refuseRow
  split <;> simp

theorem foldl_refuseRow_nfl (l : List NflCmd) (s : State) : (l.foldl refuseRow s).nfl = s.nfl :=
  List.foldlRecOn (motive := fun t : State => t.nfl = s.nfl) l _ rfl fun t ht c _ => (refuseRow_nfl t c).trans ht

theorem refuseByTrigger_outs {s : State} (h : OutsLow s.nfl) : OutsLow (refuseByTrigger s).nfl := by
  have hundo (l : List NflCmd) (t : State) (ht : OutsLow t.nfl) : OutsLow (l.foldl undoRow t).nfl :=
    List.foldlRecOn (motive := fun t : State => OutsLow t.nfl) l _ ht fun _ hu c _ => undoRow_outs c hu
  unfold refuseByTrigger
  dsimp only
  rw [foldl_refuseRow_nfl]
  refine hundo _ _ ?_
  split
  · simpa [OutsLow] using h
  · exact h

theorem nfTrigger_outs (cause : Nat) {s : State} (h : OutsLow s.nfl) : OutsLow (nfTrigger cause s).nfl := by
  have hu : OutsLow (triggerSeen s).nfl := refuseByTrigger_outs h
  rw [nfTrigger, nfTriggerWith_eq]
  simp only [nfTellPeer_keeps]
  generalize triggerSeen s = u at hu ⊢
  split
  · simp [OutsLow, nfLatch_nfl, nfDrive]
  · simp [OutsLow, nfLatch_nfl, nfDrive]
  · obtain ⟨f, hf⟩ := nfAgain_nfl cause [] u
    rw [(mirrorNfl_keeps _).2.2.2.2.2.2.2.2.2.2.2.2.2.2.2.1, hf]
    exact hu
  · simpa [OutsLow] using hu

/-! ### Grants that wait -/

theorem mirrorNfl_grants (s : State) : (mirrorNfl s).pai.grants = s.pai.grants := by
  unfold mirrorNfl
  split
  · obtain ⟨l, n, h⟩ := mirror_pai (.nightfall s.nfl.latch s.nfl.latchId s.nfl.trig s.nfl.first s.nfl.seen (nfOwn s) s.nfl.held (nfSeqs s))
      { s with pai := { s.pai with sentNf := nfOwn s } }
    rw [h]
  · obtain ⟨l, n, h⟩ := mirror_pai (.nightfall s.nfl.latch s.nfl.latchId s.nfl.trig s.nfl.first s.nfl.seen (nfOwn s) s.nfl.held (nfSeqs s)) s
    rw [h]

/-- No grant waits on a port. -/
def GrantFree (s : State) (n : Nat) : Prop := (netPort s n).q2.filter (fun f => f.kind = .grant) = []

theorem dropGrants_net (n : Nat) (s : State) : (dropGrants n s).net = (setPort n { netPort s n with q2 := dropKind .grant (netPort s n).q2 } s).net := by
  simp [dropGrants]

theorem dropGrants_free (k : Nat) {n : Nat} {s : State} (h : n = k ∨ GrantFree s n) : GrantFree (dropGrants k s) n := by
  unfold GrantFree netPort
  rw [dropGrants_net]
  by_cases hk : n = k
  · subst hk
    rw [show Tab.get portDef _ n = _ from setPort_same n _ s]
    simp [dropKind]
  · rw [show Tab.get portDef (setPort k _ s).net n = _ from Tab.get_put_ne _ _ _ hk]
    exact h.resolve_left hk

theorem dropAllGrants_free {n : Nat} (hn : n < 4) (s : State) : GrantFree (dropAllGrants s) n := by
  have hk (t : State) : GrantFree ((List.range 4).foldl (fun s k => dropGrants k s) t) n := by
    rw [show List.range 4 = [0, 1, 2, 3] from rfl]
    simp only [List.foldl_cons, List.foldl_nil]
    have h4 : n = 0 ∨ n = 1 ∨ n = 2 ∨ n = 3 := by omega
    rcases h4 with h | h | h | h
    · exact dropGrants_free 3 (.inr (dropGrants_free 2 (.inr (dropGrants_free 1 (.inr (dropGrants_free 0 (.inl h)))))))
    · exact dropGrants_free 3 (.inr (dropGrants_free 2 (.inr (dropGrants_free 1 (.inl h)))))
    · exact dropGrants_free 3 (.inr (dropGrants_free 2 (.inl h)))
    · exact dropGrants_free 3 (.inl h)
  exact hk _

theorem dropAllGrants_held (s : State) : (dropAllGrants s).pai.grants = [] := by
  simp [dropAllGrants, List.range_succ, dropHeldGrants]

theorem grantsQueued_eq_zero {s : State} (h : ∀ n, n < 4 → GrantFree s n) (hp : s.pai.grants = []) : grantsQueued s = 0 := by
  simp only [grantsQueued, hp, List.length_nil, Nat.add_zero]
  refine List.sum_eq_zero fun x hx => ?_
  obtain ⟨n, hn, rfl⟩ := List.mem_map.1 hx
  rw [h n (List.mem_range.1 hn), List.length_nil]

theorem grantsQueued_dropAllGrants (s : State) : grantsQueued (dropAllGrants s) = 0 :=
  grantsQueued_eq_zero (fun _ hn => dropAllGrants_free hn s) (dropAllGrants_held s)

theorem grantsQueued_congr {s t : State} (hnet : t.net = s.net) (hp : t.pai.grants = s.pai.grants) : grantsQueued t = grantsQueued s := by
  simp only [grantsQueued, netPort, hnet, hp]

/-- The latch set, before what waits is dropped and the latch is told (R280). -/
def latchMark (cause : Nat) (s : State) : State :=
  let id := (s.nfl.latchId + 1) % 2 ^ 32
  let n := nfDrive false false s.nfl
  let s := setNfl { n with latch := .latched, latchId := id, first := cause, seen := oneHot cause, trig := s.tim.now,
                           nextK := 0, held := BitVec.allOnes 1024, relAt := [],
                           idleCycle := if s.nfl.latch = .idle then some (safeCycle s) else none } s
  { s with upd := { s.upd with nv := { s.upd.nv with latchId := id } } }

/-- What waits is dropped, and the latch counted. -/
def latchCounted (cause : Nat) (s : State) : State :=
  perf 0x169 1 (stickyCount Reg.NFL_STICKY 0 (Reg.NFL_CNT 0) (dropAllGrants (latchMark cause s)))

theorem nfLatch_eq (cause : Nat) (extra : List Byte) (s : State) : nfLatch cause extra s =
    mirrorNfl (record 0x28 ((s.nfl.latchId + 1) % 2 ^ 32) (latchPayload cause extra (latchCounted cause s)) (latchCounted cause s)) := rfl

/-- A latch drops every grant that waits, and its number is kept in the store. -/
theorem nfLatch_grants (cause : Nat) (extra : List Byte) (s : State) : grantsQueued (nfLatch cause extra s) = 0 := by
  refine (grantsQueued_congr (s := dropAllGrants (latchMark cause s)) ?_ ?_).trans (grantsQueued_dropAllGrants _)
  · simp [nfLatch_eq, latchCounted]
  · simp [nfLatch_eq, latchCounted, mirrorNfl_grants]

theorem nfLatch_store (cause : Nat) (extra : List Byte) (s : State) :
    (nfLatch cause extra s).upd.nv.latchId = (nfLatch cause extra s).nfl.latchId := by
  rw [nfLatch_nfl]
  simp [nfLatch_eq, latchCounted, latchMark]

/-! ### The rows of the SAFE cycle of a trigger -/

/-- A trigger with no row in its SAFE cycle undoes nothing. -/
theorem refuseByTrigger_nil {s : State} (h : rowsNow s = []) : (refuseByTrigger s).nfl = { s.nfl with confirm := none, cmds := [] } := by
  unfold refuseByTrigger
  simp only [h, List.reverse_nil, List.foldl_nil, setNfl_nfl]
  cases hc : s.nfl.confirm with
  | none => simp [hc]
  | some x => simp

/-- A trigger with one row in its SAFE cycle undoes and refuses it. -/
theorem refuseByTrigger_one {s : State} {c : NflCmd} (h : rowsNow s = [c]) (hc : s.nfl.confirm = none) :
    refuseByTrigger s = refuseRow (setNfl { (undoRow s c).nfl with cmds := [] } (undoRow s c)) c := by
  simp [refuseByTrigger, h, hc]

theorem rd_nfRefuse (command reason machine : Nat) (s : State) :
    rd (nfRefuse command reason machine s) Reg.NFL_REFUSE = BitVec.ofNat 32 (reason + 256 * command + 65536 * machine) := by
  rw [nfRefuse, rd_of_bank (sticky_keeps _ _ _).1, rd_wr_same]

theorem stkSet_nfRefuse (command reason machine : Nat) (s : State) : stkSet (nfRefuse command reason machine s) Reg.NFL_STICKY 5 :=
  sticky_sets _ (by decide) _

end Sys2Proof.Machine
end

section
open Sys2Proof Sys2Proof.Machine Sys2Proof.Safety
/-- Settles O32: an input or a monitor changes its own field, and the trigger that may follow leaves it. -/
theorem nightfallInputsComplete : Obligations.NightfallInputsComplete := by
  have hset (cause : Nat) (s : State) : nfSet (nfTrigger cause s) = true := nfSet_of_latched (nfTrigger_latched cause s)
  have hinputs (cause : Nat) (s : State) : sameInputs s.nfl (nfTrigger cause s).nfl := by simpa [nfTrigger] using nfTriggerWith_inputs cause [] s
  refine ⟨fun s h => ?_, fun s h => ?_, fun s h => ?_, fun s h => ?_, fun s hne hdisc hdue => ?_, fun s ch hch => ?_, fun s => ?_, fun s => ?_,
    fun s => ⟨_, rfl, by simp [nfOutA], by simp [nfOutB], rfl⟩, fun s => ⟨_, rfl, rfl, rfl, rfl⟩⟩
  · have hexec : ∃ n, exec (.stopInDebounce 0) s = .next (nfTrigger 1 (setNfl n s)) ∧ n.inA = false ∧ n.inB = s.nfl.inB :=
      ⟨_, congrArg Host.Outcome.next (if_pos (.inl ⟨rfl, h⟩)), by simp, by simp⟩
    obtain ⟨n, hexec, ha, hb⟩ := hexec
    obtain ⟨hinA, hinB, -⟩ := hinputs 1 (setNfl n s)
    exact ⟨_, hexec, hinA.trans ha, hinB.trans hb, hset _ _⟩
  · have hexec : ∃ n, exec (.stopInDebounce 1) s = .next (nfTrigger 1 (setNfl n s)) ∧ n.inA = s.nfl.inA ∧ n.inB = false :=
      ⟨_, congrArg Host.Outcome.next (if_pos (.inr ⟨rfl, h⟩)), by simp, by simp⟩
    obtain ⟨n, hexec, ha, hb⟩ := hexec
    obtain ⟨hinA, hinB, -⟩ := hinputs 1 (setNfl n s)
    exact ⟨_, hexec, hinB.trans hb, hinA.trans ha, hset _ _⟩
  · exact ⟨_, congrArg Host.Outcome.next (if_pos (.inl ⟨rfl, h⟩)), by simp, by simp, rfl⟩
  · exact ⟨_, congrArg Host.Outcome.next (if_pos (.inr ⟨rfl, h⟩)), by simp, by simp, rfl⟩
  · refine ⟨_, congrArg Host.Outcome.next (if_pos ⟨hne, hdisc, hdue⟩), rfl, sticky_sets _ (by decide) _, rfl⟩
  · obtain ⟨-, -, -, -, -, hfault, -⟩ := hinputs 10 (sticky Reg.NFL_STICKY 2 (setNfl { s.nfl with
      fbFault := true, fbA := if ch = 0 then !s.nfl.outA else s.nfl.fbA, fbB := if ch = 1 then !s.nfl.outB else s.nfl.fbB } s))
    exact ⟨_, congrArg Host.Outcome.next (if_pos hch), hfault, hset _ _, stkSet_nfTrigger (by decide) (by decide) (sticky_sets _ (by decide) _) _⟩
  · obtain ⟨-, -, -, -, -, -, hfault, -⟩ := hinputs 9 (setNfl { nfDrive false false s.nfl with latchFault := true } s)
    obtain ⟨hA, hB⟩ := nfTrigger_outs 9 (s := setNfl { nfDrive false false s.nfl with latchFault := true } s) ⟨rfl, rfl⟩
    exact ⟨_, rfl, hfault, hset _ _, by simp [nfOutA, hA], by simp [nfOutB, hB]⟩
  · obtain ⟨-, -, -, -, -, -, -, hfault, -⟩ := hinputs 9 (setNfl { s.nfl with clockFault := true } s)
    exact ⟨_, rfl, hfault, hset _ _⟩
end

section
/-! SUPPORT. A trigger by the state of its latch and the row of its SAFE cycle (R280, R284). -/
namespace Sys2Proof.Machine
open Sys2Proof.Safety

theorem triggerSeen_nfl (s : State) : (triggerSeen s).nfl = { (refuseByTrigger s).nfl with trigCycle := some (safeCycle s) } := by
  simp [triggerSeen, safeCycle]

theorem nfTriggerWith_of_open {s : State} (cause : Nat) (extra : List Byte) (h : (refuseByTrigger s).nfl.latch = .idle) :
    nfTriggerWith cause extra s = nfLatch cause extra (triggerSeen s) := by
  rw [nfTriggerWith_eq, triggerSeen_nfl, h]

theorem nfTriggerWith_of_armed {s : State} (cause : Nat) (extra : List Byte) (h : (refuseByTrigger s).nfl.latch = .armed) :
    nfTriggerWith cause extra s = mirrorNfl (sticky Reg.NFL_STICKY 3 (setNfl { (triggerSeen s).nfl with
      seen := (triggerSeen s).nfl.seen ||| oneHot cause, latch := .latched } (triggerSeen s))) := by
  rw [nfTriggerWith_eq]
  simp only [triggerSeen_nfl, h]

theorem nfTriggerWith_of_latched {s : State} (cause : Nat) (extra : List Byte) (h : (refuseByTrigger s).nfl.latch = .latched) :
    nfTriggerWith cause extra s = mirrorNfl (nfAgain cause extra (triggerSeen s)) := by
  rw [nfTriggerWith_eq, triggerSeen_nfl, h]

theorem execNflTrigger_next {s : State} {w : Word} (h : bitAt w 0 = true) :
    exec (.nflTrigger w) s = .next (nfTellPeer 2 (nfTriggerWith 2 (leBytes 1 (bits w 15 8)) s)) := by
  show execNflTrigger w s = _
  rw [execNflTrigger, h]
  rfl

theorem grantsQueued_nfTellPeer (cause : Nat) (s : State) : grantsQueued (nfTellPeer cause s) = grantsQueued s :=
  grantsQueued_congr (by simp) (by simp)

/-- An arm of the same SAFE cycle is undone and refused with reason 6. -/
theorem refuseByTrigger_arm {s : State} {c : NflCmd} (hrow : c.row = .arm) (hc : s.nfl.confirm = none) (h : rowsNow s = [c])
    (hst : s.nfl.latch = .armed) :
    refuseByTrigger s = nfRefuse 1 6 0 (setNfl { s.nfl with latch := .latched, cmds := [] } (setNfl { s.nfl with latch := .latched } s)) := by
  rw [refuseByTrigger_one h hc]
  simp [refuseRow, undoRow, hrow, hst]

/-- What a confirm of the same SAFE cycle leaves, undone: armed, with every machine held and no grant waiting. -/
theorem refuseByTrigger_confirm {s : State} {c : NflCmd} (hrow : c.row = .confirm) (hc : s.nfl.confirm = none) (h : rowsNow s = [c]) :
    ∃ t, refuseByTrigger s = nfRefuse 2 6 0 t ∧ t.nfl.latch = .armed ∧ t.nfl.latchId = s.nfl.latchId ∧ t.nfl.held = BitVec.allOnes 1024 ∧
      OutsLow t.nfl ∧ grantsQueued t = 0 := by
  have hundo : ∃ u, undoRow s c = dropAllGrants u ∧ u.nfl.latch = .armed ∧ u.nfl.latchId = s.nfl.latchId ∧ u.nfl.held = BitVec.allOnes 1024 ∧
      OutsLow u.nfl := by
    unfold undoRow
    simp only [hrow]
    exact ⟨_, rfl, by simp, by simp [nfDrive], by simp, by simp [OutsLow, nfDrive]⟩
  obtain ⟨u, hu, hlatch, hid, hheld, houts⟩ := hundo
  refine ⟨setNfl { (undoRow s c).nfl with cmds := [] } (undoRow s c), ?_, ?_, ?_, ?_, ?_, ?_⟩
  · rw [refuseByTrigger_one h hc]
    simp only [refuseRow, hrow]
  · simp [hu, hlatch]
  · simp [hu, hid]
  · simp [hu, hheld]
  · simpa [hu, OutsLow] using houts
  · exact (grantsQueued_congr (by simp) (by simp)).trans (hu ▸ grantsQueued_dropAllGrants u)

end Sys2Proof.Machine
end
section
open Sys2Proof Sys2Proof.Machine Sys2Proof.Safety
/-- Settles O33: a trigger by the state of the latch, after the rows of its SAFE cycle. -/
theorem nightfallTriggersComplete : Obligations.NightfallTriggersComplete := by
  have hset (cause : Nat) (s : State) : nfSet (nfTrigger cause s) = true := nfSet_of_latched (nfTrigger_latched cause s)
  have hinputs (cause : Nat) (s : State) : sameInputs s.nfl (nfTrigger cause s).nfl := by simpa [nfTrigger] using nfTriggerWith_inputs cause [] s
  refine ⟨fun s => ?_, fun s w hw => ?_, fun s hstart hmode hdue => ?_, fun s a ha hfired hdue => ?_, fun s w hw hst hrows => ?_,
    fun s w hw hst hrows => ?_, fun s w c hw hst hc hrows hrow => ?_, fun s w c hw hst hc hrows hrow => ?_, fun s hnf hdue => ?_⟩
  · exact ⟨_, congrArg Host.Outcome.next (if_pos rfl), rfl, rfl, rfl⟩
  · exact ⟨_, congrArg Host.Outcome.next (if_neg hw), rfl, rfl, rfl⟩
  · obtain ⟨-, -, -, -, -, -, -, -, -, -, hexp, -⟩ := hinputs 8 (setNfl { s.nfl with wdgStarted := false, wdgExpired := true, wdgRun := 0 } s)
    exact ⟨_, congrArg Host.Outcome.next (if_pos ⟨hstart, hmode, hdue⟩), hexp, hset _ _⟩
  · have hdue' : keyGraceDue s = true := by simp [keyGraceDue, ha, hfired, hdue]
    obtain ⟨-, -, -, -, -, -, -, -, -, -, -, -, -, -, hfire⟩ := hinputs 5 (setNfl { s.nfl with keyLossFired := true } s)
    exact ⟨_, congrArg Host.Outcome.next (if_pos hdue'), hfire, hset _ _⟩
  · have hr := refuseByTrigger_nil hrows
    have hlatch := nfTriggerWith_of_open 2 (leBytes 1 (bits w 15 8)) (s := s) (by rw [hr]; exact hst)
    refine ⟨_, execNflTrigger_next hw, ?_⟩
    beta_reduce
    rw [hlatch, grantsQueued_nfTellPeer, nfLatch_grants]
    simp only [nfTellPeer_keeps, nfLatch_store, nfLatch_nfl, triggerSeen_nfl, hr, nfDrive, true_and, and_true]
    simp [triggerSeen]
  · have hr := refuseByTrigger_nil hrows
    have harmed := nfTriggerWith_of_armed 2 (leBytes 1 (bits w 15 8)) (s := s) (by rw [hr]; exact hst)
    refine ⟨_, execNflTrigger_next hw, ?_⟩
    beta_reduce
    rw [harmed, stkSet, stk_of_seen (nfTellPeer_seen _ _ (by simp)), stk_of_seen (mirrorNfl_seen _ (by simp; decide))]
    simp only [nfTellPeer_keeps, mirrorNfl_keeps, sticky_keeps, setNfl_nfl, triggerSeen_nfl, hr, true_and]
    exact sticky_sets _ (by decide) _
  · have hr := refuseByTrigger_arm hrow hc hrows hst
    have hlatched := nfTriggerWith_of_latched 2 (leBytes 1 (bits w 15 8)) (s := s) (by rw [hr]; simp)
    obtain ⟨f, hf⟩ := nfAgain_nfl 2 (leBytes 1 (bits w 15 8)) (triggerSeen s)
    refine ⟨_, execNflTrigger_next hw, ?_⟩
    beta_reduce
    rw [hlatched, stkSet, rd_of_seen (nfTellPeer_seen _ _ (by simp)), rd_of_seen (mirrorNfl_seen _ (by simp)),
      rd_of_seen (nfAgain_seen _ _ _ (by simp; decide)), stk_of_seen (nfTellPeer_seen _ _ (by simp)),
      stk_of_seen (mirrorNfl_seen _ (by simp; decide)), stk_of_seen (nfAgain_seen _ _ _ (by simp; decide))]
    simp only [nfTellPeer_keeps, mirrorNfl_keeps, hf, triggerSeen_nfl, hr, nfRefuse_nfl, setNfl_nfl, true_and]
    constructor
    · rw [triggerSeen, hr]
      exact rd_nfRefuse 1 6 0 _
    · rw [triggerSeen, hr]
      exact stkSet_nfRefuse 1 6 0 _
  · obtain ⟨u, hr, hlatch, hid, hheld, houts, hfree⟩ := refuseByTrigger_confirm hrow hc hrows
    have harmed := nfTriggerWith_of_armed 2 (leBytes 1 (bits w 15 8)) (s := s) (by rw [hr]; simpa using hlatch)
    refine ⟨_, execNflTrigger_next hw, ?_⟩
    beta_reduce
    have hreg : rd (nfTellPeer 2 (mirrorNfl (sticky Reg.NFL_STICKY 3 (setNfl { (triggerSeen s).nfl with
        seen := (triggerSeen s).nfl.seen ||| oneHot 2, latch := .latched } (triggerSeen s))))) Reg.NFL_REFUSE = rd (refuseByTrigger s) Reg.NFL_REFUSE := by
      rw [rd_of_seen (nfTellPeer_seen _ _ (by simp)), rd_of_seen (mirrorNfl_seen _ (by simp)), rd_of_bank (sticky_keeps _ _ _).1]
      rfl
    rw [harmed, grantsQueued_nfTellPeer, hreg, hr, rd_nfRefuse,
      grantsQueued_congr (s := u) (by simp [triggerSeen, hr, nfRefuse]) (by simp [mirrorNfl_grants, triggerSeen, hr, nfRefuse])]
    simp only [nfTellPeer_keeps, mirrorNfl_keeps, sticky_keeps, setNfl_nfl, triggerSeen_nfl, hr, nfRefuse_nfl, true_and]
    exact ⟨hid, hheld, hfree, houts.1, houts.2, trivial⟩
  · have hgo : (nfSet s && decide (launchOf s.nfl.trig s.nfl.nextK ≤ s.tim.now + 100 * tUs)) = true := by simp [hnf, hdue]
    refine ⟨_, congrArg Host.Outcome.next (if_pos hgo), ?_⟩
    have hqueue (l : List Nat) (t : State) : (l.foldl (nfQueue s.nfl.nextK) t).nfl = t.nfl :=
      part_of_seen (p := .nfl) (seen_foldl (fun t n => nfQueue_seen _ t n (by simp)) l t)
    simp only [mirrorNfl_keeps, hqueue, setNfl_nfl, and_self]
end

section
/-! SUPPORT. Arming, confirming and releasing: what each does to the latch (R284 to R290). -/
namespace Sys2Proof.Machine
open Sys2Proof.Safety

theorem fleetReleases_nfl (id : Nat) (s : State) : ((List.range 4).foldl (fleetRelease id) s).nfl = s.nfl :=
  part_of_seen (p := .nfl) (seen_foldl_range (fun _ hn t => fleetRelease_seen id t hn (by simp)) s)

theorem endSchedule_nfl (s : State) : (endSchedule s).nfl = s.nfl := part_of_seen (p := .nfl) (endSchedule_seen s (by simp))

theorem endSchedule_tim (s : State) : (endSchedule s).tim = s.tim := part_of_seen (p := .tim) (endSchedule_seen s (by simp))

theorem machRelease_nfl (m id : Nat) (s : State) : (machRelease m id s).nfl = s.nfl := part_of_seen (p := .nfl) (machRelease_seen m id s (by simp))

theorem noteRow_nfl (row : NflRow) (m : Nat) (s : State) : (noteRow row m s).nfl = { s.nfl with cmds := ⟨safeCycle s, row, m⟩ :: rowsNow s } := rfl

theorem releaseFleet_nfl (keep : Bool) (s : State) : (releaseFleet keep s).nfl = { s.nfl with
    latch := .idle, held := 0, relFleetAt := s.tim.now, relAt := if keep then s.nfl.relAt else []
    fleetRel := some ⟨s.nfl.latchId, 1, s.tim.now + 100 * tMs⟩ } := by
  simp only [releaseFleet, mirrorNfl_keeps, fleetReleases_nfl, record_keeps, setNfl_nfl]

/-- A confirm drives both outputs, and releases the fleet or goes to SELECTIVE. -/
theorem confirmEffect_nfl (s : State) :
    ((confirmEffect true s).nfl.latch = .idle ∧ (confirmEffect true s).nfl.held = 0 ∧ (confirmEffect true s).nfl.outA = true ∧
      (confirmEffect true s).nfl.outB = true ∧ (confirmEffect true s).nfl.relFleetAt = s.tim.now ∧ (confirmEffect true s).nfl.confirm = none) ∧
    ((confirmEffect false s).nfl.latch = .selective ∧ (confirmEffect false s).nfl.held = s.nfl.held ∧
      (confirmEffect false s).nfl.outA = true ∧ (confirmEffect false s).nfl.outB = true ∧ (confirmEffect false s).nfl.confirm = none) := by
  simp [confirmEffect, releaseFleet_nfl, endSchedule_nfl, endSchedule_tim, nfDrive]

theorem refuseNoted_nfl (command reason machine : Nat) (s : State) : ∃ l, (refuseNoted command reason machine s).nfl = { s.nfl with cmds := l } :=
  ⟨_, by rw [refuseNoted, noteRow_nfl, nfRefuse_nfl]⟩

theorem rd_refuseNoted (command reason machine : Nat) (s : State) :
    rd (refuseNoted command reason machine s) Reg.NFL_REFUSE = BitVec.ofNat 32 (reason + 256 * command + 65536 * machine) :=
  rd_nfRefuse command reason machine s

/-- A confirm that fails goes back to LATCHED with its reason. -/
theorem confirmFails_told (r : Nat) (s : State) : (confirmFails r s).nfl.latch = .latched ∧ stkSet (confirmFails r s) Reg.NFL_STICKY 5 ∧
    rd (confirmFails r s) Reg.NFL_REFUSE = BitVec.ofNat 32 (r + 512) := by
  have hmirror (row : NflRow) (t : State) : stk (mirrorNfl (noteRow row 0 t)) Reg.NFL_STICKY = stk t Reg.NFL_STICKY :=
    stk_of_seen ((mirrorNfl_seen _ (by simp; decide)).trans (noteRow_seen row 0 t (by simp)))
  have hreg (row : NflRow) (t : State) : rd (mirrorNfl (noteRow row 0 t)) Reg.NFL_REFUSE = rd t Reg.NFL_REFUSE :=
    rd_of_seen ((mirrorNfl_seen _ (by simp)).trans (noteRow_seen row 0 t (by simp)))
  refine ⟨?_, ?_, ?_⟩
  · simp [confirmFails, noteRow_nfl]
  · rw [confirmFails, stkSet, hmirror]
    exact stkSet_nfRefuse 2 r 0 _
  · rw [confirmFails, hreg, rd_nfRefuse]

theorem triggerNow_false_of {s : State} (h : s.nfl.latch = .armed ∨ s.nfl.latch = .selective) : endedNow s = false := by
  rcases h with h | h <;> simp [endedNow, h]

/-- What a confirm of an armed unit does, by what it finds (Table 9.4). -/
theorem execNflConfirm_armed {s : State} (w : Word) (ht : triggerNow s = false) (hst : s.nfl.latch = .armed) :
    exec (.nflConfirm w) s = .next (if !isActive s then refuseNoted 2 8 0 s
      else if confirmReason w s ≠ 0 then confirmFails (confirmReason w s) s
      else if peerServes s then mirror (.release s.nfl.latchId) (setNfl { s.nfl with confirm := some (bitAt w 16, s.tim.now) } s)
      else noteRow .confirm 0 (confirmEffect (bitAt w 16) s)) := by
  show execNflConfirm w s = _
  simp only [execNflConfirm, ht, triggerNow_false_of (.inl hst), hst, Bool.false_eq_true, if_false]

/-- A release of one machine in SELECTIVE, past the tests of the command itself. -/
theorem execNflMrel_selective {s : State} {w : Word} (hgo : bitAt w 31 = true) (ht : triggerNow s = false) (hst : s.nfl.latch = .selective)
    (hact : nfUnitActive s = true) : exec (.nflMrel w) s = .next (
      if gradeMachines s ≤ bits w 9 0 ∨ (mach s (bits w 9 0)).entry.gen = 0 ∨ nfHeld s (bits w 9 0) = false then refuseNoted 3 9 (bits w 9 0) s
      else if !keyUsable s (txSlot (mach s (bits w 9 0)).entry) 0 then refuseNoted 3 7 (bits w 9 0) s
      else
        let t := s.tim.now
        let n := s.nfl
        let m := bits w 9 0
        let s := setNfl { n with held := n.held &&& ~~~(BitVec.ofNat 1024 (2 ^ m)), relAt := Tab.put natDef n.relAt m t,
                                 machRel := Tab.ins n.machRel m ⟨n.latchId, 1, t + 100 * tMs⟩ } s
        let s := noteRow .mrel m (machRelease m n.latchId s)
        mirrorNfl (if anyConfiguredHeld s then s else setNfl { s.nfl with latch := .idle, held := 0, relFleetAt := t } s)) := by
  show execNflMrel w s = _
  simp only [execNflMrel, hgo, ht, hst, hact, Bool.not_true, Bool.false_eq_true, if_false, ne_eq, not_true]

theorem getLsbD_released (held : BitVec 1024) {m : Nat} : (held &&& ~~~(BitVec.ofNat 1024 (2 ^ m))).getLsbD m = false := by
  by_cases hm : m < 1024
  · rw [BitVec.getLsbD_and, BitVec.getLsbD_not, BitVec.getLsbD_ofNat, Nat.testBit_two_pow_self]
    simp [hm]
  · exact BitVec.getLsbD_of_ge _ _ (Nat.not_lt.1 hm)

/-- The fleet's run of RELEASE frames comes round; no machine has one of its own. -/
theorem execReleaseResend_fleet {s : State} {r : RelRun} (hr : s.nfl.fleetRel = some r) (hdue : r.next ≤ s.tim.now) (hm : s.nfl.machRel = []) :
    ∃ t, exec .releaseResend s = .next t ∧
      t.nfl.fleetRel = if 9 ≤ r.sent then none else some ⟨r.id, r.sent + 1, r.next + 100 * tMs⟩ := by
  refine ⟨mirrorNfl ((List.range 4).foldl (fleetRelease r.id) (setNfl { s.nfl with
    fleetRel := if 9 ≤ r.sent then none else some ⟨r.id, r.sent + 1, r.next + 100 * tMs⟩ } s)), ?_, ?_⟩
  · show execReleaseResend s = _
    simp only [execReleaseResend, hr, Nat.not_lt.2 hdue, if_false, mirrorNfl_keeps, fleetReleases_nfl, setNfl_nfl, hm, List.foldl_nil]
  · simp only [mirrorNfl_keeps, fleetReleases_nfl, setNfl_nfl]

end Sys2Proof.Machine
end
section
open Sys2Proof Sys2Proof.Machine Sys2Proof.Safety
/-- Settles O34: each command by the row of Table 9.4 that its conditions select. -/
theorem nightfallReleaseCompletes : Obligations.NightfallReleaseCompletes := by
  refine ⟨fun s w ht hst hend hact hlo => ?_, fun s w ht hact hst hr hpeer hfleet => ?_, fun s w ht hact hst hr hpeer hfleet => ?_,
    fun s w ht hact hst hr hpeer => ?_, fun s w ht => ⟨?_, ?_⟩, fun s w ht hact hst hr => ?_, fun s w ht hact hst => ?_, fun s a hc hdue => ?_,
    fun s a hc hdue => ?_, fun s f a hc hdue => ?_, fun s hst hc hdue => ?_, fun s w => ?_, fun s w => ?_, fun s r hr hdue hsent hm => ?_,
    fun s r hr hdue hsent hm => ?_⟩
  · have hexec : exec (.nflArm w) s = .next (mirrorNfl (noteRow .arm 0 (setNfl { s.nfl with latch := .armed, armAt := s.tim.now } s))) := by
      show execNflArm w s = _
      simp [execNflArm, ht, hst, hend, hact, hlo]
    exact ⟨_, hexec, by simp [noteRow_nfl], by simp [noteRow_nfl]⟩
  · obtain ⟨⟨hlatch, hheld, hA, hB, hat, -⟩, -⟩ := confirmEffect_nfl s
    refine ⟨_, execNflConfirm_armed w ht hst, ?_⟩
    simp [hact, hr, hpeer, hfleet, noteRow_nfl, hlatch, hheld, hA, hB, hat]
  · obtain ⟨-, hlatch, hheld, hA, hB, -⟩ := confirmEffect_nfl s
    refine ⟨_, execNflConfirm_armed w ht hst, ?_⟩
    simp [hact, hr, hpeer, hfleet, noteRow_nfl, hlatch, hheld, hA, hB]
  · refine ⟨_, execNflConfirm_armed w ht hst, ?_⟩
    simp [hact, hr, hpeer, hst]
  · exact ⟨_, congrArg Host.Outcome.next (if_pos ht), nfRefuse_nfl _ _ _ _, rd_nfRefuse 1 6 0 s⟩
  · exact ⟨_, congrArg Host.Outcome.next (if_pos ht), nfRefuse_nfl _ _ _ _, rd_nfRefuse 2 6 0 s⟩
  · refine ⟨_, execNflConfirm_armed w ht hst, ?_⟩
    simpa [hact, hr] using confirmFails_told (confirmReason w s) s
  · obtain ⟨l, hl⟩ := refuseNoted_nfl 2 8 0 s
    refine ⟨_, execNflConfirm_armed w ht hst, ?_⟩
    simp [hact, hl, hst, rd_refuseNoted]
  · obtain ⟨⟨hlatch, hheld, -, -, -, hconf⟩, -⟩ := confirmEffect_nfl s
    have hexec : exec .releaseAcknowledged s = .next (noteRow .confirm 0 (confirmEffect true s)) := by
      show execReleaseAcknowledged s = _
      simp only [execReleaseAcknowledged, hc, hdue, if_true]
    exact ⟨_, hexec, hlatch, hheld, hconf⟩
  · obtain ⟨-, hlatch, hheld, -, -, hconf⟩ := confirmEffect_nfl s
    have hexec : exec .releaseAcknowledged s = .next (noteRow .confirm 0 (confirmEffect false s)) := by
      show execReleaseAcknowledged s = _
      simp only [execReleaseAcknowledged, hc, hdue, if_true]
    exact ⟨_, hexec, hlatch, hheld, hconf⟩
  · have hexec : exec .confirmAckTimeout s = .next (mirrorNfl (nfRefuse 2 10 0 (setNfl { s.nfl with latch := .latched, confirm := none } s))) := by
      show execConfirmAckTimeout s = _
      simp only [execConfirmAckTimeout, hc, hdue, if_true]
    exact ⟨_, hexec, by simp, by simp, (rd_of_seen (mirrorNfl_seen _ (by simp))).trans (rd_nfRefuse 2 10 0 _)⟩
  · refine ⟨_, congrArg Host.Outcome.next (if_pos ⟨hst, hc, hdue⟩), by simp [noteRow_nfl], ?_⟩
    rw [stkSet, stk_of_seen (mirrorNfl_seen _ (by simp; decide)), stk_of_seen (noteRow_seen _ _ _ (by simp))]
    exact sticky_sets _ (by decide) _
  · intro m hgo ht hst hact hm hgen hheld hkey
    refine ⟨_, execNflMrel_selective hgo ht hst hact, ?_⟩
    have hok : ¬ (gradeMachines s ≤ m ∨ (mach s m).entry.gen = 0 ∨ nfHeld s m = false) := by
      simp [Nat.not_le.2 hm, hgen, hheld]
    rw [if_neg hok, if_neg (by simp [m] at hkey; simp [hkey])]
    extract_lets t n u v
    have hv : v.nfl.latch = .selective ∧ v.nfl.held = n.held &&& ~~~(BitVec.ofNat 1024 (2 ^ m)) := by
      simp [v, u, n, noteRow_nfl, machRelease_nfl, hst, m]
    clear_value v
    obtain ⟨hlatch, hheld⟩ := hv
    by_cases hany : anyConfiguredHeld v = true
    · simp only [nfHeld, mirrorNfl_keeps, hany, if_true, hlatch, hheld]
      exact getLsbD_released _
    · simp [nfHeld, hany]
  · intro m hgo ht hst hact hm hgen
    obtain ⟨l, hl⟩ := refuseNoted_nfl 3 9 m s
    refine ⟨_, execNflMrel_selective hgo ht hst hact, ?_⟩
    rw [if_pos (.inr (.inl hgen))]
    simp [m] at hl
    simp [hl, hst, rd_refuseNoted, m]
  · obtain ⟨t, ht, hrun⟩ := execReleaseResend_fleet hr hdue hm
    exact ⟨t, ht, hrun.trans (if_neg (by omega))⟩
  · obtain ⟨t, ht, hrun⟩ := execReleaseResend_fleet hr hdue hm
    exact ⟨t, ht, hrun.trans (if_pos hsent)⟩
end

section
/-! SUPPORT. The pair's state: what mirroring, a trigger and the running heartbeat leave of it. -/
namespace Sys2Proof.Machine
open Sys2Proof.Safety

/-- The pair's state but for the queue to the peer: what mirroring and a trigger leave. -/
def unqueued (x : Pai) : Pai := { x with sentRecs := [], nextRec := 0, sentNf := 0, grants := [] }

theorem unqueued_mirror (r : MirrorRec) (s : State) : unqueued (mirror r s).pai = unqueued s.pai := by
  obtain ⟨l, n, h⟩ := mirror_pai r s
  rw [h]
  rfl

theorem unqueued_mirrorNfl (s : State) : unqueued (mirrorNfl s).pai = unqueued s.pai := by
  unfold mirrorNfl
  rw [unqueued_mirror]
  split <;> rfl

theorem unqueued_tellActive (s : State) : unqueued (tellActive s).pai = unqueued s.pai := by
  unfold tellActive
  split
  · rfl
  · split
    · exact unqueued_mirrorNfl s
    · simp [unqueued]

theorem unqueued_dropHeldGrants (s : State) : unqueued (dropHeldGrants s).pai = unqueued s.pai := by
  simp [dropHeldGrants, unqueued]

theorem unqueued_nfLatch (cause : Nat) (extra : List Byte) (s : State) : unqueued (nfLatch cause extra s).pai = unqueued s.pai := by
  simp [nfLatch, List.range_succ, unqueued_mirrorNfl, unqueued_dropHeldGrants]

theorem unqueued_undoRow (s : State) (c : NflCmd) : unqueued (undoRow s c).pai = unqueued s.pai := by
  have hreleases (ok : TxFrame → Bool) (t : State) : ((List.range 4).foldl (fun s k => dropReleases ok k s) t).pai = t.pai := by
    simp [List.range_succ]
  unfold undoRow
  dsimp only
  split
  case h_2 => simp [dropAllGrants, unqueued_dropHeldGrants, List.range_succ]
  case h_6 | h_7 => split <;> simp
  all_goals simp [hreleases]

theorem unqueued_refuseByTrigger (s : State) : unqueued (refuseByTrigger s).pai = unqueued s.pai := by
  have hrefuse (t : State) (c : NflCmd) : (refuseRow t c).pai = t.pai := by
    unfold refuseRow
    split <;> simp
  have hrows (l : List NflCmd) (f : State → NflCmd → State) (hf : ∀ t c, unqueued (f t c).pai = unqueued t.pai) (t : State) :
      unqueued (l.foldl f t).pai = unqueued t.pai :=
    List.foldlRecOn (motive := fun u : State => unqueued u.pai = unqueued t.pai) l f rfl fun u hu c _ => (hf u c).trans hu
  unfold refuseByTrigger
  dsimp only
  rw [hrows _ refuseRow fun t c => by rw [hrefuse]]
  refine (hrows _ undoRow unqueued_undoRow _).trans ?_
  split <;> simp

theorem unqueued_nfTrigger (cause : Nat) (s : State) : unqueued (nfTrigger cause s).pai = unqueued s.pai := by
  rw [show (nfTrigger cause s).pai = (nfTriggerWith cause [] s).pai by simp [nfTrigger], nfTriggerWith_eq]
  have hseen : unqueued (triggerSeen s).pai = unqueued s.pai := unqueued_refuseByTrigger s
  split <;> simp [unqueued_nfLatch, unqueued_mirrorNfl, hseen]

/-- A sync sends its records; of the rest of the pair's state it may only set SYNC. -/
theorem unqueued_startSync (s : State) : ∃ n, unqueued (startSync s).pai = { unqueued s.pai with sync := n } := by
  unfold startSync
  split
  · refine ⟨1, ?_⟩
    exact List.foldlRecOn (motive := fun t : State => unqueued t.pai = { unqueued s.pai with sync := 1 }) _ _ rfl
      fun t ht r _ => (unqueued_mirror r t).trans ht
  · exact ⟨s.pai.sync, rfl⟩

theorem hbMissed_pai (n : Nat) (s : State) : (hbMissed n s).pai = s.pai := by simp [hbMissed]

theorem mismatchCheck_keeps (old s : State) : (mismatchCheck old s).pai = s.pai ∧ (mismatchCheck old s).bank = s.bank := by
  unfold mismatchCheck
  split <;> simp

theorem claimRelease_releases (s : State) : (claimRelease s).pai.claimDrive = false ∧ (claimRelease s).pai.active = s.pai.active ∧
    (claimRelease s).pai.pair = s.pai.pair ∧ (claimRelease s).crp = s.crp := by
  unfold claimRelease
  split
  · simp
  · simp_all

theorem paiRuns_congr {s t : State} (hpair : t.pai.pair = s.pai.pair) (hpd : t.crp.pd = s.crp.pd) (hreset : t.crp.inReset = s.crp.inReset) :
    paiRuns t = paiRuns s := by
  rw [paiRuns, paiRuns, pdState, pdState, hpair, hpd, hreset]

theorem mismatchesShown_pai (s : State) : (mismatchesShown s).pai = s.pai := (mismatchCheck_keeps _ _).1

/-- A unit that goes to STANDBY releases the line and claims no more; its domains stay as they are. -/
theorem toStandby_line (s : State) : (toStandby s).pai.claimDrive = false ∧ (toStandby s).pai.active = false ∧
    (toStandby s).pai.claimAt = none ∧ (toStandby s).pai.handover = .none ∧ paiRuns (toStandby s) = paiRuns s := by
  obtain ⟨hdrive, -, hpair, -⟩ := claimRelease_releases s
  have hshown (u : State) : (mismatchesShown u).crp = u.crp := part_of_seen (p := .crp) (mismatchesShown_seen u (by simp))
  refine ⟨?_, ?_, ?_, ?_, paiRuns_congr ?_ ?_ ?_⟩
  all_goals
    simp only [toStandby, mismatchesShown_pai, hshown, setNfl_keeps, setAcq_keeps, setCht_keeps, setDsp_keeps]
    split <;> simp [hdrive, hpair]

end Sys2Proof.Machine
end

section
/-! SUPPORT. Heartbeats and bursts (R326, R327, R330). -/
namespace Sys2Proof.Machine
open Sys2Proof.Safety

theorem mem_out_mirror {o : Output} {s : State} (h : o ∈ s.io.out) (r : MirrorRec) : o ∈ (mirror r s).io.out := by
  unfold mirror
  split
  · exact (ioRel_out o).perf _ _ _ ((ioRel_out o).emit _ _ h)
  · exact h

theorem rd_hbMissed (n : Nat) (s : State) : rd (hbMissed n s) (Reg.PAI_CNT 0) = satAdd (rd s (Reg.PAI_CNT 0)) n := by
  have hperf (t : State) : rd (perf 0x172 n t) (Reg.PAI_CNT 0) = rd t (Reg.PAI_CNT 0) := rd_of_bank (by simp) _
  rw [hbMissed, hperf, rd_inc_same]

/-- The two paths, and whether a start still waits for the peer. -/
def paths (x : Pai) : Path × Path × Bool := (x.pathA, x.pathB, x.starting)

theorem paths_of_unqueued {x y : Pai} (h : unqueued x = unqueued y) : paths x = paths y := by
  rw [show paths x = paths (unqueued x) from rfl, h]
  rfl

theorem paths_startSync (s : State) : paths (startSync s).pai = paths s.pai := by
  obtain ⟨n, h⟩ := unqueued_startSync s
  rw [show paths (startSync s).pai = paths (unqueued (startSync s).pai) from rfl, h]
  rfl

theorem paths_splitTest (s : State) : paths (splitTest s).pai = paths s.pai := by
  unfold splitTest
  split
  · rfl
  · extract_lets hoSent active was _ t
    have ht : paths t.pai = paths s.pai := rfl
    split
    · exact (paths_of_unqueued (unqueued_nfTrigger _ _)).trans ht
    · exact ht

theorem paths_bothHealthy (s : State) : paths (bothHealthy s).pai = paths s.pai := by
  unfold bothHealthy
  split <;> rfl

/-- A heartbeat is heard on path A: nothing is missing, and its number is the last. -/
theorem pathAGood_pai (seq : Nat) (s : State) : (pathAGood seq s).pai.pathA.seq = some seq ∧ (pathAGood seq s).pai.pathA.missing = 0 ∧
    (pathAGood seq s).pai.starting = s.pai.starting := by
  unfold pathAGood
  extract_lets p gap good ok _ t u
  have hu : paths u.pai = (⟨ok, good, 0, s.tim.now, some seq⟩, s.pai.pathB, s.pai.starting) := by
    rw [paths_bothHealthy, hbMissed_pai]
    rfl
  have hpaths : paths (if (ok && !p.ok) = true then startSync u else u).pai = (⟨ok, good, 0, s.tim.now, some seq⟩, s.pai.pathB, s.pai.starting) := by
    split
    · exact (paths_startSync u).trans hu
    · exact hu
  simp only [paths, Prod.mk.injEq] at hpaths
  obtain ⟨hA, -, hstart⟩ := hpaths
  exact ⟨by rw [hA], by rw [hA], hstart⟩

theorem paths_moveTime (t : Nat) (s : State) : paths (moveTime t s).pai = paths s.pai := by
  rw [part_of_seen (p := .pai) (moveTime_seen t s (by simp))]

theorem paths_steer (f : List Byte) (s : State) : paths (steer f s).pai = paths s.pai := by
  unfold steer
  split
  · rfl
  · split
    · rfl
    · dsimp only
      split
      · rfl
      · rw [paths_moveTime]
        rfl

theorem heardPeer_of_started {s : State} (h : s.pai.starting = false) : heardPeer s = s := by simp [heardPeer, h]

theorem paths_lagCheck (s : State) : paths (lagCheck s).pai = paths s.pai := by
  unfold lagCheck
  split
  · split
    · exact paths_startSync s
    · rfl
  · rfl

theorem paths_pathA {x y : Pai} (h : paths x = paths y) : x.pathA = y.pathA := congrArg Prod.fst h
theorem paths_starting {x y : Pai} (h : paths x = paths y) : x.starting = y.starting := congrArg (fun p => p.2.2) h

/-- The state in which a heartbeat goes out: counted, and the peer told the causes that changed. -/
def heartbeatTold (s : State) : State :=
  tellActive (setPai { s.pai with hbSeq := (s.pai.hbSeq + 1) % 2 ^ 32, hbSent := (((s.pai.hbSeq + 1) % 2 ^ 32, s.tim.now) :: s.pai.hbSent).take 8 } s)

theorem heartbeatTold_hbSeq (s : State) : (heartbeatTold s).pai.hbSeq = (s.pai.hbSeq + 1) % 2 ^ 32 :=
  congrArg Pai.hbSeq (unqueued_tellActive _)

/-- A heartbeat without authentication carries a tag of zeros. -/
theorem execHeartbeatSend_sends {s : State} (hsends : pulsarSends s = true) (hkey : flag s Reg.PAI_CTRL 1 = false) :
    exec .heartbeatSend s = .next (mirror (.time ⟨timState (heartbeatTold s), (timUnc (heartbeatTold s)).getD 0, timSlewing (heartbeatTold s),
      lossTiming (heartbeatTold s)⟩ (heartbeatTold s).tim.step)
      (emit (.heartbeat (hbBody s ((s.pai.hbSeq + 1) % 2 ^ 32) ++ zeros 8)) (heartbeatTold s))) := by
  have hflag : flag (heartbeatTold s) Reg.PAI_CTRL 1 = false := by
    rw [flag, rd_of_bank (s := s) (by simp [heartbeatTold])]
    exact hkey
  show execHeartbeatSend s = _
  simp only [execHeartbeatSend, hsends, hkey, Bool.not_true, Bool.false_and, Bool.or_self, Bool.false_eq_true, if_false]
  rw [← heartbeatTold, hbTag, hflag]
  rfl

/-- A valid heartbeat, once the start has heard the peer. -/
theorem execHeartbeatReceive_valid {s : State} {f : List Byte} (hup : pairUp s = true) (hdrop : dropsNext s 10 = false)
    (hvalid : hbValid s f true = true) : exec (.heartbeatReceive f true) s = .next (mismatchCheck s (wr Reg.PAI_PEER_VER (BitVec.ofNat 32 (leAt f 32 4))
      (lagCheck (returnCheck (heardPeer (steer f (pathAGood (leAt f 4 4) (splitTest (peerView f s))))))))) := by
  show execHeartbeatReceive f true s = _
  simp [execHeartbeatReceive, hup, hdrop, hvalid]

end Sys2Proof.Machine
end
section
open Sys2Proof Sys2Proof.Machine Sys2Proof.Safety
/-- Settles O39: what a heartbeat or a burst does to its path, and what is counted where it is not valid. -/
theorem pulsarCompletes : Obligations.PulsarCompletes := by
  refine ⟨fun s hsends hkey => ?_, fun s f hup hdrop hvalid hstart => ?_, fun s f c hup hdrop hvalid => ?_,
    fun s hsends => ⟨_, congrArg Host.Outcome.next (if_neg (by simp [hsends])), rfl, rfl⟩, fun s c hup hvalid => ?_,
    fun s c hup hvalid => ?_⟩
  · refine ⟨_, execHeartbeatSend_sends hsends hkey, ?_, ?_⟩
    · obtain ⟨l, n, hmirror⟩ := mirror_pai (.time ⟨timState (heartbeatTold s), (timUnc (heartbeatTold s)).getD 0, timSlewing (heartbeatTold s),
        lossTiming (heartbeatTold s)⟩ (heartbeatTold s).tim.step) (emit (.heartbeat (hbBody s ((s.pai.hbSeq + 1) % 2 ^ 32) ++ zeros 8)) (heartbeatTold s))
      rw [hmirror]
      exact heartbeatTold_hbSeq s
    · exact mem_out_mirror (List.mem_cons_self ..) _
  · obtain ⟨hseq, hmissing, hstarting⟩ := pathAGood_pai (leAt f 4 4) (splitTest (peerView f s))
    have hsplit := paths_splitTest (peerView f s)
    have hsteer := paths_steer f (pathAGood (leAt f 4 4) (splitTest (peerView f s)))
    have hstarted : (steer f (pathAGood (leAt f 4 4) (splitTest (peerView f s)))).pai.starting = false := by
      rw [paths_starting hsteer, hstarting, paths_starting hsplit]
      exact hstart
    have hpaths := paths_lagCheck (returnCheck (steer f (pathAGood (leAt f 4 4) (splitTest (peerView f s)))))
    have hpathA := (paths_pathA hpaths).trans (paths_pathA hsteer)
    refine ⟨_, execHeartbeatReceive_valid hup hdrop hvalid, ?_⟩
    rw [heardPeer_of_started hstarted]
    simp only [rd_of_bank (mismatchCheck_keeps _ _).2, rd_wr_same, (mismatchCheck_keeps _ _).1, wr_keeps, hpathA, hseq, hmissing, and_self]
  · have hexec : exec (.heartbeatReceive f c) s =
        .next (hbMissed 1 (setPai { s.pai with pathA := { s.pai.pathA with missing := s.pai.pathA.missing + 1, good := 0 } } s)) := by
      show execHeartbeatReceive f c s = _
      simp [execHeartbeatReceive, hup, hdrop, hvalid]
    refine ⟨_, hexec, ?_, ?_, ?_⟩
    · rw [hbMissed_pai]
      rfl
    · rw [hbMissed_pai]
      rfl
    · exact rd_hbMissed 1 _
  · have hexec : exec (.pulseBurstReceive c) s = .next (bothHealthy (setPai { s.pai with
        pathB := ⟨s.pai.pathB.ok || decide (4 ≤ s.pai.pathB.good + 1), s.pai.pathB.good + 1, 0, s.tim.now, some (c.toNat / 2 % 16)⟩ } s)) := by
      show execPulseBurstReceive c s = _
      simp [execPulseBurstReceive, hup, hvalid]
    have hpaths := paths_bothHealthy (setPai { s.pai with
        pathB := ⟨s.pai.pathB.ok || decide (4 ≤ s.pai.pathB.good + 1), s.pai.pathB.good + 1, 0, s.tim.now, some (c.toNat / 2 % 16)⟩ } s)
    simp only [paths, Prod.mk.injEq] at hpaths
    obtain ⟨-, hB, -⟩ := hpaths
    exact ⟨_, hexec, by rw [hB]; rfl, by rw [hB]; rfl, by rw [hB]; rfl, by rw [hB]; rfl⟩
  · have hexec : exec (.pulseBurstReceive c) s = .next (inc (Reg.PAI_CNT 1) 1 (setPai { s.pai with pathB :=
        { s.pai.pathB with good := 0, missing := s.pai.pathB.missing + 1, seq := if s.pai.pathB.ok then s.pai.pathB.seq else none } } s)) := by
      show execPulseBurstReceive c s = _
      simp [execPulseBurstReceive, hup, hvalid]
    exact ⟨_, hexec, rfl, rfl, rd_inc_same _ _ _⟩
end

section
/-! SUPPORT. Path failures, the claim line and splits (R328, R336 to R338). -/
namespace Sys2Proof.Machine
open Sys2Proof.Safety

theorem peerFail_of_pathB {s : State} (h : s.pai.pathB.ok = true) : peerFail s = s := by simp [peerFail, h]
theorem peerFail_of_pathA {s : State} (h : s.pai.pathA.ok = true) : peerFail s = s := by simp [peerFail, h]

theorem claimDrive_drives (s : State) : (claimDrive s).pai.claimDrive = true ∧ (claimDrive s).pai.active = s.pai.active ∧
    (claimDrive s).pai.peerFailed = s.pai.peerFailed ∧ (claimDrive s).pai.hushed = s.pai.hushed ∧
    (claimDrive s).pai.claimAt = s.pai.claimAt := by
  unfold claimDrive
  split
  · simp_all
  · simp

/-- The peer is failed; the claim procedure is still to run. -/
def peerLost (s : State) : State := sticky Reg.PAI_STICKY 2 (setPai { s.pai with peerFailed := true, bothSince := none } s)

/-- An active primary that has lost both paths drives the line. -/
theorem peerFail_active {s : State} (hA : s.pai.pathA.ok = false) (hB : s.pai.pathB.ok = false) (hfailed : s.pai.peerFailed = false)
    (hprim : s.crp.primary = true) (hact : s.pai.active = true) : peerFail s = claimDrive (peerLost s) := by
  have hlost : (peerLost s).crp.primary = true ∧ (peerLost s).pai.active = true := ⟨hprim, hact⟩
  simp only [peerFail, hA, hB, hfailed, Bool.or_self, Bool.false_eq_true, if_false]
  rw [← peerLost, claimProcedure, if_pos hlost.1, if_pos hlost.2]

/-- The line is sampled, and the claim that waited for it is over. -/
def lineSampled (high : Bool) (s : State) : State :=
  setPai { s.pai with claimIn := high && !s.pai.claimDrive, splitLine := s.pai.splitLine && !high, claimAt := none } s

theorem execClaimSample_due {s : State} {c : Nat} (high : Bool) (hpair : s.pai.pair = true) (hclaim : s.pai.claimAt = some c)
    (hdue : c + 500 * tUs ≤ s.tim.now) : exec (.claimSample high) s = .next (
      if !high then pairDegraded (toStandby (lineSampled high s))
      else if s.pai.active then claimDrive (setPai { (lineSampled high s).pai with hushed := false } (lineSampled high s))
      else if s.pai.starting then takeover 2 (claimDrive (lineSampled high s))
      else if canClaim (lineSampled high s) c then takeover 1 (claimDrive (lineSampled high s))
      else pairDegraded (lineSampled high s)) := by
  show execClaimSample high s = _
  rw [execClaimSample, if_neg (by simp [hpair])]
  simp only [setPai_pai, hclaim, setPai_keeps, Nat.not_lt.2 hdue, if_false]
  rfl

theorem splitLine_splits (s : State) : (splitLine s).pai.splitLine = true ∧ (splitLine s).nfl.latch = .latched ∧ stkSet (splitLine s) Reg.PAI_STICKY 6 := by
  refine ⟨?_, nfTrigger_latched _ _, ?_⟩
  · exact congrArg Pai.splitLine (unqueued_nfTrigger 4 _)
  · rw [splitLine, stkSet, stk_nfTrigger (by decide)]
    exact sticky_sets _ (by decide) _

end Sys2Proof.Machine
end
section
open Sys2Proof Sys2Proof.Machine Sys2Proof.Safety
/-- Settles O40: a failure of one path, the claim at the sample of the line, and a line that no unit drives. -/
theorem claimsComplete : Obligations.ClaimsComplete := by
  refine ⟨fun s hup hok hmissing hB => ?_, fun s hup hok hlast hA => ?_, fun s hup hok hlast hA hfailed hprim hact => ?_,
    fun s c hpair hclaim hdue hact => ?_, fun s c hup hclaim hdue => ?_, fun s r hready hpair hact hdrive hdue => ?_,
    fun s hup hdrive hpeer hline => ⟨_, congrArg Host.Outcome.next (if_pos (by simp [hup, hdrive, hpeer, hline])), splitLine_splits s⟩,
    fun s r p hup hdrive hpeer hline hrel hp hdue hafter => ?_, fun s hpair hstart hclaim hB hdue hprim => ?_⟩
  · refine ⟨_, congrArg Host.Outcome.next (if_pos (by simp [hup, hok, hmissing])), ?_⟩
    beta_reduce
    extract_lets lost u _ v
    have hu : u.pai = s.pai := hbMissed_pai _ s
    have hv : (sticky Reg.PAI_STICKY 0 v).pai = v.pai := by simp
    rw [peerFail_of_pathB (by rw [hv]; exact (congrArg (fun x : Pai => x.pathB.ok) hu).trans hB), hv]
    exact ⟨rfl, rfl, (congrArg Pai.active hu : u.pai.active = _), sticky_sets _ (by decide) _⟩
  · refine ⟨_, congrArg Host.Outcome.next (if_pos (by simp [hup, hok, hlast])), ?_⟩
    beta_reduce
    extract_lets u _ v
    have hv : (sticky Reg.PAI_STICKY 1 v).pai = v.pai := by simp
    rw [peerFail_of_pathA (by rw [hv]; exact hA), hv]
    exact ⟨rfl, rfl, sticky_sets _ (by decide) _⟩
  · refine ⟨_, congrArg Host.Outcome.next (if_pos (by simp [hup, hok, hlast])), ?_⟩
    beta_reduce
    extract_lets u _ v
    rw [peerFail_active (s := sticky Reg.PAI_STICKY 1 v) hA rfl hfailed hprim hact]
    obtain ⟨hdrive, hact', hfail, -⟩ := claimDrive_drives (peerLost (sticky Reg.PAI_STICKY 1 v))
    refine ⟨hfail, hdrive, hact'.trans hact, ?_⟩
    rw [stkSet, stk_of_seen (claimDrive_seen _ (by simp))]
    exact sticky_sets _ (by decide) _
  · obtain ⟨hdrive, hact', -, hhush, hat⟩ := claimDrive_drives (setPai { (lineSampled true s).pai with hushed := false } (lineSampled true s))
    refine ⟨_, execClaimSample_due true hpair hclaim hdue, ?_⟩
    rw [if_neg (by decide), if_pos hact]
    exact ⟨hdrive, hact'.trans hact, hhush, hat⟩
  · have hruns : paiRuns s = true := by simp_all [pairUp]
    have hpair : s.pai.pair = true := by simp_all [paiRuns]
    obtain ⟨hdrive, hact, hat, -, hkept⟩ := toStandby_line (lineSampled false s)
    have hpai (u : State) : (pairDegraded u).pai = u.pai := by simp [pairDegraded, paiSticky]
    refine ⟨_, execClaimSample_due false hpair hclaim hdue, ?_⟩
    rw [if_pos (by decide)]
    beta_reduce
    rw [hpai]
    refine ⟨hdrive, hact, hat, ?_⟩
    rw [pairDegraded, paiSticky, hkept.trans hruns]
    exact sticky_sets _ (by decide) _
  · have hexec : exec .claimNRelease s = .next (claimRelease s) := by
      show execClaimNRelease s = _
      simp only [execClaimNRelease, hready, hpair, hact, hdrive, hdue, Bool.and_self, decide_true, if_true]
    refine ⟨_, hexec, ?_⟩
    simp [claimRelease, hdrive, emit, ioOut]
  · have hexec : exec .splitClaimStuck s = .next (splitLine s) := by
      show execSplitClaimStuck s = _
      simp only [execSplitClaimStuck, hrel, hp]
      simp [hup, hdrive, hpeer, hline, hdue, hafter]
    exact ⟨_, hexec, splitLine_splits s⟩
  · refine ⟨_, congrArg Host.Outcome.next (if_pos (by simp [hpair, hstart, hclaim, hB, hdue])), ?_⟩
    obtain ⟨hdrive, hact, -⟩ := claimRelease_releases s
    simp [claimProcedure, hprim, hdrive, hact]
end

section
/-! SUPPORT. Mirror records, their acknowledgements and the handover (R330 to R332, R341, R342, R345). -/
namespace Sys2Proof.Machine
open Sys2Proof.Safety

/-- What a standby makes of a record that is in order: applied, numbered and acknowledged. -/
theorem execMirrorRecord_applies {s : State} {n : Nat} {r : MirrorRec} (hup : pairUp s = true) (hdrop : dropsNext s 10 = false)
    (hact : s.pai.active = false) (hmode : s.crp.mode = .standby) (hord : recInOrder s n r = true)
    (hpush : ∀ o, r ≠ .push o) (hhand : r ≠ .handover) : exec (.mirrorRecord n r) s =
      .next (emit (.mirrorAck n) (setPai { (mismatchCheck s (applyRec r s)).pai with applied := n } (mismatchCheck s (applyRec r s)))) := by
  show execMirrorRecord n r s = _
  cases r
  case push o => exact absurd rfl (hpush o)
  case handover => exact absurd rfl hhand
  all_goals simp [execMirrorRecord, hup, hdrop, hact, hmode, hord, hhand]

theorem mem_out_emit (o : Output) (s : State) : o ∈ (emit o s).io.out := List.mem_cons_self ..

/-- The records up to `n` are acknowledged; the grants that waited for them are still to leave. -/
def ackTaken (n : Nat) (s : State) : State :=
  let done := s.pai.sentRecs.filter (fun e => decide (e.1 ≤ n))
  setPai { s.pai with sentRecs := s.pai.sentRecs.filter (fun e => !decide (e.1 ≤ n)),
                      lagMax := max s.pai.lagMax ((done.map (fun e => usBetween e.2.2 s.tim.now)).foldl max 0),
                      grants := s.pai.grants.filter (fun g => !decide (g.number ≤ n)) }
    (perf 0x171 ((done.map (fun e => usBetween e.2.2 s.tim.now)).sum) s)

/-- The grants that waited for the records leave, or are lost where PLP transmission is stopped. -/
def grantsLeave (l : List HeldGrant) (s : State) : State :=
  if plpStopped s then l.foldl (fun s g => grantLost g.machine 0xE2 s) s else l.foldl (fun s g => releaseGrant g s) s

theorem grantsLeave_pai (l : List HeldGrant) (s : State) : (grantsLeave l s).pai = s.pai := by
  have hlost (t : State) (g : HeldGrant) : (grantLost g.machine 0xE2 t).pai = t.pai := part_of_seen (p := .pai) (grantLost_seen _ _ _ (by simp))
  have hleave (t : State) (g : HeldGrant) : (releaseGrant g t).pai = t.pai := part_of_seen (p := .pai) (releaseGrant_seen _ _ (by simp))
  unfold grantsLeave
  split
  · exact List.foldlRecOn (motive := fun t : State => t.pai = s.pai) _ _ rfl fun t ht g _ => (hlost t g).trans ht
  · exact List.foldlRecOn (motive := fun t : State => t.pai = s.pai) _ _ rfl fun t ht g _ => (hleave t g).trans ht

theorem grantsLeave_nil (s : State) : grantsLeave [] s = s := by
  unfold grantsLeave
  split <;> rfl

/-- An acknowledgement on the active unit; one of a handover makes it a standby. -/
theorem execMirrorAck_takes {s : State} {n : Nat} (hup : pairUp s = true) (hdrop : dropsNext s 10 = false) (hact : s.pai.active = true) :
    exec (.mirrorAck n) s = .next (
      let t := grantsLeave (s.pai.grants.filter (fun g => decide (g.number ≤ n))) (ackTaken n s)
      match s.pai.handover with
      | .sent _ => if (s.pai.sentRecs.filter (fun e => decide (e.1 ≤ n))).any (fun e => decide (e.2.1 = .handover)) then toStandby t else t
      | _ => t) := by
  have hhand : (grantsLeave (s.pai.grants.filter (fun g => decide (g.number ≤ n))) (ackTaken n s)).pai.handover = s.pai.handover := by
    rw [grantsLeave_pai]
    rfl
  show execMirrorAck n s = _
  rw [execMirrorAck, if_neg (by simp [hup, hact]), if_neg (by simp [hdrop]), ← hhand]
  rfl

/-- Each record of a sync takes the next number. -/
theorem startSync_numbers {s : State} (h : mirrors s = true) : (startSync s).pai.sync = 1 ∧
    (startSync s).pai.nextRec = s.pai.nextRec + (syncRecords s).length := by
  have hnext (t : State) (r : MirrorRec) (ht : mirrors t = true) : mirrors (mirror r t) = true ∧ (mirror r t).pai.nextRec = t.pai.nextRec + 1 ∧
      (mirror r t).pai.sync = t.pai.sync := by
    simp_all [mirror, mirrors]
  have hall (l : List MirrorRec) (t : State) (ht : mirrors t = true) :
      (l.foldl (fun s r => mirror r s) t).pai.sync = t.pai.sync ∧ (l.foldl (fun s r => mirror r s) t).pai.nextRec = t.pai.nextRec + l.length := by
    induction l generalizing t with
    | nil => exact ⟨rfl, rfl⟩
    | cons r l ih =>
      obtain ⟨hm, hn, hs⟩ := hnext t r ht
      obtain ⟨hsync, hrec⟩ := ih _ hm
      exact ⟨hsync.trans hs, by simp only [List.foldl_cons, List.length_cons, hrec, hn]; omega⟩
  have hstart : startSync s = (syncRecords s).foldl (fun s r => mirror r s) (setPai { s.pai with sync := 1 } s) := if_pos h
  rw [hstart]
  exact hall _ _ h

end Sys2Proof.Machine
end
section
open Sys2Proof Sys2Proof.Machine Sys2Proof.Safety
/-- Settles O41: a record applied, acknowledged or waited for too long; a sync; and the handover. -/
theorem mirroringCompletes : Obligations.MirroringCompletes := by
  refine ⟨fun s n l hup hdrop hact hmode hord => ?_, fun s n k v hup hdrop hact hmode hord => ?_,
    fun s n hup hdrop hact hhand hdue => ?_, fun s n b hup hdrop hact hhand hdone => ?_, fun s hgone hruns => ?_,
    fun s hup hsync hok => ?_, fun s b hhand hdue hruns => ?_, fun s hup hact hserves hhand => ?_,
    fun s hup hnot => ?_, fun s hup hok hact => ?_, fun s hup hok hact => ?_⟩
  · have hkept : (mismatchCheck s (applyRec (.tasks l) s)).tsk = { s.tsk with tasks := l } :=
      part_of_seen (p := .tsk) (mismatchCheck_seen s (applyRec (.tasks l) s) (by simp))
    exact ⟨_, execMirrorRecord_applies hup hdrop hact hmode hord (by simp) (by simp), hkept, rfl, mem_out_emit _ _⟩
  · have hkept : (mismatchCheck s (applyRec (.slot k v) s)).pst = (applyRec (.slot k v) s).pst :=
      part_of_seen (p := .pst) (mismatchCheck_seen s (applyRec (.slot k v) s) (by simp))
    refine ⟨_, execMirrorRecord_applies hup hdrop hact hmode hord (by simp) (by simp), ?_, rfl⟩
    simp only [fixSlot, emit_keeps, setPai_keeps, hkept]
    exact Tab.get_put_same _ _ _ _
  · refine ⟨_, execMirrorAck_takes hup hdrop hact, ?_⟩
    simp only [hhand, hdue, grantsLeave_nil]
    exact ⟨rfl, rfl⟩
  · obtain ⟨-, hoff, -, hnone, -⟩ := toStandby_line (grantsLeave (s.pai.grants.filter (fun g => decide (g.number ≤ n))) (ackTaken n s))
    refine ⟨_, execMirrorAck_takes hup hdrop hact, ?_⟩
    simp only [hhand]
    rw [if_pos hdone]
    exact ⟨hoff, hnone⟩
  · refine ⟨_, congrArg Host.Outcome.next (if_neg (by simp [hgone])), ?_⟩
    beta_reduce
    extract_lets _ t u
    have hlost (v : State) (g : HeldGrant) : v.pai = t.pai ∧ v.crp = s.crp →
        (grantLost g.machine 0x71 v).pai = t.pai ∧ (grantLost g.machine 0x71 v).crp = s.crp := fun h =>
      ⟨(part_of_seen (p := .pai) (grantLost_seen _ _ _ (by simp))).trans h.1, (part_of_seen (p := .crp) (grantLost_seen _ _ _ (by simp))).trans h.2⟩
    obtain ⟨hpai, hcrp⟩ : u.pai = t.pai ∧ u.crp = s.crp :=
      List.foldlRecOn (motive := fun v : State => v.pai = t.pai ∧ v.crp = s.crp) _ _ ⟨rfl, rfl⟩ fun v hv g _ => hlost v g hv
    have hu : paiRuns u = true := by
      rw [paiRuns_congr (s := s) (by rw [hpai]; rfl) (by rw [hcrp]) (by rw [hcrp])]
      exact hruns
    have hcount (k m : Nat) : (paiCount k m u).pai = u.pai ∧ paiRuns (paiCount k m u) = paiRuns u := by
      rw [paiCount, if_pos hu]
      exact ⟨rfl, rfl⟩
    rw [paiSticky, (hcount _ _).2, hu]
    refine ⟨?_, sticky_sets _ (by decide) _⟩
    rw [stickyIf, if_pos rfl]
    simp only [sticky_keeps, (hcount _ _).1, hpai]
    rfl
  · refine ⟨_, congrArg Host.Outcome.next (if_pos (by simp [hup, hsync, hok])), ?_⟩
    beta_reduce
    extract_lets _ _ t _ u
    have hu : u.pai.sync = 2 ∧ u.pai.lagMax = 0 ∧ rd u (Reg.PAI_CNT 4) = satAdd (rd s (Reg.PAI_CNT 4)) 1 := by
      have ht : t.pai.sync = 2 ∧ t.pai.lagMax = 0 ∧ rd t (Reg.PAI_CNT 4) = satAdd (rd s (Reg.PAI_CNT 4)) 1 := ⟨rfl, rfl, rd_inc_same _ _ _⟩
      clear_value t
      unfold u
      split
      next r _ =>
        exact ⟨ht.1, ht.2.1, (rd_of_seen (applyNfl_seen r t (by simp))).trans ht.2.2⟩
      · exact ht
    rw [(mismatchCheck_keeps _ _).1, rd_of_bank (mismatchCheck_keeps _ _).2]
    exact hu
  · have hexec : exec .handoverAckTimeout s = .next (sticky Reg.PAI_STICKY 7 (setPai { s.pai with
        handover := .due (s.cht.period + 1), sentRecs := s.pai.sentRecs.filter (fun e => decide (e.2.1 ≠ .handover)) } s)) := by
      show execHandoverAckTimeout s = _
      simp only [execHandoverAckTimeout, hhand, if_pos hdue]
      exact congrArg Host.Outcome.next (if_pos hruns)
    exact ⟨_, hexec, rfl, rfl, sticky_sets _ (by decide) _⟩
  · have hexec : exec .yield s = .next (setPai { s.pai with handover := .due (s.cht.period + 1) } s) := by
      show execYield s = _
      simp [execYield, hup, hact, hserves, hhand]
    exact ⟨_, hexec, rfl, hact⟩
  · have hexec : exec .yield s = .next (sticky Reg.PAI_STICKY 12 s) := by
      show execYield s = _
      simp [execYield, hup, hnot]
    exact ⟨_, hexec, by simp, sticky_sets _ (by decide) _⟩
  · have hmirrors : mirrors s = true := by simp_all [mirrors, pairUp, paiRuns]
    have hexec : exec .resync s = .next (startSync s) := by
      show execResync s = _
      simp [execResync, hup, hok, hact]
    exact ⟨_, hexec, startSync_numbers hmirrors⟩
  · have hexec : exec .resync s = .next (emit (.pair 4 []) (setPai { s.pai with sync := 0 } s)) := by
      show execResync s = _
      simp [execResync, hup, hok, hact]
    exact ⟨_, hexec, rfl, rfl⟩
end

section
/-! SUPPORT. The bridge and the thermal governor (R23, R25, R27, R373). -/
namespace Sys2Proof.Machine
open Sys2Proof.Safety

/-- A reading as a signed byte holds it. -/
def sat8 (x : Int) : Int := max (-128) (min 127 x)

/-- A reading as the byte of GLB_TEMP. -/
def tempByte (x : Int) : Nat := wrapInt 8 (sat8 x)

theorem tempByte_lt (x : Int) : tempByte x < 256 := by
  simp only [tempByte, wrapInt]
  omega

theorem signed_tempByte (x : Int) : signed 8 (tempByte x) = sat8 x := by
  simp only [tempByte, signed, wrapInt, sat8]
  omega

theorem b2n_eq_one (c : Bool) : b2n c = 1 ↔ c = true := by cases c <;> decide

/-- The five fields of GLB_TEMP after a sample. -/
theorem tempWord_eq (old : Word) (b f n : Int) : ∃ h t : Nat, h < 2 ∧ t < 2 ∧
    (h = 1 ↔ 105 ≤ max b (max f n) ∨ (bitAt old 24 = true ∧ 100 ≤ max b (max f n))) ∧
    tempWord old b f n = BitVec.ofNat 32 (tempByte b + 2 ^ 8 * tempByte f + 2 ^ 16 * tempByte n + 2 ^ 24 * h + 2 ^ 25 * t) := by
  refine ⟨b2n _, b2n _, ?_, ?_, ?_, rfl⟩
  · unfold b2n
    split <;> decide
  · unfold b2n
    split <;> decide
  · rw [b2n_eq_one]
    simp only [Bool.or_eq_true, Bool.and_eq_true, decide_eq_true_eq]

theorem tempAt_tempWord (old : Word) (b f n : Int) : tempAt (tempWord old b f n) 0 = sat8 b ∧ tempAt (tempWord old b f n) 1 = sat8 f ∧
    tempAt (tempWord old b f n) 2 = sat8 n := by
  obtain ⟨h, t, hh, ht, -, hw⟩ := tempWord_eq old b f n
  have hb := tempByte_lt b
  have hf := tempByte_lt f
  have hn := tempByte_lt n
  simp only [tempAt, hw, bits_ofNat, Nat.shiftRight_eq_div_pow, ← signed_tempByte]
  refine ⟨congrArg _ ?_, congrArg _ ?_, congrArg _ ?_⟩ <;> omega

theorem bitAt_tempWord (old : Word) (b f n : Int) : bitAt (tempWord old b f n) 24 = true ↔
    105 ≤ max b (max f n) ∨ (bitAt old 24 = true ∧ 100 ≤ max b (max f n)) := by
  obtain ⟨h, t, hh, ht, hiff, hw⟩ := tempWord_eq old b f n
  have hb := tempByte_lt b
  have hf := tempByte_lt f
  have hn := tempByte_lt n
  rw [← hiff, hw, bitAt, BitVec.getLsbD_ofNat, Nat.testBit_eq_decide_div_mod_eq]
  simp only [Nat.reduceLT, decide_true, Bool.true_and, decide_eq_true_eq]
  omega

/-- The sample as stored, and each sensor that reached 100 °C told. -/
def sampleTold (old new : Word) (s : State) : State :=
  (List.range 3).foldl (fun s k => stickyIf (decide (tempAt old k < 100) && decide (100 ≤ tempAt new k)) Reg.GLB_ERR 0 s) (wr Reg.GLB_TEMP new s)

theorem execThermalSample_next (b f n : Int) (s : State) : exec (.thermalSample b f n) s =
    .next (tripCheck ((List.range 3).foldl (tripDie (rd s Reg.GLB_TEMP) (tempWord (rd s Reg.GLB_TEMP) b f n))
      (sampleTold (rd s Reg.GLB_TEMP) (tempWord (rd s Reg.GLB_TEMP) b f n) s))) := rfl

theorem tripDie_holds (old new : Word) (s : State) (k : Nat) : stkHolds s (tripDie old new s k) := by
  unfold tripDie
  split
  · refine stkHolds_trans (stkHolds_trans ?_ (sticky_holds Reg.GLB_ERR 1 _)) (record_holds _ _ _ _)
    exact stkHolds_of_io rfl
  · exact stkHolds_refl s

theorem tripCheck_holds (s : State) : stkHolds s (tripCheck s) := by
  unfold tripCheck
  split
  · exact stkHolds_of_io rfl
  · exact stkHolds_refl s

/-- What one element of a list brings about and every one keeps, a fold over the list brings about. -/
theorem foldl_reaches {α : Type} {P : State → Prop} {f : State → α → State} {l : List α} {x : α} (hx : x ∈ l) (hset : ∀ s, P (f s x))
    (hkeep : ∀ s a, P s → P (f s a)) (s : State) : P (l.foldl f s) := by
  induction l generalizing s with
  | nil => exact absurd hx List.not_mem_nil
  | cons a l ih =>
    rcases List.mem_cons.1 hx with rfl | hl
    · exact List.foldlRecOn (motive := P) l f (hset s) fun t ht a _ => hkeep t a ht
    · exact ih hl (f s a)

theorem foldl_holds {α : Type} {f : State → α → State} (h : ∀ s a, stkHolds s (f s a)) (l : List α) (s : State) : stkHolds s (l.foldl f s) :=
  List.foldlRecOn (motive := fun t : State => stkHolds s t) l f (stkHolds_refl s) fun t ht a _ => stkHolds_trans ht (h t a)

/-- GLB_TEMP after a sample: the trips leave it. -/
theorem rd_thermalSample (old new : Word) (s : State) :
    rd (tripCheck ((List.range 3).foldl (tripDie old new) (sampleTold old new s))) Reg.GLB_TEMP = new := by
  rw [rd_of_seen (tripCheck_seen _ (by simp)), rd_of_seen (s := sampleTold old new s) (seen_foldl (fun t k => tripDie_seen old new t k (by simp; decide)) _ _)]
  simp [sampleTold, List.range_succ, rd_of_bank (stickyIf_keeps _ _ _ _).1]

/-- A sensor that reaches 100 °C is told. -/
theorem sampleTold_sets {old new : Word} {k : Nat} (hk : k < 3) (hlow : tempAt old k < 100) (hhigh : 100 ≤ tempAt new k) (s : State) :
    stkSet (sampleTold old new s) Reg.GLB_ERR 0 := by
  refine foldl_reaches (P := fun t => stkSet t Reg.GLB_ERR 0) (List.mem_range.2 hk) (fun t => ?_) (fun t a => stickyIf_holds _ _ _ t _ _) _
  rw [stickyIf, if_pos (by simp [hlow, hhigh])]
  exact sticky_sets _ (by decide) t

/-- The stop of cause 3 is in force, with its indication. -/
def Tripped (s : State) : Prop := stkSet s Reg.GLB_ERR 1 ∧ s.crp.tripStop = true

/-- A die that reaches 115 °C trips the unit. -/
theorem tripDie_trips {old new : Word} {k : Nat} (hlow : tempAt old k < 115) (hhigh : 115 ≤ tempAt new k) (s : State) :
    Tripped (tripDie old new s k) := by
  rw [tripDie, if_pos ⟨hlow, hhigh⟩]
  exact ⟨record_holds _ _ _ _ _ _ (sticky_sets _ (by decide) _), by simp⟩

theorem tripDie_keeps_tripped (old new : Word) (s : State) (k : Nat) (h : Tripped s) : Tripped (tripDie old new s k) := by
  refine ⟨tripDie_holds old new s k _ _ h.1, ?_⟩
  unfold tripDie
  split
  · simp
  · exact h.2

theorem tripCheck_of_tripped {s : State} (h : Tripped s) : tripCheck s = s := by simp [tripCheck, show bitAt (stk s Reg.GLB_ERR) 1 = true from h.1]

end Sys2Proof.Machine
end
section
open Sys2Proof Sys2Proof.Machine Sys2Proof.Safety
/-- Settles O10: what the bridge reports, and each stage of the thermal governor, read off the word that a sample stores. -/
theorem bridgeAndThermalComplete : Obligations.BridgeAndThermalComplete := by
  refine ⟨fun s => ⟨_, rfl, by simp, sticky_sets _ (by decide) _⟩, fun s hsilent hst htiming hloss => ?_,
    fun s b f n hb hb' hf hf' hn hn' => ?_, fun s b f n hlow hb hb' => ?_, fun s w hw hstop hcool => ?_⟩
  · have hexec : exec .bridgeSilent s = .next (timCheckBound (setLoss ((s.tim.now : Int) - (tMs : Int))
        (sticky Reg.GLB_ERR 3 (setIng { s.ing with silent := true } s)))) := by
      show execBridgeSilent s = _
      rw [execBridgeSilent, if_neg (by simp [hsilent])]
      exact congrArg Host.Outcome.next (reportLoss_new (s := sticky Reg.GLB_ERR 3 (setIng { s.ing with silent := true } s)) (.inl hst) hloss htiming)
    refine ⟨_, hexec, ?_, ?_, ?_⟩
    · have hing (t : State) (x : Int) : (timCheckBound (setLoss x t)).ing = t.ing :=
        (part_of_seen (p := .ing) (timCheckBound_seen _ (by simp))).trans (part_of_seen (p := .ing) (setLoss_seen _ _ (by simp)))
      rw [hing]
      rfl
    · rw [stkSet, stk_of_seen (timCheckBound_seen _ (by simp; decide)), stk_of_seen (setLoss_seen _ _ (by simp))]
      exact sticky_sets _ (by decide) _
    · simpa using (setLoss_tim _ _).1
  · obtain ⟨h0, h1, h2⟩ := tempAt_tempWord (rd s Reg.GLB_TEMP) b f n
    refine ⟨_, execThermalSample_next b f n s, ?_⟩
    simp only [rd_thermalSample, h0, h1, h2, hot, flag, bitAt_tempWord]
    refine ⟨by simp only [sat8]; omega, by simp only [sat8]; omega, by simp only [sat8]; omega, fun k hk hlow hhigh => ?_, trivial⟩
    exact tripCheck_holds _ _ _ (foldl_holds (tripDie_holds _ _) _ _ _ _ (sampleTold_sets hk hlow hhigh s))
  · obtain ⟨h0, -⟩ := tempAt_tempWord (rd s Reg.GLB_TEMP) b f n
    have htrip := foldl_reaches (f := tripDie (rd s Reg.GLB_TEMP) (tempWord (rd s Reg.GLB_TEMP) b f n)) (List.mem_range.2 (by decide : 0 < 3))
      (tripDie_trips hlow (by rw [h0, sat8]; omega)) (tripDie_keeps_tripped _ _) (sampleTold (rd s Reg.GLB_TEMP) (tempWord (rd s Reg.GLB_TEMP) b f n) s)
    refine ⟨_, execThermalSample_next b f n s, ?_, ?_⟩
    · rw [hot, flag, rd_thermalSample, bitAt_tempWord]
      omega
    · rw [tripCheck_of_tripped htrip]
      exact htrip
  · have hclear : bitAt (stk s Reg.GLB_ERR &&& ~~~(w &&& 0xF)) 1 = false := by
      have h1 : w.getLsbD 1 = true := hw
      simp [bitAt, -BitVec.getLsbD_eq_getElem, h1]
    have hstk : stk { s with io := ioSetStk s.io Reg.GLB_ERR (stk s Reg.GLB_ERR &&& ~~~(w &&& 0xF)) } Reg.GLB_ERR =
        stk s Reg.GLB_ERR &&& ~~~(w &&& 0xF) := ioStk_set_same _ _ _
    have hexec : exec (.thermalTripClear w) s = .next (setCrp { s.crp with tripStop := false }
        { s with io := ioSetStk s.io Reg.GLB_ERR (stk s Reg.GLB_ERR &&& ~~~(w &&& 0xF)) }) := by
      refine congrArg Host.Outcome.next (if_pos ?_)
      rw [hstk, hclear]
      simp only [Bool.and_eq_true, decide_eq_true_eq, Bool.not_false, and_true]
      exact ⟨hstop, hcool⟩
    refine ⟨_, hexec, fun hset => ?_, rfl⟩
    exact absurd (hset.symm.trans (congrArg (bitAt · 1) hstk) |>.trans hclear) (by decide)
end

section
/-! SUPPORT. Antennas and contexts in their tables: an entry written, and a change made to every entry (chapter 2). -/
namespace Sys2Proof.Machine
open Sys2Proof.Safety

/-- A change of every entry of a table that leaves the default changes what each key finds. -/
theorem get_map {α : Type} {d : Nat → α} {g : α → α} (t : Tab α) (k : Nat) (hd : g (d k) = d k) :
    Tab.get d (t.map fun e => (e.1, g e.2)) k = g (Tab.get d t k) := by
  induction t with
  | nil => exact hd.symm
  | cons e t ih => by_cases he : e.1 = k <;> simp [Tab.get, he, ih]

theorem ant_setAnt_ne {k n : Nat} (h : k ≠ n) (a : Ant) (s : State) : ant (setAnt n a s) k = ant s k := Tab.get_put_ne _ _ _ h

theorem ant_of_ing {s t : State} (h : t.ing = s.ing) (n : Nat) : ant t n = ant s n := by rw [ant, ant, h]
theorem ctx_of_cor {s t : State} (h : t.cor = s.cor) (ch : Nat) : ctx t ch = ctx s ch := by rw [ctx, ctx, h]

@[simp] theorem ant_sticky (a b : Nat) (s : State) (n : Nat) : ant (sticky a b s) n = ant s n := rfl
@[simp] theorem ant_emit (o : Output) (s : State) (n : Nat) : ant (emit o s) n = ant s n := rfl
@[simp] theorem ant_stickyIf (c : Bool) (a b : Nat) (s : State) (n : Nat) : ant (stickyIf c a b s) n = ant s n := ant_of_ing (by simp) n

theorem lt_gradeAnts {s : State} {n : Nat} (h : antUp s n = true) : n < gradeAnts s := by
  simp only [antUp, Bool.and_eq_true, decide_eq_true_eq] at h
  exact h.1

theorem lt_of_antUp {s : State} {n : Nat} (h : antUp s n = true) : n < 4 := by
  have hgrade : gradeAnts s ≤ 4 := by
    unfold gradeAnts
    split <;> decide
  exact (lt_gradeAnts h).trans_le hgrade

/-- A context that runs live on an antenna takes the mark. -/
theorem ctx_markAnt {s : State} {n ch : Nat} {f : Ctx → Ctx} (hrun : (ctx s ch).state = .run) (hant : bits (ctx s ch).cfg 1 0 = n)
    (hlive : bitAt (ctx s ch).cfg 13 = false) : ctx (markAnt n f s) ch = f (ctx s ch) := by
  have h := get_map (g := fun c : Ctx => if c.state = .run ∧ bits c.cfg 1 0 = n ∧ bitAt c.cfg 13 = false then f c else c) (d := ctxDef)
    s.cor.ctx ch (if_neg (by simp [ctxDef]))
  exact h.trans (if_pos ⟨hrun, hant, hlive⟩)

theorem linkLoss_cor (n : Nat) (lost : Bool) (s : State) : (linkLoss n lost s).cor = s.cor := by simp [linkLoss]

theorem linkLoss_ant (n : Nat) (lost : Bool) (s : State) : (ant (linkLoss n lost s) n).link = .codeGroup := by
  simp [linkLoss, ant, setAnt]

theorem rd_linkLoss (n : Nat) (lost : Bool) (s : State) : rd (linkLoss n lost s) (Reg.ING_ERRCNT n) =
    setBits (rd s (Reg.ING_ERRCNT n)) 31 16 (min (bits (rd s (Reg.ING_ERRCNT n)) 31 16 + 1) 0xFFFF) := by
  rw [linkLoss, rd_of_bank (sticky_keeps _ _ _).1, rd_wr_same]

theorem linkLoss_sticky {n : Nat} (h : n < 32) (lost : Bool) (s : State) : stkSet (linkLoss n lost s) Reg.ING_STICKY n := sticky_sets _ h _

end Sys2Proof.Machine
end

section
/-! SUPPORT. Bring-up of an antenna's link, and SYSREF (R42, R43, R48, R50, R80). -/
namespace Sys2Proof.Machine
open Sys2Proof.Safety

/-- A fold that treats each element once: what holds until `x` comes makes what holds from then on. -/
theorem foldl_once {α : Type} {P Q : State → Prop} {f : State → α → State} {l : List α} {x : α} (hx : x ∈ l) (hl : l.Nodup)
    (hbefore : ∀ s a, a ≠ x → P s → P (f s a)) (hat : ∀ s, P s → Q (f s x)) (hafter : ∀ s a, a ≠ x → Q s → Q (f s a)) {s : State} (hs : P s) :
    Q (l.foldl f s) := by
  induction l generalizing s with
  | nil => exact absurd hx List.not_mem_nil
  | cons a l ih =>
    obtain ⟨hnot, hl⟩ := List.nodup_cons.1 hl
    by_cases ha : a = x
    · subst ha
      exact List.foldlRecOn (motive := Q) l f (hat s hs) fun t ht b hb => hafter t b (fun e => hnot (e ▸ hb)) ht
    · exact ih ((List.mem_cons.1 hx).resolve_left fun e => ha e.symm) hl (hbefore s a ha hs)

/-! ### The antenna switches -/

theorem antSwitch_keeps (w : Word) (s : State) (k : Nat) : (antSwitch w s k).grade = s.grade ∧ (antSwitch w s k).bank = s.bank ∧
    ∀ n, n ≠ k → ant (antSwitch w s k) n = ant s n := by
  unfold antSwitch
  dsimp only
  split
  · exact ⟨rfl, rfl, fun _ _ => rfl⟩
  split
  · split
    · exact ⟨rfl, rfl, fun n hn => ant_setAnt_ne hn _ _⟩
    · exact ⟨rfl, rfl, fun _ _ => rfl⟩
  · exact ⟨rfl, rfl, fun n hn => ant_setAnt_ne hn _ _⟩

/-- The link of an antenna after its switch. -/
def switched (w : Word) (n : Nat) (l : LinkState) : LinkState := if bitAt w n then if l = .down then .codeGroup else l else .down

theorem antSwitch_link {w : Word} {s : State} {n : Nat} (h : n < gradeAnts s) : (ant (antSwitch w s n) n).link = switched w n (ant s n).link := by
  simp only [antSwitch, Nat.not_le.2 h, if_false, switched]
  split
  · split <;> simp_all
  · simp

theorem antSwitches_link {w : Word} {s : State} {n : Nat} (hn : n < 4) (h : n < gradeAnts s) :
    (ant ((List.range 4).foldl (antSwitch w) s) n).link = switched w n (ant s n).link := by
  refine foldl_once (P := fun t => ant t n = ant s n ∧ t.grade = s.grade) (Q := fun t => (ant t n).link = switched w n (ant s n).link)
    (List.mem_range.2 hn) List.nodup_range (fun t k hk ht => ?_) (fun t ht => ?_) (fun t k hk ht => ?_) ⟨rfl, rfl⟩
  · obtain ⟨hgrade, -, hant⟩ := antSwitch_keeps w t k
    exact ⟨(hant n (Ne.symm hk)).trans ht.1, hgrade.trans ht.2⟩
  · rw [antSwitch_link (by rwa [gradeAnts, ht.2]), ht.1]
  · obtain ⟨-, -, hant⟩ := antSwitch_keeps w t k
    rw [hant n (Ne.symm hk), ht]

theorem execAntEn_switches {s : State} {w : Word} {n : Nat} (h : antUp s n = true) : ∃ t, exec (.antEn w) s = .next t ∧
    (ant t n).link = switched w n (ant s n).link ∧ rd t Reg.ING_CTRL = lowBits (gradeAnts s) w := by
  have hup : bbUp s = true := by simp_all [antUp]
  refine ⟨_, congrArg Host.Outcome.next (if_pos hup), ?_, ?_⟩
  · exact antSwitches_link (lt_of_antUp h) (lt_gradeAnts h)
  · refine (rd_of_bank ?_ _).trans (rd_wr_same _ _ s)
    exact List.foldlRecOn (motive := fun t : State => t.bank = (wr Reg.ING_CTRL (lowBits (gradeAnts s) w) s).bank) _ _ rfl
      fun t ht k _ => (antSwitch_keeps w t k).2.1.trans ht

/-! ### SYSREF -/

/-- What a pulse reads of the state, beside the antenna that it reaches. -/
def SysrefSame (s t : State) : Prop := t.grade = s.grade ∧ t.bank = s.bank ∧ t.crp = s.crp

theorem SysrefSame.trans {a b c : State} (h : SysrefSame a b) (g : SysrefSame b c) : SysrefSame a c := by
  obtain ⟨hgrade, hbank, hcrp⟩ := h
  obtain ⟨ggrade, gbank, gcrp⟩ := g
  exact ⟨ggrade.trans hgrade, gbank.trans hbank, gcrp.trans hcrp⟩

theorem SysrefSame.subclass0 {s t : State} (h : SysrefSame s t) (n : Nat) : subclass0 t n = subclass0 s n := by
  obtain ⟨-, hbank, hcrp⟩ := h
  rw [Machine.subclass0, Machine.subclass0, flag, flag, rd_of_bank hbank, hcrp]

/-- An antenna that takes the pulse in frame `p`. -/
def sysrefAnt (s : State) (n p : Nat) : Ant :=
  let a := ant s n
  let moves := !a.aligned || flag s (Reg.ING_CFG n) 2
  { a with aligned := true, waitSysref := false, link := if a.waitSysref then LinkState.lane else a.link,
           lmfc := if moves then p else a.lmfc, release := if moves then releaseFrame s n p else a.release }

theorem sysrefTake_takes {s : State} {n : Nat} (phases : List (BitVec 5)) (h : n < gradeAnts s) (hlink : (ant s n).link ≠ .down)
    (hsub : subclass0 s n = false) (hnd : (ant s n).nondet = false) : sysrefTake phases s n =
      stickyIf ((ant s n).aligned && decide (((phases.drop n).headD 0).toNat ≠ (ant s n).lmfc)) Reg.ING_STICKY (8 + n)
        (setAnt n (sysrefAnt s n ((phases.drop n).headD 0).toNat) (emit (.sysref n) s)) := by
  have hgo : ¬ (gradeAnts s ≤ n ∨ (ant s n).link = .down) := by simp [Nat.not_le.2 h, hlink]
  have hone : ¬ (subclass0 s n = true ∨ (ant s n).nondet = true) := by simp [hsub, hnd]
  exact (if_neg hgo).trans (if_neg hone)

theorem sysrefTake_keeps (phases : List (BitVec 5)) (s : State) (k : Nat) : SysrefSame s (sysrefTake phases s k) ∧
    (sysrefTake phases s k).ing.sysrefAt = s.ing.sysrefAt ∧ stkHolds s (sysrefTake phases s k) ∧
    ∀ n, n ≠ k → ant (sysrefTake phases s k) n = ant s n := by
  have hkept (c : Bool) (a : Ant) : ∀ t, t = stickyIf c Reg.ING_STICKY (8 + k) (setAnt k a (emit (.sysref k) s)) →
      SysrefSame s t ∧ t.ing.sysrefAt = s.ing.sysrefAt ∧ stkHolds s t ∧ ∀ n, n ≠ k → ant t n = ant s n := by
    rintro t rfl
    refine ⟨by simp [SysrefSame], by simp [setAnt], ?_, fun n hn => ?_⟩
    · exact stkHolds_trans (stkHolds_trans (emit_holds (.sysref k) s) (stkHolds_of_io (by simp))) (stickyIf_holds _ _ _ _)
    · rw [ant_stickyIf, ant_setAnt_ne hn, ant_emit]
  unfold sysrefTake
  dsimp only
  split
  · exact ⟨⟨rfl, rfl, rfl⟩, rfl, stkHolds_refl s, fun _ _ => rfl⟩
  split
  · exact ⟨⟨rfl, rfl, rfl⟩, rfl, emit_holds _ _, fun _ _ => rfl⟩
  · exact hkept _ _ _ rfl

/-- An antenna that has taken the pulse. -/
def SysrefTaken (s : State) (n p : Nat) (t : State) : Prop :=
  ant t n = sysrefAnt s n p ∧ t.ing.sysrefAt = sysrefIdx s ∧ ((ant s n).aligned = true → p ≠ (ant s n).lmfc → stkSet t Reg.ING_STICKY (8 + n))

/-- What a pulse makes of one antenna, once it has gone to all. -/
theorem execSysrefPulse_takes {s : State} {n : Nat} (phases : List (BitVec 5)) (hup : antUp s n = true) (hdue : sysrefDue s = true)
    (hlink : (ant s n).link ≠ .down) (hsub : subclass0 s n = false) (hnd : (ant s n).nondet = false) :
    ∃ t, exec (.sysrefPulse phases) s = .next t ∧ SysrefTaken s n ((phases.drop n).headD 0).toNat t := by
  have hbb : bbUp s = true := by simp_all [antUp]
  have hn := lt_of_antUp hup
  refine ⟨_, congrArg Host.Outcome.next (if_pos (by simp [hbb, hdue])), ?_⟩
  extract_lets _ u
  refine foldl_once (s := u) (Q := SysrefTaken s n ((phases.drop n).headD 0).toNat) (P := fun t => SysrefSame s t ∧ ant t n = ant s n ∧ t.ing.sysrefAt = sysrefIdx s) (List.mem_range.2 hn) List.nodup_range
    (fun t k hk ht => ?_) (fun t ht => ?_) (fun t k hk ht => ?_) ⟨⟨rfl, rfl, rfl⟩, rfl, rfl⟩
  · obtain ⟨hsame, hant, hat⟩ := ht
    obtain ⟨hsame', hat', -, hant'⟩ := sysrefTake_keeps phases t k
    exact ⟨hsame.trans hsame', (hant' n (Ne.symm hk)).trans hant, hat'.trans hat⟩
  · obtain ⟨hsame, hant, hat⟩ := ht
    obtain ⟨hgrade, hbank, -⟩ := id hsame
    have htake := sysrefTake_takes (s := t) phases (by rw [gradeAnts, hgrade]; exact lt_gradeAnts hup) (by rwa [hant])
      (by rw [hsame.subclass0, hsub]) (by rw [hant, hnd])
    have hvalue (p : Nat) : sysrefAnt t n p = sysrefAnt s n p := by
      rw [sysrefAnt, sysrefAnt, hant, flag, flag, releaseFrame, releaseFrame, fld, fld, rd_of_bank hbank]
    obtain ⟨-, hat', -, -⟩ := sysrefTake_keeps phases t n
    refine ⟨?_, hat'.trans hat, fun halign hphase => ?_⟩
    · rw [htake, hvalue, ant_stickyIf, setAnt_same]
    · rw [htake, hant, stickyIf, halign, Bool.true_and, if_pos (decide_eq_true hphase)]
      exact sticky_sets _ (by omega) _
  · obtain ⟨hant, hat, hset⟩ := ht
    obtain ⟨-, hat', hholds, hant'⟩ := sysrefTake_keeps phases t k
    exact ⟨(hant' n (Ne.symm hk)).trans hant, hat'.trans hat, fun halign hphase => hholds _ _ (hset halign hphase)⟩

/-! ### ILAS data that differ -/

theorem ilas_ne (n : Nat) {i j : Nat} (h : i ≠ j) : Reg.ING_ILAS n i ≠ Reg.ING_ILAS n j := by
  unfold Reg.ING_ILAS
  omega

/-- The link configuration data captured. -/
def ilasCaptured (n : Nat) (o : List Byte) (s : State) : State :=
  (List.range 4).foldl (fun s i => wr (Reg.ING_ILAS n i) (BitVec.ofNat 32 (leAt o (4 * i) 4)) s) s

theorem rd_ilasCaptured {n i : Nat} (hi : i < 4) (o : List Byte) (s : State) :
    rd (ilasCaptured n o s) (Reg.ING_ILAS n i) = BitVec.ofNat 32 (leAt o (4 * i) 4) := by
  refine foldl_once (P := fun _ => True) (Q := fun t => rd t (Reg.ING_ILAS n i) = BitVec.ofNat 32 (leAt o (4 * i) 4)) (List.mem_range.2 hi)
    List.nodup_range (fun _ _ _ _ => trivial) (fun t _ => rd_wr_same _ _ _) (fun t k hk ht => ?_) trivial
  rw [rd_wr_ne _ _ (ilas_ne n (Ne.symm hk)), ht]

end Sys2Proof.Machine
end
section
open Sys2Proof Sys2Proof.Machine Sys2Proof.Safety
/-- Settles O11: each step of the bring-up by the state of the link that it finds, and each antenna's share of a SYSREF pulse. -/
theorem linkBringUpCompletes : Obligations.LinkBringUpCompletes := by
  refine ⟨fun s w n hup hw hdown => ?_, fun s w n hup hw => ?_, fun s n hup hcg hsub => ?_, fun s n hup hcg hsub => ?_,
    fun s n hmode => by simp [subclass0, hmode], fun s phases n hup hdue hcg hwait halign hsub hnd => ?_,
    fun s phases n hup hdue hdata hwait halign hsub hnd hphase => ?_, fun s n o hup hlane hok => ?_, fun s n cdr hup hlink => ?_,
    fun s n o hup hlane hok => ?_⟩
  · obtain ⟨t, ht, hlink, hrd⟩ := execAntEn_switches (w := w) hup
    exact ⟨t, ht, by simp [hlink, switched, hw, hdown], hrd⟩
  · obtain ⟨t, ht, hlink, -⟩ := execAntEn_switches (w := w) hup
    exact ⟨t, ht, by simp [hlink, switched, hw]⟩
  · have hexec : exec (.codeGroupSync n) s = .next (setAnt n { ant s n with cdrLock := true, waitSysref := true, nondet := false } s) := by
      show execCodeGroupSync n s = _
      simp [execCodeGroupSync, hup, hcg, hsub]
    refine completes_of hexec ?_
    rw [setAnt_same]
    exact ⟨rfl, rfl, hcg⟩
  · have hexec : exec (.codeGroupSync n) s = .next (setAnt n { ant s n with cdrLock := true, link := .lane, nondet := true } s) := by
      show execCodeGroupSync n s = _
      simp [execCodeGroupSync, hup, hcg, hsub]
    refine completes_of hexec ?_
    rw [setAnt_same]
    exact ⟨rfl, rfl⟩
  · obtain ⟨t, ht, hant, hat, -⟩ := execSysrefPulse_takes phases hup hdue (by simp [hcg]) hsub hnd
    refine completes_of ht ?_
    rw [hant]
    simp [sysrefAnt, hwait, halign, releaseFrame, hat]
  · obtain ⟨t, ht, hant, -, hset⟩ := execSysrefPulse_takes phases hup hdue (by simp [hdata]) hsub hnd
    refine completes_of ht ⟨hset halign hphase, ?_⟩
    rw [hant]
    simp [sysrefAnt, hwait, halign, hdata]
  · have hexec : exec (.ilasReceived n o) s = .next (setAnt n { ant s n with link := .data } s) := by
      show execIlasReceived n o s = _
      simp [execIlasReceived, hup, hlane, hok]
    refine completes_of hexec ?_
    rw [setAnt_same]
    exact ⟨rfl, rfl⟩
  · refine completes_of (congrArg Host.Outcome.next (if_pos (by simp [hup, hlink]))) ?_
    refine ⟨linkLoss_ant _ _ _, linkLoss_sticky (by have := lt_of_antUp hup; omega) _ _, ?_⟩
    rw [fld, rd_linkLoss]
    exact bits_setBits_same _ (by decide) (by omega)
  · have hexec : exec (.ilasReceived n o) s = .next (sticky Reg.ING_STICKY (4 + n)
        (setAnt n { ant s n with link := .codeGroup, waitSysref := false } (ilasCaptured n (padTo 14 o) s))) := by
      show execIlasReceived n o s = _
      rw [execIlasReceived, if_pos (by simp [hup, hlane]), if_neg (by simp [hok])]
      rfl
    refine completes_of hexec ⟨?_, sticky_sets _ (by have := lt_of_antUp hup; omega) _, ?_⟩
    · rw [ant_sticky, setAnt_same]
    · have hrd (i : Nat) (hi : i < 4) (a : Ant) : rd (sticky Reg.ING_STICKY (4 + n) (setAnt n a (ilasCaptured n (padTo 14 o) s))) (Reg.ING_ILAS n i) =
          BitVec.ofNat 32 (leAt (padTo 14 o) (4 * i) 4) := (rd_of_bank rfl _).trans (rd_ilasCaptured hi _ s)
      exact ⟨hrd 0 (by decide) _, hrd 1 (by decide) _, hrd 2 (by decide) _, hrd 3 (by decide) _⟩
end

section
/-! SUPPORT. A code error: what it marks and counts (R49). -/
namespace Sys2Proof.Machine
open Sys2Proof.Safety

/-- The ends of a word of four bytes. -/
theorem bits_bytes {a b c d : Nat} (ha : a < 256) (hb : b < 256) (hc : c < 256) (hd : d < 256) :
    bits (BitVec.ofNat 32 (a + 2 ^ 8 * b + 2 ^ 16 * c + 2 ^ 24 * d)) 7 0 = a ∧
    bits (BitVec.ofNat 32 (a + 2 ^ 8 * b + 2 ^ 16 * c + 2 ^ 24 * d)) 31 24 = d := by
  simp only [bits_ofNat, Nat.shiftRight_eq_div_pow]
  omega

/-- The errors of the multiframe that runs, with this one. -/
def errorsNow (n : Nat) (s : State) : Nat := if (ant s n).errMf = multiframe s n then (ant s n).errs + 1 else 1

/-- The error counted, and every context that runs on the antenna marked. -/
def errorMarked (n : Nat) (s : State) : State :=
  markAnt n (fun c => { c with ingressGap := true })
    (perf 0x103 1 (wr (Reg.ING_ERRCNT n) (setBits (rd s (Reg.ING_ERRCNT n)) 15 0 (min (bits (rd s (Reg.ING_ERRCNT n)) 15 0 + 1) 0xFFFF))
      (setAnt n { ant s n with errs := errorsNow n s, errMf := multiframe s n } s)))

theorem execCodeErr_data {s : State} {n : Nat} (hup : antUp s n = true) (hdata : (ant s n).link = .data) :
    exec (.codeErr n) s = .next (if 16 ≤ errorsNow n s then linkLoss n false (errorMarked n s) else errorMarked n s) := by
  show execCodeErr n s = _
  rw [execCodeErr, if_pos (by simp [hup, hdata])]
  rfl

theorem rd_errorMarked (n : Nat) (s : State) : rd (errorMarked n s) (Reg.ING_ERRCNT n) =
    setBits (rd s (Reg.ING_ERRCNT n)) 15 0 (min (bits (rd s (Reg.ING_ERRCNT n)) 15 0 + 1) 0xFFFF) := by
  have hmark (t : State) (f : Ctx → Ctx) : rd (markAnt n f t) (Reg.ING_ERRCNT n) = rd t (Reg.ING_ERRCNT n) := rd_of_bank rfl _
  rw [errorMarked, hmark, rd_of_bank (perf_keeps _ _ _).1, rd_wr_same]

end Sys2Proof.Machine
end
section
open Sys2Proof Sys2Proof.Machine Sys2Proof.Safety
/-- Settles O12: what a code error marks and counts, the clip word, and the latency that acts from the next millisecond. -/
theorem ingressSamplesComplete : Obligations.IngressSamplesComplete := by
  refine ⟨fun s n ch hup hdata hrun hant hlive => ?_, fun s n hup hdata hmf herrs => ?_, fun s n l hup hms => ?_, fun s n w hup => ?_,
    fun s n ch m w hup hpend hms hrun hant hlive => ?_⟩
  · have hctx : (ctx (errorMarked n s) ch).ingressGap = true := by
      have hkept (w : Word) (a : Ant) : ctx (perf 0x103 1 (wr (Reg.ING_ERRCNT n) w (setAnt n a s))) ch = ctx s ch := ctx_of_cor (by simp) ch
      rw [errorMarked, ctx_markAnt (by rwa [hkept]) (by rwa [hkept]) (by rwa [hkept])]
    refine completes_of (execCodeErr_data hup hdata) ?_
    have hcount := bits_setBits_same (rd s (Reg.ING_ERRCNT n)) (hi := 15) (lo := 0)
      (v := min (bits (rd s (Reg.ING_ERRCNT n)) 15 0 + 1) 0xFFFF) (by decide) (by omega)
    split
    · rw [ctx_of_cor (linkLoss_cor _ _ _), fld, rd_linkLoss, bits_setBits_other _ _ (by decide) (.inl (by decide)), rd_errorMarked]
      exact ⟨hctx, hcount⟩
    · rw [fld, rd_errorMarked]
      exact ⟨hctx, hcount⟩
  · have h16 : 16 ≤ errorsNow n s := by
      rw [errorsNow, if_pos hmf]
      omega
    refine completes_of (execCodeErr_data hup hdata) ?_
    rw [if_pos h16]
    exact ⟨linkLoss_ant _ _ _, linkLoss_sticky (by have := lt_of_antUp hup; omega) _ _⟩
  · refine ⟨_, congrArg Host.Outcome.next (if_pos (by simp [hup, hms])), ?_⟩
    simp only [fld, rd_wr_same]
    exact bits_bytes (by omega) (by omega) (by omega) (by omega)
  · refine ⟨_, congrArg Host.Outcome.next (if_pos hup), rd_wr_same _ _ _, ?_⟩
    simp [ant, setAnt]
  · have hexec : exec (.latencyStep n) s = .next (markAnt n (fun c => { c with latencyStep := true })
        (setAnt n { ant s n with latency := w, pendLatency := none } s)) := by
      show execLatencyStep n s = _
      simp [execLatencyStep, hpend, hup, hms]
    refine ⟨_, hexec, ?_, ?_, ?_⟩
    · simp [markAnt, ant, setAnt]
    · simp [markAnt, ant, setAnt]
    · rw [ctx_markAnt (s := setAnt n _ s) hrun hant hlive]
end

section
/-! SUPPORT. The commands of a channel context (R55, R72, Table 2.7). -/
namespace Sys2Proof.Machine
open Sys2Proof.Safety

theorem ctxIdle_state (ch : Nat) (c : Ctx) (s : State) : (ctx (ctxIdle ch c s) ch).state = .idle := by
  have hkept (t : State) : ctx (releaseDue t) ch = ctx t ch := ctx_of_cor rfl ch
  rw [ctxIdle, hkept, setCtx_same]

end Sys2Proof.Machine
end
section
open Sys2Proof Sys2Proof.Machine Sys2Proof.Safety
/-- Settles O13: each command by the state that it finds the context in. -/
theorem contextCommandsComplete : Obligations.ContextCommandsComplete := by
  refine ⟨fun s ch hup hidle => ?_, fun s ch hup hbusy => ?_, fun s ch hup hrun => ?_, fun s ch hup harm => ?_, fun s ch hup hst => ?_,
    fun s ch hup harm hlive hdue hlen => ?_⟩
  · refine completes_of (congrArg Host.Outcome.next ((if_neg (by simp [hup])).trans (if_neg (by simp [hidle])))) ?_
    rw [setCtx_same]
    exact ⟨rfl, rfl, rfl, rfl⟩
  · refine completes_of (congrArg Host.Outcome.next ((if_neg (by simp [hup])).trans (if_pos hbusy))) ?_
    exact ⟨by simp [ctxRefuse], sticky_sets _ (by decide) _⟩
  · have hexec : exec (.stopAt ch) s = .next (setCtx ch { ctx s ch with stopAt := some (ctxAt s ch) } s) := by
      show execStopAt ch s = _
      simp [execStopAt, hup, hrun]
    refine completes_of hexec ?_
    rw [setCtx_same]
    exact ⟨hrun, rfl⟩
  · have hexec : exec (.stopAt ch) s = .next (ctxIdle ch (ctx s ch) s) := by
      show execStopAt ch s = _
      simp [execStopAt, hup, harm]
    exact completes_of hexec (ctxIdle_state _ _ _)
  · have hexec : exec (.abort ch) s = .next (ctxIdle ch (ctx s ch) s) := by
      show execAbort ch s = _
      rcases hst with h | h <;> simp [execAbort, hup, h]
    exact completes_of hexec (ctxIdle_state _ _ _)
  · refine completes_of (congrArg Host.Outcome.next (if_pos (by simp [hup, harm, hlive, hdue]))) ?_
    rw [setCtx_same]
    exact ⟨rfl, rfl, rfl, rfl, rfl, if_neg (by omega), rfl⟩
end

section
/-! SUPPORT. Samples, integration boundaries and dumps (R18, R61, R66 to R68). -/
namespace Sys2Proof.Machine
open Sys2Proof.Safety

@[simp] theorem corUnit_setCtx (ch u : Nat) (c : Ctx) (s : State) : corUnit (setCtx ch c s) u = corUnit s u := rfl
@[simp] theorem ctx_setUnit (ch u : Nat) (x : CorUnit) (s : State) : ctx (setUnit u x s) ch = ctx s ch := rfl

/-! ### The accumulators -/

/-- The sample joins the accumulators of a context that runs still. -/
def accumulated (ch : Nat) (x : Option (Int × Int)) (s : State) : State :=
  let c := ctx s ch
  if c.state ≠ .run then s
  else
    let c := { c with bbInvalid := c.bbInvalid || !bbValid s }
    match if noSamples s c then none else x with
    | some v => setCtx ch (accumulate s ch c v) s
    | none => setCtx ch (accumulate s ch { c with ingressGap := true } (0, 0)) s

/-- What the accumulators leave of a context. -/
def unsummed (c : Ctx) : Ctx := { c with acc := [], sat := false, bbInvalid := false, ingressGap := false }

theorem lt_gradeChannels {s : State} {ch : Nat} (h : chUp s ch = true) : ch < 2048 := by
  have hgrade : gradeChannels s ≤ 2048 := by
    unfold gradeChannels
    split <;> decide
  simp only [chUp, Bool.and_eq_true, decide_eq_true_eq] at h
  exact h.1.trans_le hgrade

theorem accumulated_ctx (ch : Nat) (x : Option (Int × Int)) (s : State) :
    unsummed (ctx (accumulated ch x s) ch) = unsummed (ctx s ch) ∧ (accumulated ch x s).cor.unit = s.cor.unit ∧
      (accumulated ch x s).io = s.io := by
  unfold accumulated
  dsimp only
  split
  · exact ⟨rfl, rfl, rfl⟩
  · split
    · exact ⟨by rw [setCtx_same]; rfl, rfl, rfl⟩
    · exact ⟨by rw [setCtx_same]; rfl, rfl, rfl⟩

/-- A sample that is absent counts as zero, with INGRESS_GAP. -/
theorem accumulated_gap {ch : Nat} {x : Option (Int × Int)} {s : State} (hrun : (ctx s ch).state = .run)
    (hnone : x = none ∨ noSamples s (ctx s ch) = true) : (ctx (accumulated ch x s) ch).ingressGap = true := by
  have hx : (if noSamples s { ctx s ch with bbInvalid := (ctx s ch).bbInvalid || !bbValid s } then none else x) = none := by
    rcases hnone with rfl | h
    · exact ite_self _
    · exact if_pos h
  rw [accumulated, if_neg (by simp [hrun])]
  dsimp only
  split
  next v hv => exact absurd (hx.symm.trans hv) (by simp)
  next => rw [setCtx_same]; rfl

/-- The oscillators at a sample: the first one of a run leaves them. -/
def oscillators (c : Ctx) : Ctx × Nat := if c.fresh then ({ c with fresh := false, nsamp := c.nsamp + 1 }, 0) else advance 1 c

/-- Where a sample leaves a context that runs: the oscillators, and the boundary that they reach. -/
def sampled (ch : Nat) (s : State) : State :=
  let p := oscillators (ctx s ch)
  if p.2 ≠ 0 ∧ intChips (ctx s ch) ≠ 0 ∧ p.1.count = intChips (ctx s ch) then boundary ch false p.1 s else setCtx ch p.1 s

theorem takeSample_of_run {ch : Nat} {s : State} (h : (ctx s ch).state = .run) (x : Option (Int × Int)) :
    takeSample ch x s = accumulated ch x (sampled ch s) := if_neg (by simp [h])

/-! ### A boundary -/

/-- What a boundary's mark leaves of a context. -/
def unmarked (c : Ctx) : Ctx := { c with lastSeq := 0, marks := [], locks := [], lockStart := false, missed := [], missed0 := none }

theorem unmarked_missDump (first : Bool) (q ns : Nat) (c : Ctx) : unmarked (missDump first q ns c) = unmarked c := by
  unfold missDump
  dsimp only
  split <;> rfl

theorem unmarked_markBoundary (s : State) (flags : Nat) (kept : Bool) (c d : Ctx) : unmarked (markBoundary s flags kept c d) = unmarked d := by
  have hlock (b : Bool) (ns : Nat) (x : Ctx) : unmarked (if b then lockFrom ns x else x) = unmarked x := by cases b <;> rfl
  unfold markBoundary
  dsimp only
  split
  · rw [unmarked_missDump, hlock]
    rfl
  · rw [hlock]
    rfl

/-- A dump enters its unit, or is discarded where four wait. -/
def dumpKept (ch : Nat) (last : Bool) (c : Ctx) (s : State) : State :=
  if (corUnit s (ch / 16)).dumps.length < 4 then
    setUnit (ch / 16) { corUnit s (ch / 16) with dumps := (corUnit s (ch / 16)).dumps ++ [(ch, cfgCore c, dumpBytes (perf 0x100 1 s) ch c last)] }
      (perf 0x100 1 s)
  else perf 0x101 1 (sticky Reg.COR_STICKY (ch / 256) (perf 0x100 1 s))

/-- A boundary: the context goes on with the next integration, or ends where it is told to stop. -/
theorem boundary_eq (ch : Nat) (last : Bool) (c : Ctx) (s : State) (hstop : c.stopAt = none) :
    ∃ d, boundary ch last c s = (if last then ctxIdle ch d (dumpKept ch last c s) else setCtx ch d (dumpKept ch last c s)) ∧
      unmarked d = unmarked { nextIntegration c with gap := !decide ((corUnit s (ch / 16)).dumps.length < 4) } := by
  refine ⟨markBoundary (dumpKept ch last c s) (dumpFlags (dumpKept ch last c s) c last) (decide ((corUnit s (ch / 16)).dumps.length < 4)) c
    { nextIntegration c with gap := !decide ((corUnit s (ch / 16)).dumps.length < 4) }, ?_, unmarked_markBoundary _ _ _ _ _⟩
  unfold boundary
  simp only [hstop, Bool.or_false, decide_eq_true_eq]
  rfl

/-- What the next integration of a context takes from its last. -/
theorem restarted {c d : Ctx} {g : Bool} (h : unmarked d = unmarked { nextIntegration c with gap := g }) :
    (d.seq = (c.seq + 1) % 65536 ∧ d.count = 0 ∧ d.pendCode = none ∧ d.gap = g) ∧ d.state = c.state ∧ d.stopAt = c.stopAt ∧ d.ended = c.ended := by
  cases c
  cases d
  simp only [unmarked, nextIntegration, applyRates, Ctx.mk.injEq] at h
  simp [h]

/-- What the accumulators leave, field by field. -/
theorem of_unsummed {c d : Ctx} (h : unsummed c = unsummed d) :
    (c.codeNco = d.codeNco ∧ c.idxA = d.idxA ∧ c.nsamp = d.nsamp) ∧ (c.seq = d.seq ∧ c.count = d.count ∧ c.pendCode = d.pendCode ∧ c.gap = d.gap) ∧
      c.state = d.state ∧ c.stopAt = d.stopAt := by
  cases c
  cases d
  simp only [unsummed, Ctx.mk.injEq] at h
  simp [h]

/-- The advance of one sample that carries no chip, or one. -/
theorem advance_one {c : Ctx} {k : Nat} (hlow : k * 2 ^ 48 ≤ c.codeNco + c.codeRate) (hhigh : c.codeNco + c.codeRate < (k + 1) * 2 ^ 48) :
    (advance 1 c).2 = k ∧ (advance 1 c).1.codeNco = c.codeNco + c.codeRate - k * 2 ^ 48 ∧ (advance 1 c).1.count = c.count + k ∧
      (advance 1 c).1.nsamp = c.nsamp + 1 ∧ (advance 1 c).1.idxA < max 1 c.aLen := by
  have hk : (c.codeNco + 1 * c.codeRate) / 2 ^ 48 = k := by omega
  refine ⟨hk, ?_, ?_, rfl, ?_⟩
  · show (c.codeNco + 1 * c.codeRate) % 2 ^ 48 = _
    omega
  · show c.count + (c.codeNco + 1 * c.codeRate) / 2 ^ 48 = _
    rw [hk]
  · show (if c.aLen = 0 then 0 else (c.idxA + (c.codeNco + 1 * c.codeRate) / 2 ^ 48) % c.aLen) < _
    split
    · omega
    · exact (Nat.mod_lt _ (by omega)).trans_le (by omega)

theorem sampled_on {ch : Nat} {s : State} (hfresh : (ctx s ch).fresh = false) (hchip : (ctx s ch).codeNco + (ctx s ch).codeRate < 2 ^ 48) :
    sampled ch s = setCtx ch (advance 1 (ctx s ch)).1 s := by
  obtain ⟨hchips, -⟩ := advance_one (c := ctx s ch) (k := 0) (by omega) (by omega)
  simp [sampled, oscillators, hfresh, hchips]

/-- The sample that fills an integration reaches its boundary. -/
theorem sampled_boundary {ch : Nat} {s : State} (hfresh : (ctx s ch).fresh = false) (hlow : 2 ^ 48 ≤ (ctx s ch).codeNco + (ctx s ch).codeRate)
    (hhigh : (ctx s ch).codeNco + (ctx s ch).codeRate < 2 ^ 49) (hfull : (ctx s ch).count + 1 = intChips (ctx s ch)) :
    sampled ch s = boundary ch false (advance 1 (ctx s ch)).1 s := by
  obtain ⟨hchips, -, hcount, -⟩ := advance_one (c := ctx s ch) (k := 1) (by omega) (by omega)
  simp [sampled, oscillators, hfresh, hchips, hcount, ← hfull]

/-- Three frames of a lane carry one sample, none where the third holds an error. -/
theorem liveSamples_three (s : State) (c : Ctx) (e f g : LaneFrame) : ∃ x, liveSamples s c [e, f, g] = [x] ∧ (laneError g = true → x = none) := by
  refine ⟨_, rfl, fun h => ?_⟩
  simp [h]

theorem execIntegrationBoundary_three {s : State} {ch : Nat} (e f g : LaneFrame) (hup : chUp s ch = true) (hlive : cfgReplay (ctx s ch) = false)
    (hrun : (ctx s ch).state = .run) : ∃ x, exec (.integrationBoundary ch [e, f, g]) s = .next (accumulated ch x (sampled ch s)) ∧
      (laneError g = true → x = none) := by
  obtain ⟨x, hx, herr⟩ := liveSamples_three s (ctx s ch) e f g
  refine ⟨x, ?_, herr⟩
  rw [← takeSample_of_run hrun]
  show execIntegrationBoundary ch [e, f, g] s = _
  simp [execIntegrationBoundary, hup, hlive, hx]

/-! ### The end of a replay -/

/-- A context that runs with no stop armed. -/
def RunsOn (s : State) (ch : Nat) : Prop := (ctx s ch).state = .run ∧ (ctx s ch).stopAt = none

theorem runsOn_sampled {s : State} {ch : Nat} (h : RunsOn s ch) : RunsOn (sampled ch s) ch := by
  obtain ⟨hrun, hstop⟩ := h
  obtain ⟨hrun', hstop'⟩ : (oscillators (ctx s ch)).1.state = .run ∧ (oscillators (ctx s ch)).1.stopAt = none := by
    unfold oscillators
    split <;> exact ⟨hrun, hstop⟩
  unfold sampled
  dsimp only
  split
  · obtain ⟨d, hd, hdc⟩ := boundary_eq ch false (oscillators (ctx s ch)).1 s hstop'
    rw [hd, if_neg (by decide), RunsOn, setCtx_same]
    obtain ⟨-, hstate, hstopAt, -⟩ := restarted hdc
    exact ⟨hstate.trans hrun', hstopAt.trans hstop'⟩
  · rw [RunsOn, setCtx_same]
    exact ⟨hrun', hstop'⟩

theorem runsOn_takeSample {s : State} {ch : Nat} (h : RunsOn s ch) (x : Option (Int × Int)) : RunsOn (takeSample ch x s) ch := by
  rw [takeSample_of_run h.1]
  obtain ⟨hrun, hstop⟩ := runsOn_sampled h
  obtain ⟨hctx, -⟩ := accumulated_ctx ch x (sampled ch s)
  obtain ⟨-, -, hstate, hstopAt⟩ := of_unsummed hctx
  exact ⟨hstate.trans hrun, hstopAt.trans hstop⟩

theorem ctx_ctxIdle (ch : Nat) (c : Ctx) (s : State) : ctx (ctxIdle ch c s) ch = { c with state := .idle, stopAt := none } := by
  have hkept (t : State) : ctx (releaseDue t) ch = ctx t ch := ctx_of_cor rfl ch
  rw [ctxIdle, hkept, setCtx_same]

/-- A boundary that ends its context leaves it IDLE. -/
theorem boundary_last {ch : Nat} {c : Ctx} (s : State) (hstop : c.stopAt = none) :
    (ctx (boundary ch true c s) ch).state = .idle ∧ (ctx (boundary ch true c s) ch).ended = c.ended := by
  obtain ⟨d, hd, hdc⟩ := boundary_eq ch true c s hstop
  obtain ⟨-, -, -, hended⟩ := restarted hdc
  rw [hd, if_pos rfl, ctx_ctxIdle]
  exact ⟨rfl, hended⟩

/-- The samples that an integration lacks. -/
def replayLeft (c : Ctx) : Nat := ceilDiv ((intChips c - c.count) * 2 ^ 48 - c.codeNco) c.codeRate

/-- A context whose missing samples count as zero. -/
def replayGap (c : Ctx) : Ctx :=
  { (advance (replayLeft c) { c with nsamp := max 1 c.nsamp }).1 with ended := true, ingressGap := true, fresh := false }

theorem replayGap_stopAt (c : Ctx) : (replayGap c).stopAt = c.stopAt := by
  cases c
  rfl

/-- What a capture that ends makes of the context that replays it. -/
def replayEnded (ch : Nat) (s : State) : State :=
  let c := ctx s ch
  if c.codeRate = 0 ∨ intChips c = 0 then ctxIdle ch { c with ended := true } s
  else boundary ch true (replayGap c) s

theorem replayEnded_ctx {ch : Nat} {s : State} (h : (ctx s ch).stopAt = none) :
    (ctx (replayEnded ch s) ch).state = .idle ∧ (ctx (replayEnded ch s) ch).ended = true := by
  unfold replayEnded
  dsimp only
  split
  · rw [ctx_ctxIdle]
    exact ⟨rfl, rfl⟩
  · exact boundary_last s ((replayGap_stopAt _).trans h)

theorem execReplayCaptureEnd_ends {s : State} {ch id : Nat} (hup : chUp s ch = true) (hreplay : cfgReplay (ctx s ch) = true) (hruns : RunsOn s ch)
    (hcap : (ctx s ch).cap = some id) (hdone : (capture s id).state = 3) : ∃ u, RunsOn u ch ∧ exec (.replayCaptureEnd ch id) s = .next (replayEnded ch u) := by
  have hu : RunsOn ((replaySamples s (ctx s ch)).foldl (fun s x => takeSample ch x s) s) ch :=
    List.foldlRecOn (motive := fun t : State => RunsOn t ch) _ _ hruns fun t ht x _ => runsOn_takeSample ht x
  obtain ⟨hrun, -⟩ := hruns
  have hurun := hu.1
  refine ⟨_, hu, ?_⟩
  show execReplayCaptureEnd ch id s = _
  simp only [execReplayCaptureEnd, replayEnded, replayGap, replayLeft, hup, hreplay, hrun, hcap, hdone, hurun, ne_eq, not_true_eq_false, decide_false, Bool.not_true,
    Bool.or_false, Bool.false_eq_true, if_false]

/-! ### A dump reaches its queue -/

theorem ctx_dumpLost (ch : Nat) (b : List Byte) (s : State) : (ctx (dumpLost ch b s) ch).qgap = true := by
  unfold dumpLost
  dsimp only
  split
  · rw [setCtx_same]
    exact congrArg Ctx.qgap (unmarked_missDump (decide (leAt b 2 2 / 2048 % 2 = 1)) (leAt b 4 2) (dumpEndNs s b) { ctx s ch with qgap := true })
  · rw [setCtx_same]

theorem corUnit_dumpLost (ch u : Nat) (b : List Byte) (s : State) : corUnit (dumpLost ch b s) u = corUnit s u := by
  unfold dumpLost
  dsimp only
  split <;> rfl

/-- The oldest dump of a unit has left it. -/
def dumpTaken (u : Nat) (l : List (Nat × Nat × List Byte)) (s : State) : State := bridgeHeard (setUnit u { corUnit s u with dumps := l } s)

def coreQueue (core : Nat) (q : List (Nat × List Byte)) (s : State) : State :=
  { s with cor := { s.cor with queue := Tab.put queueDef s.cor.queue core q } }

theorem execDumpDelivery_queued {s : State} {u ch core : Nat} {b : List Byte} {l : List (Nat × Nat × List Byte)}
    (hdumps : (corUnit s u).dumps = (ch, core, b) :: l) (hdrop : dropsNext s 16 = false)
    (hroom : (Tab.get queueDef s.cor.queue core).length < 2048) :
    exec (.dumpDelivery u) s = .next (emit (.dump (4 + core) (if (ctx s ch).qgap then withGap b else b)) (setCtx ch { ctx s ch with qgap := false }
      (coreQueue core (Tab.get queueDef s.cor.queue core ++ [(ch, if (ctx s ch).qgap then withGap b else b)]) (dumpTaken u l s)))) := by
  show execDumpDelivery u s = _
  rw [execDumpDelivery, hdumps]
  dsimp only
  rw [if_neg (by rw [Bool.not_eq_true]; exact hdrop)]
  exact congrArg Host.Outcome.next (if_pos hroom)

theorem execDumpDelivery_discarded {s : State} {u ch core : Nat} {b : List Byte} {l : List (Nat × Nat × List Byte)}
    (hdumps : (corUnit s u).dumps = (ch, core, b) :: l) (hdrop : dropsNext s 16 = false)
    (hroom : 2048 ≤ (Tab.get queueDef s.cor.queue core).length) :
    exec (.dumpDelivery u) s = .next (perf 0x101 1 (sticky Reg.COR_STICKY 11 (dumpLost ch b (dumpTaken u l s)))) := by
  show execDumpDelivery u s = _
  rw [execDumpDelivery, hdumps]
  dsimp only
  rw [if_neg (by rw [Bool.not_eq_true]; exact hdrop)]
  exact congrArg Host.Outcome.next (if_neg (Nat.not_lt.2 hroom))

/-- A sample inside an integration moves the oscillators on. -/
theorem sample_inside {s : State} {ch : Nat} (e f g : LaneFrame) (hup : chUp s ch = true) (hlive : cfgReplay (ctx s ch) = false)
    (hrun : (ctx s ch).state = .run) (hfresh : (ctx s ch).fresh = false) (hchip : (ctx s ch).codeNco + (ctx s ch).codeRate < 2 ^ 48) :
    ∃ t, exec (.integrationBoundary ch [e, f, g]) s = .next t ∧ (ctx t ch).codeNco = (ctx s ch).codeNco + (ctx s ch).codeRate ∧
      (ctx t ch).idxA < max 1 (ctx s ch).aLen ∧ (ctx t ch).nsamp = (ctx s ch).nsamp + 1 ∧
      (laneError g = true ∨ noSamples s (ctx s ch) = true → (ctx t ch).ingressGap = true) := by
  obtain ⟨x, hexec, herr⟩ := execIntegrationBoundary_three e f g hup hlive hrun
  obtain ⟨-, hnco, -, hn, hidx⟩ := advance_one (c := ctx s ch) (k := 0) (by omega) (by omega)
  rw [sampled_on hfresh hchip] at hexec
  obtain ⟨hctx, -⟩ := accumulated_ctx ch x (setCtx ch (advance 1 (ctx s ch)).1 s)
  have hgap := accumulated_gap (ch := ch) (x := x) (s := setCtx ch (advance 1 (ctx s ch)).1 s) (by rw [setCtx_same]; exact hrun)
  rw [setCtx_same] at hctx hgap
  obtain ⟨⟨hnco', hidx', hn'⟩, -⟩ := of_unsummed hctx
  refine ⟨_, hexec, hnco'.trans (hnco.trans (by omega)), hidx'.trans_lt hidx, hn'.trans hn, fun h => hgap ?_⟩
  exact h.imp herr id

theorem corUnit_dumpKept_room {ch : Nat} {c : Ctx} {s : State} (last : Bool) (hroom : (corUnit s (ch / 16)).dumps.length < 4) :
    (corUnit (dumpKept ch last c s) (ch / 16)).dumps.length = (corUnit s (ch / 16)).dumps.length + 1 := by
  rw [dumpKept, if_pos hroom, setUnit_same]
  exact List.length_append

theorem dumpKept_full {ch : Nat} {c : Ctx} {s : State} (last : Bool) (hroom : 4 ≤ (corUnit s (ch / 16)).dumps.length) :
    dumpKept ch last c s = perf 0x101 1 (sticky Reg.COR_STICKY (ch / 256) (perf 0x100 1 s)) := if_neg (Nat.not_lt.2 hroom)

/-- The sample that ends an integration hands its dump over and starts the next one. -/
theorem sample_ends {s : State} {ch : Nat} (e f g : LaneFrame) (hup : chUp s ch = true) (hlive : cfgReplay (ctx s ch) = false)
    (hrun : (ctx s ch).state = .run) (hfresh : (ctx s ch).fresh = false) (hstop : (ctx s ch).stopAt = none)
    (hlow : 2 ^ 48 ≤ (ctx s ch).codeNco + (ctx s ch).codeRate) (hhigh : (ctx s ch).codeNco + (ctx s ch).codeRate < 2 ^ 49)
    (hfull : (ctx s ch).count + 1 = intChips (ctx s ch)) :
    ∃ t c, exec (.integrationBoundary ch [e, f, g]) s = .next t ∧ t.cor.unit = (dumpKept ch false c s).cor.unit ∧ t.io = (dumpKept ch false c s).io ∧
      (ctx t ch).seq = ((ctx s ch).seq + 1) % 65536 ∧ (ctx t ch).count = 0 ∧ (ctx t ch).pendCode = none ∧
      (ctx t ch).gap = !decide ((corUnit s (ch / 16)).dumps.length < 4) := by
  obtain ⟨x, hexec, -⟩ := execIntegrationBoundary_three e f g hup hlive hrun
  obtain ⟨d, hd, hdc⟩ := boundary_eq ch false (advance 1 (ctx s ch)).1 s hstop
  rw [sampled_boundary hfresh hlow hhigh hfull, hd, if_neg (by decide)] at hexec
  obtain ⟨hctx, hunit, hio⟩ := accumulated_ctx ch x (setCtx ch d (dumpKept ch false (advance 1 (ctx s ch)).1 s))
  rw [setCtx_same] at hctx
  obtain ⟨⟨hseq, hcount, hpend, hgap⟩, -⟩ := restarted hdc
  obtain ⟨-, ⟨hseq', hcount', hpend', hgap'⟩, -⟩ := of_unsummed hctx
  exact ⟨_, _, hexec, hunit, hio, hseq'.trans hseq, hcount'.trans hcount, hpend'.trans hpend, hgap'.trans hgap⟩

theorem dumpTaken_dumps (u : Nat) (l : List (Nat × Nat × List Byte)) (s : State) : (corUnit (dumpTaken u l s) u).dumps = l :=
  congrArg CorUnit.dumps (setUnit_same u _ s)

theorem coreQueue_length (core : Nat) (q : List (Nat × List Byte)) (s : State) :
    (Tab.get queueDef (coreQueue core q s).cor.queue core).length = q.length :=
  congrArg List.length (Tab.get_put_same queueDef _ core q)

/-- What a dump that reaches its queue leaves of the units and the queues. -/
theorem queued_keeps (o : Output) (ch : Nat) (c : Ctx) (s : State) :
    (emit o (setCtx ch c s)).cor.unit = s.cor.unit ∧ (emit o (setCtx ch c s)).cor.queue = s.cor.queue := ⟨rfl, rfl⟩

theorem corUnit_coreQueue (core u : Nat) (q : List (Nat × List Byte)) (s : State) : corUnit (coreQueue core q s) u = corUnit s u := rfl

theorem dumpDelivery_queued {s : State} {u ch core : Nat} {b : List Byte} {l : List (Nat × Nat × List Byte)}
    (hdumps : (corUnit s u).dumps = (ch, core, b) :: l) (hdrop : dropsNext s 16 = false)
    (hroom : (Tab.get queueDef s.cor.queue core).length < 2048) :
    ∃ t, exec (.dumpDelivery u) s = .next t ∧ (corUnit t u).dumps = l ∧
      (Tab.get queueDef t.cor.queue core).length = (Tab.get queueDef s.cor.queue core).length + 1 := by
  obtain ⟨hunit, hqueue⟩ := queued_keeps (.dump (4 + core) (if (ctx s ch).qgap then withGap b else b)) ch { ctx s ch with qgap := false }
    (coreQueue core (Tab.get queueDef s.cor.queue core ++ [(ch, if (ctx s ch).qgap then withGap b else b)]) (dumpTaken u l s))
  refine ⟨_, execDumpDelivery_queued hdumps hdrop hroom, ?_, ?_⟩
  · rw [corUnit, hunit, ← corUnit, corUnit_coreQueue, dumpTaken_dumps]
  · rw [hqueue, coreQueue_length, List.length_append]
    rfl

theorem dumpDelivery_discarded {s : State} {u ch core : Nat} {b : List Byte} {l : List (Nat × Nat × List Byte)}
    (hdumps : (corUnit s u).dumps = (ch, core, b) :: l) (hdrop : dropsNext s 16 = false)
    (hroom : 2048 ≤ (Tab.get queueDef s.cor.queue core).length) :
    ∃ t, exec (.dumpDelivery u) s = .next t ∧ (corUnit t u).dumps = l ∧ stkSet t Reg.COR_STICKY 11 ∧ (ctx t ch).qgap = true := by
  have hcor (t : State) : (perf 0x101 1 (sticky Reg.COR_STICKY 11 t)).cor = t.cor := by simp
  refine ⟨_, execDumpDelivery_discarded hdumps hdrop hroom, ?_, perf_holds _ _ _ _ _ (sticky_sets _ (by decide) _), ?_⟩
  · rw [corUnit, hcor, ← corUnit, corUnit_dumpLost, dumpTaken_dumps]
  · rw [ctx_of_cor (hcor _), ctx_dumpLost]

end Sys2Proof.Machine
end
section
open Sys2Proof Sys2Proof.Machine Sys2Proof.Safety
/-- Settles O14: a sample, the boundary that it reaches, the end of a replay, and a dump on its way to its queue. -/
theorem integrationCompletes : Obligations.IntegrationCompletes := by
  refine ⟨fun s ch e f g hup hlive hrun hfresh hchip => ?_, fun s ch e f g hup hlive hrun hfresh hstop hlow hhigh hfull hroom => ?_,
    fun s ch e f g hup hlive hrun hfresh hstop hlow hhigh hfull hroom => ?_, fun s ch id hup hreplay hrun hstop hcap hdone => ?_,
    fun s u ch core b l hdumps hdrop hroom => ?_, fun s u ch core b l hdumps hdrop hroom => ?_⟩
  · obtain ⟨t, hexec, h⟩ := sample_inside e f g hup hlive hrun hfresh hchip
    exact completes_of hexec h
  · obtain ⟨t, c, hexec, hunit, -, hseq, hcount, hpend, -⟩ := sample_ends e f g hup hlive hrun hfresh hstop hlow hhigh hfull
    refine completes_of hexec ⟨?_, hseq, hcount, hpend⟩
    rw [corUnit, hunit]
    exact corUnit_dumpKept_room false hroom
  · obtain ⟨t, c, hexec, hunit, hio, -, -, -, hgap⟩ := sample_ends e f g hup hlive hrun hfresh hstop hlow hhigh hfull
    rw [dumpKept_full false hroom] at hunit hio
    have hch : ch / 256 < 32 := by
      have := lt_gradeChannels hup
      omega
    refine completes_of hexec ⟨?_, stkHolds_of_io hio _ _ (perf_holds _ _ _ _ _ (sticky_sets _ hch _)), hgap.trans (by simp [Nat.not_lt.2 hroom])⟩
    rw [corUnit, hunit]
    simp [corUnit]
  · obtain ⟨t, ht, hexec⟩ := execReplayCaptureEnd_ends hup hreplay ⟨hrun, hstop⟩ hcap hdone
    exact completes_of hexec (replayEnded_ctx ht.2)
  · obtain ⟨t, hexec, h⟩ := dumpDelivery_queued hdumps hdrop hroom
    exact completes_of hexec h
  · obtain ⟨t, hexec, h⟩ := dumpDelivery_discarded hdumps hdrop hroom
    exact completes_of hexec h
end

section
/-! SUPPORT. Rates, residue events and code memory (R12, R69, R76, R77, R81). -/
namespace Sys2Proof.Machine
open Sys2Proof.Safety

theorem ctx_setCtx_ne {k ch : Nat} (h : k ≠ ch) (c : Ctx) (s : State) : ctx (setCtx ch c s) k = ctx s k := Tab.get_put_ne _ _ _ h

@[simp] theorem ctx_wr (a : Nat) (w : Word) (s : State) (ch : Nat) : ctx (wr a w s) ch = ctx s ch := rfl

/-- The message of a loop core has come: its dump leaves the queue, and the core counts. -/
def messageHeard (ch : Nat) (s : State) : State :=
  let c := ctx s ch
  let q := Tab.get queueDef s.cor.queue (cfgCore c)
  let s := bridgeHeard s
  let s := { s with cor := { s.cor with queue := Tab.put queueDef s.cor.queue (cfgCore c) (q.eraseP (fun e => e.1 = ch)) } }
  corePerf (4 + cfgCore c) 0x13 (if q.any (fun e => decide (e.1 = ch)) then corePerf (4 + cfgCore c) 0x12 s else s)

theorem execRateMessage_pends {s : State} {ch : Nat} (code carr : BitVec 64) (hup : chUp s ch = true) (hq : (ctx s ch).state ≠ .quarantined) :
    exec (.rateMessage ch code carr) s = .next (setCtx ch (pendCarrRate carr.toNat (pendCodeRate code.toNat (ctx s ch))) (messageHeard ch s)) := by
  show execRateMessage ch code carr s = _
  simp only [execRateMessage, messageHeard, hup, hq, Bool.not_true, Bool.false_eq_true, if_false]

/-! ### Residue events -/

/-- A context that runs in the slot served is marked. -/
def slotMarked (ch : Nat) (s : State) : State := if (ctx s ch).state = .run then setCtx ch { ctx s ch with bad := true } s else s

theorem slotMarked_keeps (ch : Nat) (s : State) : (slotMarked ch s).bank = s.bank ∧ (slotMarked ch s).tim = s.tim := by
  unfold slotMarked
  split <;> exact ⟨rfl, rfl⟩

theorem slotMarked_ctx {ch : Nat} {s : State} (h : (ctx s ch).state = .run) : (ctx (slotMarked ch s) ch).bad = true := by
  rw [slotMarked, if_pos h, setCtx_same]

/-- The slot that was served is told: a context that runs is marked, and the event is counted. -/
def residueTold (ch : Nat) (s : State) : State :=
  perf 0x102 1 (stickyCount Reg.COR_STICKY 12 Reg.COR_MISMATCH_CNT (slotMarked ch s))

/-- The second event within a second: the unit is quarantined. -/
def residueQuarantines (u : Nat) (s : State) : State :=
  record 0x10 u (leBytes 4 (rd s Reg.COR_MISMATCH_CNT).toNat)
    (sticky Reg.COR_STICKY 8 (wr (Reg.COR_QUAR (u / 32)) (rd s (Reg.COR_QUAR (u / 32)) ||| oneHot (u % 32)) (stopUnit u s)))

def residueMarks (u : Nat) (s : State) : State := setUnit u { corUnit s u with lastMismatch := some s.tim.now } s

theorem residueTold_now (ch : Nat) (s : State) : (residueTold ch s).tim.now = s.tim.now := by
  simp [residueTold, (slotMarked_keeps ch s).2]

theorem corrMismatch_first {s : State} {u : Nat} (k : Nat) (hu : u < gradeChannels s / 16) (hup : corrUp s (u / 32) = true)
    (hq : unitQuarantined s u = false) (hnone : (corUnit s u).lastMismatch = none) :
    corrMismatch u k s = residueMarks u (residueTold (16 * u + k % 16) s) := by
  simp only [corrMismatch, Nat.not_le.2 hu, hup, hq, hnone, Bool.not_true, decide_false, Bool.or_self, Bool.false_eq_true, if_false]
  rfl

theorem corrMismatch_again {s : State} {u p : Nat} (k : Nat) (hu : u < gradeChannels s / 16) (hup : corrUp s (u / 32) = true)
    (hq : unitQuarantined s u = false) (hsome : (corUnit s u).lastMismatch = some p) :
    corrMismatch u k s = if p < s.tim.now ∧ s.tim.now ≤ p + tSec then residueQuarantines u (residueTold (16 * u + k % 16) s)
      else residueMarks u (residueTold (16 * u + k % 16) s) := by
  rw [← residueTold_now (16 * u + k % 16) s]
  simp only [corrMismatch, Nat.not_le.2 hu, hup, hq, hsome, Bool.not_true, decide_false, Bool.or_self, Bool.false_eq_true, if_false]
  rfl

theorem residueTold_sets (ch : Nat) (s : State) : stkSet (residueTold ch s) Reg.COR_STICKY 12 :=
  perf_holds _ _ _ _ _ (inc_holds _ _ _ _ _ (sticky_sets _ (by decide) _))

theorem rd_residueTold (ch : Nat) (s : State) : rd (residueTold ch s) Reg.COR_MISMATCH_CNT = satAdd (rd s Reg.COR_MISMATCH_CNT) 1 := by
  rw [residueTold, rd_of_bank (perf_keeps _ _ _).1, stickyCount, rd_inc_same, rd_of_bank (sticky_keeps _ _ _).1, rd_of_bank (slotMarked_keeps ch s).1]

theorem residueTold_ctx {ch : Nat} {s : State} (h : (ctx s ch).state = .run) : (ctx (residueTold ch s) ch).bad = true := by
  rw [ctx_of_cor (s := slotMarked ch s) (by simp [residueTold])]
  exact slotMarked_ctx h

theorem stopUnit_io (u : Nat) (s : State) : (stopUnit u s).io = s.io :=
  List.foldlRecOn (motive := fun t : State => t.io = s.io) (List.range 16) _ rfl fun _ ht _ _ => ht

/-- The sixteen contexts of a unit that is stopped are quarantined. -/
theorem stopUnit_state {k : Nat} (hk : k < 16) (u : Nat) (s : State) : (ctx (stopUnit u s) (16 * u + k)).state = .quarantined := by
  have hkept (t : State) (ch : Nat) : ctx (releaseDue t) ch = ctx t ch := ctx_of_cor rfl ch
  rw [stopUnit, hkept]
  refine foldl_reaches (P := fun t => (ctx t (16 * u + k)).state = .quarantined) (List.mem_range.2 hk) (fun t => ?_) (fun t j ht => ?_) _
  · rw [setCtx_same]
  · by_cases hj : k = j
    · rw [hj, setCtx_same]
    · have hne : 16 * u + k ≠ 16 * u + j := by omega
      dsimp only
      rw [ctx_setCtx_ne hne]
      exact ht

theorem recCnt_quar : ∀ q < 4, recCnt (Reg.COR_QUAR q) = false := by decide

theorem unitQuarantined_after {u : Nat} (hu128 : u < 128) (s : State) : unitQuarantined (residueQuarantines u s) u = true := by
  have hu : u % 32 < 32 := Nat.mod_lt _ (by decide)
  have hquar := recCnt_quar (u / 32) (by omega)
  rw [unitQuarantined, flag, residueQuarantines, rd_of_seen (record_seen _ _ _ _ (by simp [hquar])), rd_of_bank (sticky_keeps _ _ _).1, rd_wr_same, bitAt_or,
    bitAt_oneHot hu, Bool.or_true]

theorem residueQuarantines_state {k : Nat} (hk : k < 16) (u : Nat) (s : State) :
    (ctx (residueQuarantines u s) (16 * u + k)).state = .quarantined := by
  rw [ctx_of_cor (s := stopUnit u s) (by simp [residueQuarantines])]
  exact stopUnit_state hk u s

theorem residueQuarantines_holds (u : Nat) (s : State) : stkHolds s (residueQuarantines u s) := by
  exact stkHolds_trans (stkHolds_trans (stkHolds_trans (stkHolds_of_io (stopUnit_io u s)) (wr_holds _ _ _)) (sticky_holds _ _ _)) (record_holds _ _ _ _)

theorem rd_residueQuarantines {a u : Nat} (s : State) (h : among [recCnt] a = false) (hne : a ≠ Reg.COR_QUAR (u / 32)) :
    rd (residueQuarantines u s) a = rd s a := by
  rw [residueQuarantines, rd_of_seen (record_seen _ _ _ _ (by simpa using h)), rd_of_bank (sticky_keeps _ _ _).1, rd_wr_ne _ _ hne]
  exact rd_of_bank (part_of_seen (p := .bank) (stopUnit_seen u s (by simp))) _

/-- A residue event is told, counted, and marks the context in its slot: the first event of a unit, or one of more. -/
theorem corrMismatch_tells {s : State} {u : Nat} (k : Nat) (hu128 : u < 128) (hu : u < gradeChannels s / 16) (hup : corrUp s (u / 32) = true)
    (hq : unitQuarantined s u = false) : stkSet (corrMismatch u k s) Reg.COR_STICKY 12 ∧
      rd (corrMismatch u k s) Reg.COR_MISMATCH_CNT = satAdd (rd s Reg.COR_MISMATCH_CNT) 1 := by
  have hmarks (t : State) (h : stkSet t Reg.COR_STICKY 12) : stkSet (residueMarks u t) Reg.COR_STICKY 12 := h
  cases hlast : (corUnit s u).lastMismatch with
  | none =>
    rw [corrMismatch_first k hu hup hq hlast]
    exact ⟨hmarks _ (residueTold_sets _ s), (rd_of_bank rfl _).trans (rd_residueTold _ s)⟩
  | some p =>
    rw [corrMismatch_again k hu hup hq hlast]
    split
    · have hne : ∀ q < 4, Reg.COR_MISMATCH_CNT ≠ Reg.COR_QUAR q := by decide
      exact ⟨residueQuarantines_holds u _ _ _ (residueTold_sets _ s),
        (rd_residueQuarantines _ (by decide) (hne _ (by omega))).trans (rd_residueTold _ s)⟩
    · exact ⟨hmarks _ (residueTold_sets _ s), (rd_of_bank rfl _).trans (rd_residueTold _ s)⟩

theorem unit_lt_of_grade {s : State} {u : Nat} (h : u < gradeChannels s / 16) : u < 128 := by
  have hgrade : gradeChannels s ≤ 2048 := by
    unfold gradeChannels
    split <;> decide
  omega

/-! ### Code memory -/

/-- 32 chips reach a code memory that is selected and runs. -/
def storeChips (sel : Word) (a : Nat) (w : Word) (s : State) (k : Nat) : State :=
  if bitAt sel k && decide (512 * (k / 2) < gradeChannels s) && corrUp s (k / 2) then
    { s with cor := { s.cor with code := Tab.put wordDef s.cor.code (k * 2 ^ 19 + a / 32) w } } else s

theorem storeChips_keeps (sel : Word) (a : Nat) (w : Word) (s : State) (k : Nat) :
    (storeChips sel a w s k).grade = s.grade ∧ (storeChips sel a w s k).crp = s.crp ∧ (storeChips sel a w s k).ing = s.ing := by
  unfold storeChips
  split <;> exact ⟨rfl, rfl, rfl⟩

theorem storeChips_other {k j a : Nat} (h : j ≠ k) (ha : a < 2 ^ 24) (sel w : Word) (s : State) :
    Tab.get wordDef (storeChips sel a w s j).cor.code (k * 2 ^ 19 + a / 32) = Tab.get wordDef s.cor.code (k * 2 ^ 19 + a / 32) := by
  unfold storeChips
  split
  · exact Tab.get_put_ne _ _ _ (by omega)
  · rfl

/-- Chips written reach each code memory that is selected, at the address that was set. -/
theorem storeChips_stores {s : State} {sel : Word} {k a : Nat} (hk : k < 8) (hsel : bitAt sel k = true) (hgrade : 512 * (k / 2) < gradeChannels s)
    (hup : corrUp s (k / 2) = true) (ha : a < 2 ^ 24) (w : Word) :
    Tab.get wordDef ((List.range 8).foldl (storeChips sel a w) s).cor.code (k * 2 ^ 19 + a / 32) = w := by
  refine foldl_once (P := fun t => t.grade = s.grade ∧ t.crp = s.crp ∧ t.ing = s.ing)
    (Q := fun t => Tab.get wordDef t.cor.code (k * 2 ^ 19 + a / 32) = w) (List.mem_range.2 hk) List.nodup_range
    (fun t j _ ht => ?_) (fun t ht => ?_) (fun t j hj ht => (storeChips_other hj ha sel w t).trans ht) ⟨rfl, rfl, rfl⟩
  · obtain ⟨hgrade, hcrp, hing⟩ := storeChips_keeps sel a w t j
    exact ⟨hgrade.trans ht.1, hcrp.trans ht.2.1, hing.trans ht.2.2⟩
  · obtain ⟨htg, htc, hti⟩ := ht
    have hup' : corrUp t (k / 2) = true := by rw [← hup, corrUp, corrUp, pdState, pdState, bbUp, bbUp, pdState, pdState, htc, hti]
    have hgrade' : 512 * (k / 2) < gradeChannels t := by rwa [gradeChannels, htg]
    rw [storeChips, if_pos (by simp [hsel, hup', hgrade'])]
    exact Tab.get_put_same _ _ _ _

end Sys2Proof.Machine
end
section
open Sys2Proof Sys2Proof.Machine Sys2Proof.Safety
/-- Settles O15: the rates that pend, the residue events of a unit, the injection, and code memory. -/
theorem ratesAndResidueComplete : Obligations.RatesAndResidueComplete := by
  refine ⟨fun s ch code carr hup hq => ?_, fun s ch w hup hq => ?_, fun s ch w hup hq => ?_, fun s ch w hup hq => ?_,
    fun s u k hu hup hq hnone => ?_, fun s u k p hu hup hq hsome hpast hsecond => ?_, fun s w hmode hgo hkind hu hup hq => ?_,
    fun s w k hk hsel hgrade hup haddr => ?_⟩
  · refine completes_of (execRateMessage_pends code carr hup hq) ?_
    rw [setCtx_same]
    exact ⟨by simp [pendCarrRate, pendCodeRate], by simp [pendCarrRate], by simp [pendCarrRate, pendCodeRate]⟩
  · have hexec : exec (.codeRateHi ch w) s = .next (wr (Reg.COR_CODE_RATE_HI ch) (lowBits 16 w) (wr (Reg.COR_CODE_RATE_LO ch)
        (lowWord s (Reg.COR_CODE_RATE_LO ch)) (setCtx ch (pendCodeRate (bits w 15 0 * 2 ^ 32 + (lowWord s (Reg.COR_CODE_RATE_LO ch)).toNat) (ctx s ch)) s))) := by
      show execCodeRateHi ch w s = _
      simp only [execCodeRateHi, hup, hq, Bool.not_true, Bool.false_eq_true, if_false]
    refine completes_of hexec ?_
    rw [ctx_wr, ctx_wr, setCtx_same]
    exact ⟨by simp [pendCodeRate], by simp [pendCodeRate], rd_wr_same _ _ _⟩
  · have hexec : exec (.carrRateHi ch w) s = .next (wr (Reg.COR_CARR_RATE_HI ch) (lowBits 16 w) (wr (Reg.COR_CARR_RATE_LO ch)
        (lowWord s (Reg.COR_CARR_RATE_LO ch)) (setCtx ch (pendCarrRate (bits w 15 0 * 2 ^ 32 + (lowWord s (Reg.COR_CARR_RATE_LO ch)).toNat) (ctx s ch)) s))) := by
      show execCarrRateHi ch w s = _
      simp only [execCarrRateHi, hup, hq, Bool.not_true, Bool.false_eq_true, if_false]
    refine completes_of hexec ?_
    rw [ctx_wr, ctx_wr, setCtx_same]
    exact ⟨by simp [pendCarrRate], by simp [pendCarrRate]⟩
  · have hexec : exec (.codeRateHi ch w) s = .next (ctxRefuse s) := by
      show execCodeRateHi ch w s = _
      simp only [execCodeRateHi, hup, hq, Bool.not_true, Bool.false_eq_true, if_false, if_true]
    exact completes_of hexec ⟨by simp [ctxRefuse], by simp [ctxRefuse], sticky_sets _ (by decide) s⟩
  · obtain ⟨hset, hcount⟩ := corrMismatch_tells k (unit_lt_of_grade hu) hu hup hq
    refine completes_of (t := corrMismatch u k s) rfl ⟨?_, hset, hcount, fun hrun => ?_⟩
    · rw [corrMismatch_first k hu hup hq hnone, ← residueTold_now (16 * u + k % 16) s, residueMarks, setUnit_same]
    · rw [corrMismatch_first k hu hup hq hnone]
      exact residueTold_ctx hrun
  · have hexec : exec (.corrMismatchEvent u k) s = .next (residueQuarantines u (residueTold (16 * u + k % 16) s)) :=
      congrArg Host.Outcome.next ((corrMismatch_again k hu hup hq hsome).trans (if_pos ⟨hpast, hsecond⟩))
    exact completes_of hexec ⟨unitQuarantined_after (unit_lt_of_grade hu) _,
      record_holds _ _ _ _ _ _ (sticky_sets _ (by decide) _), residueQuarantines_state (k := 0) (by decide) u _,
      residueQuarantines_state (k := 15) (by decide) u _⟩
  · have hexec : exec (.corInject w) s = .next (corrMismatch (bits w 6 0) (freeVal s) (freeNext s)) :=
      congrArg Host.Outcome.next (if_pos ⟨hmode, hgo, hkind⟩)
    exact completes_of hexec (corrMismatch_tells (s := freeNext s) (freeVal s) (unit_lt_of_grade hu) hu hup hq)
  · have ha : (rd s Reg.COR_CODE_ADDR).toNat / 32 * 32 < 2 ^ 24 := by omega
    have hword : (rd s Reg.COR_CODE_ADDR).toNat / 32 * 32 / 32 = (rd s Reg.COR_CODE_ADDR).toNat / 32 := by omega
    have hexec : exec (.corCodeData w) s = .next (wr Reg.COR_CODE_ADDR (BitVec.ofNat 32 (((rd s Reg.COR_CODE_ADDR).toNat / 32 * 32 + 32) % 2 ^ 24))
        ((List.range 8).foldl (storeChips (rd s Reg.COR_CODE_SEL) ((rd s Reg.COR_CODE_ADDR).toNat / 32 * 32) w) s)) := rfl
    refine completes_of hexec ⟨?_, rd_wr_same _ _ _⟩
    have hstored := storeChips_stores hk hsel hgrade hup ha w
    rwa [hword] at hstored
end

section
/-! SUPPORT. The captures of the sample buffer (R82 to R88). -/
namespace Sys2Proof.Machine
open Sys2Proof.Safety

/-- A capture that enters the directory. -/
theorem allocCapture_enters (mask len startMs state stored : Nat) (late : Bool) (s : State) :
    let id := (unusedIds s).getD (freeVal s % (unusedIds s).length) 0
    let t := allocCapture mask len startMs state stored late s
    (capture t id).state = state ∧ (capture t id).mask = mask ∧ (capture t id).lenMs = len ∧ (capture t id).startMs = startMs ∧
      (capture t id).late = late ∧ t.acq.lastCap = some id := by
  intro id t
  have hid : capture t id = ⟨mask, len, startMs, stored, state, late, false, s.acq.orders, []⟩ := Tab.get_put_same capDef s.acq.caps id _
  rw [hid]
  exact ⟨rfl, rfl, rfl, rfl, rfl, rfl⟩

@[simp] theorem capture_setCapture (id : Nat) (c : Capture) (s : State) : capture (setCapture id c s) id = c :=
  Tab.get_put_same capDef s.acq.caps id c

/-- What is taken from a directory leaves no entry. -/
theorem key_ne_of_mem_del {α : Type} {t : Tab α} {k : Nat} {e : Nat × α} (h : e ∈ Tab.del t k) : e.1 ≠ k := by
  induction t with
  | nil => cases h
  | cons x t ih =>
    rw [Tab.del] at h
    split at h
    case isTrue => exact ih h
    case isFalse hx =>
      rcases List.mem_cons.1 h with rfl | h
      · exact hx
      · exact ih h

/-- A directory without captures has every granule and every id free. -/
theorem freeGranules_of_empty {s : State} (h : s.acq.caps = []) : freeGranules s = 384 := by simp [freeGranules, h]

theorem reachable_of_empty {s : State} (h : s.acq.caps = []) : reachable s = 384 := by simp [reachable, h]

theorem unusedIds_of_empty {s : State} (h : s.acq.caps = []) : unusedIds s = List.range 256 := by simp [unusedIds, h]

theorem makeRoom_of_fits {s : State} {need : Nat} (n : Nat) (hfree : need ≤ freeGranules s) (hid : unusedIds s ≠ []) : makeRoom need n s = s := by
  cases n with
  | zero => rfl
  | succ n => exact if_pos ⟨hfree, hid⟩

/-- The directory of a scheduled capture that finds it empty. -/
def secondSet (s : State) : State := setAcq { s.acq with nextSnapS := s.acq.nextSnapS + max 1 (fld s Reg.ACQ_SNAP_CFG 9 0) } s

theorem execSnapshotScheduledCapture_empty {s : State} (hmode : s.crp.mode = .snapshot) (hbb : bbUp s = true)
    (hdue : s.acq.nextSnapS * tSec ≤ s.tim.now) (hempty : s.acq.caps = [])
    (hfits : granules (fld s Reg.ACQ_SNAP_MASK 15 0) (fld s Reg.ACQ_SNAP_CFG 19 15) ≤ 384) :
    exec .snapshotScheduledCapture s = .next (allocCapture (fld s Reg.ACQ_SNAP_MASK 15 0) (fld s Reg.ACQ_SNAP_CFG 19 15) (s.acq.nextSnapS * 1000) 2
      (storedNow (secondSet s) (fld s Reg.ACQ_SNAP_MASK 15 0)) false (secondSet s)) := by
  have hempty' : (secondSet s).acq.caps = [] := hempty
  have hids : unusedIds (secondSet s) ≠ [] := by
    rw [unusedIds_of_empty hempty']
    decide
  have hroom := makeRoom_of_fits 256 (hfits.trans (freeGranules_of_empty hempty').ge) hids
  show execSnapshotScheduledCapture s = _
  rw [execSnapshotScheduledCapture]
  dsimp only
  rw [if_neg (by simp [hmode, hbb, Nat.not_lt.2 hdue]), ← secondSet,
    if_neg (by simp [reachable_of_empty hempty', hids, Nat.not_lt.2 hfits]), hroom]

end Sys2Proof.Machine
end
section
open Sys2Proof Sys2Proof.Machine Sys2Proof.Safety
/-- Settles O16: a capture is allocated or refused, its window opens and closes, it is released, and SNAPSHOT schedules its own. -/
theorem capturesComplete : Obligations.CapturesComplete := by
  refine ⟨fun s hup hshort hlong hfits hids => ?_, fun s hup hshort hlong hfull => ?_, fun s id hup hheld hpins => ?_,
    fun s id hup hheld hpins => ?_, fun s id harmed hat => ?_, fun s id frames hopen hend => ?_, fun s hmode hbb hdue hempty hfits => ?_⟩
  · have hlen : ¬(fld s Reg.ACQ_CAP_CFG 20 16 < 1 ∨ 24 < fld s Reg.ACQ_CAP_CFG 20 16) := by omega
    have hexec : exec .capture s = .next (allocCapture (fld s Reg.ACQ_CAP_CFG 15 0) (fld s Reg.ACQ_CAP_CFG 20 16) (captureStart s).1 1 0 (captureStart s).2 s) := by
      show execCapture s = _
      simp only [execCapture, hup, hlen, hids, Nat.not_lt.2 hfits, Bool.not_true, Bool.false_eq_true, or_self, if_false]
    exact completes_of hexec (allocCapture_enters _ _ _ _ _ _ s)
  · have hlen : ¬(fld s Reg.ACQ_CAP_CFG 20 16 < 1 ∨ 24 < fld s Reg.ACQ_CAP_CFG 20 16) := by omega
    have hexec : exec .capture s = .next (sticky Reg.ACQ_STICKY 0 s) := by
      show execCapture s = _
      simp only [execCapture, hup, hlen, hfull, Bool.not_true, Bool.false_eq_true, true_or, if_false, if_true]
    exact completes_of hexec ⟨by simp, sticky_sets _ (by decide) s⟩
  · have hexec : exec (.captureRelease id) s = .next (setAcq { s.acq with caps := Tab.del s.acq.caps id } s) := by
      show execCaptureRelease id s = _
      simp only [execCaptureRelease, hup, hheld, hpins, Bool.not_true, Bool.or_self, Bool.false_eq_true, if_false, if_true]
    refine completes_of hexec ⟨?_, rfl⟩
    show (Tab.del s.acq.caps id).any _ = false
    simpa using fun a b h => key_ne_of_mem_del h
  · have hexec : exec (.captureRelease id) s = .next (setCapture id { capture s id with deferred := true } s) := by
      show execCaptureRelease id s = _
      simp only [execCaptureRelease, hup, hheld, hpins, Bool.not_true, Bool.or_self, Bool.false_eq_true, if_false]
    exact completes_of hexec ⟨by simp, by simp⟩
  · have hexec : exec (.captureWindowStart id) s = .next (setCapture id { capture s id with state := 2, stored := storedNow s (capture s id).mask } s) :=
      congrArg Host.Outcome.next (if_pos ⟨harmed, hat⟩)
    exact completes_of hexec ⟨by simp, by simp⟩
  · have hexec : exec (.captureWindowEnd ⟨id, frames⟩) s = .next (setCapture id
        { capture s id with state := 3, data := (captureData s (capture s id).stored frames).filter (fun e => !e.2.isEmpty) } s) :=
      congrArg Host.Outcome.next (if_pos ⟨hopen, hend⟩)
    exact completes_of hexec ⟨by simp, by simp, by simp⟩
  · refine completes_of (execSnapshotScheduledCapture_empty hmode hbb hdue hempty hfits) ⟨?_, rfl⟩
    show (Tab.put capDef s.acq.caps _ _).length = 1
    rw [hempty, Tab.put, if_neg (by simp [capDef])]
    rfl
end

section
/-! SUPPORT. Ports in their table: a port written, a frame taken from its FIFO, the pause frames that follow (R143, R144). -/
namespace Sys2Proof.Machine
open Sys2Proof.Safety

theorem netPort_of_net {s t : State} (h : t.net = s.net) (n : Nat) : netPort t n = netPort s n := by rw [netPort, netPort, h]

@[simp] theorem netPort_inc (a k : Nat) (s : State) (n : Nat) : netPort (inc a k s) n = netPort s n := rfl
@[simp] theorem netPort_sticky (a b : Nat) (s : State) (n : Nat) : netPort (sticky a b s) n = netPort s n := rfl
@[simp] theorem netPort_perf (e k : Nat) (s : State) (n : Nat) : netPort (perf e k s) n = netPort s n := rfl
@[simp] theorem netPort_emit (o : Output) (s : State) (n : Nat) : netPort (emit o s) n = netPort s n := rfl
@[simp] theorem netPort_sendPause (k q : Nat) (s : State) (n : Nat) : netPort (sendPause k q s) n = netPort s n := rfl
@[simp] theorem netPort_setCrp (c : Crp) (s : State) (n : Nat) : netPort (setCrp c s) n = netPort s n := rfl
@[simp] theorem rd_perf (e k : Nat) (s : State) (a : Nat) : rd (perf e k s) a = rd s a := rfl
@[simp] theorem rd_emit (o : Output) (s : State) (a : Nat) : rd (emit o s) a = rd s a := rfl
@[simp] theorem rd_setPort (n : Nat) (p : NetPort) (s : State) (a : Nat) : rd (setPort n p s) a = rd s a := rfl
@[simp] theorem rd_freeNext (s : State) (a : Nat) : rd (freeNext s) a = rd s a := rfl

/-- What XOFF and XON leave of a port. -/
def unpaused (p : NetPort) : NetPort := { p with xoff := false, xoffAt := 0 }

theorem pauseCheck_port (n : Nat) (s : State) : unpaused (netPort (pauseCheck n s) n) = unpaused (netPort s n) := by
  unfold pauseCheck
  dsimp only
  split
  · split
    · rw [netPort_perf, setPort_same]
      rfl
    · rfl
  split
  · rw [netPort_sendPause, setPort_same]
    rfl
  split
  · rw [netPort_perf, netPort_sendPause, setPort_same]
    rfl
  · rfl

theorem pauseCheck_fifo (n : Nat) (s : State) : (netPort (pauseCheck n s) n).fifo = (netPort s n).fifo := by
  have h := congrArg NetPort.fifo (pauseCheck_port n s)
  exact h

theorem popHead_fifo (n : Nat) (s : State) : (netPort (popHead n s) n).fifo = (netPort s n).fifo.drop 1 := by
  rw [popHead, pauseCheck_fifo, setPort_same]

/-- A pause frame counts, and no other register changes. -/
theorem rd_pauseCheck {n a : Nat} (h : a ≠ Reg.NET_CNT n 6) (s : State) : rd (pauseCheck n s) a = rd s a := by
  have hpause (q : Nat) (t : State) : rd (sendPause n q t) a = rd t a := by rw [sendPause, rd_inc_ne _ _ h, rd_emit]
  unfold pauseCheck
  dsimp only
  split
  · split <;> simp
  split
  · rw [hpause, rd_setPort]
  split
  · rw [rd_perf, hpause, rd_setPort]
  · rfl

end Sys2Proof.Machine
end

section
/-! SUPPORT. One frame arrives (R139 to R145). -/
namespace Sys2Proof.Machine
open Sys2Proof.Safety

/-- The frame is counted. -/
def arrived (n : Nat) (s : State) : State := perf (0x118 + n) 1 (inc (Reg.NET_CNT n 0) 1 s)

theorem rd_arrived_ne {n a : Nat} (h : a ≠ Reg.NET_CNT n 0) (s : State) : rd (arrived n s) a = rd s a := rd_inc_ne 1 s h

theorem rd_arrived_same (n : Nat) (s : State) : rd (arrived n s) (Reg.NET_CNT n 0) = satAdd (rd s (Reg.NET_CNT n 0)) 1 := by
  rw [arrived, rd_perf, rd_inc_same]

theorem ctrl_arrived (n : Nat) (s : State) : rd (arrived n s) (Reg.NET_CTRL n) = rd s (Reg.NET_CTRL n) :=
  rd_arrived_ne (by simp only [Reg.NET_CTRL, Reg.NET_CNT]; omega) s

theorem portAddr_arrived (n : Nat) (s : State) : portAddr (arrived n s) n = portAddr s n := by
  have hip (i : Nat) (hi : i < 4) : rd (arrived n s) (Reg.NET_IP n i) = rd s (Reg.NET_IP n i) :=
    rd_arrived_ne (by simp only [Reg.NET_IP, Reg.NET_CNT]; omega) s
  rw [portAddr, portAddr, hip 0 (by decide), hip 1 (by decide), hip 2 (by decide), hip 3 (by decide)]

theorem plpPort_arrived (n : Nat) (s : State) : plpPort (arrived n s) n = plpPort s n := by
  rw [plpPort, plpPort, fld, fld, rd_arrived_ne (by simp only [Reg.NET_UDP, Reg.NET_CNT]; omega)]

theorem classifyIp_arrived (n : Nat) (f : List Byte) (s : State) : classifyIp (arrived n s) n f = classifyIp s n f := by
  have haddr := portAddr_arrived n s
  have hport := plpPort_arrived n s
  generalize arrived n s = t at haddr hport ⊢
  simp only [classifyIp, classifyUdp, hport, haddr]

theorem classify_arrived (n : Nat) (f : List Byte) (ok : Bool) (s : State) : classify (arrived n s) n f ok = classify s n f ok := by
  have hvlan : rd (arrived n s) (Reg.NET_VLAN n) = rd s (Reg.NET_VLAN n) := rd_arrived_ne (by simp only [Reg.NET_VLAN, Reg.NET_CNT]; omega) s
  have hctrl := ctrl_arrived n s
  have hip := classifyIp_arrived n (f.drop (if decide (beAt f 12 2 = 0x8100) then 16 else 12)) s
  generalize arrived n s = t at hvlan hctrl hip ⊢
  simp only [classify, flag, fld, hvlan, hctrl, hip]
  rfl

theorem tRx_arrived (n : Nat) (s : State) : tRx (arrived n s) n = tRx s n := by
  have hlat : latReg (arrived n s) n = latReg s n := by
    rw [latReg, latReg, flag, flag, ctrl_arrived, rd_arrived_ne (by simp only [Reg.TIM_PORT_LAT_1G, Reg.NET_CNT]; omega),
      rd_arrived_ne (by simp only [Reg.TIM_PORT_LAT_10G, Reg.NET_CNT]; omega)]
  rw [tRx, tRx, hlat]
  rfl

theorem execFrameReceive_plp {s : State} {n p : Nat} {frame src pl : List Byte} (hruns : portRuns s n = true) (hlink : (netPort s n).link = true)
    (hdrop : dropsNext s n = false) (hclass : classify s n frame true = .plp src p pl) (hroom : rxFill (netPort s n) + frame.length ≤ 262144) :
    exec (.frameReceive n frame true) s = .next (pauseCheck n (setPort n
      { netPort s n with fifo := (netPort s n).fifo ++ [⟨src, p, pl, tRx s n, s.tim.now, frame.length⟩] } (arrived n s))) := by
  show execFrameReceive n frame true s = _
  rw [execFrameReceive, if_neg (by simp [hruns, hlink])]
  dsimp only
  rw [← arrived, classify_arrived, hclass]
  dsimp only
  rw [if_neg (show ¬262144 < rxFill (netPort (arrived n s) n) + frame.length from Nat.not_lt.2 hroom), if_neg (by rw [Bool.not_eq_true]; exact hdrop), tRx_arrived]
  rfl

/-- A frame for the time core reaches it, or is counted where that core has no room. -/
theorem timeCoreTake_takes (n : Nat) (f : List Byte) (s : State) : netPort (timeCoreTake n f s) n = netPort s n ∧
    (.timeCore n (tRx s n / (tNs : Int)) f ∈ (timeCoreTake n f s).io.out ∨
      rd (timeCoreTake n f s) (Reg.NET_CNT n 4) = satAdd (rd s (Reg.NET_CNT n 4)) 1) := by
  unfold timeCoreTake
  split
  · exact ⟨rfl, .inr (by rw [rd_inc_same, rd_freeNext])⟩
  · exact ⟨rfl, .inl List.mem_cons_self⟩

end Sys2Proof.Machine
end
section
open Sys2Proof Sys2Proof.Machine Sys2Proof.Safety
/-- Settles O20: a PLP frame, an oversize frame, a frame for the time core, the XOFF refresh, and the ends of a pause. -/
theorem receiveCompletes : Obligations.ReceiveCompletes := by
  refine ⟨fun s n p frame src pl hruns hlink hdrop hclass hroom => ?_, fun s n frame ok hruns hlink hdrop hclass => ?_,
    fun s n frame hruns hlink hdrop hclass hroom => ?_, fun s n hruns hxoff hctrl hdue => ?_, fun s n a hsince hend => ?_,
    fun s n a hsince hbypass hctrl hlimit => ?_⟩
  · refine completes_of (execFrameReceive_plp hruns hlink hdrop hclass hroom) ⟨?_, ?_⟩
    · rw [pauseCheck_fifo, setPort_same]
    · rw [rd_pauseCheck (by simp only [Reg.NET_CNT]; omega), rd_setPort, rd_arrived_same]
  · have hexec : exec (.frameReceive n frame ok) s = .next (inc (Reg.NET_CNT n 4) 1 (sticky (Reg.NET_STICKY n) 6 (arrived n s))) := by
      show execFrameReceive n frame ok s = _
      rw [execFrameReceive, if_neg (by simp [hruns, hlink])]
      dsimp only
      rw [← arrived, classify_arrived, hclass]
    refine completes_of hexec ⟨rfl, inc_holds _ _ _ _ _ (sticky_sets _ (by decide) _), ?_⟩
    rw [rd_inc_same, rd_of_bank (sticky_keeps _ _ _).1, rd_arrived_ne (by simp only [Reg.NET_CNT]; omega)]
  · have hexec : exec (.frameReceive n frame true) s = .next (timeCoreTake n frame (arrived n s)) := by
      show execFrameReceive n frame true s = _
      rw [execFrameReceive, if_neg (by simp [hruns, hlink])]
      dsimp only
      rw [← arrived, classify_arrived, hclass]
      dsimp only
      rw [if_neg (show ¬262144 < rxFill (netPort (arrived n s) n) + frame.length from Nat.not_lt.2 hroom), if_neg (by rw [Bool.not_eq_true]; exact hdrop)]
    obtain ⟨hport, htook⟩ := timeCoreTake_takes n frame (arrived n s)
    rw [tRx_arrived, rd_arrived_ne (a := Reg.NET_CNT n 4) (by simp only [Reg.NET_CNT]; omega)] at htook
    exact completes_of hexec ⟨congrArg NetPort.fifo hport, htook⟩
  · have hexec : exec (.xoffRefresh n) s = .next (perf (0x120 + n) 1000 (sendPause n 0xFFFF (setPort n
        { netPort s n with xoffAt := (netPort s n).xoffAt + tMs } s))) := congrArg Host.Outcome.next (if_pos (by simp [hruns, hxoff, hctrl, hdue]))
    refine completes_of hexec ⟨by simp, ?_⟩
    rw [rd_perf, sendPause, rd_inc_same, rd_emit, rd_setPort]
  · have hexec : exec (.pauseExpiry n) s = .next (setPort n { netPort s n with pauseSince := none, bypass := false } s) :=
      congrArg Host.Outcome.next (if_pos (by simp [hsince, hend]))
    exact completes_of hexec ⟨by simp, by simp⟩
  · have hexec : exec (.pauseBypass n) s = .next (sticky (Reg.NET_STICKY n) 8 (setPort n { netPort s n with bypass := true } s)) := by
      show execPauseBypass n s = _
      rw [execPauseBypass]
      dsimp only
      rw [hsince]
      dsimp only
      rw [if_pos (by simp [hbypass, hctrl, hlimit])]
    exact completes_of hexec ⟨by simp, sticky_sets _ (by decide) _⟩
end

section
/-! SUPPORT. The link of a port, and its transmissions (R138, R146, R147, R372). -/
namespace Sys2Proof.Machine
open Sys2Proof.Safety

theorem completeOpt_holds (c : Option Cmd) (code : Nat) (detail : List Byte) (s : State) (a bit : Nat) (ha : among raised a = false)
    (h : stkSet s a bit) : stkSet (completeOpt c code detail s) a bit := by
  rw [stkSet, stk_of_seen (completeOpt_seen c code detail s (by simp [ha]))]
  exact h

theorem missNightfall_net (n : Nat) (s : State) : (missNightfall n s).crp = s.crp ∧ (missNightfall n s).io = s.io := by
  unfold missNightfall
  dsimp only
  split <;> exact ⟨rfl, rfl⟩

theorem rd_missNightfall {a : Nat} (n : Nat) (s : State) (h : among [nflCnt] a = false) : rd (missNightfall n s) a = rd s a :=
  rd_of_seen (missNightfall_seen n s (by simpa using h))

/-- The link of a port after it came up. -/
def linked (n : Nat) (an : Bool) (s : State) : State :=
  setCrp { s.crp with netLock := s.crp.netLock ||| BitVec.ofNat 4 (2 ^ n), netRef := s.crp.netRef ||| BitVec.ofNat 2 (2 ^ (n / 2)) }
    (setPort n { netPort s n with link := true, anDone := an, pauseSince := none, bypass := false } s)

theorem linked_port (n : Nat) (an : Bool) (s : State) : netPort (linked n an s) n =
    { netPort s n with link := true, anDone := an, pauseSince := none, bypass := false } := by
  rw [linked, netPort_setCrp, setPort_same]

@[simp] theorem netPort_completeOpt (c : Option Cmd) (code : Nat) (detail : List Byte) (s : State) (n : Nat) :
    netPort (completeOpt c code detail s) n = netPort s n := netPort_of_net (by simp) n

theorem getQ_setQ (q : Nat) (l : List TxFrame) (p : NetPort) : getQ (setQ q l p) q = l :=
  match q with
  | 0 | 1 | 2 | 3 | 4 => rfl
  | _ + 5 => rfl

/-- A port whose transmission of a frame has begun. -/
def started (f : TxFrame) (late : Bool) (t : Nat) (p : NetPort) : NetPort := { p with tx := some f, txLate := late, txStart := t }

theorem getQ_started (q : Nat) (f : TxFrame) (late : Bool) (t : Nat) (p : NetPort) : getQ (started f late t p) q = getQ p q := rfl

theorem length_markHead (now : Nat) (l : List TxFrame) : (markHead now l).length = l.length := by cases l <;> rfl

theorem nflCnt_netCtrl (n : Nat) : among [nflCnt] (Reg.NET_CTRL n) = false := by
  simp only [among, nflCnt, words, List.any_cons, List.any_nil, Bool.or_false, List.any_eq_false, List.mem_range, decide_eq_true_eq]
  intro k hk
  simp only [Reg.NFL_CNT, Reg.NET_CTRL]
  omega

theorem execLinkUp_links {s : State} {n : Nat} (hruns : portRuns s n = true) (hlink : (netPort s n).link = false) :
    ∃ u, exec (.linkUp n) s = .next (linked n (flag s (Reg.NET_CTRL n) 1 && flag s (Reg.NET_CTRL n) 2) u) ∧
      u.crp = s.crp ∧ ((flag s (Reg.NET_CTRL n) 1 && flag s (Reg.NET_CTRL n) 2) = true → advert s n ∈ u.io.out) := by
  obtain ⟨hcrp, -⟩ := missNightfall_net n s
  have hctrl : rd (missNightfall n s) (Reg.NET_CTRL n) = rd s (Reg.NET_CTRL n) :=
    rd_missNightfall n s (nflCnt_netCtrl n)
  have hflag (i : Nat) : flag (missNightfall n s) (Reg.NET_CTRL n) i = flag s (Reg.NET_CTRL n) i := by rw [flag, flag, hctrl]
  have hadvert : advert (missNightfall n s) n = advert s n := by simp only [advert, hflag]
  have hup : (portRuns s n && !(netPort s n).link) = true := by simp [hruns, hlink]
  cases han : flag s (Reg.NET_CTRL n) 1 && flag s (Reg.NET_CTRL n) 2 with
  | false =>
    refine ⟨missNightfall n s, ?_, hcrp, fun h => absurd h (by decide)⟩
    show execLinkUp n s = _
    rw [execLinkUp, if_pos hup]
    simp only [hflag, han, Bool.false_eq_true, if_false]
    rfl
  | true =>
    refine ⟨emit (advert s n) (missNightfall n s), ?_, hcrp, fun _ => List.mem_cons_self⟩
    show execLinkUp n s = _
    rw [execLinkUp, if_pos hup]
    simp only [hflag, hadvert, han, if_true]
    rfl

/-- What a transmission that ended counts beside the frame itself, by its kind. -/
def sentKind (k : TxKind) (late : Bool) (s : State) : State :=
  match k with
  | .nightfall => perf 0x168 1 (inc (Reg.NFL_CNT 1) 1 (if late then inc (Reg.NFL_CNT 3) 1 s else s))
  | .release => inc (Reg.NFL_CNT 6) 1 s
  | .stream => perf 0x113 1 s
  | _ => s

theorem sentKind_keeps (k : TxKind) (late : Bool) (n : Nat) (s : State) : (sentKind k late s).net = s.net ∧
    rd (sentKind k late s) (Reg.NET_CNT n 1) = rd s (Reg.NET_CNT n 1) := by
  have hne (i : Nat) (hi : i < 8) : Reg.NET_CNT n 1 ≠ Reg.NFL_CNT i := by
    simp only [Reg.NET_CNT, Reg.NFL_CNT]
    omega
  unfold sentKind
  split
  · refine ⟨by cases late <;> rfl, ?_⟩
    rw [rd_perf, rd_inc_ne _ _ (hne 1 (by decide))]
    split
    · exact rd_inc_ne _ _ (hne 3 (by decide))
    · rfl
  · exact ⟨rfl, rd_inc_ne _ _ (hne 6 (by decide))⟩
  · exact ⟨rfl, rfl⟩
  · exact ⟨rfl, rfl⟩

/-- The frame has left: it is counted, late or not. -/
def leftPort (n : Nat) (s : State) : State :=
  let s' := perf (0x11C + n) 1 (inc (Reg.NET_CNT n 1) 1 (setPort n { netPort s n with tx := none } s))
  if (netPort s n).txLate then inc (Reg.NET_CNT n 7) 1 s' else s'

theorem leftPort_counts (n : Nat) (s : State) : (leftPort n s).net = (setPort n { netPort s n with tx := none } s).net ∧
    rd (leftPort n s) (Reg.NET_CNT n 1) = satAdd (rd s (Reg.NET_CNT n 1)) 1 := by
  unfold leftPort
  dsimp only
  split
  · exact ⟨rfl, by rw [rd_inc_ne _ _ (by simp only [Reg.NET_CNT]; omega), rd_perf, rd_inc_same, rd_setPort]⟩
  · exact ⟨rfl, by rw [rd_perf, rd_inc_same, rd_setPort]⟩

theorem execTransmitEnd_ends {s : State} {n : Nat} {f : TxFrame} (hheld : portHeld s n = false) (htx : (netPort s n).tx = some f) :
    ∃ u, exec (.transmitEnd n) s = .next (completeOpt f.cmd (b2n (netPort s n).txLate) (timeBytes (netPort s n).txStart) u) ∧
      u.net = (setPort n { netPort s n with tx := none } s).net ∧ rd u (Reg.NET_CNT n 1) = satAdd (rd s (Reg.NET_CNT n 1)) 1 := by
  obtain ⟨hnet, hcount⟩ := leftPort_counts n s
  obtain ⟨hnet', hcount'⟩ := sentKind_keeps f.kind (netPort s n).txLate n (leftPort n s)
  refine ⟨match f.ptp with
    | some k => emit (.ptpDone n 0 (ptpStamp (sentKind f.kind (netPort s n).txLate (leftPort n s)) n k (netPort s n).txStart))
        (sentKind f.kind (netPort s n).txLate (leftPort n s))
    | none => sentKind f.kind (netPort s n).txLate (leftPort n s), ?_, ?_, ?_⟩
  · show execTransmitEnd n s = _
    rw [execTransmitEnd]
    dsimp only
    rw [if_neg (by simp [hheld]), htx]
    rfl
  · split <;> exact hnet'.trans hnet
  · split <;> exact hcount'.trans hcount

theorem raised_netSticky {s : State} {n : Nat} (h : n < gradePorts s) : among raised (Reg.NET_STICKY n) = false := by
  have hfew : ∀ n < 4, among raised (Reg.NET_STICKY n) = false := by decide
  have hgrade : gradePorts s ≤ 4 := by
    unfold gradePorts
    split <;> decide
  exact hfew n (h.trans_le hgrade)

end Sys2Proof.Machine
end
section
open Sys2Proof Sys2Proof.Machine Sys2Proof.Safety
/-- Settles O21: the link of a port comes up and goes down, a frame starts with its stamp, and its transmission ends. -/
theorem transmitCompletes : Obligations.TransmitCompletes := by
  refine ⟨fun s n hn hruns hlink => ?_, fun s n hn hlink => ?_, fun s n q f l hruns hlink htx hdrop hfind hq => ?_,
    fun s n f k hptp hone hether => ?_, fun s n f hheld htx => ?_⟩
  · obtain ⟨u, hexec, hcrp, hout⟩ := execLinkUp_links hruns hlink
    have hbit : ∀ n < 4, (BitVec.ofNat 4 (2 ^ n)).getLsbD n = true := by decide
    refine completes_of hexec ?_
    rw [linked_port]
    refine ⟨by simp, hout, rfl, rfl, ?_⟩
    show (u.crp.netLock ||| BitVec.ofNat 4 (2 ^ n)).getLsbD n = true
    rw [BitVec.getLsbD_or, hbit n hn, Bool.or_true]
  · have hexec : exec (.linkDown n) s = .next (completeOpt (match (netPort s n).tx with | some f => f.cmd | none => none) 4 [] (sticky (Reg.NET_STICKY n) 0
        (setPort n { netPort s n with link := false, anDone := false, pauseSince := none, bypass := false, tx := none } s))) := by
      show execLinkDown n s = _
      rw [execLinkDown, if_pos hn, linkLost]
      exact congrArg Host.Outcome.next (if_neg (by simp [hlink]))
    refine completes_of hexec ?_
    rw [netPort_completeOpt, netPort_sticky, setPort_same]
    exact ⟨rfl, rfl, completeOpt_holds _ _ _ _ _ _ (raised_netSticky hn) (sticky_sets _ (by decide) _)⟩
  · have hexec : exec (.transmitStart ⟨n, []⟩) s = .next (emit (.frame n (sentBytes s n f)) (setPort n
        (started f (flag s (Reg.NET_CTRL n) 6 && (match f.launch with | some l => decide (l < (f.headAt : Int)) | none => false)) (tTx s n)
          (setQ q (markHead s.tim.now l) (netPort s n))) s)) := by
      show execTransmitStart ⟨n, []⟩ s = _
      have hdrop' : dropsNext s (n + 4) = false := hdrop
      simp only [execTransmitStart, List.foldl_nil, hruns, hlink, htx, hdrop', hfind, hq, Bool.not_true, Bool.or_self, Option.isSome_none,
        Bool.false_eq_true, if_false]
      rfl
    refine completes_of hexec ?_
    rw [netPort_emit, setPort_same]
    refine ⟨rfl, ?_, rfl, rfl, fun hptp => ?_⟩
    · rw [getQ_started, getQ_setQ, length_markHead]
    · rw [sentBytes, sentFrame, hptp]
  · rw [sentFrame, hptp]
    simp only [hone, Bool.true_and, oneStepBytes, hether, splice]
  · obtain ⟨u, hexec, hnet, hcount⟩ := execTransmitEnd_ends hheld htx
    refine completes_of hexec ?_
    rw [netPort_completeOpt, netPort_of_net hnet, setPort_same]
    exact ⟨rfl, rfl, (rd_of_seen (completeOpt_seen _ _ _ u (by simp))).trans hcount⟩
end

section
/-! SUPPORT. Jobs that enter, change and leave, and the machines of the table (R152, R246, R253). -/
namespace Sys2Proof.Machine
open Sys2Proof.Safety

/-! ### Jobs -/

theorem heldChanged_jobs (s : State) : (heldChanged s).dsp.jobs = s.dsp.jobs ∧ (heldChanged s).dsp.nextId = s.dsp.nextId := by
  unfold heldChanged
  dsimp only
  (repeat' split) <;> exact ⟨rfl, rfl⟩

/-- A job enters at the tail. -/
theorem addJob_jobs (kind : JobKind) (flow level : Nat) (stamp tRx : Int) (gate : Option Int) (work : JobWork) (cmd : Option Cmd) (s : State) :
    (addJob kind flow level stamp tRx gate work cmd s).dsp.jobs =
      s.dsp.jobs ++ [⟨s.dsp.nextId, kind, flow, level, stamp, false, none, none, gate, tRx, work, cmd⟩] :=
  (heldChanged_jobs _).1

theorem find_map_id (l : List Job) (id : Nat) (f : Job → Job) (hf : ∀ j, (f j).id = j.id) :
    (l.map fun j => if j.id = id then f j else j).find? (fun k => k.id = id) = (l.find? fun k => k.id = id).map f := by
  induction l with
  | nil => rfl
  | cons j l ih => by_cases hj : j.id = id <;> simp [hj, hf, ih]

/-- A job that is held, changed. -/
theorem updJob_find (id : Nat) (f : Job → Job) (hf : ∀ j, (f j).id = j.id) (s : State) :
    (updJob id f s).dsp.jobs.find? (fun k => k.id = id) = (s.dsp.jobs.find? fun k => k.id = id).map f := find_map_id _ _ _ hf

theorem updJob_length (id : Nat) (f : Job → Job) (s : State) : (updJob id f s).dsp.jobs.length = s.dsp.jobs.length := List.length_map _

/-- The job that takes an entry over. -/
def successor (kind : JobKind) (level : Nat) (gate : Option Int) (excluded : Option Nat) (work : JobWork) (j : Job) : Job :=
  { j with kind := kind, level := level, inService := false, engine := none, excluded := excluded, gate := gate, work := work }

theorem succeed_jobs (id : Nat) (kind : JobKind) (gate : Option Int) (excluded : Option Nat) (work : JobWork) (s : State) :
    (succeed id kind gate excluded work s).dsp.jobs = (updJob id (successor kind (levelFor s kind 0) gate excluded work) s).dsp.jobs := by
  simp only [succeed, perf_keeps, inc_keeps]
  rfl

theorem succeed_find (id : Nat) (kind : JobKind) (gate : Option Int) (excluded : Option Nat) (work : JobWork) (s : State) :
    (succeed id kind gate excluded work s).dsp.jobs.find? (fun k => k.id = id) =
      (s.dsp.jobs.find? fun k => k.id = id).map (successor kind (levelFor s kind 0) gate excluded work) := by
  rw [succeed_jobs]
  exact updJob_find id (successor kind (levelFor s kind 0) gate excluded work) (fun _ => rfl) s

theorem succeed_length (id : Nat) (kind : JobKind) (gate : Option Int) (excluded : Option Nat) (work : JobWork) (s : State) :
    (succeed id kind gate excluded work s).dsp.jobs.length = s.dsp.jobs.length := by rw [succeed_jobs, updJob_length]

/-- A fold that goes on with its choice or takes the element at hand chooses from its list. -/
theorem foldl_choice {α : Type} {f : Option α → α → Option α} (hf : ∀ b a x, f b a = some x → x = a ∨ b = some x) (l : List α) (b : Option α) {x : α}
    (h : l.foldl f b = some x) : x ∈ l ∨ b = some x := by
  induction l generalizing b with
  | nil => exact .inr h
  | cons a l ih =>
    rcases ih _ h with hl | hb
    · exact .inl (List.mem_cons_of_mem a hl)
    · rcases hf b a x hb with rfl | hb
      · exact .inl List.mem_cons_self
      · exact .inr hb

/-- What an executor takes is held, and may be taken. -/
theorem pickJob_mem {s : State} {e : Nat} {ok : Job → Bool} {j : Job} (h : pickJob s e ok = some j) :
    j ∈ s.dsp.jobs ∧ executor j.kind = e ∧ eligible s j = true ∧ ok j = true := by
  have hstep (b : Option Job) (a x : Job)
      (hx : (match b with | none => some a | some b => some (if jobBefore s a b then a else b)) = some x) : x = a ∨ b = some x := by
    cases b with
    | none => exact .inl (Option.some.inj hx).symm
    | some c =>
      have hc := Option.some.inj hx
      split at hc
      · exact .inl hc.symm
      · exact .inr (congrArg some hc)
  rcases foldl_choice hstep _ _ h with hj | hj
  · simpa [and_assoc] using hj
  · cases hj

/-- A job that is held is found by its number. -/
theorem find_isSome {l : List Job} {j : Job} (h : j ∈ l) : (l.find? fun k => k.id = j.id).isSome = true := by
  rw [List.find?_isSome]
  exact ⟨j, h, by simp⟩

/-! ### Machines -/

theorem mach_of_mach {s t : State} (h : t.mach = s.mach) (m : Nat) : mach t m = mach s m := by rw [mach, mach, h]

@[simp] theorem mach_perf (e k : Nat) (s : State) (m : Nat) : mach (perf e k s) m = mach s m := rfl

@[simp] theorem mach_putMach (m : Nat) (v : Mach) (s : State) : mach (putMach m v s) m = v := by
  rw [mach_of_mach (s := setMach m v s) (by simp [putMach]), setMach_same]

end Sys2Proof.Machine
end

section
/-! SUPPORT. PLP frames at the head of a port's FIFO (R142, R152 to R156, R161, R278). -/
namespace Sys2Proof.Machine
open Sys2Proof.Safety

/-- A frame that passes the checks goes to its rule. -/
theorem withHead_of_accept {s : State} {n type : Nat} {f : RxFrame} {g : RxFrame → State → State} (hhead : headFrame s n = some f)
    (hserves : portServes s n = true) (hmode : s.crp.mode ≠ .standby) (hcheck : plpCheck s n f = .accept) (htype : plpType f.plp = type)
    (hflow : flowFull s (plpMachine f.plp) = false) : withHead n type g s = g f s := by
  simp [withHead, hhead, hserves, hmode, hcheck, htype, hflow]

theorem takeAccepted_mach (n : Nat) (f : RxFrame) (s : State) : ∃ e, mach (takeAccepted n f s) (plpMachine f.plp) =
    { mach s (plpMachine f.plp) with seqLast := plpSeq f.plp, resetSeq := false, entry := e } := by
  have hmach : mach (perf 0x124 1 (perf 0x126 1 (inc (Reg.NET_CNT n 2) 1 (popHead n s)))) (plpMachine f.plp) = mach s (plpMachine f.plp) :=
    mach_of_mach (part_of_seen (p := .mach) (popHead_seen n s (by simp))) _
  unfold takeAccepted learn seqTaken
  dsimp only
  rw [mach_putMach, hmach]
  split
  · rw [mach_putMach]
    exact ⟨_, rfl⟩
  · rw [mach_putMach]
    exact ⟨_, rfl⟩

theorem takeAccepted_dsp (n : Nat) (f : RxFrame) (s : State) : (takeAccepted n f s).dsp = s.dsp :=
  part_of_seen (p := .dsp) (takeAccepted_seen n f s (by simp))

/-- A frame that forms a job: it moves SEQ_last, and the job joins its machine's flow. -/
theorem formParse_forms {n : Nat} {f : RxFrame} {work : JobWork} {after : State → State} {s : State} (hopen : intakeOpen s = true)
    (hturn : intakeTurn s n = true) (hafter : ∀ t, (after t).dsp = t.dsp) :
    (formParse n f work after s).mach = (after (takeAccepted n f s)).mach ∧
      ∃ j, (formParse n f work after s).dsp.jobs = s.dsp.jobs ++ [j] ∧ j.kind = .parse ∧ j.flow = plpMachine f.plp ∧ j.work = work := by
  have hform : formParse n f work after s = addJob .parse (plpMachine f.plp) (levelFor s .parse 0) (f.endAt : Int) f.tRx none work none
      (intakeServed n (after (takeAccepted n f s))) := if_neg (by simp [hopen, hturn])
  refine ⟨by simp [hform, intakeServed], ⟨s.dsp.nextId, .parse, plpMachine f.plp, levelFor s .parse 0, f.endAt, false, none, none, none, f.tRx, work, none⟩,
    ?_, rfl, rfl, rfl⟩
  rw [hform, addJob_jobs]
  simp only [intakeServed, setDsp_keeps, hafter, takeAccepted_dsp]

/-- A frame that forms a job by itself. -/
theorem formFrame {n : Nat} {f : RxFrame} {s : State} (hopen : intakeOpen s = true) (hturn : intakeTurn s n = true) :
    (mach (formParse n f (.frame n f.plp) id s) (plpMachine f.plp)).seqLast = plpSeq f.plp ∧
      ∃ j, (formParse n f (.frame n f.plp) id s).dsp.jobs = s.dsp.jobs ++ [j] ∧ j.kind = .parse ∧ j.flow = plpMachine f.plp ∧ j.work = .frame n f.plp := by
  obtain ⟨hmach, hjob⟩ := formParse_forms (f := f) (work := .frame n f.plp) (after := id) hopen hturn fun _ => rfl
  obtain ⟨e, he⟩ := takeAccepted_mach n f s
  refine ⟨?_, hjob⟩
  rw [mach_of_mach hmach, id, he]

/-- The only part of its epoch: the epoch is whole. -/
theorem obsPart_whole {s : State} {n : Nat} {f : RxFrame} (hslot : (mach s (plpMachine f.plp)).entry.slotValid = true)
    (hgrade : (mach s (plpMachine f.plp)).entry.slot < gradeSlots s) (hobs : (mach s (plpMachine f.plp)).obs = none)
    (hlast : (mach s (plpMachine f.plp)).lastDiscarded = none) (hcount : leAt f.plp 24 1 / 16 = 1) :
    ∃ work, obsPart n f s = formParse n f work (fun s => setMach (plpMachine f.plp) { mach s (plpMachine f.plp) with obs := none } s) s := by
  refine ⟨.obs (epochOf s (plpEpochS f.plp) (plpEpochNs f.plp)).toNat [(leAt f.plp 24 1 % 16, f.plp)] none, ?_⟩
  rw [obsPart]
  simp only [hslot, Nat.not_le.2 hgrade, hobs, hlast, joinObs, hcount, Bool.not_true, decide_false, Bool.or_self, Bool.false_eq_true, if_false,
    reduceCtorEq, List.nil_append, List.length_singleton, Nat.lt_irrefl]

/-- The parts held of an epoch are discarded. -/
theorem discardObs_mach {s : State} {m : Nat} {a : ObsAsm} (h : (mach s m).obs = some a) (n : Nat) :
    (mach (discardObs m n s) m).obs = none ∧ (mach (discardObs m n s) m).lastDiscarded = some a.epoch ∧
      (portUp s n = true → stkSet (discardObs m n s) (Reg.NET_STICKY n) 9) := by
  rw [discardObs]
  simp only [h]
  rw [mach_of_mach (s := setMach m { mach s m with obs := none, lastDiscarded := some a.epoch } s) (by simp), setMach_same]
  refine ⟨rfl, rfl, fun hup => ?_⟩
  rw [stickyIf, if_pos hup]
  exact sticky_sets _ (by decide) _

/-! ### A frame that is answered -/

theorem mach_keyGone (n : Nat) (s : State) (m : Nat) : mach (keyGone n s) m = mach s m := mach_of_mach (by simp [keyGone]) m

theorem setPort_fifo {k : Nat} {p : NetPort} {s : State} (h : p.fifo = (netPort s k).fifo) (n : Nat) :
    (netPort (setPort k p s) n).fifo = (netPort s n).fifo := by
  by_cases hk : n = k
  · rw [hk, setPort_same, h]
  · exact congrArg NetPort.fifo (Tab.get_put_ne portDef _ _ hk)

theorem setQ_fifo (q : Nat) (l : List TxFrame) (p : NetPort) : (setQ q l p).fifo = p.fifo := by
  unfold setQ
  split <;> rfl

theorem enqueue_fifo (k q : Nat) (f : TxFrame) (s : State) (n : Nat) : (netPort (enqueue k q f s).1 n).fifo = (netPort s n).fifo := by
  unfold enqueue
  dsimp only
  split
  · exact setPort_fifo (setQ_fifo _ _ _) n
  split
  · exact setPort_fifo (setQ_fifo _ _ _) n
  · rfl

theorem enqueue_mach (k q : Nat) (f : TxFrame) (s : State) : (enqueue k q f s).1.mach = s.mach := by
  unfold enqueue
  dsimp only
  (repeat' split) <;> rfl

/-- A frame sent to a machine moves the sequence number that it is sent under, and no FIFO. -/
theorem sendMachGen_seqLast (m gen q type es ens : Nat) (kind : TxKind) (number : Nat) (body : List Byte) (s : State) (n : Nat) :
    (mach (sendMachGen m gen q type es ens kind number body s).1 m).seqLast = (mach s m).seqLast ∧
      (netPort (sendMachGen m gen q type es ens kind number body s).1 n).fifo = (netPort s n).fifo := by
  unfold sendMachGen
  split
  · dsimp only [buildMach]
    rw [mach_of_mach (enqueue_mach _ _ _ _), enqueue_fifo, netPort_perf, netPort_of_net (s := s) (by simp), mach_perf, mach_putMach]
    exact ⟨rfl, rfl⟩
  · exact ⟨congrArg Mach.seqLast (mach_keyGone _ s m), congrArg NetPort.fifo (netPort_of_net (by simp [keyGone]) n)⟩
  · exact ⟨rfl, rfl⟩

/-- A frame that is answered leaves the FIFO, and moves SEQ_last. -/
theorem takeAnswered_takes (n : Nat) (f : RxFrame) (code : Nat) (s : State) :
    (mach (takeAnswered n f code s) (plpMachine f.plp)).seqLast = plpSeq f.plp ∧ (takeAnswered n f code s).dsp = s.dsp ∧
      (netPort (takeAnswered n f code s) n).fifo = (netPort s n).fifo.drop 1 := by
  refine ⟨?_, part_of_seen (p := .dsp) (takeAnswered_seen n f code s (by simp)), ?_⟩
  · unfold takeAnswered sendAck sendAckGen seqTaken
    dsimp only
    rw [(sendMachGen_seqLast _ _ _ _ _ _ _ _ _ _ n).1, mach_putMach]
  · unfold takeAnswered sendAck sendAckGen seqTaken
    dsimp only
    rw [(sendMachGen_seqLast _ _ _ _ _ _ _ _ _ _ n).2, netPort_of_net (s := perf 0x126 1 (popHead n s)) (by simp), netPort_perf, popHead_fifo]

/-! ### OPSTOP -/

theorem dropGrants_fifo (k : Nat) (s : State) (n : Nat) : (netPort (dropGrants k s) n).fifo = (netPort s n).fifo := by
  rw [netPort_of_net (dropGrants_net k s)]
  refine setPort_fifo ?_ n
  rfl

theorem dropAllGrants_fifo (s : State) (n : Nat) : (netPort (dropAllGrants s) n).fifo = (netPort s n).fifo := by
  refine List.foldlRecOn (motive := fun t : State => (netPort t n).fifo = (netPort s n).fifo) _ _ ?_ fun t ht k _ => (dropGrants_fifo k t n).trans ht
  exact congrArg NetPort.fifo (netPort_of_net (by simp) n)

theorem nfLatch_fifo (cause : Nat) (extra : List Byte) (s : State) (n : Nat) : (netPort (nfLatch cause extra s) n).fifo = (netPort s n).fifo := by
  rw [nfLatch_eq, netPort_of_net (s := dropAllGrants (latchMark cause s)) (by simp [latchCounted]), dropAllGrants_fifo]
  exact congrArg NetPort.fifo (netPort_of_net (by simp [latchMark]) n)

theorem refuseByTrigger_net {s : State} (h : rowsNow s = []) : (refuseByTrigger s).net = s.net := by
  unfold refuseByTrigger
  simp only [h, List.reverse_nil, List.foldl_nil]
  split <;> simp

/-- A trigger from IDLE with no row in its SAFE cycle latches, and takes no frame from a FIFO. -/
theorem trigger_latches {s : State} (hlatch : s.nfl.latch = .idle) (hrows : rowsNow s = []) (cause : Nat) (extra : List Byte) (n : Nat) :
    let t := nfTellPeer cause (nfTriggerWith cause extra s)
    t.nfl.latch = .latched ∧ t.nfl.first = cause ∧ t.nfl.seen = oneHot cause ∧ (netPort t n).fifo = (netPort s n).fifo := by
  intro t
  have hnil := refuseByTrigger_nil hrows
  have ht : t = nfTellPeer cause (nfLatch cause extra (triggerSeen s)) :=
    congrArg (nfTellPeer cause) (nfTriggerWith_of_open cause extra (by rw [hnil]; exact hlatch))
  have hfifo : (netPort t n).fifo = (netPort s n).fifo := by
    rw [ht, netPort_of_net (s := nfLatch cause extra (triggerSeen s)) (by simp), nfLatch_fifo]
    exact congrArg NetPort.fifo (netPort_of_net (refuseByTrigger_net hrows) n)
  refine ⟨?_, ?_, ?_, hfifo⟩ <;> simp [ht, nfLatch_nfl]

theorem rowsNow_congr {s t : State} (hnfl : t.nfl = s.nfl) (htim : t.tim = s.tim) : rowsNow t = rowsNow s := by
  rw [rowsNow, rowsNow, safeCycle, safeCycle, hnfl, htim]

/-- The state in which an OPSTOP frame triggers. -/
def opstopTaken (n : Nat) (f : RxFrame) (s : State) : State :=
  inc (Reg.NFL_CNT 4) 1 (popHead n (if opstopTagTried s f.plp then perf 0x126 1 s else s))

theorem opstopTaken_keeps (n : Nat) (f : RxFrame) (s : State) : (opstopTaken n f s).nfl = s.nfl ∧ (opstopTaken n f s).tim = s.tim ∧
    (netPort (opstopTaken n f s) n).fifo = (netPort s n).fifo.drop 1 := by
  unfold opstopTaken
  rw [netPort_inc, popHead_fifo]
  have hnfl (t : State) : (popHead n t).nfl = t.nfl := part_of_seen (p := .nfl) (popHead_seen n t (by simp))
  have htim (t : State) : (popHead n t).tim = t.tim := part_of_seen (p := .tim) (popHead_seen n t (by simp))
  simp only [inc_keeps, hnfl, htim]
  split <;> exact ⟨rfl, rfl, rfl⟩

theorem execOpstopFrame_triggers {s : State} {n : Nat} {f : RxFrame} (hhead : headFrame s n = some f) (hserves : portServes s n = true)
    (hmode : s.crp.mode ≠ .standby) (hcheck : plpCheck s n f = .opstop) (hok : opstopOk s f = true) :
    exec (.opstopFrame n) s = .next (nfTellPeer 3 (nfTriggerWith 3 ((f.plp.drop 24).take 3) (opstopTaken n f s))) := by
  have hok' : opstopOk (if opstopTagTried s f.plp then perf 0x126 1 s else s) f = true := by
    split <;> exact hok
  show execOpstopFrame n s = _
  rw [execOpstopFrame, hhead]
  simp only [hserves, hmode, hcheck, hok', Bool.not_true, Bool.false_eq_true, if_false, if_true]
  rfl

end Sys2Proof.Machine
end
section
open Sys2Proof Sys2Proof.Machine Sys2Proof.Safety
/-- Settles O22: the frames at the head of a port that form jobs, that are answered, and that stop the machines. -/
theorem plpFramesComplete : Obligations.PlpFramesComplete := by
  refine ⟨fun s n f hhead hserves hmode hcheck htype hopen hturn hflow => ?_, fun s n f hhead hserves hmode hcheck htype hopen hturn hflow => ?_,
    fun s n f hhead hserves hmode hcheck htype hopen hturn hflow => ?_,
    fun s n f hhead hserves hmode hcheck htype hslot hgrade hobs hlast hcount hopen hturn hflow => ?_, fun s m a hobs hdue => ?_,
    fun s n f hhead hserves hmode hcheck => ?_, fun s n f hhead hserves hmode hcheck hok hlatch hrows => ?_⟩
  · exact completes_of (congrArg Host.Outcome.next (withHead_of_accept hhead hserves hmode hcheck htype hflow)) (formFrame hopen hturn)
  · exact completes_of (congrArg Host.Outcome.next (withHead_of_accept hhead hserves hmode hcheck htype hflow)) (formFrame hopen hturn)
  · exact completes_of (congrArg Host.Outcome.next (withHead_of_accept hhead hserves hmode hcheck htype hflow)) (formFrame hopen hturn)
  · obtain ⟨work, hwhole⟩ := obsPart_whole (n := n) hslot hgrade hobs hlast hcount
    obtain ⟨hmach, j, hjobs, hkind, hjflow, -⟩ := formParse_forms (work := work) (f := f) (s := s)
      (after := fun s => setMach (plpMachine f.plp) { mach s (plpMachine f.plp) with obs := none } s) hopen hturn fun _ => rfl
    obtain ⟨e, he⟩ := takeAccepted_mach n f s
    refine completes_of (congrArg Host.Outcome.next ((withHead_of_accept hhead hserves hmode hcheck htype hflow).trans hwhole)) ?_
    rw [mach_of_mach hmach, setMach_same, he]
    exact ⟨rfl, rfl, j, hjobs, hkind, hjflow⟩
  · have hexec : exec (.obsEpochTimeout m) s = .next (discardObs m (mach s m).entry.port s) := by
      show execObsEpochTimeout m s = _
      rw [execObsEpochTimeout]
      simp only [hobs, hdue, if_true]
    exact completes_of hexec (discardObs_mach hobs _)
  · have hexec : exec (.wrongGenFrame n) s = .next (takeAnswered n f 0x48 s) := by
      show execWrongGenFrame n s = _
      rw [execWrongGenFrame, hhead]
      simp only [hserves, hmode, hcheck, Bool.not_true, Bool.false_eq_true, if_false, if_true]
    exact completes_of hexec (takeAnswered_takes n f 0x48 s)
  · obtain ⟨hnfl, htim, hfifo⟩ := opstopTaken_keeps n f s
    rw [← hfifo]
    exact completes_of (execOpstopFrame_triggers hhead hserves hmode hcheck hok)
      (trigger_latches (by rw [hnfl]; exact hlatch) ((rowsNow_congr hnfl htim).trans hrows) 3 _ n)
end

section
/-! SUPPORT. A LAPSE job whose machine's grant an activation has cancelled (R233, R248). -/
namespace Sys2Proof.Machine

/-- Machine 0 holds grant 1, expired, which an activation of a lane graph has cancelled; its LAPSE job has come. -/
def cancelledLapse : State :=
  { State.reset with
    crp := { State.reset.crp with pd := [(10, .on)] }
    cht := { State.reset.cht with mach := [(0, { chtMachDef 0 with grantNo := 1, live := true, cancelled := true })] }
    dsp := { State.reset.dsp with jobs := [⟨0, .lapse, 0, 0, 0, false, none, none, none, 0, .lapse 1, none⟩] } }

theorem chartUp_cancelledLapse : chartUp cancelledLapse = true := by decide

theorem pick_cancelledLapse : pickJob (lapseDue cancelledLapse) 2 (fun _ => true) =
    some ⟨0, .lapse, 0, 0, 0, false, none, none, none, 0, .lapse 1, none⟩ := by decide

/-- The job ends, and no request is sent. -/
theorem lapse_cancelledLapse : ∃ t, exec .lapse cancelledLapse = .next t ∧ t.cht.reqs = [] := ⟨_, rfl, by decide⟩

end Sys2Proof.Machine
end
section
open Sys2Proof Sys2Proof.Machine Sys2Proof.Safety
/-- Refutes O27: a LAPSE job of a grant that an activation has cancelled sends no request (R248), though the machine's grant is live. -/
theorem not_halosComplete : ¬ Obligations.HalosComplete := by
  intro h
  obtain ⟨-, -, -, hlapse⟩ := h
  obtain ⟨t, hexec, hreqs⟩ := hlapse cancelledLapse _ 1 chartUp_cancelledLapse pick_cancelledLapse rfl rfl rfl rfl (by decide)
  obtain ⟨u, hu, hnone⟩ := lapse_cancelledLapse
  obtain rfl : t = u := Host.Outcome.next.inj (hexec.symm.trans hu)
  rw [hnone] at hreqs
  exact absurd (congrArg List.length hreqs) (by simp)
end

section
/-! SUPPORT. The acquisition queue, its pipelines, the peaks of a search, and rover snapshots (R92 to R100, R162). -/
namespace Sys2Proof.Machine
open Sys2Proof.Safety

/-! ### Peaks -/

/-- A fold that keeps the greater of two finds one that none exceeds. -/
theorem foldl_greatest {α : Type} (power : α → Nat) {f : Option α → α → Option α} {l : List α} {b : α} {r : Option α} (h : l.foldl f (some b) = r)
    (hf : ∀ b c, f (some b) c = some (if power b < power c then c else b)) :
    ∃ c, r = some c ∧ (c = b ∨ c ∈ l) ∧ power b ≤ power c ∧ ∀ d ∈ l, power d ≤ power c := by
  induction l generalizing b with
  | nil => exact ⟨b, h.symm, .inl rfl, le_rfl, by simp⟩
  | cons a l ih =>
    rw [List.foldl_cons, hf] at h
    obtain ⟨c, hc, hmem, hbest, hall⟩ := ih h
    have hboth : power b ≤ power c ∧ power a ≤ power c := by
      split at hbest <;> omega
    refine ⟨c, hc, ?_, hboth.1, fun d hd => ?_⟩
    · rcases hmem with h | h
      · split at h
        · exact .inr (h ▸ List.mem_cons_self)
        · exact .inl h
      · exact .inr (List.mem_cons_of_mem a h)
    · rcases List.mem_cons.1 hd with rfl | hd
      · exact hboth.2
      · exact hall d hd

/-- The power of a cell. -/
def cellAt (power : Nat → Nat → Nat) (c : Nat × Nat) : Nat := power c.1 c.2

theorem bestCell_some {power : Nat → Nat → Nat} {taken l : List (Nat × Nat)} {c : Nat × Nat} (h : bestCell power taken l = some c) :
    c ∈ l ∧ taken.any (cellNear c) = false ∧ ∀ d ∈ l, taken.any (cellNear d) = false → cellAt power d ≤ cellAt power c := by
  unfold bestCell at h
  have hfar (d : Nat × Nat) : d ∈ l.filter (fun c => !taken.any (cellNear c)) ↔ d ∈ l ∧ taken.any (cellNear d) = false := by
    rw [List.mem_filter, Bool.not_eq_true']
  generalize l.filter (fun c => !taken.any (cellNear c)) = far at h hfar
  cases far with
  | nil => cases h
  | cons b far =>
    rw [List.foldl_cons] at h
    obtain ⟨d, hd, hmem, hbest, hall⟩ := foldl_greatest (cellAt power) h fun _ _ => rfl
    obtain rfl : c = d := Option.some.inj hd
    have hin : c ∈ b :: far := List.mem_cons.2 hmem
    refine ⟨((hfar c).1 hin).1, ((hfar c).1 hin).2, fun e he hn => ?_⟩
    rcases List.mem_cons.1 ((hfar e).2 ⟨he, hn⟩) with rfl | hl
    · exact hbest
    · exact hall e hl

theorem bestCell_none {power : Nat → Nat → Nat} {taken l : List (Nat × Nat)} (h : bestCell power taken l = none) :
    ∀ c ∈ l, taken.any (cellNear c) = true := by
  unfold bestCell at h
  intro c hc
  by_contra hn
  have hfar : c ∈ l.filter (fun c => !taken.any (cellNear c)) := List.mem_filter.2 ⟨hc, by simpa using hn⟩
  cases hl : l.filter (fun c => !taken.any (cellNear c)) with
  | nil => rw [hl] at hfar; cases hfar
  | cons b far =>
    rw [hl, List.foldl_cons] at h
    obtain ⟨d, hd, -⟩ := foldl_greatest (cellAt power) h fun _ _ => rfl
    cases hd

/-- The peaks chosen so far: cells of the list, in descending order, none near an earlier one, none exceeded by a cell that is still open. -/
structure Chosen (power : Nat → Nat → Nat) (l taken : List (Nat × Nat)) : Prop where
  mem : ∀ c ∈ taken, c ∈ l
  descending : taken.Pairwise (fun c d => cellAt power d ≤ cellAt power c ∧ cellNear d c = false)
  greatest : ∀ c ∈ taken, ∀ d ∈ l, taken.any (cellNear d) = false → cellAt power d ≤ cellAt power c

theorem Chosen.append {power : Nat → Nat → Nat} {l taken : List (Nat × Nat)} {c : Nat × Nat} (h : Chosen power l taken)
    (hc : bestCell power taken l = some c) : Chosen power l (taken ++ [c]) := by
  obtain ⟨hmem, hfar, hbest⟩ := bestCell_some hc
  have hopen (d : Nat × Nat) (hd : (taken ++ [c]).any (cellNear d) = false) : taken.any (cellNear d) = false := by
    rw [List.any_append, Bool.or_eq_false_iff] at hd
    exact hd.1
  refine ⟨fun x hx => ?_, List.pairwise_append.2 ⟨h.descending, List.pairwise_singleton _ _, fun x hx y hy => ?_⟩, fun x hx d hd hn => ?_⟩
  · rcases List.mem_append.1 hx with hx | hx
    · exact h.mem x hx
    · exact List.mem_singleton.1 hx ▸ hmem
  · obtain rfl := List.mem_singleton.1 hy
    exact ⟨h.greatest x hx y hmem hfar, Bool.eq_false_iff.2 (List.any_eq_false.1 hfar x hx)⟩
  · rcases List.mem_append.1 hx with hx | hx
    · exact h.greatest x hx d hd (hopen d hn)
    · exact List.mem_singleton.1 hx ▸ hbest d hd (hopen d hn)

theorem bestCells_chosen {power : Nat → Nat → Nat} {l : List (Nat × Nat)} (n : Nat) {taken : List (Nat × Nat)} (h : Chosen power l taken) :
    Chosen power l (bestCells power l n taken) ∧ (bestCells power l n taken).length ≤ taken.length + n ∧
      ((bestCells power l n taken).length < taken.length + n → ∀ c ∈ l, (bestCells power l n taken).any (cellNear c) = true) := by
  induction n generalizing taken with
  | zero => exact ⟨h, le_rfl, fun hlt => absurd hlt (lt_irrefl _)⟩
  | succ n ih =>
    rw [bestCells]
    split
    next c hc =>
      obtain ⟨hchosen, hlen, hnear⟩ := ih (h.append hc)
      rw [List.length_append, List.length_singleton] at hlen hnear
      exact ⟨hchosen, by omega, fun hlt => hnear (by omega)⟩
    next hnone => exact ⟨h, by omega, fun _ => bestCell_none hnone⟩

/-! ### The queue and the pipelines -/

theorem enqueueSearch_joins {q : Search} {s : State} (hbad : searchBad q = false) (hroom : queued s < 256) :
    enqueueSearch q s = if q.sel / 128 % 2 = 0 then setAcq { s.acq with fifo0 := s.acq.fifo0 ++ [q] } s
      else setAcq { s.acq with fifo1 := s.acq.fifo1 ++ [q] } s := by
  simp [enqueueSearch, hbad, Nat.not_le.2 hroom]

/-- What a search that ends leaves of the queue and of the pipelines. -/
def sameQueue (a b : Acq) : Prop := b.pipe = a.pipe ∧ b.fifo0 = a.fifo0 ∧ b.fifo1 = a.fifo1

theorem endSearch_queue (q : Search) (status blocks : Nat) (noise : Option Nat) (peaks : List Peak) (s : State) :
    sameQueue s.acq (releaseDue (endSearch q status blocks noise peaks s)).acq := by
  have hgets (b : List Byte) (t : State) : sameQueue t.acq (snapGets q b t).acq := by
    unfold snapGets
    split <;> exact ⟨rfl, rfl, rfl⟩
  simpa [sameQueue, endSearch, releaseDue] using hgets _ _

theorem acqDownCheck_queue (s : State) : (acqDownCheck s).acq.pipe = s.acq.pipe ∧ (acqDownCheck s).acq.fifo0 = s.acq.fifo0 := by
  unfold acqDownCheck
  split
  next h =>
    rw [Bool.and_eq_true, List.isEmpty_iff] at h
    simp [setPd, acqLost, resetAcq, h.2]
  next => exact ⟨rfl, rfl⟩

/-- A search whose time has passed leaves the queue. -/
theorem execSearchStart_stale {s : State} {q : Search} (p : Nat) (h : s.acq.fifo0.find? (searchExpired s) = some q) :
    exec (.searchStart p) s = .next (releaseDue (endSearch q 6 0 none [] (setAcq { s.acq with fifo0 := s.acq.fifo0.eraseP (searchExpired s) } s))) := by
  show execSearchStart p s = _
  simp only [execSearchStart, dropExpired, h]

theorem any_ins {α : Type} [DecidableEq α] (t : Tab α) (k : Nat) (v : α) : (Tab.ins t k v).any (fun e => decide (e.1 = k) && decide (e.2 = v)) = true := by
  induction t with
  | nil => simp [Tab.ins]
  | cons e t ih =>
    rw [Tab.ins]
    split
    · simp
    split
    · simp
    · rw [List.any_cons, ih, Bool.or_true]

/-- The state in which a search that has run out tells its peaks: its pipeline is free, and its time is counted. -/
def pipeFreed (p : Nat) (q : Search) (s : State) : State :=
  perf 0x109 1 (perf 0x108 (2 * q.nbins * searchBlocks s q + 1) (setAcq { s.acq with pipe := Tab.del s.acq.pipe p } s))

theorem execSearchComplete_ends {s : State} {p : Nat} {q : Search} (hbridge : bridgeCut s = false)
    (hpipe : s.acq.pipe.find? (fun e => e.1 = p) = some (p, q)) :
    ∃ t, exec (.searchComplete p) s = .next t ∧ t.acq.pipe = Tab.del s.acq.pipe p ∧ t.acq.fifo0 = s.acq.fifo0 := by
  have hexec : ∃ u status n noise peaks, exec (.searchComplete p) s = .next (acqDownCheck (releaseDue (endSearch q status n noise peaks u))) ∧
      u.acq.pipe = Tab.del s.acq.pipe p ∧ u.acq.fifo0 = s.acq.fifo0 := by
    have hrun : exec (.searchComplete p) s = execSearchComplete p s := rfl
    rw [hrun, execSearchComplete, if_neg (by simp [hbridge]), hpipe]
    exact ⟨pipeFreed p q s, _, _, _, _, rfl, rfl, rfl⟩
  obtain ⟨u, status, n, noise, peaks, hnext, hpipe', h0⟩ := hexec
  obtain ⟨hp, hf⟩ := acqDownCheck_queue (releaseDue (endSearch q status n noise peaks u))
  obtain ⟨hep, hef, -⟩ := endSearch_queue q status n noise peaks u
  exact ⟨_, hnext, hp.trans (hep.trans hpipe'), hf.trans (hef.trans h0)⟩

/-! ### Rover snapshots -/

theorem takeAccepted_acq (n : Nat) (f : RxFrame) (s : State) : (takeAccepted n f s).acq = s.acq :=
  part_of_seen (p := .acq) (takeAccepted_seen n f s (by simp))

theorem countInherited_jobs (j : Job) (s : State) : (countInherited j s).dsp.jobs = s.dsp.jobs := by
  unfold countInherited
  split <;> rfl

theorem endSnap_snaps (x : Snap) (status : Nat) (s : State) : (endSnap x status s).acq.snaps = Tab.del s.acq.snaps x.handle := by
  show (sendAckGen x.machine x.gen 9 status x.seq x.snapId (incHalf Reg.ACQ_RSNAP_COUNT _ (setAcq _ s))).acq.snaps = _
  rw [show (sendAckGen x.machine x.gen 9 status x.seq x.snapId (incHalf Reg.ACQ_RSNAP_COUNT _ (setAcq _ s))).acq = _ from
    part_of_seen (p := .acq) (sendAckGen_seen _ _ _ _ _ _ _ (by simp))]
  rfl

/-- A frame whose flow is full is taken, counted and told. -/
theorem withHead_of_full {s : State} {n type : Nat} {f : RxFrame} {g : RxFrame → State → State} (hhead : headFrame s n = some f)
    (hserves : portServes s n = true) (hmode : s.crp.mode ≠ .standby) (hcheck : plpCheck s n f = .accept) (htype : plpType f.plp = type)
    (hflow : flowFull s (plpMachine f.plp) = true) :
    withHead n type g s = stickyCount Reg.DSP_STICKY 1 (Reg.DSP_CNT 3) (takeAccepted n f s) := by
  simp [withHead, hhead, hserves, hmode, hcheck, htype, hflow]

theorem rd_takeAccepted {n a : Nat} (h : among [netCnt n] a = false) (f : RxFrame) (s : State) : rd (takeAccepted n f s) a = rd s a :=
  rd_of_seen (takeAccepted_seen n f s (by simpa using h))

/-- The snapshot that a first fragment of several leaves under reassembly. -/
def snapBegun (f : RxFrame) (s : State) : Snap :=
  { snapFirst f s with
    got := [leAt f.plp 38 1], parts := [(leAt f.plp 40 4, (f.plp.drop 48).take (leAt f.plp 44 2))], seq := plpSeq f.plp }

theorem snapPart_first {s : State} {n : Nat} {f : RxFrame} (hrefused : Tab.get natDef s.acq.refused (plpMachine f.plp) ≠ leAt f.plp 24 4 + 1)
    (hempty : s.acq.snaps = []) (hfrags : 2 ≤ leAt f.plp 39 1) (hindex : leAt f.plp 38 1 < leAt f.plp 39 1) :
    snapPart n f s = putSnap (snapBegun f s) (takeAccepted n f (setAcq { s.acq with
      handles := s.acq.handles + 1, refused := Tab.put natDef s.acq.refused (plpMachine f.plp) 0 } s)) := by
  have hopen : snapOpen s (plpMachine f.plp) = none := by simp [snapOpen, hempty]
  have hmore : 1 < leAt f.plp 39 1 := hfrags
  simp only [snapPart, hempty, List.any_nil, hopen, Bool.false_eq_true, if_false, snapNew]
  have hnew : Tab.get natDef s.acq.refused (snapFirst f s).machine ≠ (snapFirst f s).snapId + 1 := hrefused
  rw [if_neg hnew, if_neg (by simp)]
  simp only [snapJoin, snapFirst, List.contains_nil, Nat.not_le.2 hindex, decide_false, Bool.or_self, Bool.false_eq_true, if_false, List.nil_append,
    List.length_singleton, hmore, true_or, if_true]
  rfl

end Sys2Proof.Machine
end
section
open Sys2Proof Sys2Proof.Machine Sys2Proof.Safety
/-- Settles O17: the acquisition queue, its pipelines, the peaks of a search, and the reassembly of rover snapshots. -/
theorem searchesAndSnapshotsComplete : Obligations.SearchesAndSnapshotsComplete := by
  refine ⟨fun s w => ?_, fun s j c hj hc hop hbad hroom hprio => ?_, fun s p q l hfresh hup hdown hp hon hhot hidle hq => ?_,
    fun s p q hq => ?_, fun s p q hbridge hpipe => ?_, fun power l => ?_,
    fun s n f hhead hserves hmode hcheck htype hflow hrefused hempty hfrags hindex => ?_, fun s n f hhead hserves hmode hcheck htype hflow => ?_,
    fun s m x hopen hdue => ?_⟩
  · intro q hup hbad hroom hprio
    have hexec : exec (.acqJob w) s = .next (setAcq { s.acq with fifo0 := s.acq.fifo0 ++ [q] } s) := by
      refine congrArg Host.Outcome.next ?_
      rw [if_pos hup, enqueueSearch_joins hbad hroom, if_pos hprio]
    exact completes_of hexec ⟨rfl, rfl⟩
  · have hacq : (endJob j.id (countInherited j s)).acq = s.acq := by simp
    have hroom' : queued (endJob j.id (countInherited j s)) < 256 := by rwa [queued, hacq]
    have hpick : pickJob s 6 (fun _ => true) = some j := hj
    refine completes_of (congrArg Host.Outcome.next ((withJob_of_pick hpick (by simp [hc, hop])).trans
      ((enqueueSearch_joins hbad hroom').trans (if_neg (by omega))))) ⟨?_, ?_⟩
    · rw [hacq]
      rfl
    · show (endJob j.id (countInherited j s)).dsp.jobs = _
      rw [endJob_jobs, countInherited_jobs]
  · have hexec : exec (.searchStart p) s = .next (setAcq { s.acq with fifo0 := l, pipe := Tab.ins s.acq.pipe p q } s) := by
      show execSearchStart p s = _
      simp only [execSearchStart, hfresh, hup, hdown, Nat.not_le.2 hp, hon, hhot, hidle, hq, decide_false, Bool.not_true, Bool.or_self,
        Bool.false_eq_true, if_false]
    exact completes_of hexec ⟨rfl, any_ins _ _ _⟩
  · obtain ⟨hpipe, h0, -⟩ := endSearch_queue q 6 0 none [] (setAcq { s.acq with fifo0 := s.acq.fifo0.eraseP (searchExpired s) } s)
    exact completes_of (execSearchStart_stale p hq) ⟨h0, hpipe⟩
  · obtain ⟨t, hexec, ht⟩ := execSearchComplete_ends hbridge hpipe
    exact completes_of hexec ht
  · obtain ⟨hchosen, hlen, hnear⟩ := bestCells_chosen (power := power) (l := l) 4 (taken := []) ⟨by simp, List.Pairwise.nil, by simp⟩
    exact ⟨hlen, hchosen.descending, hchosen.mem, hnear⟩
  · refine completes_of (congrArg Host.Outcome.next ((withHead_of_accept hhead hserves hmode hcheck htype hflow).trans
      (snapPart_first hrefused hempty hfrags hindex))) ⟨snapBegun f s, ?_, rfl, rfl, rfl, rfl, rfl⟩
    show Tab.ins (takeAccepted n f _).acq.snaps _ _ = _
    rw [takeAccepted_acq]
    show Tab.ins s.acq.snaps _ _ = _
    rw [hempty]
    rfl
  · refine completes_of (congrArg Host.Outcome.next (withHead_of_full hhead hserves hmode hcheck htype hflow)) ⟨?_, ?_, ?_, ?_⟩
    · exact takeAccepted_acq n f s
    · exact sticky_sets _ (by decide) _
    · have hcnt : among [netCnt n] (Reg.DSP_CNT 3) = false := by
        simp only [among_cons, among_nil, Bool.or_false, netCnt, words, List.any_eq_false]
        intro i _ h
        have h := of_decide_eq_true h
        simp only [Reg.DSP_CNT, Reg.NET_CNT] at h
        omega
      rw [stickyCount, rd_inc_same]
      exact congrArg (satAdd · 1) (rd_takeAccepted hcnt f s)
    · obtain ⟨e, he⟩ := takeAccepted_mach n f s
      rw [mach_of_mach (s := takeAccepted n f s) (by simp [stickyCount]), he]
  · refine completes_of (congrArg Host.Outcome.next ?_) (endSnap_snaps x 6 s)
    rw [hopen]
    exact if_pos hdue
end

section
/-! SUPPORT. The ledger's part of the state under the operations of the Chart: what each leaves of it (R214, R240). -/
namespace Sys2Proof.Machine
open Sys2Proof.Safety

@[simp] theorem mirror_cht (r : MirrorRec) (s : State) : (mirror r s).cht = s.cht := part_of_seen (p := .cht) (mirror_seen r s (by simp))
@[simp] theorem putIvals_cht (l : List Ival) (s : State) : (putIvals l s).cht = { s.cht with ivals := l } := by
  unfold putIvals
  dsimp only
  split
  · rfl
  · rw [mirror_cht]
@[simp] theorem putChtMach_cht (m : Nat) (v : ChtMach) (s : State) :
    (putChtMach m v s).cht = { s.cht with mach := Tab.put chtMachDef s.cht.mach m v } := mirror_cht _ _
@[simp] theorem fillCheck_cht (s : State) : (fillCheck s).cht = { s.cht with above := shardsAbove s } := by
  simp [fillCheck]

theorem chtMach_of_cht {s t : State} (h : t.cht = s.cht) (m : Nat) : chtMach t m = chtMach s m := by rw [chtMach, chtMach, h]
theorem chtMach_putChtMach_same (m : Nat) (v : ChtMach) (s : State) : chtMach (putChtMach m v s) m = v := by
  rw [chtMach, putChtMach_cht]
  exact Tab.get_put_same _ _ _ _
theorem chtMach_putChtMach_ne {m n : Nat} (h : n ≠ m) (v : ChtMach) (s : State) : chtMach (putChtMach m v s) n = chtMach s n := by
  rw [chtMach, putChtMach_cht]
  exact Tab.get_put_ne _ _ _ h

/-- The ledger without the words of its machines. -/
def machless (c : Cht) : Cht := { c with mach := [] }

/-- What no step of a fold changes, the fold leaves. -/
theorem proj_foldl {α β : Type} (g : State → β) {f : State → α → State} (hf : ∀ s a, g (f s a) = g s) (l : List α) (s : State) :
    g (l.foldl f s) = g s := by
  induction l generalizing s with
  | nil => rfl
  | cons a l ih => exact (ih _).trans (hf s a)

theorem lapsedCheck_cht (s : State) : machless (lapsedCheck s).cht = machless s.cht := by
  refine proj_foldl (fun t => machless t.cht) (fun t e => ?_) _ s
  dsimp only
  split
  · rw [putChtMach_cht]
    rfl
  · rfl

theorem commitIvals_cht (l : List Ival) (s : State) :
    machless (commitIvals l s).cht = { machless s.cht with ivals := l, above := shardsAbove (putIvals l s) } := by
  rw [commitIvals, lapsedCheck_cht, fillCheck_cht, putIvals_cht]
  rfl

theorem of_machless {c d : Cht} (h : machless c = machless d) : c.ivals = d.ivals ∧ c.reqs = d.reqs ∧ c.ue = d.ue := by
  have hivals := congrArg Cht.ivals h
  have hreqs := congrArg Cht.reqs h
  have hue := congrArg Cht.ue h
  exact ⟨hivals, hreqs, hue⟩

/-- A ledger with new contents. -/
structure Committed (l : List Ival) (c d : Cht) : Prop where
  ivals : d.ivals = l
  reqs : d.reqs = c.reqs
  ue : d.ue = c.ue
  tickStop : d.tickStop = c.tickStop
  active : d.active = c.active

theorem committed_of_machless {l : List Ival} {a : BitVec 32} {c d : Cht} (h : machless d = { machless c with ivals := l, above := a }) :
    Committed l c d := by
  have hivals := congrArg Cht.ivals h
  have hreqs := congrArg Cht.reqs h
  have hue := congrArg Cht.ue h
  have htick := congrArg Cht.tickStop h
  have hactive := congrArg Cht.active h
  exact ⟨hivals, hreqs, hue, htick, hactive⟩

theorem commitIvals_committed (l : List Ival) (s : State) : Committed l s.cht (commitIvals l s).cht := committed_of_machless (commitIvals_cht l s)

end Sys2Proof.Machine
end

section
/-! SUPPORT. The lane graph, the origin and the ticks (R205 to R219). -/
namespace Sys2Proof.Machine
open Sys2Proof.Safety

theorem activateLedger_cht {s : State} (h : s.crp.mode ≠ .standby) : machless (activateLedger s).cht = { machless s.cht with ivals := [] } := by
  rw [activateLedger, if_neg h]
  refine (proj_foldl (fun t => machless t.cht) (fun t m => ?_) _ _).trans ?_
  · rw [putChtMach_cht]
    rfl
  · rw [putIvals_cht]
    rfl

theorem handoverAt_cht (s : State) : (handoverAt s).cht = s.cht := part_of_seen (p := .cht) (handoverAt_seen s (by simp))

theorem rd_mirror (r : MirrorRec) (s : State) (a : Nat) : rd (mirror r s) a = rd s a :=
  rd_of_bank (part_of_seen (p := .bank) (mirror_seen r s (by simp))) a

theorem mismatchCheck_of_active {old s : State} (h : s.crp.mode ≠ .standby) : mismatchCheck old s = s := if_pos h

theorem wr_cht (a : Nat) (w : Word) (s : State) : (wr a w s).cht = s.cht := rfl
theorem inc_cht (a k : Nat) (s : State) : (inc a k s).cht = s.cht := rfl

/-- The staged graph of a device, made the active one. -/
def graphTaken (g : Graph) (s : State) : State :=
  fillCheck (wr Reg.CHT_GRAPH_ID (BitVec.ofNat 32 g.id) (wr Reg.CHT_GRAPH_NSEG (BitVec.ofNat 32 g.segs.length)
    (setCht { s.cht with active := some g, staging := s.cht.active, stage := 0, activateWaits := false, activatePeer := false } s)))

theorem rd_setCht (c : Cht) (s : State) (a : Nat) : rd (setCht c s) a = rd s a := rfl
theorem rd_fillCheck (s : State) (a : Nat) : rd (fillCheck s) a = rd s a := rd_of_bank (part_of_seen (p := .bank) (fillCheck_seen s (by simp))) a

theorem graphTaken_crp (g : Graph) (s : State) : (graphTaken g s).crp = s.crp := part_of_seen (p := .crp) (by simp [graphTaken])

theorem graphTaken_cht (g : Graph) (s : State) : ∃ above, (graphTaken g s).cht = { s.cht with
    active := some g, staging := s.cht.active, stage := 0, activateWaits := false, activatePeer := false, above := above } := by
  rw [graphTaken, fillCheck_cht, wr_cht, wr_cht, setCht_cht]
  exact ⟨_, rfl⟩

theorem rd_graphTaken (g : Graph) (s : State) : rd (graphTaken g s) Reg.CHT_GRAPH_ID = BitVec.ofNat 32 g.id := by
  rw [graphTaken, rd_fillCheck, rd_wr_same]

/-- R210: the staged graph becomes active, and the ledger is empty. -/
theorem doActivate_active {s : State} {g : Graph} (hmode : s.crp.mode ≠ .standby) (hstaging : s.cht.staging = some g) :
    (doActivate s).cht.active = some g ∧ (doActivate s).cht.ivals = [] ∧ (doActivate s).cht.activateWaits = false ∧
      rd (doActivate s) Reg.CHT_GRAPH_ID = BitVec.ofNat 32 g.id := by
  have htaken : ∃ u : State, doActivate s = mismatchCheck s (graphTaken g u) ∧ u.cht = (activateLedger s).cht ∧ u.crp = s.crp := by
    have hcrp : (activateLedger s).crp = s.crp := part_of_seen (p := .crp) (activateLedger_seen s (by simp))
    rw [doActivate, hstaging]
    dsimp only
    split
    · exact ⟨_, rfl, rfl, hcrp⟩
    · exact ⟨_, rfl, rfl, hcrp⟩
  obtain ⟨u, hdo, hcht, hcrp⟩ := htaken
  have hivals : u.cht.ivals = [] := (congrArg Cht.ivals hcht).trans (congrArg Cht.ivals (activateLedger_cht hmode))
  obtain ⟨above, hgraph⟩ := graphTaken_cht g u
  rw [hdo, mismatchCheck_of_active (by rwa [graphTaken_crp, hcrp]), rd_graphTaken, hgraph]
  exact ⟨rfl, hivals, rfl, rfl⟩

theorem rebasedTick_cht (s : State) : (rebasedTick s).cht =
    { s.cht with tickStop := s.cht.tickStop && decide (0xFFFF0000 ≤ nowTick s), nearTold := (rebasedTick s).cht.nearTold } := rfl

/-- The ledger at a rebase. -/
def rebasedLedger (d now : Nat) (c : Cht) : Cht :=
  { c with ivals := c.ivals.filterMap (rebaseIval d), originGen := (c.originGen + 1) % 256, rebase := none, rebaseEnd := some (now + 60 * tUs) }

theorem doRebase_cht (d : Nat) (s : State) :
    ∃ above stop told, (doRebase d s).cht = { rebasedLedger d s.tim.now s.cht with above := above, tickStop := stop, nearTold := told } := by
  rw [doRebase]
  dsimp only
  rw [mirror_cht, inc_cht, fillCheck_cht, rebasedTick_cht, setCht_cht]
  exact ⟨_, _, _, rfl⟩

/-- A boundary at which nothing waits for requests in flight. -/
theorem grantBoundary_idle {s : State} (hswap : s.crp.swapWait = 0) (hreqs : s.cht.reqs = []) :
    grantBoundary s =
      (let s := match s.cht.rebase with | some d => if chartUp s then doRebase d s else s | none => s
       let s := if chartUp s && s.cht.activateWaits then doActivate s else s
       let s := handoverAt s
       setCht { s.cht with period := periodOf s } s) := by
  have hdrain : drainRequests s.cht.reqs.length s = s := by rw [hreqs]; rfl
  rw [grantBoundary]
  simp only [hswap, ne_eq, not_true_eq_false, if_false, hdrain, ite_self] <;> rfl

/-- The state with the period that a boundary records. -/
def periodTaken (s : State) : State := setCht { (handoverAt s).cht with period := periodOf (handoverAt s) } (handoverAt s)

theorem periodTaken_cht (s : State) : ∃ k, (periodTaken s).cht = { s.cht with period := k } :=
  ⟨periodOf (handoverAt s), by rw [periodTaken, setCht_cht, handoverAt_cht]⟩

theorem rd_periodTaken (s : State) (a : Nat) : rd (periodTaken s) a = rd s a := by
  rw [periodTaken, rd_setCht]
  exact rd_of_bank (part_of_seen (p := .bank) (handoverAt_seen s (by simp))) a

theorem grantBoundary_activates {s : State} (hswap : s.crp.swapWait = 0) (hreqs : s.cht.reqs = []) (hup : chartUp s = true)
    (hrebase : s.cht.rebase = none) (hwaits : s.cht.activateWaits = true) : grantBoundary s = periodTaken (doActivate s) := by
  rw [grantBoundary_idle hswap hreqs]
  simp only [hrebase, hup, hwaits, Bool.and_self, if_true]
  rfl

theorem grantBoundary_rebases {s : State} {d : Nat} (hswap : s.crp.swapWait = 0) (hreqs : s.cht.reqs = []) (hup : chartUp s = true)
    (hrebase : s.cht.rebase = some d) (hwaits : s.cht.activateWaits = false) : grantBoundary s = periodTaken (doRebase d s) := by
  have hkept : (doRebase d s).cht.activateWaits = s.cht.activateWaits := by
    obtain ⟨above, stop, told, h⟩ := doRebase_cht d s
    rw [h]
    rfl
  rw [grantBoundary_idle hswap hreqs]
  simp only [hrebase, hup, hkept, hwaits, Bool.and_false, if_true, if_false, Bool.false_eq_true]
  rfl

end Sys2Proof.Machine
end
section
open Sys2Proof Sys2Proof.Machine Sys2Proof.Safety
/-- Settles O25: a graph is loaded, verified and activated; the origin, its rebase, and the ticks. -/
theorem graphsAndTicksComplete : Obligations.GraphsAndTicksComplete := by
  refine ⟨fun s hup hstage hwaits => ?_, fun s image hup hstage hheld hok => ?_, fun s image hup hstage hheld hbad => ?_,
    fun s g hup hstage hwaits hstaging hset => ?_, fun s g hperiod hswap hup hrebase hmode hwaits hstaging hreqs => ?_, fun s w hup hmode hempty => ?_,
    fun s w hup hmode hheld => ?_, fun s hup hmode hle hnone => ?_, fun s d hperiod hswap hup hrebase hwaits hreqs => ?_, fun s e hend hle => ?_,
    fun s hup htold hnear => ?_, fun s hup hwrap => ?_, fun s hup => ?_, fun s hup => ?_⟩
  · refine completes_of (congrArg Host.Outcome.next ((if_neg (by simp [hup])).trans (if_neg (by simp [hstage, hwaits])))) ?_
    split <;> exact ⟨rfl, rfl, rfl, rfl, rfl, rfl⟩
  · exact completes_of (congrArg Host.Outcome.next ((if_neg (by simp [hup, hstage, hheld])).trans (if_pos hok))) ⟨rfl, rfl, rfl⟩
  · exact completes_of (congrArg Host.Outcome.next ((if_neg (by simp [hup, hstage, hheld])).trans (if_neg hbad)))
      ⟨rfl, rfl, rfl, sticky_sets _ (by decide) _⟩
  · have hexec : exec (.graphActivate) s = .next (mirror (.graph g.id) (setCht { s.cht with activateWaits := true } s)) := by
      show execGraphActivate s = _
      simp only [execGraphActivate, hup, hstage, hwaits, hset, hstaging, Bool.not_true, Bool.false_eq_true, if_false, OfNat.ofNat_ne_one,
        Bool.true_or, Bool.or_false, ne_eq, not_true_eq_false, decide_false]
    refine completes_of hexec ?_
    rw [mirror_cht]
    exact ⟨rfl, rfl⟩
  · refine completes_of (congrArg Host.Outcome.next ((if_neg hperiod).trans (grantBoundary_activates hswap hreqs hup hrebase hwaits))) ?_
    obtain ⟨hactive, hivals, hdone, hid⟩ := doActivate_active hmode hstaging
    obtain ⟨k, hk⟩ := periodTaken_cht (doActivate s)
    rw [hk]
    refine ⟨hactive, hivals, hdone, ?_⟩
    rw [rd_periodTaken, hid]
  · refine completes_of (congrArg Host.Outcome.next ((if_neg (by simp [hup])).trans ((if_neg hmode).trans (if_neg (by simp [hempty]))))) ⟨?_, ?_⟩
    · rw [rd_mirror]
      exact rd_wr_same _ _ _
    · rw [rd_mirror]
      exact (rd_wr_ne _ _ (by decide)).trans (rd_wr_same _ _ _)
  · exact completes_of (congrArg Host.Outcome.next ((if_neg (by simp [hup])).trans ((if_neg hmode).trans (if_pos hheld))))
      ⟨rfl, sticky_sets _ (by decide) _⟩
  · exact completes_of (congrArg Host.Outcome.next ((if_neg (by simp [hup])).trans ((if_neg hmode).trans
      (if_neg (by simp [hnone, hle]))))) ⟨rfl, rfl⟩
  · refine completes_of (congrArg Host.Outcome.next ((if_neg hperiod).trans (grantBoundary_rebases hswap hreqs hup hrebase hwaits))) ?_
    obtain ⟨k, hk⟩ := periodTaken_cht (doRebase d s)
    obtain ⟨above, stop, told, h⟩ := doRebase_cht d s
    rw [hk, h]
    exact ⟨rfl, rfl, rfl, rfl⟩
  · have hexec : exec .rebaseWindowEnd s = .next (setCht { s.cht with rebaseEnd := none } s) := by
      show execRebaseWindowEnd s = _
      simp only [execRebaseWindowEnd, hend, hle, if_true]
    exact completes_of hexec rfl
  · refine completes_of (congrArg Host.Outcome.next ((if_pos hup).trans (if_pos ?_))) ⟨rfl, sticky_sets _ (by decide) _⟩
    show (!(s.cht.nearTold && _) && decide (0xF0000000 ≤ nowTick s)) = true
    simp [htold, hnear]
  · exact completes_of (congrArg Host.Outcome.next ((if_pos hup).trans (if_pos hwrap))) rfl
  · exact completes_of (congrArg Host.Outcome.next (if_pos hup)) (commitIvals_committed _ s).ivals
  · exact completes_of (congrArg Host.Outcome.next (if_pos hup)) ⟨rd_wr_same _ _ _, rfl⟩
end

section
/-! SUPPORT. Requests of the ledger: judged, committed, answered (R220 to R223, R230). -/
namespace Sys2Proof.Machine
open Sys2Proof.Safety

/-! ### What a request sees -/

theorem judge_congr {s t : State} (hcht : t.cht = s.cht) (hgrade : t.grade = s.grade) (htim : t.tim = s.tim)
    (horigin : originMs t = originMs s) (q : Request) : judge t q = judge s q := by
  have hnow : nowTick t = nowTick s := by rw [nowTick, nowTick, htim, horigin]
  have hgrades : gradeMachines t = gradeMachines s := by rw [gradeMachines, gradeMachines, hgrade]
  simp only [judge, hcht, hnow, hgrades]

theorem judge_countInherited (j : Job) (s : State) (q : Request) : judge (countInherited j s) q = judge s q := by
  refine judge_congr (by simp) (by simp) (by simp) ?_ q
  rw [originMs, originMs, rd64, rd64, rd_countInherited (by decide), rd_countInherited (by decide)]

/-- The words that no mirror record changes. -/
def unsent (p : Pai) : Pai := { p with sentRecs := [], nextRec := 0 }

theorem unsent_mirror (r : MirrorRec) (s : State) : unsent (mirror r s).pai = unsent s.pai := by
  unfold mirror
  split <;> rfl

theorem putChtMach_pai (m : Nat) (v : ChtMach) (s : State) : unsent (putChtMach m v s).pai = unsent s.pai := unsent_mirror _ _

theorem commitIvals_pai (l : List Ival) (s : State) : unsent (commitIvals l s).pai = unsent s.pai := by
  have hput : unsent (putIvals l s).pai = unsent s.pai := by
    unfold putIvals
    dsimp only
    split
    · rfl
    · exact unsent_mirror _ _
  have hfill (t : State) : (fillCheck t).pai = t.pai := part_of_seen (p := .pai) (fillCheck_seen t (by simp))
  have hlapsed (t : State) : unsent (lapsedCheck t).pai = unsent t.pai := by
    refine proj_foldl (fun t => unsent t.pai) (fun u e => ?_) _ t
    dsimp only
    split
    · exact putChtMach_pai _ _ _
    · rfl
  rw [commitIvals, hlapsed, hfill, hput]

/-- Every part of the state that a stop cause is read from stands. -/
structure StopKept (s t : State) : Prop where
  nfl : t.nfl = s.nfl
  tim : t.tim = s.tim
  crp : t.crp = s.crp
  mach : t.mach = s.mach
  pai : unsent t.pai = unsent s.pai
  ctrl : rd t Reg.CHT_CTRL = rd s Reg.CHT_CTRL
  cht : t.cht.ue = s.cht.ue ∧ t.cht.tickStop = s.cht.tickStop ∧ t.cht.active = s.cht.active

theorem timUnc_isNone {s t : State} (h : t.tim = s.tim) : (timUnc t).isNone = (timUnc s).isNone := by
  have hown : (ownUnc t).isNone = (ownUnc s).isNone := by
    unfold ownUnc
    rw [h]
    cases s.tim.state <;> cases s.tim.tLoss <;> simp
  unfold timUnc
  rw [h]
  cases s.tim.mirror with
  | some w => rfl
  | none => exact hown

theorem portMTime_isNone {s t : State} (h : t.tim = s.tim) (n : Nat) : (portMTime t n).isNone = (portMTime s n).isNone := by
  have hunc (u : State) : (portMTime u n).isNone = (timUnc u).isNone := by
    unfold portMTime
    cases timUnc u <;> rfl
  rw [hunc, hunc, timUnc_isNone h]

theorem stopCause_of_kept {s t : State} (h : StopKept s t) (m : Nat) (at_ : Int) : stopCause t m at_ = stopCause s m at_ := by
  obtain ⟨hnfl, htim, hcrp, hmach, hpai, hctrl, hue, htick, hactive⟩ := h
  have hpair : t.pai.pair = s.pai.pair := by have h := congrArg Pai.pair hpai; exact h
  have hact : t.pai.active = s.pai.active := by have h := congrArg Pai.active hpai; exact h
  have hushed : t.pai.hushed = s.pai.hushed := by have h := congrArg Pai.hushed hpai; exact h
  have hhand : t.pai.handover = s.pai.handover := by have h := congrArg Pai.handover hpai; exact h
  have htact : t.pai.tAct = s.pai.tAct := by have h := congrArg Pai.tAct hpai; exact h
  have hheld : nfHeld t m = nfHeld s m := by rw [nfHeld, nfHeld, hnfl]
  have hrel : releaseInstant t m = releaseInstant s m := by rw [releaseInstant, releaseInstant, hnfl]
  have hunit : grantUnit t = grantUnit s := by
    simp only [grantUnit, isActive, plpStopped, handingOver, hpair, hact, hushed, hhand, hcrp]
  have hflag : flag t Reg.CHT_CTRL 31 = flag s Reg.CHT_CTRL 31 := by rw [flag, flag, hctrl]
  rw [stopCause, stopCause, mach_of_mach hmach, portMTime_isNone htim, hflag, hheld, hrel, hunit, hpair, htact, hcrp, hue, htick, hactive]

/-! ### What a decision leaves -/

/-- The state in which a request that passed is committed. -/
def reqTaken (q : Request) (rest : List Request) (s : State) : State := latencySeen q (setCht { s.cht with reqs := rest } s)

theorem latencySeen_cht (q : Request) (s : State) : (latencySeen q s).cht = s.cht := part_of_seen (p := .cht) (latencySeen_seen q s (by simp))

theorem reqTaken_cht (q : Request) (rest : List Request) (s : State) : (reqTaken q rest s).cht = { s.cht with reqs := rest } := by
  rw [reqTaken, latencySeen_cht, setCht_cht]

/-- The words of a machine that an answer may change are those of its reason. -/
theorem setReason_cht (m code : Nat) (s : State) : machless (setReason m code s).cht = machless s.cht := rfl

theorem chtMach_setReason (m code : Nat) (s : State) : chtMach (setReason m code s) m = { chtMach s m with reason := code } := setChtMach_same _ _ _

theorem endSnapJob_cht (j : Option Job) (code : Nat) (s : State) : (endSnapJob j code s).cht = s.cht := part_of_seen (p := .cht) (by simp)

theorem endJob_cht (id : Nat) (s : State) : (endJob id s).cht = s.cht := part_of_seen (p := .cht) (endJob_seen id s (by simp))

theorem completeOpt_cht (c : Option Cmd) (code : Nat) (detail : List Byte) (s : State) : (completeOpt c code detail s).cht = s.cht :=
  part_of_seen (p := .cht) (completeOpt_seen c code detail s (by simp))

theorem answerRequest_cht (q : Request) (code : Nat) (f : Option ItemFail) (s : State) : machless (answerRequest q code f s).cht = machless s.cht := by
  unfold answerRequest
  dsimp only
  rw [endJob_cht]
  split
  · rw [completeOpt_cht]
  · split
    · rfl
    · rfl
  · rfl
  · rw [endSnapJob_cht]
    rfl

theorem decide1_refused {s : State} {q : Request} {l : List Request} (hreqs : s.cht.reqs = q :: l) (hbad : (judge s q).1 ≠ 0) :
    (decide1 s).cht.ivals = s.cht.ivals ∧ (decide1 s).cht.reqs = l := by
  have hcht : machless (decide1 s).cht = machless { s.cht with reqs := l } := by
    rw [decide1, hreqs]
    dsimp only
    rw [answerRequest_cht]
    split
    next h => exact absurd h hbad
    next => exact congrArg machless (reqTaken_cht q l s)
    next => exact congrArg machless (reqTaken_cht q l s)
    next => exact congrArg machless (reqTaken_cht q l s)
  obtain ⟨hivals, hrest, -⟩ := of_machless hcht
  exact ⟨hivals, hrest⟩

/-- A request that passes is committed, and answered. -/
theorem decide1_passed {s : State} {q : Request} {l : List Request} {v : List Ival} (hreqs : s.cht.reqs = q :: l) (hok : judge s q = (0, none, v)) :
    decide1 s = answerRequest q 0 none (commitRequest q v (inc (Reg.CHT_CNT 0) 1 (reqTaken q l s))) := by
  rw [decide1, hreqs]
  simp only [hok]
  rfl

theorem setNfl_cht (n : Nfl) (s : State) : (setNfl n s).cht = s.cht := rfl

theorem answerRequest_kept (q : Request) (code : Nat) (f : Option ItemFail) {s : State} {rest : List Request} {v : List Ival}
    (hivals : s.cht.ivals = v) (hreqs : s.cht.reqs = rest) :
    (answerRequest q code f s).cht.ivals = v ∧ (answerRequest q code f s).cht.reqs = rest := by
  obtain ⟨hivals', hreqs', -⟩ := of_machless (answerRequest_cht q code f s)
  exact ⟨hivals'.trans hivals, hreqs'.trans hreqs⟩

theorem countInherited_crp (j : Job) (s : State) : (countInherited j s).crp = s.crp := part_of_seen (p := .crp) (countInherited_seen j s (by simp))
theorem countInherited_cht (j : Job) (s : State) : (countInherited j s).cht = s.cht := part_of_seen (p := .cht) (countInherited_seen j s (by simp))
theorem countInherited_tim (j : Job) (s : State) : (countInherited j s).tim = s.tim := part_of_seen (p := .tim) (countInherited_seen j s (by simp))
theorem countInherited_pai (j : Job) (s : State) : (countInherited j s).pai = s.pai := part_of_seen (p := .pai) (countInherited_seen j s (by simp))
theorem inc_dsp (a k : Nat) (s : State) : (inc a k s).dsp = s.dsp := rfl
theorem updJob_cht (id : Nat) (f : Job → Job) (s : State) : (updJob id f s).cht = s.cht := rfl
theorem updJob_tim (id : Nat) (f : Job → Job) (s : State) : (updJob id f s).tim = s.tim := rfl

theorem sendRequest_cht (items : List Item) (purpose : ReqFor) (job : Nat) (s : State) : (sendRequest items purpose job s).cht =
    { s.cht with reqs := s.cht.reqs ++ [⟨s.cht.nextSeq, items, purpose, s.tim.now, job⟩], nextSeq := (s.cht.nextSeq + 1) % 2 ^ 32 } := rfl

/-- What a command of a standby that would change the ledger leaves: its completion, its count and its job's end. -/
theorem standbyLedger_refused (j : Job) {s : State}
    (hcode : standbyCode (judge s ⟨0, decodeItems 64 (cmdBody j), .host, s.tim.now, j.id⟩).1 = 0x70) :
    ∃ d, standbyLedger j s = endJob j.id (completeOpt j.cmd 0x70 d (paiCount 7 1 s)) := by
  rw [standbyLedger]
  simp only [hcode, if_true]
  exact ⟨_, rfl⟩

/-! ### Grants -/

theorem inc_pai (a k : Nat) (s : State) : (inc a k s).pai = s.pai := rfl

/-- Where a halo's request is decided, its stop causes are those of its decision's start. -/
theorem stopKept_commit (q : Request) (rest : List Request) (v : List Ival) (s : State) :
    StopKept s (commitIvals v (inc (Reg.CHT_CNT 0) 1 (reqTaken q rest s))) := by
  obtain ⟨-, -, hue, htick, hactive⟩ := commitIvals_committed v (inc (Reg.CHT_CNT 0) 1 (reqTaken q rest s))
  rw [inc_cht, reqTaken_cht] at hue htick hactive
  refine ⟨part_of_seen (p := .nfl) ?_, part_of_seen (p := .tim) ?_, part_of_seen (p := .crp) ?_, part_of_seen (p := .mach) ?_, ?_,
    rd_of_seen ?_, hue, htick, hactive⟩
  · simp [reqTaken]
  · simp [reqTaken]
  · simp [reqTaken]
  · simp [reqTaken]
  · rw [commitIvals_pai, inc_pai]
    exact congrArg unsent (part_of_seen (p := .pai) (by simp [reqTaken]))
  · simp [reqTaken, show Reg.CHT_CNT 0 ≠ Reg.CHT_CTRL by decide, show Reg.CHT_CTRL ≠ Reg.CHT_LAT_MAX by decide]

/-- The words of machine `m` once a grant has its number. -/
def granted (p : GrantPlan) (x : ChtMach) : ChtMach :=
  { x with reason := 0, grantNo := (x.grantNo + 1) % 2 ^ 32, epoch := some p.epoch, expiry := p.expiry, tStop := p.tStop, span := p.span, live := true,
           cancelled := false, lapsed := false }

theorem grantLost_cht (m code : Nat) (s : State) :
    machless (grantLost m code s).cht = machless s.cht ∧ chtMach (grantLost m code s) m = { chtMach s m with reason := code } :=
  ⟨rfl, chtMach_setReason m code s⟩

theorem keyGone_cht (n : Nat) (s : State) : (keyGone n s).cht = s.cht := part_of_seen (p := .cht) (keyGone_seen n s (by simp))

/-- The state in which a grant has its number. -/
def numbered (m : Nat) (p : GrantPlan) (s : State) : State :=
  perf 0x146 1 (inc (Reg.CHT_CNT 4) 1 (putChtMach m (granted p (chtMach s m)) s))

theorem numbered_cht (m : Nat) (p : GrantPlan) (s : State) : (numbered m p s).cht = (putChtMach m (granted p (chtMach s m)) s).cht := rfl

theorem numbered_less (m : Nat) (p : GrantPlan) (s : State) : machless (numbered m p s).cht = machless s.cht := by
  rw [numbered_cht, putChtMach_cht]
  rfl

theorem numbered_mach (m : Nat) (p : GrantPlan) (s : State) : chtMach (numbered m p s) m = granted p (chtMach s m) := by
  rw [chtMach_of_cht (numbered_cht m p s), chtMach_putChtMach_same]

theorem buildMach_cht (m gen type es ens : Nat) (kind : TxKind) (number : Nat) (cmd : Option Cmd) (body : List Byte) (s : State) :
    (buildMach m gen type es ens kind number cmd body s).2.cht = s.cht :=
  part_of_seen (p := .cht) (buildMach_seen m gen type es ens kind number cmd body s (by simp))

theorem issueGrant_cases (m : Nat) (p : GrantPlan) (s : State) : issueGrant m p s = grantLost m 4 (numbered m p s) ∨
    (∃ n, issueGrant m p s = grantLost m 2 (keyGone n (numbered m p s))) ∨ (issueGrant m p s).cht = (numbered m p s).cht := by
  unfold issueGrant
  dsimp only
  rw [← granted, ← numbered]
  generalize numbered m p s = t
  split
  · exact .inl rfl
  · exact .inr (.inl ⟨_, rfl⟩)
  · refine .inr (.inr ?_)
    split
    · simp
    · exact (part_of_seen (p := .cht) (enqueue_seen _ _ _ _ (by simp))).trans (buildMach_cht _ _ _ _ _ _ _ _ _ _)

/-- The words with a grant, whatever becomes of its frame. -/
theorem issueGrant_words (m : Nat) (p : GrantPlan) (s : State) : machless (issueGrant m p s).cht = machless s.cht ∧
    ∃ r, chtMach (issueGrant m p s) m = { granted p (chtMach s m) with reason := r } := by
  rw [← numbered_less m p s, ← numbered_mach m p s]
  rcases issueGrant_cases m p s with h | ⟨n, h⟩ | h
  · obtain ⟨hless, hmach⟩ := grantLost_cht m 4 (numbered m p s)
    rw [h, hless, hmach]
    exact ⟨rfl, 4, rfl⟩
  · obtain ⟨hless, hmach⟩ := grantLost_cht m 2 (keyGone n (numbered m p s))
    rw [h, hless, hmach, keyGone_cht, chtMach_of_cht (keyGone_cht n _)]
    exact ⟨rfl, 2, rfl⟩
  · rw [h, chtMach_of_cht h]
    exact ⟨rfl, _, rfl⟩

/-- What LAPSED leaves of a machine's words. -/
def unlapsed (x : ChtMach) : ChtMach := { x with lapsed := false }

theorem grantNo_of_unlapsed {x y : ChtMach} (h : unlapsed x = unlapsed y) : x.grantNo = y.grantNo := by
  have h := congrArg ChtMach.grantNo h
  exact h

theorem commitIvals_mach (v : List Ival) (s : State) (m : Nat) : unlapsed (chtMach (commitIvals v s) m) = unlapsed (chtMach s m) := by
  have hlapsed (t : State) : unlapsed (chtMach (lapsedCheck t) m) = unlapsed (chtMach t m) := by
    refine proj_foldl (fun t => unlapsed (chtMach t m)) (fun u e => ?_) _ t
    dsimp only
    split
    · by_cases he : m = e.1
      · rw [he, chtMach_putChtMach_same]
        rfl
      · rw [chtMach_putChtMach_ne he]
    · rfl
  have hput : chtMach (putIvals v s) m = chtMach s m := by rw [chtMach, chtMach, putIvals_cht]
  have hfill (t : State) : chtMach (fillCheck t) m = chtMach t m := by rw [chtMach, chtMach, fillCheck_cht]
  rw [commitIvals, hlapsed, hfill, hput]

theorem commitIvals_grantNo (v : List Ival) (q : Request) (rest : List Request) (s : State) (m : Nat) :
    (chtMach (commitIvals v (inc (Reg.CHT_CNT 0) 1 (reqTaken q rest s))) m).grantNo = (chtMach s m).grantNo := by
  have hmach : chtMach (inc (Reg.CHT_CNT 0) 1 (reqTaken q rest s)) m = chtMach s m := by rw [chtMach, chtMach, inc_cht, reqTaken_cht]
  exact grantNo_of_unlapsed ((commitIvals_mach v _ m).trans (congrArg unlapsed hmach))

/-- A halo whose grant is issued is answered by its grant: its words stand. -/
theorem answerRequest_halo {q : Request} {m : Nat} {p : GrantPlan} (h : q.purpose = .halo m p) (f : Option ItemFail) (s : State) :
    (answerRequest q 0 f s).cht = s.cht := by
  unfold answerRequest
  simp only [h, if_true]
  exact endJob_cht _ _

/-! ### Errors of the reservation memory -/

theorem dropGrants_cht (n : Nat) (s : State) : machless (dropGrants n s).cht = machless s.cht :=
  (proj_foldl (fun t => machless t.cht) (fun _ _ => setReason_cht _ _ _) _ _)

theorem dropHeldGrants_cht (s : State) : machless (dropHeldGrants s).cht = machless s.cht :=
  proj_foldl (fun t => machless t.cht) (fun _ _ => setReason_cht _ _ _) _ _

theorem dropAllGrants_cht (s : State) : machless (dropAllGrants s).cht = machless s.cht :=
  (proj_foldl (fun t => machless t.cht) (fun t k => dropGrants_cht k t) _ _).trans (dropHeldGrants_cht s)

theorem nfLatch_cht (cause : Nat) (extra : List Byte) (s : State) : machless (nfLatch cause extra s).cht = machless s.cht := by
  have hlatch : (nfLatch cause extra s).cht = (dropAllGrants (latchMark cause s)).cht := by simp [nfLatch_eq, latchCounted]
  have hmark : (latchMark cause s).cht = s.cht := rfl
  rw [hlatch, dropAllGrants_cht, hmark]

theorem undoRow_cht (s : State) (c : NflCmd) : machless (undoRow s c).cht = machless s.cht := by
  have hgone (ok : TxFrame → Bool) (t : State) : ((List.range 4).foldl (fun s k => dropReleases ok k s) t).cht = t.cht :=
    proj_foldl (fun t => t.cht) (f := fun s k => dropReleases ok k s) (fun _ _ => rfl) _ _
  unfold undoRow
  dsimp only
  split
  · rfl
  · rw [dropAllGrants_cht, setNfl_cht, hgone]
  · rw [setNfl_cht, hgone]
  · rw [setNfl_cht, hgone]
  · rfl
  · split <;> rfl
  · split <;> rfl

theorem triggerSeen_cht (s : State) : machless (triggerSeen s).cht = machless s.cht := by
  have hrefused (c : NflCmd) (t : State) : (refuseRow t c).cht = t.cht := part_of_seen (p := .cht) (refuseRow_seen t c (by simp))
  rw [triggerSeen, setNfl_cht, refuseByTrigger]
  dsimp only
  rw [proj_foldl (fun t => t.cht) (fun t c => hrefused c t), setNfl_cht, proj_foldl (fun t => machless t.cht) undoRow_cht]
  split <;> rfl

theorem nfTrigger_cht (cause : Nat) (s : State) : machless (nfTrigger cause s).cht = machless s.cht := by
  have htell (t : State) : (nfTellPeer cause t).cht = t.cht := part_of_seen (p := .cht) (nfTellPeer_seen cause t (by simp))
  have hmirror (t : State) : (mirrorNfl t).cht = t.cht := part_of_seen (p := .cht) (mirrorNfl_seen t (by simp))
  have hagain (t : State) : (nfAgain cause [] t).cht = t.cht := part_of_seen (p := .cht) (nfAgain_seen cause [] t (by simp))
  rw [nfTrigger, htell, nfTriggerWith_eq, ← triggerSeen_cht s]
  generalize triggerSeen s = t
  split
  · exact nfLatch_cht _ _ _
  · exact nfLatch_cht _ _ _
  · rw [hmirror, hagain]
  · rw [hmirror]
    rfl

/-- The state in which a shard's error triggers. -/
def ueTold (k a : Nat) (s : State) : State :=
  record 0x20 k (leBytes 4 a) (sticky Reg.CHT_STICKY 0 (setCht { s.cht with ue := true }
    (wr Reg.CHT_ECC_CNT (setBits (rd s Reg.CHT_ECC_CNT) 31 16 (min (fld s Reg.CHT_ECC_CNT 31 16 + 1) 0xFFFF)) s)))

theorem rd_sticky (a b : Nat) (s : State) (c : Nat) : rd (sticky a b s) c = rd s c := rfl
theorem sticky_cht (a b : Nat) (s : State) : (sticky a b s).cht = s.cht := rfl

theorem ueTold_told (k a : Nat) (s : State) : let t := nfTrigger 6 (ueTold k a s)
    t.cht.ue = true ∧ stkSet t Reg.CHT_STICKY 0 ∧ nfSet t = true ∧ fld t Reg.CHT_ECC_CNT 31 16 = min (fld s Reg.CHT_ECC_CNT 31 16 + 1) 0xFFFF := by
  intro t
  have hcht (u : State) : (record 0x20 k (leBytes 4 a) u).cht = u.cht := part_of_seen (p := .cht) (record_seen _ _ _ u (by simp))
  have hreg : rd t Reg.CHT_ECC_CNT = setBits (rd s Reg.CHT_ECC_CNT) 31 16 (min (fld s Reg.CHT_ECC_CNT 31 16 + 1) 0xFFFF) := by
    rw [rd_of_seen (nfTrigger_seen 6 _ ((le_butReg _ _ _ _ _ _).2 (by decide))), ueTold,
      rd_of_seen (record_seen _ _ _ _ ((le_butReg _ _ _ _ _ _).2 (by decide))), rd_sticky, rd_setCht, rd_wr_same]
  refine ⟨?_, ?_, ?_, ?_⟩
  · rw [(of_machless (nfTrigger_cht 6 _)).2.2, ueTold, hcht, sticky_cht, setCht_cht]
  · rw [stkSet, stk_of_seen (nfTrigger_seen 6 _ ((le_butStk _ _ _ _ _ _).2 (by decide)))]
    exact record_holds _ _ _ _ _ _ (sticky_sets _ (by decide) _)
  · rw [nfSet, nfTrigger_latched]
  · rw [fld, hreg]
    exact bits_setBits_same _ (by decide) (Nat.lt_succ_of_le (Nat.min_le_right _ _))

end Sys2Proof.Machine
end
section
open Sys2Proof Sys2Proof.Machine Sys2Proof.Safety
/-- Settles O26: requests dispatched, decided and answered, grants issued, and errors of the reservation memory. -/
theorem ledgerRequestsComplete : Obligations.LedgerRequestsComplete := by
  refine ⟨fun s j c hup hj hc hop hmode => ?_, fun s j c => ?_, fun s q l v hup hend hreqs hhost hok => ?_, fun s q l hup hend hreqs hbad => ?_,
    fun s q l v m p hup hend hreqs hhalo hok hport hstop => ?_, fun s k hup => ?_, fun s k a hup => ?_⟩
  · have hnot : ¬((countInherited j s).crp.mode = .standby ∧ (decodeItems 64 (cmdBody j)).all (fun it => decide (it.op = 2)) = false) := by
      rw [countInherited_crp]
      rintro ⟨hs, hall⟩
      rcases hmode with h | h
      · exact h hs
      · rw [h] at hall
        cases hall
    refine completes_of (congrArg Host.Outcome.next ((if_neg (by simp [hup])).trans ((withJob_of_pick hj (by simp [hc, hop])).trans (if_neg hnot)))) ?_
    rw [sendRequest_cht, updJob_cht, updJob_tim, countInherited_cht, countInherited_tim]
    exact ⟨rfl, rfl⟩
  · intro v hup hj hc hop hmode hchange hruns hcode
    have hstandby : (countInherited j s).crp.mode = .standby ∧ (decodeItems 64 (cmdBody j)).all (fun it => decide (it.op = 2)) = false :=
      ⟨by rw [countInherited_crp]; exact hmode, hchange⟩
    obtain ⟨d, hd⟩ := standbyLedger_refused j (s := countInherited j s) (by rw [judge_countInherited, countInherited_tim]; exact hcode)
    have hruns' : paiRuns (countInherited j s) = true := by
      rw [← hruns, paiRuns, paiRuns, pdState, pdState, countInherited_crp, countInherited_pai]
    refine completes_of (congrArg Host.Outcome.next ((if_neg (by simp [hup])).trans ((withJob_of_pick hj (by simp [hc, hop])).trans
      ((if_pos hstandby).trans hd)))) ⟨?_, ?_, ?_⟩
    · rw [endJob_cht, completeOpt_cht, paiCount, if_pos hruns', inc_cht, countInherited_cht]
    · rw [rd_of_seen (endJob_seen _ _ ((le_butReg _ _ _ _ _ _).2 (by decide))), rd_of_seen (completeOpt_seen _ _ _ _ ((le_butReg _ _ _ _ _ _).2 (by decide))),
        paiCount, if_pos hruns', rd_inc_same, rd_countInherited (by decide)]
    · rw [endJob_jobs, show (completeOpt j.cmd 0x70 d _).dsp = _ from part_of_seen (p := .dsp) (completeOpt_seen _ _ _ _ (by simp)), paiCount,
        if_pos hruns', inc_dsp, countInherited_jobs]
  · refine completes_of (congrArg Host.Outcome.next ((if_pos (by simp [hup, hend])).trans (decide1_passed hreqs hok))) ?_
    refine answerRequest_kept q 0 none ?_ ?_
    · rw [commitRequest, hhost]
      exact (commitIvals_committed _ _).ivals
    · rw [commitRequest, hhost]
      exact (commitIvals_committed _ _).reqs.trans (congrArg Cht.reqs (reqTaken_cht q l s))
  · exact completes_of (congrArg Host.Outcome.next (if_pos (by simp [hup, hend]))) (decide1_refused hreqs hbad)
  · refine completes_of (congrArg Host.Outcome.next ((if_pos (by simp [hup, hend])).trans (decide1_passed hreqs hok))) ?_
    rw [commitRequest, hhalo]
    dsimp only
    rw [(stopCause_of_kept (stopKept_commit q l v s) m p.epoch).trans hstop]
    dsimp only
    obtain ⟨hless, r, hwords⟩ := issueGrant_words m p (commitIvals v (inc (Reg.CHT_CNT 0) 1 (reqTaken q l s)))
    obtain ⟨hivals, hreqs, -⟩ := of_machless hless
    have hcht := answerRequest_halo hhalo none (issueGrant m p (commitIvals v (inc (Reg.CHT_CNT 0) 1 (reqTaken q l s))))
    rw [chtMach_of_cht hcht, hcht]
    refine ⟨hivals.trans (commitIvals_committed _ _).ivals, ?_, ?_, ?_⟩
    · rw [hwords, ← commitIvals_grantNo v q l s m]
      rfl
    · rw [hwords]
      rfl
    · rw [hwords]
      rfl
  · refine completes_of (congrArg Host.Outcome.next (if_pos hup)) ⟨?_, rfl⟩
    rw [fld, rd_perf, rd_wr_same]
    exact bits_setBits_same _ (by decide) (Nat.lt_succ_of_le (Nat.min_le_right _ _))
  · exact completes_of (congrArg Host.Outcome.next (if_neg (by simp [hup]))) (ueTold_told k a s)
end

section
/-! SUPPORT. Parse jobs: what each reads, and to whom it hands its entry (R168, R227, R260, R263). -/
namespace Sys2Proof.Machine
open Sys2Proof.Safety

/-! ### The parsers' frames -/

theorem withParse_of_pick {type n : Nat} {body : Job → List Byte → State → State} {s : State} {j : Job} {b : List Byte}
    (hj : pickJob s 0 (fun _ => true) = some j) (hwork : j.work = .frame n b) (htype : plpType b = type) :
    withParse type body s = body j b (countInherited j s) := by
  rw [withParse, withJob_of_pick hj (by simp [hwork, htype])]
  simp only [hwork]

/-! ### An epoch -/

theorem fld_countInherited {a : Nat} (h : among [dspCnt] a = false) (hi lo : Nat) (j : Job) (s : State) :
    fld (countInherited j s) a hi lo = fld s a hi lo := by rw [fld, fld, rd_countInherited h]

theorem fixSlot_countInherited (j : Job) (s : State) (k : Nat) : fixSlot (countInherited j s) k = fixSlot s k := by simp [fixSlot]

theorem obsRefused_countInherited (j : Job) (s : State) (m e : Nat) (tRx : Int) : obsRefused (countInherited j s) m e tRx = obsRefused s m e tRx := by
  simp only [obsRefused, fixSlot_countInherited, mach_countInherited, fld_countInherited (show among [dspCnt] Reg.PST_AGE_CFG = false by decide)]

theorem countInherited_ref (j : Job) (s : State) : (countInherited j s).ref = s.ref := part_of_seen (p := .ref) (countInherited_seen j s (by simp))

theorem fixGate_countInherited (j : Job) (s : State) (e : Nat) : fixGate (countInherited j s) e = fixGate s e := by
  simp only [fixGate, basePublished, formNs, countInherited_ref, countInherited_tim,
    fld_countInherited (show among [dspCnt] Reg.REF_CTRL = false by decide)]
  rfl

theorem baseFor_countInherited (j : Job) (s : State) (e : Nat) : baseFor (countInherited j s) e = baseFor s e := by
  rw [baseFor, baseFor, countInherited_ref]

/-- The entry of a job that hands it on. -/
theorem succeed_entry {s u : State} {e : Nat} {ok : Job → Bool} {j : Job} (hj : pickJob s e ok = some j) (hjobs : u.dsp.jobs = s.dsp.jobs)
    (kind : JobKind) (gate : Option Int) (excluded : Option Nat) (work : JobWork) :
    ∃ k, (succeed j.id kind gate excluded work u).dsp.jobs.find? (fun k => k.id = j.id) = some k ∧ k.kind = kind ∧ k.gate = gate ∧ k.work = work ∧
      (succeed j.id kind gate excluded work u).dsp.jobs.length = s.dsp.jobs.length := by
  obtain ⟨hmem, -⟩ := pickJob_mem hj
  obtain ⟨k, hk⟩ := Option.isSome_iff_exists.1 (find_isSome hmem)
  refine ⟨successor kind (levelFor u kind 0) gate excluded work k, ?_, rfl, rfl, rfl, ?_⟩
  · rw [succeed_find, hjobs, hk]
    rfl
  · rw [succeed_length, hjobs]

/-- The position of a POS frame, as its HALO update takes it (R227). -/
def haloOf (j : Job) (b : List Byte) (e : Int) : HaloIn :=
  ⟨signed 64 (leAt b 24 8), signed 64 (leAt b 32 8), signed 64 (leAt b 40 8), e, leAt b 62 1, leAt b 64 4, signed 32 (leAt b 48 4),
   signed 32 (leAt b 52 4), decide (leAt b 63 1 % 2 = 1), true, leAt b 72 2, j.tRx, plpGen b⟩

/-! ### A report -/

/-- The report of a STATUS frame (R260). -/
def reportOf (j : Job) (b : List Byte) : StatusRep :=
  ⟨leAt b 24 1, leAt b 25 1 % 32, leAt b 26 1, leAt b 27 1, leAt b 30 2, leAt b 32 2, leAt b 36 4, leAt b 40 4, j.tRx.toNat⟩

/-- A report held. -/
def reportKept (j : Job) (b : List Byte) (s : State) : State :=
  setMach j.flow { mach s j.flow with
    status := reportOf j b :: (mach s j.flow).status.filter (fun o => decide ((reportOf j b).time ≤ o.time + 2 * tSec)) } s

theorem sendMachGen_status (m gen q type es ens : Nat) (kind : TxKind) (number : Nat) (body : List Byte) (s : State) :
    (mach (sendMachGen m gen q type es ens kind number body s).1 m).status = (mach s m).status := by
  unfold sendMachGen
  split
  · dsimp only [buildMach]
    rw [mach_of_mach (enqueue_mach _ _ _ _), mach_perf, mach_putMach]
  · exact congrArg Mach.status (mach_keyGone _ s m)
  · rfl

theorem seenRelease_status (m : Nat) (wasSeen : Bool) (s : State) : (mach (seenRelease m wasSeen s) m).status = (mach s m).status := by
  have hsent (n : Nfl) (id : Nat) : (mach (machRelease m id (setNfl n s)) m).status = (mach s m).status := sendMachGen_status _ _ _ _ _ _ _ _ _ _
  unfold seenRelease
  split
  · rfl
  split
  · rfl
  split
  · split
    · rfl
    · exact hsent _ _
  · exact hsent _ _

/-- What a job's end or its successor leaves of the machines. -/
theorem endJob_mach (id : Nat) (s : State) : (endJob id s).mach = s.mach := part_of_seen (p := .mach) (endJob_seen id s (by simp))
theorem succeed_mach (id : Nat) (kind : JobKind) (gate : Option Int) (excluded : Option Nat) (work : JobWork) (s : State) :
    (succeed id kind gate excluded work s).mach = s.mach := part_of_seen (p := .mach) (succeed_seen id kind gate excluded work s (by simp))

/-! ### An acknowledgement -/

theorem taskAccepted_task {s : State} {k : Task} {id : Nat} (hk : taskOf s id = some k) :
    taskOf (taskAccepted k s) id = some { k with state := .active } ∧ (taskAccepted k s).dsp = s.dsp := by
  obtain rfl := id_of_taskOf hk
  refine ⟨?_, ?_⟩
  · have htasks : (setTask k.id .active k.holder s).tsk.tasks =
        s.tsk.tasks.map fun t => if t.id = k.id then { t with state := .active, holder := k.holder } else t := by rw [setTask, putTasks_tsk]
    rw [taskAccepted, taskOf, taskRecord_tsk, htasks]
    exact find_map_task hk (fun t => { t with state := .active, holder := k.holder }) fun _ => rfl
  · rw [taskAccepted, taskRecord_dsp]
    exact part_of_seen (p := .dsp) (by simp [setTask])

theorem endJob_tsk (id : Nat) (s : State) : (endJob id s).tsk = s.tsk := part_of_seen (p := .tsk) (endJob_seen id s (by simp))

end Sys2Proof.Machine
end
section
open Sys2Proof Sys2Proof.Machine Sys2Proof.Safety
/-- Settles O23: an epoch, a position, a report and an acknowledgement, parsed. -/
theorem parseJobsComplete : Obligations.ParseJobsComplete := by
  refine ⟨fun s j e p b hj hwork hkind hok => ?_, fun s j n b => ?_, fun s j n b hj hwork htype => ?_,
    fun s j n b k hj hwork htype hack hstatus hk hassigned hholder => ?_⟩
  · have hexec : exec .obsParse s = .next (succeed j.id .fix (fixGate s e) none
        (.obs e p (if (fixGate s e).isSome then none else some (baseFor s e))) (countInherited j s)) := by
      refine congrArg Host.Outcome.next ((withJob_of_pick hj (by simp [hwork, hkind])).trans ?_)
      simp only [hwork, obsRefused_countInherited, hok, fixGate_countInherited, baseFor_countInherited]
    obtain ⟨k, hfind, hk, hgate, hkwork, hlen⟩ := succeed_entry hj (countInherited_jobs j s) .fix (fixGate s e) none
      (.obs e p (if (fixGate s e).isSome then none else some (baseFor s e)))
    refine completes_of hexec ⟨?_, hlen⟩
    rw [hfind, Option.map_some, hk, hgate, hkwork]
  · intro e hj hwork htype hpast hgen hage
    have hnow : near32 (countInherited j s).tim.now (plpEpochS b) (plpEpochNs b) = e := by rw [countInherited_tim]
    have hold : ¬(j.tRx ≤ e ∨ ((fld (countInherited j s) Reg.CHT_POS_CFG 10 0 * tMs : Nat) : Int) ≤ j.tRx - e) := by
      rw [fld_countInherited (by decide)]
      omega
    have hsame : ¬plpGen b ≠ machGen (countInherited j s) j.flow := by simp [hgen, machGen]
    have hexec : exec .posParse s = .next (succeed j.id .halo none none (.halo (haloOf j b e))
        (setLastPos j.flow ((haloOf j b e).x, (haloOf j b e).y, (haloOf j b e).z) (countInherited j s))) := by
      refine congrArg Host.Outcome.next ((withParse_of_pick hj hwork htype).trans ?_)
      dsimp only
      rw [hnow, if_neg hold, if_neg hsame]
      rfl
    obtain ⟨k, hfind, hk, -, -, hlen⟩ := succeed_entry (u := setLastPos j.flow ((haloOf j b e).x, (haloOf j b e).y, (haloOf j b e).z) (countInherited j s))
      hj (countInherited_jobs j s) .halo none none (.halo (haloOf j b e))
    refine completes_of hexec ⟨?_, hlen⟩
    rw [hfind, Option.map_some, hk]
  · obtain ⟨u, hmach, hexec⟩ : ∃ u, u.mach = (seenRelease j.flow (decide ((reportOf j b).flags % 2 = 1)) (reportKept j b (countInherited j s))).mach ∧
        exec .statusParse s = .next u := by
      refine ⟨_, ?_, congrArg Host.Outcome.next (withParse_of_pick hj hwork htype)⟩
      dsimp only
      split
      · exact succeed_mach _ _ _ _ _ _
      · exact endJob_mach _ _
    have hstatus : (mach u j.flow).status.head? = some (reportOf j b) := by
      rw [mach_of_mach hmach, seenRelease_status, reportKept, setMach_same]
      rfl
    refine completes_of hexec ?_
    rw [hstatus]
    exact ⟨rfl, rfl⟩
  · have hk' : taskOf (countInherited j s) (leAt b 32 4) = some k := by rw [taskOf_countInherited, hk]
    have hdone : taskAck j.flow (leAt b 32 4) 0 (countInherited j s) = taskAccepted k (countInherited j s) := by
      simp [taskAck, hk', hassigned, hholder]
    have hexec : exec .ackParse s = .next (endJob j.id (taskAccepted k (countInherited j s))) := by
      refine congrArg Host.Outcome.next ((withParse_of_pick hj hwork htype).trans ?_)
      simp only [hack, hstatus, if_true, hdone]
    obtain ⟨htask, hdsp⟩ := taskAccepted_task hk'
    refine completes_of hexec ⟨?_, ?_⟩
    · rw [taskOf, endJob_tsk]
      exact htask
    · rw [endJob_jobs, hdsp, countInherited_jobs]
end

section
/-! SUPPORT. Clocks found and lost (R377 to R381, R473). -/
namespace Sys2Proof.Machine
open Sys2Proof.Safety

theorem clockRestored_of_locked {s : State} (href : s.crp.refOk = true) (hlock : s.crp.flLock = true) :
    clockRestored s = setNfl { s.nfl with clockFault := false } s := if_pos (by rw [href, hlock]; rfl)

/-- The cross-check's failure, its record and its trigger. -/
theorem clockFault_triggers {s : State} (k bit : Nat) (hfault : s.nfl.clockFault = true) (hbit : bit < 32) :
    let t := nfTrigger 9 (clockFault k (sticky Reg.CRP_STICKY bit s))
    t.crp = s.crp ∧ t.nfl.clockFault = true ∧ t.nfl.latch = .latched ∧ stkSet t Reg.CRP_STICKY bit := by
  intro t
  have hnfl : (clockFault k (sticky Reg.CRP_STICKY bit s)).nfl = s.nfl := by simp [clockFault]
  have htell (u : State) : (nfTellPeer 9 u).nfl = u.nfl := part_of_seen (p := .nfl) (nfTellPeer_seen 9 u (by simp))
  refine ⟨part_of_seen (p := .crp) (by simp [t, clockFault]), ?_, nfTrigger_latched _ _, ?_⟩
  · obtain ⟨-, -, -, -, -, -, -, hclock, -⟩ := nfTriggerWith_inputs 9 [] (clockFault k (sticky Reg.CRP_STICKY bit s))
    rw [show t.nfl = _ from htell _, hclock, hnfl, hfault]
  · rw [stkSet, stk_of_seen (nfTrigger_seen 9 _ ((le_butStk _ _ _ _ _ _).2 (by decide)))]
    exact record_holds _ _ _ _ _ _ (sticky_sets _ hbit _)

/-- The correlators of every region are cleared. -/
def corrsCleared (s : State) : State := (List.range 4).foldl (fun s r => resetCorr r s) s

theorem ctx_resetCorr (r : Nat) (s : State) (ch : Nat) : ctx (resetCorr r s) ch = if ch / 512 = r then ctxDef ch else ctx s ch := by
  have hctx : (resetCorr r s).cor.ctx = Tab.drop (fun k => k / 512 = r) s.cor.ctx := rfl
  rw [ctx, hctx, Tab.get_drop]
  simp only [decide_eq_true_eq]
  rfl

theorem ctx_corrsCleared (s : State) {ch : Nat} (h : ch < 2048) : ctx (corrsCleared s) ch = ctxDef ch := by
  have hr : ch / 512 = 0 ∨ ch / 512 = 1 ∨ ch / 512 = 2 ∨ ch / 512 = 3 := by omega
  have hunfold : corrsCleared s = resetCorr 3 (resetCorr 2 (resetCorr 1 (resetCorr 0 s))) := rfl
  simp only [hunfold, ctx_resetCorr]
  rcases hr with h | h | h | h <;> simp [h]

theorem toLifeboat_store (cause : Nat) {s : State} (h : s.recorder.store ≠ .lifeboat) : (toLifeboat cause s).recorder.store = .lifeboat := by
  have hfill (t : State) : (fillHigh t).recorder.store = t.recorder.store := by
    unfold fillHigh stickyIf
    dsimp only
    split <;> rfl
  rw [toLifeboat]
  dsimp only
  rw [if_neg h, hfill]
  rfl

/-- The state in which a lost BB clock resets what runs on it. -/
def bbLost (s : State) : State := clockFault 2 (sticky Reg.CRP_STICKY 2 (setCrp { s.crp with bbLock := false } s))

/-- R379: what a lost BB clock leaves. -/
def bbCleared (s : State) : State := resetIngress (corrsCleared (resetCrossings [16, 17] (bbLost s)))

theorem resetIngress_clears (s : State) : (resetIngress s).ing.held = true ∧ (resetIngress s).acq.caps = [] ∧ (resetIngress s).tim.bbValid = false :=
  ⟨rfl, rfl, rfl⟩

theorem resetIngress_keeps (s : State) : (resetIngress s).crp = s.crp ∧ (resetIngress s).cor = s.cor :=
  ⟨part_of_seen (p := .crp) (resetIngress_seen s (by simp)), part_of_seen (p := .cor) (resetIngress_seen s (by simp))⟩

theorem bbCleared_clears (s : State) : (bbCleared s).crp.bbLock = false ∧ (bbCleared s).ing.held = true ∧ (bbCleared s).acq.caps = [] ∧
    (bbCleared s).tim.bbValid = false := by
  have hcorr (t : State) : (corrsCleared t).crp = t.crp := proj_foldl State.crp (fun t r => part_of_seen (p := .crp) (by simp)) _ _
  have hlost : (bbLost s).crp = { s.crp with bbLock := false } := part_of_seen (p := .crp) (record_seen _ _ _ _ (by simp))
  refine ⟨?_, resetIngress_clears _⟩
  rw [bbCleared, (resetIngress_keeps _).1, hcorr, resetCrossings, setCrp_crp, hlost]

theorem ctx_bbCleared (s : State) {ch : Nat} (h : ch < 2048) : ctx (bbCleared s) ch = ctxDef ch := by
  rw [bbCleared, ctx_of_cor (resetIngress_keeps _).2, ctx_corrsCleared _ h]

theorem stk_bbCleared (s : State) : stkSet (bbCleared s) Reg.CRP_STICKY 2 := by
  have hcorr (t : State) : stk (corrsCleared t) Reg.CRP_STICKY = stk t Reg.CRP_STICKY :=
    proj_foldl (fun t => stk t Reg.CRP_STICKY) (fun t r => stk_of_seen (resetCorr_seen r t ((le_butStk _ _ _ _ _ _).2 rfl))) _ _
  have hcross (t : State) : stk (resetCrossings [16, 17] t) Reg.CRP_STICKY = stk t Reg.CRP_STICKY := rfl
  rw [stkSet, bbCleared, stk_of_seen (resetIngress_seen _ ((le_butStk _ _ _ _ _ _).2 (by decide))), hcorr, hcross]
  exact record_holds _ _ _ _ _ _ (sticky_sets _ (by decide) _)

end Sys2Proof.Machine
end
section
open Sys2Proof Sys2Proof.Machine Sys2Proof.Safety
/-- Settles O42: a clock that locks is taken into service, and one that is lost is told, with all that runs on it. -/
theorem clocksComplete : Obligations.ClocksComplete := by
  refine ⟨fun s hrun href => ?_, fun s hrun href hon => ?_, fun s hrun => ?_, fun s hrun => ?_, fun s hrun hlock => ?_, fun s => ?_,
    fun s hrun hlock => ?_, fun s hheld href hrun => ?_, fun s hrun => ?_, fun s hrun hstore => ?_⟩
  · refine completes_of (congrArg Host.Outcome.next ((if_neg (by simp [hrun, href])).trans ((if_pos rfl).trans (clockRestored_of_locked href rfl)))) ⟨rfl, rfl⟩
  · exact completes_of (congrArg Host.Outcome.next ((if_neg (by simp [hrun, href])).trans ((if_neg (by decide)).trans (if_pos ⟨rfl, hon⟩)))) ⟨rfl, rfl⟩
  · exact completes_of (congrArg Host.Outcome.next (if_pos (by simp [hrun]))) rfl
  · obtain ⟨hcrp, hfault, hlatch, hstk⟩ := clockFault_triggers 0 0
      (s := setNfl { s.nfl with clockFault := true } (setCrp { s.crp with refOk := false } s)) rfl (by decide)
    exact completes_of (congrArg Host.Outcome.next (if_neg (by simp [hrun]))) ⟨congrArg Crp.refOk hcrp, hfault, hlatch, hstk⟩
  · obtain ⟨hcrp, hfault, hlatch, hstk⟩ := clockFault_triggers 1 1
      (s := setNfl { s.nfl with clockFault := true } (setCrp { s.crp with flLock := false } s)) rfl (by decide)
    exact completes_of (congrArg Host.Outcome.next (if_neg (by simp [hrun, hlock]))) ⟨congrArg Crp.flLock hcrp, hfault, hlatch, hstk⟩
  · refine completes_of (congrArg Host.Outcome.next rfl) ⟨?_, fun hlock => ?_⟩
    · rw [clockRestored_crp]
      rfl
    · have hlock' : (setCrp { s.crp with refOk := true } s).crp.flLock = true := hlock
      exact congrArg (fun t : State => t.nfl.clockFault) (clockRestored_of_locked (s := setCrp { s.crp with refOk := true } s) rfl hlock')
  · obtain ⟨hlock', hheld, hcaps, hvalid⟩ := bbCleared_clears s
    exact completes_of (congrArg Host.Outcome.next (if_neg (by simp [hrun, hlock])))
      ⟨hlock', hheld, hcaps, hvalid, fun ch hch => ctx_bbCleared s hch, stk_bbCleared s⟩
  · exact completes_of (congrArg Host.Outcome.next (if_pos (by simp [hheld, href, hrun]))) ⟨rfl, rfl⟩
  · refine completes_of (congrArg Host.Outcome.next ((if_neg (by simp [hrun])).trans (if_neg (by decide)))) ⟨rfl, rfl, ?_⟩
    exact sticky_sets _ (by decide) s
  · refine completes_of (congrArg Host.Outcome.next ((if_neg (by simp [hrun])).trans (if_pos rfl))) ?_
    have hnv : nvFailed (pllLost 9 (sticky Reg.CRP_STICKY 3 s)) = toLifeboat 1 (pllLost 9 (sticky Reg.CRP_STICKY 3 s)) := by
      have hstore' : (pllLost 9 (sticky Reg.CRP_STICKY 3 s)).recorder.store = .mram := hstore
      rw [nvFailed, hstore']
    refine ⟨?_, ?_, ?_⟩
    · exact congrArg Crp.nvLock (part_of_seen (p := .crp) (nvFailed_seen (pllLost 9 (sticky Reg.CRP_STICKY 3 s)) (by simp)))
    · refine (congrArg (fun t : State => t.recorder.store) hnv).trans (toLifeboat_store 1 ?_)
      intro h
      exact nomatch hstore.symm.trans h
    · exact (congrArg (bitAt · 3) (stk_of_seen (nvFailed_seen (pllLost 9 (sticky Reg.CRP_STICKY 3 s))
        ((le_butStk _ _ _ _ _ _).2 (by decide))))).trans (sticky_sets Reg.CRP_STICKY (by decide) s)
end

section
/-! SUPPORT. A start whose SAFE cycle holds a machine's release (R284, R292). -/
namespace Sys2Proof.Machine

/-- A start in recovery, latched, in the SAFE cycle of an NFL_MREL. -/
def startInRelease : State :=
  { State.reset with
    crp := { State.reset.crp with flLock := true, refOk := true }
    upd := { State.reset.upd with lcField := 0 }
    nfl := { State.reset.nfl with cmds := [⟨0, .mrel, 0⟩] } }

theorem bootRuns_startInRelease : bootRuns startInRelease = true := by decide

/-- The trigger at the end of the start undoes the release, and latches anew. -/
theorem bootComplete_startInRelease : ∃ t, exec .bootComplete startInRelease = .next t ∧ t.nfl.latchId = 2 := ⟨_, rfl, by decide +kernel⟩

end Sys2Proof.Machine
end
section
open Sys2Proof Sys2Proof.Machine Sys2Proof.Safety
/-- Refutes O43: a start in the SAFE cycle of a machine's release ends with a trigger that undoes the release and latches anew, so LATCH_ID moves twice. -/
theorem not_deviceResetsComplete : ¬ Obligations.DeviceResetsComplete := by
  intro h
  obtain ⟨-, -, -, -, -, -, -, -, -, -, hboot, -⟩ := h
  obtain ⟨t, hexec, -, -, -, hid⟩ := hboot startInRelease bootRuns_startInRelease
  obtain ⟨u, hu, htwo⟩ := bootComplete_startInRelease
  obtain rfl : t = u := Host.Outcome.next.inj (hexec.symm.trans hu)
  exact absurd ((hid (by decide) rfl).symm.trans htwo) (by decide)
end

section
/-! SUPPORT. Resets of regions and ports, and the crossing FIFOs (R394, R395, R397, R400). -/
namespace Sys2Proof.Machine
open Sys2Proof.Safety

/-! ### Regions -/

theorem inResetSet_bit {b : Nat} (h : b < 9) (s : State) : (inResetSet b s).crp.inReset.getLsbD b = true := by
  have hone : (BitVec.ofNat 9 (2 ^ b)).getLsbD b = true := by
    rw [BitVec.getLsbD_ofNat, Nat.testBit_two_pow_self, decide_eq_true h]
    rfl
  rw [inResetSet, setCrp_crp, BitVec.getLsbD_or, hone, Bool.or_true]

theorem inResetSet_keeps_bit {b c : Nat} {s : State} (h : s.crp.inReset.getLsbD c = true) : (inResetSet b s).crp.inReset.getLsbD c = true := by
  rw [inResetSet, setCrp_crp, BitVec.getLsbD_or, h, Bool.true_or]

theorem inResetEnd_bit {b : Nat} (h : b < 9) (s : State) : (inResetEnd b s).crp.inReset.getLsbD b = false := by
  have hone : (BitVec.ofNat 9 (2 ^ b)).getLsbD b = true := by
    rw [BitVec.getLsbD_ofNat, Nat.testBit_two_pow_self, decide_eq_true h]
    rfl
  rw [inResetEnd, setCrp_crp, BitVec.getLsbD_and, BitVec.getLsbD_not, hone]
  simp

theorem ctx_inResetSet (b : Nat) (s : State) (ch : Nat) : ctx (inResetSet b s) ch = ctx s ch := rfl

theorem resetCorr_crp (r : Nat) (s : State) : (resetCorr r s).crp = s.crp := part_of_seen (p := .crp) (resetCorr_seen r s (by simp))

/-- One region of a write of CRP_RST_CMD. -/
def corrStep (w : Word) (s : State) (r : Nat) : State :=
  if rstAsks w (1 + r) && !rstRefused w s && decide (pdState s (4 + r) = .on) then inResetSet (1 + r) (resetCorr r s) else s

/-- The modes and the domains stand. -/
def PowerKept (s t : State) : Prop := t.crp.mode = s.crp.mode ∧ t.crp.pd = s.crp.pd

/-- Region `r` is in reset, and its contexts are cleared. -/
def CorrCleared (r : Nat) (t : State) : Prop := t.crp.inReset.getLsbD (1 + r) = true ∧ ∀ ch, ch / 512 = r → ctx t ch = ctxDef ch

theorem corrStep_power {w : Word} {s t : State} (h : PowerKept s t) (r : Nat) : PowerKept s (corrStep w t r) := by
  unfold corrStep
  split
  · obtain ⟨hmode, hpd⟩ := h
    have hcrp := resetCorr_crp r t
    exact ⟨by rw [inResetSet, setCrp_crp, hcrp]; exact hmode, by rw [inResetSet, setCrp_crp, hcrp]; exact hpd⟩
  · exact h

theorem corrStep_cleared {w : Word} {r : Nat} {t : State} (h : CorrCleared r t) (a : Nat) : CorrCleared r (corrStep w t a) := by
  unfold corrStep
  split
  · refine ⟨inResetSet_keeps_bit (by rw [resetCorr_crp]; exact h.1), fun ch hch => ?_⟩
    rw [ctx_inResetSet, ctx_resetCorr]
    split
    · rfl
    · exact h.2 ch hch
  · exact h

theorem corrStep_clears {w : Word} {r : Nat} {s t : State} (hr : r < 4) (hasks : rstAsks w (1 + r) = true) (hok : rstRefused w s = false)
    (hon : pdState s (4 + r) = .on) (h : PowerKept s t) : CorrCleared r (corrStep w t r) := by
  obtain ⟨hmode, hpd⟩ := h
  have hok' : rstRefused w t = false := by rw [← hok, rstRefused, rstRefused, hmode]
  have hon' : pdState t (4 + r) = .on := by rw [← hon, pdState, pdState, hpd]
  rw [corrStep, if_pos (by simp [hasks, hok', hon'])]
  refine ⟨inResetSet_bit (by omega) _, fun ch hch => ?_⟩
  rw [ctx_inResetSet, ctx_resetCorr, if_pos hch]

/-! ### Ports -/

theorem discardFrame_net (f : TxFrame) (s : State) : (discardFrame f s).net = s.net := part_of_seen (p := .net) (discardFrame_seen f s (by simp))

/-- A port as its reset leaves it. -/
def portCleared (n : Nat) (p : NetPort) : NetPort := { portDef n with nfSeq := p.nfSeq }

theorem netPort_setPort_ne {n k : Nat} (h : k ≠ n) (p : NetPort) (s : State) : netPort (setPort n p s) k = netPort s k := Tab.get_put_ne _ _ _ h

theorem netPort_emptyPort (n : Nat) (s : State) (k : Nat) :
    netPort (emptyPort n s) k = if k = n then portCleared n (netPort s n) else netPort s k := by
  have hnet : (emptyPort n s).net = (setPort n (portCleared n (netPort s n)) s).net :=
    proj_foldl State.net (fun t f => discardFrame_net f t) _ _
  rw [netPort_of_net hnet]
  split
  next h => rw [h, setPort_same]
  next h => exact netPort_setPort_ne h _ s

theorem emptyPort_crp (n : Nat) (s : State) : (emptyPort n s).crp = (resetCrossings [n, n + 4] s).crp :=
  proj_foldl State.crp (fun t f => discardFrame_crp f t) _ _

theorem clearPlain_net (lo hi : Nat) (s : State) : (clearPlain lo hi s).net = s.net := rfl

theorem netPort_resetPort (n : Nat) (s : State) (k : Nat) :
    netPort (resetPort n s) k = if k = n then portCleared n (netPort s n) else netPort s k := by
  rw [← netPort_emptyPort, resetPort, netPort_of_net (clearPlain_net _ _ _)]

theorem resetPort_inReset (n : Nat) (s : State) : (resetPort n s).crp.inReset = s.crp.inReset := by
  rw [resetPort, clearPlain_crp, emptyPort_crp]
  rfl

theorem resetPort_pai (n : Nat) (s : State) : (resetPort n s).pai = s.pai := part_of_seen (p := .pai) (resetPort_seen n s (by simp))

/-- Every port is reset. -/
def portsReset (s : State) : State := (List.range 4).foldl (fun s n => resetPort n s) s

theorem netPort_portsReset (s : State) {n : Nat} (h : n < 4) : netPort (portsReset s) n = portCleared n (netPort s n) := by
  have hunfold : portsReset s = resetPort 3 (resetPort 2 (resetPort 1 (resetPort 0 s))) := by
    simp only [portsReset, show List.range 4 = [0, 1, 2, 3] from rfl, List.foldl_cons, List.foldl_nil]
  have hn : n = 0 ∨ n = 1 ∨ n = 2 ∨ n = 3 := by omega
  simp only [hunfold, netPort_resetPort]
  rcases hn with rfl | rfl | rfl | rfl <;> simp

/-- The sides of the ports stand. -/
def sides (s : State) : BitVec 4 × BitVec 4 := (s.crp.macRst, s.crp.fabRst)

theorem sides_netSides (old s : State) (n : Nat) : sides (netSides old s n) = sides s := by
  have hlost (t : State) : sides (linkLost n t) = sides t := by rw [sides, sides, linkLost_crp]
  have hempty (t : State) : sides (emptyPort n t) = sides t := by
    rw [sides, emptyPort_crp]
    rfl
  unfold netSides
  dsimp only
  split
  · split
    · rw [hempty, hlost]
    · exact hlost s
  · split
    · exact hempty s
    · rfl

/-! ### Crossing FIFOs -/

theorem fifo_setFifo_same (k : Nat) (f : Fifo) (s : State) : fifo (setFifo k f s) k = f := Tab.get_put_same _ _ _ _

theorem fifo_of_crp {s t : State} (h : t.crp = s.crp) (k : Nat) : fifo t k = fifo s k := by rw [fifo, fifo, h]

theorem execFifoDrop_drops {s : State} {k : Nat} {w : Word} (hex : fifoExists s k = true) (hw : bitAt w 0 = true) (hmode : s.crp.mode = .maintain) :
    exec (.fifoDrop k w) s = .next (fifoDrop k s) := congrArg Host.Outcome.next (if_pos (by simp [hex, hw, hmode]))

theorem fifoDrop_received {s : State} {k : Nat} (hk : k < 4) (hfifo : (netPort s k).fifo ≠ []) : fifoDrop k s = popHead k s := by
  rw [fifoDrop, if_pos hk]
  dsimp only
  rw [if_neg (by simpa using hfifo)]

theorem fifoDrop_sent {s : State} {n : Nat} {f : TxFrame} (hn : n < 4) (htx : (netPort s n).tx = some f) :
    fifoDrop (n + 4) s = discardFrame f (setPort n { netPort s n with tx := none } s) := by
  rw [fifoDrop, if_neg (by omega), if_pos (by omega)]
  simp only [Nat.add_sub_cancel, htx]

theorem fifoDrop_waits {s : State} {k : Nat} (h0 : k < 4 → (netPort s k).fifo = []) (h4 : 4 ≤ k → k < 8 → (netPort s (k - 4)).tx = none)
    (h8 : 8 ≤ k → fifo s k = fifoDef k) : dropsNext (fifoDrop k s) k = true := by
  unfold fifoDrop
  dsimp only
  split
  next h =>
    rw [if_pos (by simp [h0 h]), dropsNext, fifo_setFifo_same]
  next h =>
    split
    next h' =>
      rw [h4 (by omega) h']
      dsimp only
      rw [dropsNext, fifo_setFifo_same]
    next h' =>
      rw [dropsNext, fifo_setFifo_same, h8 (by omega)]
      rfl

theorem txGone {n : Nat} (f : TxFrame) (s : State) : (netPort (discardFrame f (setPort n { netPort s n with tx := none } s)) n).tx = none := by
  rw [netPort_of_net (discardFrame_net f _), setPort_same]

/-- The state in which an uncorrectable error of a crossing FIFO drops its packet. -/
def fifoTold (k : Nat) (s : State) : State := record 0x41 k (leBytes 4 0) (sticky Reg.CRP_STICKY 5 s)

theorem fifoTold_net (k : Nat) (s : State) : (fifoTold k s).net = s.net := part_of_seen (p := .net) (by simp [fifoTold])
theorem fifoTold_crp (k : Nat) (s : State) : (fifoTold k s).crp = s.crp := part_of_seen (p := .crp) (by simp [fifoTold])
theorem fifoTold_sets (k : Nat) (s : State) : stkSet (fifoTold k s) Reg.CRP_STICKY 5 := record_holds _ _ _ _ _ _ (sticky_sets _ (by decide) _)

/-! ### What each command leaves -/

theorem execAcqReset_resets {s : State} {w : Word} (hasks : rstAsks w 5 = true) (hok : rstRefused w s = false) (hon : pdState s 8 = .on) :
    exec (.acqReset w) s = .next (acqDownCheck (inResetSet 5 (resetAcq s))) := congrArg Host.Outcome.next (if_pos (by simp [hasks, hok, hon]))

theorem acqDownCheck_keeps (s : State) : (acqDownCheck s).acq.caps = s.acq.caps ∧ (acqDownCheck s).crp.inReset = s.crp.inReset := by
  unfold acqDownCheck
  split <;> exact ⟨rfl, rfl⟩

theorem pdState_setPd (k : Nat) (v : PdState) (s : State) : pdState (setPd k v s) k = v := Tab.get_put_same pdDef s.crp.pd k v

theorem acqDownCheck_down {s : State} (hwaits : s.crp.acqDownWaits = true) (hpipe : s.acq.pipe = []) :
    pdState (acqDownCheck s) 8 = .isolated ∧ (acqDownCheck s).crp.acqDownWaits = false := by
  rw [acqDownCheck, if_pos (by simp [hwaits, hpipe])]
  exact ⟨pdState_setPd _ _ _, rfl⟩

theorem rd_fifoTold {k n : Nat} (h : among [recCnt] n = false) (s : State) : rd (fifoTold k s) n = rd s n := by
  rw [fifoTold, rd_of_seen (record_seen _ _ _ _ ((le_butReg _ _ _ _ _ _).2 h)), rd_sticky]

theorem recCnt_netCnt {n i : Nat} (hn : n < 4) (hi : i < 16) : among [recCnt] (Reg.NET_CNT n i) = false := by
  simp only [among_cons, among_nil, Bool.or_false, recCnt, words, List.any_eq_false]
  intro k hk h
  have hlt := List.mem_range.1 hk
  have h := of_decide_eq_true h
  simp only [Reg.REC_CNT, Reg.NET_CNT] at h
  omega

theorem stickyIf_crp (c : Bool) (a b : Nat) (s : State) : (stickyIf c a b s).crp = s.crp := by simp

theorem perf_parts (e k : Nat) (s : State) : (perf e k s).cor = s.cor ∧ (perf e k s).crp = s.crp := ⟨rfl, rfl⟩

theorem setCtx_keeps_queue (ch : Nat) (c : Ctx) (s : State) : (setCtx ch c s).cor.queue = s.cor.queue ∧ (setCtx ch c s).crp = s.crp := ⟨rfl, rfl⟩

/-- The correlators with other ended runs. -/
def withEnded (l : List EndedRun) (s : State) : State := { s with cor := { s.cor with ended := l } }

theorem withEnded_keeps (l : List EndedRun) (s : State) : (withEnded l s).cor.queue = s.cor.queue ∧ (withEnded l s).crp = s.crp := ⟨rfl, rfl⟩

theorem dumpLost_eq (ch : Nat) (b : List Byte) (s : State) : ∃ c, dumpLost ch b s = setCtx ch c s ∨ ∃ l, dumpLost ch b s = setCtx ch c (withEnded l s) := by
  unfold dumpLost
  dsimp only
  split
  · exact ⟨_, .inl rfl⟩
  · exact ⟨_, .inr ⟨_, rfl⟩⟩

theorem dumpLost_keeps (ch : Nat) (b : List Byte) (s : State) : (dumpLost ch b s).cor.queue = s.cor.queue ∧ (dumpLost ch b s).crp = s.crp := by
  obtain ⟨c, h | ⟨l, h⟩⟩ := dumpLost_eq ch b s
  · rw [h]
    exact setCtx_keeps_queue ch c s
  · rw [h]
    obtain ⟨hqueue, hcrp⟩ := setCtx_keeps_queue ch c (withEnded l s)
    obtain ⟨hqueue', hcrp'⟩ := withEnded_keeps l s
    exact ⟨hqueue.trans hqueue', hcrp.trans hcrp'⟩

/-- The sides of the ports of this grade as a write of CRP_NET_RST sets them, and the flag that they differ (R400). -/
def netRstSet (s : State) (w : Word) : State :=
  let ports := BitVec.ofNat 4 (2 ^ gradePorts s - 1)
  let mac := BitVec.ofNat 4 (bits w 3 0) &&& ports
  let fab := BitVec.ofNat 4 (bits w 11 8) &&& ports
  let split := splitSides mac fab
  let hold := s.crp.netHold ||| split
  let seen := (s.crp.bothSeen ||| (mac &&& fab)) &&& hold
  let ends := seen &&& ~~~mac &&& ~~~fab
  stickyIf (decide (split ≠ 0)) Reg.CRP_STICKY 4
    (setCrp { s.crp with macRst := mac, fabRst := fab, netHold := hold &&& ~~~ends, bothSeen := seen &&& ~~~ends } s)

theorem netRstSet_sides (s : State) (w : Word) :
    (netRstSet s w).crp.macRst = BitVec.ofNat 4 (bits w 3 0) &&& BitVec.ofNat 4 (2 ^ gradePorts s - 1) ∧
    (netRstSet s w).crp.fabRst = BitVec.ofNat 4 (bits w 11 8) &&& BitVec.ofNat 4 (2 ^ gradePorts s - 1) ∧
    ((netRstSet s w).crp.macRst ≠ (netRstSet s w).crp.fabRst → stkSet (netRstSet s w) Reg.CRP_STICKY 4) := by
  unfold netRstSet
  dsimp only
  rw [stickyIf_crp, setCrp_crp]
  refine ⟨rfl, rfl, fun hne => ?_⟩
  rw [decide_eq_true (by simpa [splitSides] using hne)]
  exact sticky_sets _ (by decide) _

theorem stkSet_netSides {t : State} (s : State) (h : stkSet t Reg.CRP_STICKY 4) : stkSet ((List.range 4).foldl (netSides s) t) Reg.CRP_STICKY 4 := by
  have hkeep (u : State) (n : Nat) : stk (netSides s u n) Reg.CRP_STICKY = stk u Reg.CRP_STICKY :=
    stk_of_seen (netSides_seen s u n ((le_butStk _ _ _ _ _ _).2 (by
      have hne : Reg.CRP_STICKY ≠ Reg.NET_STICKY n := by simp only [Reg.CRP_STICKY, Reg.NET_STICKY]; omega
      simp [hne]
      decide)))
  rw [stkSet, proj_foldl (fun t => stk t Reg.CRP_STICKY) hkeep]
  exact h

theorem resetFix_pst (s : State) : (resetFix s).pst = Pst.reset := rfl
theorem resetChart_cht (s : State) : (resetChart s).cht = { Cht.reset with nextSeq := s.cht.nextSeq, period := s.cht.period } := rfl

theorem netPort_inResetSet (b : Nat) (s : State) (n : Nat) : netPort (inResetSet b s) n = netPort s n := rfl

theorem portsReset_keeps (s : State) : (portsReset s).crp.inReset = s.crp.inReset ∧ (portsReset s).pai = s.pai :=
  ⟨proj_foldl (fun t => t.crp.inReset) (fun t n => resetPort_inReset n t) _ _, proj_foldl State.pai (fun t n => resetPort_pai n t) _ _⟩

end Sys2Proof.Machine
end
section
open Sys2Proof Sys2Proof.Machine Sys2Proof.Safety
/-- Settles O44: what a reset of a region or of a port leaves, and what becomes of the packets of a crossing FIFO. -/
theorem regionResetsComplete : Obligations.RegionResetsComplete := by
  refine ⟨fun s w r hr hasks hok hon => ?_, fun s w hasks hok hon hwaits => ?_, fun s w hasks hok hon => ?_, fun s w hasks hmode hon => ?_,
    fun s w hasks hmode => ?_, fun s w hasks hmode hon => ?_, fun s w hasks hok hon hpair => ?_, fun s b hlo hhi => ?_, fun s w => ?_,
    fun s w k hk hex hw hmode hfifo => ?_, fun s w n f hn hex hw hmode htx => ?_, fun s w k hex hw hmode h0 h4 h8 => ?_, fun s w k hmode => ?_,
    fun s k hk hex hrun hfifo => ?_, fun s n f hn hex hrun htx => ?_, fun s k hlo hhi hrun hempty => ?_, fun s f ok hup hdrop => ?_,
    fun s u ch core b l hdumps hdrop => ?_⟩
  · refine completes_of (t := (List.range 4).foldl (corrStep w) s) rfl ?_
    exact foldl_once (P := PowerKept s) (Q := CorrCleared r) (List.mem_range.2 hr) List.nodup_range (fun t a _ h => corrStep_power h a)
      (fun t h => corrStep_clears hr hasks hok hon h) (fun t a _ h => corrStep_cleared h a) ⟨rfl, rfl⟩
  · obtain ⟨hpipe, -⟩ := acqDownCheck_queue (inResetSet 5 (resetAcq s))
    obtain ⟨hdown, hdone⟩ := acqDownCheck_down (s := inResetSet 5 (resetAcq s)) hwaits rfl
    exact completes_of (execAcqReset_resets hasks hok hon) ⟨hpipe, hdown, hdone⟩
  · obtain ⟨hpipe, -⟩ := acqDownCheck_queue (inResetSet 5 (resetAcq s))
    obtain ⟨hcaps, hreset⟩ := acqDownCheck_keeps (inResetSet 5 (resetAcq s))
    refine completes_of (execAcqReset_resets hasks hok hon) ⟨?_, hpipe, hcaps⟩
    rw [hreset]
    exact inResetSet_bit (by decide) _
  · exact completes_of (congrArg Host.Outcome.next ((if_neg (by simp [hasks])).trans ((if_neg (by simp [hmode])).trans (if_pos hon))))
      ⟨inResetSet_bit (by decide) _, resetFix_pst s⟩
  · exact completes_of (congrArg Host.Outcome.next ((if_neg (by simp [hasks])).trans (if_pos hmode))) ⟨rfl, rfl, sticky_sets _ (by decide) _⟩
  · exact completes_of (congrArg Host.Outcome.next ((if_neg (by simp [hasks])).trans ((if_neg (by simp [hmode])).trans (if_pos hon))))
      ⟨inResetSet_bit (by decide) _, resetChart_cht s⟩
  · obtain ⟨hreset, hpai⟩ := portsReset_keeps (inResetSet 8 s)
    have hpair' : (portsReset (inResetSet 8 s)).pai.pair = false := by rw [hpai]; exact hpair
    refine completes_of (t := portsReset (inResetSet 8 s)) (congrArg Host.Outcome.next ((if_pos (by simp [hasks, hok, hon])).trans (if_neg ?_)))
      ⟨?_, fun n hn => ?_⟩
    · rw [Bool.not_eq_true]
      exact hpair'
    · rw [hreset]
      exact inResetSet_bit (by decide) s
    · rw [netPort_portsReset _ hn, netPort_inResetSet]
      rfl
  · exact completes_of (congrArg Host.Outcome.next (if_pos ⟨hlo, hhi⟩)) (inResetEnd_bit (by omega) s)
  · intro ports
    refine completes_of (t := (List.range 4).foldl (netSides s) (netRstSet s w)) rfl ?_
    have hsides : sides ((List.range 4).foldl (netSides s) (netRstSet s w)) = sides (netRstSet s w) := proj_foldl sides (sides_netSides s) _ _
    have hmac := congrArg Prod.fst hsides
    have hfab := congrArg Prod.snd hsides
    obtain ⟨hmac', hfab', hsplit⟩ := netRstSet_sides s w
    refine ⟨hmac.trans hmac', hfab.trans hfab', fun hne => ?_⟩
    refine stkSet_netSides s (hsplit fun heq => hne ?_)
    exact (hmac.trans heq).trans hfab.symm
  · refine completes_of ((execFifoDrop_drops hex hw hmode).trans (congrArg Host.Outcome.next (fifoDrop_received hk hfifo))) ⟨popHead_fifo k s, ?_⟩
    rw [popHead, rd_pauseCheck (by simp only [Reg.NET_CNT]; omega), rd_setPort]
  · refine completes_of ((execFifoDrop_drops hex hw hmode).trans (congrArg Host.Outcome.next (fifoDrop_sent hn htx))) ⟨txGone f s, fun hkind => ?_⟩
    have hdiscard : discardFrame f (setPort n { netPort s n with tx := none } s) = inc (Reg.NFL_CNT 2) 1 (setPort n { netPort s n with tx := none } s) := by
      rw [discardFrame, hkind]
    rw [hdiscard, rd_inc_same, rd_setPort]
  · exact completes_of (execFifoDrop_drops hex hw hmode) (fifoDrop_waits h0 h4 h8)
  · exact completes_of (congrArg Host.Outcome.next (if_neg (by simp [hmode]))) rfl
  · have hport : netPort (fifoTold k s) k = netPort s k := netPort_of_net (fifoTold_net k s) k
    have hexec : exec (.fifoUe k) s = .next (inc (Reg.NET_CNT k 4) 1 (popHead k (fifoTold k s))) :=
      congrArg Host.Outcome.next ((if_neg (by simp [hex, hrun])).trans ((if_pos hk).trans (if_neg (by
        rw [← fifoTold, hport]
        simpa using hfifo))))
    refine completes_of hexec ⟨?_, ?_, ?_⟩
    · rw [netPort_inc, popHead_fifo, hport]
    · rw [rd_inc_same, popHead, rd_pauseCheck (by simp only [Reg.NET_CNT]; omega), rd_setPort, rd_fifoTold (recCnt_netCnt hk (by decide))]
    · refine inc_holds _ _ _ _ _ ?_
      rw [stkSet, stk_of_seen (popHead_seen k _ ((le_butStk _ _ _ _ _ _).2 (by decide)))]
      exact fifoTold_sets k s
  · have hport : netPort (fifoTold (n + 4) s) n = netPort s n := netPort_of_net (fifoTold_net (n + 4) s) n
    have hexec : exec (.fifoUe (n + 4)) s = .next (fifoDrop (n + 4) (fifoTold (n + 4) s)) :=
      congrArg Host.Outcome.next ((if_neg (by simp [hex, hrun])).trans ((if_neg (by omega)).trans ((if_pos (by omega)).trans (if_pos (by
        rw [← fifoTold, Nat.add_sub_cancel, hport, htx]
        rfl)))))
    refine completes_of (hexec.trans (congrArg Host.Outcome.next (fifoDrop_sent hn (hport ▸ htx)))) ⟨txGone f _, ?_⟩
    rw [stkSet, stk_of_seen (discardFrame_seen f _ ((le_butStk _ _ _ _ _ _).2 (by decide)))]
    exact fifoTold_sets _ s
  · have hex : fifoExists s k = true := by simp [fifoExists, hhi, show ¬k < 8 by omega]
    have hexec : exec (.fifoUe k) s = .next (fifoDrop k (fifoTold k s)) :=
      congrArg Host.Outcome.next ((if_neg (by simp [hex, hrun])).trans ((if_neg (by omega)).trans (if_neg (by omega))))
    refine completes_of hexec ⟨fifoDrop_waits (fun h => absurd h (by omega)) (fun _ h => absurd h (by omega)) fun _ => ?_, ?_⟩
    · rw [fifo_of_crp (fifoTold_crp k s), hempty]
    · rw [fifoDrop, if_neg (by omega), if_neg (by omega)]
      exact fifoTold_sets k s
  · have hexec : exec (.heartbeatReceive f ok) s = .next (hbMissed 1 (setPai { s.pai with
        pathA := { s.pai.pathA with missing := s.pai.pathA.missing + 1, good := 0 } } (dropTaken 10 s))) := by
      show execHeartbeatReceive f ok s = _
      simp [execHeartbeatReceive, hup, hdrop]
      rfl
    refine completes_of hexec ⟨?_, ?_, ?_, ?_⟩
    · show dropsNext (dropTaken 10 s) 10 = false
      rw [dropsNext, dropTaken, fifo_setFifo_same]
    · rw [hbMissed_pai]
      rfl
    · rw [hbMissed_pai]
      rfl
    · exact rd_hbMissed 1 _
  · have hexec : exec (.dumpDelivery u) s = .next (perf 0x101 1 (dumpLost ch b (dropTaken 16 (dumpTaken u l s)))) := by
      show execDumpDelivery u s = _
      rw [execDumpDelivery, hdumps]
      exact congrArg Host.Outcome.next (if_pos hdrop)
    obtain ⟨hqueue, hcrp⟩ := dumpLost_keeps ch b (dropTaken 16 (dumpTaken u l s))
    obtain ⟨hcor, hpcrp⟩ := perf_parts 0x101 1 (dumpLost ch b (dropTaken 16 (dumpTaken u l s)))
    refine completes_of hexec ⟨?_, ?_, ?_, ?_⟩
    · rw [corUnit, hcor, ← corUnit, corUnit_dumpLost]
      exact congrArg CorUnit.dumps (setUnit_same u _ s)
    · rw [hcor, hqueue]
      rfl
    · rw [dropsNext, fifo_of_crp hpcrp, fifo_of_crp hcrp, dropTaken, fifo_setFifo_same]
    · rw [ctx_of_cor hcor, ctx_dumpLost]
end

section
/-! SUPPORT. The modes that a command asks for (R404, R408, R411). -/
namespace Sys2Proof.Machine
open Sys2Proof.Safety

/-- A write for its own target, with the key, in a mode whose row allows it. -/
theorem modeCmd_of_ok {t : Nat} {w : Word} {ok : Bool} {run : State → State} {s : State} (ht : bits w 2 0 = t) (hkey : bits w 31 24 = 0x4D)
    (hok : ok = true) : modeCmd t w ok run s = run s := by
  rw [modeCmd, if_neg (by simp [ht]), if_pos (by simp [hkey, hok])]

theorem modeCmd_of_wrongKey {t : Nat} {w : Word} {ok : Bool} {run : State → State} {s : State} (ht : bits w 2 0 = t) (hkey : bits w 31 24 ≠ 0x4D) :
    modeCmd t w ok run s = modeRefused s := by
  rw [modeCmd, if_neg (by simp [ht]), if_neg (by simp [hkey])]

theorem mode_setMode (m : Mode) (s : State) : (setMode m s).crp.mode = m := by rw [setMode_crp]

theorem servingMode_mode {s : State} (h : s.tim.state ≠ .holdover) : (servingMode s).crp.mode = if antQualifies s then .serve else .survey := by
  rw [servingMode]
  dsimp only
  rw [if_neg h, mode_setMode]

theorem toSnapshot_enters (s : State) :
    (toSnapshot s).crp.mode = .snapshot ∧ (toSnapshot s).crp.swapWait = 0 ∧ (toSnapshot s).nfl.latch = .latched := by
  have hcrp (a : Acq) (t : State) : (setAcq a t).crp = t.crp ∧ (setAcq a t).nfl = t.nfl := ⟨rfl, rfl⟩
  have hnfl (m : Mode) (t : State) : (setMode m t).nfl = t.nfl := part_of_seen (p := .nfl) (setMode_seen m t (by simp))
  rw [toSnapshot]
  dsimp only
  rw [(hcrp _ _).1, (hcrp _ _).2, setMode_crp, hnfl, setCrp_crp]
  exact ⟨rfl, rfl, nfTrigger_latched 12 s⟩

theorem toMaintain_enters (s : State) : (toMaintain s).crp.mode = .maintain ∧ (toMaintain s).nfl.latch = .latched := by
  refine ⟨?_, nfTrigger_latched _ _⟩
  rw [toMaintain, (nfTrigger_keeps _ _).1, (timCheckBound_keeps _).1, adoptTime_crp, mode_setMode]

theorem toDormant_enters (s : State) :
    (toDormant s).crp.mode = s.crp.mode ∧ (toDormant s).crp.pmuEn = false ∧ Output.pin 2 false ∈ (toDormant s).io.out := by
  have hemit (o : Output) (t : State) : (emit o t).crp = t.crp ∧ (emit o t).io.out = o :: t.io.out := ⟨rfl, rfl⟩
  refine ⟨(toDormant_modes s).1, ?_, ?_⟩
  · rw [toDormant, (hemit _ _).1, setCrp_crp]
  · rw [toDormant, (hemit _ _).2]
    exact List.mem_cons_self

theorem resetPins_keeps (claim : Bool) (s : State) : (resetPins claim [] s).crp = s.crp ∧ (resetPins claim [] s).dsp = s.dsp := by
  unfold resetPins
  dsimp only
  split <;> exact ⟨rfl, rfl⟩

theorem releaseDue_crp_dsp (s : State) : (releaseDue s).crp = s.crp ∧ (releaseDue s).dsp = s.dsp := ⟨rfl, rfl⟩

/-- What a power-down into SNAPSHOT leaves powered. -/
theorem snapPowerDown_powers (s : State) : (snapPowerDown s).crp.snapDown = true ∧ (snapPowerDown s).crp.mode = s.crp.mode ∧
    (snapPowerDown s).crp.pd = [(0, .on), (1, .on), (2, .on), (3, .on)] ∧ (snapPowerDown s).dsp = Dsp.reset := by
  rw [snapPowerDown]
  dsimp only
  rw [(resetPins_keeps _ _).1, (resetPins_keeps _ _).2, (releaseDue_crp_dsp _).1, (releaseDue_crp_dsp _).2]
  dsimp only
  rw [commitOpen_crp]
  exact ⟨rfl, rfl, rfl, rfl⟩

theorem wakeStart_boots (s : State) : (wakeStart s).crp.mode = .boot ∧ (wakeStart s).crp.booting = true ∧
    (wakeStart s).crp.wake = if snapTimer s then 3 else 2 := by
  rw [wakeStart]
  dsimp only
  rw [startKeys_crp, setCrp_crp]
  exact ⟨rfl, rfl, rfl⟩

end Sys2Proof.Machine
end
section
open Sys2Proof Sys2Proof.Machine Sys2Proof.Safety
/-- Settles O45: each write with its key, in a mode whose row allows it, enters the mode that it asks for. -/
theorem modeCommandsComplete : Obligations.ModeCommandsComplete := by
  refine ⟨fun s w ht hkey hmode => ?_, fun s w ht hkey hmode hset => ?_, fun s w ht hkey hmode => ?_, fun s w ht hkey hmode hrec hpair htim => ?_,
    fun s w ht hkey hmode => ?_, fun s w ht hkey hmode => ?_, fun s w ht hkey => ?_, fun s a hmode hat hdown hdue => ?_, fun s hmode => ?_⟩
  · obtain ⟨hkept, hpmu, hout⟩ := toDormant_enters s
    exact completes_of (congrArg Host.Outcome.next (modeCmd_of_ok ht hkey (by simp [hmode]))) ⟨hkept.trans hmode, hpmu, hout⟩
  · exact completes_of (congrArg Host.Outcome.next ((modeCmd_of_ok ht hkey (by simp [hmode, hset])).trans (if_neg (by simp [hmode]))))
      (mode_setMode _ _)
  · exact completes_of (congrArg Host.Outcome.next ((modeCmd_of_ok ht hkey (by simp [hmode])).trans (if_neg (by simp [hmode])))) (mode_setMode _ _)
  · exact completes_of (congrArg Host.Outcome.next ((modeCmd_of_ok ht hkey (by simp [maintainEnds, hmode, hrec])).trans
      ((if_pos hmode).trans (if_neg (by simp [hpair]))))) (servingMode_mode htim)
  · exact completes_of (congrArg Host.Outcome.next (modeCmd_of_ok ht hkey hmode)) (toSnapshot_enters s)
  · exact completes_of (congrArg Host.Outcome.next (modeCmd_of_ok ht hkey hmode)) (toMaintain_enters s)
  · exact completes_of (congrArg Host.Outcome.next (modeCmd_of_wrongKey ht hkey)) ⟨rfl, rfl, sticky_sets _ (by decide) _⟩
  · have hexec : exec .snapshotPowerDown s = .next (snapPowerDown s) := by
      show execSnapshotPowerDown s = _
      simp only [execSnapshotPowerDown, hat, hmode, hdown, hdue, and_self, if_true]
    obtain ⟨hsnap, hkept, hpd, hdsp⟩ := snapPowerDown_powers s
    exact completes_of hexec ⟨hsnap, hkept.trans hmode, hpd, hdsp⟩
  · exact completes_of (congrArg Host.Outcome.next (if_pos hmode)) (wakeStart_boots s)
end

section
/-! SUPPORT. Power requests, ramps and the swap of configuration sets (R412, R413, R418 to R420). -/
namespace Sys2Proof.Machine
open Sys2Proof.Safety

/-! ### Power requests -/

theorem bitAt_oneHot_ne {b k : Nat} (h : k ≠ b) : bitAt (oneHot b) k = false := by
  rw [bitAt, oneHot, BitVec.getLsbD_ofNat, Nat.testBit_two_pow_of_ne (Ne.symm h), Bool.and_false]

theorem pwrBit_same {old new : Word} {s : State} {b : Nat} (h : bitAt old b = bitAt new b) : pwrBit old new s b = s := by
  rw [pwrBit]
  cases hb : bitAt new b <;> simp [h, hb]

/-- A request that changes one bit acts on that bit's domain alone. -/
theorem pwrBits_one {old new : Word} {b : Nat} (hb : b < 10) (h : ∀ k ≠ b, bitAt old k = bitAt new k) (s : State) :
    (List.range 10).foldl (pwrBit old new) s = pwrBit old new s b :=
  foldl_once (P := fun t => t = s) (Q := fun t => t = pwrBit old new s b) (List.mem_range.2 hb) List.nodup_range
    (fun t k hk ht => (pwrBit_same (h k hk)).trans ht) (fun t ht => by rw [ht]) (fun t k hk ht => (pwrBit_same (h k hk)).trans ht) rfl

theorem bitAt_and (w v : Word) (k : Nat) : bitAt (w &&& v) k = (bitAt w k && bitAt v k) := BitVec.getLsbD_and

theorem bitAt_not {w : Word} {k : Nat} (hk : k < 32) : bitAt (~~~w) k = !bitAt w k := by simp [bitAt, hk]

theorem bitAt_dropped {old : Word} {b k : Nat} (h : k ≠ b) : bitAt old k = bitAt (old &&& ~~~(oneHot b)) k := by
  by_cases hk : k < 32
  · rw [bitAt_and, bitAt_not hk, bitAt_oneHot_ne h, Bool.not_false, Bool.and_true]
  · rw [bitAt, bitAt, BitVec.getLsbD_of_ge _ _ (Nat.not_lt.1 hk), BitVec.getLsbD_of_ge _ _ (Nat.not_lt.1 hk)]

theorem bitAt_dropped_self (old : Word) {b : Nat} (hb : b < 32) : bitAt (old &&& ~~~(oneHot b)) b = false := by
  rw [bitAt_and, bitAt_not hb, bitAt_oneHot hb, Bool.not_true, Bool.and_false]

theorem bitAt_added {old : Word} {b k : Nat} (h : k ≠ b) : bitAt old k = bitAt (old ||| oneHot b) k := by
  rw [bitAt_or, bitAt_oneHot_ne h, Bool.or_false]

theorem bitAt_added_self (old : Word) {b : Nat} (hb : b < 32) : bitAt (old ||| oneHot b) b = true := by
  rw [bitAt_or, bitAt_oneHot hb, Bool.or_true]

theorem dropped_added {old : Word} {b : Nat} (hb : b < 32) (h : bitAt old b = true) : old &&& ~~~(oneHot b) ||| oneHot b = old := by
  refine BitVec.eq_of_getLsbD_eq fun k _ => ?_
  by_cases hkb : k = b
  · subst hkb
    exact (bitAt_added_self _ hb).trans h.symm
  · exact (bitAt_added hkb).symm.trans (bitAt_dropped hkb).symm

theorem pwrBit_down {old new : Word} {s : State} {b : Nat} (hwas : bitAt old b = true) (hnow : bitAt new b = false)
    (hok : pwrRefused s b = false) (hon : pdState s (pwrDomain b) = .on) (hpipe : b = 4 → s.acq.pipe = []) :
    pdState (pwrBit old new s b) (pwrDomain b) = .isolated := by
  have hkept : ¬(b = 4 ∧ s.acq.pipe ≠ []) := fun h => h.2 (hpipe h.1)
  rw [pwrBit]
  simp only [hwas, hnow, hok, hon, hkept, Bool.not_false, Bool.and_self, if_true, if_false, ne_eq, not_true_eq_false, false_and, Bool.false_eq_true]
  exact pdState_setPd _ _ _

theorem pwrBit_refused {old new : Word} {s : State} {b : Nat} (hwas : bitAt old b = true) (hnow : bitAt new b = false)
    (hno : pwrRefused s b = true) :
    pwrBit old new s b = sticky Reg.CRP_PWR_STICKY 0 (wr Reg.CRP_PWR_REQ (rd s Reg.CRP_PWR_REQ ||| oneHot b) s) := by
  rw [pwrBit]
  simp only [hwas, hnow, hno, Bool.not_false, Bool.and_self, if_true]

theorem pwrBit_up {old new : Word} {s : State} {b : Nat} (hwas : bitAt old b = false) (hnow : bitAt new b = true)
    (hmode : s.crp.mode ≠ .boot) (hoff : pdState s (pwrDomain b) = .off) : pdState (pwrBit old new s b) (pwrDomain b) = .ramping := by
  have hwaits (v : Bool) : pdState (setCrp { s.crp with acqDownWaits := v } s) (pwrDomain b) = .off := hoff
  rw [pwrBit]
  simp only [hwas, hnow, Bool.not_true, Bool.not_false, Bool.and_self, Bool.false_eq_true, if_true, if_false]
  split
  · rw [if_neg (by rw [hwaits, setCrp_crp]; simp [hmode])]
    exact pdState_setPd _ _ _
  · rw [if_neg (by simp [hoff, hmode])]
    exact pdState_setPd _ _ _

/-! ### The swap of configuration sets -/

theorem Tab.lt_of_above {α : Type} [DecidableEq α] {d : Nat → α} {t : Tab α} {k : Nat} (h : Tab.above d (some k) t = true) :
    ∀ e ∈ t, k < e.1 := by
  induction t generalizing k with
  | nil => simp
  | cons x t ih =>
    simp only [Tab.above, Bool.and_eq_true, decide_eq_true_eq] at h
    obtain ⟨⟨hk, -⟩, ht⟩ := h
    rintro e (_ | ⟨_, he⟩)
    · exact hk
    · exact hk.trans (ih ht e he)

/-- Entries in order, written over a table that has none of them. -/
theorem Tab.get_foldl_put {l : Tab Word} {lo : Option Nat} (h : Tab.above RegMap.reset lo l = true) {t : Tab Word} {a : Nat}
    (ha : Tab.get RegMap.reset t a = RegMap.reset a) :
    Tab.get RegMap.reset (l.foldl (fun t e => Tab.put RegMap.reset t e.1 e.2) t) a = Tab.get RegMap.reset l a := by
  induction l generalizing t lo with
  | nil => exact ha
  | cons e l ih =>
    simp only [Tab.above, Bool.and_eq_true] at h
    obtain ⟨-, hl⟩ := h
    rw [List.foldl_cons, Tab.get]
    by_cases hea : e.1 = a
    · subst hea
      rw [if_pos rfl, Tab.get_foldl_put_of_not_mem fun x hx => (Tab.lt_of_above hl x hx).ne', Tab.get_put_same]
    · rw [if_neg hea]
      exact ih hl ((Tab.get_put_ne _ _ _ (Ne.symm hea)).trans ha)

theorem rd_swapRegs {sets : BitVec 8} {s : State} {a : Nat} (ha : inSets sets a = true) (hwf : Tab.wf RegMap.reset s.bank.shadow = true) :
    rd (swapRegs sets s) a = shadow s a := by
  have hkept : Tab.get RegMap.reset (s.bank.regs.filter fun e => !inSets sets e.1) a = RegMap.reset a := by
    rw [Tab.get_filter _ fun a => !inSets sets a]
    simp [ha]
  refine (Tab.get_foldl_put (Tab.above_filter _ _ _ _ hwf) hkept).trans ?_
  rw [Tab.get_filter _ fun a => inSets sets a]
  simp [ha, shadow]

/-- What follows a swap writes no register of a set. -/
theorem setOf_written {a : Nat} (h : among [allNetCnt, one Reg.NFL_REFUSE, nflCnt, recCnt, one Reg.DSP_HELD_MAX, dspCnt] a = true) : setOf a = none := by
  simp only [among_cons, among_nil, Bool.or_false, allNetCnt, netCnt, nflCnt, recCnt, dspCnt, one, words, Bool.or_eq_true, List.any_eq_true,
    decide_eq_true_eq, List.mem_range] at h
  obtain ⟨n, hn, k, hk, rfl⟩ | rfl | ⟨k, hk, rfl⟩ | ⟨k, hk, rfl⟩ | rfl | ⟨k, hk, rfl⟩ := h
  · revert n k
    decide
  · decide
  · revert k
    decide
  · revert k
    decide
  · decide
  · revert k
    decide

theorem rd_afterSwap {sets : BitVec 8} {a : Nat} (ha : inSets sets a = true) (old s : State) : rd (afterSwap old s) a = rd s a := by
  have hout : among [allNetCnt, one Reg.NFL_REFUSE, nflCnt, recCnt, one Reg.DSP_HELD_MAX, dspCnt] a = false := by
    rw [← Bool.not_eq_true]
    intro h
    simp [inSets, setOf_written h] at ha
  exact rd_of_seen (afterSwap_seen old s ((le_butReg _ _ _ _ _ _).2 hout))

theorem mirror_crp (r : MirrorRec) (s : State) : (mirror r s).crp = s.crp := part_of_seen (p := .crp) (mirror_seen r s (by simp))

theorem swapSets_swaps {sets : BitVec 8} {s : State} {a : Nat} (ha : inSets sets a = true) (hwf : Tab.wf RegMap.reset s.bank.shadow = true) :
    rd (swapSets sets s) a = shadow s a ∧ (swapSets sets s).crp.swaps = s.crp.swaps + 1 := by
  have hcrp (c : Crp) (t : State) : rd (setCrp c t) a = rd t a := rfl
  have hnotice (g : Nat) (t : State) : rd (notice g t) a = rd t a ∧ (notice g t).crp = t.crp := ⟨rfl, rfl⟩
  rw [swapSets]
  dsimp only
  split
  · rw [(hnotice _ _).1, (hnotice _ _).2, rd_afterSwap ha, afterSwap_crp, hcrp, rd_swapRegs ha hwf, setCrp_crp]
    exact ⟨rfl, rfl⟩
  · rw [rd_mirror, mirror_crp, (hnotice _ _).1, (hnotice _ _).2, rd_afterSwap ha, afterSwap_crp, hcrp, rd_swapRegs ha hwf, setCrp_crp]
    exact ⟨rfl, rfl⟩

theorem swapAllowed_of_active {sets : BitVec 8} {s : State} (h : s.crp.mode ≠ .standby) : swapAllowed sets s = sets := if_neg h

theorem refuseSwap_refuses (blocks : List (Nat × Nat)) (s : State) :
    (refuseSwap blocks s).bank = s.bank ∧ (refuseSwap blocks s).crp = s.crp ∧ stkSet (refuseSwap blocks s) Reg.CRP_STICKY 6 := by
  refine ⟨by simp, by simp, ?_⟩
  exact foldl_holds (fun t b => stickyIf_holds _ _ _ t) _ _ _ _ (sticky_sets _ (by decide) s)

theorem swapWarned_bank (c : Prop) [Decidable c] (s : State) : (if c then paiSticky 11 s else s).bank = s.bank := by
  split
  · simp [paiSticky]
  · rfl

/-- A swap asked of a unit that is no standby. -/
theorem execCfgSwap_active {w : Word} {s : State} (hgo : bitAt w 31 = true) (hmode : s.crp.mode ≠ .standby) (hwait : s.crp.swapWait = 0) :
    exec (.cfgSwap w) s = .next (
      let sets := BitVec.ofNat 8 (bits w 7 0)
      if !(forbiddenIn sets s).isEmpty then refuseSwap (forbiddenIn sets s) s
      else if sets = 0 then s
      else if bitAt w 8 || sets.getLsbD 2 then setCrp { s.crp with swapWait := sets } s
      else swapSets sets s) := by
  show execCfgSwap w s = _
  simp only [execCfgSwap, swapAllowed_of_active hmode, hgo, hwait, ne_eq, not_true_eq_false, if_false, Bool.not_true, Bool.false_eq_true]

end Sys2Proof.Machine
end
section
open Sys2Proof Sys2Proof.Machine Sys2Proof.Safety
/-- Settles O46: one bit of a request moves its domain alone; a swap takes the shadow of its sets, waits for its moment, or is refused. -/
theorem powerAndSwapsComplete : Obligations.PowerAndSwapsComplete := by
  refine ⟨fun s w b => ?_, fun s w b => ?_, fun s w b => ?_, fun s k h => ?_, fun s k h => ?_, fun s w a => ?_, fun s w => ?_, fun s w hgo hwait => ?_,
    fun s w => ?_⟩
  · intro old hb hwas hw hok hon hpipe
    refine completes_of (congrArg Host.Outcome.next (pwrBits_one hb (fun k hk => ?_) _)) (pwrBit_down hwas ?_ hok hon hpipe)
    · exact (bitAt_dropped hk).trans (congrArg (bitAt · k) hw.symm)
    · exact (congrArg (bitAt · b) hw).trans (bitAt_dropped_self _ (by omega))
  · intro old hb hwas hw hno
    refine completes_of (congrArg Host.Outcome.next ((pwrBits_one hb (fun k hk => ?_) _).trans (pwrBit_refused hwas ?_ hno)))
      ⟨rfl, ?_, sticky_sets _ (by decide) _⟩
    · exact (bitAt_dropped hk).trans (congrArg (bitAt · k) hw.symm)
    · exact (congrArg (bitAt · b) hw).trans (bitAt_dropped_self _ (by omega))
    · rw [rd_sticky, rd_wr_same, rd_wr_same, hw, dropped_added (by omega) hwas]
  · intro old hb hwas hw hmode hoff
    refine completes_of (congrArg Host.Outcome.next (pwrBits_one hb (fun k hk => ?_) _)) (pwrBit_up hwas ?_ hmode hoff)
    · exact (bitAt_added hk).trans (congrArg (bitAt · k) hw.symm)
    · exact (congrArg (bitAt · b) hw).trans (bitAt_added_self _ (by omega))
  · have hexec : exec (.powerRampDone k) s = .next (setPd k .off s) := by
      show execPowerRampDone k s = _
      rw [execPowerRampDone, h]
    exact completes_of hexec (pdState_setPd _ _ _)
  · have hexec : exec (.powerRampDone k) s = .next (setPd k .on (domainReset k s)) := by
      show execPowerRampDone k s = _
      rw [execPowerRampDone, h]
    exact completes_of hexec (pdState_setPd _ _ _)
  · intro sets hgo hmode hwait hok hnow hwaits ha hwf
    have hsome : sets ≠ 0 := fun h => by
      have hnone (x : Nat) : inSets 0 x = false := by
        unfold inSets
        split <;> simp
      rw [h, hnone] at ha
      exact Bool.false_ne_true ha
    refine completes_of ((execCfgSwap_active hgo hmode hwait).trans (congrArg Host.Outcome.next ?_)) (swapSets_swaps ha hwf)
    exact (if_neg (by simp [sets, hok])).trans ((if_neg hsome).trans (if_neg (by rw [hnow, Bool.false_or]; exact Bool.eq_false_iff.1 hwaits)))
  · intro sets hgo hmode hwait hok hnow
    by_cases hsets : sets = 0
    · refine completes_of ((execCfgSwap_active hgo hmode hwait).trans (congrArg Host.Outcome.next ?_)) ⟨hwait.trans hsets.symm, rfl⟩
      exact (if_neg (by simp [sets, hok])).trans (if_pos hsets)
    · refine completes_of (t := setCrp { s.crp with swapWait := sets } s)
        ((execCfgSwap_active hgo hmode hwait).trans (congrArg Host.Outcome.next ?_)) ⟨rfl, rfl⟩
      exact (if_neg (by simp [sets, hok])).trans ((if_neg hsets).trans (if_pos (by rw [hnow, Bool.true_or])))
  · obtain ⟨t, ht, hexec⟩ : ∃ t : State, t.bank = s.bank ∧ exec (.cfgSwap w) s = .next (crpReject t) := by
      refine ⟨_, swapWarned_bank (swapAllowed (BitVec.ofNat 8 (bits w 7 0)) s ≠ BitVec.ofNat 8 (bits w 7 0)) s, ?_⟩
      refine congrArg Host.Outcome.next ((if_neg (by simp [hgo])).trans (if_pos ?_))
      split
      · simpa [paiSticky] using hwait
      · exact hwait
    refine completes_of hexec ⟨?_, sticky_sets _ (by decide) _⟩
    rw [← ht]
    rfl
  · intro sets hgo hmode hwait hbad
    refine completes_of ((execCfgSwap_active hgo hmode hwait).trans (congrArg Host.Outcome.next (if_pos ?_))) (refuseSwap_refuses _ _)
    simpa [sets] using hbad
end

section
/-! SUPPORT. What a change of life cycle leaves of the images and OTP (R428). -/
namespace Sys2Proof.Machine
open Sys2Proof.Safety

/-- The images, OTP and the store, but for the number of the latch in the store. -/
def unlatched (u : Upd) : Upd := { u with nv := { u.nv with latchId := 0 } }

theorem dropAllGrants_upd (s : State) : (dropAllGrants s).upd = s.upd := part_of_seen (p := .upd) (dropAllGrants_seen s (by simp))

theorem nfLatch_upd (cause : Nat) (extra : List Byte) (s : State) : unlatched (nfLatch cause extra s).upd = unlatched s.upd := by
  have hlatch : (nfLatch cause extra s).upd = (dropAllGrants (latchMark cause s)).upd := by simp [nfLatch_eq, latchCounted]
  rw [hlatch, dropAllGrants_upd]
  rfl

theorem triggerSeen_upd (s : State) : (triggerSeen s).upd = s.upd := by
  have hset (n : Nfl) (t : State) : (setNfl n t).upd = t.upd := rfl
  rw [triggerSeen, hset]
  exact part_of_seen (p := .upd) (refuseByTrigger_seen s (by simp))

theorem nfTrigger_upd (cause : Nat) (s : State) : unlatched (nfTrigger cause s).upd = unlatched s.upd := by
  have htell (t : State) : (nfTellPeer cause t).upd = t.upd := part_of_seen (p := .upd) (nfTellPeer_seen cause t (by simp))
  have hmirror (t : State) : (mirrorNfl t).upd = t.upd := part_of_seen (p := .upd) (mirrorNfl_seen t (by simp))
  have hagain (t : State) : (nfAgain cause [] t).upd = t.upd := part_of_seen (p := .upd) (nfAgain_seen cause [] t (by simp))
  rw [nfTrigger, htell, nfTriggerWith_eq, ← triggerSeen_upd s]
  generalize triggerSeen s = t
  split
  · exact nfLatch_upd _ _ _
  · exact nfLatch_upd _ _ _
  · rw [hmirror, hagain]
  · rw [hmirror]
    rfl

theorem keyLossCheck_upd (s : State) : unlatched (keyLossCheck s).upd = unlatched s.upd := by
  have hset (n : Nfl) (t : State) : (setNfl n t).upd = t.upd := rfl
  unfold keyLossCheck
  dsimp only
  split
  · split <;> rfl
  · rw [hset]
    unfold keyGrace
    split
    · rw [nfTrigger_upd, hset]
    · rfl

theorem keysChanged_upd (old s : State) : unlatched (keysChanged old s).upd = unlatched s.upd := by
  have hmismatch (t : State) : (mismatchCheck old t).upd = t.upd := part_of_seen (p := .upd) (mismatchCheck_seen old t (by simp))
  have hmirror (t : State) : (mirrorKeys t).upd = t.upd := part_of_seen (p := .upd) (mirrorKeys_seen t (by simp))
  rw [keysChanged, hmismatch, keyLossCheck_upd, hmirror]

theorem keysChanged_key (old s : State) : (keysChanged old s).key = s.key := part_of_seen (p := .key) (keysChanged_seen old s (by simp))

theorem of_unlatched {u v : Upd} (h : unlatched u = unlatched v) : u.lcField = v.lcField ∧ u.imageKey = v.imageKey := by
  cases u
  cases v
  simp only [unlatched, Upd.mk.injEq] at h
  simp [h]

/-- The slots are empty, in the store as in the key RAM. -/
def slotsEmptied (f : BitVec 128) (s : State) : State :=
  sticky Reg.KEY_STICKY 1 (setKey { s.key with slot := [], nvSlot := [], nvLc := lcCode f, nvOk := true } { s with upd := { s.upd with lcField := f } })

theorem slotsEmptied_parts (f : BitVec 128) (s : State) :
    (slotsEmptied f s).upd = { s.upd with lcField := f } ∧ (slotsEmptied f s).key.slot = [] := ⟨rfl, rfl⟩

theorem lcChange_eq (f : BitVec 128) (s : State) : lcChange f s = keysChanged s (slotsEmptied f s) := rfl

/-- A change of life cycle empties every slot. -/
theorem lcChange_changes (f : BitVec 128) (s : State) :
    (lcChange f s).upd.lcField = f ∧ (lcChange f s).upd.imageKey = s.upd.imageKey ∧ (lcChange f s).key.slot = [] := by
  obtain ⟨hupd, hslot⟩ := slotsEmptied_parts f s
  obtain ⟨hfield, hkey⟩ := of_unlatched (keysChanged_upd s (slotsEmptied f s))
  rw [lcChange_eq, hfield, hkey, hupd, keysChanged_key]
  exact ⟨rfl, rfl, hslot⟩

/-- The digest of the images' key, as PROVISION takes it. -/
def imageKeyTaken (k : BitVec 384) (s : State) : State := { s with upd := { s.upd with imageKey := k } }

/-- The digest of the first owner, as PROVISION takes it. -/
def ownerTaken (k : BitVec 384) (s : State) : State := setKey { s.key with owner := Tab.put digestDef s.key.owner 0 k, ownerIdx := 0 } s

theorem taken_upd (k l : BitVec 384) (s : State) : (ownerTaken l (imageKeyTaken k s)).upd = { s.upd with imageKey := k } := rfl

/-- PROVISION past its checks. -/
def provisioned (s : State) : State :=
  let t := ownerTaken (provDigest (imageKeyTaken (provDigest s 0) s) 12) (imageKeyTaken (provDigest s 0) s)
  lcChange (lcSet 0 t.upd.lcField) t

theorem execProvision_provisions {s : State} {w : Word} (hone : bits w 1 0 = 1) (hok : lcCmdOk w s = true) :
    exec (.provision w) s = .next (provisioned s) := by
  have hnot : ¬bits w 1 0 = 2 := by omega
  have hrun : ¬(bits w 1 0 ≠ 1 ∨ lcCmdOk w s = false) := by simp [hone, hok]
  show execProvision w s = _
  rw [execProvision, if_neg hnot, if_neg hrun]
  rfl

theorem provision_provisions {s : State} {w : Word} (hone : bits w 1 0 = 1) (hok : lcCmdOk w s = true) : ∃ t, exec (.provision w) s = .next t ∧
    t.upd.lcField = lcSet 0 s.upd.lcField ∧ t.upd.imageKey = provDigest s 0 ∧ t.key.slot = [] := by
  refine ⟨_, execProvision_provisions hone hok, ?_⟩
  rw [provisioned]
  obtain ⟨hfield, hkey, hslot⟩ := lcChange_changes (lcSet 0 s.upd.lcField)
    (ownerTaken (provDigest (imageKeyTaken (provDigest s 0) s) 12) (imageKeyTaken (provDigest s 0) s))
  rw [taken_upd] at hkey ⊢
  exact ⟨hfield, hkey, hslot⟩

end Sys2Proof.Machine
end
section
open Sys2Proof Sys2Proof.Machine Sys2Proof.Safety
/-- Settles O47: confirmation, the floor, the configuration store, a generation programmed or refused, and the two last life cycles. -/
theorem storesComplete : Obligations.StoresComplete := by
  refine ⟨fun s w hgo hdone => ?_, fun s w hgo hnot => ?_, fun s w i hgo hfloor hlc hactive => ?_, fun s w hgo => ?_, fun s w hgo hkey hmode hlc hroom => ?_,
    fun s w hgo hkey hmode hlc hroom => ?_, fun s w v hgo hbad => ?_, fun s w hone hok => ?_, fun s w htwo hok => ?_, fun s w htwo hbad => ?_⟩
  · exact completes_of (congrArg Host.Outcome.next (if_neg (by simp [hdone]))) rfl
  · exact completes_of (congrArg Host.Outcome.next (if_pos (by simp [hgo, hnot]))) ⟨rfl, rfl, rfl⟩
  · have hexec : exec (.raiseFloor w) s = .next (setUpd { s.upd with
        floorBits := s.upd.floorBits ||| BitVec.ofNat 1024 (2 ^ min i.svn 1024 - 1), floorVbat := max s.upd.floorVbat i.svn } s) := by
      show execRaiseFloor w s = _
      simp only [execRaiseFloor, hgo, hfloor, hlc, hactive, Bool.not_true, Bool.or_self, Bool.false_eq_true, if_false]
    exact completes_of hexec ⟨rfl, rfl⟩
  · exact completes_of (congrArg Host.Outcome.next (if_pos hgo)) ⟨rfl, rfl⟩
  · exact completes_of (congrArg Host.Outcome.next ((if_neg (by simp [hgo])).trans ((if_neg (by simp [hkey, hmode, hlc])).trans
      ((if_neg (Nat.not_le.2 hroom)).trans (if_pos rfl))))) rfl
  · exact completes_of (congrArg Host.Outcome.next ((if_neg (by simp [hgo])).trans ((if_neg (by simp [hkey, hmode, hlc])).trans
      ((if_neg (Nat.not_le.2 hroom)).trans (if_neg (by decide)))))) ⟨rfl, sticky_sets _ (by decide) _⟩
  · exact completes_of (congrArg Host.Outcome.next ((if_neg (by simp [hgo])).trans (if_pos hbad))) ⟨rfl, sticky_sets _ (by decide) _⟩
  · obtain ⟨t, hexec, h⟩ := provision_provisions hone hok
    exact completes_of hexec h
  · obtain ⟨hfield, -, hslot⟩ := lcChange_changes (lcSet 127 s.upd.lcField) s
    exact completes_of (congrArg Host.Outcome.next ((if_neg (by simp [htwo])).trans (if_pos hok))) ⟨hfield, hslot⟩
  · exact completes_of (congrArg Host.Outcome.next ((if_neg (by simp [htwo])).trans (if_neg (by simp [hbad]))))
      ⟨rfl, rfl, sticky_sets _ (by decide) _⟩
end

section
/-! SUPPORT. Staging sessions of the host and of the peer (R423, R424). -/
namespace Sys2Proof.Machine
open Sys2Proof.Safety

/-! ### What a staging command reads and writes -/

/-- The parts of the device that staging reads stand. -/
def SameStage (s u : State) : Prop := u.upd = s.upd ∧ u.tim = s.tim ∧ u.grade = s.grade

theorem sameStage_countInherited (j : Job) (s : State) : SameStage s (countInherited j s) :=
  ⟨part_of_seen (p := .upd) (countInherited_seen j s (by simp)), part_of_seen (p := .tim) (countInherited_seen j s (by simp)),
    part_of_seen (p := .grade) (countInherited_seen j s (by simp))⟩

/-- A command of executor 6 leaves in the store what its own action left there. -/
theorem withCmd_upd {op : Nat} {f : List Byte → State → State × Nat × List Byte} {s : State} {j : Job} {c : Cmd}
    (hj : pickJob s 6 (fun _ => true) = some j) (hc : j.cmd = some c) (hop : c.opcode = op) :
    ∃ u, SameStage s u ∧ (withCmd 6 op f s).upd = (f (cmdBody j) u).1.upd := by
  have hend (t : State) : (endJob j.id t).upd = t.upd := part_of_seen (p := .upd) (endJob_seen _ t (by simp))
  have hcpl (code : Nat) (d : List Byte) (t : State) : (complete c code d t).upd = t.upd :=
    part_of_seen (p := .upd) (completeOpt_seen (some c) code d t (by simp))
  refine ⟨countInherited j s, sameStage_countInherited j s, ?_⟩
  rw [withCmd_of_pick hj hc hop, hend, hcpl]

theorem hostSession_same {s u : State} (h : SameStage s u) (n : Nat) : hostSession u n = hostSession s n := by
  rw [hostSession, hostSession, h.1]

theorem imageStatus_same {s u : State} (h : SameStage s u) (i : Image) : imageStatus u i = imageStatus s i := by
  obtain ⟨hupd, -, hgrade⟩ := h
  rw [imageStatus, imageStatus, hupd, hgrade]

/-- A session that opens. -/
def opened (source len now : Nat) (u : Upd) : Upd :=
  { u with sessions := (u.sessions + 1) % 2 ^ 32, session := some ⟨(u.sessions + 1) % 2 ^ 32, source, len, [], now⟩, staging := .receiving,
           armed := false, stagingImg := none }

theorem openSession_upd (source len : Nat) (s : State) : (openSession source len s).upd = opened source len s.tim.now s.upd := rfl

/-- The session after a block that it took, good or bad. -/
def taken (x : Session) (k crc now : Nat) (d : List Byte) : Session :=
  { x with last := now, blocks := x.blocks.filter (fun b => b.1 ≠ k) ++ (if d.length = blockLen x k ∧ crc32c d = crc then [(k, d)] else []) }

theorem takeBlock_session (x : Session) (k crc : Nat) (d : List Byte) (s : State) :
    (takeBlock x k crc d s).upd.session = some (taken x k crc s.tim.now d) := by
  have hset (u : Upd) : (setUpd u s).upd = u := rfl
  rw [takeBlock, hset, taken]
  by_cases h : d.length = blockLen x k ∧ crc32c d = crc
  · simp [blockGood, h]
  · rw [if_neg h, if_neg (by simpa [blockGood] using h), List.append_nil]

theorem commitOf_passes {x : Session} {s : State} (hall : blockCount x ≤ x.blocks.length) (hok : imageStatus s (stagedImage x) = 0) :
    commitOf x s = (commitSession (stagedImage x) s, 0) := by
  have hcode : (if x.blocks.length < blockCount x then 0x81 else imageStatus s (stagedImage x)) = 0 := by rw [if_neg (Nat.not_lt.2 hall), hok]
  rw [commitOf, hcode, if_pos rfl]

theorem commitOf_fails {x : Session} {s : State} (hbad : x.blocks.length < blockCount x ∨ imageStatus s (stagedImage x) ≠ 0) :
    (commitOf x s).1 = failSession s := by
  refine if_neg ?_
  split
  · decide
  · exact hbad.resolve_left ‹_›

theorem commitSession_upd (i : Image) (s : State) :
    (commitSession i s).upd = { s.upd with session := none, staging := .verified, stagingImg := some i, armed := true } := rfl

theorem failSession_upd (s : State) : (failSession s).upd = { s.upd with session := none, staging := .invalid, stagingImg := none } := rfl

/-! ### The commands of the host -/

theorem stageOpen_opens {b : List Byte} {s : State} (hnone : s.upd.session = none) (hlen : lenOk (leAt b 0 4) = true) :
    (stageOpen b s).1.upd = opened 1 (leAt b 0 4) s.tim.now s.upd := by
  simp only [stageOpen, hnone, hlen, Option.isSome_none, Bool.not_true, Bool.false_eq_true, if_false, openSession_upd]

theorem stageBlock_takes {b d : List Byte} {s : State} {x : Session} (hx : hostSession s (leAt b 0 4) = some x) (hk : leAt b 4 2 < blockCount x)
    (hlen : leAt b 8 4 = blockLen x (leAt b 4 2)) :
    (stageBlock d b s).1.upd.session = some (taken x (leAt b 4 2) (leAt b 12 4) s.tim.now d) := by
  simp only [stageBlock, hx, hlen, Nat.not_le.2 hk, ne_eq, not_true_eq_false, or_self, if_false, takeBlock_session]

theorem stageCommit_commits {b : List Byte} {s : State} {x : Session} (hx : hostSession s (leAt b 0 4) = some x) :
    (stageCommit b s).1 = (commitOf x s).1 := by
  simp only [stageCommit, hx]

theorem stageAbort_fails {b : List Byte} {s : State} {x : Session} (hx : hostSession s (leAt b 0 4) = some x) :
    (stageAbort b s).1 = failSession s := by
  simp only [stageAbort, hx]

theorem execStageCommit_names {s : State} {j : Job} {n : Nat} (hj : pickJob s 6 (fun _ => true) = some j) (hn : leAt (cmdBody j) 0 4 = n) :
    exec (.stageCommit n) s = .next (withCmd 6 0x2A stageCommit s) := by
  refine congrArg Host.Outcome.next (if_pos ?_)
  simp [namesSession, hj, hn]

/-! ### The path to the peer -/

theorem foldl_emit (l : List α) (f : α → Output) (s : State) :
    (l.foldl (fun s a => emit (f a) s) s).io.out = (l.map f).reverse ++ s.io.out ∧ (l.foldl (fun s a => emit (f a) s) s).upd = s.upd := by
  induction l generalizing s with
  | nil => exact ⟨rfl, rfl⟩
  | cons a l ih =>
    obtain ⟨hout, hupd⟩ := ih (emit (f a) s)
    refine ⟨?_, hupd⟩
    rw [List.foldl_cons, hout, List.map_cons, List.reverse_cons, List.append_assoc]
    rfl

theorem emit_parts (o : Output) (s : State) : (emit o s).upd = s.upd ∧ (emit o s).io.out = o :: s.io.out := ⟨rfl, rfl⟩

theorem sendPush_eq (i : Image) (s : State) : sendPush i s = emit (.pair 6 (leBytes 4 i.totalLen)) ((pushBlocks i).foldl
    (fun s b => emit (.pair 8 (leBytes 2 b.1 ++ leBytes 4 b.2.1 ++ b.2.2)) s) (emit (.pair 5 (leBytes 4 i.totalLen)) s)) := rfl

theorem sendPush_sends (i : Image) (s : State) : (sendPush i s).upd = s.upd ∧ (sendPush i s).io.out = .pair 6 (leBytes 4 i.totalLen) ::
    ((pushBlocks i).map (fun b => Output.pair 8 (leBytes 2 b.1 ++ leBytes 4 b.2.1 ++ b.2.2))).reverse ++ .pair 5 (leBytes 4 i.totalLen) :: s.io.out := by
  obtain ⟨hout, hupd⟩ := foldl_emit (pushBlocks i) (fun b => Output.pair 8 (leBytes 2 b.1 ++ leBytes 4 b.2.1 ++ b.2.2))
    (emit (.pair 5 (leBytes 4 i.totalLen)) s)
  obtain ⟨hupd6, hout6⟩ := emit_parts (.pair 6 (leBytes 4 i.totalLen)) ((pushBlocks i).foldl
    (fun s b => emit (.pair 8 (leBytes 2 b.1 ++ leBytes 4 b.2.1 ++ b.2.2)) s) (emit (.pair 5 (leBytes 4 i.totalLen)) s))
  obtain ⟨hupd5, hout5⟩ := emit_parts (.pair 5 (leBytes 4 i.totalLen)) s
  rw [sendPush_eq, hupd6, hout6, hupd, hout, hupd5, hout5, List.cons_append]
  exact ⟨rfl, rfl⟩

end Sys2Proof.Machine
end
section
open Sys2Proof Sys2Proof.Machine Sys2Proof.Safety
/-- Settles O48: a session of the host or of the peer opens, takes blocks, and is committed, aborted or timed out; an image is pushed. -/
theorem stagingCompletes : Obligations.StagingCompletes := by
  refine ⟨fun s j c hj hc hop hnone hlen => ?_, fun s j c x d => ?_, fun s j c x n hj hc hop hn hx hall hok => ?_,
    fun s j c x n hj hc hop hn hx hbad => ?_, fun s j c x hj hc hop hx => ?_, fun s x hx hdue => ?_, fun s n hup hdrop hnone hlen => ?_,
    fun s x k crc d hup hdrop hx hsource hk => ?_, fun s x crc d hup hdrop hx hsource hall hok => ?_, fun s w i hgo hup hpath hi => ?_,
    fun s w hgo hpair => ?_⟩
  · obtain ⟨u, ⟨hupd, htim, -⟩, h⟩ := withCmd_upd (f := stageOpen) hj hc hop
    rw [stageOpen_opens (by rwa [hupd]) hlen, hupd, htim] at h
    exact completes_of rfl (by rw [h]; exact ⟨rfl, rfl, rfl⟩)
  · intro k hj hc hop hheld hx hk hlen
    obtain ⟨u, hsame, h⟩ := withCmd_upd (f := stageBlock d) hj hc hop
    have hexec : exec (.stageBlock d) s = .next (withCmd 6 0x29 (stageBlock d) s) :=
      congrArg Host.Outcome.next (if_neg (by simp [hheld]))
    refine completes_of hexec ?_
    rw [h, stageBlock_takes ((hostSession_same hsame _).trans hx) hk hlen, hsame.2.1]
    rfl
  · obtain ⟨u, hsame, h⟩ := withCmd_upd (f := stageCommit) hj hc hop
    rw [stageCommit_commits ((hostSession_same hsame _).trans (by rwa [hn])), commitOf_passes hall ((imageStatus_same hsame _).trans hok),
      commitSession_upd] at h
    exact completes_of (execStageCommit_names hj hn) (by rw [h]; exact ⟨rfl, rfl, rfl, rfl⟩)
  · obtain ⟨u, hsame, h⟩ := withCmd_upd (f := stageCommit) hj hc hop
    rw [stageCommit_commits ((hostSession_same hsame _).trans (by rwa [hn])), commitOf_fails (by rwa [imageStatus_same hsame]),
      failSession_upd] at h
    exact completes_of (execStageCommit_names hj hn) (by rw [h]; exact ⟨rfl, rfl⟩)
  · obtain ⟨u, hsame, h⟩ := withCmd_upd (f := stageAbort) hj hc hop
    rw [stageAbort_fails ((hostSession_same hsame _).trans hx), failSession_upd] at h
    exact completes_of rfl (by rw [h]; exact ⟨rfl, rfl⟩)
  · have hexec : exec .sessionTimeout s = .next (sticky Reg.UPD_STICKY 4 (failSession s)) := by
      show execSessionTimeout s = _
      simp only [execSessionTimeout, hx, hdue, if_true]
    exact completes_of hexec ⟨rfl, rfl, sticky_sets _ (by decide) _⟩
  · have hexec : exec (.peerOpenRecord n) s = .next (openSession 2 n s) := by
      show execPeerOpenRecord n s = _
      simp only [execPeerOpenRecord, hup, hdrop, hnone, hlen, Bool.not_true, Option.isSome_none, Bool.false_eq_true, if_false]
    exact completes_of hexec (by rw [openSession_upd]; exact ⟨rfl, rfl, rfl⟩)
  · have hexec : exec (.peerStageRecord (some k) crc d) s = .next (takeBlock x k crc d s) := by
      show execPeerStageRecord (some k) crc d s = _
      simp only [execPeerStageRecord, hup, hdrop, hx, hsource, Nat.not_le.2 hk, Bool.not_true, Bool.false_eq_true, ne_eq, not_true_eq_false, if_false]
    exact completes_of hexec (takeBlock_session x k crc d s)
  · have hexec : exec (.peerStageRecord none crc d) s = .next (emit (.pair 7 [1]) (commitSession (stagedImage x) s)) := by
      show execPeerStageRecord none crc d s = _
      simp only [execPeerStageRecord, hup, hdrop, hx, hsource, commitOf_passes hall hok, Bool.not_true, Bool.false_eq_true, ne_eq, not_true_eq_false,
        if_false, if_true]
    exact completes_of hexec ⟨rfl, rfl, rfl⟩
  · have hpair : s.pai.pair = true := by simp_all [pairUp, paiRuns]
    have hexec : exec (.pushPeer w) s = .next (sendPush i (setUpd { s.upd with push := 1 } s)) := by
      show execPushPeer w s = _
      simp only [execPushPeer, hgo, hpair, hi, hup, hpath, Bool.not_true, Bool.false_eq_true, Bool.and_self, if_false, if_true]
    obtain ⟨hupd, hout⟩ := sendPush_sends i (setUpd { s.upd with push := 1 } s)
    exact completes_of hexec ⟨congrArg Upd.push hupd, hout⟩
  · exact completes_of (congrArg Host.Outcome.next ((if_neg (by simp [hgo])).trans (if_pos (by simp [hpair])))) ⟨rfl, sticky_sets _ (by decide) _⟩
end

section
/-! SUPPORT. A device in DORMANT, with the tamper source of the domain's supply enabled (R451). -/
namespace Sys2Proof.Machine
open Sys2Proof.Safety

def dormantTamper : State :=
  { State.reset with crp := { State.reset.crp with mode := .dormant }, bank := { State.reset.bank with regs := [(Reg.KEY_TAMP_CFG, 0xFFFF)] } }

/-- The supply's monitor does not run in DORMANT, so its event is none. -/
theorem tamperEvent_dormantTamper : exec (.tamperEvent 5 true) dormantTamper = .next dormantTamper :=
  congrArg Host.Outcome.next (if_pos (.inr (.inr ⟨rfl, rfl, rfl⟩)))

end Sys2Proof.Machine
end
section
open Sys2Proof Sys2Proof.Machine Sys2Proof.Safety
/-- Refutes O50: in DORMANT the monitor of PD_1's supply does not run, so its tamper event owes no record and wakes nothing. -/
theorem not_tamperAndKeyRamComplete : ¬ Obligations.TamperAndKeyRamComplete := by
  intro h
  obtain ⟨-, hdormant, -⟩ := h
  obtain ⟨t, hexec, -, howed, -⟩ := hdormant dormantTamper 5 true (by decide) (by decide) (fun _ _ => rfl) rfl
  obtain rfl : t = dormantTamper := Host.Outcome.next.inj (hexec.symm.trans tamperEvent_dormantTamper)
  exact absurd howed (by decide)
end

section
/-! SUPPORT. A counter of MSI-X messages, on a device whose PRF_STICKY 0 sends one (R369, R476). -/
namespace Sys2Proof.Machine
open Sys2Proof.Safety

def countsMessages : State :=
  { State.reset with io := { State.reset.io with
      evt := [(15, { ioEv State.reset.io 15 with enable := 0x10000, route := 0x8000 })], vec := [(0, { vecDef 0 with masked := false })],
      ctr := [(192, { ctrDef 192 with event := 0x184 })], fnMask := false, lost := false, dmaHeld := false } }

/-- The message that tells of the dropped carry is counted on the counter just written. -/
theorem prfHiWrite_countsMessages : ∃ t, exec (.prfHiWrite 192 ⟨0, true⟩) countsMessages = .next t ∧ (ioCtr t.io 192).count = 1 :=
  ⟨_, rfl, by decide +kernel⟩

end Sys2Proof.Machine
end
section
open Sys2Proof Sys2Proof.Machine Sys2Proof.Safety
/-- Refutes O52: a dropped carry raises its source, and the MSI-X message that follows is itself an event, which the written counter may count. -/
theorem not_countersComplete : ¬ Obligations.CountersComplete := by
  intro h
  obtain ⟨-, -, hwrite, -⟩ := h
  obtain ⟨t, hexec, hcount, -⟩ := hwrite countsMessages 192 ⟨0, true⟩ (by decide)
  obtain ⟨u, hu, hone⟩ := prfHiWrite_countsMessages
  obtain rfl : t = u := Host.Outcome.next.inj (hexec.symm.trans hu)
  exact absurd (hcount.symm.trans hone) (by decide)
end

section
/-! SUPPORT. Authenticated key updates, and attestation (R440 to R450). -/
namespace Sys2Proof.Machine
open Sys2Proof.Safety

/-! ### What an update reads -/

/-- A job that inherits its level writes a counter alone. -/
theorem countInherited_eq (j : Job) (s : State) : ∃ b, countInherited j s = { s with bank := b } := by
  unfold countInherited
  split
  · exact ⟨_, rfl⟩
  · exact ⟨s.bank, rfl⟩

theorem kuStatus_bank (s : State) (b : Bank) (m : List Byte) : kuStatus { s with bank := b } m = kuStatus s m := rfl
theorem kuFill_bank (s : State) (b : Bank) (m : List Byte) : kuFill { s with bank := b } m = kuFill s m := rfl
theorem setLcBits_bank (s : State) (b : Bank) (n : Nat) : setLcBits { s with bank := b } n = setLcBits s n := rfl

/-- What a key update leaves in its slots is what its own action left there. -/
theorem withCmd_key {op : Nat} {f : List Byte → State → State × Nat × List Byte} {s : State} {j : Job} {c : Cmd}
    (hj : pickJob s 6 (fun _ => true) = some j) (hc : j.cmd = some c) (hop : c.opcode = op) :
    ∃ b, let r := f (cmdBody j) { s with bank := b }
      withCmd 6 op f s = endJob j.id (complete c r.2.1 r.2.2 r.1) ∧ (withCmd 6 op f s).key = r.1.key ∧ (withCmd 6 op f s).upd = r.1.upd ∧
        (withCmd 6 op f s).dsp.jobs = r.1.dsp.jobs.filter (fun k => k.id ≠ j.id) := by
  have hkey (t : State) : (endJob j.id t).key = t.key := part_of_seen (p := .key) (endJob_seen _ t (by simp))
  have hupd (t : State) : (endJob j.id t).upd = t.upd := part_of_seen (p := .upd) (endJob_seen _ t (by simp))
  have hcpl (code : Nat) (d : List Byte) (t : State) : (complete c code d t).key = t.key ∧ (complete c code d t).upd = t.upd ∧
      (complete c code d t).dsp = t.dsp :=
    ⟨part_of_seen (p := .key) (completeOpt_seen (some c) code d t (by simp)), part_of_seen (p := .upd) (completeOpt_seen (some c) code d t (by simp)),
      part_of_seen (p := .dsp) (completeOpt_seen (some c) code d t (by simp))⟩
  obtain ⟨b, hb⟩ := countInherited_eq j s
  refine ⟨b, ?_⟩
  dsimp only
  rw [withCmd_of_pick hj hc hop, hb, hkey, hupd, endJob_jobs, (hcpl _ _ _).1, (hcpl _ _ _).2.1, (hcpl _ _ _).2.2]
  exact ⟨rfl, rfl, rfl, rfl⟩

theorem nextKeyUpdate_of_pick {s : State} {j : Job} {ok : Nat → Bool} (hj : pickJob s 6 (fun _ => true) = some j) (hok : ok (kuAction (cmdBody j)) = true) :
    runKeyUpdate ok s = .next (withCmd 6 0x30 keyUpdate s) := by
  have hnext : nextKeyUpdate s ok = true := by simp only [nextKeyUpdate, hj, hok]
  rw [runKeyUpdate, if_pos hnext]

/-! ### What an update does -/

/-- The keys but for the slots. -/
def slotless (k : Key) : Key := { k with slot := [], nvSlot := [] }

theorem putKey_slotless (k : Nat) (x : KeySlot) (s : State) : slotless (putKey k x s).key = slotless s.key := rfl

theorem invalidateBelow_keeps (k : Nat) (s : State) : slotless (invalidateBelow k s).key = slotless s.key ∧ (invalidateBelow k s).upd = s.upd := by
  refine ⟨?_, part_of_seen (p := .upd) (invalidateBelow_seen k s (by simp))⟩
  have hrec (n : Nat) (p : List Byte) (t : State) : (record 0x48 n p t).key = t.key := part_of_seen (p := .key) (record_seen _ _ _ t (by simp))
  have hsticky (t : State) : (sticky Reg.KEY_STICKY 3 t).key = t.key := rfl
  unfold invalidateBelow
  dsimp only
  split
  · rfl
  · rw [hrec, hsticky]
    exact proj_foldl (fun t => slotless t.key) (fun t j => putKey_slotless j goneSlot t) _ _

/-- The counters of an update that passed. -/
def counted (m : List Byte) (s : State) : State := setKey { s.key with nvCtr := kuCounter m, vbatCtr := kuCounter m } s

theorem kuFill_counted (m : List Byte) (s : State) : kuFill (counted m s) m = kuFill s m := rfl

theorem of_slotless {k l : Key} (h : slotless k = slotless l) : k.nvCtr = l.nvCtr ∧ k.vbatCtr = l.vbatCtr ∧ k.idKey = l.idKey := by
  cases k
  cases l
  simp only [slotless, Key.mk.injEq] at h
  simp [h]

theorem storeKey_same {s t : State} (hkey : t.key.idKey = s.key.idKey) (hupd : t.upd = s.upd) : storeKey t = storeKey s := by
  rw [storeKey, storeKey, hkey, hupd]

theorem kuSlot_lt (m : List Byte) : kuSlot m < 64 := Nat.mod_lt _ (by decide)

theorem keySlot_of_lt {s : State} {k : Nat} (h : k < 64) : keySlot s k = Tab.get keySlotDef s.key.slot k := by rw [keySlot, Nat.mod_eq_of_lt h]

theorem putKey_puts (k : Nat) (x : KeySlot) (s : State) : Tab.get keySlotDef (putKey k x s).key.slot k = x ∧
    Tab.get keySlotDef (putKey k x s).key.nvSlot k = { x with material := kwWrap (storeKey s) x.material } :=
  ⟨Tab.get_put_same _ _ _ _, Tab.get_put_same _ _ _ _⟩

/-- An update that fills or empties its slot. -/
theorem filled_fills (m : List Byte) (x : KeySlot) (s : State) :
    let t := keysChanged (counted m s) (putKey (kuSlot m) x (invalidateBelow (kuSlot m) (counted m s)))
    keySlot t (kuSlot m) = x ∧ storedCtr t = kuCounter m ∧
      Tab.get keySlotDef t.key.nvSlot (kuSlot m) = { x with material := kwWrap (storeKey s) x.material } := by
  intro t
  obtain ⟨hless, hupd⟩ := invalidateBelow_keeps (kuSlot m) (counted m s)
  obtain ⟨hslot, hnv⟩ := putKey_puts (kuSlot m) x (invalidateBelow (kuSlot m) (counted m s))
  have hkey : t.key = (putKey (kuSlot m) x (invalidateBelow (kuSlot m) (counted m s))).key := keysChanged_key _ _
  obtain ⟨hctr, hvbat, -⟩ := of_slotless ((putKey_slotless (kuSlot m) x (invalidateBelow (kuSlot m) (counted m s))).trans hless)
  obtain ⟨-, -, hid⟩ := of_slotless hless
  refine ⟨?_, ?_, ?_⟩
  · rw [keySlot_of_lt (kuSlot_lt m), hkey, hslot]
  · rw [storedCtr, hkey, hctr, hvbat]
    exact Nat.max_self _
  · rw [hkey, hnv, storeKey_same hid hupd]
    rfl

theorem kuCommit_fill {m : List Byte} (h : kuAction m = 1 ∨ kuAction m = 2) (s : State) :
    kuCommit m s = keysChanged (counted m s) (putKey (kuSlot m) (kuFill (counted m s) m) (invalidateBelow (kuSlot m) (counted m s))) := by
  rw [kuCommit]
  rcases h with h | h <;> simp only [h] <;> rfl

theorem kuCommit_zeroise {m : List Byte} (h : kuAction m = 3) (s : State) :
    kuCommit m s = keysChanged (counted m s) (putKey (kuSlot m) goneSlot (invalidateBelow (kuSlot m) (counted m s))) := by
  rw [kuCommit]
  simp only [h] <;> rfl

theorem kuCommit_setLc {m : List Byte} (h : kuAction m = 4) (s : State) : kuCommit m s = setLcRun (kuTarget m) (counted m s) := by
  rw [kuCommit]
  simp only [h] <;> rfl

theorem keyUpdate_passes {m : List Byte} {s : State} (h : kuStatus s m = 0) : (keyUpdate m s).1 = kuCommit m s := if_pos h

theorem keyUpdate_fails {m : List Byte} {s : State} (h : kuStatus s m ≠ 0) :
    (keyUpdate m s).1 = sticky Reg.KEY_STICKY 2 s ∧ (keyUpdate m s).2.1 = kuStatus s m := ⟨if_neg h, rfl⟩

theorem lcChange_counters (f : BitVec 128) (s : State) : storedCtr (lcChange f s) = storedCtr s := by
  have hkey (t : State) : storedCtr (slotsEmptied f t) = storedCtr t := rfl
  rw [← hkey s, storedCtr, storedCtr, lcChange_eq, keysChanged_key]

theorem setLcRun_sets {m : List Byte} {s : State} {n : Nat} {f : BitVec 128} (hf : setLcBits s n = some f) :
    (setLcRun n (counted m s)).upd.lcField = f ∧ (setLcRun n (counted m s)).key.slot = [] ∧ storedCtr (setLcRun n (counted m s)) = kuCounter m := by
  have hsame : setLcBits (counted m s) n = setLcBits s n := rfl
  have hcounted : storedCtr (counted m s) = kuCounter m := Nat.max_self _
  have hcause (t : State) : storedCtr (setKey { t.key with cause := 0, causeTime := 0 } t) = storedCtr t := rfl
  rw [setLcRun, hsame, hf]
  dsimp only
  obtain ⟨hfield, -, hslot⟩ := lcChange_changes f (if lc (counted m s) = 3 ∧ n = 2 then
    setKey { (counted m s).key with cause := 0, causeTime := 0 } (counted m s) else counted m s)
  refine ⟨hfield, hslot, ?_⟩
  rw [lcChange_counters]
  split
  · rw [hcause, hcounted]
  · exact hcounted

/-- The digest that REPLACE_OWNER carries. -/
def newOwner (m : List Byte) : BitVec 384 := digest384 (padTo 96 ((m.drop 88).take 96))

theorem kuCommit_replace {m : List Byte} (h : kuAction m = 5) (s : State) : kuCommit m s =
    setKey { (counted m s).key with owner := Tab.put digestDef s.key.owner (kuOwner m + 1) (newOwner m), ownerIdx := kuOwner m + 1 } (counted m s) := by
  rw [kuCommit]
  simp only [h] <;> rfl

theorem kuCommit_replaces {m : List Byte} (h : kuAction m = 5) (s : State) : (kuCommit m s).key.ownerIdx = kuOwner m + 1 ∧
    (kuCommit m s).key.slot = s.key.slot ∧ Tab.get digestDef (kuCommit m s).key.owner (kuCommit m s).key.ownerIdx = newOwner m := by
  have hset (k : Key) (t : State) : (setKey k t).key = k := rfl
  rw [kuCommit_replace h, hset]
  exact ⟨rfl, rfl, Tab.get_put_same _ _ _ _⟩

theorem kuCommit_jobs (m : List Byte) (s : State) : (kuCommit m s).dsp = s.dsp := part_of_seen (p := .dsp) (kuCommit_seen m s (by simp))

/-! ### A completion -/

theorem mem_out_ringAdvance {o : Output} {io : Io} (h : o ∈ io.out) (now : Nat) (c : Bool) (r : Nat) (irq : Bool) :
    o ∈ (ringAdvance now c r irq io).1.out := by
  unfold ringAdvance
  dsimp only
  split
  · exact h
  · split
    · exact (ioRel_out o).vecTrigger _ _ _ _ (List.mem_cons_of_mem _ h)
    · exact List.mem_cons_of_mem _ h

theorem mem_out_cplWrite {o : Output} {s : State} (h : o ∈ s.io.out) (q : Nat) (e : List Byte) : o ∈ (cplWrite q e s).io.out := by
  unfold cplWrite
  split
  next p hp =>
    simp only [ringWrite, Option.ite_none_right_eq_some, Option.some.injEq] at hp
    obtain ⟨-, hp⟩ := hp
    have hsent : o ∈ p.1.out := by
      rw [← hp]
      refine mem_out_ringAdvance ?_ _ _ _ _
      split
      · exact h
      · exact List.mem_cons_of_mem _ h
    dsimp only
    split
    · exact (ioRel_out o).ioRaise _ _ _ _ hsent
    · exact (ioRel_out o).perf _ _ _ ((ioRel_out o).ioRaise _ _ _ _ hsent)
  next => exact (ioRel_out o).sticky _ _ _ h

/-- A completion that finds room on its ring is written there. -/
theorem cplWrite_writes {s : State} {q : Nat} (e : List Byte) (hlost : s.io.lost = false) (hruns : ringRuns 2 (ioRing s.io q) = true)
    (hroom : ringFill (ioRing s.io q) < ringSize (ioRing s.io q)) :
    Output.ringEntry q (ringEntryAddr (ioRing s.io q) (ioRing s.io q).dev) e ∈ (cplWrite q e s).io.out := by
  have hwrite : ringWrite s.tim.now (chained s) 2 q e s.io = some (ringAdvance s.tim.now (chained s) q (ringVecEn (ioRing s.io q))
      (ioOut s.io (.ringEntry q (ringEntryAddr (ioRing s.io q) (ioRing s.io q).dev) e))) := by
    simp [ringWrite, hruns, hroom, hlost]
  unfold cplWrite
  rw [hwrite]
  dsimp only
  rw [if_neg (by simp [hlost])]
  exact (ioRel_out _).perf _ _ _ ((ioRel_out _).ioRaise _ _ _ _ (mem_out_ringAdvance List.mem_cons_self _ _ _ _))

theorem mem_out_complete {o : Output} {s : State} (h : o ∈ s.io.out) (c : Cmd) (code : Nat) (d : List Byte) : o ∈ (complete c code d s).io.out := by
  unfold complete
  dsimp only
  split
  · exact h
  · split
    · exact h
    · split
      · exact h
      · refine mem_out_cplWrite ?_ _ _
        exact h

theorem mem_out_endJob {o : Output} {s : State} (h : o ∈ s.io.out) (id : Nat) : o ∈ (endJob id s).io.out := by
  have hset (d : Dsp) (t : State) : (setDsp d t).io = t.io := rfl
  have hinc (a n : Nat) (t : State) : (inc a n t).io = t.io := rfl
  rw [endJob, flushLate]
  refine List.foldlRecOn (motive := fun t : State => o ∈ t.io.out) _ _ ?_ fun t ht l _ => mem_out_complete ht _ _ _
  rw [hset]
  refine (ioRel_out o).perf _ _ _ ?_
  rw [hinc, hset]
  exact h

/-- The completion of a command whose ring has room, with what stays of the ring. -/
theorem complete_writes {c : Cmd} {s : State} (code : Nat) (d : List Byte) (hquiet : c.quiet = false) (hdead : c.dead = false)
    (hheld : s.io.dmaHeld = false) (hlost : s.io.lost = false) (hruns : ringRuns 2 (ioRing s.io c.cpl) = true)
    (hroom : ringFill (ioRing s.io c.cpl) < ringSize (ioRing s.io c.cpl)) :
    Output.ringEntry c.cpl (ringEntryAddr (ioRing s.io c.cpl) (ioRing s.io c.cpl).dev) (cplEntry s.tim.now c code d) ∈ (complete c code d s).io.out := by
  have howed : ioRing (ioSetRing s.io c.cpl { ioRing s.io c.cpl with owed := (ioRing s.io c.cpl).owed - 1 }) c.cpl =
      { ioRing s.io c.cpl with owed := (ioRing s.io c.cpl).owed - 1 } := Tab.get_put_same _ _ _ _
  have h := cplWrite_writes (s := { s with io := ioSetRing s.io c.cpl { ioRing s.io c.cpl with owed := (ioRing s.io c.cpl).owed - 1 } }) (q := c.cpl)
    (cplEntry s.tim.now c code d) hlost (by rw [howed]; exact hruns) (by rw [howed]; exact hroom)
  rw [howed] at h
  rw [complete]
  simp only [hdead, hquiet, hheld, Bool.false_and, Bool.false_eq_true, if_false]
  exact h

/-- What an attestation answers. -/
def attestation (s : State) (m : List Byte) : List Byte :=
  hmacSha256 (keyOf s (leAt m 32 1)) (attestMsg s (m.take 32)) ++ leBytes 1 (lc s) ++ zeros 3 ++ leBytes 4 (activeVersion s).toNat

theorem attest_answers {m : List Byte} {s : State} (hlc : lc s ≠ 3) (hk : leAt m 32 1 < 64) (huse : keyUsable s (leAt m 32 1) 5 = true) :
    attest m s = (s, 0, attestation s m) := by
  have hvalid : (keySlot s (leAt m 32 1)).state = .valid := by
    simp only [keyUsable, Bool.and_eq_true, decide_eq_true_eq] at huse
    exact huse.1
  rw [attest]
  simp only [hlc, Nat.not_le.2 hk, hvalid, huse, if_false, ne_eq, not_true_eq_false, Bool.true_eq_false, attestation]

theorem attest_attests {s : State} {j : Job} {c : Cmd} (hj : pickJob s 6 (fun _ => true) = some j) (hc : j.cmd = some c) (hop : c.opcode = 0x31)
    (hquiet : c.quiet = false) (hdead : c.dead = false) (hheld : s.io.dmaHeld = false) (hlost : s.io.lost = false)
    (hruns : ringRuns 2 (ring s c.cpl) = true) (hroom : ringFill (ring s c.cpl) < ringSize (ring s c.cpl)) (hlc : lc s ≠ 3)
    (hk : leAt (cmdBody j) 32 1 < 64) (huse : keyUsable s (leAt (cmdBody j) 32 1) 5 = true) :
    (withCmd 6 0x31 attest s).key = s.key ∧ Output.ringEntry c.cpl (ringEntryAddr (ring s c.cpl) (ring s c.cpl).dev)
      (cplEntry s.tim.now c 0 (attestation s (cmdBody j))) ∈ (withCmd 6 0x31 attest s).io.out := by
  obtain ⟨b, hrun, hkey, -⟩ := withCmd_key (f := attest) hj hc hop
  have hanswer : attest (cmdBody j) { s with bank := b } = ({ s with bank := b }, 0, attestation s (cmdBody j)) := attest_answers hlc hk huse
  rw [hanswer] at hrun hkey
  refine ⟨hkey, ?_⟩
  rw [hrun]
  exact mem_out_endJob (complete_writes (s := { s with bank := b }) 0 _ hquiet hdead hheld hlost hruns hroom) j.id

end Sys2Proof.Machine
end
section
open Sys2Proof Sys2Proof.Machine Sys2Proof.Safety
/-- Settles O49: an update that passes acts by its action, one that fails leaves every slot, and an attestation is answered on its ring. -/
theorem keyUpdatesComplete : Obligations.KeyUpdatesComplete := by
  refine ⟨fun s j c hj hc hop hact hok => ?_, fun s j c hj hc hop hact hok => ?_, fun s j c hj hc hop hact hok => ?_,
    fun s j c f hj hc hop hact hok hf => ?_, fun s j c hj hc hop hact hok => ?_, fun s j c hj hc hop hact hbad => ?_, fun s j c => ?_⟩
  · obtain ⟨b, -, hkey, -, hjobs⟩ := withCmd_key (f := keyUpdate) hj hc hop
    rw [keyUpdate_passes ((kuStatus_bank s b _).trans hok)] at hkey hjobs
    obtain ⟨hslot, hctr, hnv⟩ := filled_fills (cmdBody j) (kuFill s (cmdBody j)) { s with bank := b }
    rw [kuCommit_jobs] at hjobs
    rw [kuCommit_fill (.inl hact), kuFill_counted, kuFill_bank] at hkey
    refine completes_of (nextKeyUpdate_of_pick hj (by simp [hact])) ?_
    rw [keySlot, storedCtr, hkey]
    exact ⟨hslot, hctr, hnv, hjobs⟩
  · obtain ⟨b, -, hkey, -⟩ := withCmd_key (f := keyUpdate) hj hc hop
    obtain ⟨hslot, hctr, -⟩ := filled_fills (cmdBody j) (kuFill s (cmdBody j)) { s with bank := b }
    rw [keyUpdate_passes ((kuStatus_bank s b _).trans hok), kuCommit_fill (.inr hact), kuFill_counted, kuFill_bank] at hkey
    refine completes_of (nextKeyUpdate_of_pick hj (by simp [hact])) ?_
    rw [keySlot, storedCtr, hkey]
    exact ⟨hslot, hctr⟩
  · obtain ⟨b, -, hkey, -⟩ := withCmd_key (f := keyUpdate) hj hc hop
    obtain ⟨hslot, hctr, -⟩ := filled_fills (cmdBody j) goneSlot { s with bank := b }
    rw [keyUpdate_passes ((kuStatus_bank s b _).trans hok), kuCommit_zeroise hact] at hkey
    refine completes_of (nextKeyUpdate_of_pick hj (by simp [hact])) ?_
    rw [keySlot, storedCtr, hkey]
    exact ⟨hslot, hctr⟩
  · obtain ⟨b, -, hkey, hupd, -⟩ := withCmd_key (f := keyUpdate) hj hc hop
    rw [keyUpdate_passes ((kuStatus_bank s b _).trans hok), kuCommit_setLc hact] at hkey hupd
    obtain ⟨hfield, hslot, hctr⟩ := setLcRun_sets (m := cmdBody j) ((setLcBits_bank s b _).trans hf)
    refine completes_of (nextKeyUpdate_of_pick hj (by simp [hact])) ?_
    rw [storedCtr, hkey, hupd]
    exact ⟨hfield, hslot, hctr⟩
  · obtain ⟨b, -, hkey, -⟩ := withCmd_key (f := keyUpdate) hj hc hop
    rw [keyUpdate_passes ((kuStatus_bank s b _).trans hok)] at hkey
    refine completes_of (nextKeyUpdate_of_pick hj (by simp [hact])) ?_
    rw [hkey]
    exact kuCommit_replaces hact _
  · obtain ⟨b, hrun, hkey, -⟩ := withCmd_key (f := keyUpdate) hj hc hop
    obtain ⟨hfail, -⟩ := keyUpdate_fails (s := { s with bank := b }) (m := cmdBody j) (by rwa [kuStatus_bank])
    rw [hfail] at hkey hrun
    refine completes_of (nextKeyUpdate_of_pick hj (by simp [hact])) ⟨hkey, ?_⟩
    rw [hrun, stkSet, stk_of_seen (endJob_seen _ _ ((le_butStk _ _ _ _ _ _).2 (by decide)))]
    exact completeOpt_holds (some c) _ _ _ _ _ (by decide) (sticky_sets _ (by decide) _)
  · intro k x hj hc hop hquiet hdead hheld hlost hruns hroom hlc hk huse
    exact completes_of rfl (attest_attests hj hc hop hquiet hdead hheld hlost hruns hroom hlc hk huse)
end

section
/-! SUPPORT. The recorder: its writer, its wear, the lifeboat, and clearing (R462 to R474). -/
namespace Sys2Proof.Machine
open Sys2Proof.Safety

theorem perf_recorder (e n : Nat) (s : State) : (perf e n s).recorder = s.recorder := rfl
theorem inc_recorder (a n : Nat) (s : State) : (inc a n s).recorder = s.recorder := rfl
theorem sticky_recorder (a b : Nat) (s : State) : (sticky a b s).recorder = s.recorder := rfl
theorem stickyIf_recorder (c : Bool) (a b : Nat) (s : State) : (stickyIf c a b s).recorder = s.recorder := by simp

theorem fillHigh_recorder (s : State) : ∃ a, (fillHigh s).recorder = { s.recorder with above := a } :=
  ⟨aboveMark s, by rw [fillHigh, stickyIf_recorder, setRec_recorder]⟩

theorem setRec_holds (r : Rec) (s : State) : stkHolds s (setRec r s) := stkHolds_of_io rfl

theorem fillHigh_holds (s : State) : stkHolds s (fillHigh s) := stkHolds_trans (setRec_holds _ _) (stickyIf_holds _ _ _ _)

/-! ### What the writer leaves of the ring -/

/-- What a slot shows of its segment and its records. -/
def slotFace (x : RecSlot) : Nat × List Nat × List (Nat × Nat) := (x.phys, x.zeroed, x.records.map (fun z => (z.type, z.seq)))

/-- The writer may fold, stage and start records; it moves no slot. -/
structure WriterKept (r t : Rec) : Prop where
  store : t.store = r.store
  spares : t.spares = r.spares
  copying : t.copying = r.copying
  faces : ∀ k, slotFace (recSlot t k) = slotFace (recSlot r k)

theorem WriterKept.refl (r : Rec) : WriterKept r r := ⟨rfl, rfl, rfl, fun _ => rfl⟩
theorem WriterKept.trans {r t u : Rec} (h : WriterKept r t) (g : WriterKept t u) : WriterKept r u :=
  ⟨g.store.trans h.store, g.spares.trans h.spares, g.copying.trans h.copying, fun k => (g.faces k).trans (h.faces k)⟩

theorem recStart_kept (e : RecEvent) (r : Rec) : WriterKept r (recStart e r) := ⟨rfl, rfl, rfl, fun _ => rfl⟩

theorem recPutSlot_parts (k : Nat) (x : RecSlot) (r : Rec) : (recPutSlot k x r).store = r.store ∧ (recPutSlot k x r).spares = r.spares ∧
    (recPutSlot k x r).copying = r.copying ∧ (recPutSlot k x r).cur = r.cur ∧ (recPutSlot k x r).staging = r.staging ∧
    (recPutSlot k x r).resume = r.resume ∧ (recPutSlot k x r).nextSeq = r.nextSeq ∧ (recPutSlot k x r).nonce = r.nonce := by
  unfold recPutSlot
  split <;> exact ⟨rfl, rfl, rfl, rfl, rfl, rfl, rfl, rfl⟩

theorem recSlot_put_same (k : Nat) (x : RecSlot) (r : Rec) : recSlot (recPutSlot k x r) k = x := by
  unfold recSlot recSlots recPutSlot
  by_cases h : r.store = .lifeboat
  · simp only [h, if_true]
    exact Tab.get_put_same _ _ _ _
  · simp only [h, if_false]
    exact Tab.get_put_same _ _ _ _

theorem recSlot_put_ne {k j : Nat} (hj : j ≠ k) (x : RecSlot) (r : Rec) : recSlot (recPutSlot k x r) j = recSlot r j := by
  unfold recSlot recSlots recPutSlot
  by_cases h : r.store = .lifeboat
  · simp only [h, if_true]
    exact Tab.get_put_ne _ _ _ hj
  · simp only [h, if_false]
    exact Tab.get_put_ne _ _ _ hj

theorem recCur_eq (r : Rec) : recCur r = recSlot r r.cur := rfl

/-- A slot put back with the same face. -/
theorem recPutSlot_kept {x : RecSlot} {r : Rec} (h : slotFace x = slotFace (recCur r)) : WriterKept r (recPutSlot r.cur x r) := by
  obtain ⟨hstore, hspares, hcopying, -⟩ := recPutSlot_parts r.cur x r
  refine ⟨hstore, hspares, hcopying, fun k => ?_⟩
  by_cases hk : k = r.cur
  · subst hk
    rw [recSlot_put_same, h, recCur_eq]
  · rw [recSlot_put_ne hk]

theorem slotFace_fold {c : RecSlot} {x : Record} (h : c.records.getLast? = some x) (n : Nat) :
    slotFace { c with records := c.records.dropLast ++ [recFoldInto n x] } = slotFace c := by
  have hlist : c.records = c.records.dropLast ++ [x] := by
    obtain ⟨l, hl⟩ := List.getLast?_eq_some_iff.1 h
    rw [hl, List.dropLast_concat]
  have hmap : (c.records.dropLast ++ [recFoldInto n x]).map (fun z => (z.type, z.seq)) = c.records.map (fun z => (z.type, z.seq)) := by
    conv_rhs => rw [hlist]
    rw [List.map_append, List.map_append]
    rfl
  rw [slotFace, slotFace, hmap]

theorem recTake_kept (e : RecEvent) (r : Rec) : WriterKept r (recTake e r).1 := by
  unfold recTake
  split
  next x hx =>
    split
    · exact (recPutSlot_kept (slotFace_fold hx _)).trans ⟨rfl, rfl, rfl, fun _ => rfl⟩
    · exact recStart_kept e r
  next => exact recStart_kept e r

theorem stageLost_kept (r : Rec) : WriterKept r (stageLost r) := by
  unfold stageLost
  split
  · exact .refl r
  · exact ⟨rfl, rfl, rfl, fun _ => rfl⟩

theorem recStage_kept (e : RecEvent) (r : Rec) : WriterKept r (recStage e r).1 := by
  unfold recStage
  split
  · exact ⟨rfl, rfl, rfl, fun _ => rfl⟩
  · split <;> exact ⟨rfl, rfl, rfl, fun _ => rfl⟩

theorem recArrive_kept (e : RecEvent) (r : Rec) : WriterKept r (recArrive e r).1 := by
  unfold recArrive
  split
  · exact recStage_kept e r
  · split
    · split
      · exact ⟨rfl, rfl, rfl, fun _ => rfl⟩
      · exact recStage_kept e r
    · split
      · exact recTake_kept e r
      · exact recStage_kept e r

theorem record_kept (type key : Nat) (p : List Byte) (s : State) : WriterKept s.recorder (record type key p s).recorder := by
  have hcount (t : State) : (stickyCount Reg.REC_STICKY 0 (Reg.REC_CNT 2) t).recorder = t.recorder := rfl
  unfold record
  dsimp only
  split
  · rw [hcount]
    split
    · exact recArrive_kept _ _
    · exact recArrive_kept _ _
  · split
    · exact recArrive_kept _ _
    · exact recArrive_kept _ _

/-- The writer takes one staged event. -/
def takenRec (e : RecEvent) (rest : List RecEvent) (r : Rec) : Rec × Bool :=
  recTake (if e.lost then { e with payload := leBytes 8 e.count } else e) (stageLost { r with staging := rest })

def takeOne (e : RecEvent) (rest : List RecEvent) (s : State) : State :=
  if (takenRec e rest s.recorder).2 then perf 0x189 1 (inc (Reg.REC_CNT 1) 1 (setRec (takenRec e rest s.recorder).1 s))
  else setRec (takenRec e rest s.recorder).1 s

theorem takeOne_recorder (e : RecEvent) (rest : List RecEvent) (s : State) : (takeOne e rest s).recorder = (takenRec e rest s.recorder).1 := by
  unfold takeOne
  split
  · rw [perf_recorder, inc_recorder, setRec_recorder]
  · rw [setRec_recorder]

theorem takeOne_holds (e : RecEvent) (rest : List RecEvent) (s : State) : stkHolds s (takeOne e rest s) := by
  unfold takeOne
  split
  · exact stkHolds_trans (stkHolds_trans (setRec_holds _ s) (wr_holds _ _ _)) (perf_holds _ _ _)
  · exact setRec_holds _ s

theorem takenRec_kept (e : RecEvent) (rest : List RecEvent) (r : Rec) : WriterKept r (takenRec e rest r).1 := by
  have hrest : WriterKept r { r with staging := rest } := ⟨rfl, rfl, rfl, fun _ => rfl⟩
  exact (hrest.trans (stageLost_kept _)).trans (recTake_kept _ _)

/-- The writer has nothing to take, takes an interrupted record, or takes the next staged event. -/
theorem takeStaged_cases (n : Nat) (s : State) : takeStaged (n + 1) s = s ∨
    (∃ x, s.recorder.resume = some x ∧ takeStaged (n + 1) s = setRec { recStart x.1 { s.recorder with resume := none } with heldFolds := x.2 } s) ∨
    ∃ e rest, takeStaged (n + 1) s = takeStaged n (takeOne e rest s) := by
  rw [takeStaged]
  split
  · exact .inl rfl
  · split
    next x hx => exact .inr (.inl ⟨x, hx, rfl⟩)
    next => exact .inl rfl
    next e rest _ _ => exact .inr (.inr ⟨e, rest, rfl⟩)

theorem takeStaged_kept (n : Nat) (s : State) : WriterKept s.recorder (takeStaged n s).recorder := by
  induction n generalizing s with
  | zero => exact .refl _
  | succ n ih =>
    obtain h | ⟨x, -, h⟩ | ⟨e, rest, h⟩ := takeStaged_cases n s
    · rw [h]
      exact .refl _
    · rw [h, setRec_recorder]
      exact ⟨rfl, rfl, rfl, fun _ => rfl⟩
    · rw [h]
      refine WriterKept.trans ?_ (ih _)
      rw [takeOne_recorder]
      exact takenRec_kept e rest _

theorem takeStaged_holds (n : Nat) (s : State) : stkHolds s (takeStaged n s) := by
  induction n generalizing s with
  | zero => exact stkHolds_refl _
  | succ n ih =>
    obtain h | ⟨x, -, h⟩ | ⟨e, rest, h⟩ := takeStaged_cases n s
    · rw [h]
      exact stkHolds_refl _
    · rw [h]
      exact setRec_holds _ _
    · rw [h]
      exact stkHolds_trans (takeOne_holds _ _ _) (ih _)

/-- With nothing staged the writer rests. -/
theorem takeStaged_rests {n : Nat} {s : State} (hresume : s.recorder.resume = none) (hstaging : s.recorder.staging = []) : takeStaged n s = s := by
  cases n with
  | zero => rfl
  | succ n =>
    unfold takeStaged
    simp only [hresume, hstaging, ite_self]

/-! ### A record commits -/

/-- The slot that a record commits to, opened where the current one has no room. -/
def room (x : Record) (s : State) : State :=
  if slotUsed (recCur s.recorder) + recSize x ≤ segBytes s.recorder ∧ (recCur s.recorder).fillNo ≠ 0 then s
  else match nextSlot s.recorder with
    | some k => openSlot (if (recCur s.recorder).fillNo = 0 then s.recorder.cur else k) s
    | none => s

/-- The record in progress, with the folds held for it. -/
def folded (r : Rec) (x : Record) : Record := r.heldFolds.foldl (fun x t => recFoldInto t x) x

def committedRec (r : Rec) (x : Record) (now : Nat) : Rec :=
  { recPutSlot r.cur { recCur r with records := (recCur r).records ++ [folded r x] } r with inProgress := none, heldFolds := [], lastWriteBack := now }

def commitInto (x : Record) (s : State) : State :=
  fillHigh (perf 0x188 1 (inc (Reg.REC_CNT 0) 1 (perf 0x189 s.recorder.heldFolds.length (inc (Reg.REC_CNT 1) s.recorder.heldFolds.length
    (setRec (committedRec s.recorder x s.tim.now) s)))))

theorem commitRecord_eq {x : Record} {s : State} (h : s.recorder.inProgress = some x) : commitRecord s = commitInto x (room x s) := by
  simp only [commitRecord, h] <;> rfl

theorem commitInto_recorder (x : Record) (s : State) : ∃ a, (commitInto x s).recorder = { committedRec s.recorder x s.tim.now with above := a } := by
  obtain ⟨a, h⟩ := fillHigh_recorder (perf 0x188 1 (inc (Reg.REC_CNT 0) 1 (perf 0x189 s.recorder.heldFolds.length
    (inc (Reg.REC_CNT 1) s.recorder.heldFolds.length (setRec (committedRec s.recorder x s.tim.now) s)))))
  refine ⟨a, ?_⟩
  rw [commitInto, h, perf_recorder, inc_recorder, perf_recorder, inc_recorder, setRec_recorder]

theorem room_fits {x : Record} {s : State} (hfits : slotUsed (recCur s.recorder) + recSize x ≤ segBytes s.recorder)
    (hfill : (recCur s.recorder).fillNo ≠ 0) : room x s = s := if_pos ⟨hfits, hfill⟩

theorem commitRecord_fits {x : Record} {s : State} (hx : s.recorder.inProgress = some x)
    (hfits : slotUsed (recCur s.recorder) + recSize x ≤ segBytes s.recorder) (hfill : (recCur s.recorder).fillNo ≠ 0) :
    ∃ a, (commitRecord s).recorder = { committedRec s.recorder x s.tim.now with above := a } := by
  rw [commitRecord_eq hx, room_fits hfits hfill]
  exact commitInto_recorder x s

/-- What a record that commits leaves of the writer: nothing in progress, and its slot one record longer. -/
theorem committedRec_parts (r : Rec) (x : Record) (now : Nat) : (committedRec r x now).inProgress = none ∧
    (committedRec r x now).staging = r.staging ∧ (committedRec r x now).resume = r.resume ∧ (committedRec r x now).store = r.store ∧
    (committedRec r x now).cur = r.cur ∧ (committedRec r x now).copying = r.copying ∧ (committedRec r x now).nextSeq = r.nextSeq ∧
    recCur (committedRec r x now) = { recCur r with records := (recCur r).records ++ [folded r x] } := by
  obtain ⟨hstore, -, hcopying, hcur, hstaging, hresume, hseq, -⟩ :=
    recPutSlot_parts r.cur { recCur r with records := (recCur r).records ++ [folded r x] } r
  refine ⟨rfl, hstaging, hresume, hstore, hcur, hcopying, hseq, ?_⟩
  have hput := recSlot_put_same r.cur { recCur r with records := (recCur r).records ++ [folded r x] } r
  rw [← hput]
  show recSlot (recPutSlot r.cur _ r) (recPutSlot r.cur _ r).cur = _
  rw [hcur]

theorem recordCommit_commits {s : State} {x : Record} (hstore : s.recorder.store = .mram) (hx : s.recorder.inProgress = some x)
    (hfits : slotUsed (recCur s.recorder) + recSize x ≤ segBytes s.recorder) (hfill : (recCur s.recorder).fillNo ≠ 0)
    (hstaging : s.recorder.staging = []) (hresume : s.recorder.resume = none) (hcopying : s.recorder.copying = none) :
    ∃ t, exec .recordCommit s = .next t ∧ t.recorder.inProgress = none ∧
      (recCur t.recorder).records = (recCur s.recorder).records ++ [folded s.recorder x] := by
  obtain ⟨a, h⟩ := commitRecord_fits hx hfits hfill
  obtain ⟨hnone, hstaging', hresume', -, -, -, -, hcur⟩ := committedRec_parts s.recorder x s.tim.now
  refine ⟨commitRecord s, ?_, ?_, ?_⟩
  · refine congrArg Host.Outcome.next ((if_neg (by simp [hstore, hx, hcopying])).trans (takeStaged_rests ?_ ?_))
    · rw [h]
      exact hresume'.trans hresume
    · rw [h]
      exact hstaging'.trans hstaging
  · rw [h]
    exact hnone
  · rw [h]
    exact congrArg RecSlot.records hcur

/-! ### Wear -/

/-- The slot whose copy ends, on its spare. -/
def copied (r : Rec) (x : RecSlot) (bad : List Nat) : RecSlot :=
  { x with phys := 72 - r.spares, records := x.records.map (fun z => { z with moved := true }),
           zeroed := x.zeroed ++ bad.filter (fun w => !x.zeroed.contains w) }

theorem mem_copied (r : Rec) (x : RecSlot) {bad : List Nat} {w : Nat} (h : w ∈ bad) : w ∈ (copied r x bad).zeroed := by
  rw [copied, List.mem_append, List.mem_filter]
  by_cases hw : w ∈ x.zeroed
  · exact .inl hw
  · exact .inr ⟨h, by simpa using hw⟩

/-- The recorder as the copy of slot `k` ends. -/
def copyDone (k : Nat) (bad : List Nat) (r : Rec) : Rec :=
  { r with slots := Tab.put recSlotDef r.slots k (copied r (recSlot r k) bad), spares := r.spares - 1, copying := none }

theorem recSlot_copyDone {r : Rec} (h : r.store = .mram) (k : Nat) (bad : List Nat) : recSlot (copyDone k bad r) k = copied r (recSlot r k) bad := by
  have hslots : recSlots (copyDone k bad r) = Tab.put recSlotDef r.slots k (copied r (recSlot r k) bad) := if_neg (by rw [copyDone, h]; decide)
  rw [recSlot, hslots, Tab.get_put_same]

theorem copyTold_sets (phys : Nat) (p : List Byte) (s : State) :
    stkSet (record 0x04 phys p (inc (Reg.REC_CNT 3) 1 (sticky Reg.REC_STICKY 1 s))) Reg.REC_STICKY 1 :=
  record_holds _ _ _ _ _ _ (inc_holds _ _ _ _ _ (sticky_sets _ (by decide) _))

theorem copyEnds_ends {s : State} (hstore : s.recorder.store = .mram) (k phys worst : Nat) (bad : List Nat) : let t := copyEnds k phys worst bad s
    (recSlot t.recorder k).phys = 72 - s.recorder.spares ∧ t.recorder.spares = s.recorder.spares - 1 ∧
      (∀ w ∈ bad, w ∈ (recSlot t.recorder k).zeroed) ∧ t.recorder.copying = none ∧ stkSet t Reg.REC_STICKY 1 := by
  intro t
  have hkept : WriterKept (copyDone k bad s.recorder) t.recorder := by
    have hrecord := record_kept 0x04 phys (leBytes 4 (72 - s.recorder.spares) ++ leBytes 4 worst)
      (inc (Reg.REC_CNT 3) 1 (sticky Reg.REC_STICKY 1 (takeStaged 66 (setRec (copyDone k bad s.recorder) s))))
    have hstaged := takeStaged_kept 66 (setRec (copyDone k bad s.recorder) s)
    rw [setRec_recorder] at hstaged
    rw [inc_recorder, sticky_recorder] at hrecord
    exact hstaged.trans hrecord
  have hface := (hkept.faces k).trans (congrArg slotFace (recSlot_copyDone hstore k bad))
  simp only [slotFace, Prod.mk.injEq] at hface
  obtain ⟨hphys, hzeroed, -⟩ := hface
  refine ⟨hphys, hkept.spares, fun w hw => ?_, hkept.copying, ?_⟩
  · rw [hzeroed]
    exact mem_copied _ _ hw
  · exact copyTold_sets _ _ _

/-! ### The lifeboat -/

theorem toLifeboat_told (cause : Nat) (r : Rec) (s : State) : stkSet (fillHigh (sticky Reg.REC_STICKY 3 (setRec r s))) Reg.REC_STICKY 3 :=
  fillHigh_holds _ _ _ (sticky_sets _ (by decide) _)

/-- The recorder as it moves to the lifeboat, its first record begun. -/
def boatRec (e : RecEvent) (r : Rec) : Rec :=
  recStart e { r with store := .lifeboat, boat := [], cur := 0, nextSeq := (match r.inProgress with | some x => x.seq | none => r.nextSeq),
                      inProgress := none, heldFolds := [], resume := r.inProgress.map (fun x => (eventOf x, r.heldFolds)), copying := none,
                      foldDirty := false }

theorem toLifeboat_moves {cause : Nat} {s : State} (h : s.recorder.store ≠ .lifeboat) : ∃ e a, e.type = 6 ∧
    (toLifeboat cause s).recorder = { boatRec e s.recorder with above := a } ∧ stkSet (toLifeboat cause s) Reg.REC_STICKY 3 := by
  obtain ⟨a, ha⟩ := fillHigh_recorder (sticky Reg.REC_STICKY 3 (setRec (boatRec ⟨0x0006, cause, leBytes 8 (recNewestSeq s.recorder), s.tim.now,
    decide (s.tim.state = .free), false, 0⟩ s.recorder) s))
  rw [sticky_recorder, setRec_recorder] at ha
  rw [toLifeboat, if_neg h]
  exact ⟨_, a, rfl, ha, toLifeboat_told cause _ s⟩

theorem boatRec_parts (e : RecEvent) (r : Rec) : (boatRec e r).store = .lifeboat ∧ (boatRec e r).slots = r.slots ∧ (boatRec e r).cur = 0 :=
  ⟨rfl, rfl, rfl⟩

theorem lifeboat_moves {cause : Nat} {s : State} (h : s.recorder.store = .mram) :
    (toLifeboat cause s).recorder.store = .lifeboat ∧ (toLifeboat cause s).recorder.slots = s.recorder.slots ∧
      (toLifeboat cause s).recorder.cur = 0 ∧ stkSet (toLifeboat cause s) Reg.REC_STICKY 3 := by
  obtain ⟨e, a, -, hrec, hset⟩ := toLifeboat_moves (cause := cause) (s := s) (by simp [h])
  obtain ⟨hstore, hslots, hcur⟩ := boatRec_parts e s.recorder
  rw [hrec]
  exact ⟨hstore, hslots, hcur, hset⟩

theorem execLifeboat_nv {s : State} (h : s.recorder.store = .mram) : exec (.lifeboat 1) s = .next (toLifeboat 1 s) := by
  have hfail : nvFailed s = toLifeboat 1 s := by simp only [nvFailed, h]
  exact congrArg Host.Outcome.next ((if_pos rfl).trans hfail)

theorem execLifeboat_boot {s : State} (h : s.recorder.store = .notUp) (hmode : s.crp.mode = .boot) :
    exec (.lifeboat 1) s = .next (setRec { s.recorder with nvFail := true } s) := by
  have hfail : nvFailed s = setRec { s.recorder with nvFail := true } s := by simp only [nvFailed, h, hmode, if_true]
  exact congrArg Host.Outcome.next ((if_pos rfl).trans hfail)

/-! ### A start on the lifeboat -/

theorem openSlot_holds (k : Nat) (s : State) : stkHolds s (openSlot k s) := by
  unfold openSlot
  dsimp only
  split
  · exact setRec_holds _ s
  · refine stkHolds_trans ?_ (setRec_holds _ _)
    refine stkHolds_trans ?_ (inc_holds _ _ _)
    refine stkHolds_trans ?_ (inc_holds _ _ _)
    exact stkHolds_trans (setRec_holds _ s) (sticky_holds _ _ _)

theorem room_holds (x : Record) (s : State) : stkHolds s (room x s) := by
  unfold room
  split
  · exact stkHolds_refl s
  · split
    · exact openSlot_holds _ s
    · exact stkHolds_refl s

theorem commitInto_holds (x : Record) (s : State) : stkHolds s (commitInto x s) := by
  unfold commitInto
  refine stkHolds_trans ?_ (fillHigh_holds _)
  refine stkHolds_trans ?_ (perf_holds _ _ _)
  refine stkHolds_trans ?_ (inc_holds _ _ _)
  refine stkHolds_trans ?_ (perf_holds _ _ _)
  exact stkHolds_trans (setRec_holds _ s) (inc_holds _ _ _)

theorem commitRecord_holds (s : State) : stkHolds s (commitRecord s) := by
  cases hx : s.recorder.inProgress with
  | none =>
    rw [show commitRecord s = s by simp only [commitRecord, hx]]
    exact stkHolds_refl s
  | some x =>
    rw [commitRecord_eq hx]
    exact stkHolds_trans (room_holds x s) (commitInto_holds x _)

theorem commitAll_holds (n : Nat) (s : State) : stkHolds s (commitAll n s) := by
  induction n generalizing s with
  | zero => exact stkHolds_refl s
  | succ n ih =>
    rw [commitAll]
    split
    · exact stkHolds_refl s
    · exact stkHolds_trans (stkHolds_trans (commitRecord_holds s) (takeStaged_holds _ _)) (ih _)

/-- A lifeboat with no slot opened yet, and the LIFEBOAT record begun. -/
structure FreshBoat (e : RecEvent × List Nat) (x : Record) (r : Rec) : Prop where
  store : r.store = .lifeboat
  boat : r.boat = []
  cur : r.cur = 0
  progress : r.inProgress = some x
  folds : r.heldFolds = []
  resume : r.resume = some e
  copying : r.copying = none

/-- The first slot of the lifeboat is opened for its first record. -/
def boatOpened (r : Rec) (first : Nat) : Rec :=
  { recPutSlot 0 { recSlot r 0 with fillNo := r.opened + 1, firstSeq := first, records := [], zeroed := [] } r with cur := 0, opened := r.opened + 1 }

theorem room_boat {e : RecEvent × List Nat} {x y : Record} {s : State} (h : FreshBoat e x s.recorder) :
    ∃ first, room y s = setRec (boatOpened s.recorder first) s := by
  have hslots : recSlots s.recorder = [] := (if_pos h.store).trans h.boat
  have hempty (k : Nat) : recSlot s.recorder k = recSlotDef k := by rw [recSlot, hslots]; rfl
  have hcur : recCur s.recorder = recSlotDef 0 := by rw [recCur_eq, h.cur, hempty]
  have hnext : nextSlot s.recorder = some 1 := by
    rw [nextSlot, show ringSlots s.recorder = [0, 1] from if_pos h.store, h.cur]
    rfl
  refine ⟨x.seq, ?_⟩
  rw [room, if_neg (by rw [hcur]; exact fun hfill => hfill.2 rfl), hnext]
  dsimp only
  rw [hcur, if_pos (show (recSlotDef 0).fillNo = 0 from rfl), h.cur, openSlot]
  simp only [hempty, h.progress]
  rw [if_pos (show (recSlotDef 0).records.isEmpty = true from rfl), boatOpened, hempty]

theorem recPutSlot_folds (k : Nat) (x : RecSlot) (r : Rec) : (recPutSlot k x r).heldFolds = r.heldFolds := by
  unfold recPutSlot
  split <;> rfl

theorem boatOpened_parts (r : Rec) (first : Nat) : (boatOpened r first).store = r.store ∧ (boatOpened r first).heldFolds = r.heldFolds ∧
    (boatOpened r first).resume = r.resume ∧ (boatOpened r first).copying = r.copying ∧ (boatOpened r first).nextSeq = r.nextSeq ∧
    (boatOpened r first).cur = 0 ∧
    recCur (boatOpened r first) = { recSlot r 0 with fillNo := r.opened + 1, firstSeq := first, records := [], zeroed := [] } := by
  obtain ⟨hstore, -, hcopying, -, -, hresume, hseq, -⟩ :=
    recPutSlot_parts 0 { recSlot r 0 with fillNo := r.opened + 1, firstSeq := first, records := [], zeroed := [] } r
  exact ⟨hstore, recPutSlot_folds _ _ _, hresume, hcopying, hseq, rfl, recSlot_put_same _ _ _⟩

/-- The record that an interrupted one starts. -/
def resumed (e : RecEvent × List Nat) (r : Rec) : Rec := { recStart e.1 { r with resume := none } with heldFolds := e.2 }

theorem takeStaged_resumes {e : RecEvent × List Nat} {s : State} (hnone : s.recorder.inProgress = none) (hstore : s.recorder.store ≠ .notUp)
    (hcopying : s.recorder.copying = none) (hresume : s.recorder.resume = some e) (n : Nat) :
    takeStaged (n + 1) s = setRec (resumed e s.recorder) s := by
  rw [takeStaged, if_neg (by simp [hnone, hstore, hcopying])]
  simp only [hresume, resumed]

theorem resumed_parts (e : RecEvent × List Nat) (r : Rec) : ∃ z, (resumed e r).inProgress = some z ∧ z.seq = r.nextSeq ∧ z.type = e.1.type ∧
    z.payload = recPad e.1.payload ∧ (resumed e r).store = r.store ∧ (resumed e r).cur = r.cur ∧ (resumed e r).heldFolds = e.2 ∧
    recCur (resumed e r) = recCur r :=
  ⟨_, rfl, rfl, rfl, rfl, rfl, rfl, rfl, rfl⟩

/-- A record that commits to the lifeboat opens its first slot. -/
theorem commitRecord_boat {e : RecEvent × List Nat} {x : Record} {s : State} (h : FreshBoat e x s.recorder) :
    ∃ first a, (commitRecord s).recorder = { committedRec (boatOpened s.recorder first) x s.tim.now with above := a } := by
  obtain ⟨first, hroom⟩ := room_boat (y := x) h
  obtain ⟨a, ha⟩ := commitInto_recorder x (setRec (boatOpened s.recorder first) s)
  refine ⟨first, a, ?_⟩
  rw [commitRecord_eq h.progress, hroom, ha, setRec_recorder]
  rfl

/-- A lifeboat with one committed record, and the next begun. -/
structure BoatStarted (e : RecEvent × List Nat) (x : Record) (n : Nat) (r : Rec) (z : Record) : Prop where
  progress : r.inProgress = some z
  seq : z.seq = n
  type : z.type = e.1.type
  payload : z.payload = recPad e.1.payload
  store : r.store = .lifeboat
  cur : r.cur = 0
  folds : r.heldFolds = e.2
  filled : (recCur r).fillNo ≠ 0
  records : (recCur r).records = [x]

theorem boat_first {e : RecEvent × List Nat} {x : Record} {s : State} (h : FreshBoat e x s.recorder) (n : Nat) :
    ∃ z, BoatStarted e x s.recorder.nextSeq (takeStaged (n + 1) (commitRecord s)).recorder z := by
  obtain ⟨first, a, hc⟩ := commitRecord_boat h
  obtain ⟨hostore, hofolds, horesume, hocopying, hoseq, hocur, hoslot⟩ := boatOpened_parts s.recorder first
  obtain ⟨hnone, -, hresume, hstore, hcur, hcopying, hseq, hslot⟩ := committedRec_parts (boatOpened s.recorder first) x s.tim.now
  have hfolded : folded (boatOpened s.recorder first) x = x := by rw [folded, hofolds, h.folds]; rfl
  rw [hoslot, hfolded] at hslot
  have hr := takeStaged_resumes (s := commitRecord s) (e := e) (by rw [hc]; exact hnone)
    (by rw [hc]; exact fun hne => by simp [hstore, hostore, h.store] at hne)
    (by rw [hc]; exact hcopying.trans (hocopying.trans h.copying)) (by rw [hc]; exact hresume.trans (horesume.trans h.resume)) n
  obtain ⟨z, hz, hzseq, hztype, hzpay, hzstore, hzcur, hzfolds, hzslot⟩ := resumed_parts e (commitRecord s).recorder
  have hrecCur : recCur (commitRecord s).recorder = recCur (committedRec (boatOpened s.recorder first) x s.tim.now) := by rw [hc]; rfl
  have hstoreC : (commitRecord s).recorder.store = .lifeboat := by rw [hc]; exact hstore.trans (hostore.trans h.store)
  have hcurC : (commitRecord s).recorder.cur = 0 := by rw [hc]; exact hcur.trans hocur
  have hseqC : (commitRecord s).recorder.nextSeq = s.recorder.nextSeq := by rw [hc]; exact hseq.trans hoseq
  rw [hr, setRec_recorder]
  refine ⟨z, hz, hzseq.trans hseqC, hztype, hzpay, hzstore.trans hstoreC, hzcur.trans hcurC, hzfolds, ?_, ?_⟩
  · rw [hzslot, hrecCur, hslot]
    exact Nat.succ_ne_zero _
  · rw [hzslot, hrecCur, hslot]
    rfl

theorem recPad_length (p : List Byte) : (recPad p).length ≤ 224 := List.length_take_le _ _

/-- The second record of a lifeboat finds room beside the first. -/
theorem boat_second {e : RecEvent × List Nat} {x z : Record} {n : Nat} {s : State} (h : BoatStarted e x n s.recorder z) (he : e.2 = [])
    (hx : x.payload.length ≤ 224) : ∃ a, (commitRecord s).recorder = { committedRec s.recorder z s.tim.now with above := a } ∧
      (recCur (commitRecord s).recorder).records = [x, z] ∧ (commitRecord s).recorder.cur = 0 ∧ (commitRecord s).recorder.store = .lifeboat := by
  have hz : z.payload.length ≤ 224 := h.payload ▸ recPad_length _
  have hfits : slotUsed (recCur s.recorder) + recSize z ≤ segBytes s.recorder := by
    rw [slotUsed, h.records, segBytes, if_pos h.store]
    simp only [recSize, List.map_cons, List.map_nil, List.sum_cons, List.sum_nil]
    omega
  obtain ⟨a, ha⟩ := commitRecord_fits h.progress hfits h.filled
  obtain ⟨-, -, -, hstore, hcur, -, -, hslot⟩ := committedRec_parts s.recorder z s.tim.now
  have hfolded : folded s.recorder z = z := by rw [folded, h.folds, he]; rfl
  have hrecords : (recCur (committedRec s.recorder z s.tim.now)).records = [x, z] := by rw [hslot, hfolded, h.records]; rfl
  refine ⟨a, ha, ?_, ?_, ?_⟩
  · rw [ha]
    exact hrecords
  · rw [ha]
    exact hcur.trans h.cur
  · rw [ha]
    exact hstore.trans h.store

theorem commitAll_commits {s : State} {x : Record} (hx : s.recorder.inProgress = some x) (hstore : s.recorder.store ≠ .notUp) (n : Nat) :
    commitAll (n + 1) s = commitAll n (takeStaged 66 (commitRecord s)) := by
  rw [commitAll, if_neg (by simp [hx, hstore])]

/-- A start on the lifeboat commits its LIFEBOAT record and its START record. -/
theorem commitAll_boat {e : RecEvent × List Nat} {x : Record} {s : State} (h : FreshBoat e x s.recorder) (he : e.2 = []) (hx : x.payload.length ≤ 224) :
    (commitAll 2 s).recorder.store = .lifeboat ∧
      (recSlot (commitAll 2 s).recorder 0).records.map (fun z => (z.type, z.seq)) = [(x.type, x.seq), (e.1.type, s.recorder.nextSeq)] := by
  obtain ⟨z, hz⟩ := boat_first h 65
  obtain ⟨a, -, hrecords, hcur, hstore⟩ := boat_second hz he hx
  have hrun : commitAll 2 s = takeStaged 66 (commitRecord (takeStaged 66 (commitRecord s))) := by
    rw [commitAll_commits h.progress (by simp [h.store]), commitAll_commits hz.progress (by simp [hz.store])]
    rfl
  have hkept := takeStaged_kept 66 (commitRecord (takeStaged 66 (commitRecord s)))
  have hface := hkept.faces 0
  simp only [slotFace, Prod.mk.injEq] at hface
  obtain ⟨-, -, hmap⟩ := hface
  rw [recCur_eq, hcur] at hrecords
  rw [hrun]
  refine ⟨hkept.store.trans hstore, hmap.trans ?_⟩
  rw [hrecords, List.map_cons, List.map_cons, List.map_nil, hz.type, hz.seq]

theorem boatUp_fresh {r : Rec} (hstore : r.store = .mram) (hnone : r.inProgress = none) (cause : Nat) (s : State) :
    ∃ x, FreshBoat (startEvent s, []) x (boatUp cause r s).recorder ∧ x.payload.length ≤ 224 ∧ x.type = 6 ∧ x.seq = 0 ∧
      (boatUp cause r s).recorder.nextSeq = 1 ∧ stkSet (boatUp cause r s) Reg.REC_STICKY 3 := by
  obtain ⟨e, a, htype, hrec, hset⟩ := toLifeboat_moves (cause := cause) (s := setRec { r with nextSeq := 0, readSeq := 0, nvFail := false } s)
    (by rw [setRec_recorder]; simp [hstore])
  rw [setRec_recorder] at hrec
  have hboat : (boatUp cause r s).recorder = { boatRec e { r with nextSeq := 0, readSeq := 0, nvFail := false } with
      above := a, resume := some (startEvent s, []) } := by
    rw [boatUp, setRec_recorder, hrec]
  refine ⟨⟨0, 6, e.key, recPad e.payload, 1, e.time, 0, e.timeFree, true, false⟩, ?_, recPad_length _, rfl, rfl, ?_, setRec_holds _ _ _ _ hset⟩
  · rw [hboat]
    refine ⟨rfl, rfl, rfl, ?_, rfl, rfl, rfl⟩
    simp [boatRec, recStart, hnone, htype]
  · rw [hboat]
    simp [boatRec, recStart, hnone]

theorem recUp_boat {s : State} (h : s.recorder.nvFail = true) :
    ∃ r : Rec, r.store = .mram ∧ r.inProgress = none ∧ recUp s = commitAll 2 (boatUp 1 r s) :=
  ⟨_, rfl, rfl, if_pos h⟩

theorem recUp_onBoat {s : State} (h : s.recorder.nvFail = true) : (recUp s).recorder.store = .lifeboat ∧ stkSet (recUp s) Reg.REC_STICKY 3 ∧
    ((recSlot (recUp s).recorder 0).records.map (fun x => (x.type, x.seq))).take 2 = [(6, 0), (1, 1)] := by
  obtain ⟨r, hstore, hnone, hup⟩ := recUp_boat h
  obtain ⟨x, hfresh, hlen, htype, hseq, hnext, hset⟩ := boatUp_fresh hstore hnone 1 s
  obtain ⟨hboat, hmap⟩ := commitAll_boat hfresh rfl hlen
  rw [hup]
  refine ⟨hboat, commitAll_holds _ _ _ _ hset, ?_⟩
  rw [hmap, htype, hseq, hnext]
  rfl

/-! ### Reading and clearing -/

theorem clearStatus_bank (m : List Byte) (s : State) (b : Bank) : clearStatus m { s with bank := b } = clearStatus m s := rfl

/-- The recorder after a command of the controller. -/
theorem withCmd_recorder {op : Nat} {f : List Byte → State → State × Nat × List Byte} {s : State} {j : Job} {c : Cmd}
    (hj : pickJob s 6 (fun _ => true) = some j) (hc : j.cmd = some c) (hop : c.opcode = op) :
    ∃ b, let r := f (cmdBody j) { s with bank := b }
      (withCmd 6 op f s).recorder = r.1.recorder ∧ (withCmd 6 op f s).free = r.1.free ∧
        ∀ a i, among raised a = false → stkSet r.1 a i → stkSet (withCmd 6 op f s) a i := by
  obtain ⟨b, hrun, -⟩ := withCmd_key (f := f) hj hc hop
  have hend (t : State) : (endJob j.id t).recorder = t.recorder ∧ (endJob j.id t).free = t.free :=
    ⟨part_of_seen (p := .recorder) (endJob_seen _ t (by simp)), part_of_seen (p := .free) (endJob_seen _ t (by simp))⟩
  have hcpl (code : Nat) (d : List Byte) (t : State) : (complete c code d t).recorder = t.recorder ∧ (complete c code d t).free = t.free :=
    ⟨part_of_seen (p := .recorder) (completeOpt_seen (some c) code d t (by simp)), part_of_seen (p := .free) (completeOpt_seen (some c) code d t (by simp))⟩
  refine ⟨b, ?_⟩
  dsimp only at hrun ⊢
  rw [hrun, (hend _).1, (hend _).2, (hcpl _ _ _).1, (hcpl _ _ _).2]
  refine ⟨rfl, rfl, fun a i ha h => ?_⟩
  rw [stkSet, stk_of_seen (endJob_seen _ _ ((le_butStk _ _ _ _ _ _).2 ha))]
  exact completeOpt_holds (some c) _ _ _ _ _ ha h

theorem openSlot_nonce (k : Nat) (s : State) : (openSlot k s).recorder.nonce = s.recorder.nonce := by
  obtain ⟨-, -, -, -, -, -, -, hnonce⟩ := recPutSlot_parts k { recSlot s.recorder k with
    fillNo := s.recorder.opened + 1, firstSeq := (match s.recorder.inProgress with | some a => a.seq | none => s.recorder.nextSeq), records := [],
    zeroed := [] } s.recorder
  unfold openSlot
  dsimp only
  split
  · exact hnonce
  · exact hnonce

theorem commitRecord_nonce (s : State) : (commitRecord s).recorder.nonce = s.recorder.nonce := by
  cases hx : s.recorder.inProgress with
  | none => rw [show commitRecord s = s by simp only [commitRecord, hx]]
  | some x =>
    obtain ⟨a, ha⟩ := commitInto_recorder x (room x s)
    obtain ⟨-, -, -, -, -, -, -, hput⟩ := recPutSlot_parts (room x s).recorder.cur
      { recCur (room x s).recorder with records := (recCur (room x s).recorder).records ++ [folded (room x s).recorder x] } (room x s).recorder
    have hroom : (room x s).recorder.nonce = s.recorder.nonce := by
      unfold room
      split
      · rfl
      · split
        · exact openSlot_nonce _ _
        · rfl
    rw [commitRecord_eq hx, ha]
    exact hput.trans hroom

/-- The recorder emptied, and the record of an event begun, which the reader is set to. -/
def clearedWith (e : RecEvent) (r : Rec) (s : State) : State :=
  fillHigh (inc (Reg.REC_CNT 6) 1 (sticky Reg.REC_STICKY 6 (setRec (recStart e { r with readSeq := r.nextSeq, foldDirty := false }) s)))

theorem clearedWith_clears (e : RecEvent) (r : Rec) (s : State) : (clearedWith e r s).recorder.nonce = r.nonce ∧
    stkSet (clearedWith e r s) Reg.REC_STICKY 6 ∧
    ∃ x, (clearedWith e r s).recorder.inProgress = some x ∧ x.type = e.type ∧ x.seq = (clearedWith e r s).recorder.readSeq := by
  obtain ⟨a, ha⟩ := fillHigh_recorder (inc (Reg.REC_CNT 6) 1 (sticky Reg.REC_STICKY 6
    (setRec (recStart e { r with readSeq := r.nextSeq, foldDirty := false }) s)))
  rw [inc_recorder, sticky_recorder, setRec_recorder] at ha
  refine ⟨?_, fillHigh_holds _ _ _ (inc_holds _ _ _ _ _ (sticky_sets _ (by decide) _)), ?_⟩
  · rw [clearedWith, ha]
    rfl
  · rw [clearedWith, ha]
    exact ⟨_, rfl, rfl, rfl⟩

theorem clearAll_eq (m : List Byte) (s : State) : ∃ e r, clearAll m s = clearedWith e r (commitRecord s) ∧ e.type = 3 ∧
    r.nonce = (commitRecord s).recorder.nonce := by
  refine ⟨_, _, rfl, rfl, ?_⟩
  split <;> rfl

/-- A clear that passes keeps the nonce that it finds, and begins the CLEARED record, which the reader is set to. -/
theorem clearAll_clears (m : List Byte) (s : State) : (clearAll m s).recorder.nonce = s.recorder.nonce ∧ stkSet (clearAll m s) Reg.REC_STICKY 6 ∧
    ∃ x, (clearAll m s).recorder.inProgress = some x ∧ x.type = 3 ∧ x.seq = (clearAll m s).recorder.readSeq := by
  obtain ⟨e, r, heq, htype, hnonce⟩ := clearAll_eq m s
  obtain ⟨hn, hset, x, hx, hxt, hxs⟩ := clearedWith_clears e r (commitRecord s)
  rw [heq]
  exact ⟨hn.trans (hnonce.trans (commitRecord_nonce s)), hset, x, hx, hxt.trans htype, hxs⟩

/-- The nonce is at its end (log entry 32). -/
def nonceEnded (s : State) : State := setRec { s.recorder with nonce := none } s

theorem recClear_clears {m : List Byte} {s : State} (h : clearStatus m s = 0) : (recClear m s).1 = clearAll m (nonceEnded s) :=
  congrArg Prod.fst (if_pos h)

theorem recClear_refuses {m : List Byte} {s : State} (h : clearStatus m s ≠ 0) :
    (recClear m s).1 = inc (Reg.REC_CNT 7) 1 (sticky Reg.REC_STICKY 7 (nonceEnded s)) := congrArg Prod.fst (if_neg h)

theorem execRecClear_runs {s : State} (hstore : s.recorder.store ≠ .notUp) (hcopying : s.recorder.copying = none) :
    exec .recClear s = .next (withCmd 6 0x39 recClear s) := congrArg Host.Outcome.next (if_neg (by simp [hstore, hcopying]))

/-- The ring's slot that a segment serves. -/
def servedBy (s : State) (p : Nat) : Option Nat :=
  (List.range 64).find? (fun k => (recSlot s.recorder k).inRing && decide ((recSlot s.recorder k).phys = p))

theorem segmentRetired_begins {s : State} {p k : Nat} (hstore : s.recorder.store = .mram) (hcopying : s.recorder.copying = none)
    (hspares : s.recorder.spares ≠ 0) (hk : servedBy s p = some k) :
    exec (.segmentRetired p .begins) s = .next (setRec { s.recorder with copying := some p } s) := by
  rw [servedBy] at hk
  show execSegmentRetired p .begins s = _
  simp only [execSegmentRetired, hstore, hk, hcopying, hspares, ne_eq, not_true_eq_false, Option.isSome_none, Bool.false_eq_true, if_false]

theorem segmentRetired_ends {s : State} {p k v : Nat} {bad : List Nat} (hstore : s.recorder.store = .mram) (hcopying : s.recorder.copying = some p)
    (hk : servedBy s p = some k) : exec (.segmentRetired p (.ends v bad)) s = .next (copyEnds k p v bad s) := by
  rw [servedBy] at hk
  show execSegmentRetired p (.ends v bad) s = _
  simp only [execSegmentRetired, hstore, hk, hcopying, ne_eq, not_true_eq_false, if_false, if_true]

/-- While a retirement copies, nothing commits and nothing is written back. -/
theorem copying_waits {s : State} (h : s.recorder.copying.isSome = true) : exec .recordCommit s = .next s ∧ exec .foldWriteBack s = .next s :=
  ⟨congrArg Host.Outcome.next (if_pos (by simp [h])), congrArg Host.Outcome.next (if_neg (by simp [Option.isSome_iff_ne_none.1 h]))⟩

end Sys2Proof.Machine
end
section
open Sys2Proof Sys2Proof.Machine Sys2Proof.Safety
/-- Settles O51: commits and folds, the retirement of a segment, the move to the lifeboat and a start there, reading, and clearing. -/
theorem recorderCompletes : Obligations.RecorderCompletes := by
  refine ⟨fun s x => ?_, fun s hdirty hcopying hdue => ?_, fun s p k hstore hcopying hspares hk => ?_, fun s p v k bad hstore hcopying hspares hk => ?_,
    fun s hstore => ?_, fun s hstore hgood => ?_, fun s hstore hmode => ?_, fun s w => ?_, fun s w => ?_, fun s j c hj hc hop => ?_,
    fun s j c hstore hcopying hj hc hop hok => ?_, fun s j c hstore hcopying hj hc hop hbad => ?_⟩
  · intro c hstore hx hfits hfill hstaging hresume hcopying
    exact recordCommit_commits hstore hx hfits hfill hstaging hresume hcopying
  · exact completes_of (congrArg Host.Outcome.next (if_pos (by simp [hdirty, hcopying, hdue]))) ⟨rfl, rfl⟩
  · exact completes_of (segmentRetired_begins hstore hcopying hspares hk) ⟨rfl, rfl, copying_waits rfl⟩
  · exact completes_of (segmentRetired_ends hstore hcopying hk) (copyEnds_ends hstore k p v bad)
  · obtain ⟨hboat, hslots, -, hset⟩ := lifeboat_moves (cause := 1) hstore
    exact completes_of (execLifeboat_nv hstore) ⟨hboat, hslots, hset⟩
  · obtain ⟨hboat, -, hcur, hset⟩ := lifeboat_moves (cause := 2) hstore
    exact completes_of (congrArg Host.Outcome.next ((if_neg (by decide)).trans (if_pos ⟨hstore, rfl, hgood⟩))) ⟨hboat, hcur, hset⟩
  · exact completes_of (execLifeboat_boot hstore hmode) ⟨rfl, recUp_onBoat rfl⟩
  · intro r hstore hin
    obtain ⟨a, ha⟩ := fillHigh_recorder (setRec { s.recorder with readSeq := w.toNat } s)
    exact completes_of (congrArg Host.Outcome.next ((if_neg hstore).trans (if_pos hin))) (by rw [ha, setRec_recorder])
  · intro r hstore hout
    exact completes_of (congrArg Host.Outcome.next ((if_neg hstore).trans (if_neg (Nat.not_le.2 hout)))) ⟨rfl, sticky_sets _ (by decide) _⟩
  · obtain ⟨b, hrec, hfree, -⟩ := withCmd_recorder (f := recNonce) hj hc hop
    exact completes_of rfl (by rw [hrec, hfree]; exact ⟨rfl, rfl⟩)
  · obtain ⟨b, hrec, -, hstk⟩ := withCmd_recorder (f := recClear) hj hc hop
    rw [recClear_clears ((clearStatus_bank _ s b).trans hok)] at hrec hstk
    obtain ⟨hnonce, hset, hbegun⟩ := clearAll_clears (cmdBody j) (nonceEnded { s with bank := b })
    refine completes_of (execRecClear_runs hstore hcopying) ⟨?_, hstk _ _ (by decide) hset, ?_⟩
    · rw [hrec, hnonce]
      rfl
    · rw [hrec]
      exact hbegun
  · obtain ⟨b, hrec, -, hstk⟩ := withCmd_recorder (f := recClear) hj hc hop
    rw [recClear_refuses (by rwa [clearStatus_bank])] at hrec hstk
    refine completes_of (execRecClear_runs hstore hcopying) ⟨?_, hstk _ _ (by decide) (inc_holds _ _ _ _ _ (sticky_sets _ (by decide) _))⟩
    rw [hrec]
    rfl
end

section
/-! SUPPORT. Base epochs, commands on antennas, surveys and the leap second (R106 to R122, R131). -/
namespace Sys2Proof.Machine
open Sys2Proof.Safety

/-! ### Formation -/

theorem lockObs_ref (e : Nat) (s : State) (o : ChanObs) : (lockObs e s o).ref = s.ref := by
  unfold lockObs
  split <;> rfl

/-- A formation point appends its epoch, unpublished. -/
theorem baseEpoch_forms {s : State} (l : List ChanObs) (hmode : formMode s = true) (hgrid : s.ref.gridAt < formPoint s) :
    ∃ t p, exec (.baseEpoch l) s = .next t ∧ t.ref.gridAt = formPoint s ∧ t.ref.epochs = (l.foldl (lockObs (formPoint s)) s).ref.epochs ++ [p] ∧
      p.e = formPoint s ∧ p.published = false ∧
      p.sigs = if bbValid s && !s.ing.silent then formSigs s (refSetAt (formPoint s) s) (formPoint s) l else [] :=
  ⟨_, _, congrArg Host.Outcome.next (if_neg (by simp [hmode, Nat.not_le.2 hgrid])), rfl, rfl, rfl, rfl, rfl⟩

/-- What an observable that forms fulfils. -/
theorem formOne_some {s : State} {regs : Tab Word} {e : Nat} {x : ChanObs} {o : BaseSig} (h : formOne s regs e x = some o) :
    (ctxAtE s e o.chan).isSome = true ∧ antForms s regs o.ant = true ∧ 4 * setFld regs Reg.REF_CTRL 13 8 ≤ o.cn0 ∧ (o.half = true → o.comp = 0) := by
  unfold formOne at h
  split at h
  next y c _ hc =>
    split at h
    next m _ =>
      obtain ⟨hforms, ho⟩ := Option.ite_none_right_eq_some.1 h
      obtain rfl := Option.some.inj ho
      simp only [Bool.and_eq_true, decide_eq_true_eq] at hforms
      obtain ⟨⟨⟨⟨hant, -⟩, -⟩, hcn0⟩, -⟩ := hforms
      refine ⟨?_, hant, hcn0, fun hhalf => ?_⟩
      · cases hctx : ctxAtE s e x.chan with
        | none => simp [hctx] at hc
        | some d => rfl
      · simp only [Bool.and_eq_true, decide_eq_true_eq] at hhalf
        exact hhalf.1
    next => exact absurd h (by simp)
  next => exact absurd h (by simp)

theorem mem_formSigs {s : State} {regs : Tab Word} {e : Nat} {l : List ChanObs} {o : BaseSig} : o ∈ formSigs s regs e l ↔
    o ∈ l.filterMap (formOne s regs e) ∧ ∀ x ∈ l.filterMap (formOne s regs e), x.ant = o.ant → sameSig x o = true → o.chan ≤ x.chan := by
  rw [formSigs, List.mem_filter]
  simp only [Bool.not_eq_true', List.any_eq_false, Bool.and_eq_true, decide_eq_true_eq, not_and, Nat.not_lt, and_imp]

/-! ### Publication -/

theorem surveyEpoch_epochs (p : BaseEp) (sats : List SatPos) (s : State) : (surveyEpoch p sats s).ref.epochs = s.ref.epochs := by
  unfold surveyEpoch
  split
  · split <;> rfl
  · rfl

theorem refRefused_ref (s : State) : (refRefused s).ref = s.ref := rfl
theorem record_ref (type key : Nat) (p : List Byte) (s : State) : (record type key p s).ref = s.ref :=
  part_of_seen (p := .ref) (record_seen _ _ _ s (by simp))
theorem excluded_ref (n cause : Nat) (s : State) : (excluded n cause s).ref = s.ref := by
  rw [excluded, record_ref]
  rfl

/-- A step that is taken or not, and leaves the reference in both cases. -/
theorem ite_ref {f : State → State} (hf : ∀ t, (f t).ref = t.ref) (c : Prop) [Decidable c] (s : State) : (if c then f s else s).ref = s.ref := by
  split
  · exact hf s
  · rfl

theorem antEpoch_epochs (p : BaseEp) (c : Checks) (old s : State) (n : Nat) : (antEpoch p c old s n).ref.epochs = s.ref.epochs := by
  have hwr (a : Nat) (w : Word) (x : RefAnt) (t : State) : (wr a w (setRefAnt n x t)).ref.epochs = t.ref.epochs := rfl
  have hperf (t : State) : (perf 0x111 1 t).ref = t.ref := rfl
  unfold antEpoch
  dsimp only
  rw [ite_ref refRefused_ref, ite_ref (record_ref 0x19 n []), ite_ref (excluded_ref n _), hwr, ite_ref hperf]

theorem setStream_epochs (k : Nat) (x : Stream) (s : State) : (setStream k x s).ref.epochs = s.ref.epochs := rfl

theorem refChange_epochs (altered : BitVec 4) (moved : Bool) (s : State) : (refChange altered moved s).ref.epochs = s.ref.epochs := by
  rw [refChange]
  dsimp only
  refine (proj_foldl (fun t => t.ref.epochs) (fun t k => ?_) _ _).trans ?_
  · generalize (_ || _ : Bool) = hit
    cases hit
    · rfl
    · exact setStream_epochs _ _ _
  · rw [record_ref]
    rfl

/-- The state in which an epoch's checks have judged every antenna. -/
def antsJudged (p : BaseEp) (sats : List SatPos) (s : State) : State :=
  let s := surveyEpoch p sats s
  (List.range (gradeAnts (setRef { s.ref with ambs := (checksOf s p sats).2 } s))).foldl (antEpoch p (checksOf s p sats).1 s)
    (setRef { s.ref with ambs := (checksOf s p sats).2 } s)

theorem antsJudged_epochs (p : BaseEp) (sats : List SatPos) (s : State) : (antsJudged p sats s).ref.epochs = s.ref.epochs :=
  (proj_foldl (fun t => t.ref.epochs) (fun t n => antEpoch_epochs p _ _ t n) _ _).trans (surveyEpoch_epochs p sats s)

/-- The primary reference after an epoch, with the change that it makes. -/
def primaryTaken (p : BaseEp) (c : Checks) (s : State) : State :=
  let prim := primaryOf s p
  let moved := decide (prim ≠ s.ref.primary)
  let t := setRef { s.ref with primary := prim, noXchk := (match prim with | some n => (testedPairs c n).isEmpty | none => false) } s
  if moved || decide (p.altered ≠ 0) then refChange p.altered moved t else t

theorem primaryTaken_epochs (p : BaseEp) (c : Checks) (s : State) : (primaryTaken p c s).ref.epochs = s.ref.epochs := by
  have hset (a : Option Nat) (b : Bool) : (setRef { s.ref with primary := a, noXchk := b } s).ref.epochs = s.ref.epochs := rfl
  unfold primaryTaken
  dsimp only
  split
  · rw [refChange_epochs, hset]
  · rw [hset]

/-- The antennas in service. -/
def inService (s : State) : List Nat := (List.range (gradeAnts s)).filter (fun n => decide ((refAnt s n).state = .inService))

/-- An epoch as it is published. -/
def publishedEp (p : BaseEp) (change : Bool) (sats : List SatPos) (s : State) : BaseEp :=
  { p with published := true, refChange := change, inService := inService s, sats := sats, sigs := p.sigs.filter (fun o => (inService s).contains o.ant) }

/-- The epoch in its place, with the ephemerides that it brings. -/
def epochPut (p p' : BaseEp) (eph : List SnapEph) (s : State) : State :=
  openGates p.e (keepEphs eph (setRef { s.ref with ephs := eph, epochs := s.ref.epochs.map (fun q => if q.e = p.e then p' else q) } s))

theorem epochPut_ref (p p' : BaseEp) (eph : List SnapEph) (s : State) :
    (epochPut p p' eph s).ref = { s.ref with ephs := eph, epochs := s.ref.epochs.map (fun q => if q.e = p.e then p' else q) } := rfl

theorem basePublish_publishes {s : State} {p : BaseEp} (l : List SatPos) (eph : List SnapEph) (hp : s.ref.epochs.find? (fun q => !q.published) = some p) :
    ∃ t change, t.ref.epochs = s.ref.epochs ∧ exec (.basePublish l eph) s = .next (epochPut p (publishedEp p change l t) eph t) := by
  refine ⟨primaryTaken p (checksOf (surveyEpoch p l s) p l).1 (antsJudged p l s),
    decide (primaryOf (antsJudged p l s) p ≠ (antsJudged p l s).ref.primary) || decide (p.altered ≠ 0), ?_, ?_⟩
  · rw [primaryTaken_epochs, antsJudged_epochs]
  · show execBasePublish l eph s = _
    simp only [execBasePublish, hp]
    rfl

theorem published_any {p p' : BaseEp} {l : List BaseEp} {ok : BaseEp → Bool} (hp : p ∈ l) (hok : ok p' = true) :
    (l.map (fun q => if q.e = p.e then p' else q)).any ok = true := by
  rw [List.any_eq_true]
  exact ⟨p', List.mem_map.2 ⟨p, hp, if_pos rfl⟩, hok⟩

/-! ### Commands on antennas and surveys -/

theorem refAnt_setRefAnt (n : Nat) (x : RefAnt) (s : State) : refAnt (setRefAnt n x s) n = x := Tab.get_put_same _ _ _ _

theorem surveyEngine_survey (s : State) : (surveyEngine s).ref.surveyState = s.ref.surveyState ∧
    ∀ v, s.ref.survey = some v → ∃ e, (surveyEngine s).ref.survey = some { v with engine := e } := by
  refine ⟨?_, fun v hv => ?_⟩
  · unfold surveyEngine
    split
    · split <;> rfl
    · rfl
  · unfold surveyEngine
    rw [hv]
    dsimp only
    split
    · exact ⟨_, rfl⟩
    · exact ⟨v.engine, hv⟩

/-- A survey that ends: its coordinates are written, or it tells that they are not good enough. -/
theorem surveyEnd_ends {s : State} {v : Survey} (hv : s.ref.survey = some v) (hfin : v.fin ≤ s.tim.now) (hmode : s.crp.mode = .survey) :
    ∃ t, exec .surveyEnd s = .next t ∧ t.ref.survey = none ∧ (t.ref.surveyState = 2 ∨ t.ref.surveyState = 3) ∧
      (t.ref.surveyState = 3 → stkSet t Reg.REF_STICKY 5) := by
  have hexec : exec .surveyEnd s = .next (let r := v.ants.foldl (surveyAnt v) (s, true)
      let s := setRef { r.1.ref with survey := none, surveyState := if r.2 then 2 else 3 } r.1
      if r.2 then notice 4 s else sticky Reg.REF_STICKY 5 s) := by
    show execSurveyEnd s = _
    simp only [execSurveyEnd, hv, hmode, Nat.not_lt.2 hfin, ne_eq, not_true_eq_false, or_self, if_false]
  refine ⟨_, hexec, ?_⟩
  generalize v.ants.foldl (surveyAnt v) (s, true) = r
  obtain ⟨u, ok⟩ := r
  cases ok
  · exact ⟨rfl, .inr rfl, fun _ => sticky_sets _ (by decide) _⟩
  · exact ⟨rfl, .inl rfl, fun h => absurd (show 2 = 3 from h) (by decide)⟩

/-- A survey as it starts. -/
def surveyBegun (s : State) : Survey :=
  ⟨s.tim.now + fld s Reg.REF_SURVEY_CFG 10 0 * 60 * tSec, fld s Reg.REF_SURVEY_CFG 19 16, (anchor s (fld s Reg.REF_SURVEY_CFG 19 16)).isNone,
    (anchor s (fld s Reg.REF_SURVEY_CFG 19 16)).getD ((surveyed s (fld s Reg.REF_SURVEY_CFG 19 16)).head?.getD 0), none,
    (surveyed s (fld s Reg.REF_SURVEY_CFG 19 16)).map (fun n => ⟨n, [], none⟩)⟩

theorem execSurveyStart_begins {s : State} {w : Word} (hmode : s.crp.mode = .survey) (hgo : bitAt w 0 = true) (hnone : s.ref.survey = none) :
    exec (.surveyStart w) s = .next (surveyEngine (setRef { s.ref with survey := some (surveyBegun s), surveyState := 1 } s)) :=
  congrArg Host.Outcome.next ((if_neg (by simp [hmode, hgo])).trans (if_neg (by simp [hnone])))

/-! ### The leap second -/

theorem rd_wrBoth (a : Nat) (w : Word) (s : State) (b : Nat) : rd (wrBoth a w s) b = rd (wr a w s) b := rfl
theorem rd_wrShadow (a : Nat) (w : Word) (s : State) (b : Nat) : rd (wrShadow a w s) b = rd s b := rfl

/-- NEXT_LEAP_S takes the place of LEAP_S. -/
def leapTaken (s : State) : State :=
  wrBoth Reg.REF_LEAP_AT 0 (wrShadow Reg.REF_TIME_CFG (setBits (shadow s Reg.REF_TIME_CFG) 7 0 (fld s Reg.REF_TIME_CFG 15 8))
    (wr Reg.REF_TIME_CFG (setBits (rd s Reg.REF_TIME_CFG) 7 0 (fld s Reg.REF_TIME_CFG 15 8)) s))

theorem leapTaken_takes (s : State) : rd (leapTaken s) Reg.REF_LEAP_AT = 0 ∧ fld (leapTaken s) Reg.REF_TIME_CFG 7 0 = fld s Reg.REF_TIME_CFG 15 8 ∧
    fld (leapTaken s) Reg.REF_TIME_CFG 31 8 = fld s Reg.REF_TIME_CFG 31 8 := by
  have hcfg : rd (leapTaken s) Reg.REF_TIME_CFG = setBits (rd s Reg.REF_TIME_CFG) 7 0 (fld s Reg.REF_TIME_CFG 15 8) := by
    rw [leapTaken, rd_wrBoth, rd_wr_ne _ _ (by decide), rd_wrShadow, rd_wr_same]
  have hlt : fld s Reg.REF_TIME_CFG 15 8 < 2 ^ (7 + 1 - 0) := bits_lt _ 15 8
  refine ⟨?_, ?_, ?_⟩
  · rw [leapTaken, rd_wrBoth, rd_wr_same]
  · rw [fld, hcfg, bits_setBits_same _ (by decide) hlt]
  · rw [fld, hcfg, bits_setBits_other _ _ (by decide) (.inr (by decide))]
    rfl

end Sys2Proof.Machine
end
section
open Sys2Proof Sys2Proof.Machine Sys2Proof.Safety
/-- Settles O18: epochs formed, published and discarded, commands on antennas, surveys from their start to their end, and the leap second. -/
theorem baseStationCompletes : Obligations.BaseStationCompletes := by
  refine ⟨fun s l hmode hgrid => ?_, fun s regs e l o ho => ?_, fun s p l eph hp => ?_, fun s => ?_, fun s n w hn h0 h1 => ?_, fun s n w hn h1 => ?_,
    fun s w hmode hgo hnone => ?_, fun s v w hgo hv => ?_, fun s v hv hfin hmode => ?_, fun s hat hdue => ?_⟩
  · obtain ⟨t, p, hexec, hat, hepochs, he, hpub, hsigs⟩ := baseEpoch_forms l hmode hgrid
    rw [proj_foldl (fun t => t.ref) (fun t o => lockObs_ref _ t o)] at hepochs
    refine completes_of hexec ⟨hat, p, hepochs, he, hpub, fun h => hsigs.trans (if_neg ?_)⟩
    rcases h with h | h <;> simp [h]
  · obtain ⟨hmem, hleast⟩ := mem_formSigs.1 ho
    obtain ⟨x, -, hx⟩ := List.mem_filterMap.1 hmem
    obtain ⟨hctx, hant, hcn0, hhalf⟩ := formOne_some hx
    exact ⟨hctx, hant, hcn0, hhalf, fun y hy => hleast y (mem_formSigs.1 hy).1⟩
  · obtain ⟨t, change, hepochs, hexec⟩ := basePublish_publishes l eph hp
    refine completes_of hexec ?_
    rw [epochPut_ref, hepochs]
    refine ⟨rfl, published_any (List.mem_of_find?_eq_some hp) ?_, List.length_map _⟩
    simp [publishedEp]
  · exact completes_of rfl ⟨rfl, rfl⟩
  · refine completes_of (congrArg Host.Outcome.next (if_pos ⟨hn, h0, h1⟩)) ?_
    rw [refAnt_setRefAnt]
    exact ⟨rfl, rfl⟩
  · refine completes_of (congrArg Host.Outcome.next (if_pos ⟨hn, h1⟩)) ?_
    rw [refAnt_setRefAnt]
    exact ⟨rfl, rfl⟩
  · obtain ⟨hstate, hsurvey⟩ := surveyEngine_survey (setRef { s.ref with survey := some (surveyBegun s), surveyState := 1 } s)
    obtain ⟨e, he⟩ := hsurvey _ rfl
    exact completes_of (execSurveyStart_begins hmode hgo hnone) ⟨hstate, by rw [he]; rfl, by rw [he]; rfl, by rw [he]; rfl⟩
  · exact completes_of (congrArg Host.Outcome.next (if_pos (by simp [hgo, hv]))) ⟨rfl, rfl⟩
  · obtain ⟨t, hexec, h⟩ := surveyEnd_ends hv hfin hmode
    exact completes_of hexec h
  · exact completes_of (congrArg Host.Outcome.next (if_pos ⟨hat, hdue⟩)) (leapTaken_takes s)
end

section
/-! SUPPORT. Host accesses: the block of a register's address, a write without an effect of its own, and the writes that are a row. -/
namespace Sys2Proof.Machine
open Sys2Proof.Safety

/-- The blocks of 1 MiB that a register with this base lies in: those of the correlators span four. -/
def blocksOf (b : Nat) : List Nat := if b / 2 ^ 20 = 4 then [4, 5, 6, 7] else [b / 2 ^ 20]

/-- A register's words stand at multiples of 4. -/
def wellPlaced (d : RegDesc) : Bool :=
  decide (4 ∣ d.base) && decide (4 ∣ d.stride) && decide (4 ∣ d.step) && decide (0 < d.stride)

theorem wellPlaced_of_mem {d : RegDesc} {a : Nat} (h : d ∈ RegMap.block a) : wellPlaced d = true := by
  unfold RegMap.block at h
  split at h
  case h_24 => cases h
  all_goals exact (by decide : ∀ e ∈ _, wellPlaced e = true) d h

theorem dvd_of_holds {d : RegDesc} {a : Nat} (hw : wellPlaced d = true) (h : RegMap.holds d a = true) : a % 4 = 0 := by
  simp only [wellPlaced, Bool.and_eq_true, decide_eq_true_eq] at hw
  obtain ⟨⟨⟨hbase, hstride⟩, hstep⟩, _⟩ := hw
  simp only [RegMap.holds, decide_eq_true_eq] at h
  obtain ⟨hle, _, _, hmod⟩ := h
  have hoff : (a - d.base) % 4 = 0 := by
    rw [← Nat.mod_mod_of_dvd _ hstride, ← Nat.mod_mod_of_dvd _ hstep, hmod]
  omega

/-- The registers of Polestar and Chart end with the first of their two blocks. -/
theorem pst_ends : ∀ d ∈ RegMap.pst, d.base / 2 ^ 20 = 10 ∧ d.base + d.stride * d.count ≤ 11 * 2 ^ 20 := by decide
theorem cht_ends : ∀ d ∈ RegMap.cht, d.base / 2 ^ 20 = 12 ∧ d.base + d.stride * d.count ≤ 13 * 2 ^ 20 := by decide

/-- A register lies in a block of its base, and the map leaves out blocks 11 and 13. -/
theorem block_of_holds {d : RegDesc} {a : Nat} (hmem : d ∈ RegMap.block a) (h : RegMap.holds d a = true) :
    a / 2 ^ 20 ∈ blocksOf d.base ∧ d.base / 2 ^ 20 ∈ [0, 1, 2, 3, 4, 8, 9, 10, 12, 14, 15, 16, 17, 18, 19, 20, 21, 22] := by
  have hw := wellPlaced_of_mem hmem
  simp only [wellPlaced, Bool.and_eq_true, decide_eq_true_eq] at hw
  have hlt := lt_of_holds h hw.2
  unfold RegMap.block at hmem
  rw [Nat.shiftRight_eq_div_pow] at hmem
  split at hmem
  case h_12 h11 => have := pst_ends d hmem; omega
  case h_14 h13 => have := cht_ends d hmem; omega
  case h_24 => cases hmem
  all_goals
    rename_i hk
    rw [hk]
    clear hlt hw h
    revert d
    decide

theorem mapped_of_mem_blocksOf {k b : Nat} (hk : k ∈ blocksOf b)
    (hb : b / 2 ^ 20 ∈ [0, 1, 2, 3, 4, 8, 9, 10, 12, 14, 15, 16, 17, 18, 19, 20, 21, 22]) :
    k ∈ [0, 1, 2, 3, 4, 5, 6, 7, 8, 9, 10, 12, 14, 15, 16, 17, 18, 19, 20, 21, 22] := by
  unfold blocksOf at hk
  split at hk
  · revert k
    decide
  · rw [List.mem_singleton.1 hk]
    revert hb
    generalize b / 2 ^ 20 = k
    simp only [List.mem_cons, List.not_mem_nil, or_false]
    omega

theorem block_of_reached {s : State} {a : Nat} {d : RegDesc} (h : reached s a = some d) : a / 2 ^ 20 ∈ blocksOf d.base :=
  (block_of_holds (mem_block_of_reached h).1 (mem_block_of_reached h).2).1

theorem dvd_of_reached {s : State} {a : Nat} {d : RegDesc} (h : reached s a = some d) : a % 4 = 0 :=
  dvd_of_holds (wellPlaced_of_mem (mem_block_of_reached h).1) (mem_block_of_reached h).2

theorem base_le_of_reached {s : State} {a : Nat} {d : RegDesc} (h : reached s a = some d) : d.base ≤ a := by
  have := (mem_block_of_reached h).2
  simp only [RegMap.holds, decide_eq_true_eq] at this
  exact this.1

/-- A register of the host interface that a write changes, and that has no effect of its own, stands before the rings. -/
theorem hif_bases : ∀ d ∈ RegMap.hif, hasEffect d.base = false →
    d.flds.any (fun f => decide (f.acc = .w1c)) = true ∨ accMask d .rw ||| accMask d .wo ≠ 0 →
      0 < d.stride ∧ d.base + d.stride * d.count ≤ 0x01201000 := by decide

/-- A register that takes writes of its own: it clears bits, or holds fields that are written. -/
def takesWrites (d : RegDesc) : Prop := d.flds.any (fun f => decide (f.acc = .w1c)) = true ∨ accMask d .rw ||| accMask d .wo ≠ 0

theorem hif_lt {s : State} {a : Nat} {d : RegDesc} (h : reached s a = some d) (he : hasEffect d.base = false) (ht : takesWrites d)
    (ha : a / 2 ^ 20 = 18) : a < 0x01201000 := by
  obtain ⟨hmem, hholds⟩ := mem_block_of_reached h
  unfold RegMap.block at hmem
  rw [Nat.shiftRight_eq_div_pow, ha] at hmem
  obtain ⟨hs, hend⟩ := hif_bases d hmem he ht
  exact (lt_of_holds hholds hs).trans_le hend

/-- A write without an effect of its own. -/
theorem writeReg_plain {d : RegDesc} {a : Nat} (w : Word) (x : WriteCycle) {s : State} (hr : reached s a = some d)
    (he : hasEffect d.base = false) (ht : takesWrites d) :
    writeReg d a w x s = plainWrite d a (w &&& ~~~(x.set &&& accMask d .w1c)) s := by
  obtain ⟨hblk, hbase⟩ := block_of_holds (mem_block_of_reached hr).1 (mem_block_of_reached hr).2
  have hcor := cor_lt_of_noEffect hr he
  have hhif := hif_lt hr he ht
  have hpending : d.base ≠ Reg.HIF_EVT_PENDING 0 := fun hb => by rw [hb] at he; exact absurd he (by decide)
  have hbetween : between 0x01200100 0x01220000 d.base = false := by
    simp only [hasEffect, Bool.or_eq_false_iff] at he
    obtain ⟨⟨⟨⟨⟨⟨_, h⟩, _⟩, _⟩, _⟩, _⟩, _⟩ := he
    exact h
  simp [hasEffect] at he
  unfold writeReg
  extract_lets n again v
  show _ = plainWrite d a v s
  split
  case h_1 => simp [writeGlb, he]
  case h_2 => simp [writeCrp, he]
  case h_3 => simp [writeTim, he]
  case h_4 => simp [writeIng, he]
  case h_5 | h_6 | h_7 | h_8 => simp [writeCor, he, hcor (by rw [‹a / 2 ^ 20 = _›]; decide)]
  case h_9 => simp [writeAcq, he]
  case h_10 => simp [writeRef, he]
  case h_11 => simp [writePst, he]
  case h_12 => simp [writeCht, he]
  case h_13 => simp [writeDsp, he]
  case h_14 => simp [writeNfl, he]
  case h_15 => simp [writeNet, he]
  case h_16 => simp [writePai, he]
  case h_17 hk =>
    have hlt := hhif hk
    have hlow : d.base < 0x01200100 := by
      have := base_le_of_reached hr
      simp only [between, Bool.and_eq_false_iff, decide_eq_false_iff_not] at hbetween
      omega
    have hne (b : Nat) (hb : 0x01200100 ≤ b) : d.base ≠ b := by omega
    have hmsix : ¬Reg.MSIX_ADDR_LO 0 ≤ a := by simp only [Reg.MSIX_ADDR_LO]; omega
    have hring : ¬(0x01201000 ≤ a ∧ a < 0x01205000) := by omega
    rw [if_neg hpending]
    simp [writeHif, hne (Reg.HIF_EVT_PENDING 0) (by decide), hne (Reg.HIF_EVT_ENABLE 0) (by decide),
      hne (Reg.HIF_EVT_ROUTE 0) (by decide), hne (Reg.HIF_RING_CFG 0) (by decide), hne (Reg.HIF_VEC_MOD 0) (by decide), hmsix, hring]
  case h_18 => simp [writeKey, he]
  case h_19 => simp [writeRec, he]
  case h_20 => simp [writePrf, he]
  case h_21 => simp [writeUpd, he]
  case h_22 =>
    have hk := mapped_of_mem_blocksOf hblk hbase
    simp only [List.mem_cons, List.not_mem_nil, or_false] at hk
    repeat' (obtain hk | hk := hk; · exact absurd hk ‹_›)
    exact absurd hk ‹_›

/-! ### What a plain write does -/

theorem accMask_eq_zero {d : RegDesc} {x : Acc} (h : d.flds.any (fun f => decide (f.acc = x)) = false) : accMask d x = 0 := by
  simp only [List.any_eq_false, decide_eq_true_eq] at h
  unfold accMask
  generalize d.flds = l at h
  suffices ∀ m : Word, l.foldl (fun m f => if f.acc = x then m ||| spanMask f else m) m = m from this 0
  induction l with
  | nil => exact fun _ => rfl
  | cons f l ih =>
    intro m
    rw [List.foldl_cons, if_neg (h f (by simp))]
    exact ih (fun g hg => h g (by simp [hg])) m

theorem written_place (d : RegDesc) (a : Nat) (v : Word) (s : State) : written (place d a v s) d a = v := by
  unfold written place
  split
  · simp [shadow, wrShadow]
  · exact rd_wr_same a v s

theorem written_plainWrite {d : RegDesc} {a : Nat} {w : Word} (s : State) (hc : d.flds.any (fun f => decide (f.acc = .w1c)) = false)
    (hm : accMask d .rw ||| accMask d .wo ≠ 0) (hf : fieldsOk d w = true) : written (plainWrite d a w s) d a = merged s d a w := by
  unfold plainWrite
  rw [if_neg (by simp [hc]), if_neg hm, if_pos hf, written_place]

theorem plainWrite_clears {d : RegDesc} (a : Nat) (w : Word) (s : State) (hc : d.flds.any (fun f => decide (f.acc = .w1c)) = true) :
    plainWrite d a w s = { s with io := ioSetStk s.io a (stk s a &&& ~~~(w &&& accMask d .w1c)) } := if_pos hc

/-- DSP_CTRL is none of the registers that hold the dispatcher's intake and its peak. -/
theorem written_heldChanged (s : State) (d : RegDesc) : written (heldChanged s) d Reg.DSP_CTRL = written s d Reg.DSP_CTRL := by
  obtain ⟨hrd, hshadow⟩ := (seen_eq_iff.1 (heldChanged_seen (F := butReg Reg.DSP_CTRL) s
    ((le_butReg _ _ _ _ _ _).2 (by decide)))).regs Reg.DSP_CTRL (by simp)
  unfold written
  rw [hrd, hshadow]

theorem dspCtrl_ends : ∀ d ∈ RegMap.dsp, d.base = Reg.DSP_CTRL → d.base + d.stride * d.count = Reg.DSP_CTRL + 4 := by decide

/-! ### The writes that are a row -/

/-- The command that a row of the table is runs to its end. -/
theorem exec_eq_ran (r : Instr) (s : State) : exec r s = .next (ran (exec r s) s) := by
  obtain ⟨t, h⟩ := exec_next r s
  rw [h, ran_next]

section
variable {d : RegDesc} {a n : Nat} {w : Word} {x : WriteCycle} {s : State} {r : Instr}

theorem writeGlb_row (h : (d.base, r) ∈ [(Reg.GLB_ERR, Instr.thermalTripClear w)]) :
    exec r s = .next (writeGlb d a w s) := by
  simp only [List.mem_cons, Prod.mk.injEq, List.not_mem_nil, or_false] at h
  obtain ⟨hb, rfl⟩ := h
  simp only [writeGlb, hb]
  exact exec_eq_ran _ s

theorem writeCrp_row (h : (d.base, r) ∈ [(Reg.CRP_NET_RST, Instr.crpNetRst w), (Reg.CRP_FIFO_CMD 0, .fifoDrop n w),
    (Reg.CRP_PWR_REQ, .powerRequest w), (Reg.CRP_CFG_SWAP, .cfgSwap w)]) :
    exec r s = .next (writeCrp d n a w s) := by
  simp only [List.mem_cons, Prod.mk.injEq, List.not_mem_nil, or_false] at h
  obtain ⟨hb, rfl⟩ | ⟨hb, rfl⟩ | ⟨hb, rfl⟩ | ⟨hb, rfl⟩ := h <;> simp only [writeCrp, hb] <;> exact exec_eq_ran _ s

theorem writeTim_row (h : (d.base, r) ∈ [(Reg.TIM_INCR_INT, Instr.timIncrInt w), (Reg.TIM_ADJ_CTRL, .timAdjCtrl w), (Reg.TIM_SET_NS, .timSetNs w),
    (Reg.TIM_LOCK_REPORT, .timLockReport w), (Reg.TIM_LOSS_NS, .timLossNs w), (Reg.TIM_RETURN, .timReturn w)]) :
    exec r s = .next (writeTim d n a w s) := by
  simp only [List.mem_cons, Prod.mk.injEq, List.not_mem_nil, or_false] at h
  obtain ⟨hb, rfl⟩ | ⟨hb, rfl⟩ | ⟨hb, rfl⟩ | ⟨hb, rfl⟩ | ⟨hb, rfl⟩ | ⟨hb, rfl⟩ := h <;> simp only [writeTim, hb] <;> exact exec_eq_ran _ s

theorem writeIng_row (h : (d.base, r) ∈ [(Reg.ING_CTRL, Instr.antEn w), (Reg.ING_LATENCY 0, .ingLatencyWrite n w)]) :
    exec r s = .next (writeIng d n a w s) := by
  simp only [List.mem_cons, Prod.mk.injEq, List.not_mem_nil, or_false] at h
  obtain ⟨hb, rfl⟩ | ⟨hb, rfl⟩ := h <;> simp only [writeIng, hb] <;> exact exec_eq_ran _ s

theorem writeCor_row (hle : d.base ≤ a) (h : (d.base, r) ∈ [(Reg.COR_INJECT, Instr.corInject w), (Reg.COR_CODE_DATA, .corCodeData w),
    (Reg.COR_CODE_RATE_HI 0, .codeRateHi n w), (Reg.COR_CARR_RATE_HI 0, .carrRateHi n w)]) :
    exec r s = .next (writeCor d n a w s) := by
  simp only [List.mem_cons, Prod.mk.injEq, List.not_mem_nil, or_false] at h
  obtain ⟨hb, rfl⟩ | ⟨hb, rfl⟩ | ⟨hb, rfl⟩ | ⟨hb, rfl⟩ := h
  · simp only [writeCor, hb]
    exact exec_eq_ran _ s
  · simp only [writeCor, hb]
    exact exec_eq_ran _ s
  · have hctx : ¬a < Reg.COR_CFG 0 := by rw [hb] at hle; simp only [Reg.COR_CFG, Reg.COR_CODE_RATE_HI] at *; omega
    simp only [writeCor, hb, hctx]
    exact exec_eq_ran _ s
  · have hctx : ¬a < Reg.COR_CFG 0 := by rw [hb] at hle; simp only [Reg.COR_CFG, Reg.COR_CARR_RATE_HI] at *; omega
    simp only [writeCor, hb, hctx]
    exact exec_eq_ran _ s

theorem writePst_row (h : (d.base, r) ∈ [(Reg.PST_INJECT, Instr.pstInject w), (Reg.PST_SLOT_CMD, .pstSlotReset w)]) :
    exec r s = .next (writePst d a w s) := by
  simp only [List.mem_cons, Prod.mk.injEq, List.not_mem_nil, or_false] at h
  obtain ⟨hb, rfl⟩ | ⟨hb, rfl⟩ := h <;> simp only [writePst, hb] <;> exact exec_eq_ran _ s

theorem writeCht_row (h : (d.base, r) ∈ [(Reg.CHT_ORIGIN_HI, Instr.originWrite w)]) :
    exec r s = .next (writeCht d a w s) := by
  simp only [List.mem_cons, Prod.mk.injEq, List.not_mem_nil, or_false] at h
  obtain ⟨hb, rfl⟩ := h
  simp only [writeCht, hb]
  exact exec_eq_ran _ s

theorem writeNfl_row (h : (d.base, r) ∈ [(Reg.NFL_TRIGGER, Instr.nflTrigger w), (Reg.NFL_ARM, .nflArm w), (Reg.NFL_CONFIRM, .nflConfirm w),
    (Reg.NFL_MREL, .nflMrel w), (Reg.NFL_WDG_KICK, .nflWdgKick w)]) :
    exec r s = .next (writeNfl d a w s) := by
  simp only [List.mem_cons, Prod.mk.injEq, List.not_mem_nil, or_false] at h
  obtain ⟨hb, rfl⟩ | ⟨hb, rfl⟩ | ⟨hb, rfl⟩ | ⟨hb, rfl⟩ | ⟨hb, rfl⟩ := h <;> simp only [writeNfl, hb] <;> exact exec_eq_ran _ s

theorem writeHif_row (h : (d.base, r) ∈ [(Reg.HIF_EVT_ENABLE 0, Instr.eventEnable n w)]) :
    exec r s = .next (writeHif d n a w s) := by
  simp only [List.mem_cons, Prod.mk.injEq, List.not_mem_nil, or_false] at h
  obtain ⟨hb, rfl⟩ := h
  simp only [writeHif, hb]
  exact exec_eq_ran _ s

theorem writeRec_row (h : (d.base, r) ∈ [(Reg.REC_READ_SEQ, Instr.recReadSeq w)]) :
    exec r s = .next (writeRec d a w s) := by
  simp only [List.mem_cons, Prod.mk.injEq, List.not_mem_nil, or_false] at h
  obtain ⟨hb, rfl⟩ := h
  simp only [writeRec, hb]
  exact exec_eq_ran _ s

theorem writePrf_row (h : (d.base, r) ∈ [(Reg.PRF_CTL, Instr.freeze w), (Reg.PRF_HI 0, .prfHiWrite n ⟨w, x.carry⟩)]) :
    exec r s = .next (writePrf d n a w x s) := by
  simp only [List.mem_cons, Prod.mk.injEq, List.not_mem_nil, or_false] at h
  obtain ⟨hb, rfl⟩ | ⟨hb, rfl⟩ := h <;> simp only [writePrf, hb] <;> exact exec_eq_ran _ s

/-- The rows of one block are written in it. -/
theorem block_of_row {rows : List (Nat × Instr)} {bases l : List Nat} (hrows : rows.map Prod.fst = bases)
    (hl : ∀ b ∈ bases, blocksOf b = l) (h : (d.base, r) ∈ rows)
    (hblk : a / 2 ^ 20 ∈ blocksOf d.base) : a / 2 ^ 20 ∈ l :=
  hl _ (hrows ▸ List.mem_map_of_mem h) ▸ hblk

/-- The write of a register that is a row of the table is that row, when all of the write reaches it. -/
theorem writeReg_row (hr : reached s a = some d) (hw : w &&& ~~~(x.set &&& accMask d .w1c) = w)
    (h : (d.base, r) ∈ rowWrites (RegMap.index d a) w x.carry) :
    exec r s = .next (writeReg d a w x s) := by
  have hblk := block_of_reached hr
  have hle := base_le_of_reached hr
  change (d.base, r) ∈ [_] ++ ([_, _, _, _] ++ ([_, _, _, _, _, _] ++ ([_, _] ++ ([_, _, _, _] ++ ([_, _] ++ ([_] ++
    ([_, _, _, _, _] ++ ([_] ++ ([_] ++ [_, _]))))))))) at h
  simp only [List.mem_append] at h
  unfold writeReg
  rw [hw]
  obtain h | h | h | h | h | h | h | h | h | h | h := h
  · rw [List.mem_singleton.1 (block_of_row (bases := [Reg.GLB_ERR])
      (l := [0]) rfl (by decide) h hblk)]
    exact writeGlb_row h
  · rw [List.mem_singleton.1 (block_of_row (bases := [Reg.CRP_NET_RST, Reg.CRP_FIFO_CMD 0, Reg.CRP_PWR_REQ, Reg.CRP_CFG_SWAP])
      (l := [1]) rfl (by decide) h hblk)]
    exact writeCrp_row h
  · rw [List.mem_singleton.1 (block_of_row (bases := [Reg.TIM_INCR_INT, Reg.TIM_ADJ_CTRL, Reg.TIM_SET_NS,
      Reg.TIM_LOCK_REPORT, Reg.TIM_LOSS_NS, Reg.TIM_RETURN])
      (l := [2]) rfl (by decide) h hblk)]
    exact writeTim_row h
  · rw [List.mem_singleton.1 (block_of_row (bases := [Reg.ING_CTRL, Reg.ING_LATENCY 0])
      (l := [3]) rfl (by decide) h hblk)]
    exact writeIng_row h
  · have hk := block_of_row (bases := [Reg.COR_INJECT, Reg.COR_CODE_DATA, Reg.COR_CODE_RATE_HI 0, Reg.COR_CARR_RATE_HI 0])
      (l := [4, 5, 6, 7]) rfl (by decide) h hblk
    simp only [List.mem_cons, List.not_mem_nil, or_false] at hk
    obtain hk | hk | hk | hk := hk <;> rw [hk] <;> exact writeCor_row hle h
  · rw [List.mem_singleton.1 (block_of_row (bases := [Reg.PST_INJECT, Reg.PST_SLOT_CMD])
      (l := [10]) rfl (by decide) h hblk)]
    exact writePst_row h
  · rw [List.mem_singleton.1 (block_of_row (bases := [Reg.CHT_ORIGIN_HI])
      (l := [12]) rfl (by decide) h hblk)]
    exact writeCht_row h
  · rw [List.mem_singleton.1 (block_of_row (bases := [Reg.NFL_TRIGGER, Reg.NFL_ARM, Reg.NFL_CONFIRM, Reg.NFL_MREL, Reg.NFL_WDG_KICK])
      (l := [15]) rfl (by decide) h hblk)]
    exact writeNfl_row h
  · rw [List.mem_singleton.1 (block_of_row (bases := [Reg.HIF_EVT_ENABLE 0])
      (l := [18]) rfl (by decide) h hblk)]
    have hp : d.base ≠ Reg.HIF_EVT_PENDING 0 := by
      rw [(Prod.mk.inj (List.mem_singleton.1 h)).1]
      decide
    simp only [if_neg hp]
    exact writeHif_row h
  · rw [List.mem_singleton.1 (block_of_row (bases := [Reg.REC_READ_SEQ])
      (l := [20]) rfl (by decide) h hblk)]
    exact writeRec_row h
  · rw [List.mem_singleton.1 (block_of_row (bases := [Reg.PRF_CTL, Reg.PRF_HI 0])
      (l := [21]) rfl (by decide) h hblk)]
    exact writePrf_row h

end

/-! ### The write itself -/

section
variable {a : Nat} {w : Word} {x : WriteCycle} {s : State}

theorem hostUp_of_reached {d : RegDesc} (h : reached s a = some d) : hostUp s = true := by
  by_contra hh
  rw [reached, if_neg hh] at h
  cases h

/-- A whole and aligned write that no doorbell takes reaches its register, unless the set is the active unit's. -/
theorem registerWrite_reaches {d : RegDesc} (hbe : x.be = 15) (ha : a % 4 = 0) (hd : doorbellOf a = none) (hr : reached s a = some d)
    (hm : isMirroredReg a = true → s.crp.mode ≠ .standby) : exec (.registerWrite a w x) s = .next (writeReg d a w x s) := by
  show execRegisterWrite a w x s = _
  have hfull : ¬(x.be % 16 ≠ 15 ∨ a % 4 ≠ 0) := by simp [hbe, ha]
  have hmode : ¬(isMirroredReg a && decide (s.crp.mode = .standby)) = true := by simpa using hm
  unfold execRegisterWrite
  rw [hostUp_of_reached hr, if_neg (by decide), if_neg hfull, hd]
  simp only [hr, if_neg hmode]

theorem and_not_and (v w m n : Word) : v &&& ~~~(w &&& ~~~(n &&& m) &&& m) = v &&& ~~~(w &&& ~~~n &&& m) := by
  ext i
  simp only [BitVec.getElem_and, BitVec.getElem_not]
  cases v[i] <;> cases w[i] <;> cases m[i] <;> cases n[i] <;> rfl

theorem idleOnly_bases : ∀ b ∈ [Reg.COR_CFG 0, Reg.COR_CODE_A_BASE 0, Reg.COR_CODE_A_LEN 0, Reg.COR_CODE_B_BASE 0, Reg.COR_CODE_B_LEN 0,
    Reg.COR_INT 0, Reg.COR_CODE_INIT 0, Reg.COR_CARR_INIT 0], blocksOf b = [4, 5, 6, 7] ∧ Reg.COR_CFG 0 ≤ b ∧ b ≠ Reg.COR_CMD 0 ∧
      b ≠ Reg.COR_CODE_RATE_HI 0 ∧ b ≠ Reg.COR_CARR_RATE_HI 0 ∧ b ≠ Reg.COR_CODE_RATE_LO 0 ∧ b ≠ Reg.COR_CARR_RATE_LO 0 := by decide

theorem set_unchanged {d : RegDesc} (hset : x.set = 0) : w &&& ~~~(x.set &&& accMask d .w1c) = w := by
  rw [hset, show (0 : Word) &&& accMask d .w1c = 0#32 from BitVec.zero_and, BitVec.not_zero, BitVec.and_allOnes]

theorem w1c_unchanged {d : RegDesc} (hc : d.flds.any (fun f => decide (f.acc = .w1c)) = false) : w &&& ~~~(x.set &&& accMask d .w1c) = w := by
  rw [accMask_eq_zero hc, show x.set &&& (0 : Word) = 0#32 from BitVec.and_zero, BitVec.not_zero, BitVec.and_allOnes]

/-- R73: a context in IDLE takes its configuration. -/
theorem writeReg_idle {d : RegDesc} (hr : reached s a = some d) (hi : idleOnly d.base = true)
    (hs : (ctx s (RegMap.index d a)).state = .idle) (hc : d.flds.any (fun f => decide (f.acc = .w1c)) = false) :
    writeReg d a w x s = plainWrite d a w s := by
  obtain ⟨hblk, hle, hcmd, hcode, hcarr, hcodeLo, hcarrLo⟩ := idleOnly_bases d.base (by simpa [idleOnly] using hi)
  have hk := block_of_reached hr
  have hctx : ¬a < Reg.COR_CFG 0 := Nat.not_lt.2 (hle.trans (base_le_of_reached hr))
  have hinject : d.base ≠ Reg.COR_INJECT := fun h => by rw [h] at hle; exact absurd hle (by decide)
  have hdata : d.base ≠ Reg.COR_CODE_DATA := fun h => by rw [h] at hle; exact absurd hle (by decide)
  have hcor : writeCor d (RegMap.index d a) a w s = plainWrite d a w s := by
    simp [writeCor, hinject, hdata, hctx, hcmd, hcode, hcarr, hi, hs, hcodeLo, hcarrLo]
  rw [hblk] at hk
  simp only [List.mem_cons, List.not_mem_nil, or_false] at hk
  unfold writeReg
  rw [w1c_unchanged hc]
  obtain hk | hk | hk | hk := hk <;> rw [hk] <;> exact hcor

/-- DSP_CTRL: the limit of held tasks is looked at again. -/
theorem writeReg_dspCtrl {d : RegDesc} (hr : reached s a = some d) (hb : d.base = Reg.DSP_CTRL)
    (hc : d.flds.any (fun f => decide (f.acc = .w1c)) = false) : a = Reg.DSP_CTRL ∧ writeReg d a w x s = heldChanged (plainWrite d a w s) := by
  obtain ⟨hmem, hholds⟩ := mem_block_of_reached hr
  have hk := block_of_reached hr
  rw [hb, show blocksOf Reg.DSP_CTRL = [14] from rfl, List.mem_singleton] at hk
  unfold RegMap.block at hmem
  rw [Nat.shiftRight_eq_div_pow, hk] at hmem
  have hw := wellPlaced_of_mem (mem_block_of_reached hr).1
  simp only [wellPlaced, Bool.and_eq_true, decide_eq_true_eq] at hw
  have hlt := lt_of_holds hholds hw.2
  have hle := base_le_of_reached hr
  have hdvd := dvd_of_reached hr
  refine ⟨?_, ?_⟩
  · rw [dspCtrl_ends d hmem hb] at hlt
    rw [hb] at hle
    simp only [Reg.DSP_CTRL] at *
    omega
  · unfold writeReg
    rw [w1c_unchanged hc, hk]
    simp only [writeDsp, hb]
    rfl

/-- A register that a write can reach in every state of a device whose host region runs. -/
theorem reached_of_regAt {d : RegDesc} (hu : hostUp s = true) (hf : RegMap.find a = some d)
    (hi : RegMap.index d a < d.count ∧ RegMap.index d a < d.countS) (hup : regionUp s d a = true) (hk : d.base ≠ Reg.KEY_PROV 0) :
    reached s a = some d := by
  have hat : regAt s a = some d := by
    unfold regAt
    rw [hf]
    exact if_pos (by cases s.grade; exacts [hi.1, hi.2])
  simp [reached, hu, hat, hup, stateAllows, hk]

/-- A register of no region and no set, all of whose fields a write takes, is on both grades. -/
def alwaysTaken (d : RegDesc) (a : Nat) : Prop :=
  RegMap.index d a < d.count ∧ RegMap.index d a < d.countS ∧ d.base ≠ Reg.KEY_PROV 0 ∧ isMirroredReg a = false ∧ a % 4 = 0 ∧
    doorbellOf a = none ∧ d.flds.any (fun f => decide (f.acc = .w1c)) = false

theorem registerWrite_row {d : RegDesc} {r : Instr} (hbe : x.be = 15) (hu : hostUp s = true) (hf : RegMap.find a = some d)
    (ht : alwaysTaken d a) (hup : regionUp s d a = true) (hrow : (d.base, r) ∈ rowWrites (RegMap.index d a) w x.carry) :
    Completes (.registerWrite a w x) s (fun t => exec r s = .next t) := by
  obtain ⟨hl, hs, hk, hm, ha, hd, hc⟩ := ht
  have hr := reached_of_regAt hu hf ⟨hl, hs⟩ hup hk
  exact completes_of (registerWrite_reaches hbe ha hd hr (by simp [hm])) (writeReg_row hr (w1c_unchanged hc) hrow)

theorem timSetNs_found : ∃ d, RegMap.find Reg.TIM_SET_NS = some d ∧ d.base = Reg.TIM_SET_NS ∧ alwaysTaken d Reg.TIM_SET_NS :=
  ⟨_, rfl, rfl, by unfold alwaysTaken; decide⟩

theorem nflTrigger_found : ∃ d, RegMap.find Reg.NFL_TRIGGER = some d ∧ d.base = Reg.NFL_TRIGGER ∧ alwaysTaken d Reg.NFL_TRIGGER :=
  ⟨_, rfl, rfl, by unfold alwaysTaken; decide⟩

end
end Sys2Proof.Machine
end

section
open Sys2Proof Sys2Proof.Machine Sys2Proof.Safety

/-- Settles O9: a write that reaches its register writes the register of its block, and what that register is decides what the
write does. -/
theorem registerAccessCompletes : Obligations.RegisterAccessCompletes := by
  unfold Obligations.RegisterAccessCompletes
  refine ⟨fun s d a w x hbe ha hd hr hkind hm hc hf hmask => ?_, fun s d a w x hbe ha hd hr he hm hc => ?_,
    fun s d a w x r hbe hset ha hd hr hm hrow => ?_, fun s a w x hu hpart => ?_, fun s a w x hbe ha hd hr => ?_,
    fun s a r w x hbe hu ha hd => ?_, fun s w x hbe hu => ?_, fun s w x hbe hu => ?_, fun s d a hr hlow => ?_⟩
  · refine completes_of (registerWrite_reaches hbe ha hd hr hm) ?_
    have hplain := written_plainWrite (a := a) s hc hmask hf
    obtain he | hb | ⟨hi, hs⟩ := hkind
    · rw [writeReg_plain w x hr he (.inr hmask), w1c_unchanged hc]
      exact hplain
    · obtain ⟨rfl, heq⟩ := writeReg_dspCtrl (w := w) (x := x) hr hb hc
      rw [heq, written_heldChanged]
      exact hplain
    · rw [writeReg_idle hr hi hs hc]
      exact hplain
  · refine completes_of (registerWrite_reaches hbe ha hd hr hm) ?_
    rw [writeReg_plain w x hr he (.inl hc), plainWrite_clears _ _ _ hc]
    exact ⟨(ioStk_set_same _ _ _).trans (and_not_and ..), rfl⟩
  · exact completes_of (registerWrite_reaches hbe ha hd hr hm) (writeReg_row hr (set_unchanged hset) hrow)
  · refine completes_of (t := sticky Reg.HIF_STICKY 4 s) ?_ ⟨rfl, sticky_sets _ (by decide) s⟩
    show execRegisterWrite a w x s = _
    unfold execRegisterWrite
    rw [hu, if_neg (by decide), if_pos hpart]
  · refine completes_of (t := s) ?_ rfl
    show execRegisterWrite a w x s = _
    unfold execRegisterWrite
    rw [if_neg (show ¬(x.be % 16 ≠ 15 ∨ a % 4 ≠ 0) by simp [hbe, ha]), hd]
    simp only [hr, ite_self]
  · refine completes_of (t := ran (execDoorbell r w s) s) ?_ (exec_eq_ran (.doorbell r w) s)
    show execRegisterWrite a w x s = _
    unfold execRegisterWrite
    rw [hu, if_neg (by decide), if_neg (show ¬(x.be % 16 ≠ 15 ∨ a % 4 ≠ 0) by simp [hbe, ha]), hd]
  · obtain ⟨d, hf, hb, ht⟩ := timSetNs_found
    exact registerWrite_row hbe hu hf ht rfl (by simp [rowWrites, hb])
  · obtain ⟨d, hf, hb, ht⟩ := nflTrigger_found
    exact registerWrite_row hbe hu hf ht rfl (by simp [rowWrites, hb])
  · have ha := dvd_of_reached hr
    have haddr : a / 4 * 4 = a := Nat.div_mul_cancel (Nat.dvd_of_mod_eq_zero ha)
    refine completes_of (congrArg Host.Outcome.next (?_ : _ =
      { s with bank := { s.bank with capt := Tab.ins s.bank.capt (a + 4) (regValue s (a + 4)) } })) ⟨?_, rfl⟩
    · rw [haddr, hr]
      exact if_pos hlow
    · exact Tab.get_ins_same ..

end

section
/-! SUPPORT. Streams: the messages of a stream epoch and the lengths of their frames; what is delivered by ring and by datagram (R127
to R136). -/
namespace Sys2Proof.Machine
open Sys2Proof.Safety

/-! ### Lengths of frames -/

/-- The bits of a list of fields. -/
def widthOf (l : BitFields) : Nat := (l.map Prod.fst).sum

theorem packFields_length (l : BitFields) : (packFields l).length = ceilDiv (widthOf l) 8 := by
  have hfold (a : Nat × Nat) : (l.foldl (fun (a : Nat × Nat) f => (a.1 + f.1, a.2 * 2 ^ f.1 + f.2 % 2 ^ f.1)) a).1 = a.1 + widthOf l := by
    induction l generalizing a with
    | nil => rfl
    | cons f l ih => rw [List.foldl_cons, ih]; simp [widthOf, Nat.add_assoc]
  simp only [packFields, beBytes_length, hfold, Nat.zero_add]

theorem rtcmFrame_length (m : RtcmMsg) : (rtcmFrame m).length = 6 + ceilDiv (12 + 12 + widthOf (msgFields m)) 8 := by
  simp only [rtcmFrame, rtcmWrap, List.length_append, List.length_cons, beBytes_length, packFields_length]
  simp only [widthOf, dfField, sField, List.map_append, List.map_cons, List.map_nil, List.sum_append, List.sum_cons, List.sum_nil,
    Nat.add_zero]
  omega

/-- The packing of frames into datagrams looks at their lengths. -/
theorem packFrames_length (max : Nat) (l l' : List (List Byte)) (h : l.map List.length = l'.map List.length) (cur cur' : List Byte)
    (hcur : cur.length = cur'.length) : (packFrames max l cur).length = (packFrames max l' cur').length := by
  induction l generalizing l' cur cur' with
  | nil =>
    obtain rfl : l' = [] := List.map_eq_nil_iff.1 h.symm
    simp only [packFrames, List.isEmpty_iff_length_eq_zero, hcur]
    split <;> rfl
  | cons f l ih =>
    cases l' with
    | nil => cases h
    | cons f' l' =>
      simp only [List.map_cons, List.cons.injEq] at h
      obtain ⟨hf, hl⟩ := h
      simp only [packFrames, List.isEmpty_iff_length_eq_zero, hcur, hf]
      split
      · exact ih l' hl f f' hf
      split
      · exact ih l' hl _ _ (by simp [hcur, hf])
      · simp [ih l' hl f f' hf]

theorem datagrams_length (s : State) (k seq : Nat) (frames : List (List Byte)) : (datagrams s k seq frames).length =
    (packFrames (fld s (Reg.REF_STREAM_DGRAM k) 13 0 - (if flag s (Reg.REF_STREAM_CFG k) 9 then 16 else 0)) frames []).length := by
  simp [datagrams]

/-! ### What the messages are made of -/

/-- Everything that the messages of a stream are made of, but for the dispatcher's counter of inherited levels. -/
structure SourcesKept (s t : State) : Prop where
  rd : ∀ a, a ≠ Reg.DSP_CNT 5 → rd t a = rd s a
  ref : t.ref = s.ref
  crp : t.crp = s.crp
  upd : t.upd = s.upd
  grade : t.grade = s.grade

section
variable {s t : State} {k : Nat} (h : SourcesKept s t) (hk : k < 16)
include h

theorem SourcesKept.fld {a : Nat} (ha : a ≠ Reg.DSP_CNT 5) (hi lo : Nat) : fld t a hi lo = fld s a hi lo := by
  rw [Machine.fld, Machine.fld, h.rd a ha]

theorem SourcesKept.flag {a : Nat} (ha : a ≠ Reg.DSP_CNT 5) (i : Nat) : flag t a i = flag s a i := by
  rw [Machine.flag, Machine.flag, h.rd a ha]

theorem SourcesKept.formNs : formNs t = formNs s := by
  rw [Machine.formNs, Machine.formNs, h.fld (by decide)]

omit h in
/-- The registers of a stream are none of the dispatcher's. -/
theorem cfg_ne (hk : k < 16) : Reg.REF_STREAM_CFG k ≠ Reg.DSP_CNT 5 := by simp only [Reg.REF_STREAM_CFG, Reg.DSP_CNT]; omega
omit h in
theorem station_ne (hk : k < 16) : Reg.REF_STREAM_STATION k ≠ Reg.DSP_CNT 5 := by simp only [Reg.REF_STREAM_STATION, Reg.DSP_CNT]; omega
omit h in
theorem mask_ne (hk : k < 16) : Reg.REF_STREAM_MSG_MASK k ≠ Reg.DSP_CNT 5 := by simp only [Reg.REF_STREAM_MSG_MASK, Reg.DSP_CNT]; omega
omit h in
theorem route_ne (hk : k < 16) : Reg.REF_STREAM_ROUTE k ≠ Reg.DSP_CNT 5 := by simp only [Reg.REF_STREAM_ROUTE, Reg.DSP_CNT]; omega
omit h in
theorem dgram_ne (hk : k < 16) : Reg.REF_STREAM_DGRAM k ≠ Reg.DSP_CNT 5 := by simp only [Reg.REF_STREAM_DGRAM, Reg.DSP_CNT]; omega
omit h in
theorem count_ne (hk : k < 16) : Reg.REF_STREAM_COUNT k ≠ Reg.DSP_CNT 5 := by simp only [Reg.REF_STREAM_COUNT, Reg.DSP_CNT]; omega

include hk

theorem SourcesKept.msgOn (b : Nat) : msgOn t k b = msgOn s k b := h.flag (mask_ne hk) b

theorem SourcesKept.streamSrc : streamSrc t k = streamSrc s k := by
  rw [Machine.streamSrc, Machine.streamSrc, h.fld (cfg_ne hk), h.ref, gradeAnts, gradeAnts, h.grade]

theorem SourcesKept.srcState : srcState t k = srcState s k := by
  simp only [Machine.srcState, h.streamSrc hk, refAnt, h.ref]

theorem SourcesKept.streamOn : streamOn t k = streamOn s k := by
  simp only [Machine.streamOn, h.flag (cfg_ne hk), formMode, h.crp]

theorem SourcesKept.isObsEpoch (e : Nat) : isObsEpoch t k e = isObsEpoch s k e := by
  simp only [Machine.isObsEpoch, streamNs, h.fld (cfg_ne hk), h.formNs]

theorem SourcesKept.stationDue (sec : Nat) : stationDue t k sec = stationDue s k sec := by
  simp only [Machine.stationDue, h.fld (station_ne hk), h.msgOn hk]

theorem SourcesKept.biasDue (sec : Nat) : biasDue t k sec = biasDue s k sec := by
  simp only [Machine.biasDue, h.fld (station_ne hk), h.msgOn hk]

theorem SourcesKept.biasMsg : biasMsg t k = biasMsg s k := by
  simp only [Machine.biasMsg, h.fld (station_ne hk), h.fld (show Reg.REF_GLO_BIAS ≠ _ by decide)]

theorem SourcesKept.obsParts (l : List BaseSig) : obsParts t k l = obsParts s k l := by
  simp only [Machine.obsParts, h.msgOn hk, h.flag (show Reg.REF_TIME_CFG ≠ _ by decide)]

theorem SourcesKept.obsFields (number gnss e : Nat) (more : Bool) : obsFields t k number gnss e more = obsFields s k number gnss e more := by
  simp only [Machine.obsFields, timeFields, h.fld (station_ne hk),
    h.fld (show Reg.REF_TIME_CFG ≠ _ by decide), h.crp, h.ref]

theorem SourcesKept.finishObs (e : Nat) (l : List (Nat × Nat × List BaseSig)) : finishObs t k e l = finishObs s k e l := by
  induction l with
  | nil => rfl
  | cons m l ih => simp only [Machine.finishObs, h.obsFields hk, ih]

omit hk

/-- The first byte of a text of an antenna's record is its length; of the rest, only how much there is counts. -/
theorem SourcesKept.antText_length {o : Nat} (n : Nat) (ho : o = 0 ∨ o = 32) : (antText t n o).length = (antText s n o).length := by
  have hzero : Machine.rd t (Reg.REF_ANT_TEXT n 0) = Machine.rd s (Reg.REF_ANT_TEXT n 0) := h.rd _ (by simp only [Reg.REF_ANT_TEXT, Reg.DSP_CNT]; omega)
  have height : Machine.rd t (Reg.REF_ANT_TEXT n 8) = Machine.rd s (Reg.REF_ANT_TEXT n 8) := h.rd _ (by simp only [Reg.REF_ANT_TEXT, Reg.DSP_CNT]; omega)
  obtain rfl | rfl := ho
  · have hlen (u : State) : (antText u n 0).length = min (leNum [BitVec.ofNat 8 (Machine.rd u (Reg.REF_ANT_TEXT n 0)).toNat]) 63 := by
      rw [antText, List.length_take]
      rfl
    rw [hlen, hlen, hzero]
  · have hlen (u : State) : (antText u n 32).length = min (leNum [BitVec.ofNat 8 (Machine.rd u (Reg.REF_ANT_TEXT n 8)).toNat]) 31 := by
      rw [antText, List.length_take]
      rfl
    rw [hlen, hlen, height]

end

/-! ### Station messages -/

theorem widthOf_append (a b : BitFields) : widthOf (a ++ b) = widthOf a + widthOf b := by simp [widthOf]

theorem widthOf_text (l : List Byte) : widthOf (l.map fun b => (8, b.toNat)) = 8 * l.length := by
  induction l with
  | nil => rfl
  | cons b l ih =>
    simp only [widthOf, List.map_cons, List.sum_cons, List.length_cons] at ih ⊢
    omega

theorem widthOf_field (m : RtcmMsg) (w df : Nat) : widthOf [dfField m w df] = w := rfl

/-- The bits of a text field: a length, and 8 for each character. -/
theorem widthOf_textField {m : RtcmMsg} {df : Nat} {l : List Byte} (hl : m.texts.find? (fun f => f.1 = df) = some (df, l)) :
    widthOf (textField m df) = 8 + 8 * l.length := by
  simp only [textField, hl]
  rw [← widthOf_text]
  rfl

theorem width1005 (f : List (Nat × Int)) : widthOf (msgFields ⟨1005, f, [], []⟩) = 128 := by
  simp [msgFields, widthOf, dfField, sField]

theorem width1006 (f : List (Nat × Int)) : widthOf (msgFields ⟨1006, f, [], []⟩) = 144 := by
  simp [msgFields, widthOf, dfField, sField]

theorem width1007 (f : List (Nat × Int)) (a : List Byte) : widthOf (msgFields ⟨1007, f, [(30, a)], []⟩) = 8 + 8 * a.length + 8 := by
  simp only [msgFields, widthOf_append, widthOf_field]
  rw [widthOf_textField (l := a) rfl]

theorem width1008 (f : List (Nat × Int)) (a b : List Byte) :
    widthOf (msgFields ⟨1008, f, [(30, a), (33, b)], []⟩) = 8 + 8 * a.length + 8 + (8 + 8 * b.length) := by
  simp only [msgFields, widthOf_append, widthOf_field]
  rw [widthOf_textField (l := a) rfl, widthOf_textField (l := b) rfl]

theorem width1033 (f : List (Nat × Int)) (a b c d e : List Byte) :
    widthOf (msgFields ⟨1033, f, [(30, a), (33, b), (228, c), (230, d), (232, e)], []⟩) =
      8 + 8 * a.length + 8 + (8 + 8 * b.length) + (8 + 8 * c.length) + (8 + 8 * d.length) + (8 + 8 * e.length) := by
  simp only [msgFields, widthOf_append, widthOf_field]
  rw [widthOf_textField (l := a) rfl, widthOf_textField (l := b) rfl, widthOf_textField (l := c) rfl,
    widthOf_textField (l := d) rfl, widthOf_textField (l := e) rfl]

/-- A station message of the same antenna is as long. -/
theorem SourcesKept.stationMsg_length {s t : State} (h : SourcesKept s t) (k n number : Nat) :
    (rtcmFrame (stationMsg t k n number)).length = (rtcmFrame (stationMsg s k n number)).length := by
  have h0 := h.antText_length n (.inl rfl)
  have h32 := h.antText_length n (.inr rfl)
  have hreceiver : receiverText t = receiverText s := by rw [receiverText, receiverText, h.grade]
  have hversion : versionText t = versionText s := by rw [versionText, versionText, activeVersion, activeVersion, h.upd]
  rw [rtcmFrame_length, rtcmFrame_length]
  refine congrArg (fun w => 6 + ceilDiv (12 + 12 + w) 8) ?_
  unfold stationMsg
  extract_lets _ _ _ _ _ _ _ _ _ _
  split
  · rw [width1005, width1005]
  · rw [width1006, width1006]
  · rw [width1007, width1007, h0]
  · rw [width1008, width1008, h0, h32]
  · rw [width1033, width1033, h0, h32, hreceiver, hversion, h.upd]

/-! ### The messages of an epoch -/

/-- The frames of a stream epoch are as many and as long. -/
theorem SourcesKept.streamMsgs_length {s t : State} (h : SourcesKept s t) {k : Nat} (hk : k < 16) (e : Nat) (force : Bool) :
    ((streamMsgs t k e force).map rtcmFrame).map List.length = ((streamMsgs s k e force).map rtcmFrame).map List.length := by
  unfold streamMsgs
  rw [h.streamSrc hk, h.srcState hk]
  have hstation (n number b : Nat) (c : Bool) :
      ((if (Machine.msgOn t k b && c) = true then [stationMsg t k n number] else []).map rtcmFrame).map List.length =
        ((if (Machine.msgOn s k b && c) = true then [stationMsg s k n number] else []).map rtcmFrame).map List.length := by
    rw [h.msgOn hk]
    split
    · simp only [List.map_cons, List.map_nil, h.stationMsg_length]
    · rfl
  split
  · simp only [List.map_append, hstation, h.ref, h.isObsEpoch hk, h.obsParts hk, h.finishObs hk, h.biasDue hk, h.biasMsg hk, h.stationDue hk]
  · simp only [List.map_append, hstation, h.ref, h.isObsEpoch hk, h.obsParts hk, h.finishObs hk, h.biasDue hk, h.biasMsg hk, h.stationDue hk]
  · rfl

theorem SourcesKept.streamMsgs_nil {s t : State} (h : SourcesKept s t) {k : Nat} (hk : k < 16) (e : Nat) (force : Bool) :
    streamMsgs t k e force = [] ↔ streamMsgs s k e force = [] := by
  have hlen := congrArg List.length (h.streamMsgs_length hk e force)
  simp only [List.length_map] at hlen
  rw [← List.length_eq_zero_iff, hlen, List.length_eq_zero_iff]

/-- The datagrams of a stream epoch are as many. -/
theorem SourcesKept.datagrams_length {s t : State} (h : SourcesKept s t) {k : Nat} (hk : k < 16) (seq seq' e : Nat) (force : Bool) :
    (datagrams t k seq ((streamMsgs t k e force).map rtcmFrame)).length =
      (datagrams s k seq' ((streamMsgs s k e force).map rtcmFrame)).length := by
  rw [Machine.datagrams_length, Machine.datagrams_length, h.fld (dgram_ne hk), h.flag (cfg_ne hk)]
  exact packFrames_length _ _ _ (h.streamMsgs_length hk e force) _ _ rfl

theorem sourcesKept_countInherited (j : Job) (s : State) : SourcesKept s (countInherited j s) where
  rd a ha := by
    unfold countInherited
    split
    · exact rd_inc_ne _ _ ha
    · rfl
  ref := by simp
  crp := by simp
  upd := by simp
  grade := by simp

theorem sourcesKept_stickyIf (c : Bool) (a bit : Nat) (s : State) : SourcesKept s (stickyIf c a bit s) := by
  unfold stickyIf
  split
  · exact ⟨fun _ _ => rfl, rfl, rfl, rfl, rfl⟩
  · exact ⟨fun _ _ => rfl, rfl, rfl, rfl, rfl⟩

/-! ### A stream epoch -/

/-- GLONASS data are held back: its bias is not known, and a message of it is on (R131). -/
def gloHeldNow (s : State) (k : Nat) : Bool :=
  decide (srcState s k ≠ .down) && decide (srcState s k ≠ .excluded) && !flag s Reg.REF_TIME_CFG 16 && (msgOn s k 1 || msgOn s k 4 || msgOn s k 5)

/-- The stream at the start of an epoch. -/
def epochBegun (k e : Nat) (s : State) : State :=
  setStream k { stream s k with gloHeld := gloHeldNow s k, force := (stream s k).force && (streamMsgs s k e (stream s k).force).isEmpty }
    (stickyIf (gloHeldNow s k) Reg.REF_STICKY 10 s)

theorem stream_setStream_same (k : Nat) (x : Stream) (s : State) : stream (setStream k x s) k = x := Tab.get_put_same _ _ _ _

theorem stream_epochBegun (k e : Nat) (s : State) : (stream (epochBegun k e s) k).gloHeld = gloHeldNow s k ∧
    (stream (epochBegun k e s) k).seq = (stream s k).seq := by
  unfold epochBegun
  rw [stream_setStream_same]
  exact ⟨rfl, rfl⟩

theorem stationMsg_stickyIf (c : Bool) (a bit : Nat) (s : State) (k n number : Nat) :
    stationMsg (stickyIf c a bit s) k n number = stationMsg s k n number := by
  unfold stickyIf
  split <;> rfl

theorem streamMsgs_stickyIf (c : Bool) (a bit : Nat) (s : State) {k : Nat} (hk : k < 16) (e : Nat) (force : Bool) :
    streamMsgs (stickyIf c a bit s) k e force = streamMsgs s k e force := by
  have h := sourcesKept_stickyIf c a bit s
  simp only [streamMsgs, h.streamSrc hk, h.srcState hk, h.ref, h.isObsEpoch hk, h.obsParts hk, h.finishObs hk, h.biasDue hk, h.biasMsg hk,
    h.stationDue hk, h.msgOn hk, stationMsg_stickyIf]

/-- What is delivered of an epoch that has messages, and what is counted. -/
def epochDelivered (k e : Nat) (frames : List (List Byte)) (s : State) : State :=
  let a := deliverRing k e frames s
  let b := deliverUdp k frames a.1
  let any := flag s (Reg.REF_STREAM_CFG k) 7 || (flag s (Reg.REF_STREAM_CFG k) 8 && decide (s.crp.mode ≠ .standby))
  if a.2 || b.2 then streamCount k 16 b.1
  else if any then perf 0x112 1 (streamCount k 0 b.1)
  else b.1

theorem encodeStream_eq {k : Nat} (hk : k < 16) (e : Nat) (s : State) : encodeStream k e s =
    if (streamMsgs s k e (stream s k).force).isEmpty then epochBegun k e s
    else epochDelivered k e ((streamMsgs s k e (stream s k).force).map rtcmFrame) (epochBegun k e s) := by
  unfold encodeStream
  have hmsgs := streamMsgs_stickyIf (gloHeldNow s k) Reg.REF_STICKY 10 s hk e (stream s k).force
  unfold gloHeldNow at hmsgs
  simp only [hmsgs]
  rfl

/-- Frames that join a queue of a port that has room for them. -/
theorem foldl_enqueue_q4 {α : Type} (n : Nat) (g : State → α → TxFrame) (l : List α) (s : State) (h : (netPort s n).q4.length + l.length ≤ 256) :
    (netPort (l.foldl (fun s d => (enqueue n 4 (g s d) s).1) s) n).q4.length = (netPort s n).q4.length + l.length := by
  induction l generalizing s with
  | nil => rfl
  | cons d l ih =>
    have hone : (netPort (enqueue n 4 (g s d) s).1 n).q4.length = (netPort s n).q4.length + 1 := by
      have hroom : (getQ (netPort s n) 4).length < depthQ 4 := by
        show (netPort s n).q4.length < 256
        simp only [List.length_cons] at h
        omega
      unfold enqueue
      dsimp only
      rw [if_pos hroom]
      simp [netPort, setPort, getQ, setQ]
    rw [List.foldl_cons, ih _ (by rw [hone]; simp only [List.length_cons] at h; omega), hone, List.length_cons]
    omega

/-- The frame that a datagram of a stream travels in. -/
def streamFrame (k n : Nat) (dst : List Byte) (s : State) (d : List Byte) : TxFrame :=
  ⟨.stream, udpFrame s n dst (fld s (Reg.REF_STREAM_UDP k) 15 0) (fld s (Reg.REF_STREAM_UDP k) 31 16) 0 d, none, 0, k, none, 0, none⟩

/-- The datagrams `l` of a stream, queued on port `n`. -/
def datagramsQueued (k n : Nat) (dst : List Byte) (l : List (List Byte)) (s : State) : State :=
  l.foldl (fun s d => (enqueue n 4 (streamFrame k n dst s d) s).1) s

theorem datagramsQueued_bank (k n : Nat) (dst : List Byte) (l : List (List Byte)) (s : State) : (datagramsQueued k n dst l s).bank = s.bank :=
  proj_foldl (·.bank) (fun s d => part_of_seen (p := .bank) (enqueue_seen n 4 (streamFrame k n dst s d) s (by simp))) l s

/-- The stream waits for no key. -/
def keyWaitless (k : Nat) (s : State) : State := setStream k { stream s k with keyWait := false } s

/-- The stream has sent `m` datagrams. -/
def seqMoved (k seq m : Nat) (s : State) : State := setStream k { stream s k with seq := (seq + m) % 2 ^ 32 } s

/-- The address that the datagrams of a stream go to. -/
def streamDst (s : State) (k : Nat) : List Byte := (List.range 4).flatMap (fun i => leBytes 4 (rd s (Reg.REF_STREAM_DST_ADDR k i)).toNat)

section
variable {s : State} {k : Nat} {frames : List (List Byte)}

theorem deliverUdp_eq (h8 : flag s (Reg.REF_STREAM_CFG k) 8 = true) (h9 : flag s (Reg.REF_STREAM_CFG k) 9 = false)
    (hmode : s.crp.mode ≠ .standby) (hport : portServes s (fld s (Reg.REF_STREAM_ROUTE k) 1 0) = true)
    (hlink : (netPort s (fld s (Reg.REF_STREAM_ROUTE k) 1 0)).link = true)
    (hroom : (netPort s (fld s (Reg.REF_STREAM_ROUTE k) 1 0)).q4.length + (datagrams s k (stream s k).seq frames).length ≤ 256) :
    deliverUdp k frames s = (seqMoved k (stream s k).seq (datagrams s k (stream s k).seq frames).length
      (datagramsQueued k (fld s (Reg.REF_STREAM_ROUTE k) 1 0) (streamDst s k) (datagrams s k (stream s k).seq frames) (keyWaitless k s)), false) := by
  have hl : datagrams (keyWaitless k s) k (stream s k).seq frames = datagrams s k (stream s k).seq frames := rfl
  have hsent : flag (datagramsQueued k (fld s (Reg.REF_STREAM_ROUTE k) 1 0) (streamDst s k) (datagrams s k (stream s k).seq frames) (keyWaitless k s))
      (Reg.REF_STREAM_CFG k) 9 = false := (flag_of_bank (datagramsQueued_bank ..) _ _).trans h9
  have hok : ¬(!portServes (keyWaitless k s) (fld s (Reg.REF_STREAM_ROUTE k) 1 0) || !(netPort (keyWaitless k s) (fld s (Reg.REF_STREAM_ROUTE k) 1 0)).link ||
      decide (256 < (netPort (keyWaitless k s) (fld s (Reg.REF_STREAM_ROUTE k) 1 0)).q4.length +
        (datagrams (keyWaitless k s) k (stream s k).seq frames).length)) = true := by
    rw [hl, show portServes (keyWaitless k s) = portServes s from rfl, show netPort (keyWaitless k s) = netPort s from rfl, hport, hlink]
    simpa using hroom
  unfold deliverUdp
  extract_lets x n u l dst udp v w src
  have hsent' : ¬flag v (Reg.REF_STREAM_CFG k) 9 = true := ne_true_of_eq_false hsent
  have hw : w = v := if_neg hsent'
  rw [if_neg (by simp [h8, hmode]), if_neg (by simp [h9])]
  refine (if_neg hok).trans ?_
  have hsrc : src = stream v k := congrArg (fun z => stream z k) hw
  rw [hw, hsrc]
  rfl

theorem stream_seqMoved (k seq m : Nat) (s : State) : (stream (seqMoved k seq m s) k).seq = (seq + m) % 2 ^ 32 := by
  unfold seqMoved
  rw [stream_setStream_same]

theorem datagramsQueued_q4 {k n : Nat} {dst : List Byte} {l : List (List Byte)} {s : State} (h : (netPort s n).q4.length + l.length ≤ 256) :
    (netPort (datagramsQueued k n dst l s) n).q4.length = (netPort s n).q4.length + l.length :=
  foldl_enqueue_q4 n (streamFrame k n dst) l s h

/-- A stream without a ring delivers its epoch by datagram, and counts it. -/
theorem epochDelivered_eq (e : Nat) (h7 : flag s (Reg.REF_STREAM_CFG k) 7 = false) (h8 : flag s (Reg.REF_STREAM_CFG k) 8 = true)
    (hmode : s.crp.mode ≠ .standby) (hsent : (deliverUdp k frames s).2 = false) :
    epochDelivered k e frames s = perf 0x112 1 (streamCount k 0 (deliverUdp k frames s).1) := by
  have hring : deliverRing k e frames s = (s, false) := by
    unfold deliverRing
    rw [if_pos (by simp [h7])]
  unfold epochDelivered
  simp only [hring, hsent, h8, h7]
  rw [if_neg (by decide), if_pos (by simpa using hmode)]

theorem fld_incHalf (a : Nat) (s : State) : fld (incHalf a 0 s) a 15 0 = min (fld s a 15 0 + 1) 0xFFFF := by
  unfold incHalf
  rw [fld, rd_wr_same, bits_setBits_same _ (by decide) (by omega)]

theorem counted_stream (k j : Nat) (s : State) : stream (perf 0x112 1 (streamCount k 0 s)) j = stream s j := rfl
theorem counted_port (k n : Nat) (s : State) : netPort (perf 0x112 1 (streamCount k 0 s)) n = netPort s n := rfl
theorem counted_fld (k : Nat) (s : State) : fld (perf 0x112 1 (streamCount k 0 s)) (Reg.REF_STREAM_COUNT k) 15 0 =
    min (fld s (Reg.REF_STREAM_COUNT k) 15 0 + 1) 0xFFFF := fld_incHalf _ s
theorem seqMoved_port (k seq m n : Nat) (s : State) : netPort (seqMoved k seq m s) n = netPort s n := rfl
theorem seqMoved_bank (k seq m : Nat) (s : State) : (seqMoved k seq m s).bank = s.bank := rfl
theorem keyWaitless_port (k n : Nat) (s : State) : netPort (keyWaitless k s) n = netPort s n := rfl
theorem keyWaitless_bank (k : Nat) (s : State) : (keyWaitless k s).bank = s.bank := rfl

theorem fld_of_bank {s t : State} (h : t.bank = s.bank) (a hi lo : Nat) : fld t a hi lo = fld s a hi lo := by rw [fld, fld, rd, rd, h]

theorem epochBegun_keeps (k e : Nat) (s : State) : (epochBegun k e s).bank = s.bank ∧ (epochBegun k e s).crp = s.crp ∧
    (epochBegun k e s).net = s.net ∧ portServes (epochBegun k e s) = portServes s := by
  unfold epochBegun stickyIf
  split <;> exact ⟨rfl, rfl, rfl, rfl⟩

/-- R128, R136: a stream epoch with messages, delivered by datagram. -/
theorem encodeStream_sends (e : Nat) (hk : k < 16) (hmsgs : streamMsgs s k e (stream s k).force ≠ [])
    (h7 : flag s (Reg.REF_STREAM_CFG k) 7 = false) (h8 : flag s (Reg.REF_STREAM_CFG k) 8 = true)
    (h9 : flag s (Reg.REF_STREAM_CFG k) 9 = false) (hmode : s.crp.mode ≠ .standby) {n m : Nat} (hn : fld s (Reg.REF_STREAM_ROUTE k) 1 0 = n)
    (hm : (datagrams s k (stream s k).seq ((streamMsgs s k e (stream s k).force).map rtcmFrame)).length = m)
    (hport : portServes s n = true) (hlink : (netPort s n).link = true) (hroom : (netPort s n).q4.length + m ≤ 256) :
    (stream (encodeStream k e s) k).seq = ((stream s k).seq + m) % 2 ^ 32 ∧
      (netPort (encodeStream k e s) n).q4.length = (netPort s n).q4.length + m ∧
      fld (encodeStream k e s) (Reg.REF_STREAM_COUNT k) 15 0 = min (fld s (Reg.REF_STREAM_COUNT k) 15 0 + 1) 0xFFFF := by
  subst hn hm
  obtain ⟨hbank, hcrp, hnet, hserves⟩ := epochBegun_keeps k e s
  have hseq := (stream_epochBegun k e s).2
  have hdatagrams : (datagrams (epochBegun k e s) k (stream (epochBegun k e s) k).seq ((streamMsgs s k e (stream s k).force).map rtcmFrame)).length =
      (datagrams s k (stream s k).seq ((streamMsgs s k e (stream s k).force).map rtcmFrame)).length := by
    rw [datagrams_length, datagrams_length, fld_of_bank hbank, flag_of_bank hbank]
  have hport' : netPort (epochBegun k e s) = netPort s := by
    funext n
    rw [netPort, netPort, hnet]
  have hudp := deliverUdp_eq (s := epochBegun k e s) (frames := (streamMsgs s k e (stream s k).force).map rtcmFrame)
    ((flag_of_bank hbank _ _).trans h8) ((flag_of_bank hbank _ _).trans h9) (by rw [hcrp]; exact hmode)
    (by rw [fld_of_bank hbank, hserves]; exact hport) (by rw [fld_of_bank hbank, hport']; exact hlink)
    (by rw [fld_of_bank hbank, hport', hdatagrams]; exact hroom)
  rw [encodeStream_eq hk, if_neg (by simpa using hmsgs), epochDelivered_eq e ((flag_of_bank hbank _ _).trans h7) ((flag_of_bank hbank _ _).trans h8)
    (by rw [hcrp]; exact hmode) (congrArg Prod.snd hudp), hudp]
  refine ⟨?_, ?_, ?_⟩
  · rw [counted_stream, stream_seqMoved, hdatagrams, hseq]
  · rw [counted_port, seqMoved_port, fld_of_bank hbank, datagramsQueued_q4, hdatagrams, keyWaitless_port, hport']
    rw [hdatagrams, keyWaitless_port, hport']
    exact hroom
  · rw [counted_fld, fld_of_bank (seqMoved_bank ..), fld_of_bank (datagramsQueued_bank ..), fld_of_bank (keyWaitless_bank ..), fld_of_bank hbank]

end

/-! ### Held GLONASS data -/

/-- A stream's GLONASS data are held back, with its indication. -/
def GloHeld (k : Nat) (s : State) : Prop := (stream s k).gloHeld = true ∧ stkSet s Reg.REF_STICKY 10

section
variable {k : Nat} {s t : State}

theorem GloHeld.of_kept (h : GloHeld k s) (href : t.ref = s.ref) (hstk : stk t Reg.REF_STICKY = stk s Reg.REF_STICKY) : GloHeld k t := by
  rwa [GloHeld, stream, href, stkSet, hstk]

theorem GloHeld.sticky (h : GloHeld k s) (a bit : Nat) : GloHeld k (sticky a bit s) := ⟨h.1, sticky_holds a bit s _ _ h.2⟩

theorem GloHeld.setStream (h : GloHeld k s) {x : Stream} (hx : x.gloHeld = true) : GloHeld k (setStream k x s) :=
  ⟨by rwa [stream_setStream_same], h.2⟩

theorem GloHeld.rxRecord (h : GloHeld k s) (ring kind source tns : Nat) (data : List Byte) : GloHeld k (rxRecord ring kind source tns data s).1 :=
  h.of_kept (part_of_seen (p := .ref) (rxRecord_seen _ _ _ _ _ s (by simp)))
    (stk_of_seen (rxRecord_seen _ _ _ _ _ s ((le_butStk _ _ _ _ _ _).2 (by decide))))

theorem GloHeld.deliverRing (h : GloHeld k s) (e : Nat) (frames : List (List Byte)) : GloHeld k (deliverRing k e frames s).1 := by
  unfold Machine.deliverRing
  split
  · exact h
  · dsimp only
    split
    · exact h.rxRecord ..
    · exact (h.rxRecord ..).sticky _ _

theorem GloHeld.enqueue (h : GloHeld k s) (n : Nat) (f : TxFrame) : GloHeld k (enqueue n 4 f s).1 :=
  h.of_kept (part_of_seen (p := .ref) (enqueue_seen n 4 f s (by simp)))
    (stk_of_seen (enqueue_seen n 4 f s ((le_butStk _ _ _ _ _ _).2 (by decide))))

theorem GloHeld.deliverUdp (h : GloHeld k s) (frames : List (List Byte)) : GloHeld k (deliverUdp k frames s).1 := by
  unfold Machine.deliverUdp
  extract_lets x n u l dst udp v w src
  have hu : GloHeld k u := h.setStream h.1
  have hv : GloHeld k v := List.foldlRecOn (motive := GloHeld k) l _ hu fun t ht d _ => ht.enqueue n _
  have hw : GloHeld k w := by
    by_cases htag : flag v (Reg.REF_STREAM_CFG k) 9 = true
    · rw [show w = perf 0x127 l.length v from if_pos htag]
      exact ⟨hv.1, perf_holds _ _ v _ _ hv.2⟩
    · rw [show w = v from if_neg htag]
      exact hv
  split
  · exact h
  split
  · exact (h.setStream (x := { x with keyWait := true }) h.1).sticky _ _
  split
  · exact hu.sticky _ _
  · exact hw.setStream hw.1

theorem GloHeld.streamCount (h : GloHeld k s) (j lo : Nat) : GloHeld k (streamCount j lo s) := ⟨h.1, h.2⟩

theorem GloHeld.epochDelivered (h : GloHeld k s) (e : Nat) (frames : List (List Byte)) : GloHeld k (epochDelivered k e frames s) := by
  unfold Machine.epochDelivered
  have hb := (h.deliverRing e frames).deliverUdp frames
  dsimp only
  split
  · exact hb.streamCount _ _
  split
  · exact ⟨(hb.streamCount k 0).1, perf_holds _ _ _ _ _ (hb.streamCount k 0).2⟩
  · exact hb

/-- R131: where GLONASS data are held back, the epoch says so. -/
theorem encodeStream_gloHeld (e : Nat) (hk : k < 16) (hheld : gloHeldNow s k = true) : GloHeld k (encodeStream k e s) := by
  have hbegun : GloHeld k (epochBegun k e s) := by
    refine ⟨(stream_epochBegun k e s).1.trans hheld, ?_⟩
    show stkSet (stickyIf (gloHeldNow s k) Reg.REF_STICKY 10 s) _ _
    rw [stickyIf, if_pos hheld]
    exact sticky_sets _ (by decide) s
  rw [encodeStream_eq hk]
  split
  · exact hbegun
  · exact hbegun.epochDelivered e _

end

/-! ### The commands -/

theorem execEncode_next {s : State} {j : Job} {k e : Nat} (hj : pickJob s 3 (fun _ => true) = some j) (hkind : j.kind = .encode)
    (hwork : j.work = .stream k e) : exec .encode s = .next (endJob j.id
      (if streamOn (countInherited j s) k then encodeStream k e (countInherited j s) else countInherited j s)) := by
  refine congrArg Host.Outcome.next ((withJob_of_pick hj (by simp [hkind])).trans ?_)
  rw [hwork]

theorem countInherited_net (j : Job) (s : State) : (countInherited j s).net = s.net := part_of_seen (p := .net) (countInherited_seen j s (by simp))
theorem endJob_ref (id : Nat) (s : State) : (endJob id s).ref = s.ref := part_of_seen (p := .ref) (endJob_seen id s (by simp))
theorem endJob_net (id : Nat) (s : State) : (endJob id s).net = s.net := part_of_seen (p := .net) (endJob_seen id s (by simp))

theorem rd_endJob_count {k : Nat} (hk : k < 16) (id : Nat) (s : State) :
    rd (endJob id s) (Reg.REF_STREAM_COUNT k) = rd s (Reg.REF_STREAM_COUNT k) :=
  rd_of_seen (endJob_seen id s ((le_butReg _ _ _ _ _ _).2 ((by decide : ∀ k < 16, among [dspCnt] (Reg.REF_STREAM_COUNT k) = false) k hk)))

theorem encoded_jobs {s : State} (j : Job) (k e : Nat) (c : Bool) : (endJob j.id
    (if c then encodeStream k e (countInherited j s) else countInherited j s)).dsp.jobs = s.dsp.jobs.filter (fun x => x.id ≠ j.id) := by
  rw [endJob_jobs]
  split
  · rw [show (encodeStream k e (countInherited j s)).dsp = (countInherited j s).dsp from
      part_of_seen (p := .dsp) (encodeStream_seen k e _ (by simp)), countInherited_jobs]
  · rw [countInherited_jobs]

/-- R127: a stream epoch that falls due on a unit that is active. -/
def epochTaken (k e : Nat) (s : State) : State := setStream k { stream s k with last := e } s

theorem execStreamEpochDue_next {s : State} {k e : Nat} (hon : streamOn s k = true) (hdue : streamDue s k = some e)
    (hsrc : srcState s k = .inService) (hmode : s.crp.mode ≠ .standby) : exec (.streamEpochDue k) s = .next
      (if (flowJobs s (1024 + k)).isEmpty then
        addJob .encode (1024 + k) (levelFor (epochTaken k e s) .encode 0) ((e * tNs : Nat) : Int) 0 none (.stream k e) none (epochTaken k e s)
      else inc (Reg.DSP_CNT 4) 1 (sticky Reg.DSP_STICKY 2 (streamCount k 16 (epochTaken k e s)))) := by
  have hsrc' : srcState (epochTaken k e s) k = .inService := hsrc
  have hup : ¬(srcState (epochTaken k e s) k = .down ∨ srcState (epochTaken k e s) k = .excluded) := by simp [hsrc']
  refine congrArg Host.Outcome.next ?_
  rw [if_neg (by simp [hon]), hdue]
  exact (if_neg hup).trans (if_neg hmode)

theorem lt_of_streamOn {s : State} {k : Nat} (h : streamOn s k = true) : k < 16 := by
  unfold streamOn at h
  simp only [Bool.and_eq_true, decide_eq_true_eq] at h
  exact h.1.1

/-- The counters of a skipped epoch. -/
def epochSkipped (k : Nat) (s : State) : State := inc (Reg.DSP_CNT 4) 1 (sticky Reg.DSP_STICKY 2 (streamCount k 16 s))

theorem fld_incHalf_high (a : Nat) (s : State) : fld (incHalf a 16 s) a 31 16 = min (fld s a 31 16 + 1) 0xFFFF := by
  unfold incHalf
  rw [fld, rd_wr_same, bits_setBits_same _ (by decide) (by omega)]

theorem epochSkipped_counts {k : Nat} (hk : k < 16) (s : State) : (epochSkipped k s).ref = s.ref ∧ (epochSkipped k s).dsp = s.dsp ∧
    stkSet (epochSkipped k s) Reg.DSP_STICKY 2 ∧ rd (epochSkipped k s) (Reg.DSP_CNT 4) = satAdd (rd s (Reg.DSP_CNT 4)) 1 ∧
    fld (epochSkipped k s) (Reg.REF_STREAM_COUNT k) 31 16 = min (fld s (Reg.REF_STREAM_COUNT k) 31 16 + 1) 0xFFFF := by
  have hne : Reg.REF_STREAM_COUNT k ≠ Reg.DSP_CNT 4 := by simp only [Reg.REF_STREAM_COUNT, Reg.DSP_CNT]; omega
  refine ⟨rfl, rfl, inc_holds _ _ _ _ _ (sticky_sets _ (by decide) _), ?_, ?_⟩
  · rw [epochSkipped, rd_inc_same]
    exact congrArg (satAdd · 1) (rd_wr_ne _ _ hne.symm)
  · rw [epochSkipped, fld, rd_inc_ne _ _ hne]
    exact fld_incHalf_high _ s

end Sys2Proof.Machine
end

section
open Sys2Proof Sys2Proof.Machine Sys2Proof.Safety

/-- Settles O19: what a stream epoch is made of is none of the dispatcher's counters, and its datagrams are as many as its frames'
lengths make them. -/
theorem streamsComplete : Obligations.StreamsComplete := by
  unfold Obligations.StreamsComplete
  refine ⟨fun s k e hon hdue hsrc hmode hflow => ?_, fun s k e hon hdue hsrc hmode hflow => ?_, fun s j k e hk hj hkind hwork hnone => ?_,
    fun s j k e => ?_, fun s j k e hk hj hkind hwork hon hsrc htime hmsg => ?_⟩
  · have hempty : (flowJobs s (1024 + k)).isEmpty = true := by simp [hflow]
    refine completes_of ((execStreamEpochDue_next hon hdue hsrc hmode).trans (congrArg Host.Outcome.next (if_pos hempty))) ⟨?_, ?_, ?_⟩
    · rw [stream, show (addJob _ _ _ _ _ _ _ _ (epochTaken k e s)).ref = (epochTaken k e s).ref from
        part_of_seen (p := .ref) (addJob_seen _ _ _ _ _ _ _ _ _ (by simp))]
      exact congrArg Stream.last (stream_setStream_same _ _ _)
    · rw [addJob_jobs, List.length_append]
      rfl
    · rw [addJob_jobs, List.any_append]
      simp
  · have hheld : ¬(flowJobs s (1024 + k)).isEmpty = true := by simpa using hflow
    obtain ⟨href, hdsp, hstk, hcnt, hcount⟩ := epochSkipped_counts (lt_of_streamOn hon) (epochTaken k e s)
    refine completes_of (t := epochSkipped k (epochTaken k e s))
      ((execStreamEpochDue_next hon hdue hsrc hmode).trans (congrArg Host.Outcome.next (if_neg hheld))) ⟨?_, congrArg Dsp.jobs hdsp, hstk, hcnt, hcount⟩
    rw [stream, href]
    exact congrArg Stream.last (stream_setStream_same _ _ _)
  · have hkept := sourcesKept_countInherited j s
    refine completes_of (execEncode_next hj hkind hwork) ⟨encoded_jobs j k e _, ?_⟩
    have hcount : rd (countInherited j s) (Reg.REF_STREAM_COUNT k) = rd s (Reg.REF_STREAM_COUNT k) := hkept.rd _ (count_ne hk)
    rw [rd_endJob_count hk]
    split
    next hon =>
      obtain hoff | hmsgs := hnone
      · rw [hkept.streamOn hk, hoff] at hon
        cases hon
      · have hstream : stream (countInherited j s) k = stream s k := by rw [stream, stream, hkept.ref]
        rw [encodeStream_eq hk, hstream, if_pos (by rw [(hkept.streamMsgs_nil hk e _).2 hmsgs]; rfl), rd, (epochBegun_keeps k e _).1]
        exact hcount
    next => exact hcount
  · intro n msgs hk hj hkind hwork hon hmsgs hmode h7 h8 h9 hport hlink hroom
    have hkept := sourcesKept_countInherited j s
    have hstream : stream (countInherited j s) k = stream s k := by rw [stream, stream, hkept.ref]
    have hserves : portServes (countInherited j s) n = portServes s n := by
      obtain ⟨b, hb⟩ := countInherited_eq j s
      rw [hb]
      rfl
    have hnet (m : Nat) : netPort (countInherited j s) m = netPort s m := by rw [netPort, netPort, countInherited_net]
    have hcount : fld (countInherited j s) (Reg.REF_STREAM_COUNT k) 15 0 = fld s (Reg.REF_STREAM_COUNT k) 15 0 := hkept.fld (count_ne hk) _ _
    obtain ⟨hseq, hq4, hsent⟩ := encodeStream_sends (s := countInherited j s) (n := n)
      (m := (datagrams s k (stream s k).seq (msgs.map rtcmFrame)).length) e hk
      (by rw [hstream]; exact fun h => hmsgs ((hkept.streamMsgs_nil hk e _).1 h))
      ((hkept.flag (cfg_ne hk) 7).trans h7) ((hkept.flag (cfg_ne hk) 8).trans h8) ((hkept.flag (cfg_ne hk) 9).trans h9)
      (by rw [hkept.crp]; exact hmode) (hkept.fld (route_ne hk) 1 0) (by rw [hstream]; exact hkept.datagrams_length hk _ _ e _)
      (by rw [hserves]; exact hport) (by rw [hnet]; exact hlink) (by rw [hnet]; exact hroom)
    rw [hstream] at hseq
    rw [hnet] at hq4
    rw [hcount] at hsent
    refine completes_of (execEncode_next hj hkind hwork) ⟨encoded_jobs j k e _, ?_, ?_, ?_⟩
    · rw [stream, endJob_ref, if_pos (by rw [hkept.streamOn hk]; exact hon)]
      exact hseq
    · rw [netPort, endJob_net, if_pos (by rw [hkept.streamOn hk]; exact hon)]
      exact hq4
    · rw [fld, rd_endJob_count hk, if_pos (by rw [hkept.streamOn hk]; exact hon)]
      exact hsent
  · have hkept := sourcesKept_countInherited j s
    have hheld : gloHeldNow (countInherited j s) k = true := by
      simp [gloHeldNow, hkept.srcState hk, hsrc, hkept.flag (show Reg.REF_TIME_CFG ≠ _ by decide), htime, hkept.msgOn hk, hmsg]
    obtain ⟨hglo, hstk⟩ := encodeStream_gloHeld e hk hheld
    refine completes_of (execEncode_next hj hkind hwork) ⟨encoded_jobs j k e _, ?_, ?_⟩
    · rw [stream, endJob_ref, if_pos (by rw [hkept.streamOn hk]; exact hon)]
      exact hglo
    · rw [stkSet, stk_of_seen (endJob_seen j.id _ ((le_butStk _ _ _ _ _ _).2 (by decide))), if_pos (by rw [hkept.streamOn hk]; exact hon)]
      exact hstk

end
